-- ==== Sys2Proof/Word.lean ====
section
/-! DEFINITION. The plain types of the model: bytes and words as the manual's little-endian quantities (R7), and
the two sparse containers every part of State is built from: byte memory and keyed tables. -/

namespace Sys2Proof

/-- One byte of memory (R7). -/
abbrev Byte := BitVec 8

/-- A 32-bit register or word (R348). -/
abbrev Word := BitVec 32

/-- A 64-bit scalar of a Vane rank (R158) or a 64-bit register pair. -/
abbrev Dword := BitVec 64

/-- Byte memory: (address, byte) pairs, addresses strictly rising, no byte equal to 0, which is what an
unlisted address reads as (R612: memory reads zero after a reset). -/
abbrev Memory := List Host.Cell

/-- A table keyed by a number, keys strictly rising. -/
abbrev Tab (α : Type) := List (Nat × α)

end Sys2Proof
end

