-- ==== Sys2Proof/Syntax.lean ====
section
/-! DEFINITION. The commands of the block: one constructor for each row of spec/opcode_table.json, with the objects
the command names and whatever arrives from outside with it. Data that the outside returns for a step's reads of
host memory or of another device is an operand, since the block holds neither. -/

namespace Sys2Proof

/-- What memory outside the device returned for the reads of a step: bytes by virtual address, whether the access
was refused by its target (R414, R417), whether poison came back, and how long remote reads took. -/
structure Ext where
  bytes : Memory
  refused : Bool
  poison : Bool
  /-- latency of each remote read of the step, in 100 ns (R458) -/
  lats : List Nat
  /-- errors the code of a tile's storage finds in 64-bit words the step reads (R107): in program memory or in tile SRAM,
  the word's address (tile × 2^16 or 2^22 + offset), and whether it is uncorrectable -/
  ecc : List (Bool × Nat × Bool) := []
  deriving DecidableEq, Repr

/-- Elements of a chunk as a message of a reduction carries them, with the numeric flags met so far (R62, R245). -/
structure RedData where
  flags : Nat
  bytes : List Byte
  deriving DecidableEq, Repr

/-- A chunk of 1,024 elements of a reduction's result as it arrives (R246). -/
structure RedChunk where
  chunk : Nat
  data : RedData
  deriving DecidableEq, Repr

/-- A descriptor's operation and the context records read for it (R380, R445). -/
structure RecordsFor where
  op : Nat
  records : List Nat
  deriving DecidableEq, Repr

/-- How a read returned (R455, R637): what the channel's code found, and the entries its queue held at issue. -/
structure ReadReturn where
  err : Nat
  queued : Nat
  deriving DecidableEq, Repr

/-- A request that has aged (R454): its local offset, and 0 unless it is a read. -/
structure AgedRequest where
  off : Nat
  read : Nat
  deriving DecidableEq, Repr

/-- A pond's evaluation period and the latencies of its probe reads (R458). -/
structure ProbePeriod where
  pond : Nat
  lats : List Nat
  deriving DecidableEq, Repr

/-- A lane of a sub-link, at this device's transmitter or with `rx` at its receiver (R471). -/
structure LaneEnd where
  lane : Nat
  rx : Bool
  deriving DecidableEq, Repr

/-- A confirmation's members, and those the leader had reported (R507). -/
structure Confirmation where
  bitmap : Nat
  reported : Nat
  deriving DecidableEq, Repr

/-- Whether a packet is a response, and whether it is of the SYS class (R485, R493). -/
structure PacketClass where
  resp : Bool
  sys : Bool
  deriving DecidableEq, Repr

/-- One command: a step of the manual's table of operations and events. -/
inductive Instr where
  /-- DESCRIPTOR_FETCH (R356): The device fetches a whole descriptor from a submission ring once its slots lie before tail and the completion queue has room. -/
  | descriptorFetch (fn : Nat) (sq : Nat) (desc : Nat)
  /-- DOORBELL_SNOOP (R371): In cached mode, a host write snoops a doorbell line away, and the device re-reads the line within 400 ns and examines every tail in it. -/
  | doorbellSnoop (line : Nat) (data : Nat)
  /-- DOORBELL_POLL (R372): In polled mode, the poll interval of a doorbell line expires and the device reads the line, adjusting the interval. -/
  | doorbellPoll (line : Nat) (data : Nat)
  /-- CQ_ROOM_POLL (R357): While a completion queue has no room, the device re-reads its head word every 1 µs. -/
  | cqRoomPoll (fn : Nat) (cq : Nat) (word : Nat)
  /-- CQ_STALLED (R357): After 100 ms without completion room, the device posts CQ_STALLED once for the stall. -/
  | cqStalled (fn : Nat) (cq : Nat)
  /-- EQ_HEAD_POLL (R368): While discarded events are counted, the device reads the event queue head word every 1 µs. -/
  | eqHeadPoll (fn : Nat) (word : Nat)
  /-- OP_COMPLETE (R215): An operation ends; once its writes reach their homes the completion entry is written and its event signalled. -/
  | opComplete (op : Nat)
  /-- IRQ_DELAY_EXPIRY (R373): irq_delay_us after the first counted entry, the queue's interrupt is sent. -/
  | irqDelayExpiry (fn : Nat) (cq : Nat)
  /-- EVENT_WAIT_RECHECK (R383): Every 10 µs the device rechecks each pending event wait and releases descriptors whose wait is met. -/
  | eventWaitRecheck (op : Nat)
  /-- SET_CTX_TABLE (R354): Set-up command naming the function's table of context records. -/
  | setCtxTable (fn : Nat)
  /-- CREATE_EQ (R354): Set-up command creating the function's event queue. -/
  | createEq (fn : Nat)
  /-- DESTROY_EQ (R354): Set-up command destroying the event queue. -/
  | destroyEq (fn : Nat)
  /-- CREATE_CQ (R354): Set-up command creating a completion queue with its interrupt settings. -/
  | createCq (fn : Nat)
  /-- DESTROY_CQ (R354): Set-up command destroying a completion queue. -/
  | destroyCq (fn : Nat)
  /-- CREATE_SQ (R354): Set-up command creating a submission queue, negotiating its version, assigning a Newt cluster and a doorbell mode. -/
  | createSq (fn : Nat) (record : Nat)
  /-- DESTROY_SQ (R354): Set-up command that stops fetching from a submission queue at once. -/
  | destroySq (fn : Nat)
  /-- DESTROY_SQ_DONE (R354): When every descriptor fetched from the ring has completed, DESTROY_SQ ends and clears any loss of the context. -/
  | destroySqDone (fn : Nat)
  /-- NOP (R360): Descriptor that completes with SUCCESS once its wait is met. -/
  | nop (op : Nat)
  /-- FLUME_COPY (R217): Descriptor copying rows of bytes between memory and tile SRAM on a Flume engine. -/
  | flumeCopy (op : Nat)
  /-- FLUME_SEGMENT_DONE (R216): A Flume engine finishes one 4 KiB destination segment of an active copy and picks the next. -/
  | flumeSegmentDone (op : Nat) (seg : Nat) (ext : Ext)
  /-- LOFT_PREFETCH (R209): Descriptor in prefetch mode bringing a range of lines into the loft under its hint. -/
  | loftPrefetch (op : Nat)
  /-- LOFT_DEMOTE (R209): Descriptor in demote mode making present lines of a range least recently used. -/
  | loftDemote (op : Nat)
  /-- MILL_GEMM (R121): Mill-op descriptor for a dense matrix product on a Millstone tile group. -/
  | millGemm (op : Nat) (ext : Ext)
  /-- MILL_GGEMM (R134): Mill-op descriptor for grouped products over row ranges for expert routing. -/
  | millGgemm (op : Nat) (ext : Ext)
  /-- MILL_ATTEND (R145): Mill-op descriptor for two-pass paged attention over KV folios. -/
  | millAttend (op : Nat) (ext : Ext)
  /-- MILL_PACK (R148): Mill-op descriptor for format conversion and re-layout. -/
  | millPack (op : Nat)
  /-- FILL_LANDED (R92): All bytes a prologue fill declares for a tile SRAM page have landed and the page's scoreboard bit is set again. -/
  | fillLanded (op : Nat) (rank : Nat) (b : Bool) (seq : Nat) (half : Nat) (ext : Ext)
  /-- KSPLIT_DELIVERY (R116): A ksplit part's finished accumulators arrive at the home rank and are added before its drain. -/
  | ksplitDelivery (op : Nat) (rank : Nat) (ext : Ext)
  /-- MILL_BLOCK_DONE (R98): A tile's output block completes its last k-step and its drain begins in the other accumulator set. -/
  | millBlockDone (op : Nat) (rank : Nat) (ext : Ext)
  /-- WALK_DONE (R401): A page walk ends with a translation or a fault of a given cause and level. -/
  | walkDone (die : Nat) (fn : Nat) (slot : Nat) (va : Nat) (tile : Nat) (op : Nat)
  /-- VANE_LOAD (R188): Descriptor copying instructions into the program memory of a range of Vane ranks. -/
  | vaneLoad (op : Nat) (ext : Ext)
  /-- VANE_RUN (R189): Descriptor queuing a Vane program run on a range of Vane ranks. -/
  | vaneRun (op : Nat)
  /-- VANE_RUN_START (R191): When every rank's tile is reserved, the run starts on all ranks together. -/
  | vaneRunStart (op : Nat)
  /-- VANE_RUN_COMPLETE (R192): When every rank has halted and every transfer has completed, the run completes. -/
  | vaneRunComplete (op : Nat)
  /-- VANE_TIMEOUT (R193): A rank that has run max_cycles clocks without halting raises VANE_TIMEOUT. -/
  | vaneTimeout (op : Nat) (rank : Nat)
  /-- TRANSFER_DONE (R176): An outstanding MGET, MPUT or MSEND transfer of a rank completes. -/
  | transferDone (op : Nat) (rank : Nat) (id : Nat) (ext : Ext)
  /-- MSEND_LANDED (R180): Every byte of an MSEND has landed and the destination's sync counter is incremented. -/
  | msendLanded (op : Nat) (rank : Nat) (id : Nat)
  /-- VANE_NOP (R166): Vane instruction doing nothing. -/
  | vaneNop (op : Nat) (rank : Nat)
  /-- HALT (R192): Vane instruction ending the rank. -/
  | halt (op : Nat) (rank : Nat)
  /-- TRAP (R166): Vane instruction raising VANE_TRAP with a code. -/
  | trap (op : Nat) (rank : Nat)
  /-- FENCE (R166): Vane instruction waiting until every transfer of the rank is complete. -/
  | fence (op : Nat) (rank : Nat)
  /-- BR (R166): Vane unconditional relative branch. -/
  | br (op : Nat) (rank : Nat)
  /-- BEQ (R166): Vane branch if two scalars are equal. -/
  | beq (op : Nat) (rank : Nat)
  /-- BNE (R166): Vane branch if two scalars differ. -/
  | bne (op : Nat) (rank : Nat)
  /-- BLT (R166): Vane branch if signed less than. -/
  | blt (op : Nat) (rank : Nat)
  /-- BGE (R166): Vane branch if signed greater or equal. -/
  | bge (op : Nat) (rank : Nat)
  /-- BLTU (R166): Vane branch if unsigned less than. -/
  | bltu (op : Nat) (rank : Nat)
  /-- JAL (R166): Vane jump and link. -/
  | jal (op : Nat) (rank : Nat)
  /-- JR (R166): Vane jump to the address in a scalar register. -/
  | jr (op : Nat) (rank : Nat)
  /-- BANY (R166): Vane branch if a predicate has any bit set. -/
  | bany (op : Nat) (rank : Nat)
  /-- BNONE (R166): Vane branch if a predicate is zero. -/
  | bnone (op : Nat) (rank : Nat)
  /-- SRD (R167): Vane instruction reading a special value into a scalar register. -/
  | srd (op : Nat) (rank : Nat)
  /-- WAITC (R181): Vane instruction waiting until a sync counter reaches k and subtracting k. -/
  | waitc (op : Nat) (rank : Nat)
  /-- SADD (R166): Vane scalar add. -/
  | sadd (op : Nat) (rank : Nat)
  /-- SSUB (R166): Vane scalar subtract. -/
  | ssub (op : Nat) (rank : Nat)
  /-- SMUL (R166): Vane scalar multiply, low 64 bits. -/
  | smul (op : Nat) (rank : Nat)
  /-- SAND (R166): Vane scalar bitwise AND. -/
  | sand (op : Nat) (rank : Nat)
  /-- SOR (R166): Vane scalar bitwise OR. -/
  | sor (op : Nat) (rank : Nat)
  /-- SXOR (R166): Vane scalar bitwise XOR. -/
  | sxor (op : Nat) (rank : Nat)
  /-- SSHL (R166): Vane scalar shift left. -/
  | sshl (op : Nat) (rank : Nat)
  /-- SSHR (R166): Vane scalar logical shift right. -/
  | sshr (op : Nat) (rank : Nat)
  /-- SSRA (R166): Vane scalar arithmetic shift right. -/
  | ssra (op : Nat) (rank : Nat)
  /-- SADDI (R166): Vane scalar add immediate. -/
  | saddi (op : Nat) (rank : Nat)
  /-- SMOVI (R166): Vane scalar move sign-extended immediate. -/
  | smovi (op : Nat) (rank : Nat)
  /-- SMOVHI (R166): Vane scalar move immediate into the upper 32 bits. -/
  | smovhi (op : Nat) (rank : Nat)
  /-- SLD (R166): Vane scalar load of 8 bytes from tile SRAM. -/
  | sld (op : Nat) (rank : Nat)
  /-- SST (R166): Vane scalar store of 8 bytes to tile SRAM. -/
  | sst (op : Nat) (rank : Nat)
  /-- SSLT (R166): Vane scalar set if signed less than. -/
  | sslt (op : Nat) (rank : Nat)
  /-- VADD (R168): Vane FP32 vector add. -/
  | vadd (op : Nat) (rank : Nat)
  /-- VSUB (R168): Vane FP32 vector subtract. -/
  | vsub (op : Nat) (rank : Nat)
  /-- VMUL (R168): Vane FP32 vector multiply. -/
  | vmul (op : Nat) (rank : Nat)
  /-- VFMA (R168): Vane FP32 fused multiply-add. -/
  | vfma (op : Nat) (rank : Nat)
  /-- VFMS (R168): Vane FP32 fused multiply-subtract. -/
  | vfms (op : Nat) (rank : Nat)
  /-- VMIN (R168): Vane FP32 vector minimum. -/
  | vmin (op : Nat) (rank : Nat)
  /-- VMAX (R168): Vane FP32 vector maximum. -/
  | vmax (op : Nat) (rank : Nat)
  /-- VABS (R168): Vane vector clearing bit 31. -/
  | vabs (op : Nat) (rank : Nat)
  /-- VNEG (R168): Vane vector inverting bit 31. -/
  | vneg (op : Nat) (rank : Nat)
  /-- VDIV (R168): Vane FP32 correctly rounded divide. -/
  | vdiv (op : Nat) (rank : Nat)
  /-- VSQRT (R168): Vane FP32 correctly rounded square root. -/
  | vsqrt (op : Nat) (rank : Nat)
  /-- VADDS (R168): Vane FP32 add of a scalar to each lane. -/
  | vadds (op : Nat) (rank : Nat)
  /-- VMULS (R168): Vane FP32 multiply of each lane by a scalar. -/
  | vmuls (op : Nat) (rank : Nat)
  /-- VFMAS (R168): Vane FP32 fused multiply by scalar and add. -/
  | vfmas (op : Nat) (rank : Nat)
  /-- HADD (R168): Vane packed 16-bit add. -/
  | hadd (op : Nat) (rank : Nat)
  /-- HSUB (R168): Vane packed 16-bit subtract. -/
  | hsub (op : Nat) (rank : Nat)
  /-- HMUL (R168): Vane packed 16-bit multiply. -/
  | hmul (op : Nat) (rank : Nat)
  /-- HFMA (R168): Vane packed 16-bit fused multiply-add. -/
  | hfma (op : Nat) (rank : Nat)
  /-- HMIN (R168): Vane packed 16-bit minimum. -/
  | hmin (op : Nat) (rank : Nat)
  /-- HMAX (R168): Vane packed 16-bit maximum. -/
  | hmax (op : Nat) (rank : Nat)
  /-- VEXP (R169): Vane exponential. -/
  | vexp (op : Nat) (rank : Nat)
  /-- VLOG (R169): Vane natural logarithm. -/
  | vlog (op : Nat) (rank : Nat)
  /-- VRCP (R169): Vane reciprocal. -/
  | vrcp (op : Nat) (rank : Nat)
  /-- VRSQRT (R169): Vane reciprocal square root. -/
  | vrsqrt (op : Nat) (rank : Nat)
  /-- VSIN (R169): Vane sine. -/
  | vsin (op : Nat) (rank : Nat)
  /-- VCOS (R169): Vane cosine. -/
  | vcos (op : Nat) (rank : Nat)
  /-- VTANH (R169): Vane hyperbolic tangent. -/
  | vtanh (op : Nat) (rank : Nat)
  /-- VERF (R169): Vane error function. -/
  | verf (op : Nat) (rank : Nat)
  /-- VIADD (R166): Vane 32-bit integer add. -/
  | viadd (op : Nat) (rank : Nat)
  /-- VISUB (R166): Vane 32-bit integer subtract. -/
  | visub (op : Nat) (rank : Nat)
  /-- VIMUL (R166): Vane 32-bit integer multiply, low bits. -/
  | vimul (op : Nat) (rank : Nat)
  /-- VAND (R166): Vane vector bitwise AND. -/
  | vand (op : Nat) (rank : Nat)
  /-- VOR (R166): Vane vector bitwise OR. -/
  | vor (op : Nat) (rank : Nat)
  /-- VXOR (R166): Vane vector bitwise XOR. -/
  | vxor (op : Nat) (rank : Nat)
  /-- VSHL (R166): Vane vector shift left. -/
  | vshl (op : Nat) (rank : Nat)
  /-- VSHR (R166): Vane vector logical shift right. -/
  | vshr (op : Nat) (rank : Nat)
  /-- VSRA (R166): Vane vector arithmetic shift right. -/
  | vsra (op : Nat) (rank : Nat)
  /-- VIMIN (R166): Vane signed integer minimum. -/
  | vimin (op : Nat) (rank : Nat)
  /-- VIMAX (R166): Vane signed integer maximum. -/
  | vimax (op : Nat) (rank : Nat)
  /-- VCMP (R166): Vane FP32 compare into a predicate. -/
  | vcmp (op : Nat) (rank : Nat)
  /-- VICMP (R166): Vane integer compare into a predicate. -/
  | vicmp (op : Nat) (rank : Nat)
  /-- PAND (R166): Vane predicate AND. -/
  | pand (op : Nat) (rank : Nat)
  /-- POR (R166): Vane predicate OR. -/
  | por (op : Nat) (rank : Nat)
  /-- PXOR (R166): Vane predicate XOR. -/
  | pxor (op : Nat) (rank : Nat)
  /-- PNOT (R166): Vane predicate NOT. -/
  | pnot (op : Nat) (rank : Nat)
  /-- PSET (R166): Vane predicate set from a scalar. -/
  | pset (op : Nat) (rank : Nat)
  /-- PGET (R166): Vane scalar set from a predicate. -/
  | pget (op : Nat) (rank : Nat)
  /-- VSEL (R166): Vane per-lane select under a predicate. -/
  | vsel (op : Nat) (rank : Nat)
  /-- VMOVI (R166): Vane vector move immediate. -/
  | vmovi (op : Nat) (rank : Nat)
  /-- VBCAST (R166): Vane broadcast of a scalar to all lanes. -/
  | vbcast (op : Nat) (rank : Nat)
  /-- VLANE (R166): Vane write of each lane's index. -/
  | vlane (op : Nat) (rank : Nat)
  /-- VSHUF (R166): Vane lane shuffle. -/
  | vshuf (op : Nat) (rank : Nat)
  /-- VEXTR (R166): Vane extract of one lane into a scalar. -/
  | vextr (op : Nat) (rank : Nat)
  /-- VINS (R166): Vane insert of a scalar into one lane. -/
  | vins (op : Nat) (rank : Nat)
  /-- VPK2 (R166): Vane pack of two 16-bit halves per lane. -/
  | vpk2 (op : Nat) (rank : Nat)
  /-- VRSUM (R170): Vane FP32 tree sum of the active lanes into a scalar. -/
  | vrsum (op : Nat) (rank : Nat)
  /-- VRMAX (R170): Vane largest active lane into a scalar. -/
  | vrmax (op : Nat) (rank : Nat)
  /-- VRMIN (R170): Vane smallest active lane into a scalar. -/
  | vrmin (op : Nat) (rank : Nat)
  /-- VCVT (R171): Vane format conversion per lane under a cvt field. -/
  | vcvt (op : Nat) (rank : Nat)
  /-- VPK4 (R166): Vane pack of four bytes per lane. -/
  | vpk4 (op : Nat) (rank : Nat)
  /-- VLD (R173): Vane contiguous vector load from tile SRAM. -/
  | vld (op : Nat) (rank : Nat)
  /-- VLDS (R173): Vane strided vector load. -/
  | vlds (op : Nat) (rank : Nat)
  /-- VGATH (R173): Vane gathered vector load. -/
  | vgath (op : Nat) (rank : Nat)
  /-- VST (R173): Vane contiguous vector store. -/
  | vst (op : Nat) (rank : Nat)
  /-- VSTS (R174): Vane strided vector store. -/
  | vsts (op : Nat) (rank : Nat)
  /-- VSCAT (R174): Vane scattered vector store. -/
  | vscat (op : Nat) (rank : Nat)
  /-- QCLR (R166): Vane clear of the active lane accumulators. -/
  | qclr (op : Nat) (rank : Nat)
  /-- QMAC (R182): Vane Quern multiply-accumulate onto the grid of an anchor. -/
  | qmac (op : Nat) (rank : Nat)
  /-- QADDV (R182): Vane Quern add of each lane's value onto the grid of an anchor. -/
  | qaddv (op : Nat) (rank : Nat)
  /-- QSUM (R183): Vane exact sum of the active accumulators into lane 0. -/
  | qsum (op : Nat) (rank : Nat)
  /-- QLD (R184): Vane load of Q128 values and tags into the accumulators. -/
  | qld (op : Nat) (rank : Nat)
  /-- QST (R184): Vane store of the accumulators as Q128, the Vane write point of overflow. -/
  | qst (op : Nat) (rank : Nat)
  /-- MGET (R176): Vane transfer from a virtual address into tile SRAM. -/
  | mget (op : Nat) (rank : Nat)
  /-- MPUT (R176): Vane transfer from tile SRAM to a virtual address. -/
  | mput (op : Nat) (rank : Nat)
  /-- MSEND (R180): Vane transfer of tile SRAM bytes to another rank of the run. -/
  | msend (op : Nat) (rank : Nat)
  /-- MWAIT (R166): Vane wait until at most imm transfers are outstanding. -/
  | mwait (op : Nat) (rank : Nat)
  /-- VANE_UNDEFINED_INSTR (R161): Issue of an undefined or malformed instruction raises VANE_BAD_INSTR. -/
  | vaneUndefinedInstr (op : Nat) (rank : Nat)
  /-- RED_OPEN (R241): Descriptor opening a reduction group in slot or Flume mode. -/
  | redOpen (op : Nat) (ext : Ext)
  /-- RED_RUN (R244): Descriptor queuing one generation of a reduction-group run. -/
  | redRun (op : Nat)
  /-- RED_CLOSE (R247): Descriptor closing a group after its queued runs. -/
  | redClose (op : Nat)
  /-- RED_TABLE_CRC (R242): At a group's first run, devices exchange the member-table CRC; a difference ends the run with GROUP_MISMATCH. -/
  | redTableCrc (fn : Nat) (gid : Nat) (dev : Nat) (crc : Nat)
  /-- RED_CONTRIBUTION (R244): A contribution or partial sum of a group run arrives and is added or held. -/
  | redContribution (fn : Nat) (gid : Nat) (gen : Nat) (chunk : Nat) (mask : Nat) (data : RedData) (ext : Ext)
  /-- RED_RUN_DONE (R246): A device's destinations hold the result and its contributions are consumed, so its run completes. -/
  | redRunDone (op : Nat) (part : RedChunk) (ext : Ext)
  /-- RED_TIMEOUT (R249): A run lacking contributions after timeout_us completes with GROUP_TIMEOUT and sends a cancel. -/
  | redTimeout (op : Nat)
  /-- RED_CANCEL (R249): A cancel for a group and gen arrives and the local run completes with GROUP_CANCELLED. -/
  | redCancel (fn : Nat) (gid : Nat) (gen : Nat)
  /-- SLUICE_OPEN (R260): Descriptor opening a single-device or cross-device sluice. -/
  | sluiceOpen (op : Nat) (ext : Ext)
  /-- SLUICE_GUARD (R269): Descriptor guarding the physical pages of a range for a sluice. -/
  | sluiceGuard (op : Nat)
  /-- SLUICE_COMMIT (R271): Descriptor closing a sluice and starting its commit. -/
  | sluiceCommit (op : Nat)
  /-- SLUICE_ABORT (R274): Descriptor requesting abort of a sluice before its commit point. -/
  | sluiceAbort (op : Nat)
  /-- SLUICE_DRAINED (R271): The last operation of a CLOSING sluice completes and the sluice enters HOLDING and sends holds. -/
  | sluiceDrained (fn : Nat) (id : Nat)
  /-- SLUICE_HOLD_ACKED (R271): Every footprint slice has acknowledged the hold; the commit record is written or a vote sent. -/
  | sluiceHoldAcked (fn : Nat) (id : Nat)
  /-- SLUICE_PUBLISHED (R271): Every slice has published the sluice's lines; recorded actions run and the commit completes. -/
  | sluicePublished (fn : Nat) (id : Nat)
  /-- SLUICE_ABORT_DONE (R275): Every operation of an aborting sluice has stopped and completed, and its entry is freed. -/
  | sluiceAbortDone (fn : Nat) (id : Nat)
  /-- SLUICE_VOTE (R280): A participant's commit or abort vote arrives at the coordinator. -/
  | sluiceVote (mere : Nat) (id : Nat) (dev : Nat) (commit : Bool) (reason : Nat) (origin : Nat)
  /-- SLUICE_DECISION (R281): The coordinator's commit or abort decision arrives at a participant. -/
  | sluiceDecision (mere : Nat) (id : Nat) (commit : Bool) (reason : Nat) (origin : Nat)
  /-- SLUICE_ACK (R281): A participant's acknowledgement of a commit arrives at the coordinator. -/
  | sluiceAck (mere : Nat) (id : Nat) (dev : Nat)
  /-- SLUICE_ABORT_FORWARD (R282): A SLUICE_ABORT forwarded by a prepared participant arrives at the coordinator and is answered. -/
  | sluiceAbortForward (mere : Nat) (id : Nat) (dev : Nat)
  /-- SLUICE_COMMIT_TIMEOUT (R280): commit_timeout_us passes before all votes and the coordinator writes an abort record with TIMEOUT. -/
  | sluiceCommitTimeout (fn : Nat) (id : Nat)
  /-- COMMIT_UNCONFIRMED (R281): Acknowledgements still miss a further timeout after the commit point and the coordinator's commit completes COMMIT_UNCONFIRMED. -/
  | commitUnconfirmed (fn : Nat) (id : Nat)
  /-- STAGE_WAYS_APPLY (R203): A pending stage_ways value takes effect when no sluice is open, after write-back of affected ways. -/
  | stageWaysApply (die : Nat)
  /-- SPILL_REGION_APPLY (R266): A pending sluice spill region value takes effect when no sluice is open. -/
  | spillRegionApply (die : Nat)
  /-- POND_CREATE (R297): Manager descriptor creating a pond from a binding record. -/
  | pondCreate (op : Nat) (ext : Ext)
  /-- POND_REBIND (R299): Manager descriptor replacing a live pond's binding, starting its memory phase. -/
  | pondRebind (op : Nat) (ext : Ext)
  /-- POND_DESTROY (R298): Manager descriptor freeing and scrubbing a pond's units. -/
  | pondDestroy (op : Nat)
  /-- POND_SCHED (R318): Manager descriptor setting a pond's weight and quantum. -/
  | pondSched (op : Nat)
  /-- PLOT_MAP_PLACE (R674): Manager descriptor placing a plot that no pond holds. -/
  | plotMapPlace (op : Nat)
  /-- PLOT_MAP_REMOVE (R674): Manager descriptor removing a PLOT_MAP placement. -/
  | plotMapRemove (op : Nat)
  /-- REBIND_COPY_PASS_DONE (R302): A pass of dirty-page copies of moving plots ends and readiness of the memory phase is judged. -/
  | rebindCopyPassDone (pond : Nat)
  /-- REBIND_POINT (R299): A pond's re-bind point is reached and the switch phase starts. -/
  | rebindPoint (pond : Nat)
  /-- REBIND_SWITCH_DONE (R303): Migrations and the final copy end; the new map commits and stalled accesses are released. -/
  | rebindSwitchDone (pond : Nat)
  /-- REBIND_TIMEOUT (R306): A re-bind not ready within timeout_us ends with REBIND_TIMEOUT and no change. -/
  | rebindTimeout (pond : Nat)
  /-- UNIT_FENCE (R312): Manager descriptor fencing a unit that no pond holds. -/
  | unitFence (op : Nat)
  /-- UNIT_RESTORE (R313): Manager descriptor running a fenced unit's self-test to return it to service. -/
  | unitRestore (op : Nat) (passed : List Nat)
  /-- UNIT_FAILURE (R307): A check declares a unit failed and the device fences it and its dependents by autotomy. -/
  | unitFailure (cls : Nat) (unit : Nat)
  /-- REGROW (R309): At a pond's re-bind point after autotomy, the reserved choices are applied through a switch phase. -/
  | regrow (pond : Nat)
  /-- SEAM_CRC_FAIL (R234): A seam flit fails its CRC and is replayed; 16 replays fence the seam. -/
  | seamCrcFail (seam : Nat) (again : Bool)
  /-- SEAM_REPLAY_TIMEOUT (R234): A seam replay-buffer timeout of 10 µs declares the seam failed. -/
  | seamReplayTimeout (seam : Nat)
  /-- CTX_SCHED (R317): Descriptor setting the priority of the context owning its ring. -/
  | ctxSched (op : Nat)
  /-- QUANTUM_EXPIRY (R316): The running context's quantum ends while another has tile work ready, starting a tile switch. -/
  | quantumExpiry (pond : Nat)
  /-- CONTEXT_DRAIN_DONE (R325): The outgoing context's last tile operation completes and its save starts. -/
  | contextDrainDone (pond : Nat) (record : Nat)
  /-- CONTEXT_SAVE_DONE (R325): The outgoing context's images are saved and the incoming restore starts. -/
  | contextSaveDone (pond : Nat)
  /-- CONTEXT_RESTORE_DONE (R325): The incoming images are restored and the new context becomes running. -/
  | contextRestoreDone (pond : Nat)
  /-- SLOT_GRANT (R319): A free context slot is granted to a waiting context. -/
  | slotGrant
  /-- SLOT_IDLE_TIMEOUT (R320): A slot holder whose rings have been idle 100 µs becomes eligible to lose its slot. -/
  | slotIdleTimeout (slot : Nat)
  /-- SLOT_LOAD_DONE (R321): Loading or unloading of a context slot ends and its descriptors may be fetched. -/
  | slotLoadDone (slot : Nat) (record : Nat)
  /-- BEAT_SET (R329): Descriptor setting a pond's beat period, catch-up and grid. -/
  | beatSet (op : Nat)
  /-- BEAT_STEP (R331): Descriptor making the next descriptors of its ring one beat step with declared costs. -/
  | beatStep (op : Nat)
  /-- BEAT_START (R334): At a beat's start the composer forms the release list within the budget. -/
  | beatStart (pond : Nat)
  /-- BEAT_END (R335): The last operation of a beat's released steps completes and the beat ends. -/
  | beatEnd (pond : Nat)
  /-- XLAT_ROOT (R400): Descriptor installing a function's page-table root. -/
  | xlatRoot (op : Nat)
  /-- XLAT_ROOT_REMOVE (R400): Descriptor with enable = 0 removing a function's root. -/
  | xlatRootRemove (op : Nat)
  /-- XLAT_INVAL (R407): Descriptor invalidating cached translations of a range or scope. -/
  | xlatInval (op : Nat)
  /-- XLAT_INVAL_DONE (R408): Every tile has reported its part and the invalidation completes. -/
  | xlatInvalDone (op : Nat)
  /-- XLAT_DIRTY_START (R421): Descriptor starting dirty logging of an instance into a bitmap. -/
  | xlatDirtyStart (op : Nat)
  /-- XLAT_DIRTY_STOP (R421): Descriptor stopping dirty logging once earlier ORs have landed. -/
  | xlatDirtyStop (op : Nat)
  /-- XLAT_DIRTY_SWAP (R422): Descriptor moving dirty logging to a new bitmap slice by slice. -/
  | xlatDirtySwap (op : Nat)
  /-- INST_QUIESCE (R431): Descriptor stopping fetching for an instance and draining its work. -/
  | instQuiesce (op : Nat)
  /-- QUIESCE_DRAINED (R431): The quiescing instance has no fetched descriptor or operation and becomes QUIESCED. -/
  | quiesceDrained (inst : Nat)
  /-- QUIESCE_TIMEOUT (R431): timeout_us passes before the drain ends and remaining work is cancelled. -/
  | quiesceTimeout (inst : Nat)
  /-- INST_RESUME (R434): Descriptor returning a quiesced instance to ACTIVE and re-reading its doorbells. -/
  | instResume (op : Nat) (words : List Nat)
  /-- INST_LIMITS (R429): Descriptor setting an instance's caps on shared pools. -/
  | instLimits (op : Nat)
  /-- INST_SAVE (R443): Descriptor saving a quiesced instance's device state to an image. -/
  | instSave (op : Nat) (records : List Nat)
  /-- INST_RESTORE (R445): Descriptor loading an instance image into a fresh instance. -/
  | instRestore (op : RecordsFor)
  /-- INST_NOTICE (R427): Descriptor posting a value to an instance's event queue. -/
  | instNotice (op : Nat)
  /-- FORCED_INSTANCE_RESET (R436): A function-level reset of a virtual function removes the instance's work and state. -/
  | forcedInstanceReset (inst : Nat)
  /-- INSTANCE_RESET_DONE (R436): Contexts are dropped and the instance leaves RESETTING. -/
  | instanceResetDone (inst : Nat)
  /-- VF_ENABLE_CLEAR (R426): Clearing VF Enable or lowering NumVFs force-resets each instance that ceases to exist. -/
  | vfEnableClear (enable : Bool) (num : Nat)
  /-- HOST_ACCESS_ERROR (R441): A host-memory access for an instance ends in error and is handled by access kind. -/
  | hostAccessError (fn : Nat) (kind : Nat) (target : Nat)
  /-- BAR2_ACCESS (R349): A host access through a function's memory BAR reaches local offsets or an instance aperture. -/
  | bar2Access (fn : Nat) (off : Nat) (write : Bool) (len : Nat) (data : List Byte) (ext : Ext)
  /-- CXL_MEM_ACCESS (R344): A host CXL.mem access to plot space is served at its home. -/
  | cxlMemAccess (kind : Nat) (off : Nat) (data : List Byte) (recalled : List Byte)
  /-- HBM_READ_DONE (R452): An HBM read returns to its home slice and updates its class's latency EWMA. -/
  | hbmReadDone (off : Nat) (lat : Nat) (ret : ReadReturn)
  /-- WEIR_RECOMPUTE (R453): Every 256 uncore clocks each memory port recomputes each class's priority. -/
  | weirRecompute (port : Nat)
  /-- WEIR_CREDIT_PERIOD (R455): At each 1 µs credit period each class's credit on each channel is reset to cap_lines. -/
  | weirCreditPeriod
  /-- REQUEST_AGE_TIMEOUT (R454): A request that has waited 4 µs is issued ahead of every priority. -/
  | requestAgeTimeout (req : AgedRequest)
  /-- WEIR_WINDOW_END (R457): At the end of a weir window each class's miss is judged and counted. -/
  | weirWindowEnd
  /-- WEIR_EVAL_PERIOD (R459): At the end of a pond's evaluation period the pull and push counts are updated. -/
  | weirEvalPeriod (period : ProbePeriod)
  /-- PATROL_READ (R638): A patrol scrub read of an HBM granule or loft line corrects or poisons it. -/
  | patrolRead (off : Nat) (loft : Bool) (err : Nat)
  /-- BUCKET_LEAK (R643): Every leak_min minutes a unit's error bucket falls by 1. -/
  | bucketLeak (cls : Nat) (unit : Nat)
  /-- SUBLINK_TRAIN_START (R470): A sub-link starts a training run: transmitters on and servos started. -/
  | sublinkTrainStart (sub : Nat)
  /-- LIGHT_DETECT (R470): Light appears on a receive fibre and receivers lock. -/
  | lightDetect (sub : Nat) (lanes : Nat)
  /-- CAPABILITY_FRAME (R472): A capability frame arrives and the generation and lane masks are chosen. -/
  | capabilityFrame (sub : Nat) (frame : Nat)
  /-- TRAINING_STEP_DONE (R470): A timed training step ends: mask, equaliser adaptation, FEC lock or deskew. -/
  | trainingStepDone (sub : Nat) (lanes : Nat) (ok : Bool)
  /-- LINK_TEST_DONE (R473): The 1 ms link test ends and training passes or the attempt fails. -/
  | linkTestDone (sub : Nat) (pass : Bool)
  /-- TRAINING_RETRY_TIMER (R474): 100 ms after a failed run with light, a new training run starts or the sub-link is fenced. -/
  | trainingRetryTimer (sub : Nat)
  /-- FLIT_CRC_FAIL (R475): An Eslas flit fails its CRC and is replayed; sixteen replays start a retrain. -/
  | flitCrcFail (sub : Nat) (fixed : Nat) (uncorr : Bool) (again : Bool)
  /-- REPLAY_ACK_TIMEOUT (R475): A replay not acknowledged within 20 µs starts a retrain. -/
  | replayAckTimeout (sub : Nat)
  /-- RETRAIN_DONE (R475): A retrain ends, resuming replay or after three failures starting full training. -/
  | retrainDone (sub : Nat) (pass : Bool)
  /-- LANE_LOCK_LOST (R471): A lane servo loses lock on an UP sub-link, dropping the lane and retraining. -/
  | laneLockLost (sub : Nat) (lane : LaneEnd)
  /-- LIGHT_LOSS (R476): A sub-link leaves UP on loss of light and holds its traffic. -/
  | lightLoss (sub : Nat)
  /-- HOLD_EXPIRY (R476): hold_ms passes before return to UP; held packets are discarded and the sub-link fenced. -/
  | holdExpiry (sub : Nat) (ops : List Nat)
  /-- NEIGHBOUR_NOTICE (R477): A SLEEP or FENCE notice arrives and the sub-link stops accepting packets and drains. -/
  | neighbourNotice (sub : Nat) (fence : Bool)
  /-- NOTICE_DRAIN_DONE (R477): The 1 ms after a notice ends and the sub-link enters SLEEP or DOWN. -/
  | noticeDrainDone (sub : Nat)
  /-- REMOTE_REQUEST (R414): A remote access arrives at the target and is served at its home or refused. -/
  | remoteRequest (src : Nat) (tag : Nat) (mere : Nat) (kind : Nat) (off : Nat) (len : Nat) (slu : Nat) (data : List Byte) (sub : Nat)
  /-- WINDOW_ACCESS (R417): A window access arrives at the target and is served or refused by its entry. -/
  | windowAccess (src : Nat) (tag : Nat) (mere : Nat) (idx : Nat) (kind : Nat) (off : Nat) (data : List Byte) (host : List Byte) (poison : Bool) (sub : Nat)
  /-- MERE_BIND (R488): Manager descriptor binding a mere handle to a local pond with a device map. -/
  | mereBind (op : Nat)
  /-- MERE_UNBIND (R489): Manager descriptor removing a mere membership. -/
  | mereUnbind (op : Nat)
  /-- WINDOW_SET (R498): Manager descriptor writing a window-table entry. -/
  | windowSet (op : Nat)
  /-- WINDOW_CLEAR (R499): Manager descriptor invalidating a window-table entry. -/
  | windowClear (op : Nat)
  /-- WINDOW_CLEAR_DONE (R418): No access that found the window remains and WINDOW_CLEAR completes. -/
  | windowClearDone (idx : Nat)
  /-- PUSH_SUBSCRIBE (R501): Descriptor setting up a push subscription from a producer to a landing range. -/
  | pushSubscribe (op : Nat) (reply : Nat)
  /-- PUSH_CANCEL (R504): Descriptor ending a push subscription on both devices. -/
  | pushCancel (op : Nat) (reply : Bool)
  /-- PUSH_WRITE_LAND (R503): A push write lands at the consumer and marks lines of waiting push-mode copies. -/
  | pushWriteLand (num : Nat) (off : Nat) (data : List Byte) (slu : Nat)
  /-- PUSH_TIMEOUT (R221): A push-mode copy's bytes have not landed within the subscription timeout and are pulled. -/
  | pushTimeout (op : Nat)
  /-- FAB_CONFIRM (R507): Anchor descriptor confirming members of a group. -/
  | fabConfirm (op : Nat)
  /-- HELLO (R505): A neighbour's HELLO arrives on a sub-link during discovery. -/
  | hello (sub : Nat) (dev : Nat) (state : Nat) (leaderOk : Bool)
  /-- VECTOR_RECEIVED (R505): A member or group vector arrives from a neighbour and is merged. -/
  | vectorReceived (sub : Nat) (group : Bool) (dists : List Nat) (links : List Nat) (leaders : List Nat) (anchor : Nat) (dups : List Nat)
  /-- JOIN_ROUND_END (R505): A 2 ms join round ends and convergence is judged. -/
  | joinRoundEnd
  /-- GROUP_REPORT (R507): A group leader's report arrives at an anchor and GROUP_REPORT is posted. -/
  | groupReport (group : Nat) (leader : Nat) (members : Nat) (dup : Bool) (bitmap : Nat)
  /-- GROUP_REPORT_RESEND (R507): With no anchor reachable, the leader resends its report every 100 ms. -/
  | groupReportResend
  /-- CONFIRMATION_RECEIVED (R507): A flooded confirmation arrives and the device becomes JOINED or REJECTED. -/
  | confirmationReceived (group : Nat) (conf : Confirmation)
  /-- FAULT_REPORT_SEND (R510): A device observing an outside fault sends one report per fingerprint per 10 ms window. -/
  | faultReportSend (kind : Nat) (a : Nat) (b : Nat) (c : Nat)
  /-- LEADER_FAULT_WINDOW (R511): At each 10 ms window end a leader merges reports and sends them to the anchor. -/
  | leaderFaultWindow
  /-- FAULT_REPORT (R511): A merged fault report arrives at an anchor and FAULT_REPORT is posted. -/
  | faultReport (fp : Nat) (devices : Nat) (count : Nat) (lowest : Nat) (group : Nat)
  /-- UNREACH_TIMER (R496): A destination without route for unreach_ms is declared unreachable and its waiting work ends. -/
  | unreachTimer (dev : Nat) (ops : List Nat)
  /-- TIME_EXCHANGE (R512): Every 1 ms a device sends a time request to its parent. -/
  | timeExchange
  /-- TIME_REQUEST_RECEIVED (R512): A parent receives a time request and replies with t2 and t3. -/
  | timeRequestReceived (sub : Nat) (t1 : Nat)
  /-- TIME_REPLY (R598): A time reply arrives and the device corrects its timebase toward its parent. -/
  | timeReply (t2 : Nat) (t3 : Nat)
  /-- WAKE_MESSAGE (R606): An Eslas wake message is sent through a neighbour to a sleeping device. -/
  | wakeMessage (dst : Nat) (sub : Nat)
  /-- PWR_REQ_HIGH (R667): PWR_REQ is taken high and power-up starts from OFF. -/
  | pwrReqHigh
  /-- PWR_REQ_LOW (R668): PWR_REQ is taken low and power-down starts. -/
  | pwrReqLow
  /-- XRAIL_GOOD_RISE (R667): XRAIL_GOOD rises and power-up continues with the buck stage and HBM rails. -/
  | xrailGoodRise
  /-- HBM_GOOD_RISE (R667): HBM_GOOD rises and the IVRs and root PLL come up. -/
  | hbmGoodRise
  /-- POWER_STEP_DONE (R668): A timed power-up or power-down step ends and the sequencer reads PWR_REQ. -/
  | powerStepDone
  /-- POWER_STEP_TIMEOUT (R667): A good signal fails to rise in time and power-down runs from that step. -/
  | powerStepTimeout
  /-- GOOD_SIGNAL_LOST (R670): XRAIL_GOOD or HBM_GOOD falls while powered and power-down runs. -/
  | goodSignalLost (hbm : Bool)
  /-- VIN12_FAULT (R670): VIN12 below 10.2 V for 1 µs stops the IVRs and buck at once. -/
  | vin12Fault
  /-- AON_SUPPLY_LOST (R670): VDD_AON or VIO_1V8 falls out of range and the device is held in power-on reset. -/
  | aonSupplyLost
  /-- POWER_ON_RESET (R666): Always-on supplies and VIN12 rise through their thresholds and power-on reset is released. -/
  | powerOnReset
  /-- VOLTAGE_COMMAND (R521): A write of GSET_PWR_ISL_CMD issues a voltage and divider command to an island. -/
  | voltageCommand (value : Nat)
  /-- ISLAND_SETTLED (R522): An island settles at its target, applying any frequency raise and completing the command's tag. -/
  | islandSettled (island : Nat)
  /-- SAIL_WINDOW (R524): Each 50 ns window the controller applies slope limits and sailspin for each die. -/
  | sailWindow (die : Nat) (demand : Nat) (ponds : List Nat)
  /-- METER_READ (R538): Every 50 ns each IVR charge meter is read and energy attributed. -/
  | meterRead (unit : Nat) (energy : Nat) (loft : List Nat) (clocks : List Nat) (bytes : List Nat) (fault : Bool)
  /-- FURL_UPDATE (R528): Every 250 ns the controller sets each die's furl duty from cap excesses. -/
  | furlUpdate (power : Nat)
  /-- DROOP_CROSSING (R530): An island's supply falls below target less droop_mv and its clocks stretch. -/
  | droopCrossing (dom : Nat)
  /-- DROOP_RECOVER (R530): The supply stays above the level for 20 ns and stretching ends. -/
  | droopRecover (dom : Nat) (clocks : Nat)
  /-- CROAK_N_ASSERT (R531): CROAK_N held low for two samples forces every island to full furl and /16. -/
  | croakNAssert
  /-- CROAK_REARM (R531): 100 µs after CROAK_N goes high the Millwright re-arms and islands resume. -/
  | croakRearm
  /-- TEMP_SAMPLE (R533): Every 10 µs each island's temperature sensor is read. -/
  | tempSample (island : Nat) (temp : Nat)
  /-- HBM_TEMP_READ (R533): Every 1 ms each memory port reads its stack temperature and adjusts refresh. -/
  | hbmTempRead (port : Nat) (temp : Nat)
  /-- THERMAL_STEP_TIMER (R534): An island above or below threshold gains or loses a thermal step on its timer. -/
  | thermalStepTimer (island : Nat)
  /-- TALLY_COEF (R548): Manager descriptor installing a signed coefficient table. -/
  | tallyCoef (op : Nat)
  /-- TALLY_CLOSE (R555): Descriptor cutting its tag's window and writing an energy receipt. -/
  | tallyClose (op : Nat)
  /-- TALLY_WINDOW_CLOSE (R540): A pond's or period window closes and TAG records are formed and written. -/
  | tallyWindowClose (pond : Nat)
  /-- RECORD_SIGN (R552): When the signing engine is free, the latest unsigned record is signed with the ledger key. -/
  | recordSign
  /-- TALLY_CHECKPOINT (R556): Every ckpt_ms the Millwright writes the chain checkpoint to flash. -/
  | tallyCheckpoint
  /-- PUBKEY (R577): Signing-engine call computing a public key. -/
  | pubkey (reg : Nat)
  /-- SIGN (R577): Signing-engine call producing an ECDSA signature. -/
  | sign (reg : Nat) (e : Nat)
  /-- VERIFY (R577): Signing-engine call verifying a signature. -/
  | verify (x : Nat) (y : Nat) (e : Nat) (r : Nat) (t : Nat)
  /-- ECDH (R577): Signing-engine call computing a shared point. -/
  | ecdh (reg : Nat) (x : Nat) (y : Nat)
  /-- SIGNING_CALL_DONE (R579): A signing-engine call returns after exactly 2.2 ms and the next queued call starts. -/
  | signingCallDone (head : Nat)
  /-- HASH_SEGMENT_DONE (R582): The hash engine ends a segment and serves the next slot at the boundary. -/
  | hashSegmentDone (caller : Nat) (data : List Byte) (last : Bool)
  /-- HASH_SUSPEND (R583): A Millwright caller suspends its hash slot, saving its state. -/
  | hashSuspend (caller : Nat)
  /-- HASH_RESUME (R583): A caller resumes a suspended hash into a free slot. -/
  | hashResume (caller : Nat)
  /-- LC_NONCE (R568): Management message returning a fresh life-cycle nonce. -/
  | lcNonce (tr : Nat)
  /-- LC_REQUEST (R570): Management message requesting a life-cycle transition. -/
  | lcRequest (tr : Nat) (dest : Nat) (nonce : List Byte) (x : Nat) (y : Nat) (r : Nat) (t : Nat) (fuseOk : Bool)
  /-- LC_NONCE_EXPIRY (R569): A confirm nonce becomes void 10 s after its first request. -/
  | lcNonceExpiry
  /-- LC_TRANSITION_RESET (R571): 10 ms after the response to an accepted transition the Millwright starts a device reset. -/
  | lcTransitionReset
  /-- LC_PUBKEYS (R574): Management message returning the OWNED public keys in PROVISION. -/
  | lcPubkeys (tr : Nat)
  /-- GET_VERSION (R586): SPDM request for supported versions. -/
  | getVersion (tr : Nat)
  /-- GET_CAPABILITIES (R586): SPDM request for capabilities. -/
  | getCapabilities (tr : Nat) (version : Nat)
  /-- NEGOTIATE_ALGORITHMS (R586): SPDM algorithm negotiation. -/
  | negotiateAlgorithms (tr : Nat) (ok : Bool)
  /-- GET_DIGESTS (R586): SPDM request for certificate digests. -/
  | getDigests (tr : Nat)
  /-- GET_CERTIFICATE (R587): SPDM request for the slot 0 certificate chain. -/
  | getCertificate (tr : Nat) (off : Nat) (len : Nat)
  /-- CHALLENGE (R586): SPDM challenge signed with the DAK. -/
  | challenge (tr : Nat) (transcript : List Byte)
  /-- GET_MEASUREMENTS (R587): SPDM request for measurement blocks, signed or unsigned. -/
  | getMeasurements (tr : Nat) (index : Nat) (signed : Bool) (transcript : List Byte)
  /-- KEY_EXCHANGE (R586): SPDM ECDHE key exchange. -/
  | keyExchange (tr : Nat) (id : Nat) (x : Nat) (y : Nat) (transcript : List Byte)
  /-- FINISH (R586): SPDM FINISH completing a session handshake. -/
  | finish (tr : Nat) (id : Nat) (ok : Bool)
  /-- HEARTBEAT (R586): SPDM session heartbeat. -/
  | heartbeat (tr : Nat) (id : Nat)
  /-- KEY_UPDATE (R586): SPDM session key update. -/
  | keyUpdate (tr : Nat) (id : Nat)
  /-- END_SESSION (R586): SPDM request ending a session. -/
  | endSession (tr : Nat) (id : Nat)
  /-- BOOT_LOG (R628): Management message returning the reset cause and boot step times. -/
  | bootLog (tr : Nat)
  /-- FENCE_LIST (R628): Management message returning the fence list. -/
  | fenceList (tr : Nat)
  /-- REG_READ (R628): Management message reading one GSET register. -/
  | regRead (tr : Nat) (addr : Nat)
  /-- REG_WRITE (R628): Privileged management message writing one power-block register. -/
  | regWrite (tr : Nat) (addr : Nat) (value : Nat)
  /-- SETUP_UNLOCK (R628): Privileged management message clearing setup_lock. -/
  | setupUnlock (tr : Nat)
  /-- DEVICE_RESET (R628): Privileged management message starting a device reset 10 ms after the response. -/
  | deviceReset (tr : Nat)
  /-- DEVICE_RESET_DELAY (R628): 10 ms after a DEVICE_RESET response the device reset starts. -/
  | deviceResetDelay
  /-- SVN_COMMIT (R633): Privileged management message blowing fused SVN bits up to a target. -/
  | svnCommit (tr : Nat) (t : Nat)
  /-- CONFIG_WRITE (R628): Privileged management message writing the deployment configuration. -/
  | configWrite (tr : Nat) (data : List Byte)
  /-- MCTP_SET_EID (R626): A bus owner assigns the device's MCTP endpoint ID. -/
  | mctpSetEid (tr : Nat) (eid : Nat)
  /-- PLDM_SENSOR_READ (R629): PLDM monitoring request reading a numeric or state sensor. -/
  | pldmSensorRead (tr : Nat) (n : Nat)
  /-- PLDM_FW_TRANSFER (R630): PLDM firmware update writing an image into a free slot and checking it. -/
  | pldmFwTransfer (tr : Nat) (comps : List Nat) (data : List Byte)
  /-- ACTIVATE_FIRMWARE (R631): PLDM activation loading a new image into fenced units or the Millwright. -/
  | activateFirmware (tr : Nat) (comps : List Nat)
  /-- MILLWRIGHT_WATCHDOG (R625): The Millwright watchdog expires after 1 s and resets the Millwright. -/
  | millwrightWatchdog
  /-- MW_RESTART_DONE (R624): The Millwright restarts and posts MW_RESTARTED. -/
  | mwRestartDone
  /-- MW_START_TIMEOUT (R620): A Millwright image not reporting running within 500 ms counts as failing. -/
  | mwStartTimeout
  /-- PERST_N_ASSERT (R613): PERST_N asserted starts a device reset, abandoning work. -/
  | perstNAssert
  /-- PERST_N_RELEASE (R619): PERST_N released starts boot at step 1. -/
  | perstNRelease
  /-- HOT_RESET (R610): A link hot reset causes a device reset. -/
  | hotReset
  /-- PF_FLR (R375): A function-level reset of the physical function causes a device reset. -/
  | pfFlr
  /-- HOST_LINK_TRAINED (R343): The host link trains in CXL or PCIe-only mode. -/
  | hostLinkTrained (mode : Nat) (flit : Bool) (speed : Nat) (width : Nat)
  /-- BOOT_STEP_DONE (R619): A timed boot step ends and the next begins, with ready set at the last. -/
  | bootStepDone (ok : Bool)
  /-- SELF_TEST_DONE (R623): A unit's built-in self-test ends with pass or fence. -/
  | selfTestDone (cls : Nat) (unit : Nat) (pass : Bool)
  /-- ROOT_PLL_LOCK (R592): The root PLL locks and derived clocks start. -/
  | rootPllLock
  /-- CLK_REF_LOSS (R595): CLK_REF shows no edge for 200 ns outside brumation. -/
  | clkRefLoss
  /-- CLK_REF_RETURN (R595): CLK_REF counts as present again after 1,000 valid edges. -/
  | clkRefReturn
  /-- TIME_LO_READ (R608): A read of GSET_TIME_LO latches the upper timebase bits for HI. -/
  | timeLoRead
  /-- TIME_SET (R599): A write of GSET_TIME_SET_HI applies a forward timebase value or sets set_bad. -/
  | timeSet (hi : Nat)
  /-- IDLE_TIMER_EXPIRY (R602): The brumation idle timer reaches idle_s and entry begins. -/
  | idleTimerExpiry
  /-- BRUM_ENTRY_STEP_DONE (R602): A brumation entry step ends and its abort point checks for a wake event. -/
  | brumEntryStepDone (words : List Nat)
  /-- WAKE_EVENT (R604): A BAR2, CXL.mem, wake message or WAKE_IN_N event arrives during entry or brumation. -/
  | wakeEvent (src : Nat)
  /-- WAKE_STEP_DONE (R606): A wake step ends; the last writes RESET to the state word. -/
  | wakeStepDone
  /-- SETUP_LOCK_WRITE (R351): A write of setup_lock sets the set-up lock until device reset. -/
  | setupLockWrite (value : Nat)
  /-- INST_CFG_WRITE (R352): A write of GSET_INST_CFG sets an instance's enable and quotas or is discarded. -/
  | instCfgWrite (value : Nat)
  /-- STAGE_WAYS_WRITE (R203): A write of stage_ways records a pending value. -/
  | stageWaysWrite (die : Nat) (value : Nat)
  /-- SPILL_REGION_WRITE (R266): A write of GSET_SLUICE_SPILL records a pending staging region. -/
  | spillRegionWrite (die : Nat) (value : Nat)
  /-- BRUM_ENABLE_WRITE (R601): A write of GSET_BRUM_CTL enable starts or stops and clears the idle timer. -/
  | brumEnableWrite (on : Bool)
  /-- BRUM_WAKE_WRITE (R606): A write of GSET_BRUM_WAKE sends a wake message to a device ID. -/
  | brumWakeWrite (dev : Nat)
  /-- LEAT_RETRAIN_WRITE (R481): A write of retrain starts full training of a sub-link. -/
  | leatRetrainWrite (sub : Nat)
  /-- GEN_CAP_WRITE (R481): A write of gen_cap changes a sub-link's offered generation or darkens it. -/
  | genCapWrite (sub : Nat) (value : Nat)
  /-- ROUTE_TABLE_WRITE (R497): A write of a routing table entry in static route mode. -/
  | routeTableWrite (table : Nat) (idx : Nat) (value : Nat)
  /-- WEIR_POND_CFG_WRITE (R461): A write of a pond's weir configuration may return it to pull mode. -/
  | weirPondCfgWrite (value : Nat)
  /-- TALLY_ENABLE_WRITE (R557): A write of Tally enable starts or stops record forming, with a DISABLED gap on re-enable. -/
  | tallyEnableWrite (value : Nat)
  /-- REGISTER_WRITE (R9): A write to any other register field sets, clears or is discarded by its access code. -/
  | registerWrite (fn : Nat) (off : Nat) (data : List Byte) (record : Nat)
  /-- CROAK_N_RELEASE (R531): CROAK_N returns high after an assertion, and the 100 µs wait before the Millwright may re-arm begins. -/
  | croakNRelease
  /-- TRANSIT_PACKET (R493): A packet or response for another device arrives on a sub-link and is routed out on a usable sub-link, or back along its request's path. -/
  | transitPacket (src : Nat) (tag : Nat) (dst : Nat) (addr : Nat) (sub : Nat) (cls : PacketClass) (data : List Byte)
  /-- FAULT_REPORT_AT_LEADER (R511): A member's fault report arrives at its group leader and is merged into that window's per-fingerprint report. -/
  | faultReportAtLeader (fp : Nat) (dev : Nat) (count : Nat)
  /-- SLUICE_ABORT_ANSWER (R282): The coordinator's answer to a forwarded SLUICE_ABORT reaches the prepared participant, which completes its SLUICE_ABORT with SUCCESS or ALREADY_COMMITTED. -/
  | sluiceAbortAnswer (mere : Nat) (id : Nat) (committed : Bool)
  /-- PUSH_SUBSCRIBE_AT_PRODUCER (R501): A subscription or cancel sent by a consumer arrives at producer P, which checks it and records or removes its producer entry before the reply completes the consumer's descriptor. -/
  | pushSubscribeAtProducer (src : Nat) (mere : Nat) (num : Nat) (off : Nat) (dst : Nat) (len : Nat) (cancel : Bool) (sub : Nat)
  /-- TALLY_BACKLOG_DRAIN (R554): The energy ring gains room after the manager frees slots, and the device numbers, hashes and writes backlog records to it. -/
  | tallyBacklogDrain (head : Nat)
  deriving DecidableEq, Repr

end Sys2Proof
end

