-- ==== Sys2Proof/Decode.lean ====
section
/-! DEFINITION. Words that spell a command. The opcode table lists the commands of a block and gives none of them bits:
no word spells one. -/

namespace Sys2Proof

/-- The command that a word of `nbits` bits spells by the opcode table: none. Log: 2 (DESIGN CHOICE). -/
def decodeTableWord (_nbits _w : Nat) : Option Instr := none

end Sys2Proof
end

