-- ==== Sys2Proof/Machine/Tab.lean ====
section
/-! DEFINITION. Reading and writing the two containers: keyed tables and byte memory, and the little-endian
conversions of R7 between bytes and numbers. -/

namespace Sys2Proof

/-- The entry of key `k`, if the table has one. -/
def Tab.at? {α : Type} : Tab α → Nat → Option α
  | [], _ => none
  | (a, v) :: t, k => if a = k then some v else Tab.at? t k

/-- The entry of key `k`, or `d`. -/
def Tab.get {α : Type} (d : α) (t : Tab α) (k : Nat) : α := (t.at? k).getD d

/-- The table with key `k` set to `v`; keys stay strictly rising. -/
def Tab.set {α : Type} : Tab α → Nat → α → Tab α
  | [], k, v => [(k, v)]
  | (a, w) :: t, k, v =>
    if k < a then (k, v) :: (a, w) :: t
    else if k = a then (k, v) :: t
    else (a, w) :: Tab.set t k v

/-- The table without key `k`. -/
def Tab.erase {α : Type} (t : Tab α) (k : Nat) : Tab α := t.filter (fun p => p.1 ≠ k)

/-- The table with the entry of key `k`, where it has one, changed by `f`. -/
def Tab.modify {α : Type} (t : Tab α) (k : Nat) (f : α → α) : Tab α :=
  t.map (fun p => if p.1 = k then (p.1, f p.2) else p)

/-- The entries that satisfy `q`, with their keys. -/
def Tab.filterV {α : Type} (t : Tab α) (q : α → Bool) : Tab α := t.filter (fun p => q p.2)

/-- Every value of the table. -/
def Tab.vals {α : Type} (t : Tab α) : List α := t.map (·.2)

/-- The byte at address `k`. -/
def Memory.get : Memory → Nat → Byte
  | [], _ => 0
  | (a, b) :: t, k => if a = k then b else Memory.get t k

/-- Memory with the byte at address `k` set to `v`, in canonical form. Log: 16 (DESIGN CHOICE). -/
def Memory.put : Memory → Nat → Byte → Memory
  | [], k, v => if v = 0 then [] else [(k, v)]
  | (a, b) :: t, k, v =>
    if k < a then (if v = 0 then (a, b) :: t else (k, v) :: (a, b) :: t)
    else if k = a then (if v = 0 then t else (k, v) :: t)
    else (a, b) :: Memory.put t k v

/-- The canonical form from address `lo` on: addresses strictly rising and no zero byte listed. -/
def Memory.wfFrom : Nat → Memory → Bool
  | _, [] => true
  | lo, (a, b) :: t => decide (lo ≤ a) && decide (b ≠ 0) && Memory.wfFrom (a + 1) t

/-- The canonical form of a memory. -/
def Memory.wf (m : Memory) : Bool := Memory.wfFrom 0 m

/-- The `n` bytes at `a` and up. -/
def Memory.read (m : Memory) (a n : Nat) : List Byte := (List.range n).map (fun i => m.get (a + i))

/-- Memory with the bytes `bs` written at `a` and up. -/
def Memory.write : Memory → Nat → List Byte → Memory
  | m, _, [] => m
  | m, a, b :: bs => Memory.write (m.put a b) (a + 1) bs

/-- Memory with addresses `lo` to `lo + n - 1` zero. -/
def Memory.clear (m : Memory) (lo n : Nat) : Memory :=
  m.filter (fun c => decide (c.1 < lo) || decide (lo + n ≤ c.1))

/-- The listed cells of addresses `lo` to `lo + n - 1`, their addresses counted from `lo`. -/
def Memory.cells (m : Memory) (lo n : Nat) : List Host.Cell :=
  (m.filter (fun c => decide (lo ≤ c.1) && decide (c.1 < lo + n))).map (fun c => (c.1 - lo, c.2))

/-- Memory with the listed cells put at `base` and up. -/
def Memory.putCells (m : Memory) (base : Nat) (cs : List Host.Cell) : Memory :=
  cs.foldl (fun m c => m.put (base + c.1) c.2) m

/-- Memory with the `n` bytes at `dst` replaced by the given cells (zero where none is listed). -/
def Memory.replace (m : Memory) (dst n : Nat) (cs : List Host.Cell) : Memory :=
  (m.clear dst n).putCells dst (cs.filter (fun c => decide (c.1 < n)))

/-- `a` put into a list sorted by `le`, before every entry it may stand before. -/
def insertBy {α : Type} (le : α → α → Bool) (a : α) : List α → List α
  | [] => [a]
  | b :: l => if le a b then a :: b :: l else b :: insertBy le a l

/-- A list sorted by `le`; equals keep their order. -/
def sortBy {α : Type} (le : α → α → Bool) : List α → List α
  | [] => []
  | a :: l => insertBy le a (sortBy le l)

/-- The number whose little-endian bytes are `bs` (R7). -/
def leNat : List Byte → Nat
  | [] => 0
  | b :: bs => b.toNat + 256 * leNat bs

/-- The `n` little-endian bytes of `w` (R7). -/
def leBytes : Nat → Nat → List Byte
  | 0, _ => []
  | n + 1, w => BitVec.ofNat 8 w :: leBytes n (w / 256)

/-- Bits `lo` to `lo + len - 1` of `w`. -/
def bitsOf (w lo len : Nat) : Nat := (w >>> lo) % 2 ^ len

/-- Bit `i` of `w`. -/
def bitOf (w i : Nat) : Bool := w.testBit i

/-- 1 or 0. -/
def b2n (b : Bool) : Nat := if b then 1 else 0

/-- `w` with bits `lo` to `lo + len - 1` replaced by `v`. -/
def setBits (w lo len v : Nat) : Nat :=
  w - (bitsOf w lo len <<< lo) + ((v % 2 ^ len) <<< lo)

/-- The field of `len` bits that starts at bit `lo` of byte `off` of a structure read as one number. -/
def fld (d off lo len : Nat) : Nat := bitsOf d (8 * off + lo) len

/-- The two's complement value of the low `len` bits of `w` (R8). -/
def signedOf (len w : Nat) : Int :=
  let v := w % 2 ^ len
  if v < 2 ^ (len - 1) then v else (v : Int) - 2 ^ len

/-- `v` as `len` bits in two's complement (R8). -/
def unsignedOf (len : Nat) (v : Int) : Nat := (v % (2 ^ len : Int)).toNat

/-- The elements of `l` that are least under `key`, the first of them. -/
def minBy? {α : Type} (key : α → Nat) : List α → Option α
  | [] => none
  | a :: l => match minBy? key l with
    | none => some a
    | some b => if key a ≤ key b then some a else some b

/-- Indices of the set bits of `w` below `n`. -/
def maskBits (n w : Nat) : List Nat := (List.range n).filter (fun i => w.testBit i)

/-- How many of the low `n` bits of `w` are set. -/
def popcount (n w : Nat) : Nat := (maskBits n w).length

/-- Whether no element occurs twice. -/
def noRepeat : List Nat → Bool
  | [] => true
  | a :: l => !l.contains a && noRepeat l

/-- `l` with element `i` set to `v`. -/
def setAt {α : Type} : List α → Nat → α → List α
  | [], _, _ => []
  | _ :: l, 0, v => v :: l
  | a :: l, i + 1, v => a :: setAt l i v

/-- Element `i` of `l`, or `d`. -/
def getAt {α : Type} (d : α) (l : List α) (i : Nat) : α := (l[i]?).getD d

end Sys2Proof
end

