-- ==== Sys2Proof/Machine/Crc.lean ====
section
/-! DEFINITION. The two cyclic redundancy checks: CRC-64 of the ECMA-182 polynomial (R242, R444) and CRC-32 of the
IEEE 802.3 polynomial (R617, R622). -/

namespace Sys2Proof.Machine

/-- One bit of a CRC-64, most significant bit first. -/
def crc64Bit (c : Nat) : Nat :=
  if c.testBit 63 then ((c <<< 1) ^^^ 0x42F0E1EBA9EA3693) % 2 ^ 64 else c <<< 1

/-- One byte of a CRC-64. -/
def crc64Byte (c : Nat) (b : Byte) : Nat :=
  crc64Bit (crc64Bit (crc64Bit (crc64Bit (crc64Bit (crc64Bit (crc64Bit (crc64Bit (c ^^^ (b.toNat <<< 56)))))))))

/-- CRC-64 of a list of bytes: ECMA-182, register starting at 0. -/
def crc64 (bs : List Byte) : Nat := bs.foldl crc64Byte 0

/-- One bit of a CRC-32, least significant bit first. -/
def crc32Bit (c : Nat) : Nat := if c.testBit 0 then (c >>> 1) ^^^ 0xEDB88320 else c >>> 1

/-- One byte of a CRC-32. -/
def crc32Byte (c : Nat) (b : Byte) : Nat :=
  crc32Bit (crc32Bit (crc32Bit (crc32Bit (crc32Bit (crc32Bit (crc32Bit (crc32Bit (c ^^^ b.toNat))))))))

/-- CRC-32 of a list of bytes: IEEE 802.3, register starting at all ones and inverted at the end. -/
def crc32 (bs : List Byte) : Nat := bs.foldl crc32Byte 0xFFFFFFFF ^^^ 0xFFFFFFFF

end Sys2Proof.Machine
end

