-- ==== Sys2Proof/Config.lean ====
section
/-! DEFINITION. What an implementation fixes and what the manual leaves open. Each free value is an opaque constant
with no body: nothing can evaluate it, and a claim holds whatever it is. -/

namespace Sys2Proof

/-- The n-th free value drawn from the state's counter, for a value the manual leaves open. Log: 5 (DESIGN CHOICE). -/
opaque Config.freeNat : Nat → Nat

/-- Which of the values within 2 ulp an activation (R128, by its code), exp (R142) or a Vane transcendental (R169, by its
opcode) returns at a finite FP32 encoding: the manual bounds the error and fixes no bits. Log: 7 (DESIGN CHOICE). -/
opaque Config.ulpPick : Nat → Nat → Nat

/-- Which entry of a group that is falsely declared contiguous an access translates through (R399), by the state's counter
of free values and the virtual address. Log: 127 (DESIGN CHOICE). -/
opaque Config.contigPick : Nat → Nat → Nat

/-- The bytes over which a reduction group's CRC is taken (R242), of its fields and the words of its member table: the
manual names what they hold and not their order. Log: 8 (DESIGN CHOICE). -/
opaque Config.groupBytes : List Nat → List Byte

/-- The average of R528 after one more window: from the last average, the window's power, and tau_ms. The manual names
an EWMA and not its arithmetic. Log: 9 (DESIGN CHOICE). -/
opaque Config.ewma : Nat → Nat → Nat → Nat

/-- K_PUF (R562), 48 bytes. Log: 6 (DESIGN CHOICE). -/
opaque Config.kPuf : List Byte

/-- What the factory blew into the fuses: the device serial (R568), the digests of the firmware keys by index (R584) and
of the life-cycle key. Log: 6 (DESIGN CHOICE). -/
opaque Config.serial : Nat
/-- Log: 6 (DESIGN CHOICE). -/
opaque Config.keyDigest : Nat → List Byte
/-- Log: 6 (DESIGN CHOICE). -/
opaque Config.lcKeyDigest : List Byte

/-- The public half of Dalvo's coefficient key and the built-in coefficient table (R547), which the firmware image
carries. Log: 6 (DESIGN CHOICE). -/
opaque Config.coefKey : Nat × Nat
/-- Log: 6 (DESIGN CHOICE). -/
opaque Config.builtinCoef : List Byte

end Sys2Proof
end

