-- ==== Sys2Proof/Machine/Crypto.lean ====
section
/-! DEFINITION. Cryptography the manual names: SHA-384 of FIPS 180-4 (R581), HMAC-SHA-384, the counter-mode KDF of
R572, and ECDSA and ECDH on NIST P-384 with the nonces of RFC 6979 (R577, R578). -/

namespace Sys2Proof.Machine

/-- Round constants of SHA-384. -/
def shaKLow : List Nat := [
   0x428A2F98D728AE22, 0x7137449123EF65CD, 0xB5C0FBCFEC4D3B2F, 0xE9B5DBA58189DBBC,
   0x3956C25BF348B538, 0x59F111F1B605D019, 0x923F82A4AF194F9B, 0xAB1C5ED5DA6D8118,
   0xD807AA98A3030242, 0x12835B0145706FBE, 0x243185BE4EE4B28C, 0x550C7DC3D5FFB4E2,
   0x72BE5D74F27B896F, 0x80DEB1FE3B1696B1, 0x9BDC06A725C71235, 0xC19BF174CF692694,
   0xE49B69C19EF14AD2, 0xEFBE4786384F25E3, 0x0FC19DC68B8CD5B5, 0x240CA1CC77AC9C65,
   0x2DE92C6F592B0275, 0x4A7484AA6EA6E483, 0x5CB0A9DCBD41FBD4, 0x76F988DA831153B5,
   0x983E5152EE66DFAB, 0xA831C66D2DB43210, 0xB00327C898FB213F, 0xBF597FC7BEEF0EE4,
   0xC6E00BF33DA88FC2, 0xD5A79147930AA725, 0x06CA6351E003826F, 0x142929670A0E6E70,
   0x27B70A8546D22FFC, 0x2E1B21385C26C926, 0x4D2C6DFC5AC42AED, 0x53380D139D95B3DF,
   0x650A73548BAF63DE, 0x766A0ABB3C77B2A8, 0x81C2C92E47EDAEE6, 0x92722C851482353B]

def shaKHigh : List Nat := [
   0xA2BFE8A14CF10364, 0xA81A664BBC423001, 0xC24B8B70D0F89791, 0xC76C51A30654BE30,
   0xD192E819D6EF5218, 0xD69906245565A910, 0xF40E35855771202A, 0x106AA07032BBD1B8,
   0x19A4C116B8D2D0C8, 0x1E376C085141AB53, 0x2748774CDF8EEB99, 0x34B0BCB5E19B48A8,
   0x391C0CB3C5C95A63, 0x4ED8AA4AE3418ACB, 0x5B9CCA4F7763E373, 0x682E6FF3D6B2B8A3,
   0x748F82EE5DEFB2FC, 0x78A5636F43172F60, 0x84C87814A1F0AB72, 0x8CC702081A6439EC,
   0x90BEFFFA23631E28, 0xA4506CEBDE82BDE9, 0xBEF9A3F7B2C67915, 0xC67178F2E372532B,
   0xCA273ECEEA26619C, 0xD186B8C721C0C207, 0xEADA7DD6CDE0EB1E, 0xF57D4F7FEE6ED178,
   0x06F067AA72176FBA, 0x0A637DC5A2C898A6, 0x113F9804BEF90DAE, 0x1B710B35131C471B,
   0x28DB77F523047D84, 0x32CAAB7B40C72493, 0x3C9EBE0A15C9BEBC, 0x431D67C49C100D4C,
   0x4CC5D4BECB3E42B6, 0x597F299CFC657E2A, 0x5FCB6FAB3AD6FAEC, 0x6C44198C4A475817]

/-- Initial hash value of SHA-384. -/
def shaInit : List Nat := [
   0xCBBB9D5DC1059ED8, 0x629A292A367CD507, 0x9159015A3070DD17, 0x152FECD8F70E5939,
   0x67332667FFC00B31, 0x8EB44A8768581511, 0xDB0C2E0D64F98FA7, 0x47B5481DBEFA4FA4]

def rotr64 (x n : Nat) : Nat := (x >>> n) ||| ((x <<< (64 - n)) % 2 ^ 64)

/-- The message schedule extended by one word; words newest first. -/
def shaExtend (w : List Nat) : List Nat :=
  let x15 := getAt 0 w 14
  let x2 := getAt 0 w 1
  let s0 := rotr64 x15 1 ^^^ rotr64 x15 8 ^^^ (x15 >>> 7)
  let s1 := rotr64 x2 19 ^^^ rotr64 x2 61 ^^^ (x2 >>> 6)
  ((getAt 0 w 15 + s0 + getAt 0 w 6 + s1) % 2 ^ 64) :: w

def shaSchedule : Nat → List Nat → List Nat
  | 0, w => w
  | n + 1, w => shaSchedule n (shaExtend w)

/-- The eight working variables after one round. -/
def shaRound (h : List Nat) (kw : Nat) : List Nat :=
  match h with
  | [a, b, c, d, e, f, g, hh] =>
    let s1 := rotr64 e 14 ^^^ rotr64 e 18 ^^^ rotr64 e 41
    let ch := (e &&& f) ^^^ ((2 ^ 64 - 1 - e) &&& g)
    let t1 := hh + s1 + ch + kw
    let s0 := rotr64 a 28 ^^^ rotr64 a 34 ^^^ rotr64 a 39
    let maj := (a &&& b) ^^^ (a &&& c) ^^^ (b &&& c)
    [(t1 + s0 + maj) % 2 ^ 64, a, b, c, (d + t1) % 2 ^ 64, e, f, g]
  | _ => h

def beNat (bs : List Byte) : Nat := bs.foldl (fun n b => 256 * n + b.toNat) 0

/-- The `n` big-endian bytes of `w`. -/
def beBytes (n w : Nat) : List Byte := (leBytes n w).reverse

/-- One 128-byte block. -/
def shaBlock (h : List Nat) (blk : List Byte) : List Nat :=
  let w := ((List.range 16).map (fun i => beNat ((blk.drop (8 * i)).take 8))).reverse
  let ws := (shaSchedule 64 w).reverse
  let r := (ws.zip (shaKLow ++ shaKHigh)).foldl (fun h x => shaRound h (x.1 + x.2)) h
  (h.zip r).map (fun x => (x.1 + x.2) % 2 ^ 64)

/-- The padding of a message of `n` bytes. -/
def shaPad (n : Nat) : List Byte :=
  0x80#8 :: (List.replicate ((239 - n % 128) % 128) 0 ++ beBytes 16 (8 * n))

/-- SHA-384 of a message (R581). Log: 85 (DEDUCED). -/
def sha384 (m : List Byte) : List Byte :=
  let p := m ++ shaPad m.length
  let h := (List.range (p.length / 128)).foldl (fun h i => shaBlock h ((p.drop (128 * i)).take 128)) shaInit
  ((h.take 6).map (beBytes 8)).flatten

def xorBytes (bs : List Byte) (c : Byte) : List Byte := bs.map (fun b => b ^^^ c)

/-- HMAC-SHA-384 under a key of at most 128 bytes. -/
def hmac384 (key m : List Byte) : List Byte :=
  let k := key ++ List.replicate (128 - key.length) 0
  sha384 (xorBytes k 0x5C ++ sha384 (xorBytes k 0x36 ++ m))

/-- The KDF of R572: `len` bits from parent `k`. -/
def kdf (k label ctx : List Byte) (len : Nat) : List Byte :=
  (((List.range ((len + 383) / 384)).map (fun i =>
    hmac384 k (beBytes 4 (i + 1) ++ label ++ [0] ++ ctx ++ beBytes 4 len))).flatten).take (len / 8)

/-- Parameters of NIST P-384. -/
def ecP : Nat := 0xFFFFFFFFFFFFFFFFFFFFFFFFFFFFFFFFFFFFFFFFFFFFFFFFFFFFFFFFFFFFFFFEFFFFFFFF0000000000000000FFFFFFFF
def ecN : Nat := 0xFFFFFFFFFFFFFFFFFFFFFFFFFFFFFFFFFFFFFFFFFFFFFFFFC7634D81F4372DDF581A0DB248B0A77AECEC196ACCC52973
def ecB : Nat := 0xB3312FA7E23EE7E4988E056BE3F82D19181D9C6EFE8141120314088F5013875AC656398D8A2ED19D2A85C8EDD3EC2AEF
def ecGx : Nat := 0xAA87CA22BE8B05378EB1C71EF320AD746E1D3B628BA79B9859F741E082542A385502F25DBF55296C3A545E3872760AB7
def ecGy : Nat := 0x3617DE4A96262C6F5D9E98BF9292DC29F8F41DBD289A147CE9DA3113B5F0B8C00A60B1CE1D7E819D7A431D7C90EA0E5F

/-- `a ^ e mod m`, over the low `k` bits of `e`. -/
def powMod (m : Nat) : Nat → Nat → Nat → Nat
  | 0, _, _ => 1 % m
  | k + 1, a, e => (if e.testBit 0 then a * powMod m k (a * a % m) (e / 2) else powMod m k (a * a % m) (e / 2)) % m

def invMod (m a : Nat) : Nat := powMod m 384 (a % m) (m - 2)

/-- A point of the curve; none is the point at infinity. -/
abbrev Point := Option (Nat × Nat)

def ecAdd (p q : Point) : Point :=
  match p, q with
  | none, q => q
  | p, none => p
  | some (x1, y1), some (x2, y2) =>
    if x1 = x2 then
      if (y1 + y2) % ecP = 0 then none
      else
        let l := (3 * x1 * x1 + ecP - 3) * invMod ecP (2 * y1) % ecP
        let x := (l * l + 2 * ecP - 2 * x1) % ecP
        some (x, (l * (x1 + ecP - x) + ecP - y1) % ecP)
    else
      let l := (y2 + ecP - y1) * invMod ecP (x2 + ecP - x1) % ecP
      let x := (l * l + 2 * ecP - x1 - x2) % ecP
      some (x, (l * (x1 + ecP - x) + ecP - y1) % ecP)

/-- `e` times a point, over the low `k` bits of `e`. -/
def ecMul : Nat → Nat → Point → Point
  | 0, _, _ => none
  | k + 1, e, p => if e.testBit 0 then ecAdd p (ecMul k (e / 2) (ecAdd p p)) else ecMul k (e / 2) (ecAdd p p)

def ecG : Point := some (ecGx, ecGy)

/-- The public key of a scalar. -/
def pubOf (d : Nat) : Nat × Nat := (ecMul 384 d ecG).getD (0, 0)

/-- Candidates of RFC 6979 with HMAC-SHA-384 tried in turn, until one gives r and s other than 0. -/
def signFrom (d z : Nat) : Nat → List Byte → List Byte → Nat × Nat
  | 0, _, _ => (0, 0)
  | n + 1, k, v =>
    let v1 := hmac384 k v
    let c := beNat v1
    let next (u : Unit) : Nat × Nat :=
      let _ := u
      let k1 := hmac384 k (v1 ++ [0])
      signFrom d z n k1 (hmac384 k1 v1)
    if c = 0 || ecN ≤ c then next ()
    else
      let r := ((ecMul 384 c ecG).getD (0, 0)).1 % ecN
      let s := invMod ecN c * (z + r * d) % ecN
      if r = 0 || s = 0 then next () else (r, s)

/-- The ECDSA signature of digest `e` under scalar `d` (R577). Log: 85 (DEDUCED). -/
def ecdsaSign (d e : Nat) : Nat × Nat :=
  let z := e % ecN
  let x := beBytes 48 d
  let h := beBytes 48 z
  let v0 : List Byte := List.replicate 48 1
  let k0 : List Byte := List.replicate 48 0
  let k1 := hmac384 k0 (v0 ++ [0] ++ x ++ h)
  let v1 := hmac384 k1 v0
  let k2 := hmac384 k1 (v1 ++ [1] ++ x ++ h)
  signFrom d z 256 k2 (hmac384 k2 v1)

/-- Returns of the signing engine (R578). -/
def Eng.ok : Nat := 0
def Eng.errScalar : Nat := 1
def Eng.errPoint : Nat := 2
def Eng.errSig : Nat := 3
def Eng.errKey : Nat := 4

/-- Whether X and Y name a point the engine takes (R578). -/
def pointOk (x y : Nat) : Bool :=
  x < ecP && y < ecP && !(x = 0 && y = 0) && (y * y) % ecP = (x * x * x + (ecP - 3) * x + ecB) % ecP

def scalarOk (v : Nat) : Bool := v ≠ 0 && v < ecN

/-- VERIFY (R577, R578). Log: 85 (DEDUCED). -/
def ecdsaVerify (x y e r s : Nat) : Nat :=
  if !scalarOk r || !scalarOk s then Eng.errScalar
  else if !pointOk x y then Eng.errPoint
  else
    let w := invMod ecN s
    match ecAdd (ecMul 384 (e % ecN * w % ecN) ecG) (ecMul 384 (r * w % ecN) (some (x, y))) with
    | none => Eng.errSig
    | some p => if p.1 % ecN = r then Eng.ok else Eng.errSig

/-- The private scalar of a 448-bit output (R573). -/
def scalarOf (c : List Byte) : Nat := beNat c % (ecN - 1) + 1

/-- An ASCII label. -/
def ascii (l : List Nat) : List Byte := l.map (BitVec.ofNat 8)

end Sys2Proof.Machine
end

