-- ==== Sys2Proof/Machine/Codes.lean ====
section
/-! DEFINITION. The manual's codes: completion statuses (R392 and the chapters' own ranges), set-up command
statuses (R355), event codes (R365 and the chapters' own), sluice abort reasons (R274), opcodes (R360). -/

namespace Sys2Proof.Machine

def Status.success : Nat := 0x0000
def Status.badVersion : Nat := 0x0001
def Status.badForm : Nat := 0x0002
def Status.badRank : Nat := 0x0003
def Status.notPermitted : Nat := 0x0004
def Status.badEvent : Nat := 0x0005
def Status.contextLost : Nat := 0x0006
def Status.badTarget : Nat := 0x0007
def Status.translationFault : Nat := 0x0008
def Status.memoryError : Nat := 0x0009
def Status.tileFault : Nat := 0x000A
def Status.meshFault : Nat := 0x000B
def Status.resourceLost : Nat := 0x000C
def Status.quernOverflow : Nat := 0x000D
def Status.cancelled : Nat := 0x000E
def Status.stepTooLong : Nat := 0x000F
def Status.badActTable : Nat := 0x0010
def Status.badGroupTable : Nat := 0x0011
def Status.badIndex : Nat := 0x0012
def Status.badSequence : Nat := 0x0013
def Status.badFolio : Nat := 0x0014
def Status.vaneBadInstr : Nat := 0x0018
def Status.vaneBadOperand : Nat := 0x0019
def Status.vaneMisaligned : Nat := 0x001A
def Status.vaneSramRange : Nat := 0x001B
def Status.vanePcRange : Nat := 0x001C
def Status.vaneTrap : Nat := 0x001D
def Status.vaneTimeout : Nat := 0x001E
def Status.groupTableFull : Nat := 0x0020
def Status.badGroup : Nat := 0x0021
def Status.badMemberTable : Nat := 0x0022
def Status.groupMismatch : Nat := 0x0023
def Status.groupTimeout : Nat := 0x0024
def Status.groupCancelled : Nat := 0x0025
def Status.badSluice : Nat := 0x0028
def Status.sluiceTableFull : Nat := 0x0029
def Status.badParticipantTable : Nat := 0x002A
def Status.sluiceAborted : Nat := 0x002B
def Status.alreadyCommitted : Nat := 0x002C
def Status.commitUnconfirmed : Nat := 0x002D
def Status.sluiceInDoubt : Nat := 0x002E
def Status.badBinding : Nat := 0x0030
def Status.badPond : Nat := 0x0031
def Status.pondBusy : Nat := 0x0032
def Status.rebindTimeout : Nat := 0x0033
def Status.rebindFault : Nat := 0x0034
def Status.instanceReset : Nat := 0x0035
def Status.unitBusy : Nat := 0x0036
def Status.unitFailedTest : Nat := 0x0037
def Status.badRoot : Nat := 0x0040
def Status.badBitmap : Nat := 0x0041
def Status.dirtyState : Nat := 0x0042
def Status.instState : Nat := 0x0050
def Status.instNotIdle : Nat := 0x0051
def Status.badImage : Nat := 0x0052
def Status.imageMismatch : Nat := 0x0053
def Status.hostAccessError : Nat := 0x0054
def Status.saveAreaShort : Nat := 0x0055
def Status.badMere : Nat := 0x0060
def Status.mereTableFull : Nat := 0x0061
def Status.mereBusy : Nat := 0x0062
def Status.windowTableFull : Nat := 0x0063
def Status.badWindow : Nat := 0x0064
def Status.pushTableFull : Nat := 0x0065
def Status.badSubscription : Nat := 0x0066
def Status.notJoined : Nat := 0x0067
def Status.notAnchor : Nat := 0x0068

def Status.badCoefTable : Nat := 0x0070
def Status.coefRollback : Nat := 0x0071

def Event.resourceLost : Nat := 0x0001
def Event.pondResized : Nat := 0x0002
def Event.pondRegrown : Nat := 0x0003
def Event.beatDone : Nat := 0x0004
def Event.beatLag : Nat := 0x0005
def Event.saveAreaShort : Nat := 0x0006
def Event.contextLost : Nat := 0x0007
def Event.queueError : Nat := 0x0008
def Event.cqStalled : Nat := 0x0009
def Event.apertureFault : Nat := 0x000A
def Event.eqOverflow : Nat := 0x000B
def Event.quiesced : Nat := 0x0100
def Event.instanceIdle : Nat := 0x0101
def Event.managerNotice : Nat := 0x0102
def Event.weirMiss : Nat := 0x0200
def Event.weirMode : Nat := 0x0201
def Event.linkDown : Nat := 0x0300
def Event.linkUp : Nat := 0x0301
def Event.linkDegraded : Nat := 0x0302
def Event.linkLight : Nat := 0x0303
def Event.fabricJoined : Nat := 0x0400
def Event.joinRejected : Nat := 0x0401
def Event.groupReport : Nat := 0x0402
def Event.deviceUnreachable : Nat := 0x0403
def Event.deviceReachable : Nat := 0x0404
def Event.faultReport : Nat := 0x0405
def Event.pushEnded : Nat := 0x0406
def Event.croak : Nat := 0x0500
def Event.thermal : Nat := 0x0501
def Event.thermalTrip : Nat := 0x0502
def Event.sailSlopeMiss : Nat := 0x0503
def Event.tallyBacklog : Nat := 0x0600
def Event.tallyOverflow : Nat := 0x0601
def Event.tallyUnsigned : Nat := 0x0602
def Event.tallyCoef : Nat := 0x0603
def Event.securityStatus : Nat := 0x0700
def Event.brumAbandoned : Nat := 0x0800
def Event.timeStatus : Nat := 0x0801
def Event.fwActivated : Nat := 0x0900
def Event.mwRestarted : Nat := 0x0901
def Event.setupUnlocked : Nat := 0x0902
def Event.svnCommitted : Nat := 0x0903
def Event.errThreshold : Nat := 0x0A00
def Event.errPoison : Nat := 0x0A01
def Event.fenceNotSaved : Nat := 0x0A02

def Cmd.ok : Nat := 0
def Cmd.badForm : Nat := 1
def Cmd.badVersion : Nat := 2
def Cmd.exists_ : Nat := 3
def Cmd.notFound : Nat := 4
def Cmd.inUse : Nat := 5
def Cmd.quota : Nat := 6
def Cmd.badContext : Nat := 7
def Cmd.dbLineShared : Nat := 8
def Cmd.abandoned : Nat := 9

def Reason.requested : Nat := 1
def Reason.conflict : Nat := 2
def Reason.capacity : Nat := 3
def Reason.quernOverflow : Nat := 4
def Reason.opFailed : Nat := 5
def Reason.fault : Nat := 6
def Reason.timeout : Nat := 7
def Reason.instanceReset : Nat := 8
def Reason.quiesce : Nat := 9

end Sys2Proof.Machine
end

