-- ==== Sys2Proof/Machine/Parts/Boot.lean ====
section
/-! DEFINITION. Reset, boot, flash, firmware and management (23_reset_boot_management). -/

namespace Sys2Proof.Machine

/-- An image as its flash slot holds it (R618): header fields, and the digest of the whole image. -/
structure Image where
  kind : Nat
  key : Nat
  svn : Nat
  release : Nat
  digest : List Byte
  /-- the checks of R584 and R618 that do not change: digest of key, reserved fields, part, signature -/
  genuine : Bool
  deriving DecidableEq, Repr

/-- A Tally checkpoint in flash (R617). -/
structure Checkpoint where
  seq : Nat
  hash : List Byte
  time : Nat
  state : Nat
  mac : List Byte
  deriving DecidableEq, Repr

/-- Codes of management responses (R570, R586, R628). -/
inductive Resp where
  | ok | notPrivileged | badRequest | busy
  | lcOk | lcConfirm | lcBadToken | lcNotAllowed | lcBusy | lcFuseFail
  | spdm | spdmError
  deriving DecidableEq, Repr

/-- A management response: the message it answers, its code and bytes. -/
structure Reply where
  message : Nat
  code : Resp
  data : List Byte
  deriving DecidableEq, Repr

/-- Boot and management. -/
structure BootPart where
  /-- bits [15:0] of GSET_RESET_CAUSE (R613) -/
  cause : Nat
  stage : Nat
  ready : Bool
  /-- PERST_N is low -/
  perst : Bool
  fallback : Bool
  bootFail : Bool
  /-- time each boot step ended, in ns (R628) -/
  times : List Nat
  /-- SLOT_ID straps as the pins hold them (R659) -/
  straps : Nat
  /-- a reset that waits 10 ms: DEVICE_RESET (R628) -/
  resetDue : Bool
  /-- flash slots A and B of the Millwright (0, 1), the Newt microcode (2, 3) and the X-die firmware (4, 5) -/
  slots : Tab Image
  /-- active slots: Millwright, Newt of each Z-die, firmware of each X-die (R617) -/
  mwActive : Nat
  newtActive : List Nat
  xActive : List Nat
  /-- slot the Millwright runs; image each Z-die and each leat port runs -/
  mwSlot : Nat
  newtRuns : Tab Image
  portRuns : Tab Image
  /-- measurements 1 to 9 (R587) -/
  measures : Tab (List Byte)
  /-- activations that wait for a fence (R631, R632): component, slot -/
  activating : List (Nat × Nat)
  /-- the deployment configuration (R622), 64 bytes -/
  config : List Byte
  checkpoint : Option Checkpoint
  /-- certificate chain of slot 0 and the leaf's public key (R587) -/
  cert : List Byte
  certKey : Nat × Nat
  /-- the Millwright runs; cause of its last reset (1 watchdog, 2 activation); times of watchdog expiries -/
  mwUp : Bool
  mwCause : Nat
  mwPrev : Nat
  /-- failed starts since the Millwright last ran (R620, R625) -/
  mwFails : Nat
  expiries : List Nat
  /-- privileged requests are accepted over SMBus and I3C (R627) -/
  bmcPriv : Bool
  /-- MCTP endpoint IDs by transport: 0 PCIe, 1 SMBus, 2 I3C -/
  eids : Tab Nat
  /-- management responses sent, oldest first -/
  replies : List Reply
  deriving DecidableEq, Repr

end Sys2Proof.Machine
end

