-- ==== Sys2Proof/Machine/Parts/Clock.lean ====
section
/-! DEFINITION. Clocks, the timebase and brumation (22_clocks_time_brumation). -/

namespace Sys2Proof.Machine

/-- Clocks, time and brumation. -/
structure ClockPart where
  /-- the timebase, in units of 2^-32 ns (R596) -/
  tb : Nat
  /-- its source (R608): 0 = timebase clock, 1 = CLK_REF, 2 = internal oscillator -/
  src : Nat
  rootLocked : Bool
  refPresent : Bool
  /-- learned rate correction per tick, in units of 2^-32 ns (R598) -/
  corr : Int
  /-- offset still to be made up, in ns: positive = behind (R598) -/
  slew : Int
  /-- bits [63:32] latched by a read of GSET_TIME_LO, and GSET_TIME_SET_LO as written (R608) -/
  latch : Word
  setLo : Word
  uncertain : Bool
  setBad : Bool
  jumps : Nat
  /-- last measured offset, in ns -/
  offset : Int
  domSel : Nat
  /-- clock domains whose droop stretcher is active (R594) -/
  stretching : List Nat
  /-- GSET_BRUM_CTL -/
  brumEnable : Bool
  idleS : Nat
  /-- entry step in progress, 1 to 7; 0 = not entering (R602) -/
  entryStep : Nat
  lastAbort : Nat
  lastSrc : Nat
  /-- source of the wake event recorded since entry step 1 (R608), 0 = none -/
  wakeSrc : Nat
  /-- the device is in brumation; steps of the wake done (R606) -/
  asleep : Bool
  wakeStep : Nat
  wordLo : Word
  wordHi : Word
  /-- count of SLEEPING writes since power-on reset (R607) -/
  entries : Nat
  /-- host-link speed and width before entry step 6 -/
  linkBefore : Nat × Nat
  deriving DecidableEq, Repr

end Sys2Proof.Machine
end

