-- ==== Sys2Proof/Machine/Numeric.lean ====
section
/-! DEFINITION. Numbers: the formats of R35 to R42, exact values, conversion and rounding (R52 to R61), binary32
arithmetic under R48 and R51, MX quantisation (R57), and Quern sums (R46, R47, R65 to R75). -/

namespace Sys2Proof.Machine

/-- A value the device reads: NaN, an infinity, or (-1)^neg × m × 2^e exactly. -/
inductive Val where
  | nan
  | inf (neg : Bool)
  | fin (neg : Bool) (m : Nat) (e : Int)
  deriving DecidableEq, Repr

/-- A floating-point layout of R36. `kind`: 0 = infinities and NaNs, 1 = NaN only at all ones (E4M3), 2 = every
encoding finite. -/
structure FloatFmt where
  ebits : Nat
  mbits : Nat
  bias : Nat
  kind : Nat
  deriving DecidableEq, Repr

/-- What one element of a format is: a float, or an integer of `bits` bits that counts units of 2^-frac. -/
inductive Elem where
  | float (f : FloatFmt)
  | int (bits frac : Nat)
  deriving DecidableEq, Repr

def FloatFmt.fp32 : FloatFmt := { ebits := 8, mbits := 23, bias := 127, kind := 0 }
def FloatFmt.bf16 : FloatFmt := { ebits := 8, mbits := 7, bias := 127, kind := 0 }
def FloatFmt.fp16 : FloatFmt := { ebits := 5, mbits := 10, bias := 15, kind := 0 }
def FloatFmt.e4m3 : FloatFmt := { ebits := 4, mbits := 3, bias := 7, kind := 1 }
def FloatFmt.e5m2 : FloatFmt := { ebits := 5, mbits := 2, bias := 15, kind := 0 }
def FloatFmt.e3m2 : FloatFmt := { ebits := 3, mbits := 2, bias := 3, kind := 2 }
def FloatFmt.e2m3 : FloatFmt := { ebits := 2, mbits := 3, bias := 1, kind := 2 }
def FloatFmt.e2m1 : FloatFmt := { ebits := 2, mbits := 1, bias := 1, kind := 2 }

/-- MX element floats: E4M3 and E5M2 elements convert with saturation, so the layout is that of the plain format. -/
def elemOf (fmt : Nat) : Option Elem :=
  match fmt with
  | 0x01 => some (.float .fp32)
  | 0x02 => some (.float .bf16)
  | 0x03 => some (.float .fp16)
  | 0x04 => some (.float .e4m3)
  | 0x05 => some (.float .e5m2)
  | 0x06 => some (.int 8 0)
  | 0x07 => some (.int 4 0)
  | 0x08 => some (.int 32 0)
  | 0x09 => some (.float .e4m3)
  | 0x0A => some (.float .e5m2)
  | 0x0B => some (.float .e3m2)
  | 0x0C => some (.float .e2m3)
  | 0x0D => some (.float .e2m1)
  | 0x0E => some (.int 8 6)
  | 0x0F => some (.int 4 2)
  | _ => none

/-- Whether a code is an MX format (R35). -/
def isMx (fmt : Nat) : Bool := 0x09 ≤ fmt && fmt ≤ 0x0F

/-- Bits of one element (R35); 128 for Q128. -/
def fmtBits (fmt : Nat) : Nat :=
  match fmt with
  | 0x01 | 0x08 => 32
  | 0x02 | 0x03 => 16
  | 0x0B | 0x0C => 6
  | 0x07 | 0x0D | 0x0F => 4
  | 0x10 => 128
  | _ => 8

/-- Stone-array operand formats (R43). -/
def isStone (fmt : Nat) : Bool := (0x02 ≤ fmt && fmt ≤ 0x07) || isMx fmt

/-- Formats the epilogue writes (R43). -/
def isOutput (fmt : Nat) : Bool := 0x01 ≤ fmt && fmt ≤ 0x10

/-- Formats pack reads and writes (R43). -/
def isPack (fmt : Nat) : Bool := 0x01 ≤ fmt && fmt ≤ 0x0F && fmt ≠ 0x08

/-- The value of a float encoding (R36, R37). -/
def FloatFmt.decode (f : FloatFmt) (w : Nat) : Val :=
  let neg := w.testBit (f.ebits + f.mbits)
  let ef := bitsOf w f.mbits f.ebits
  let mf := bitsOf w 0 f.mbits
  if f.kind = 0 ∧ ef + 1 = 2 ^ f.ebits then (if mf = 0 then .inf neg else .nan)
  else if f.kind = 1 ∧ ef + 1 = 2 ^ f.ebits ∧ mf + 1 = 2 ^ f.mbits then .nan
  else if ef = 0 then .fin neg mf (1 - (f.bias : Int) - f.mbits)
  else .fin neg (2 ^ f.mbits + mf) ((ef : Int) - f.bias - f.mbits)

/-- The value of an element's bits before any block scale (R36, R38, R41). -/
def Elem.decode (x : Elem) (w : Nat) : Val :=
  match x with
  | .float f => f.decode w
  | .int bits frac =>
    let v := signedOf bits w
    .fin (v < 0) v.natAbs (-(frac : Int))

/-- A value multiplied by a power of two. -/
def Val.scale (k : Int) : Val → Val
  | .fin neg m e => .fin neg m (e + k)
  | v => v

/-- The value of an MX element under its scale byte (R39, R40). -/
def mxValue (x : Elem) (scale w : Nat) : Val :=
  if scale = 0xFF then .nan else (x.decode w).scale ((scale : Int) - 127)

def Val.isNan : Val → Bool
  | .nan => true
  | _ => false

def Val.isZero : Val → Bool
  | .fin _ 0 _ => true
  | _ => false

/-- `m × 2^e ≤ m' × 2^e'`. -/
def leMag (m : Nat) (e : Int) (m' : Nat) (e' : Int) : Bool :=
  if e ≤ e' then m ≤ m' <<< (e' - e).toNat else m <<< (e - e').toNat ≤ m'

/-- `m × 2^e` in whole units of 2^q, rounded by mode `rnd` (R53, R59): 0 = RNE, 1 = RTZ, 2 = SR with random `u`. -/
def roundUnits (rnd u m : Nat) (e q : Int) : Nat :=
  if q ≤ e then m <<< (e - q).toNat
  else
    let sh := (q - e).toNat
    let a := m >>> sh
    let r := m - (a <<< sh)
    if rnd = 0 then (if 2 ^ sh < 2 * r ∨ (2 ^ sh = 2 * r ∧ a % 2 = 1) then a + 1 else a)
    else if rnd = 2 then (if u < (r <<< 24) >>> sh then a + 1 else a)
    else a

/-- The largest finite magnitude of a float format (R36): its significand and exponent. -/
def FloatFmt.maxFin (f : FloatFmt) : Nat × Int :=
  if f.kind = 0 then (2 ^ (f.mbits + 1) - 1, (2 ^ f.ebits - 2 : Int) - f.bias - f.mbits)
  else if f.kind = 1 then (2 ^ (f.mbits + 1) - 2, (2 ^ f.ebits - 1 : Int) - f.bias - f.mbits)
  else (2 ^ (f.mbits + 1) - 1, (2 ^ f.ebits - 1 : Int) - f.bias - f.mbits)

/-- The encoding of a magnitude `n × 2^q` of the format, with `n` at most 2^(M+1) (R36). -/
def FloatFmt.encode (f : FloatFmt) (neg : Bool) (n : Nat) (q : Int) : Nat :=
  let s := b2n neg * 2 ^ (f.ebits + f.mbits)
  if n < 2 ^ f.mbits then s + n
  else if n = 2 ^ (f.mbits + 1) then s + (q + 1 + f.mbits + f.bias).toNat * 2 ^ f.mbits
  else s + (q + f.mbits + f.bias).toNat * 2 ^ f.mbits + (n - 2 ^ f.mbits)

/-- The canonical NaN (R36, R37). -/
def FloatFmt.qnan (f : FloatFmt) : Nat :=
  if f.kind = 1 then 2 ^ (f.ebits + f.mbits) - 1
  else (2 ^ f.ebits - 1) * 2 ^ f.mbits + 2 ^ (f.mbits - 1)

def FloatFmt.infBits (f : FloatFmt) (neg : Bool) : Nat :=
  b2n neg * 2 ^ (f.ebits + f.mbits) + (2 ^ f.ebits - 1) * 2 ^ f.mbits

def FloatFmt.maxBits (f : FloatFmt) (neg : Bool) : Nat :=
  f.encode neg f.maxFin.1 f.maxFin.2

/-- Numeric flags of R62: bit 0 nan_in, bit 1 invalid, bit 2 overflow. -/
def flagNan : Nat := 1
def flagInvalid : Nat := 2
def flagOverflow : Nat := 4

/-- nan_in where any of the values read as inputs is NaN (R62, R172). -/
def nanIn (l : List Val) : Nat := if l.any Val.isNan then flagNan else 0

/-- Conversion to a float format (R53, R54): the encoding and the flags. -/
def FloatFmt.convert (f : FloatFmt) (rnd : Nat) (sat : Bool) (u : Nat) (v : Val) : Nat × Nat :=
  match v with
  | .nan => (f.qnan, 0)
  | .inf neg => if f.kind = 0 && !sat then (f.infBits neg, 0) else (f.maxBits neg, flagOverflow)
  | .fin neg m e =>
    if m = 0 then (f.encode neg 0 0, 0)
    else
      let low : Int := 1 - (f.bias : Int) - f.mbits
      let q : Int := max ((m.log2 : Int) + e - f.mbits) low
      let n := roundUnits rnd u m e q
      if leMag n q f.maxFin.1 f.maxFin.2 then (f.encode neg n q, 0)
      else if sat || rnd = 1 || f.kind = 2 then (f.maxBits neg, flagOverflow)
      else if f.kind = 0 then (f.infBits neg, flagOverflow)
      else (f.qnan, flagOverflow)

/-- Conversion to an integer format (R53, R54); MX integers clamp symmetrically. A NaN in an MX format never reaches
an element (R57). Log: 32 (DEDUCED). -/
def convertInt (bits frac rnd u : Nat) (v : Val) : Nat × Nat :=
  let most := 2 ^ (bits - 1) - 1
  let least := if frac = 0 then most + 1 else most
  match v with
  | .nan => (0, flagInvalid)
  | .inf neg => (unsignedOf bits (if neg then -(most : Int) else most), flagOverflow)
  | .fin neg m e =>
    let n := if m = 0 then 0 else roundUnits rnd u m e (-(frac : Int))
    let top := if neg then least else most
    if n ≤ top then (unsignedOf bits (if neg then -(n : Int) else n), 0)
    else (unsignedOf bits (if neg then -(top : Int) else top), flagOverflow)

/-- Conversion of a value to an element (R53, R54): the bits and the flags. -/
def Elem.convert (x : Elem) (rnd : Nat) (sat : Bool) (u : Nat) (v : Val) : Nat × Nat :=
  match x with
  | .float f => f.convert rnd sat u v
  | .int bits frac => convertInt bits frac rnd u v

/-- A value rounded to binary32 by RNE (R48, R51), as its encoding with the overflow flag. -/
def toF32 (v : Val) : Nat × Nat := FloatFmt.fp32.convert 0 false 0 v

def f32 (w : Nat) : Val := FloatFmt.fp32.decode w

/-- A binary32 encoding with every NaN made the canonical one (R37). -/
def f32Canon (w : Nat) : Nat := if (f32 w).isNan then FloatFmt.fp32.qnan else w

/-- Signed significand over a common exponent. -/
def sgn (neg : Bool) (m : Nat) : Int := if neg then -(m : Int) else m

/-- An exact sum (R48): its value, and invalid where infinities of both signs meet. -/
def Val.add (a b : Val) : Val × Nat :=
  match a, b with
  | .nan, _ => (.nan, 0)
  | _, .nan => (.nan, 0)
  | .inf x, .inf y => if x = y then (.inf x, 0) else (.nan, flagInvalid)
  | .inf x, _ => (.inf x, 0)
  | _, .inf y => (.inf y, 0)
  | .fin x m e, .fin y n g =>
    let q := min e g
    let t := sgn x (m <<< (e - q).toNat) + sgn y (n <<< (g - q).toNat)
    if t = 0 then (.fin (x && y) 0 0, 0) else (.fin (t < 0) t.natAbs q, 0)

/-- An exact product: NaN and invalid for an infinity times zero (R46). -/
def Val.mul (a b : Val) : Val × Nat :=
  match a, b with
  | .nan, _ => (.nan, 0)
  | _, .nan => (.nan, 0)
  | .inf x, .inf y => (.inf (x != y), 0)
  | .inf x, .fin y n _ => if n = 0 then (.nan, flagInvalid) else (.inf (x != y), 0)
  | .fin x m _, .inf y => if m = 0 then (.nan, flagInvalid) else (.inf (x != y), 0)
  | .fin x m e, .fin y n g => (.fin (x != y) (m * n) (e + g), 0)

/-- A quotient to at least 64 significant bits with the rest kept as a sticky bit, which every rounding of R53 to a
format of fewer bits takes as the exact value. -/
def Val.div (a b : Val) : Val × Nat :=
  match a, b with
  | .nan, _ => (.nan, 0)
  | _, .nan => (.nan, 0)
  | .inf _, .inf _ => (.nan, flagInvalid)
  | .inf x, .fin y _ _ => (.inf (x != y), 0)
  | .fin x _ _, .inf y => (.fin (x != y) 0 0, 0)
  | .fin x m e, .fin y n g =>
    if n = 0 then (if m = 0 then (.nan, flagInvalid) else (.inf (x != y), 0))
    else
      let k := 64 + n.log2
      let q := (m <<< k) / n
      (.fin (x != y) (2 * q + b2n (q * n ≠ m <<< k)) (e - g - k - 1), 0)

/-- The integer square root, bit by bit from bit `i` - 1. -/
def isqrtFrom (n : Nat) : Nat → Nat → Nat
  | 0, r => r
  | i + 1, r => isqrtFrom n i (if (r + 2 ^ i) * (r + 2 ^ i) ≤ n then r + 2 ^ i else r)

/-- A square root to at least 64 significant bits with a sticky bit; of a negative value, NaN and invalid. -/
def Val.sqrt (a : Val) : Val × Nat :=
  match a with
  | .nan => (.nan, 0)
  | .inf neg => if neg then (.nan, flagInvalid) else (.inf false, 0)
  | .fin neg m e =>
    if m = 0 then (.fin neg 0 0, 0)
    else if neg then (.nan, flagInvalid)
    else
      let k := 128 + (e % 2).toNat
      let n := m <<< k
      let r := isqrtFrom n (n.log2 / 2 + 1) 0
      (.fin false (2 * r + b2n (r * r ≠ n)) ((e - k) / 2 - 1), 0)

/-- Whether `a` is below `b`; false where either is NaN. Zeros are equal. -/
def Val.lt (a b : Val) : Bool :=
  match a, b with
  | .nan, _ => false
  | _, .nan => false
  | .inf x, .inf y => x && !y
  | .inf x, _ => x
  | _, .inf y => !y
  | .fin x m e, .fin y n g =>
    if x && m ≠ 0 then (if y && n ≠ 0 then leMag n g m e && !leMag m e n g else true)
    else if y && n ≠ 0 then false
    else leMag m e n g && !leMag n g m e

/-- Magnitude. -/
def Val.abs : Val → Val
  | .inf _ => .inf false
  | .fin _ m e => .fin false m e
  | .nan => .nan

def Val.neg : Val → Val
  | .inf x => .inf (!x)
  | .fin x m e => .fin (!x) m e
  | .nan => .nan

/-- binary32 operations: exact result rounded once (R48); the flags of R62 they set. -/
def f32Add (a b : Nat) : Nat × Nat :=
  let (v, x) := (f32 a).add (f32 b)
  let (w, y) := toF32 v
  (w, x ||| y)

def f32Mul (a b : Nat) : Nat × Nat :=
  let (v, x) := (f32 a).mul (f32 b)
  let (w, y) := toF32 v
  (w, x ||| y)

def f32Div (a b : Nat) : Nat × Nat :=
  let (v, x) := (f32 a).div (f32 b)
  let (w, y) := toF32 v
  (w, x ||| y)

/-- binary32 negation of an encoding. -/
def f32Neg (a : Nat) : Nat := a ^^^ 0x80000000

/-- Philox4x32-10's round constants and one round (R60). -/
def philoxRound (k0 k1 c0 c1 c2 c3 : Nat) : Nat × Nat × Nat × Nat :=
  let p0 := 0xD2511F53 * c0
  let p1 := 0xCD9E8D57 * c2
  (((p1 >>> 32) ^^^ c1 ^^^ k0), p1 % 2 ^ 32, ((p0 >>> 32) ^^^ c3 ^^^ k1), p0 % 2 ^ 32)

def philoxGo : Nat → Nat → Nat → Nat × Nat × Nat × Nat → Nat
  | 0, _, _, c => c.1
  | n + 1, k0, k1, c =>
    philoxGo n ((k0 + 0x9E3779B9) % 2 ^ 32) ((k1 + 0xBB67AE85) % 2 ^ 32) (philoxRound k0 k1 c.1 c.2.1 c.2.2.1 c.2.2.2)

/-- The 24-bit random number of an element (R60). -/
def philox (seed stream i j : Nat) : Nat :=
  philoxGo 10 (seed % 2 ^ 32) ((seed >>> 32) % 2 ^ 32) (j % 2 ^ 32, i % 2 ^ 32, stream % 2 ^ 32, 0) >>> 8

/-- Exponent of the largest normal value of an MX element format (R56). -/
def emaxOf (fmt : Nat) : Int :=
  match fmt with
  | 0x09 => 8
  | 0x0A => 15
  | 0x0B => 4
  | 0x0C => 2
  | 0x0D => 2
  | _ => 0

/-- floor(log2 v) of the largest finite magnitude of a block, if any value is not zero (R57). -/
def blockLog (vs : List Val) : Option Int :=
  vs.foldl (fun r v => match v with
    | .fin _ m e =>
      if m = 0 then r
      else match r with
        | none => some ((m.log2 : Int) + e)
        | some x => some (max x ((m.log2 : Int) + e))
    | _ => r) none

/-- A block quantised to an MX format (R57): scale byte, element bits, flags. `us` are the random numbers. A block without
a finite value takes X = -127, as one whose finite values are all zero. Log: 123 (DESIGN CHOICE). -/
def quantise (fmt rnd : Nat) (vs : List Val) (us : List Nat) : Nat × List Nat × Nat :=
  if vs.any Val.isNan then (0xFF, vs.map (fun _ => 0), 0)
  else
    let x : Int := match blockLog vs with
      | none => -127
      | some l => max (-127) (min 127 (l - emaxOf fmt))
    let r := (vs.zip us).map (fun p => match elemOf fmt with
      | some el => el.convert rnd true p.2 (p.1.scale (-x))
      | none => (0, 0))
    ((x + 127).toNat, r.map (·.1), r.foldl (fun f p => f ||| p.2) 0)

/-- Elements of `w` bits packed densely from bit 0 (R42). -/
def packBits (w : Nat) (l : List Nat) : List Byte :=
  leBytes ((l.length * w + 7) / 8) (l.foldr (fun v acc => v % 2 ^ w + acc <<< w) 0)

/-- `n` elements of `w` bits of a densely packed run (R42). -/
def unpackBits (w n : Nat) (bs : List Byte) : List Nat :=
  let v := leNat bs
  (List.range n).map (fun i => bitsOf v (i * w) w)

/-- A Quern partial sum (R66, R73, R675): 144-bit integer, tag (0 FINITE, 1 POS_INF, 2 NEG_INF, 3 NAN), overflow mark,
and whether a term of either infinity has entered. -/
structure Quern where
  n : Nat
  tag : Nat
  mark : Bool
  pinf : Bool
  ninf : Bool
  deriving DecidableEq, Repr

def Quern.zero : Quern := { n := 0, tag := 0, mark := false, pinf := false, ninf := false }

/-- Tags combined (R47). -/
def combineTags (a b : Nat) : Nat :=
  if a = 3 ∨ b = 3 ∨ (a = 1 ∧ b = 2) ∨ (a = 2 ∧ b = 1) then 3
  else if a = 1 ∨ b = 1 then 1
  else if a = 2 ∨ b = 2 then 2
  else 0

/-- Two partial sums added (R68, R73). -/
def Quern.add (a b : Quern) : Quern :=
  { n := (a.n + b.n) % 2 ^ 144, tag := combineTags a.tag b.tag, mark := a.mark || b.mark
    pinf := a.pinf || b.pinf, ninf := a.ninf || b.ninf }

/-- Whether an integer lies in the range of R66. -/
def inQuern (n : Int) : Bool := -(2 ^ 127 : Int) ≤ n && n < (2 ^ 127 : Int)

/-- A value as a term of a Quern sum on the grid of an anchor (R67, R73). -/
def termOf (anchor : Int) (v : Val) : Quern :=
  match v with
  | .nan => { Quern.zero with tag := 3 }
  | .inf neg => if neg then { Quern.zero with tag := 2, ninf := true } else { Quern.zero with tag := 1, pinf := true }
  | .fin neg m e =>
    let n := sgn neg (roundUnits 0 0 m e (anchor - 111))
    { Quern.zero with n := unsignedOf 144 n, mark := !inQuern n }

/-- Whether a finished sum has overflowed (R73). -/
def Quern.overflowed (a : Quern) : Bool := a.mark || !inQuern (signedOf 144 a.n)

/-- The value of a finished sum that did not overflow (R49, R50, R72). -/
def Quern.value (anchor : Int) (a : Quern) : Val :=
  if a.tag = 3 then .nan
  else if a.tag = 1 then .inf false
  else if a.tag = 2 then .inf true
  else
    let v := signedOf 144 a.n
    .fin (v < 0) v.natAbs (anchor - 111)

/-- The invalid flag of a sum's terms (R675). -/
def Quern.flags (a : Quern) : Nat := if a.pinf && a.ninf then flagInvalid else 0

/-- A Q128 value's 128-bit integer and tag as written to memory (R71, R75). -/
def Quern.q128 (a : Quern) : Nat × Nat :=
  if a.overflowed then (0, 3) else if a.tag ≠ 0 then (0, a.tag) else (a.n % 2 ^ 128, 0)

/-- A contribution read from memory (R71): its integer sign-extended, its tag judged for R675. -/
def quernOf (n tag : Nat) : Quern :=
  if tag = 0 then { Quern.zero with n := unsignedOf 144 (signedOf 128 n) }
  else { Quern.zero with tag, pinf := tag = 1, ninf := tag = 2 }

/-- The tree of R80 over contributions by rank: `lo` and `size` a power of two 2^k. -/
def treeSum (c : List Nat) : Nat → Nat → Nat × Nat
  | 0, lo => (getAt 0 c lo, 0)
  | k + 1, lo =>
    let h := 2 ^ k
    if c.length ≤ lo + h then treeSum c k lo
    else
      let a := treeSum c k lo
      let b := treeSum c k (lo + h)
      let r := f32Add a.1 b.1
      (r.1, a.2 ||| b.2 ||| r.2)

/-- The group result of FP32 contributions (R80): the encoding and flags. -/
def treeResult (c : List Nat) : Nat × Nat :=
  treeSum c (if c.length ≤ 1 then 0 else (c.length - 1).log2 + 1) 0

end Sys2Proof.Machine
end

