-- ==== Sys2Proof/Machine/Parts/Engines.lean ====
section
/-! DEFINITION. The engines' state: mill ops on Millstone tiles (04_millstone_tile, 05_mill_operations), Vane operations
with the registers of their ranks (06_vane_instruction_set), and reduction groups with their runs
(08_mesh_and_reduction). -/

namespace Sys2Proof.Machine

/-- A partial sum of the stone array (R84, R85): a Quern sum, or a canonical FP32 fold (none before its first block). -/
inductive Cell where
  | q (a : Quern)
  | f (v : Option Nat)
  deriving DecidableEq, Repr

/-- Finished accumulators delivered to a home rank (R115, R116): of a lane's item and part. -/
structure Delivery where
  lane : Nat
  item : Nat
  part : Nat
  cells : List Cell
  deriving DecidableEq, Repr

/-- The row maxima of one part's pass 1 over an attend item (R144): by row, the maximum and whether a score's sum
overflowed. -/
structure Maxima where
  lane : Nat
  item : Nat
  part : Nat
  rows : List (Nat × Bool)
  deriving DecidableEq, Repr

/-- One rank of a mill op: its tile, lane and part (R114, R115), how far it is, and its accumulator sets (R84). -/
structure MillRank where
  tile : Nat
  lane : Nat
  part : Nat
  /-- its K range -/
  k0 : Nat
  k1 : Nat
  /-- work items it has drained or delivered -/
  done : Nat
  /-- panels it has consumed of the item that accumulates -/
  q : Nat
  /-- the set that accumulates -/
  cells : List Cell
  /-- the other set: item `done` with its last k-step added, until it is drained or delivered -/
  full : Option (List Cell) := none
  /-- fills that have landed: operand × 2^41 + panel × 2 + half; for attend, pages of the window -/
  landed : List Nat
  /-- largest magnitude so far, as an FP32 encoding (R132) -/
  amax : Nat
  deriving DecidableEq, Repr

/-- A mill op in the engine queues of its tiles. -/
structure MillRun where
  /-- order of entering the queues -/
  order : Nat
  /-- anchor of each stage, and the stages a retry raised (R76) -/
  anchors : List Int
  raised : List Nat
  /-- group table entries or sequence records as read (R136, R147) -/
  table : List Nat
  /-- words of the activation table as read (R129) -/
  act : List Nat
  ranks : Tab MillRank
  delivered : List Delivery
  /-- row maxima the parts of an attend item have delivered (R144) -/
  maxima : List Maxima := []
  /-- stages of which a sum has overflowed (R76) -/
  overflowed : List Nat := []
  /-- output elements written as overflowed (R75) -/
  ovf : Nat
  retried : Bool
  /-- amax_addr lay in host memory (R132) -/
  amaxBad : Bool
  deriving DecidableEq, Repr

/-- A transfer of a Vane rank (R176, R180): kind 0 = MGET, 1 = MPUT, 2 = MSEND. -/
structure Transfer where
  id : Nat
  kind : Nat
  va : Nat
  /-- offset in this rank's tile SRAM -/
  off : Nat
  len : Nat
  /-- MSEND: index of the destination rank, offset there, counter, and whether it increments -/
  dest : Nat
  doff : Nat
  counter : Nat
  inc : Bool
  /-- bytes read from tile SRAM at issue -/
  data : List Byte
  /-- its bytes that a store touched, at the source or destination, while it was outstanding (R177): (first, bytes) -/
  undef : List (Nat × Nat)
  landed : Bool
  /-- index of the instruction that issued it -/
  pc : Nat
  deriving DecidableEq, Repr

/-- The architected registers of one Vane rank in a run (R157 to R159), its lane accumulators, sync counters and
outstanding transfers. -/
structure VaneRank where
  tile : Nat
  v : List (List Word)
  s : List Dword
  p : List Dword
  pc : Nat
  acc : List Quern
  counters : List Nat
  transfers : List Transfer
  halted : Bool
  /-- sticky numeric flags of the rank (R62) -/
  flags : Nat
  deriving DecidableEq, Repr

/-- A Vane operation in the queues of its tiles: a load, or a run that starts on all its ranks together (R191). -/
structure VaneRun where
  order : Nat
  tiles : List Nat
  load : Bool
  started : Bool
  ranks : List VaneRank
  /-- elements written as overflowed (R185) -/
  ovf : Nat
  nextTransfer : Nat
  deriving DecidableEq, Repr

/-- A transfer that outlives the run that issued it (R194, R196). -/
structure Orphan where
  op : Nat
  fn : Nat
  slot : Nat
  pond : Nat
  rank : Nat
  tile : Nat
  destTile : Nat
  t : Transfer
  deriving DecidableEq, Repr

/-- A member of a reduction group (R240). -/
structure RedMember where
  loc : Nat
  dev : Nat
  rank : Nat
  src : Nat
  dst : Nat
  srcTag : Nat
  dstTag : Nat
  deriving DecidableEq, Repr

/-- A contribution or partial sum of one chunk of 1,024 elements present on the device (R244, R245): bit i of `mask` says
whether member i is in it. -/
structure Partial where
  chunk : Nat
  mask : Nat
  cells : List Cell
  deriving DecidableEq, Repr

/-- The run of a group in progress (R243, R244). -/
structure RedRun where
  op : Nat
  gen : Nat
  /-- tiles of the local members, resolved at its start: (member, tile) -/
  stops : List (Nat × Nat)
  parts : List Partial
  /-- chunks of which this device's sums have been sent on toward member 0's device -/
  sent : List Nat
  flags : Nat
  /-- chunks of the result delivered here -/
  out : List (Nat × List Cell) := []
  /-- overflowed elements delivered here (R75) -/
  ovf : Nat := 0
  deriving DecidableEq, Repr

/-- An open reduction group (R239 to R242). -/
structure RedGroup where
  fn : Nat
  gid : Nat
  pond : Nat
  kind : Nat
  fmt : Nat
  elements : Nat
  root : Nat
  mere : Nat
  timeoutUs : Nat
  members : List RedMember
  /-- opened in Flume mode (R248): no slot and no engine context -/
  flume : Bool
  die : Nat
  slot : Nat
  /-- leat ports whose engines hold a context for it (R238), as a mask -/
  ports : Nat
  crc : Nat
  run : Option RedRun
  /-- why it opened in Flume mode: GROUP_TABLE_FULL (R241), 0 in slot mode -/
  reason : Nat := 0
  /-- its CRC has been sent to the other devices, at its first run (R242) -/
  crcSent : Bool := false
  deriving DecidableEq, Repr

/-- A contribution or partial sum from another device that waits in the fabric for its run (R244). -/
structure RedHeld where
  fn : Nat
  gid : Nat
  gen : Nat
  chunk : Nat
  mask : Nat
  flags : Nat
  data : List Byte
  deriving DecidableEq, Repr

/-- The engines. -/
structure EnginePart where
  mills : Tab MillRun
  runs : Tab VaneRun
  /-- order numbers of the engine queues -/
  order : Nat
  /-- tile SRAM pages whose scoreboard bit is clear: tile × 1024 + page (R92) -/
  clearPages : List Nat
  orphans : List Orphan
  groups : Tab RedGroup
  nextGroup : Nat
  redHeld : List RedHeld
  /-- table CRCs other devices have sent (R242): (function, group, device, CRC) -/
  redCrcs : List (Nat × Nat × Nat × Nat)
  /-- bytes each Flume engine and pond has been served, for the weighted order (R340) -/
  served : Tab Nat
  deriving DecidableEq, Repr

end Sys2Proof.Machine
end

