-- ==== Sys2Proof/Machine/Parts/Tally.lean ====
section
/-! DEFINITION. The Tally's state (20_energy_tally): accounts of open windows, records, the chain and the ring. -/

namespace Sys2Proof.Machine

/-- An account of one tag in its open window (R542 to R545). Energies are in 2^-10 pJ. -/
structure Acct where
  tiles : Nat
  memory : Nat
  fabric : Nat
  uncore : Nat
  filler : Nat
  /-- busy half clocks -/
  busy : Nat
  /-- METER_FAULT, REMOTE_SERVED, REDONE as bits of R550 -/
  flags : Nat
  start : Nat
  deriving DecidableEq, Repr

/-- A coefficient table in force (R547): its values in the table's order. -/
structure Coef where
  version : Nat
  values : List Nat
  builtin : Bool
  /-- SHA-384 digest of the table (R587) -/
  digest : List Byte
  deriving DecidableEq, Repr

/-- A formed record (R549) before its number and hash. -/
structure EnergyRec where
  kind : Nat
  flags : Nat
  inst : Nat
  pond : Nat
  tag : Nat
  t0 : Nat
  t1 : Nat
  beat : Nat
  /-- tiles, memory, fabric, uncore, filler, in microjoules -/
  uj : List Nat
  coef : Nat
  busy : Nat
  deriving DecidableEq, Repr

/-- A record written to the ring whose signature is due: its slot and hash. -/
structure Signing where
  slot : Nat
  hash : List Byte
  gap : Bool
  deriving DecidableEq, Repr

/-- The Tally. -/
structure TallyPart where
  enable : Bool
  periodMs : Nat
  ckptMs : Nat
  log2 : Nat
  baseLo : Word
  baseHi : Word
  cbLo : Word
  cbHi : Word
  /-- the table in force, and the table each pond's window opened with, where it is another -/
  coef : Coef
  pondCoef : Tab Coef
  /-- accounts, keyed by (instance × 512 + pond) × 2^32 + tag -/
  accts : Tab Acct
  /-- filler energy of each pond's open window (R544) -/
  filler : Tab Nat
  /-- start and beat of each pond's open beat window, and start of the period window (R540) -/
  starts : Tab (Nat × Nat)
  period : Nat
  /-- the last moment TIME_UNCERTAIN was set, kept when it clears -/
  uncertainTo : Nat
  /-- number the next record takes, and hash of the last record written (always-on island, R556) -/
  seq : Nat
  hash : List Byte
  head : Nat
  tail : Nat
  backlog : List EnergyRec
  /-- OVERFLOW records in the making, by instance, with the records each merges (R554) -/
  overflow : Tab EnergyRec
  /-- a ledger key exists (R558) -/
  signing : Bool
  /-- the last record written, while it has no signature; the record written to be signed next -/
  last : Option Signing
  due : Option Signing
  /-- reason and start of the GAP record due at the next enable (R556, R557) -/
  gap : Option (Nat × Nat)
  counts : List Word
  /-- account of each operation whose energy may still be counted: every request carries its operation's request tag and
  instance (R32, R543) -/
  who : Tab Nat := []
  /-- a checkpoint fell due while the Millwright was down (R624, R634) -/
  ckptDue : Bool := false
  /-- OVERFLOW records of closed periods, and GAP records the full backlog did not take, to be written after it (R554) -/
  formed : List EnergyRec := []
  /-- ponds whose filler energy contains an estimate of a failed meter (R539) -/
  fillerFault : List Nat := []
  deriving DecidableEq, Repr

end Sys2Proof.Machine
end

