-- ==== Sys2Proof/Machine/Parts/Work.lean ====
section
/-! DEFINITION. The work the device holds: fetched descriptors and operations (12_host_interface, 13), sluices
(09_sluices), translation caches, windows (14_address_translation), and messages sent to other devices. -/

namespace Sys2Proof.Machine

/-- Where a fetched descriptor stands: in its context's slot, in an engine queue, started in an engine, or with
its status decided and its completion entry still to be written. -/
inductive OpPhase where
  | fetched | queued | running | ended
  deriving DecidableEq, Repr

/-- A fetched descriptor and the operation it makes (R29 to R32, R356 to R361). -/
structure Op where
  fn : Nat
  sq : Nat
  cq : Nat
  /-- first slot of the descriptor -/
  idx : Nat
  /-- function × 16384 + context index -/
  ctx : Nat
  pond : Nat
  /-- the descriptor's bytes as one little-endian number -/
  desc : Nat
  phase : OpPhase
  waitMet : Bool
  status : Nat
  detail : Nat
  nflags : Nat
  retried : Bool
  rerun : Bool
  /-- the header could not be read (R359) -/
  noHeader : Bool
  /-- number of the sluice entry the operation belongs to, 0 = none -/
  sluice : Nat
  /-- number of the beat step the descriptor lies in, 0 = none -/
  step : Nat
  /-- tiles, engines and slots it was placed on: Flume engine for a copy -/
  engine : Nat
  /-- timebase, in ns, at which it entered its engine queue, and its deadline if it has one -/
  queuedAt : Nat
  deadline : Nat
  /-- segments of a copy that are done, or landed bytes counted in push mode -/
  done : List Nat
  /-- the copy runs in push mode (R221) -/
  push : Bool
  /-- a count its kind keeps: tiles that reported, descriptors cancelled, cards of a set-up -/
  count : Nat
  /-- it waits for its pond's regrow before a re-run (R276) -/
  awaitsRegrow : Bool
  /-- a copy whose ranges overlap (R219): first of its free values, and source bytes it has overwritten, by address -/
  coin : Nat
  olds : List (Nat × Byte)
  /-- its effect at step 3 of R29 has been taken: a sluice descriptor, BEAT_STEP or BEAT_SET (R260, R330, R331) -/
  acted : Bool := false
  /-- ranges of a copy's destination, by virtual address, that a push filled before it was pulled (R221) -/
  landed : List (Nat × Nat) := []
  deriving DecidableEq, Repr

/-- A write or atomic a sluice has staged (R262, R264): `kind` 0 = bytes, 1 = FP32 maximum (R132). -/
structure Staged where
  op : Nat
  kind : Nat
  off : Nat
  bytes : List Byte
  /-- the device whose operation it is; 0xFFFF = this one -/
  dev : Nat := 0xFFFF
  deriving DecidableEq, Repr

/-- The states of a sluice entry (R286). -/
inductive SluiceState where
  | open_ | closing | holding | prepared | committed | aborting
  deriving DecidableEq, Repr

/-- An action recorded in a sluice and performed at its commit (R409, R422, R555). -/
inductive Recorded where
  | root (fn : Nat) (dest : Option Nat)
  | inval (fn scope addr pages : Nat)
  | swap (inst bitmap : Nat)
  /-- a TALLY_CLOSE (R555): account, receipt's virtual address, function, context, pond -/
  | receipt (key va fn ctx pond : Nat)
  /-- its FINAL record once the sluice holds, and the account at the cut -/
  | final (key : Nat) (r : EnergyRec) (a : Acct)
  deriving DecidableEq, Repr

/-- A sluice entry (R252, R258, R261, R271 to R286). -/
structure Sluice where
  fn : Nat
  id : Nat
  mere : Nat
  participant : Bool
  coord : Nat
  parts : List Nat
  timeoutUs : Nat
  state : SluiceState
  home : Nat
  /-- context whose ring opened it (R388) -/
  opener : Nat
  /-- the open's completion entry has been written (R261) -/
  visible : Bool
  openSq : Nat
  staged : List Staged
  /-- lines (local offset / 128) that lie in the HBM staging region (R267) -/
  spilled : List Nat
  /-- guarded 4 KiB pages (local offset / 4096), R269 -/
  guards : List Nat
  conflict : Bool
  reason : Nat
  origin : Nat
  commitOp : Nat
  abortOps : List Nat
  votes : List Nat
  acks : List Nat
  /-- timebase, in ns, of the coordinator's timeout, 0 = not started (R280) -/
  deadline : Nat
  recorded : List Recorded
  /-- every slice has published (R271 step 5) -/
  published : Bool
  /-- its instance was reset: its completions are suppressed (R285) -/
  silent : Bool
  deriving DecidableEq, Repr

/-- A cached translation (R404): `span` is 16, 20 or 29; `slot` = context slot + 1, 0 = global. -/
structure Translation where
  die : Nat
  fn : Nat
  slot : Nat
  span : Nat
  vpage : Nat
  pa : Nat
  hint : Nat
  used : Nat
  deriving DecidableEq, Repr

/-- A walk-cache entry (R404): the table of `level` that covers `prefix` of the function's space. -/
structure WalkEntry where
  die : Nat
  fn : Nat
  level : Nat
  vprefix : Nat
  table : Nat
  deriving DecidableEq, Repr

/-- A window-table entry (R416). -/
structure Window where
  rd : Bool
  wr : Bool
  req : Nat
  mere : Nat
  base : Nat
  pages : Nat
  /-- the WINDOW_CLEAR that waits for accesses that found the entry (R418), 0 = none -/
  clearing : Nat
  deriving DecidableEq, Repr

/-- Translation. -/
structure XlatPart where
  /-- shared TLB of each die (R404) -/
  tlb : List Translation
  /-- micro-TLB of each tile: (tile, translation), R101 -/
  micro : List (Nat × Translation)
  walkCache : List WalkEntry
  clock : Nat
  walks : Tab Word
  faults : Tab Word
  windows : Tab Window
  deriving DecidableEq, Repr

/-- What a message on the fabric is for. -/
inductive FabKind where
  | read | write | atomicMax | windowRead | windowWrite | poison | unstage | reply | refusal
  | sluiceVote | sluiceDecision | sluiceAck | sluiceAbort | sluiceAnswer
  | redCrc | redPull | redData | redResult | redCancel
  | pushSubscribe | pushCancel | pushReply | pushWrite
  | hello | vector | join | report | confirm | faultReport | timeRequest | timeReply | wake | notice | frame | transit
  deriving DecidableEq, Repr

/-- A message the device has sent: destination device (or sub-link, for `hello`, `vector`, `notice`, `frame`,
`transit`), mere handle, an object's number, further numbers, and bytes. -/
structure FabMsg where
  kind : FabKind
  dst : Nat
  mere : Nat
  id : Nat
  args : List Nat
  data : List Byte
  /-- sub-link the message was given to (R493); 64 = none is usable yet -/
  sub : Nat := 64
  deriving DecidableEq, Repr

/-- What a protocol message of a cross-device sluice says (R279 to R282): a participant's vote, the coordinator's
decision, or a forwarded abort. -/
inductive SluiceNote where
  | vote (dev : Nat) (commit : Bool) (reason origin : Nat)
  | decision (commit : Bool) (reason origin : Nat)
  | abort (dev : Nat)
  deriving DecidableEq, Repr

/-- A protocol message for a sluice this device has not yet opened, waiting in the fabric (R278). -/
structure SluiceHeld where
  mere : Nat
  id : Nat
  note : SluiceNote
  deriving DecidableEq, Repr

/-- Operations, sluices and translation. -/
structure WorkPart where
  ops : Tab Op
  /-- number of the next fetched descriptor, sluice entry and beat step; each counts from 1 -/
  nextOp : Nat
  sluices : Tab Sluice
  nextSluice : Nat
  nextStep : Nat
  /-- messages sent to other devices, oldest first -/
  sent : List FabMsg
  /-- the next free value (free values are Config's, taken in this order) -/
  free : Nat
  /-- protocol messages that wait for this device's SLUICE_OPEN (R278), oldest first -/
  sluiceHeld : List SluiceHeld := []
  deriving DecidableEq, Repr

end Sys2Proof.Machine
end

