-- ==== Sys2Proof/Machine/Parts/Fabric.lean ====
section
/-! DEFINITION. The fabric's state: sub-links of the leat ports (17_leat_links), device ID, routes, memberships,
windows' users, push subscriptions, the join, fault reports and the time exchange (18_meres). -/

namespace Sys2Proof.Machine

/-- States of a sub-link (R481), in the order of their codes. -/
inductive LinkState where
  | dark | training | up | retrain | down | sleep | incompatible | fenced
  deriving DecidableEq, Repr

/-- A sub-link (R464 to R482). -/
structure SubLink where
  state : LinkState
  gen : Nat
  txLanes : Nat
  rxLanes : Nat
  light : Bool
  fec : Bool
  genCap : Nat
  /-- lanes locked at this device's transmitter and receiver (R470 steps 2 and 3) -/
  txLock : Nat
  rxLock : Nat
  /-- last step of R470 done in the present run -/
  step : Nat
  /-- the neighbour's last capability frame: generations offered, its lanes (R472) -/
  nGens : Nat
  nTx : Nat
  nRx : Nat
  /-- the neighbour recorded for routing (R472); 0xFFFF = none -/
  nDev : Nat
  nSub : Nat
  /-- highest generation still to be tried in this run, failed attempts at the present one (R473) -/
  tryGen : Nat
  attempts : Nat
  failedRuns : Nat
  /-- a failed run waits 100 ms for the next (R474) -/
  retryWait : Bool
  retrainFails : Nat
  /-- replays of the flit at the head of the replay buffer (R475) -/
  replays : Nat
  /-- traffic is held under R476 -/
  held : Bool
  /-- a notice is being drained: 0 = none, 1 = SLEEP, 2 = FENCE (R477) -/
  notice : Nat
  /-- cause of the last LINK_DOWN -/
  cause : Nat
  /-- counters 0 to 7 (R482) -/
  counts : List Word
  deriving DecidableEq, Repr

/-- A sub-link after reset (R481, R482). -/
def SubLink.reset : SubLink where
  state := .dark
  gen := 0
  txLanes := 0
  rxLanes := 0
  light := false
  fec := false
  genCap := 3
  txLock := 0
  rxLock := 0
  step := 0
  nGens := 0
  nTx := 0
  nRx := 0
  nDev := 0xFFFF
  nSub := 0
  tryGen := 0
  attempts := 0
  failedRuns := 0
  retryWait := false
  retrainFails := 0
  replays := 0
  held := false
  notice := 0
  cause := 0
  counts := [0, 0, 0, 0, 0, 0, 0, 0]

/-- A mere membership (R487, R488), keyed by the mere handle. -/
structure Membership where
  pond : Nat
  /-- its slot of the mere area, 0 to 255 -/
  slot : Nat
  /-- device IDs of the map, in index order -/
  map : List Nat
  deriving DecidableEq, Repr

/-- A push subscription at its consumer (R500 to R504): the landing range's local offset and the copies that wait. -/
structure PushIn where
  fn : Nat
  dev : Nat
  mere : Nat
  /-- virtual addresses of the ranges, and their local offsets on the producer and here -/
  srcVa : Nat
  landVa : Nat
  src : Nat
  dst : Nat
  len : Nat
  timeoutUs : Nat
  /-- the PUSH_SUBSCRIBE that waits for the producer, 0 = recorded -/
  op : Nat
  /-- bytes landed for each waiting copy: (operation, landed ranges as (offset, length)) -/
  waiting : List (Nat × List (Nat × Nat))
  deriving DecidableEq, Repr

/-- A push subscription at its producer (R501, R502): a source range here, sent on to its consumer. -/
structure PushOut where
  dev : Nat
  mere : Nat
  /-- the consumer's subscription number -/
  num : Nat
  src : Nat
  dst : Nat
  len : Nat
  deriving DecidableEq, Repr

/-- States of the join (R505, R516), in the order of their codes. -/
inductive JoinState where
  | off | training | discovery | linking | awaitConfirm | joined | rejected
  deriving DecidableEq, Repr

/-- What a HELLO told of a neighbour (R505). -/
structure Neighbour where
  dev : Nat
  state : Nat
  leaderOk : Bool
  deriving DecidableEq, Repr

/-- A fault fingerprint this device reports (R510): the 10 ms window of its last report counted from 1 (0 = none),
observations since. -/
structure FaultSeen where
  window : Nat
  count : Nat
  deriving DecidableEq, Repr

/-- Reports of one fingerprint merged by a leader in a window (R511). -/
structure Merged where
  devices : List Nat
  count : Nat
  lowest : Nat
  deriving DecidableEq, Repr

/-- The fabric. -/
structure FabricPart where
  subs : Tab SubLink
  genMax : Nat
  holdMs : Nat
  fenceAfter : Nat
  /-- SLOT_ID as sampled, and the group of the deployment configuration (R484) -/
  member : Nat
  group : Option Nat
  /-- this device's ID (R484); 0xFFFF = none -/
  devId : Nat
  confirmed : Bool
  routeMode : Bool
  anchor : Bool
  leaderOk : Bool
  unreachMs : Nat
  join : JoinState
  cause : Nat
  leader : Bool
  timeRoot : Bool
  leaderMember : Nat
  /-- rounds of the last convergence less 1, and rounds of the present one; whether a vector changed in this round -/
  dM : Nat
  dG : Nat
  rounds : Nat
  changed : Bool
  /-- the sub-links that were UP when the last round ended (R495) -/
  upSeen : Nat
  areaLo : Nat
  areaHi : Nat
  /-- route tables: words of GSET_ROUTE_GRP, GSET_ROUTE_MBR, and masks of GSET_ROUTE_SET -/
  routeGrp : Tab Nat
  routeMbr : Tab Nat
  routeSet : Tab Nat
  neighbours : Tab Neighbour
  /-- members of this group reached with leader_ok = 1, and members known rejected -/
  leaders : List Nat
  rejected : List Nat
  /-- device IDs claimed by two devices (R508) -/
  dups : List Nat
  /-- kind of the rounds in progress (R505): 0 = none, 1 = neighbour, 2 = member, 3 = group -/
  roundKind : Nat
  /-- members this device, as leader, has reported (R509) -/
  reported : List Nat
  /-- at an anchor: leader member of each group whose report has arrived (R507) -/
  reportLeader : Tab Nat
  /-- device IDs declared unreachable (R496) -/
  unreachable : List Nat
  meres : Tab Membership
  pushIn : Tab PushIn
  pushOut : List PushOut
  faults : Tab FaultSeen
  merged : Tab Merged
  /-- anchor to which reports go, 0xFFFF = none reachable (R507) -/
  anchorId : Nat
  /-- time exchange (R512): the time request in flight, t1, in ns -/
  t1 : Nat
  /-- arrival sub-links of requests that passed through, for their responses (R494): by requester × 65536 + tag -/
  paths : Tab Nat
  deriving DecidableEq, Repr

end Sys2Proof.Machine
end

