-- ==== Sys2Proof/Machine/Parts/Host.lean ====
section
/-! DEFINITION. The host interface's state: functions, set-up registers, rings, doorbell lines, interrupts
(12_host_interface), contexts and their slots (13_objects_and_faults, 11_scheduling_and_beats), and what has left
the device toward the host. Function 0 is the physical function; function n + 1 is instance n (R425). -/

namespace Sys2Proof.Machine

/-- An event queue (R354 CREATE_EQ, R364, R368). -/
structure EventQueue where
  base : Nat
  headAddr : Nat
  log2 : Nat
  /-- index of the next entry the device writes -/
  next : Nat
  /-- phase bit of the present pass (R362) -/
  phase : Bool
  /-- count of entries written, modulo 2^32 -/
  seq : Nat
  /-- last valid head word read (R362) -/
  head : Nat
  /-- inside a run of consecutive invalid head reads, already reported -/
  badRun : Bool
  /-- events discarded and not yet reported (R368) -/
  discarded : Nat
  deriving DecidableEq, Repr

/-- A completion queue (R354 CREATE_CQ, R357, R361, R373). -/
structure CompletionQueue where
  base : Nat
  headAddr : Nat
  log2 : Nat
  irqMode : Nat
  irqCount : Nat
  irqDelay : Nat
  next : Nat
  phase : Bool
  head : Nat
  badRun : Bool
  /-- entries reserved for fetched descriptors (R357) -/
  reserved : Nat
  /-- timebase, in ns, at which the present stall for room began; 0 = none -/
  stallSince : Nat
  /-- CQ_STALLED was posted for the present stall -/
  stallPosted : Bool
  /-- counted entries since the last interrupt -/
  counted : Nat
  /-- timebase, in ns, of the first of them -/
  countedAt : Nat
  deriving DecidableEq, Repr

/-- A submission queue (R354 CREATE_SQ, R356). -/
structure SubmissionQueue where
  base : Nat
  dbAddr : Nat
  log2 : Nat
  cq : Nat
  ctx : Nat
  version : Nat
  head : Nat
  /-- tail as the device last saw it -/
  tail : Nat
  /-- stopped by a malformed doorbell word (R370) or a host error (R441) -/
  stopped : Bool
  /-- a DESTROY_SQ is running: fetch stopped, doorbell ignored -/
  destroying : Bool
  /-- Newt cluster that serves the queue (R28) -/
  cluster : Nat
  /-- doorbell cached under CXL (R228); else polled -/
  cached : Bool
  /-- descriptors left of the BEAT_STEP last fetched, and that step's number (R331) -/
  stepLeft : Nat
  stepId : Nat
  deriving DecidableEq, Repr

/-- One MSI-X vector of a function (R373). -/
structure MsixVector where
  addr : Nat
  data : Nat
  masked : Bool
  pending : Bool
  deriving DecidableEq, Repr

/-- The state of an instance (R430); the physical function is always active. -/
inductive InstState where
  | disabled | active | quiescing | quiesced | resetting
  deriving DecidableEq, Repr

/-- One function's registers, rings and instance state. -/
structure Fn where
  /-- set-up command running (ISET_CMD_STATUS.busy), R354 -/
  busy : Bool
  overrun : Bool
  cmdStatus : Nat
  resVersion : Nat
  resDbMode : Bool
  /-- the queue a running DESTROY_SQ names -/
  cmdSq : Nat
  args : Tab Nat
  apBase : Nat
  apEnable : Bool
  ctxBase : Nat
  ctxCount : Nat
  /-- a context table is set (R354 SET_CTX_TABLE) -/
  ctxSet : Bool
  eq : Option EventQueue
  cqs : Tab CompletionQueue
  sqs : Tab SubmissionQueue
  msix : Tab MsixVector
  /-- GSET_INST_CFG of the instance (R352); unused for the physical function -/
  enable : Bool
  ctxMax : Nat
  sqMax : Nat
  state : InstState
  saved : Bool
  /-- caps of INST_LIMITS (R429), 0 = none -/
  sluiceMax : Nat
  groupMax : Nat
  opsMax : Nat
  slotMax : Nat
  /-- page-table root (R400) -/
  root : Option Nat
  /-- bitmap of dirty logging (R419 to R422), if the instance is logged -/
  bitmap : Option Nat
  /-- the INST_QUIESCE in progress: operation number, descriptors cancelled, its deadline in ns (R431) -/
  quiesceOp : Nat
  quiesceCount : Nat
  quiesceBy : Nat
  /-- work was removed without INSTANCE_IDLE having been posted yet (R440) -/
  idleDue : Bool
  deriving DecidableEq, Repr

/-- A doorbell line of host memory, named by its address divided by 64 (R227, R228, R372). -/
structure DoorbellLine where
  /-- function whose rings the line serves (R355 DB_LINE_SHARED) -/
  fn : Nat
  cached : Bool
  /-- polling interval I, in µs (R372) -/
  interval : Nat
  /-- timebase, in ns, of the last read that found a new tail -/
  foundAt : Nat
  deriving DecidableEq, Repr

/-- A context (R379, R386, R389): the record as last read, and what the device keeps of it. -/
structure Ctx where
  pond : Nat
  saveAddr : Nat
  saveSize : Nat
  evtAddr : Nat
  evtCount : Nat
  prio : Nat
  lost : Bool
  /-- operation whose completion entry must come before any CONTEXT_LOST entry (R386), 0 = none -/
  lossOp : Nat
  /-- saved tile images are present (R389, R444) -/
  saved : Bool
  /-- timebase, in ns, since which the context has waited for a slot, 0 = not waiting (R319) -/
  waitSince : Nat
  /-- timebase, in ns, since which none of its rings has had a tail beyond its head (R320) -/
  idleSince : Nat
  /-- order in which the context became ready for its pond's tiles (R316) -/
  readyAt : Nat
  /-- the control area of its save area holds slot control state (R321) -/
  ctlSaved : Bool := false
  deriving DecidableEq, Repr

/-- What a context slot is doing (R321). -/
inductive SlotPhase where
  | loading | resident | unloading
  deriving DecidableEq, Repr

/-- One of the 64 context slots (R319 to R321); `ctx` is function × 16384 + context index. -/
structure Slot where
  ctx : Nat
  phase : SlotPhase
  since : Nat
  /-- the slot may be taken (R320) -/
  idle : Bool
  deriving DecidableEq, Repr

/-- A write the device has made to host memory, with the requester's function (R345, R346). -/
structure HostWrite where
  fn : Nat
  addr : Nat
  bytes : List Byte
  /-- a write of operation data, on which the device may set Relaxed Ordering; it never sets No Snoop (R345) -/
  relaxed : Bool := false
  /-- a poisoned TLP (R639) -/
  poison : Bool := false
  deriving DecidableEq, Repr

/-- An MSI-X message sent (R373); it follows the first `after` host writes (R345). -/
structure Msi where
  fn : Nat
  vec : Nat
  after : Nat
  deriving DecidableEq, Repr

/-- The host interface. -/
structure HostPart where
  fns : Tab Fn
  lines : Tab DoorbellLine
  ctxs : Tab Ctx
  slots : Tab Slot
  setupLock : Bool
  instSel : Nat
  vfEnable : Bool
  numVfs : Nat
  /-- 0 = link down or PCIe-only, 1 = CXL 2.0, 2 = CXL 3.1 (R343) -/
  cxl : Nat
  flit : Bool
  speed : Nat
  width : Nat
  /-- writes made to host memory, oldest first -/
  writes : List HostWrite
  /-- MSI-X messages sent, oldest first -/
  msis : List Msi
  /-- advisory non-fatal errors logged in each function's AER registers (R441) -/
  aerNonFatal : Tab Nat
  /-- fatal errors signalled through AER (R616) -/
  aerFatal : List Nat
  /-- what the last host read of a BAR or of CXL.mem returned, and whether it was poisoned -/
  readData : List Byte
  readPoison : Bool
  /-- round robin of fetching (R322), by cluster × 2^24 + context: the queue whose turn it is, and descriptors it has
  had in the turn -/
  turns : Tab (Nat × Nat) := []
  deriving DecidableEq, Repr

end Sys2Proof.Machine
end

