-- ==== Sys2Proof/Machine/Parts/Mem.lean ====
section
/-! DEFINITION. Memory and the mesh: HBM by channel, tile SRAM, Vane program memory, the loft, the snoop filter,
the plot remap table, ponds and fences (07_memory_hierarchy, 10_ponds_and_binding, 08_mesh_and_reduction). -/

namespace Sys2Proof.Machine

/-- A loft hint (R205). -/
inductive Hint where
  | alloc | noalloc | evictFirst
  deriving DecidableEq, Repr

/-- A line the loft holds (R199 to R206). Its bytes are those of memory; the line is named by its local offset
divided by 128. -/
structure LoftLine where
  line : Nat
  die : Nat
  slice : Nat
  set : Nat
  way : Nat
  dirty : Bool
  /-- order of last use: larger is more recent; 0 = least recently used -/
  used : Nat
  deriving DecidableEq, Repr

/-- A granule of 64 bytes held by a caching agent (R223): agent 0 is the host, agent 1 + c is Newt core c. -/
structure SnoopEntry where
  granule : Nat
  agent : Nat
  owned : Bool
  deriving DecidableEq, Repr

/-- A plot remap entry (R295); `owner` is the pond that holds the plot, 0 = placed by PLOT_MAP (R674). -/
structure Plot where
  s : Nat
  die : Nat
  base : Nat
  chans : List Nat
  owner : Nat
  /-- its contents were lost with a fenced channel, and no POND_REBIND has placed it anew (R310) -/
  lost : Bool := false
  deriving DecidableEq, Repr

/-- A choice reserved at a fence for a pond's regrow (R309). -/
inductive RegrowKind where
  | tile (vane : Bool) (rank : Nat) (dest : Option Nat) (lost : Nat := 0)
  | sublink (lost : Nat) (dest : Option Nat)
  | engine (lost : Nat) (dest : Option Nat)
  | shrink (vane : Bool) (rank : Nat)
  deriving DecidableEq, Repr

/-- A binding: what a binding record gives a pond (R294). A rank that is a hole holds `none`. -/
structure Binding where
  tilesM : List (Option Nat)
  tilesV : List (Option Nat)
  flume : Nat
  regrow : Nat
  subl : Nat
  loft : Nat
  plots : List (Nat × Plot)
  chans : List Nat
  deriving DecidableEq, Repr

/-- A POND_REBIND in progress (R299 to R306). -/
structure Rebind where
  op : Nat
  binding : Binding
  engines : Nat
  /-- timebase, in ns, by which the re-bind point must come -/
  deadline : Nat
  /-- plots whose remap entry changes -/
  moving : List Nat
  /-- dirty 4 KiB pages of the moving plots, by local offset divided by 4096 -/
  dirty : List Nat
  ready : Bool
  /-- the switch phase has started: accesses to the moving plots stall -/
  switching : Bool
  deriving DecidableEq, Repr

/-- The phase of a tile switch (R325). -/
inductive SwitchPhase where
  | drain | save | restore
  deriving DecidableEq, Repr

/-- A tile switch in progress: the incoming context (R325). -/
structure Switch where
  dest : Nat
  phase : SwitchPhase
  deriving DecidableEq, Repr

/-- A step of a pond's beats (R331 to R334), made by one BEAT_STEP. -/
structure BeatStep where
  id : Nat
  fn : Nat
  sq : Nat
  prefill : Bool
  costC : Nat
  costM : Nat
  key : Nat
  last : Bool
  /-- descriptors the step still waits to see fetched -/
  left : Nat
  /-- order in which the step became ready, 0 = not ready -/
  readyAt : Nat
  released : Bool
  tooLong : Bool
  deriving DecidableEq, Repr

/-- A prompt of which the composer has released units and not the last (R334): its ring, key, and the order in which its
first unit became ready. -/
structure Prompt where
  fn : Nat
  sq : Nat
  key : Nat
  order : Nat
  deriving DecidableEq, Repr

/-- A pond's beats (R329, R330, R334, R337); times in ns of the timebase. -/
structure Beats where
  events : Bool
  period : Nat
  catchUp : Nat
  floor : Nat
  t0 : Nat
  /-- beat number, 48 bits -/
  number : Nat
  /-- a beat is in progress -/
  running : Bool
  /-- grid point of the beat in progress or of the next beat -/
  grid : Nat
  start : Nat
  lag : Nat
  budget : Nat
  sumC : Nat
  sumM : Nat
  tokens : Nat
  prefills : Nat
  left : Nat
  /-- multiples of P the lag has exceeded and reported (R336) -/
  lagPosted : Nat
  /-- settings that take effect when the beat in progress ends: period, catch_up, floor, t0, events -/
  next : Option (Nat × Nat × Nat × Nat × Bool)
  /-- BEAT_SET with enable = 0 waits for the end of the beat in progress -/
  stopping : Bool
  steps : List BeatStep
  /-- prompts in progress (R334) -/
  prompts : List Prompt := []
  deriving DecidableEq, Repr

/-- A pond (R289, R294, R315, R318). -/
structure Pond where
  inst : Nat
  binding : Binding
  weight : Nat
  quantum : Nat
  /-- running context: function × 16384 + index + 1, 0 = none (R315) -/
  running : Nat
  /-- timebase, in ns, since which it has held the tiles -/
  since : Nat
  switch : Option Switch
  rebind : Option Rebind
  reserved : List RegrowKind
  beats : Option Beats
  /-- number of the pond's next beat, kept while beats are off (R330) -/
  beatCount : Nat
  deriving DecidableEq, Repr

/-- Memory, placement and fences. -/
structure MemPart where
  /-- HBM, keyed by channel × 2^31 + offset in the channel (R210, R211) -/
  hbm : Memory
  /-- tile SRAM, keyed by tile × 2^22 + offset (R86) -/
  sram : Memory
  /-- Vane program memory, keyed by tile × 2^16 + offset (R156) -/
  prog : Memory
  /-- poisoned 64-byte granules of HBM: key divided by 64 (R639) -/
  poison : List Nat
  /-- poisoned 64-bit words of tile SRAM: key divided by 8 (R107) -/
  sramPoison : List Nat
  /-- poisoned 64-bit words of Vane program memory: key divided by 8 (R107, R195) -/
  progPoison : List Nat := []
  loft : List LoftLine
  /-- clock of loft recency -/
  loftClock : Nat
  snoop : List SnoopEntry
  /-- GSET_LOFT_CFG: ways in effect, value written, remote_mask, by die (R202) -/
  stageWays : Tab Nat
  stageWritten : Tab Nat
  remoteMask : Tab Nat
  /-- GSET_SLUICE_SPILL: plot0 and plots in effect, and as written, by die (R266) -/
  spill : Tab (Nat × Nat)
  spillWritten : Tab (Nat × Nat)
  remap : Tab Plot
  ponds : Tab Pond
  /-- fenced units: class × 65536 + unit number (R307, R673) -/
  fences : List Nat
  /-- replays of the flit at the head of each seam's replay buffer (R234) -/
  seamReplays : Tab Nat
  /-- next number for the orders kept by ready marks -/
  order : Nat
  deriving DecidableEq, Repr

end Sys2Proof.Machine
end

