-- ==== Sys2Proof/Machine/Parts/Power.lean ====
section
/-! DEFINITION. Power, current and thermal control (19_power_and_thermal) and the power sequencer with its pins
(25_electrical_and_package). -/

namespace Sys2Proof.Machine

/-- A tile island (R520 to R523, R534). Voltages are in microvolts; `uv` was the output at time `at_` (ns), and moves
toward `target` from there at 25 mV per microsecond. -/
structure Island where
  uv : Nat
  at_ : Nat
  /-- target code, and divider as changed by commands (R522) -/
  target : Nat
  div : Nat
  /-- divider and tag of the present command; a raise waits for the island to settle -/
  cmdDiv : Nat
  tag : Nat
  raise : Bool
  settled : Bool
  /-- the present command is complete -/
  complete : Bool
  cmdBad : Bool
  doneTag : Nat
  /-- thermal steps, and temperature as a two's complement number of 11 bits in 0.25 °C -/
  steps : Nat
  temp : Nat
  deriving DecidableEq, Repr

/-- An island after device reset (R521): /16 and code 10. Log: 14 (DESIGN CHOICE). -/
def Island.reset : Island where
  uv := 600000
  at_ := 0
  target := 10
  div := 16
  cmdDiv := 16
  tag := 0
  raise := false
  settled := true
  complete := true
  cmdBad := false
  doneTag := 0
  steps := 0
  temp := 0

/-- The sail controller of one die (R524 to R528). Currents are in mA. -/
structure Sail where
  slopeUp : Nat
  slopeDown : Nat
  spinEn : Bool
  iCap : Nat
  gain : Nat
  furlMax : Nat
  /-- die current of the last windows, newest first (five make 250 ns) -/
  windows : List Nat
  duty : Nat
  /-- the floor F, and tiles that run filler -/
  floor : Nat
  spin : List Nat
  /-- pond currents at the last window in which F equalled I, and each pond's fall since (R527) -/
  base : Tab Nat
  falls : List (Nat × Nat)
  /-- counters of GSET_SAIL_CNT -/
  counts : List Word
  /-- slope_miss: windows missed, largest shortfall not yet posted, time of the last event plus 1 (R526) -/
  misses : Nat
  shortfall : Nat
  missAt : Nat
  /-- filler energy of no pond not yet counted in whole microjoules, in 2^-10 pJ -/
  unowned : Nat
  deriving DecidableEq, Repr

/-- A die's sail controller after device reset (R536). Log: 14 (DESIGN CHOICE). -/
def Sail.reset : Sail where
  slopeUp := 0x14
  slopeDown := 0x14
  spinEn := true
  iCap := 0x258
  gain := 8
  furlMax := 0xE0
  windows := []
  duty := 0
  floor := 0
  spin := []
  base := []
  falls := []
  counts := [0, 0, 0, 0]
  misses := 0
  shortfall := 0
  missAt := 0
  unowned := 0

/-- Power and thermal control, and the sequencer. -/
structure PowerPart where
  islands : Tab Island
  islSel : Nat
  dies : Tab Sail
  pLong : Nat
  pShort : Nat
  tauMs : Nat
  pNow : Nat
  pAvg : Nat
  /-- CROAK_N is low; the forced state it brought, since when (ns); assertions -/
  croakPin : Bool
  forced : Bool
  forcedSince : Nat
  croaks : Nat
  tThrottle : Nat
  tTrip : Nat
  hyst : Nat
  /-- °C of each stack, by memory port -/
  hbmTemps : Tab Nat
  /-- latched until power-on reset (R535); THERM_TRIP_N is low while `trip` -/
  trip : Bool
  hbmTrip : Bool
  droopMv : Nat
  /-- the always-on supplies are in range and power-on reset is released (R666) -/
  aon : Bool
  vin12 : Bool
  pwrReq : Bool
  /-- step of power-up in progress, 2 to 7; of power-down, 2 to 7; 0 = none (R667, R668) -/
  upStep : Nat
  downStep : Nat
  /-- power-down leaves out its step 3 (R670) -/
  quick : Bool
  /-- power-up steps whose effects stand: 0 = OFF, 7 = powered up -/
  reached : Nat
  /-- power-up waits for PWR_REQ to go low and high again (R667, R670) -/
  blocked : Bool
  /-- the device has been powered up since power-on reset (R670) -/
  poweredBefore : Bool
  pwrOk : Bool
  xrailEn : Bool
  hbmEn : Bool
  xrailGood : Bool
  hbmGood : Bool
  deriving DecidableEq, Repr

/-- Power control after power-on reset. Log: 12 (DESIGN CHOICE), 14 (DESIGN CHOICE). -/
def PowerPart.reset : PowerPart where
  islands := []
  islSel := 0
  dies := []
  pLong := 0x12C0
  pShort := 0x1518
  tauMs := 0x64
  pNow := 0
  pAvg := 0
  croakPin := false
  forced := false
  forcedSince := 0
  croaks := 0
  tThrottle := 0x5F
  tTrip := 0x6E
  hyst := 5
  hbmTemps := []
  trip := false
  hbmTrip := false
  droopMv := 0x1E
  aon := true
  vin12 := true
  pwrReq := false
  upStep := 0
  downStep := 0
  quick := false
  reached := 0
  blocked := false
  poweredBefore := false
  pwrOk := false
  xrailEn := false
  hbmEn := false
  xrailGood := false
  hbmGood := false

end Sys2Proof.Machine
end

