-- ==== Sys2Proof/Machine/Parts/Ras.lean ====
section
/-! DEFINITION. Errors and counters (24_ras_and_limits) and the fence list in flash (R617). -/

namespace Sys2Proof.Machine

/-- A unit's leaky bucket and error counts (R643, R648), keyed by class × 65536 + unit. -/
structure Bucket where
  level : Nat
  /-- ERR_THRESHOLD was posted since the level was last 0 -/
  warned : Bool
  corrected : Word
  uncorrectable : Word
  poisoned : Word
  deriving DecidableEq, Repr

/-- Errors. -/
structure RasPart where
  /-- a fatal device error has occurred since reset, and its code (R615, R616, R648) -/
  fatal : Bool
  fatalCode : Nat
  /-- the fatal code kept for after_fatal at the next reset (R616) -/
  afterFatal : Nat
  buckets : Tab Bucket
  /-- GSET_ERR_POISONS -/
  poisons : Word
  /-- ERR_POISON events: the second they are counted in, those posted in it, those not posted (R647) -/
  poisonSecond : Nat
  poisonPosted : Nat
  poisonUnposted : Nat
  selClass : Nat
  selUnit : Nat
  scrubHours : Nat
  scrubLoft : Nat
  /-- threshold and leak_min of each class, where written (R643) -/
  thresholds : Tab (Nat × Nat)
  /-- fence list in external flash: class + 16 × unit (R617) -/
  flashFences : List Nat
  /-- units fenced on their own and not with another (R307, R313), as class × 65536 + unit -/
  fencedAlone : List Nat := []
  deriving DecidableEq, Repr

end Sys2Proof.Machine
end

