-- ==== Sys2Proof/Machine/Parts/Sec.lean ====
section
/-! DEFINITION. The security block's state (21_keys_and_attestation): fuses, keys, the signing engine and its queues,
the hash engine's slots, life-cycle transitions and SPDM sessions. -/

namespace Sys2Proof.Machine

/-- Calls of the signing engine (R577). `reg` names a key register: 0 = DAK, 1 = ledger key, 2 and up = sessions. -/
inductive EngCall where
  | pubkey (reg : Nat)
  | sign (reg e : Nat)
  | verify (x y e r s : Nat)
  | ecdh (reg x y : Nat)
  /-- a Tally record's signature: its slot and hash -/
  | record (slot : Nat) (hash : List Byte) (gap : Bool)
  deriving DecidableEq, Repr

/-- A slot of the hash engine (R581, R582): bytes served, bytes that wait, and whether the message has ended. -/
structure HashSlot where
  caller : Nat
  served : List Byte
  waiting : List Byte
  last : Bool
  deriving DecidableEq, Repr

/-- A life-cycle nonce (R568, R569): its bytes, and after a first scrapping request the time it stays valid to. -/
structure LcNonce where
  bytes : List Byte
  confirmTo : Option Nat
  deriving DecidableEq, Repr

/-- An SPDM session (R586): its secret, and whether FINISH has completed it. -/
structure Session where
  secret : Nat
  established : Bool
  /-- key updates done -/
  updates : Nat
  deriving DecidableEq, Repr

/-- The security block. -/
structure SecPart where
  /-- life-cycle fuse bits, fused SVN, and revoked firmware keys -/
  lcFuse : Nat
  svn : Nat
  revoked : List Nat
  /-- K_PUF was regenerated at this start; failed attempts; keyless cause (R562, R564, R576) -/
  hasKey : Bool
  pufFails : Nat
  keyless : Nat
  /-- check tag of the helper data in flash (R563) -/
  helper : Option (List Byte)
  nonce : Option LcNonce
  /-- target state of a transition in progress, or whose reset is still due (R571) -/
  lcTarget : Option Nat
  /-- the reset in progress ends a transition -/
  lcChanged : Bool
  running : Option EngCall
  tallyQ : List EngCall
  otherQ : List EngCall
  /-- return code and output of the last call (R577, R578) -/
  engCode : Nat
  engOut : List Byte
  /-- ephemeral scalars by key register -/
  scalars : Tab Nat
  slots : Tab HashSlot
  /-- requests that wait for a slot, oldest first (R581) -/
  slotWaits : List HashSlot
  serving : Nat
  turn : Nat
  /-- suspended hashes by caller (R583) -/
  suspended : Tab HashSlot
  /-- last digest of the hash engine -/
  digest : List Byte
  /-- negotiated SPDM version; algorithms agreed -/
  spdmVersion : Nat
  spdmAlgos : Bool
  sessions : Tab Session
  deriving DecidableEq, Repr

end Sys2Proof.Machine
end

