-- ==== Sys2Proof/Machine/Parts/Weir.lean ====
section
/-! DEFINITION. The weir's state (16_weir_regulation): class registers, latencies and priorities by memory port, issue
credits, and each pond's pull and push mode. -/

namespace Sys2Proof.Machine

/-- A pond at the weir (R458 to R462): R and its peaks in 100 ns. -/
structure WeirPond where
  budget : Nat
  auto : Bool
  push : Bool
  r : Nat
  /-- peak of R and remote reads in the present evaluation period -/
  peakNow : Nat
  reads : Nat
  /-- peak of the last evaluation period -/
  peak : Nat
  beyond : Nat
  under : Nat
  deriving DecidableEq, Repr

/-- The weir. Port numbers are 6 × die + port; a class at a port has key 8 × port + class, at a channel
8 × channel + class. -/
structure WeirPart where
  base : Tab Nat
  lim : Tab Nat
  /-- TGT and CAP words as written, and CAP and busy_level as in effect (R456) -/
  tgt : Tab Nat
  cap : Tab Nat
  capNow : Tab Nat
  busyNow : Nat
  stat : Tab Nat
  missCnt : Tab Nat
  missRun : Tab Nat
  windowUs : Nat
  defaultClass : Nat
  busyLevel : Nat
  pondSel : Nat
  /-- E of R452 and Q of R453 -/
  e : Tab Nat
  q : Tab Nat
  /-- the ewma_shift in effect since the port's last recomputation (R456) -/
  shiftNow : Tab Nat
  credit : Tab Nat
  /-- lines (local offset / 128) issued ahead of every priority after 4 µs and not yet returned (R454) -/
  aged : List Nat
  ponds : Tab WeirPond
  deriving DecidableEq, Repr

/-- A pond's weir fields at POND_CREATE (R462). -/
def WeirPond.reset : WeirPond :=
  { budget := 0, auto := false, push := false, r := 0, peakNow := 0, reads := 0, peak := 0, beyond := 0, under := 0 }

end Sys2Proof.Machine
end

