-- ==== Sys2Proof/Machine/State.lean ====
section
/-! DEFINITION. The state of the block. In every file, `Log: n` after a definition's description names the entry of the
assumption log, notes/assumptions/n.md, that says what of it is the model's and not the spec's, with its mark. -/

namespace Sys2Proof.Machine

/-- The whole state: the parts of the device and the commands that wait, first in first out. -/
structure State where
  pending : List Instr
  host : HostPart
  mem : MemPart
  work : WorkPart
  xlat : XlatPart
  eng : EnginePart
  ras : RasPart
  clk : ClockPart
  fab : FabricPart
  weir : WeirPart
  pwr : PowerPart
  tally : TallyPart
  sec : SecPart
  boot : BootPart
  deriving DecidableEq, Repr

/-- A function as reset leaves it (R352 to R354, R375, R400): no ring, no table, no root, every register at its
reset value. -/
def Fn.reset : Fn where
  busy := false
  overrun := false
  cmdStatus := 0
  resVersion := 0
  resDbMode := false
  cmdSq := 0
  args := []
  apBase := 0
  apEnable := false
  ctxBase := 0
  ctxCount := 0
  ctxSet := false
  eq := none
  cqs := []
  sqs := []
  msix := []
  enable := false
  ctxMax := 0
  sqMax := 0
  state := .disabled
  saved := false
  sluiceMax := 0
  groupMax := 0
  opsMax := 0
  slotMax := 0
  root := none
  bitmap := none
  quiesceOp := 0
  quiesceCount := 0
  quiesceBy := 0
  idleDue := false

/-- The host interface after power-on reset (R350 to R352). Log: 4 (DESIGN CHOICE), 13 (DESIGN CHOICE). -/
def HostPart.reset : HostPart where
  fns := []
  lines := []
  ctxs := []
  slots := []
  turns := []
  setupLock := false
  instSel := 0
  vfEnable := false
  numVfs := 0
  cxl := 0
  flit := false
  speed := 0
  width := 0
  writes := []
  msis := []
  aerNonFatal := []
  aerFatal := []
  readData := []
  readPoison := false

/-- Memory and placement after reset (R202, R612): every byte zero, no pond and no plot.
Log: 15 (DESIGN CHOICE), 16 (DESIGN CHOICE). -/
def MemPart.reset : MemPart where
  hbm := []
  sram := []
  prog := []
  poison := []
  sramPoison := []
  progPoison := []
  loft := []
  loftClock := 0
  snoop := []
  stageWays := []
  stageWritten := []
  remoteMask := []
  spill := []
  spillWritten := []
  remap := []
  ponds := []
  fences := []
  seamReplays := []
  order := 0

/-- No work after reset (R612). Log: 4 (DESIGN CHOICE), 5 (DESIGN CHOICE), 15 (DESIGN CHOICE). -/
def WorkPart.reset : WorkPart where
  ops := []
  nextOp := 1
  sluices := []
  nextSluice := 1
  sluiceHeld := []
  nextStep := 1
  sent := []
  free := 0

/-- No translation is cached after reset. Log: 15 (DESIGN CHOICE). -/
def XlatPart.reset : XlatPart where
  tlb := []
  micro := []
  walkCache := []
  clock := 0
  walks := []
  faults := []
  windows := []

/-- The engines are idle after reset. Log: 15 (DESIGN CHOICE). -/
def EnginePart.reset : EnginePart where
  mills := []
  runs := []
  order := 0
  clearPages := []
  orphans := []
  groups := []
  nextGroup := 1
  redHeld := []
  redCrcs := []
  served := []

/-- Errors after power-on reset (R648). Log: 11 (DESIGN CHOICE). -/
def RasPart.reset : RasPart where
  fatal := false
  fatalCode := 0
  afterFatal := 0
  buckets := []
  poisons := 0
  poisonSecond := 0
  poisonPosted := 0
  poisonUnposted := 0
  selClass := 0
  selUnit := 0
  scrubHours := 0x18
  scrubLoft := 0x3C
  thresholds := []
  flashFences := []
  fencedAlone := []

/-- Clocks after power-on reset (R597, R600, R608). Log: 12 (DESIGN CHOICE), 14 (DESIGN CHOICE). -/
def ClockPart.reset : ClockPart where
  tb := 0
  src := 0
  rootLocked := false
  refPresent := false
  corr := 0
  slew := 0
  latch := 0
  setLo := 0
  uncertain := true
  setBad := false
  jumps := 0
  offset := 0
  domSel := 0
  stretching := []
  brumEnable := true
  idleS := 0x1E
  entryStep := 0
  lastAbort := 0
  lastSrc := 0
  wakeSrc := 0
  asleep := false
  wakeStep := 0
  wordLo := 0
  wordHi := 0
  entries := 0
  linkBefore := (0, 0)

/-- The fabric after reset (R481, R516). -/
def FabricPart.reset : FabricPart where
  subs := []
  genMax := 3
  holdMs := 50
  fenceAfter := 3
  member := 0
  group := none
  devId := 0xFFFF
  confirmed := false
  routeMode := false
  anchor := false
  leaderOk := true
  unreachMs := 0x64
  join := .off
  cause := 0
  leader := false
  timeRoot := false
  leaderMember := 0
  dM := 0
  dG := 0
  rounds := 0
  changed := false
  upSeen := 0
  areaLo := 0
  areaHi := 0
  routeGrp := []
  routeMbr := []
  routeSet := []
  neighbours := []
  leaders := []
  rejected := []
  dups := []
  roundKind := 0
  reported := []
  reportLeader := []
  unreachable := []
  meres := []
  pushIn := []
  pushOut := []
  faults := []
  merged := []
  anchorId := 0xFFFF
  t1 := 0
  paths := []

/-- The weir after reset: nothing written, so that every register reads at its reset value (R462).
Log: 14 (DESIGN CHOICE). -/
def WeirPart.reset : WeirPart where
  base := []
  lim := []
  tgt := []
  cap := []
  capNow := []
  busyNow := 0x60
  stat := []
  missCnt := []
  missRun := []
  windowUs := 0x64
  defaultClass := 0
  busyLevel := 0x60
  pondSel := 0
  e := []
  q := []
  shiftNow := []
  credit := []
  aged := []
  ponds := []

/-- A coefficient table that is the built-in one (R547). -/
def Coef.empty : Coef := { version := 0, values := [], builtin := true, digest := [] }

/-- The Tally after power-on reset (R556, R559): no chain is resumed yet. Log: 73 (DESIGN CHOICE). -/
def TallyPart.reset : TallyPart where
  enable := false
  periodMs := 0xA
  ckptMs := 0x3E8
  log2 := 8
  baseLo := 0
  baseHi := 0
  cbLo := 0
  cbHi := 0
  coef := Coef.empty
  pondCoef := []
  accts := []
  who := []
  filler := []
  starts := []
  period := 0
  uncertainTo := 0
  seq := 0
  hash := []
  head := 0
  tail := 0
  backlog := []
  overflow := []
  signing := false
  last := none
  due := none
  gap := none
  counts := [0, 0, 0, 0]
  ckptDue := false
  formed := []
  fillerFault := []

/-- The security block with every fuse of the life-cycle field intact. Log: 11 (DESIGN CHOICE). -/
def SecPart.reset : SecPart where
  lcFuse := 0
  svn := 0
  revoked := []
  hasKey := false
  pufFails := 0
  keyless := 0
  helper := none
  nonce := none
  lcTarget := none
  lcChanged := false
  running := none
  tallyQ := []
  otherQ := []
  engCode := 0
  engOut := []
  scalars := []
  slots := []
  slotWaits := []
  serving := 8
  turn := 7
  suspended := []
  digest := []
  spdmVersion := 0
  spdmAlgos := false
  sessions := []

/-- Boot and management after power-on reset, with nothing in flash.
Log: 4 (DESIGN CHOICE), 11 (DESIGN CHOICE), 12 (DESIGN CHOICE). -/
def BootPart.reset : BootPart where
  cause := 1
  stage := 0
  ready := false
  perst := true
  fallback := false
  bootFail := false
  times := []
  straps := 0
  resetDue := false
  slots := []
  mwActive := 0
  newtActive := [0, 0, 0, 0]
  xActive := [0, 0, 0, 0]
  mwSlot := 0
  newtRuns := []
  portRuns := []
  measures := []
  activating := []
  config := []
  checkpoint := none
  cert := []
  certKey := (0, 0)
  mwUp := false
  mwCause := 0
  mwPrev := 0
  mwFails := 0
  expiries := []
  bmcPriv := false
  eids := []
  replies := []

/-- The machine right after power-on reset (R610, R666): the sequencer is in OFF, and every register at its reset
value. -/
def State.reset : State where
  pending := []
  host := HostPart.reset
  mem := MemPart.reset
  work := WorkPart.reset
  xlat := XlatPart.reset
  eng := EnginePart.reset
  ras := RasPart.reset
  clk := ClockPart.reset
  fab := FabricPart.reset
  weir := WeirPart.reset
  pwr := PowerPart.reset
  tally := TallyPart.reset
  sec := SecPart.reset
  boot := BootPart.reset

/-- Reasons the machine stops with a fault. Log: 107 (DESIGN CHOICE). -/
inductive Fault where
  /-- Raised by nothing: no command of the table stops the block. Safe. -/
  | none_
  deriving DecidableEq, Repr

/-- Reasons a command has no meaning. Log: 107 (DESIGN CHOICE). -/
inductive Refusal where
  /-- The command is not modelled yet: raised by exec's own arm for it. Safe. -/
  | notModelled (mnemonic : String)
  deriving DecidableEq, Repr

end Sys2Proof.Machine
end

