-- ==== Sys2Proof/Machine/Access.lean ====
section
/-! DEFINITION. Where an address leads and what memory holds there: placement of plots on channels (R210, R211),
homes and the loft (R199 to R207), poison (R639 to R641), page-table walks (R394 to R403), and reads by any agent
under the sluice rules of R263. -/

namespace Sys2Proof.Machine

/-- The timebase in whole nanoseconds (R596). Log: 60 (DEDUCED). -/
def State.ns (s : State) : Nat := s.clk.tb >>> 32

/-- Whether unit `unit` of class `cls` is fenced (R307, R673). -/
def State.fenced (s : State) (cls unit : Nat) : Bool := s.mem.fences.contains (cls * 65536 + unit)

/-- The die that owns a channel (R20). -/
def dieOfChan (c : Nat) : Nat := c / 96

/-- The die of a tile number (R5). -/
def dieOfTile (t : Nat) : Nat := if t < 384 then t / 96 else (t - 384) / 32

/-- Whether tile number `t` is a Vane tile (R5). -/
def isVaneTile (t : Nat) : Bool := decide (384 ≤ t)

/-- Size of a tile's SRAM in bytes: 4 MiB Millstone, 2 MiB Vane. -/
def sramSize (t : Nat) : Nat := if t < 384 then 0x400000 else 0x200000

/-- The channel byte of offset `o` in a plot, as channel × 2^31 + offset (R211). Log: 16 (DESIGN CHOICE). -/
def Plot.chanAddr (p : Plot) (o : Nat) : Nat :=
  let c := if p.s = 0 then 0 else ((o >>> 10) ^^^ (o >>> 20)) % 2 ^ p.s
  getAt 0 p.chans c * 0x80000000 + (p.base * 0x1000000 + (((o >>> (10 + p.s)) <<< 10) ||| (o % 1024)))

/-- The remap entry of a local offset's plot, if the offset lies in plot space and the plot is placed (R412). -/
def State.plotOf (s : State) (off : Nat) : Option Plot :=
  if off < 0xC000000000 then s.mem.remap.at? (off / 0x20000000) else none

/-- The HBM key of a local offset. Log: 16 (DESIGN CHOICE). -/
def State.hbmKey (s : State) (off : Nat) : Option Nat :=
  (s.plotOf off).map (fun p => p.chanAddr (off % 0x20000000))

/-- A plot with a fenced channel has lost its contents, until a POND_REBIND places it anew (R310). -/
def State.plotLost (s : State) (p : Plot) : Bool := p.lost || p.chans.any (fun c => s.fenced 4 c)

/-- The published byte at a local offset; an unplaced plot holds no memory. -/
def State.byteAt (s : State) (off : Nat) : Byte :=
  match s.hbmKey off with
  | some k => s.mem.hbm.get k
  | none => 0

/-- The `n` published bytes at a local offset. -/
def State.readPub (s : State) (off n : Nat) : List Byte := (List.range n).map (fun i => s.byteAt (off + i))

/-- Whether the 64-byte granule of a local offset reads as poison (R310, R639). -/
def State.poisonAt (s : State) (off : Nat) : Bool :=
  match s.plotOf off with
  | some p => s.plotLost p || s.mem.poison.contains (p.chanAddr (off % 0x20000000) / 64)
  | none => false

/-- The granules a range touches, by their first local offset. -/
def granules (off n : Nat) : List Nat :=
  if n = 0 then [] else (List.range ((off + n - 1) / 64 - off / 64 + 1)).map (fun i => (off / 64 + i) * 64)

/-- Whether any granule of a range reads as poison. -/
def State.poisonIn (s : State) (off n : Nat) : Bool := (granules off n).any s.poisonAt

/-- The lines (offset / 128) a range touches. -/
def linesOf (off n : Nat) : List Nat :=
  if n = 0 then [] else (List.range ((off + n - 1) / 128 - off / 128 + 1)).map (off / 128 + ·)

/-- The 4 KiB pages (offset / 4096) a range touches. -/
def pagesOf (off n : Nat) : List Nat :=
  if n = 0 then [] else (List.range ((off + n - 1) / 4096 - off / 4096 + 1)).map (off / 4096 + ·)

/-- The slice of R200 for a local offset. -/
def sliceOf (off : Nat) : Nat :=
  bitsOf off 7 7 ^^^ bitsOf off 14 7 ^^^ bitsOf off 21 7 ^^^ bitsOf off 28 7 ^^^ bitsOf off 35 7

/-- The set of R200 for a local offset. -/
def setOf (off : Nat) : Nat := bitsOf off 14 12 ^^^ bitsOf off 26 12

/-- The home slice of a local offset on its die: a fenced slice's lines pass to the next unfenced one (R311). -/
def State.homeSlice (s : State) (die off : Nat) : Nat :=
  let k := sliceOf off
  match ((List.range 128).map (fun i => (k + i) % 128)).find? (fun j => !s.fenced 5 (128 * die + j)) with
  | some j => j
  | none => k

/-- The stop of a slice or tile as a unit number of class 2 is not needed here: a line's home, as die × 128 + slice. -/
def State.homeOf (s : State) (off : Nat) : Nat :=
  match s.plotOf off with
  | some p => 128 * p.die + s.homeSlice p.die off
  | none => 0

/-- Staged writes and atomics of a sluice laid over a copy of memory keyed by local offset (R263, R264). -/
def overlay : Memory → List Staged → Memory
  | m, [] => m
  | m, a :: l =>
    overlay
      (if a.kind = 0 then m.write a.off a.bytes
       else m.write a.off (leBytes 4 (max (leNat (m.read a.off 4)) (leNat a.bytes)))) l

/-- Whether a staged action touches a range. -/
def Staged.touches (a : Staged) (lo hi : Nat) : Bool := decide (a.off < hi) && decide (lo < a.off + a.bytes.length)

/-- The `n` bytes at a local offset as an operation of sluice entry `slu` sees them (R263); 0 = no sluice. -/
def State.readLocal (s : State) (slu off n : Nat) : List Byte :=
  match s.work.sluices.at? slu with
  | none => s.readPub off n
  | some e =>
    let lo := off / 4 * 4
    let hi := (off + n + 3) / 4 * 4
    (overlay (Memory.write [] lo (s.readPub lo (hi - lo))) (e.staged.filter (·.touches lo hi))).read off n

/-- Whether the bytes a sluice has staged cover a whole granule (R641). -/
def Sluice.covers (e : Sluice) (g : Nat) : Bool :=
  (List.range 64).all (fun i => e.staged.any (fun a => a.kind = 0 && a.off ≤ g + i && g + i < a.off + a.bytes.length))

/-- Whether a read by an operation of sluice entry `slu` meets poison: not in a granule the sluice's staged bytes cover
(R641). -/
def State.poisonFor (s : State) (slu off n : Nat) : Bool :=
  match s.work.sluices.at? slu with
  | none => s.poisonIn off n
  | some e => (granules off n).any (fun g => s.poisonAt g && !e.covers g)

/-- The share of a loft way mask that lies in the cache ways of a die (R204, R294). -/
def State.cacheWays (s : State) (die mask : Nat) : List Nat :=
  (maskBits 16 mask).filter (fun w => decide (s.mem.stageWays.get 4 die ≤ w))

/-- Whether a re-bind moves a plot to another die (R301, R303). -/
def State.crosses (s : State) (r : Rebind) (plot : Nat) : Bool :=
  r.moving.contains plot && (match s.mem.remap.at? plot, Tab.at? r.binding.plots plot with
    | some a, some b => a.die ≠ b.die
    | _, _ => false)

/-- Whether the plot of a local offset is being copied to another die: it allocates nothing on the old one (R301). -/
def State.leavingDie (s : State) (off : Nat) : Bool :=
  s.mem.ponds.any (fun p => p.2.rebind.any (fun r => s.crosses r (off / 0x20000000)))

/-- Dirty pages of plots that move (R301). -/
def State.noteMoving (s : State) (off n : Nat) : State :=
  { s with mem := { s.mem with ponds := s.mem.ponds.map (fun p => match p.2.rebind with
      | some r =>
        if r.moving.contains (off / 0x20000000) then
          (p.1, { p.2 with rebind := some { r with
              dirty := r.dirty ++ (pagesOf off n).filter (fun g => !r.dirty.contains g) } })
        else p
      | none => p) } }

/-- The loft after an access to the line of a local offset (R206): `mask` holds the ways it may allocate into; with none
the access behaves as NOALLOC (R204). The lines of a plot being copied to another die allocate nothing, and a dirty line
that leaves is written to its plot's bytes (R301).
Log: 17 (DEDUCED). -/
def State.loftTouch (s : State) (off : Nat) (hint : Hint) (mask : Nat) (write : Bool) : State :=
  match s.plotOf off with
  | none => s
  | some p =>
    let line := off / 128
    let c := s.mem.loftClock + 1
    let hint := if mask = 0 && hint = .alloc then .noalloc else hint
    if s.mem.loft.any (fun l => l.line = line) then
      { s with mem := { s.mem with
          loftClock := c
          loft := s.mem.loft.map (fun l =>
            if l.line = line then
              { l with dirty := l.dirty || write, used := if hint = .alloc then c else l.used }
            else l) } }
    else
      let slice := s.homeSlice p.die off
      let set := setOf off
      let ways := s.cacheWays p.die mask
      if hint = .noalloc || ways.isEmpty || s.leavingDie off then s
      else
        let here := s.mem.loft.filter (fun l => l.die = p.die && l.slice = slice && l.set = set)
        let free := ways.find? (fun w => !here.any (fun l => l.way = w))
        let victim := minBy? (·.used) (here.filter (fun l => ways.contains l.way))
        let way := match free, victim with
          | some w, _ => w
          | none, some v => v.way
          | none, none => 0
        let entry : LoftLine :=
          { line, die := p.die, slice, set, way, dirty := write, used := if hint = .alloc then c else 0 }
        let out := here.filter (fun l => l.way = way && l.dirty)
        let s1 : State := { s with mem := { s.mem with
            loftClock := c
            loft := entry :: s.mem.loft.filter (fun l =>
              !(l.die = p.die && l.slice = slice && l.set = set && l.way = way)) } }
        out.foldl (fun s l => s.noteMoving (l.line * 128) 128) s1

/-- `loftTouch` over every line of a range. -/
def State.loftTouchRange (s : State) (off n : Nat) (hint : Hint) (mask : Nat) (write : Bool) : State :=
  (linesOf off n).foldl (fun s l => s.loftTouch (l * 128) hint mask write) s

/-- The loft hint of a page-table entry (R205, R395). -/
def hintOf (lhint : Nat) : Hint := if lhint = 1 then .noalloc else if lhint = 2 then .evictFirst else .alloc

/-- Who makes an access: its function, the context slot + 1 (0 = none), the die of its shared TLB, its tile + 1
(0 = none), the sluice entry, operation and pond it acts for (0 = none). -/
structure Agent where
  fn : Nat
  slot : Nat
  die : Nat
  tile : Nat
  sluice : Nat
  op : Nat
  pond : Nat
  deriving DecidableEq, Repr

/-- Where a physical address leads (R402, R411). -/
inductive Place where
  | local_ (off : Nat)
  | host (bus : Nat)
  | remote (dev off : Nat)
  | window (dev idx off : Nat)
  deriving DecidableEq, Repr

/-- The outcome of a translation; `stall` = the walk waits for an entry's granule (R224, R271, R303). -/
inductive Xlat where
  | ok (p : Place) (lhint : Nat)
  | fault (cause level : Nat)
  | poison
  | stall
  deriving DecidableEq, Repr

/-- The detail of TRANSLATION_FAULT (R403). -/
def xlatDetail (va cause level : Nat) : Nat := va % 2 ^ 55 + level * 2 ^ 56 + cause * 2 ^ 59

/-- The instance of a function, if it is not the physical function. -/
def instOf (fn : Nat) : Option Nat := if fn = 0 then none else some (fn - 1)

/-- Whether the plot of a local offset is bound to a pond of instance `i`. -/
def State.ownedBy (s : State) (off i : Nat) : Bool :=
  match s.plotOf off with
  | some p => match s.mem.ponds.at? p.owner with
    | some q => decide (q.inst = i)
    | none => false
  | none => false

/-- Malformed page-table entries (R396). -/
def pteBad (e lvl : Nat) : Bool :=
  let leaf := bitOf e 1
  bitsOf e 60 4 ≠ 1 || bitsOf e 6 10 ≠ 0 || bitsOf e 2 2 = 3
    || (leaf && lvl = 1) || (!leaf && lvl = 3)
    || (bitOf e 5 && !(leaf && lvl = 3))
    || (leaf && lvl = 2 && bitsOf e 16 13 ≠ 0)
    || (!leaf && (bitsOf e 2 2 ≠ 0 || bitOf e 4))

/-- Whether a physical address names a table of this device in a plot the function may use (R397).
Log: 113 (DEDUCED). -/
def State.goodTable (s : State) (fn t : Nat) : Bool :=
  let dev := bitsOf t 43 16
  let off := bitsOf t 0 43
  !bitOf t 59 && (dev = 0xFFFF || dev = s.fab.devId) && off < 0xC000000000 && (s.plotOf off).isSome
    && (match instOf fn with
        | none => true
        | some i => s.ownedBy off i)

/-- What a physical address a walk of function `fn` yields leads to (R402). -/
def State.classify (s : State) (fn pa lhint : Nat) : Xlat :=
  let dev := bitsOf pa 43 16
  let off := bitsOf pa 0 43
  if bitOf pa 59 then
    if fn ≠ 0 then .fault 8 3 else .ok (.window dev (bitsOf pa 31 12) (bitsOf pa 0 31)) lhint
  else if 0x8000 ≤ dev ∧ dev ≠ 0xFFFF then .fault 7 3
  else if dev ≠ 0xFFFF ∧ dev ≠ s.fab.devId then .ok (.remote dev off) lhint
  else if 0x40000000000 ≤ off then .ok (.host (off - 0x40000000000)) lhint
  else if 0xC000000000 ≤ off then .fault 7 3
  else match instOf fn with
    | none => if (s.plotOf off).isSome then .ok (.local_ off) lhint else .fault 7 3
    | some i => if s.ownedBy off i then .ok (.local_ off) lhint else .fault 6 3

/-- Whether a sluice other than `slu` holds the lines or guarded pages of a range (R271 step 3): accesses by others
to staged lines stall, and writes into guarded pages stall. -/
def State.heldBySluice (s : State) (slu off n : Nat) (write : Bool) : Bool :=
  s.work.sluices.any (fun p =>
    p.1 ≠ slu && (p.2.state = .holding || p.2.state = .prepared || p.2.state = .committed)
      && (p.2.staged.any (fun a => (linesOf a.off a.bytes.length).any (linesOf off n).contains)
          || (write && p.2.guards.any (pagesOf off n).contains)))

/-- Whether a switch phase stalls accesses to the plot of a local offset (R303). -/
def State.movingPlot (s : State) (off : Nat) : Bool :=
  s.mem.ponds.any (fun p => match p.2.rebind with
    | some r => r.switching && r.moving.contains (off / 0x20000000)
    | none => false)

/-- Whether the host holds a granule of the range in an owned state: other agents wait for its write-back (R224). -/
def State.hostOwns (s : State) (off n : Nat) : Bool :=
  s.mem.snoop.any (fun e => e.owned && e.agent = 0 && (granules off n).contains (e.granule * 64))

/-- Whether an access to local memory stalls now. -/
def State.stalls (s : State) (slu off n : Nat) (write : Bool) : Bool :=
  s.heldBySluice slu off n write || s.movingPlot off || s.hostOwns off n

/-- What a walk found: the physical address, its span, hint and global bit, or a fault; `stall` = it waits for an
entry's granule. -/
inductive Walk where
  | leaf (pa span lhint : Nat) (glob : Bool) (level : Nat)
  | fault (cause level : Nat)
  | poison
  | stall
  deriving DecidableEq, Repr

/-- The entries of a contiguous group, the 16 of the level-3 table about the entry at local offset `at_`, that an access in it
may translate through: the well-formed leaves with contig = 1 (R399). -/
def State.contigGroup (s : State) (at_ : Nat) : List Nat :=
  ((List.range 16).map (fun i => at_ / 128 * 128 + 8 * i)).filterMap (fun a =>
    let e := leNat (s.readPub a 8)
    if !s.poisonAt a && bitOf e 0 && bitOf e 5 && !pteBad e 3 then some e else none)

/-- The entry an access in a contiguous group translates through, its own being `e`: where the group's declaration is false,
which of the group it is is a free value (R399). Log: 127 (DESIGN CHOICE). -/
def State.contigEntry (s : State) (va at_ e : Nat) : Nat :=
  let l := s.contigGroup at_
  getAt e l (Config.contigPick s.work.free va % l.length)

/-- The levels of a walk, from level `4 - k` with the table at physical address `t` (R401). An entry is read at its home
as any published byte is: not while the host owns its granule (R224), a sluice holds its line (R271) or its plot moves
(R303). -/
def State.walkFrom (s : State) (fn va : Nat) : Nat → Nat → Walk
  | 0, _ => .fault 5 3
  | k + 1, t =>
    let lvl := 3 - k
    let idx := (va >>> (16 + 13 * k)) % 0x2000
    let at_ := bitsOf t 0 43 + 8 * idx
    if s.stalls 0 at_ 8 false then .stall
    else if s.poisonAt at_ then .poison
    else
      let e := leNat (s.readPub at_ 8)
      if !bitOf e 0 then .fault 3 lvl
      else if pteBad e lvl then .fault 4 lvl
      else if bitOf e 1 then
        let addr := bitsOf e 16 44
        if lvl = 2 then .leaf ((addr >>> 13) <<< 29) 29 (bitsOf e 2 2) (bitOf e 4) 2
        else if bitOf e 5 then
          let e' := s.contigEntry va at_ e
          .leaf ((bitsOf e' 16 44 >>> 4) <<< 20) 20 (bitsOf e' 2 2) (bitOf e' 4) 3
        else .leaf (addr <<< 16) 16 (bitsOf e 2 2) (bitOf e 4) 3
      else
        let t' := bitsOf e 16 44 <<< 16
        if s.goodTable fn t' then s.walkFrom fn va k t' else .fault 5 lvl

/-- A walk of function `fn` for `va` from the root (R401). -/
def State.walk (s : State) (fn va : Nat) : Walk :=
  if 2 ^ 55 ≤ va then .fault 2 0
  else match (s.host.fns.at? fn).bind (·.root) with
    | none => .fault 1 0
    | some root => s.walkFrom fn va 3 (0xFFFF * 2 ^ 43 + root)

/-- The walk-cache entry of a die that covers `va` furthest down (R404). -/
def State.walkEntry (s : State) (die fn va : Nat) : Option WalkEntry :=
  let hit (lvl shift : Nat) : Option WalkEntry :=
    s.xlat.walkCache.find? (fun w => w.die = die && w.fn = fn && w.level = lvl && w.vprefix = va >>> shift)
  (hit 2 29).or (hit 1 42)

/-- A walk by die `die`'s walker (R401, R404): from the table its walk cache names, else from the root. -/
def State.walkOn (s : State) (die fn va : Nat) : Walk :=
  match s.walkEntry die fn va with
  | some w =>
    if 2 ^ 55 ≤ va || ((s.host.fns.at? fn).bind (·.root)).isNone then s.walk fn va
    else if s.goodTable fn w.table then s.walkFrom fn va (3 - w.level) w.table
    else .fault 5 w.level
  | none => s.walk fn va

/-- A cached translation that matches an access (R101, R404). -/
def Translation.hits (t : Translation) (fn slot va : Nat) : Bool :=
  t.fn = fn && (t.slot = 0 || t.slot = slot) && t.vpage = va >>> t.span

/-- The cached translation an access uses: the tile's micro-TLB, then its die's shared TLB. -/
def State.cachedXlat (s : State) (a : Agent) (va : Nat) : Option Translation :=
  match s.xlat.micro.find? (fun m => m.1 + 1 = a.tile && m.2.hits a.fn a.slot va) with
  | some m => some m.2
  | none => s.xlat.tlb.find? (fun t => t.die = a.die && t.hits a.fn a.slot va)

/-- A list with its least recently used entry of those `sel` selects dropped when `n` of them are there. -/
def evictLru (l : List Translation) (sel : Translation → Bool) (n : Nat) : List Translation :=
  if (l.filter sel).length < n then l
  else match minBy? (·.used) (l.filter sel) with
    | none => l
    | some v => l.filter (fun t => !(sel t && t.used = v.used))

/-- A tile's micro-TLB with one more translation: 64 entries in a Millstone tile, 32 in a Vane tile (R101, R404).
Log: 98 (PRESUMED). -/
def State.fillMicro (s : State) (tile : Nat) (t : Translation) : State :=
  let mine := evictLru ((s.xlat.micro.filter (fun m => m.1 = tile)).map (·.2)) (fun _ => true)
    (if isVaneTile tile then 32 else 64)
  let others := s.xlat.micro.filter (fun m => m.1 ≠ tile)
  { s with xlat := { s.xlat with micro := (tile, t) :: (mine.map (fun u => (tile, u)) ++ others) } }

/-- The translation an access uses becomes the most recent of its micro-TLB, or of the shared TLB, which also fills the
tile's micro-TLB (R101, R404). -/
def State.useXlat (s : State) (a : Agent) (va : Nat) : State :=
  let c := s.xlat.clock + 1
  if s.xlat.micro.any (fun m => m.1 + 1 = a.tile && m.2.hits a.fn a.slot va) then
    { s with xlat := { s.xlat with
        clock := c
        micro := s.xlat.micro.map (fun m =>
          if m.1 + 1 = a.tile && m.2.hits a.fn a.slot va then (m.1, { m.2 with used := c }) else m) } }
  else match s.xlat.tlb.find? (fun t => t.die = a.die && t.hits a.fn a.slot va) with
    | none => s
    | some t =>
      let s1 : State := { s with xlat := { s.xlat with
        clock := c
        tlb := s.xlat.tlb.map (fun u => if u = t then { u with used := c } else u) } }
      if a.tile = 0 then s1 else s1.fillMicro (a.tile - 1) { t with used := c }

/-- The fault level of a leaf check is that of the leaf (R403). -/
def Xlat.atLevel : Xlat → Nat → Xlat
  | .fault c _, l => .fault c l
  | x, _ => x

/-- Translation of one address: a cached translation where one matches, else a walk. Log: 129 (DEDUCED). -/
def State.translate (s : State) (a : Agent) (va : Nat) : Xlat :=
  if 2 ^ 55 ≤ va then .fault 2 0
  else match s.cachedXlat a va with
    | some t => (s.classify a.fn (t.pa + va % 2 ^ t.span) t.hint).atLevel (if t.span = 29 then 2 else 3)
    | none => match s.walkOn a.die a.fn va with
      | .leaf pa span h _ l => (s.classify a.fn (pa + va % 2 ^ span) h).atLevel l
      | .fault c l => .fault c l
      | .poison => .poison
      | .stall => .stall

/-- The pieces of a range of virtual addresses that lie in one 64 KiB page each: (address, length). -/
def pieces (va n : Nat) : List (Nat × Nat) :=
  if n = 0 then []
  else (List.range ((va + n - 1) / 65536 - va / 65536 + 1)).map (fun i =>
    let lo := if i = 0 then va else (va / 65536 + i) * 65536
    let hi := min (va + n) ((va / 65536 + i + 1) * 65536)
    (lo, hi - lo))

/-- The mere handle a pond's remote access to a device carries (R491). -/
def State.mereFor (s : State) (pond dev : Nat) : Option Nat :=
  ((s.fab.meres.filter (fun m => m.2.pond = pond && m.2.map.contains dev)).head?).map (·.1)

/-- A sub-link's state. -/
def State.subLink (s : State) (n : Nat) : SubLink := s.fab.subs.get SubLink.reset n

/-- Sub-links that carry traffic (R493, R495): UP, and draining no notice. -/
def State.upMask (s : State) : Nat :=
  ((List.range 64).filter (fun n => (s.subLink n).state = .up && (s.subLink n).notice = 0)).foldl
    (fun m n => m + 2 ^ n) 0

/-- The set of sub-links that the route tables name for a device (R492); `none` = no route. -/
def State.routeSet (s : State) (dev : Nat) : Option Nat :=
  let w := if dev / 256 = s.fab.devId / 256 then s.fab.routeMbr.get 0 (dev % 256) else s.fab.routeGrp.get 0 (dev / 256)
  if bitOf w 6 then some (s.fab.routeSet.get 0 (bitsOf w 0 6)) else none

/-- The sub-link a packet takes (R493): the (h mod k)-th of the usable ones. -/
def pickSub (dev addr usable : Nat) : Nat :=
  let l := maskBits 64 usable
  if l.isEmpty then 64 else getAt 64 l ((dev ^^^ bitsOf addr 7 16 ^^^ bitsOf addr 23 16) % l.length)

/-- How far a pond's traffic gets toward a device. -/
inductive Path where
  | open_ | refused | waits
  deriving DecidableEq, Repr

/-- Whether pond `pond` can send to another device (R291, R485, R491, R493, R496): refused for want of the join, of
sub-links of its own, of a membership or once the device is unreachable; waiting while there is no route or no UP
sub-link. -/
def State.pathTo (s : State) (pond dev : Nat) : Path :=
  match s.mem.ponds.at? pond with
  | none => .refused
  | some p =>
    if s.fab.join ≠ .joined || p.binding.subl = 0 || (s.mereFor pond dev).isNone || s.fab.unreachable.contains dev then
      .refused
    else match s.routeSet dev with
      | none => .waits
      | some m =>
        if m &&& s.upMask = 0 then .waits
        else if m &&& s.upMask &&& p.binding.subl = 0 then .refused
        else .open_

/-- The local place of a window of this device's own (R417), for an access of `n` bytes. -/
def State.ownWindow (s : State) (idx off n : Nat) (write : Bool) : Option Place :=
  match s.xlat.windows.at? idx with
  | none => none
  | some w =>
    if off + n ≤ w.pages * 65536 ∧ (w.req = 0xFFFF ∨ w.req = s.fab.devId) ∧ w.mere = 0
        ∧ (if write then w.wr else w.rd) = true ∧ w.clearing = 0 then
      if w.base < 0xC000000000 then some (.local_ (w.base + off)) else some (.host (w.base + off - 0x40000000000))
    else none

/-- A place with this device's own windows resolved; `none` = the access is refused (R417). -/
def State.resolvePlace (s : State) (p : Place) (n : Nat) (write : Bool) : Option Place :=
  match p with
  | .window dev idx off =>
    if dev = 0xFFFF ∨ dev = s.fab.devId then s.ownWindow idx off n write else some p
  | _ => some p

/-- The translations of a range's pages used by an access (R101, R404). -/
def State.useXlats (s : State) (a : Agent) (va n : Nat) : State :=
  (pieces va n).foldl (fun s p => s.useXlat a p.1) s

/-- The outcome of a read or of the check before a write: what came back, a status with its detail, or a stall. -/
inductive Acc (α : Type) where
  | ok (a : α)
  | bad (status detail : Nat)
  | stall
  deriving Repr

/-- One piece of a read (within a page). -/
def State.readPiece (s : State) (a : Agent) (ext : Ext) (va n : Nat) : Acc (List Byte) :=
  match s.translate a va with
  | .fault c l => .bad Status.translationFault (xlatDetail va c l)
  | .poison => .bad Status.memoryError va
  | .stall => .stall
  | .ok p _ => match s.resolvePlace p n false with
    | none => .bad Status.badTarget va
    | some (.local_ off) =>
      if (s.plotOf off).isNone then .bad Status.badTarget va
      else if s.stalls a.sluice off n false then .stall
      else if s.poisonFor a.sluice off n then .bad Status.memoryError va
      else .ok (s.readLocal a.sluice off n)
    | some (.host _) =>
      if ext.poison then .bad Status.hostAccessError va else .ok (ext.bytes.read va n)
    | some (.remote dev _) =>
      if s.pathTo a.pond dev = .waits then .stall
      else if ext.refused || s.pathTo a.pond dev = .refused then .bad Status.badTarget va
      else if ext.poison then .bad Status.memoryError va else .ok (ext.bytes.read va n)
    | some (.window dev _ _) =>
      if s.pathTo a.pond dev = .waits then .stall
      else if ext.refused || s.pathTo a.pond dev = .refused then .bad Status.badTarget va
      else if ext.poison then .bad Status.memoryError va else .ok (ext.bytes.read va n)

/-- Pieces of a read joined in order; the first that fails decides. -/
def State.readPieces (s : State) (a : Agent) (ext : Ext) : List (Nat × Nat) → Acc (List Byte)
  | [] => .ok []
  | (va, n) :: l => match s.readPiece a ext va n with
    | .bad st d => .bad st d
    | .stall => .stall
    | .ok bs => match s.readPieces a ext l with
      | .ok cs => .ok (bs ++ cs)
      | x => x

/-- A read of `n` bytes at a virtual address. -/
def State.readVa (s : State) (a : Agent) (ext : Ext) (va n : Nat) : Acc (List Byte) :=
  s.readPieces a ext (pieces va n)

end Sys2Proof.Machine
end

