-- ==== Sys2Proof/Machine/Forms.lean ====
section
/-! DEFINITION. The form rules of descriptors (R15, R358 to R360): for each opcode its slot count and the offsets of
the fields that offend in a given descriptor. A field offends at the byte that holds its lowest bit; a rule that
relates several fields offends at the highest of their offsets. -/

namespace Sys2Proof.Machine

/-- The offset `off` where the condition holds. -/
def offends (c : Bool) (off : Nat) : List Nat := if c then [off] else []

/-- A reserved field: `len` bits from bit `lo` of the word at `off`. -/
def rsv (d off lo len : Nat) : List Nat := offends (fld d off lo len ≠ 0) (off + lo / 8)

/-- `n` bytes from `off` that a rule reserves without a table row for them ("every byte from 0x20 onward"): each byte
offends by itself. Log: 108 (DEDUCED). -/
def rsvBytes (d off n : Nat) : List Nat := ((List.range n).map (fun i => rsv d (off + i) 0 8)).flatten

/-- The reserved bits of a virtual address field (R111). -/
def vaBits (d off : Nat) : List Nat := rsv d off 55 9

/-- A virtual address field aligned to `a` bytes. -/
def vaAligned (d off a : Nat) : List Nat := offends (fld d off 0 55 % a ≠ 0) off ++ vaBits d off

/-- A field outside its range. -/
def outside (d off lo len least most : Nat) : List Nat :=
  let v := fld d off lo len
  offends (v < least || most < v) (off + lo / 8)

/-- The header's fields that offend (R358, R359), for an opcode of `slots` slots. -/
def headerForm (slots d : Nat) : List Nat :=
  rsv d 0 4 4 ++ offends (fld d 2 0 3 ≠ slots) 2 ++ rsv d 2 3 5 ++ rsv d 3 2 6
    ++ offends (fld d 4 0 32 = 0) 4 ++ rsv d 8 48 16 ++ rsv d 0x10 20 12 ++ rsv d 0x18 20 12

/-- NOP (R360). Log: 108 (DEDUCED). -/
def nopForm (d : Nat) : List Nat := rsvBytes d 0x20 32

/-- The last byte + 1 of a Flume range in tile SRAM. -/
def flumeEnd (rows rowBytes stride addr : Nat) : Nat := addr + (rows - 1) * stride + rowBytes

/-- One side of a FLUME_COPY: address at `ao`, stride at `so`, its location (R218). The rules on a range in tile SRAM
relate it to its loc, the highest of their fields (R15). Log: 110 (DEDUCED). -/
def flumeSide (d loc ao so : Nat) : List Nat :=
  let rows := fld d 0x24 0 32
  let rb := fld d 0x20 0 32
  let stride := fld d so 0 32
  let addr := fld d ao 0 64
  (if loc = 0 then vaBits d ao
   else if loc = 1 then offends (addr / 0x400000 ≠ 0) 0x40
   else if loc = 2 then offends (addr / 0x200000 ≠ 0) 0x40 else [])
  ++ (if rows ≤ 1 then offends (stride ≠ 0) so else offends (stride < rb) so)
  ++ (if loc = 1 ∨ loc = 2 then
        offends (flumeEnd rows rb stride addr > (if loc = 1 then 0x400000 else 0x200000)) 0x40
      else [])

/-- FLUME_COPY (R217, R218). -/
def flumeForm (d : Nat) : List Nat :=
  let sl := fld d 0x40 0 2
  let dl := fld d 0x40 2 2
  offends (fld d 0x20 0 32 = 0) 0x20 ++ outside d 0x24 0 32 1 16777216
    ++ flumeSide d sl 0x28 0x38 ++ flumeSide d dl 0x30 0x3C
    ++ offends (sl = 3 || dl = 3) 0x40
    ++ offends (if sl = 0 then 4 ≤ fld d 0x40 4 3 else fld d 0x40 4 3 ≠ 0) 0x40 ++ rsv d 0x40 7 1
    ++ offends (if dl = 0 then 4 ≤ fld d 0x41 0 3 else fld d 0x41 0 3 ≠ 0) 0x41
    ++ offends (bitOf (fld d 0x41 0 8) 3 && (sl ≠ 0 || dl ≠ 0)) 0x41 ++ rsv d 0x41 4 4
    ++ offends (sl = 0 && fld d 0x42 0 9 ≠ 0) 0x42 ++ rsv d 0x42 9 7
    ++ offends (dl = 0 && fld d 0x44 0 9 ≠ 0) 0x44 ++ rsv d 0x44 9 23 ++ rsv d 0x48 0 448

/-- LOFT_PREFETCH (R208). -/
def loftForm (d : Nat) : List Nat :=
  let mode := fld d 0x2C 0 2
  let hint := fld d 0x2C 2 3
  vaBits d 0x20 ++ outside d 0x28 0 32 1 0x40000000 ++ offends (2 ≤ mode) 0x2C
    ++ offends (if mode = 0 then hint ≠ 0 && hint ≠ 1 && hint ≠ 3 else hint ≠ 0) 0x2C
    ++ rsv d 0x2C 5 27 ++ rsv d 0x30 0 128

/-- SLUICE_OPEN (R258, R260 step 1). -/
def sluiceOpenForm (d : Nat) : List Nat :=
  let mere := fld d 0x20 0 32
  let role := fld d 0x24 0 1
  let coord := mere ≠ 0 && role = 0
  offends (role = 1 && mere = 0) 0x24 ++ rsv d 0x24 1 31
    ++ offends (role = 0 && fld d 0x28 0 16 ≠ 0) 0x28 ++ rsv d 0x28 16 16
    ++ (if coord then outside d 0x2C 0 13 2 4096 else rsv d 0x2C 0 13) ++ rsv d 0x2C 13 19
    ++ (if coord then vaAligned d 0x30 64 else rsv d 0x30 0 64)
    ++ (if coord then outside d 0x38 0 32 100 60000000 else rsv d 0x38 0 32) ++ rsv d 0x3C 0 544

/-- SLUICE_GUARD (R259). -/
def sluiceGuardForm (d : Nat) : List Nat :=
  vaBits d 0x20 ++ outside d 0x28 0 32 1 0x40000000 ++ rsv d 0x2C 0 160

/-- SLUICE_COMMIT and SLUICE_ABORT (R257): every byte from 0x20 reserved. Log: 108 (DEDUCED). -/
def sluiceEndForm (d : Nat) : List Nat := rsvBytes d 0x20 32

/-- POND_CREATE (R293). -/
def pondCreateForm (d : Nat) : List Nat :=
  outside d 0x20 0 9 1 511 ++ rsv d 0x20 9 23 ++ rsv d 0x24 0 32 ++ vaAligned d 0x28 64 ++ rsv d 0x30 0 16
    ++ rsv d 0x32 0 16 ++ rsv d 0x34 0 96

/-- POND_REBIND (R293). -/
def pondRebindForm (d : Nat) : List Nat :=
  outside d 0x20 0 9 1 511 ++ rsv d 0x20 9 23 ++ outside d 0x24 0 32 1000 60000000 ++ vaAligned d 0x28 64
    ++ rsv d 0x32 0 16 ++ rsv d 0x34 0 96

/-- POND_DESTROY (R298, R293). Log: 108 (DEDUCED). -/
def pondDestroyForm (d : Nat) : List Nat :=
  rsv d 0x21 1 7 ++ rsvBytes d 0x22 30

/-- The first unit number past the range of a class (R673); 0 for a code that is not a class. -/
def unitLimit (cls : Nat) : Nat :=
  match cls with
  | 1 => 512 | 2 => 576 | 3 => 8 | 4 => 384 | 5 => 512 | 6 => 16 | 7 => 16 | 8 => 64 | 9 => 16 | 10 => 4 | _ => 0

/-- UNIT_FENCE and UNIT_RESTORE (R312, R313). Log: 108 (DEDUCED). -/
def unitForm (d : Nat) : List Nat :=
  let cls := fld d 0x20 0 4
  offends (unitLimit cls = 0) 0x20 ++ rsv d 0x20 4 4 ++ rsvBytes d 0x21 3
    ++ offends (unitLimit cls ≠ 0 && unitLimit cls ≤ fld d 0x24 0 16) 0x24 ++ rsvBytes d 0x26 26

/-- POND_SCHED (R318). -/
def pondSchedForm (d : Nat) : List Nat :=
  outside d 0x20 0 9 1 511 ++ rsv d 0x20 9 7 ++ outside d 0x20 16 8 1 255 ++ rsv d 0x20 24 8
    ++ outside d 0x24 0 14 1 10000 ++ rsv d 0x24 14 18 ++ rsv d 0x28 0 192

/-- PLOT_MAP (R674): with op = 0 every field of the entry but its version and its plot is reserved (R295); with op = 1
the entry has a status of its own, BAD_BINDING. -/
def plotMapForm (d : Nat) : List Nat :=
  (if fld d 0x60 0 1 = 0 then
    rsv d 0x20 4 4 ++ rsv d 0x21 0 8 ++ rsv d 0x22 0 16 ++ rsv d 0x25 3 21 ++ rsv d 0x28 0 192 ++ rsv d 0x40 0 256
   else []) ++ rsv d 0x60 1 31 ++ rsv d 0x64 0 224

/-- BEAT_SET (R329). -/
def beatSetForm (d : Nat) : List Nat :=
  rsv d 0x20 9 7 ++ rsv d 0x20 18 14 ++ outside d 0x24 0 32 1000 1000000
    ++ outside d 0x28 0 8 1 255 ++ rsv d 0x28 16 16 ++ rsv d 0x2C 0 32 ++ rsv d 0x38 0 64

/-- BEAT_STEP (R331). -/
def beatStepForm (d : Nat) : List Nat :=
  let token := fld d 0x20 0 1 = 0
  rsv d 0x20 1 31 ++ outside d 0x24 0 13 1 4096 ++ rsv d 0x24 13 19
    ++ (if token then rsv d 0x30 0 32 ++ rsv d 0x34 0 1 else []) ++ rsv d 0x34 1 31 ++ rsv d 0x38 0 64

/-- CTX_SCHED (R317). -/
def ctxSchedForm (d : Nat) : List Nat := rsv d 0x20 2 30 ++ rsv d 0x24 0 224

/-- XLAT_ROOT (R400). -/
def xlatRootForm (d : Nat) : List Nat :=
  (if fld d 0x28 0 1 = 1 then offends (fld d 0x20 0 16 ≠ 0) 0x20 ++ rsv d 0x20 43 21 else rsv d 0x20 0 64)
    ++ rsv d 0x28 1 31 ++ (if fld d 0x2C 9 1 = 0 then rsv d 0x2C 0 9 else []) ++ rsv d 0x2C 10 22 ++ rsv d 0x30 0 128

/-- XLAT_INVAL (R407). -/
def xlatInvalForm (d : Nat) : List Nat :=
  let scope := fld d 0x2C 0 2
  (if scope = 0 then
     offends (fld d 0x20 0 16 ≠ 0) 0x20 ++ vaBits d 0x20 ++ offends (fld d 0x28 0 32 = 0) 0x28
       ++ offends (2 ^ 55 < fld d 0x20 0 55 + fld d 0x28 0 32 * 65536) 0x28
   else rsv d 0x20 0 64 ++ rsv d 0x28 0 32)
    ++ offends (scope = 3) 0x2C ++ rsv d 0x2C 2 30
    ++ (if fld d 0x30 9 1 = 0 then rsv d 0x30 0 9 else []) ++ rsv d 0x30 10 22 ++ rsv d 0x34 0 96

/-- XLAT_DIRTY (R421). -/
def xlatDirtyForm (d : Nat) : List Nat :=
  let op := fld d 0x20 16 2
  rsv d 0x20 9 7 ++ offends (op = 3) 0x22 ++ rsv d 0x20 18 14 ++ rsv d 0x24 0 32
    ++ (if op = 0 then rsv d 0x28 0 64 else rsv d 0x28 43 21) ++ rsv d 0x30 0 128

/-- The instance descriptors (R428); `op` is the opcode. -/
def instForm (op d : Nat) : List Nat :=
  rsv d 0x20 9 23 ++ (if op = 0x90 then outside d 0x24 0 32 100 60000000 else rsv d 0x24 0 32)
    ++ (if op = 0x93 ∨ op = 0x94 then offends (fld d 0x28 0 12 ≠ 0) 0x28 ++ rsv d 0x28 43 21
        else if op = 0x95 then [] else rsv d 0x28 0 64)
    ++ (if op = 0x92 then outside d 0x30 0 11 0 1024 ++ outside d 0x30 16 9 0 256 ++ outside d 0x34 0 13 0 4096
          ++ outside d 0x34 16 7 0 64
        else rsv d 0x30 0 11 ++ rsv d 0x30 16 9 ++ rsv d 0x34 0 13 ++ rsv d 0x34 16 7)
    ++ rsv d 0x30 11 5 ++ rsv d 0x30 25 7 ++ rsv d 0x34 13 3 ++ rsv d 0x34 23 9 ++ rsv d 0x38 0 64

/-- A virtual address field that is used or reserved (R111), aligned to `a` bytes. Log: 24 (DEDUCED). -/
def addrRule (d off : Nat) (used : Bool) (a : Nat) : List Nat := if used then vaAligned d off a else rsv d off 0 64

/-- A row stride (R117): a multiple of 16 and at least `least` bytes where it is used; else reserved (R111).
Log: 24 (DEDUCED). -/
def strideRule (d off : Nat) (used : Bool) (least : Nat) : List Nat :=
  if used then offends (fld d off 0 32 % 16 ≠ 0 || fld d off 0 32 < least) off else rsv d off 0 32

/-- Packed bytes of `n` elements of `w` bits (R42). -/
def packed (w n : Nat) : Nat := (w * n + 7) / 8

/-- Pages of a panel (R123). -/
def panelPages (fmt : Nat) : Nat := if fmtBits fmt = 16 then 2 else 1

/-- A conversion control field of 4 bits (R52). -/
def cvtBad (cvt : Nat) : Bool := cvt % 4 = 3 || 8 ≤ cvt

/-- The stochastic-rounding fields (R121): reserved unless cvt.rnd = SR. -/
def srForm (d cvt seed stream : Nat) : List Nat :=
  if cvt % 4 = 2 then [] else rsv d seed 0 64 ++ rsv d stream 0 32

/-- Regions of pages (R124): (offset at which the region offends, first page, pages). A region past page 1,023, or two
that overlap. -/
def regionForm : List (Nat × Nat × Nat) → List Nat
  | [] => []
  | r :: l =>
    offends (1024 < r.2.1 + r.2.2) r.1
      ++ (l.map (fun x => offends (r.2.1 < x.2.1 + x.2.2 && x.2.1 < r.2.1 + r.2.2) (max r.1 x.1))).flatten
      ++ regionForm l

/-- The activation codes of R128. -/
def isAct (a : Nat) : Bool := a ≤ 7 || a = 0x10

/-- Fields of one operand of a gemm: format, its plan word, its address, stride, scale address, scale stride.
Log: 26 (DEDUCED). -/
def operandForm (d fmt fmtOff plan addr stride sAddr sStride : Nat) (own : Bool) : List Nat :=
  let k := fld d 0x28 0 32
  let keep := fld d plan 21 1 = 1
  let res := fld d plan 22 1 = 1
  let ring := fld d plan 10 11
  offends (!isStone fmt) fmtOff
    ++ offends ((isMx fmt && k % 32 ≠ 0) || (fmt = 7 && k % 2 ≠ 0)) fmtOff
    ++ (if own then addrRule d addr (!res) 64 else [])
    ++ strideRule d stride (!res) (packed (fmtBits fmt) k)
    ++ (if own then addrRule d sAddr (!res && isMx fmt) 64 else [])
    ++ strideRule d sStride (!res && isMx fmt) (k / 32)
    ++ offends (keep && res) (plan + 2)
    ++ offends (1024 < ring || (!keep && !res && ring < 2)) (plan + 1)
    ++ rsv d plan 23 9

/-- The tile SRAM regions of a gemm's plan (R123, R124); `blocks` = most blocks one rank writes, 0 = not known yet.
Log: 26 (DEDUCED). -/
def planRegions (d blocks : Nat) : List (Nat × Nat × Nat) :=
  let fa := fld d 0x2C 0 5
  let fb := fld d 0x2C 8 5
  let ra := fld d 0xD0 10 11
  let rb := fld d 0xD4 10 11
  let outRow := (if fld d 0x38 6 1 = 1 then 64 else 128) * fmtBits (fld d 0x2C 16 5) / 8
  (0xD1, fld d 0xD0 0 10, ra * panelPages fa) :: (0xD5, fld d 0xD4 0 10, rb * panelPages fb)
    :: ((if isMx fa then [(0xD8, fld d 0xD8 0 10, (ra + 31) / 32)] else [])
      ++ (if isMx fb then [(0xDA, fld d 0xD8 16 10, (rb + 31) / 32)] else [])
      ++ (if fld d 0xDC 0 1 = 1 ∧ blocks ≠ 0 then [(0xDE, fld d 0xDC 16 10, (blocks * 128 * outRow + 4095) / 4096)]
          else []))

/-- K range of part `p` (R115): [p × Kp, min(K, (p + 1) × Kp)). -/
def partRange (k ksplit p : Nat) : Nat × Nat :=
  let kp := ((k + ksplit - 1) / ksplit + 31) / 32 * 32
  (min k (p * kp), min k ((p + 1) * kp))

/-- Keep and resident regions against the panels their ranks need (R123): `rows` = most distinct block-rows or
block-columns of a rank. Log: 26 (DEDUCED). -/
def keepForm (d plan rows : Nat) : List Nat :=
  let kp := ((fld d 0x28 0 32 + fld d 0x34 16 7 - 1) / (max 1 (fld d 0x34 16 7)) + 31) / 32
  let most := min kp ((fld d 0x28 0 32 + 31) / 32)
  offends (fld d plan 21 2 ≠ 0 && fld d plan 10 11 < rows * most) (plan + 2)

/-- Fields shared by MILL_GEMM and MILL_GGEMM (R121, R122, R126 to R133). Log: 24 (DEDUCED), 25 (DEDUCED). -/
def gemmShared (d : Nat) (grouped : Bool) : List Nat :=
  let n := fld d 0x24 0 32
  let fa := fld d 0x2C 0 5
  let fb := fld d 0x2C 8 5
  let fc := fld d 0x2C 16 5
  let cvt := fld d 0x2C 24 4
  let fp := fld d 0x2C 28 1 = 1
  let epi := fld d 0x38 0 8
  let act := fld d 0x38 8 8
  let side := fld d 0x38 16 2
  let glu := epi.testBit 6
  let w := if glu then n / 2 else n
  let toTile := fld d 0xDC 0 1 = 1
  let sideBytes := if side = 0 then 4 else 2
  outside d 0x20 0 32 1 16777216 ++ outside d 0x24 0 32 1 16777216 ++ outside d 0x28 0 32 1 16777216
    ++ operandForm d fa 0x2C 0xD0 0x40 0x58 0x68 0x80 true
    ++ operandForm d fb 0x2D 0xD4 0x48 0x5C 0x70 0x84 (!grouped)
    ++ offends (!isOutput fc) 0x2E ++ rsv d 0x2C 5 3 ++ rsv d 0x2C 13 3 ++ rsv d 0x2C 21 3 ++ rsv d 0x2C 29 3
    ++ offends (cvtBad cvt) 0x2F
    ++ offends (fp && !([fa, fb].any (fun f => f = 2 || f = 3))) 0x2F
    ++ (if fp then rsv d 0x30 0 10 else []) ++ rsv d 0x30 10 6 ++ rsv d 0x30 25 7
    ++ outside d 0x34 0 9 1 384 ++ rsv d 0x34 9 7
    ++ offends (fld d 0x34 16 7 = 0 || 64 < fld d 0x34 16 7 || fld d 0x34 0 9 % (max 1 (fld d 0x34 16 7)) ≠ 0) 0x36
    ++ rsv d 0x34 23 9
    ++ offends (epi.testBit 7) 0x38 ++ offends (glu && n % 2 ≠ 0) 0x38
    ++ offends (!isAct act) 0x39 ++ offends (side = 3) 0x3A ++ rsv d 0x38 18 14
    ++ offends (isMx fc && w % 32 ≠ 0) (if glu then 0x38 else 0x2E)
    ++ offends (fc = 0x10 && fp) 0x2F ++ offends ((fc = 0x10 || fc = 0x08) && epi ≠ 0) 0x38
    ++ offends ((fc = 0x10 || fc = 0x08) && act ≠ 0) 0x39 ++ offends (fc = 0x10 && cvt ≠ 0) 0x2F
    ++ addrRule d 0x50 (!toTile) 64 ++ strideRule d 0x60 (!toTile) (packed (fmtBits fc) w)
    ++ (let ext := !toTile && (isMx fc || fc = 0x10)
        strideRule d 0x64 ext (if fc = 0x10 then (w + 3) / 4 else w / 32) ++ addrRule d 0x78 ext 64)
    ++ addrRule d 0x88 (epi.testBit 2) 1 ++ addrRule d 0x90 (epi.testBit 0) 1 ++ addrRule d 0x98 (epi.testBit 1) 1
    ++ addrRule d 0xA0 (epi.testBit 3) 64 ++ strideRule d 0xA8 (epi.testBit 3) (w * sideBytes) ++ rsv d 0xAC 0 32
    ++ addrRule d 0xB0 (act = 0x10) 64 ++ addrRule d 0xB8 (epi.testBit 5) 4
    ++ srForm d cvt 0xC0 0xC8 ++ rsv d 0xCC 0 32 ++ rsv d 0xD8 10 6 ++ rsv d 0xD8 26 6
    ++ offends (toTile && (isMx fc || fc = 0x10)) 0xDC ++ rsv d 0xDC 1 15 ++ rsv d 0xDC 26 6

/-- Blocks of a gemm's lane 0, the lane that receives the most (R114), and how many block-columns there are. -/
def gemmBlocks (d : Nat) : Nat × Nat :=
  let nb := (fld d 0x24 0 32 + 127) / 128
  let total := (fld d 0x20 0 32 + 127) / 128 * nb
  let lanes := fld d 0x34 0 9 / max 1 (fld d 0x34 16 7)
  ((total + lanes - 1) / max 1 lanes, nb)

/-- Most distinct block-rows and block-columns one lane of a gemm works on: lane `l` holds the blocks l + i × L, and
block b lies in block-row b / NB and block-column b mod NB (R114, R123). With L ≥ NB each of a lane's blocks has a row
of its own, and with L < NB its rows have no gap; its columns repeat after NB / gcd(NB, L) blocks. -/
def gemmDistinct (d : Nat) : Nat × Nat :=
  let nb := (fld d 0x24 0 32 + 127) / 128
  let total := (fld d 0x20 0 32 + 127) / 128 * nb
  let lanes := fld d 0x34 0 9 / max 1 (fld d 0x34 16 7)
  let count (l : Nat) : Nat := (total + lanes - 1 - l) / max 1 lanes
  let rows (l : Nat) : Nat := if count l = 0 then 0 else (l + (count l - 1) * lanes) / nb - l / nb + 1
  (if nb ≤ lanes then count 0 else (List.range lanes).foldl (fun x l => max x (rows l)) 0,
   min (count 0) (nb / Nat.gcd nb lanes))

/-- MILL_GEMM (R121 to R124). -/
def gemmForm (d : Nat) : List Nat :=
  gemmShared d false ++ rsv d 0xE0 0 256
    ++ keepForm d 0xD0 (gemmDistinct d).1 ++ keepForm d 0xD4 (gemmDistinct d).2
    ++ regionForm (planRegions d (gemmBlocks d).1)

/-- MILL_GGEMM (R134); the parts of the plan that the group table decides are checked when it has been read (R136). -/
def ggemmForm (d : Nat) : List Nat :=
  let gather := fld d 0xEC 16 1 = 1
  gemmShared d true ++ vaAligned d 0x48 64 ++ rsv d 0x70 0 64
    ++ (if gather then vaBits d 0xE0 else rsv d 0xE0 0 64 ++ rsv d 0xE8 0 32)
    ++ outside d 0xEC 0 13 1 4096 ++ rsv d 0xEC 13 3 ++ rsv d 0xEC 17 15 ++ rsv d 0xF0 0 128
    ++ regionForm (planRegions d 0)

/-- Bytes of an element of an attend format. -/
def fmtBytes (fmt : Nat) : Nat := fmtBits fmt / 8

/-- MILL_ATTEND (R145, R146). Log: 25 (DEDUCED). -/
def attendForm (d : Nat) : List Nat :=
  let qh := fld d 0x24 0 9
  let kh := fld d 0x24 16 9
  let dh := fld d 0x28 0 9
  let fq := fld d 0x2C 0 5
  let fk := fld d 0x2C 5 5
  let fp := fld d 0x2C 10 5
  let fo := fld d 0x2C 15 5
  let cvt := fld d 0x2C 20 4
  let rc := fld d 0x38 0 9
  let ks := fld d 0x38 16 7
  let qb := (128 * dh * fmtBytes fq + 4095) / 4096
  let kb := (256 * dh * fmtBytes fk + 4095) / 4096
  let pb := 128 * 256 * fmtBytes fp / 4096
  outside d 0x20 0 32 1 65536 ++ outside d 0x24 0 9 1 256 ++ rsv d 0x24 9 7 ++ outside d 0x24 16 9 1 256
    ++ offends (kh ≠ 0 && qh % kh ≠ 0) 0x26 ++ rsv d 0x24 25 7
    ++ offends (dh < 32 || 256 < dh || dh % 32 ≠ 0) 0x28 ++ rsv d 0x28 9 7 ++ rsv d 0x28 18 14
    ++ offends (!([2, 3, 4, 5].contains fq)) 0x2C ++ offends (!([2, 3, 4, 5].contains fk)) 0x2C
    ++ offends (!([2, 3, 4].contains fp)) 0x2D ++ offends (!([1, 2, 3, 4, 5].contains fo)) 0x2D
    ++ offends (cvtBad cvt) 0x2E ++ rsv d 0x2C 24 8
    ++ rsv d 0x30 10 6 ++ rsv d 0x30 26 6 ++ rsv d 0x34 10 6 ++ rsv d 0x34 25 7
    ++ outside d 0x38 0 9 1 384 ++ rsv d 0x38 9 7 ++ offends (ks = 0 || 64 < ks || rc % (max 1 ks) ≠ 0) 0x3A
    ++ rsv d 0x38 23 9 ++ vaAligned d 0x40 32 ++ vaAligned d 0x48 64 ++ vaAligned d 0x50 64
    ++ strideRule d 0x58 true (qh * dh * fmtBytes fq) ++ strideRule d 0x5C true (qh * dh * fmtBytes fo)
    ++ rsv d 0x64 0 224 ++ srForm d cvt 0x80 0x88
    ++ offends (fld d 0x8C 10 11 < qb + 4 * kb + pb || 1024 < fld d 0x8C 0 10 + fld d 0x8C 10 11) 0x8D
    ++ rsv d 0x8C 21 11 ++ rsv d 0x90 0 384

/-- Ranks of a Vane descriptor (R188, R190): a rank_first past the pond's ranks is BAD_RANK, not a form error.
Log: 109 (DEDUCED). -/
def vaneRanksForm (d : Nat) : List Nat :=
  rsv d 0x20 8 8 ++ outside d 0x20 16 8 1 128 ++ rsv d 0x20 24 8

/-- VANE_LOAD (R188, R190). -/
def vaneLoadForm (d : Nat) : List Nat :=
  vaneRanksForm d ++ rsv d 0x24 13 19 ++ offends (fld d 0x28 0 14 = 0 || 8192 < fld d 0x24 0 13 + fld d 0x28 0 14) 0x28
    ++ rsv d 0x28 14 18 ++ rsv d 0x2C 0 32 ++ vaAligned d 0x30 8 ++ rsv d 0x38 0 64

/-- VANE_RUN (R189, R190). -/
def vaneRunForm (d : Nat) : List Nat :=
  vaneRanksForm d ++ rsv d 0x24 13 19 ++ offends (fld d 0x28 0 32 = 0) 0x28 ++ rsv d 0x38 0 64

/-- Bytes a rank's block of a pack takes in tile SRAM (R150). -/
def packBlockBytes (d : Nat) : Nat :=
  if fld d 0x28 21 1 = 1 then (fld d 0x24 0 32 + 31) / 32 * panelPages (fld d 0x28 8 5) * 4096
  else 128 * fld d 0x44 0 32

/-- RED_OPEN (R237, R239); a rule over several fields offends at the highest of them (R15). -/
def redOpenForm (d : Nat) : List Nat :=
  let kind := fld d 0x28 0 2
  let fmt := fld d 0x28 2 5
  let n := fld d 0x34 0 17
  offends (fld d 0x20 0 64 = 0) 0x20 ++ offends (kind = 3 || (fmt ≠ 0x10 && fmt ≠ 0x01)) 0x28 ++ rsv d 0x28 8 24
    ++ outside d 0x2C 0 32 1000 65000000 ++ outside d 0x30 0 32 1 268435456
    ++ outside d 0x34 0 17 2 65536 ++ offends (kind = 2 && fld d 0x30 0 32 % max 1 n ≠ 0) 0x34 ++ rsv d 0x34 17 15
    ++ vaAligned d 0x38 64 ++ (if kind = 0 then offends (n ≤ fld d 0x44 0 17) 0x44 else rsv d 0x44 0 17)
    ++ rsv d 0x44 17 15 ++ rsv d 0x48 0 448

/-- RED_RUN (R243). -/
def redRunForm (d : Nat) : List Nat := rsv d 0x2C 0 32 ++ rsv d 0x38 0 64

/-- RED_CLOSE (R247). Log: 108 (DEDUCED). -/
def redCloseForm (d : Nat) : List Nat := rsvBytes d 0x28 24

/-- MERE_BIND (R487). -/
def mereBindForm (d : Nat) : List Nat :=
  rsv d 0x24 9 23 ++ offends (fld d 0x28 0 12 ≠ 0) 0x28 ++ rsv d 0x28 43 21 ++ rsv d 0x30 0 128

/-- MERE_UNBIND (R489). Log: 108 (DEDUCED). -/
def mereUnbindForm (d : Nat) : List Nat := rsvBytes d 0x24 28

/-- WINDOW_SET (R498). -/
def windowSetForm (d : Nat) : List Nat :=
  (if fld d 0x20 12 1 = 1 then rsv d 0x20 0 12 else []) ++ rsv d 0x20 13 19 ++ rsv d 0x24 0 224 ++ rsv d 0x60 0 256

/-- WINDOW_CLEAR (R499). Log: 108 (DEDUCED). -/
def windowClearForm (d : Nat) : List Nat := rsv d 0x21 4 4 ++ rsvBytes d 0x22 30

/-- PUSH_SUBSCRIBE (R500, R501). -/
def pushSubscribeForm (d : Nat) : List Nat :=
  let n := fld d 0x30 0 32
  vaBits d 0x20 ++ vaBits d 0x28 ++ offends (n % 65536 ≠ 0 || n < 65536 || 0x80000000 < n) 0x30
    ++ outside d 0x34 0 32 10 1000000 ++ rsv d 0x38 0 64

/-- PUSH_CANCEL (R504). Log: 108 (DEDUCED). -/
def pushCancelForm (d : Nat) : List Nat := rsvBytes d 0x21 31

/-- FAB_CONFIRM (R507). -/
def fabConfirmForm (d : Nat) : List Nat :=
  rsv d 0x20 7 25 ++ rsv d 0x24 0 32 ++ offends (fld d 0x28 0 5 ≠ 0) 0x28 ++ rsv d 0x28 43 21 ++ rsv d 0x30 0 128

/-- TALLY_COEF (R548). Log: 108 (DEDUCED). -/
def tallyCoefForm (d : Nat) : List Nat :=
  offends (fld d 0x20 0 12 ≠ 0) 0x20 ++ rsv d 0x20 43 21 ++ rsvBytes d 0x28 24

/-- TALLY_CLOSE (R555). Log: 108 (DEDUCED). -/
def tallyCloseForm (d : Nat) : List Nat := vaAligned d 0x20 64 ++ rsvBytes d 0x28 24

/-- MILL_PACK (R148 to R150). -/
def packForm (d : Nat) : List Nat :=
  let rows := fld d 0x20 0 32
  let cols := fld d 0x24 0 32
  let fs := fld d 0x28 0 5
  let fd := fld d 0x28 8 5
  let cvt := fld d 0x28 16 4
  let tr := fld d 0x28 20 1 = 1
  let panel := fld d 0x28 21 1 = 1
  let toTile := fld d 0x28 22 1 = 1
  let srcLen := if tr then rows else cols
  let rc := fld d 0x2C 16 9
  let most := ((rows + 127) / 128 + rc - 1) / max 1 rc
  outside d 0x20 0 32 1 16777216 ++ outside d 0x24 0 32 1 16777216
    ++ offends (!isPack fs) 0x28 ++ rsv d 0x28 5 3 ++ offends (!isPack fd) 0x29 ++ rsv d 0x28 13 3
    ++ offends (cvtBad cvt) 0x2A ++ rsv d 0x28 23 9
    ++ offends (isMx fs && srcLen % 32 ≠ 0) 0x2A ++ offends (isMx fd && cols % 32 ≠ 0) 0x29
    ++ offends (panel && !isStone fd) 0x2A
    ++ rsv d 0x2C 9 7 ++ outside d 0x2C 16 9 1 384 ++ rsv d 0x2C 25 7
    ++ vaAligned d 0x30 64
    ++ (if toTile then vaAligned d 0x38 4096 else vaAligned d 0x38 64)
    ++ strideRule d 0x40 true (packed (fmtBits fs) srcLen)
    ++ strideRule d 0x44 (!panel) (packed (fmtBits fd) cols)
    ++ addrRule d 0x48 (isMx fs) 64 ++ addrRule d 0x50 (isMx fd) 64
    ++ strideRule d 0x58 (isMx fs) (srcLen / 32) ++ strideRule d 0x5C (isMx fd && !panel) (cols / 32)
    ++ srForm d cvt 0x60 0x68 ++ rsv d 0x6C 0 160
    ++ offends (toTile && 0x400000 < fld d 0x38 0 55 + most * packBlockBytes d) (if panel then 0x38 else 0x44)

end Sys2Proof.Machine
end

