-- ==== Sys2Proof/Machine/MillPlan.lean ====
section
/-! DEFINITION. Where the work of a mill op lies (04_millstone_tile, 05_mill_operations): its items and their ranks, the
turns of the ops queued on a tile, the panels its prologues place in tile SRAM, and the scoreboard. -/

namespace Sys2Proof.Machine

/-- Operation `id`, if the device holds it. -/
def State.op? (s : State) (id : Nat) : Option Op := s.work.ops.at? id

/-- First logical rank and rank count of a mill op's descriptor (R121, R134, R145, R148). -/
def millRanks (d : Nat) : Nat × Nat :=
  match fld d 0 8 8 with
  | 0x22 => (fld d 0x34 16 9, fld d 0x38 0 9)
  | 0x23 => (fld d 0x2C 0 9, fld d 0x2C 16 9)
  | _ => (fld d 0x30 16 9, fld d 0x34 0 9)

/-- A work item (R114). gemm and ggemm: group, first row, rows, first accumulated column, columns. pack: rows alone.
attend: sequence, first query row, query rows, head, head group (R144). -/
structure MillItem where
  grp : Nat
  row0 : Nat
  rows : Nat
  col0 : Nat
  cols : Nat
  deriving DecidableEq, Repr

/-- Blocks of `rows` rows from `row0`, 128 by 128, block-row by block-row (R114, R137). -/
def blockItems (grp row0 rows n : Nat) : List MillItem :=
  ((List.range ((rows + 127) / 128)).map (fun bm =>
    (List.range ((n + 127) / 128)).map (fun bn =>
      { grp, row0 := row0 + 128 * bm, rows := min 128 (rows - 128 * bm)
        col0 := 128 * bn, cols := min 128 (n - 128 * bn) : MillItem }))).flatten

/-- Items of one sequence of an attend (R144); `rec` is its record. -/
def seqItems (d grp r : Nat) : List MillItem :=
  let qh := fld d 0x24 0 9
  let kh := fld d 0x24 16 9
  let count := fld r 0x14 0 32
  let g := qh / max 1 kh
  let groups (per heads : Nat) : List MillItem :=
    ((List.range heads).map (fun h => (List.range ((count + per - 1) / per)).map (fun c =>
      { grp, row0 := per * c, rows := min per (count - per * c), col0 := h, cols := 0 : MillItem }))).flatten
  if fld d 0x28 16 1 = 0 then groups 128 qh
  else if g ≤ 128 then groups (128 / max 1 g) kh
  else ((List.range kh).map (fun h => ((List.range count).map (fun t =>
    (List.range ((g + 127) / 128)).map (fun c =>
      { grp, row0 := t, rows := 1, col0 := h, cols := c : MillItem }))).flatten)).flatten

/-- Every work item of a mill op in order; `table` = group entries or sequence records as read. -/
def millItems (d : Nat) (table : List Nat) : List MillItem :=
  match fld d 0 8 8 with
  | 0x20 => blockItems 0 0 (fld d 0x20 0 32) (fld d 0x24 0 32)
  | 0x21 => ((table.zip (List.range table.length)).map (fun e =>
      blockItems e.2 (fld e.1 4 0 32) (fld e.1 8 0 32) (fld d 0x24 0 32))).flatten
  | 0x22 => ((table.zip (List.range table.length)).map (fun e => seqItems d e.2 e.1)).flatten
  | _ => (List.range ((fld d 0x20 0 32 + 127) / 128)).map (fun b =>
      { grp := 0, row0 := 128 * b, rows := min 128 (fld d 0x20 0 32 - 128 * b), col0 := 0, cols := fld d 0x24 0 32 })

/-- Ranks of a lane (R114, R144): ksplit, kvsplit, or 1. -/
def millSplit (d : Nat) : Nat :=
  match fld d 0 8 8 with
  | 0x20 | 0x21 => max 1 (fld d 0x34 16 7)
  | 0x22 => max 1 (fld d 0x38 16 7)
  | _ => 1

/-- The items of lane `l` of `lanes` (R114). -/
def laneItems (items : List MillItem) (lanes l : Nat) : List MillItem :=
  (items.zip (List.range items.length)).filterMap (fun x => if x.2 % lanes = l then some x.1 else none)

/-- The ranks of an op at its start (R114, R115): absent parts of a gemm have an empty K range and no rank. -/
def startRanks (d : Nat) (tiles : List (Option Nat)) : Tab MillRank :=
  let split := millSplit d
  (tiles.zip (List.range tiles.length)).filterMap (fun x => match x.1 with
    | none => none
    | some tile =>
      let p := x.2 % split
      let (k0, k1) := if fld d 0 8 8 ≤ 0x21 then partRange (fld d 0x28 0 32) split p else (0, 1)
      if k1 ≤ k0 then none
      else some (x.2, { tile, lane := x.2 / split, part := p, k0, k1, done := 0, q := 0, cells := [], landed := []
                        amax := 0 }))

/-- A mill op's run, and the items of one of its ranks. -/
def MillRun.items (r : MillRun) (d : Nat) (k : MillRank) : List MillItem :=
  laneItems (millItems d r.table) (max 1 ((millRanks d).2 / millSplit d)) k.lane

/-- Whether every rank has finished its items. -/
def MillRun.finished (r : MillRun) (d : Nat) : Bool := r.ranks.all (fun k => (r.items d k.2).length ≤ k.2.done)

/-- The item whose panels a rank's stagers load: one further while a finished block waits in the other set (R84). -/
def MillRank.feeding (k : MillRank) : Nat := k.done + b2n k.full.isSome

/-- Whether no mill op that entered the queues before op `id` has an item on the tile that `left` counts as unfinished. -/
def State.noEarlier (s : State) (id tile : Nat) (at_ : MillRank → Nat) : Bool :=
  match s.eng.mills.at? id with
  | none => false
  | some r => !s.eng.mills.any (fun m => m.2.order < r.order && (match s.op? m.1 with
      | some o => m.2.ranks.any (fun k => k.2.tile = tile && at_ k.2 < (m.2.items o.desc k.2).length)
      | none => false))

/-- Whether an op may drain on a tile: every earlier op has drained its last block there (R31, R99). -/
def State.millTurn (s : State) (id tile : Nat) : Bool := s.noEarlier id tile (·.done)

/-- Whether an op may load panels and accumulate on a tile: every earlier op has added its last k-step there, and at most
its last block still waits for its drain (R99). -/
def State.feedTurn (s : State) (id tile : Nat) : Bool := s.noEarlier id tile MillRank.feeding

/-- Accumulator sets of a tile that hold a finished block (R84). -/
def State.setsHeld (s : State) (tile : Nat) : Nat :=
  (s.eng.mills.map (fun m => (m.2.ranks.filter (fun k => k.2.tile = tile && k.2.full.isSome)).length)).sum

/-- Operand plan of a gemm (R121, R123): `b` = false for A, true for B. -/
def planOf (d : Nat) (b : Bool) : Nat := fld d (if b then 0xD4 else 0xD0) 0 32

def operandFmt (d : Nat) (b : Bool) : Nat := if b then fld d 0x2C 8 5 else fld d 0x2C 0 5

def planRing (p : Nat) : Nat := bitsOf p 10 11

def planKeep (p : Nat) : Bool := bitOf p 21

def planRes (p : Nat) : Bool := bitOf p 22

/-- What distinguishes an operand's panels of two items: its block-row, or its group and block-column (R123). -/
def panelKey (b : Bool) (i : MillItem) : Nat × Nat := if b then (i.grp, i.col0) else (0, i.row0)

/-- Panels of a rank's part (R123). -/
def MillRank.panels (k : MillRank) : Nat := (k.k1 - k.k0 + 31) / 32

/-- Number of the panel that item `n` needs as its `q`-th: its place among the distinct panels in keep order for a kept
or resident operand, its sequence number for a ring (R123). -/
def panelNumber (d : Nat) (items : List MillItem) (k : MillRank) (b : Bool) (n q : Nat) : Nat :=
  let p := planOf d b
  if planKeep p || planRes p then
    let keys := (items.map (panelKey b)).eraseDups
    (match items[n]? with
     | some i => keys.idxOf (panelKey b i)
     | none => 0) * k.panels + q
  else n * k.panels + q

/-- Ring position of a panel. -/
def panelPos (d : Nat) (b : Bool) (num : Nat) : Nat :=
  let p := planOf d b
  if planKeep p || planRes p then num else num % max 1 (planRing p)

/-- Byte offset in tile SRAM of a panel's page `half` (R123). -/
def panelAt (d : Nat) (b : Bool) (pos half : Nat) : Nat :=
  (bitsOf (planOf d b) 0 10 + pos * panelPages (operandFmt d b) + half) * 4096

/-- Byte offset of a panel's scale line (R124). -/
def scaleAt (d : Nat) (b : Bool) (pos : Nat) : Nat := fld d 0xD8 (if b then 16 else 0) 10 * 4096 + pos * 128

/-- The code under which a fill is noted as landed. -/
def fillCode (b : Bool) (num half : Nat) : Nat := b2n b * 2 ^ 41 + num * 2 + half

/-- Whether every page of a panel has landed (R92), or is resident. -/
def MillRank.holds (k : MillRank) (d : Nat) (b : Bool) (num : Nat) : Bool :=
  planRes (planOf d b)
    || (List.range (panelPages (operandFmt d b))).all (fun h => k.landed.contains (fillCode b num h))

/-- Fills a rank's prologue has issued and that have not landed (R92, R94, R123): (operand, panel number, half, page). An
MX panel's scale line comes with its panel. Log: 29 (DEDUCED). -/
def MillRank.outstanding (k : MillRank) (d : Nat) (items : List MillItem) : List (Bool × Nat × Nat × Nat) :=
  ([false, true].map (fun b =>
    let p := planOf d b
    if planRes p then []
    else
      let used := k.feeding * k.panels + k.q
      let total := items.length * k.panels
      let nums := if planKeep p then List.range ((items.map (panelKey b)).eraseDups.length * k.panels)
                  else (List.range (min (planRing p) (total - used))).map (used + ·)
      ((nums.map (fun n => (List.range (panelPages (operandFmt d b))).map (fun h =>
        (b, n, h, panelAt d b (panelPos d b n) h / 4096)))).flatten).filter (fun x =>
          !k.landed.contains (fillCode b x.2.1 x.2.2.1)))).flatten

/-- Pages of its tile into which a rank has a fill outstanding (R92): those of gemm and ggemm panels and of their scale
lines, and of an attend the pages of its window until each has landed for the present item; pack fills none.
Log: 29 (DEDUCED). -/
def MillRank.fillPages (k : MillRank) (d : Nat) (items : List MillItem) : List Nat :=
  if fld d 0 8 8 = 0x22 then
    if items.length ≤ k.done then []
    else ((List.range (fld d 0x8C 10 11)).filter (fun p => !k.landed.contains p)).map (fld d 0x8C 0 10 + ·)
  else if 0x21 < fld d 0 8 8 then []
  else ((k.outstanding d items).map (fun x =>
    x.2.2.2 :: (if isMx (operandFmt d x.1) then [scaleAt d x.1 (panelPos d x.1 x.2.1) / 4096] else []))).flatten

/-- The scoreboard of every tile (R92): a bit is clear while a fill of the op whose stagers may load is outstanding. -/
def State.refreshBoard (s : State) : State :=
  let pages := (s.eng.mills.map (fun m => match s.op? m.1 with
    | some o => (m.2.ranks.map (fun k =>
        if s.feedTurn m.1 k.2.tile then
          (k.2.fillPages o.desc (m.2.items o.desc k.2)).map (k.2.tile * 1024 + ·)
        else [])).flatten
    | none => [])).flatten
  { s with eng := { s.eng with clearPages := pages.eraseDups } }

/-- A page's scoreboard bit (R92): set unless a fill into the page is outstanding. -/
def State.pageReady (s : State) (tile page : Nat) : Bool := !s.eng.clearPages.contains (tile * 1024 + page)

/-- Whether the scoreboard lets a stager read a panel, its scale line included (R92). -/
def State.panelReady (s : State) (d tile : Nat) (b : Bool) (pos : Nat) : Bool :=
  (List.range (panelPages (operandFmt d b))).all (fun h => s.pageReady tile (panelAt d b pos h / 4096))
    && (!isMx (operandFmt d b) || s.pageReady tile (scaleAt d b pos / 4096))

/-- The state with rank `k` of a mill op changed. -/
def State.modRank (s : State) (id r : Nat) (g : MillRank → MillRank) : State :=
  { s with eng := { s.eng with mills := s.eng.mills.modify id (fun m => { m with ranks := m.ranks.modify r g }) } }

/-- The state with a mill op's run changed. -/
def State.modMill (s : State) (id : Nat) (g : MillRun → MillRun) : State :=
  { s with eng := { s.eng with mills := s.eng.mills.modify id g } }

end Sys2Proof.Machine
end

