-- ==== Sys2Proof/Machine/Ops.lean ====
section
/-! DEFINITION. The operations every meaning is built from: changing one function, one operation or one sluice;
posting an event (R364, R368); sending an interrupt (R373); deciding how an operation ends, with the loss of its
context (R386) and the abort of its sluice (R256, R275); landing a write at its home (R201, R269, R420, R641);
writing a completion entry and signalling its event (R361, R384). -/

namespace Sys2Proof.Machine

/-- The outcome of a command. -/
abbrev Out := Host.Outcome State Fault Refusal

/-- Function `f` of the device. -/
def State.fn (s : State) (f : Nat) : Fn := s.host.fns.get Fn.reset f

/-- The state with function `f` changed. -/
def State.setFn (s : State) (f : Nat) (v : Fn) : State :=
  { s with host := { s.host with fns := s.host.fns.set f v } }

/-- The state with completion queue `k` of function `f` set. -/
def State.setCq (s : State) (f k : Nat) (q : CompletionQueue) : State :=
  s.setFn f { s.fn f with cqs := (s.fn f).cqs.set k q }

/-- The state with submission queue `k` of function `f` set. -/
def State.setSq (s : State) (f k : Nat) (q : SubmissionQueue) : State :=
  s.setFn f { s.fn f with sqs := (s.fn f).sqs.set k q }

/-- The state with the operation table changed. -/
def State.withOps (s : State) (t : Tab Op) : State := { s with work := { s.work with ops := t } }

/-- The state with operation `id` changed by `g`. -/
def State.modOp (s : State) (id : Nat) (g : Op → Op) : State := s.withOps (s.work.ops.modify id g)

/-- The state with sluice entry `k` changed by `g`. -/
def State.modSluice (s : State) (k : Nat) (g : Sluice → Sluice) : State :=
  { s with work := { s.work with sluices := s.work.sluices.modify k g } }

/-- The state with pond `p` changed by `g`. -/
def State.modPond (s : State) (p : Nat) (g : Pond → Pond) : State :=
  { s with mem := { s.mem with ponds := s.mem.ponds.modify p g } }

/-- The state with context `c` changed by `g`. -/
def State.modCtx (s : State) (c : Nat) (g : Ctx → Ctx) : State :=
  { s with host := { s.host with ctxs := s.host.ctxs.modify c g } }

/-- The mask of sub-links a message under a mere handle may use (R493): those of the pond the mere binds. -/
def State.mereMask (s : State) (mere : Nat) : Nat :=
  match s.fab.meres.at? mere with
  | none => 2 ^ 64 - 1
  | some m => match s.mem.ponds.at? m.pond with
    | some p => p.binding.subl
    | none => 2 ^ 64 - 1

/-- Message kinds whose first argument is the target's local offset. -/
def FabKind.hasAddr (k : FabKind) : Bool := k = .read || k = .write || k = .atomicMax || k = .pushWrite || k = .poison

/-- A message sent to another device, on the sub-link R493 gives it. -/
def State.send (s : State) (m : FabMsg) : State :=
  let usable := ((s.routeSet m.dst).getD 0) &&& s.upMask &&& s.mereMask m.mere
  let sub := pickSub m.dst (if m.kind.hasAddr then m.args.headD 0 else 0) usable
  { s with work := { s.work with sent := s.work.sent ++ [{ m with sub }] } }

/-- A message sent on a given sub-link (joins, notices, responses, transit). Log: 4 (DESIGN CHOICE). -/
def State.sendOn (s : State) (m : FabMsg) (sub : Nat) : State :=
  { s with work := { s.work with sent := s.work.sent ++ [{ m with sub }] } }

/-- A write to host memory made for function `fn` with Relaxed Ordering clear (R345, R346). Log: 4 (DESIGN CHOICE). -/
def State.writeHost (s : State) (fn addr : Nat) (bytes : List Byte) : State :=
  { s with host := { s.host with writes := s.host.writes ++ [{ fn, addr, bytes }] } }

/-- A write of operation data to host memory, which may bear Relaxed Ordering (R345, R346). Log: 4 (DESIGN CHOICE). -/
def State.writeHostData (s : State) (fn addr : Nat) (bytes : List Byte) : State :=
  { s with host := { s.host with writes := s.host.writes ++ [{ fn, addr, bytes, relaxed := true }] } }

/-- Poison written to host memory: one poisoned TLP (R639). Log: 4 (DESIGN CHOICE). -/
def State.poisonHost (s : State) (fn addr n : Nat) : State :=
  { s with host := { s.host with
      writes := s.host.writes ++ [{ fn, addr, bytes := List.replicate n 0, relaxed := true, poison := true }] } }

/-- The next free value's number, taken from the counter. Log: 5 (DESIGN CHOICE). -/
def State.takeFree (s : State) : Nat × State :=
  (s.work.free, { s with work := { s.work with free := s.work.free + 1 } })

/-- Whether the device writes nothing more to host memory (R613, R616, R668): it is not powered up, it is asleep, or a
fatal device error has occurred. -/
def State.mute (s : State) : Bool := s.ras.fatal || !s.pwr.pwrOk || s.clk.asleep

/-- Whether the device is silent toward a function: it is mute, or a forced instance reset is in progress (R436 step 1). -/
def State.silent (s : State) (f : Nat) : Bool := s.mute || (f ≠ 0 && (s.fn f).state = .resetting)

/-- An MSI-X message for a vector of a function, or its pending bit while it is masked (R373).
Log: 21 (PRESUMED), 104 (DESIGN CHOICE). -/
def State.sendMsi (s : State) (f vec : Nat) : State :=
  if s.silent f then s
  else
    let F := s.fn f
    let v := F.msix.get { addr := 0, data := 0, masked := true, pending := false } vec
    if v.masked then s.setFn f { F with msix := F.msix.set vec { v with pending := true } }
    else { s with host := { s.host with msis := s.host.msis ++ [{ fn := f, vec, after := s.host.writes.length }] } }

/-- Entries of an event queue not yet consumed (R362). -/
def EventQueue.used (q : EventQueue) : Nat := (q.next + 2 ^ q.log2 - q.head) % 2 ^ q.log2

/-- Whether an event queue has room (R368). -/
def EventQueue.room (q : EventQueue) : Bool := q.used < 2 ^ q.log2 - 1

/-- An event entry of 64 bytes (R364). -/
def eventEntry (code seq time payload : Nat) (phase : Bool) : List Byte :=
  leBytes 64 (1 + b2n phase * 16 + code * 2 ^ 16 + (seq % 2 ^ 32) * 2 ^ 32 + (time % 2 ^ 64) * 2 ^ 64
    + (payload % 2 ^ 384) * 2 ^ 128)

/-- An event queue after one entry. -/
def EventQueue.advance (q : EventQueue) : EventQueue :=
  { q with
    next := (q.next + 1) % 2 ^ q.log2
    phase := if q.next + 1 = 2 ^ q.log2 then !q.phase else q.phase
    seq := (q.seq + 1) % 2 ^ 32 }

/-- One event entry written into the function's queue, with its interrupt (R345, R364, R373). -/
def State.writeEvent (s : State) (f : Nat) (q : EventQueue) (code payload : Nat) : State :=
  let s1 := s.writeHost f (q.base + 64 * q.next) (eventEntry code q.seq s.ns payload q.phase)
  (s1.setFn f { s1.fn f with eq := some q.advance }).sendMsi f 64

/-- An event posted to a function's queue: written, or discarded and counted when the queue is full or already
counts discarded events (R368). A function without a queue gets none. `payload` starts at byte 0x10.
Log: 104 (DESIGN CHOICE). -/
def State.post (s : State) (f code payload : Nat) : State :=
  if s.silent f then s
  else match (s.fn f).eq with
    | none => s
    | some q =>
      if q.discarded ≠ 0 || !q.room then
        s.setFn f { s.fn f with eq := some { q with discarded := q.discarded + 1 } }
      else s.writeEvent f q code payload

/-- A head word that R362 accepts for a ring of 2^log2 entries. -/
def headValid (word log2 : Nat) : Bool := word / 65536 = 0 && word < 2 ^ log2

/-- QUEUE_ERROR's payload (R365): queue, kind, and the word as read. -/
def queueErrorPayload (queue kind word : Nat) : Nat := queue + kind * 256 + (word % 2 ^ 64) * 2 ^ 64

/-- The opcode of an operation's descriptor (R358). -/
def Op.opcode (o : Op) : Nat := fld o.desc 0 8 8

/-- Request tag (R358). -/
def Op.reqTag (o : Op) : Nat := fld o.desc 4 0 32

/-- Key of an account of the Tally. -/
def acctKey (inst pond tag : Nat) : Nat := (inst * 512 + pond) * 2 ^ 32 + tag

/-- The account of an operation's tag (R32, R543). -/
def Op.acct (o : Op) : Nat := acctKey (if o.fn = 0 then 512 else o.fn - 1) o.pond o.reqTag

/-- Whether an operation counts among those in execution: from entering an engine queue until its completion
entry is written (R112). -/
def Op.inExec (o : Op) : Bool := o.phase = .queued || o.phase = .running || (o.phase = .ended && o.queuedAt ≠ 0)

/-- Whether an operation's status is still open. -/
def Op.live (o : Op) : Bool := o.phase ≠ .ended

/-- The context slot of a context, counted from 1; 0 = it holds none. -/
def State.slotOf (s : State) (c : Nat) : Nat :=
  match s.host.slots.find? (fun p => p.2.ctx = c) with
  | some p => p.1 + 1
  | none => 0

/-- Transfers of a run that outlive it (R194, R196): all but the MPUTs of a sluice, whose staged writes are
discarded. -/
def State.orphansOf (s : State) (id : Nat) : List Orphan :=
  match s.eng.runs.at? id, s.op? id with
  | some r, some o =>
    ((r.ranks.zip (List.range r.ranks.length)).map (fun x =>
      (x.1.transfers.filter (fun t => !t.landed && (o.sluice = 0 || t.kind ≠ 1))).map (fun t =>
        { op := id, fn := o.fn, slot := s.slotOf o.ctx, pond := o.pond, rank := x.2, tile := x.1.tile
          destTile := getAt 0 r.tiles t.dest, t : Orphan }))).flatten
  | _, _ => []

/-- A group's run ended: the group stays open (R249). -/
def dropRedRun (id : Nat) (g : RedGroup) : RedGroup :=
  match g.run with
  | some r => if r.op = id then { g with run := none } else g
  | none => g

/-- A push subscription without operation `id` among its waiting copies (R503). -/
def PushIn.forget (id : Nat) (x : PushIn) : PushIn := { x with waiting := x.waiting.filter (fun w => w.1 ≠ id) }

/-- What the engines and subscriptions hold for an operation, dropped: it leaves its tiles and engines (R31), and the
scoreboard no longer waits for its fills (R92, R105). -/
def State.dropRun (s0 : State) (id : Nat) : State :=
  let subs : Tab PushIn := (s0.fab.pushIn.filterV (fun x => id = 0 || x.op ≠ id)).map (fun p => (p.1, p.2.forget id))
  let s : State := { s0 with fab := { s0.fab with pushIn := subs } }
  State.refreshBoard { s with eng := { s.eng with
      mills := s.eng.mills.erase id
      runs := s.eng.runs.erase id
      orphans := s.eng.orphans ++ s.orphansOf id
      groups := s.eng.groups.map (fun p => (p.1, dropRedRun id p.2)) } }

/-- Other devices that hold members of a group (R240). -/
def State.otherDevices (s : State) (g : RedGroup) : List Nat :=
  ((g.members.map (·.dev)).eraseDups).filter (fun d => d ≠ s.fab.devId && d ≠ 0xFFFF)

/-- The cancels a reduction run of operation `id`, in progress or queued, sends when it ends other than by SUCCESS (R249). -/
def State.redCancels (s : State) (id : Nat) : State :=
  match s.op? id with
  | none => s
  | some o =>
    if o.opcode ≠ 0x41 || !(o.phase = .queued || o.phase = .running) then s
    else s.eng.groups.foldl (fun s p =>
      if p.2.fn = o.fn && p.2.gid = fld o.desc 0x20 0 64 && p.2.mere ≠ 0 then
        (s.otherDevices p.2).foldl (fun s d => s.send
          { kind := .redCancel, dst := d, mere := p.2.mere, id := p.2.gid, args := [fld o.desc 0x28 0 32], data := [] }) s
      else s) s

/-- The operation ends with a status and detail, and leaves its engine. -/
def State.endOp (s : State) (id status detail : Nat) : State :=
  match s.op? id with
  | none => s
  | some o =>
    if o.phase = .ended then s
    else
      let s1 := if status = Status.success then s else s.redCancels id
      (s1.modOp id (fun o => { o with phase := .ended, status, detail, awaitsRegrow := false })).dropRun id

/-- The detail of SLUICE_ABORTED (R275). -/
def abortDetail (reason origin : Nat) : Nat := reason + origin * 256

/-- `endOp` for each of a list of operations. -/
def State.endOps (s : State) (ids : List Nat) (status detail : Nat) : State :=
  ids.foldl (fun s i => s.endOp i status detail) s

/-- Numbers of the live operations that satisfy `q`. -/
def State.liveOps (s : State) (q : Op → Bool) : List Nat :=
  (s.work.ops.filter (fun p => p.2.live && q p.2)).map (·.1)

/-- What the abort of a cross-device sluice tells the others: an abort vote to the coordinator (R279), or the
coordinator's decision to every participant (R280). -/
def State.abortNotice (s : State) (e : Sluice) (reason origin : Nat) : State :=
  if e.mere = 0 then s
  else if e.participant then
    if e.state = .prepared then s
    else s.send { kind := .sluiceVote, dst := e.coord, mere := e.mere, id := e.id,
                  args := [0, reason, if origin = 0xFFFF then s.fab.devId else origin], data := [] }
  else
    (e.parts.filter (· ≠ s.fab.devId)).foldl (fun s d =>
      s.send { kind := .sluiceDecision, dst := d, mere := e.mere, id := e.id,
               args := [0, reason, if origin = 0xFFFF then s.fab.devId else origin], data := [] }) s

/-- The abort of a sluice before its commit point (R274, R275): every operation of it that has not ended completes
with SLUICE_ABORTED, the pending commit too, the SLUICE_ABORT with SUCCESS; what it staged is discarded. -/
def State.abortSluiceWith (s : State) (tell : Bool) (k reason origin : Nat) : State :=
  match s.work.sluices.at? k with
  | none => s
  | some e =>
    if e.state = .committed || e.state = .aborting then s
    else
      let s1 := if tell then s.abortNotice e reason origin else s
      let s2 := s1.modSluice k (fun e =>
        { e with state := .aborting, reason, origin, staged := [], spilled := [], guards := [], recorded := [] })
      let s3 := s2.endOps (s2.liveOps (fun o => o.sluice = k)) Status.sluiceAborted (abortDetail reason origin)
      let s4 := s3.endOp e.commitOp Status.sluiceAborted (abortDetail reason origin)
      s4.endOps e.abortOps Status.success 0

/-- An abort that begins on this device. -/
def State.abortSluice (s : State) (k reason origin : Nat) : State := s.abortSluiceWith true k reason origin

/-- Statuses that mark the context lost (R392, R448). -/
def losesContext (status : Nat) : Bool :=
  status = Status.translationFault || status = Status.memoryError || status = Status.hostAccessError

/-- The abort reason an operation's status gives its sluice (R256, R277, R287). -/
def reasonOf (status : Nat) : Nat :=
  if status = Status.quernOverflow then Reason.quernOverflow
  else if status = Status.tileFault || status = Status.meshFault || status = Status.resourceLost then Reason.fault
  else if status = Status.cancelled then Reason.quiesce
  else Reason.opFailed

/-- Sluices aborted for the operations of a list that belong to one (R256, R388), or that were its commit and have
ended without it. Log: 18 (DEDUCED). -/
def State.abortSluicesOf (s : State) (ids : List Nat) (reason : Nat) : State :=
  let s1 := ids.foldl (fun s i => match s.op? i with
    | some o => if o.sluice = 0 then s else s.abortSluice o.sluice reason 0xFFFF
    | none => s) s
  (s1.work.sluices.filter (fun p => p.2.state = .closing && ids.contains p.2.commitOp)).foldl
    (fun s p => s.abortSluice p.1 reason 0xFFFF) s1

/-- The sluices a lost context opened, aborted (R388): those OPEN, CLOSING or HOLDING. -/
def State.abortOpened (s : State) (c : Nat) : State :=
  (s.work.sluices.filter (fun p => p.2.opener = c
      && (p.2.state = .open_ || p.2.state = .closing || p.2.state = .holding))).foldl
    (fun s p => s.abortSluice p.1 Reason.opFailed 0xFFFF) s

/-- A context marked lost by operation `id` (0 = none): its fetched work that has not started in an engine completes
with CONTEXT_LOST, and its sluices abort (R386, R388). A context already lost is left as it is (R387). A reduction
run of the context ends even when it has started (R388). -/
def State.markLost (s : State) (c id : Nat) : State :=
  match s.host.ctxs.at? c with
  | none => s
  | some x =>
    if x.lost then s
    else
      let s1 := s.modCtx c (fun x => { x with lost := true, lossOp := id })
      let ids := s1.liveOps (fun o => o.ctx = c && (o.phase = .fetched || o.phase = .queued || o.opcode = 0x41))
      let s2 := s1.endOps ids Status.contextLost 0
      (s2.abortSluicesOf ids Reason.opFailed).abortOpened c

/-- CONTEXT_LOST's payload (R365). -/
def contextLostPayload (c status : Nat) : Nat := c % 16384 + status * 65536

/-- The device decides an operation's status (R386, R256): the operation ends; its sluice aborts unless it
succeeded; its context is lost where the status says so. -/
def State.decide (s : State) (id status detail : Nat) : State :=
  match s.op? id with
  | none => s
  | some o =>
    if o.phase = .ended then s
    else
      let s1 := s.endOp id status detail
      let s2 := if status = Status.success || o.sluice = 0 then s1
                else s1.abortSluice o.sluice (reasonOf status) 0xFFFF
      if losesContext status then s2.markLost o.ctx id else s2

/-- The operation succeeds. -/
def State.succeed (s : State) (id : Nat) : State := s.decide id Status.success 0

/-- The dirty bits of instances that log the plot of a written range (R420): bits set in their bitmaps. -/
def State.logDirty (s : State) (off n : Nat) : State :=
  match s.plotOf off with
  | none => s
  | some p => match s.mem.ponds.at? p.owner with
    | none => s
    | some q => match (s.fn (q.inst + 1)).bitmap with
      | none => s
      | some bm =>
        let pages := (List.range ((off + n - 1) / 65536 - off / 65536 + 1)).map (off / 65536 + ·)
        pages.foldl (fun s pg => match s.hbmKey (bm + pg / 8) with
          | none => s
          | some k => { s with mem := { s.mem with
              hbm := s.mem.hbm.put k (s.mem.hbm.get k ||| BitVec.ofNat 8 (2 ^ (pg % 8))) } }) s

/-- One granule's share of a write: a poisoned granule takes it only whole, which clears the poison (R641). -/
def State.putGranule (s : State) (off : Nat) (bytes : List Byte) : State :=
  match s.plotOf off with
  | none => s
  | some p =>
    if s.plotLost p then s
    else
      let k := p.chanAddr (off % 0x20000000)
      let g := k / 64
      if s.mem.poison.contains g && bytes.length ≠ 64 then s
      else { s with mem := { s.mem with
          hbm := s.mem.hbm.write k bytes, poison := s.mem.poison.filter (· ≠ g) } }

/-- Bytes cut into their granules: (offset, bytes of that granule). -/
def cutGranules (off : Nat) (bytes : List Byte) : List (Nat × List Byte) :=
  (granules off bytes.length).map (fun g =>
    let lo := max g off
    (lo, (bytes.drop (lo - off)).take (min (g + 64) (off + bytes.length) - lo)))

/-- Bytes put into memory at a local offset. -/
def State.putBytes (s : State) (off : Nat) (bytes : List Byte) : State :=
  (cutGranules off bytes).foldl (fun s g => s.putGranule g.1 g.2) s

/-- Sluices other than `slu` whose guarded pages a write touches abort with CONFLICT (R269). -/
def State.conflicts (s : State) (slu off n : Nat) : State :=
  (s.work.sluices.filter (fun p => p.1 ≠ slu && p.2.guards.any (pagesOf off n).contains)).foldl
    (fun s p => s.abortSluice p.1 Reason.conflict 0xFFFF) s

/-- A write accepted at its home (R201): cached copies invalidated (R224), bytes put, logged, and guards checked. -/
def State.landWrite (s : State) (slu off : Nat) (bytes : List Byte) : State :=
  if bytes.isEmpty || (s.plotOf off).isNone then s
  else
    let n := bytes.length
    let gs := (granules off n).map (· / 64)
    let s1 := { s with mem := { s.mem with snoop := s.mem.snoop.filter (fun e => !gs.contains e.granule) } }
    ((s1.putBytes off bytes).logDirty off n).noteMoving off n |>.conflicts slu off n

/-- Lines a sluice has staged. -/
def Sluice.lines (e : Sluice) : List Nat := ((e.staged.map (fun a => linesOf a.off a.bytes.length)).flatten).eraseDups

/-- Lines a sluice has staged, the least recently written first (R267). -/
def Sluice.byLastWrite (e : Sluice) : List Nat :=
  (((e.staged.reverse.map (fun a => linesOf a.off a.bytes.length)).flatten).eraseDups).reverse

/-- A sluice entry whose staged actions are those that satisfy `q`: lines it no longer stages give their spill room
back. -/
def Sluice.keep (e : Sluice) (q : Staged → Bool) : Sluice :=
  let e1 := { e with staged := e.staged.filter q }
  { e1 with spilled := e1.spilled.filter e1.lines.contains }

/-- Lines a die's spill region holds room for (R266): none while a plot of it is not placed by PLOT_MAP on the
die's channels, or shares a channel with a pond's plot. -/
def State.spillRoom (s : State) (die : Nat) : Nat :=
  let r := s.mem.spill.get (0, 0) die
  let plots := (List.range r.2).map (r.1 + ·)
  let ok := plots.all (fun p => match s.mem.remap.at? p with
    | some q => q.owner = 0 && q.die = die
        && !s.mem.remap.any (fun x => x.2.owner ≠ 0 && x.2.chans.any q.chans.contains)
    | none => false)
  if ok then r.2 * 4194304 else 0

/-- Spilled lines on a die. -/
def State.spilledOn (s : State) (die : Nat) : Nat :=
  ((s.work.sluices.map (fun p => p.2.spilled)).flatten.filter (fun l =>
    match s.plotOf (l * 128) with
    | some p => p.die = die
    | none => false)).length

/-- Staged lines of all sluices in a set of a slice that occupy a staging way. -/
def State.stagedInSet (s : State) (home set : Nat) : Nat :=
  ((s.work.sluices.map (fun p => p.2.lines.filter (fun l => !p.2.spilled.contains l))).flatten.filter (fun l =>
    s.homeOf (l * 128) = home && setOf (l * 128) = set)).length

/-- The spill a new staged line makes (R267), or `none` where the sluice is out of capacity (R268): the line to
spill, if any. -/
def State.stageLine (s : State) (e : Sluice) (line : Nat) : Option (Option Nat) :=
  let off := line * 128
  match s.plotOf off with
  | none => none
  | some p =>
    let ways := s.mem.stageWays.get 4 p.die
    if ways = 0 then none
    else if e.lines.contains line then some none
    else if 4194304 ≤ e.lines.length then none
    else
      let home := s.homeOf off
      if e.lines.length - e.spilled.length < 524288 ∧ s.stagedInSet home (setOf off) < ways then some none
      else if s.spilledOn p.die < s.spillRoom p.die then
        some (some (((e.byLastWrite.find? (fun l => s.homeOf (l * 128) = home && setOf (l * 128) = setOf off
          && !e.spilled.contains l))).getD line))
      else none

/-- Bytes cut into their lines: (offset, bytes of that line). -/
def cutLines (off : Nat) (bytes : List Byte) : List (Nat × List Byte) :=
  (linesOf off bytes.length).map (fun l =>
    let lo := max (l * 128) off
    (lo, (bytes.drop (lo - off)).take (min (l * 128 + 128) (off + bytes.length) - lo)))

/-- A write staged line by line, each line spilling what R267 says; `none` = CAPACITY. `dev` is the device that asked. -/
def State.stageLines (s : State) (k op dev kind : Nat) : List (Nat × List Byte) → Option State
  | [] => some s
  | (off, bs) :: l => match s.work.sluices.at? k with
    | none => some s
    | some e => match s.stageLine e (off / 128) with
      | none => none
      | some v => (s.modSluice k (fun e => { e with
          staged := e.staged ++ [{ op, kind, off, bytes := bs, dev }]
          spilled := e.spilled ++ v.toList })).stageLines k op dev kind l

/-- The outcome of a write. -/
inductive Wrote where
  | ok (s : State)
  | bad (s : State) (status detail : Nat)
  | stall

/-- A staged write or atomic of operation `op` of device `dev` (0xFFFF = this one) in sluice entry `k` (R262, R264,
R268). -/
def State.stage (s : State) (k op dev kind off : Nat) (bytes : List Byte) : Wrote :=
  match s.stageLines k op dev kind (if kind = 0 then cutLines off bytes else [(off, bytes)]) with
  | none => .bad (s.abortSluice k Reason.capacity 0xFFFF) Status.sluiceAborted (abortDetail Reason.capacity 0xFFFF)
  | some s1 => .ok s1

/-- The loft mask of an agent's pond on the die of an address (R204, R207). -/
def State.maskFor (s : State) (pond off : Nat) : Nat :=
  match s.mem.ponds.at? pond, s.plotOf off with
  | some q, some p => bitsOf q.binding.loft (16 * p.die) 16
  | _, _ => 0

/-- Whether a sluice may write to device `dev`: a participant of it (R265). -/
def State.mayWriteTo (s : State) (slu dev : Nat) : Bool :=
  match s.work.sluices.at? slu with
  | none => true
  | some e => e.mere ≠ 0 && (e.parts.contains dev || e.coord = dev || (e.participant && e.parts.isEmpty))

/-- The sluice ID an access carries to another device (R265). -/
def State.sluiceId (s : State) (slu : Nat) : Nat := ((s.work.sluices.at? slu).map (·.id)).getD 0

/-- One piece of a write (within a page): staged in the agent's sluice, or published at its home; host memory and
other devices take no staged write but a participant's (R265). -/
def State.writePiece (s : State) (a : Agent) (refused : Bool) (hint : Option Hint) (kind va : Nat)
    (bytes : List Byte) : Wrote :=
  let n := bytes.length
  match s.translate a va with
  | .fault c l => .bad s Status.translationFault (xlatDetail va c l)
  | .poison => .bad s Status.memoryError va
  | .stall => .stall
  | .ok p lh => match s.resolvePlace p n true with
    | none => .bad s Status.badTarget va
    | some (.local_ off) =>
      if (s.plotOf off).isNone then .bad s Status.badTarget va
      else if s.stalls a.sluice off n true then .stall
      else if a.sluice ≠ 0 && (match p with | .window .. => true | _ => false) then .bad s Status.badTarget va
      else if a.sluice ≠ 0 then s.stage a.sluice a.op 0xFFFF kind off bytes
      else if kind ≠ 0 && s.poisonIn off n then .bad s Status.memoryError va
      else
        let bs := if kind = 0 then bytes
                  else leBytes 4 (max (leNat (s.readPub off 4)) (leNat bytes))
        .ok ((s.landWrite 0 off bs).loftTouchRange off n (hint.getD (hintOf lh)) (s.maskFor a.pond off) true)
    | some (.host bus) =>
      if a.sluice ≠ 0 || kind ≠ 0 then .bad s Status.badTarget va else .ok (s.writeHostData a.fn bus bytes)
    | some (.remote dev off) =>
      if s.pathTo a.pond dev = .waits then .stall
      else if refused || s.pathTo a.pond dev = .refused || (a.sluice ≠ 0 && !s.mayWriteTo a.sluice dev) then
        .bad s Status.badTarget va
      else .ok (s.send { kind := if kind = 0 then .write else .atomicMax, dst := dev,
                         mere := (s.mereFor a.pond dev).getD 0, id := s.sluiceId a.sluice, args := [off, a.op]
                         data := bytes })
    | some (.window dev idx off) =>
      if s.pathTo a.pond dev = .waits then .stall
      else if refused || s.pathTo a.pond dev = .refused || a.sluice ≠ 0 then .bad s Status.badTarget va
      else .ok (s.send { kind := .windowWrite, dst := dev, mere := (s.mereFor a.pond dev).getD 0, id := idx,
                         args := [off], data := bytes })

/-- Pieces of a write in order; the first that fails decides, and earlier ones stay written. Log: 102 (DEDUCED). -/
def State.writePieces (s : State) (a : Agent) (refused : Bool) (hint : Option Hint) (base : Nat) (bytes : List Byte) :
    List (Nat × Nat) → Wrote
  | [] => .ok s
  | (va, n) :: l => match s.writePiece a refused hint 0 va ((bytes.drop (va - base)).take n) with
    | .ok s1 => s1.writePieces a refused hint base bytes l
    | x => x

/-- A write of bytes at a virtual address. -/
def State.writeVa (s : State) (a : Agent) (refused : Bool) (hint : Option Hint) (va : Nat) (bytes : List Byte) : Wrote :=
  (s.useXlats a va bytes.length).writePieces a refused hint va bytes (pieces va bytes.length)

/-- The agent that acts for an operation on die `die`, tile `tile` + 1 (0 = no tile). -/
def State.agent (s : State) (id : Nat) (o : Op) (die tile : Nat) : Agent :=
  { fn := o.fn, slot := s.slotOf o.ctx, die, tile, sluice := o.sluice, op := id, pond := o.pond }

/-- The agent of a Newt cluster for a queue of a context, outside any sluice (R207, R384). -/
def State.newt (s : State) (f c cluster : Nat) : Agent :=
  { fn := f, slot := s.slotOf c, die := cluster / 4, tile := 0, sluice := 0, op := 0, pond := 0 }

/-- An event entry: its local offset and its 64 bits, where its checks hold (R381, R382). -/
def State.eventEntryAt (s : State) (f c e : Nat) : Acc (Nat × Nat) :=
  match s.host.ctxs.at? c with
  | none => .bad Status.badEvent e
  | some x =>
    let va := x.evtAddr + 8 * e
    match s.translate (s.newt f c 0) va with
    | .fault k l => .bad Status.translationFault (xlatDetail va k l)
    | .poison => .bad Status.memoryError va
    | .stall => .stall
    | .ok (.local_ off) _ =>
      if s.stalls 0 off 8 true then .stall
      else if s.poisonIn off 8 then .bad Status.memoryError va
      else
        let w := leNat (s.readPub off 8)
        if bitsOf w 32 4 ≠ 1 ∨ bitsOf w 36 28 ≠ 0 then .bad Status.badEvent e else .ok (off, w)
    | .ok _ _ => .bad Status.badTarget va

/-- Whether a wait for value `w` is met by value `v` (R383). -/
def waitMet (v w : Nat) : Bool := decide (0 ≤ signedOf 32 (v + 2 ^ 32 - w % 2 ^ 32))

/-- A pending wait checked (R382, R383): met, still waiting, or the descriptor completes with the entry's error. -/
def State.checkWait (s : State) (id : Nat) : State :=
  match s.op? id with
  | none => s
  | some o =>
    if o.phase ≠ .fetched || o.waitMet then s
    else
      let e := fld o.desc 0x10 0 20
      if e = 0 then s.modOp id (fun o => { o with waitMet := true })
      else match s.eventEntryAt o.fn o.ctx e with
        | .stall => s
        | .bad st d => s.decide id st d
        | .ok (_, w) =>
          if waitMet (w % 2 ^ 32) (fld o.desc 0x10 32 32) then s.modOp id (fun o => { o with waitMet := true }) else s

/-- The waits on one event entry checked again after the device signals it (R383). -/
def State.recheckWaiters (s : State) (f va : Nat) : State :=
  (s.liveOps (fun o => o.phase = .fetched && !o.waitMet && o.fn = f
      && (match s.host.ctxs.at? o.ctx with
          | some x => x.evtAddr + 8 * fld o.desc 0x10 0 20 = va
          | none => false))).foldl (fun s i => s.checkWait i) s

/-- What signalling the event of a completing operation comes to: the state and the status and detail its completion
reports (R384); `none` where the entry's access stalls, so that the completion waits for it (R215). -/
def State.signal (s : State) (id : Nat) (o : Op) : Option (State × Nat × Nat) :=
  let e := fld o.desc 0x18 0 20
  let lost := (s.host.ctxs.at? o.ctx).any (·.lost)
  if o.noHeader || e = 0 || lost || o.status = Status.badVersion || o.status = Status.badEvent then
    some (s, o.status, o.detail)
  else match s.eventEntryAt o.fn o.ctx e with
    | .stall => none
    | .bad st d =>
      let s1 := if losesContext st then s.markLost o.ctx id else s
      if o.status = Status.success then some (s1, st, d) else some (s1, o.status, o.detail)
    | .ok (off, w) =>
      let s1 := (s.landWrite 0 off (leBytes 4 ((w + 1) % 2 ^ 32))).loftTouch off .noalloc 0 true
      let va := ((s.host.ctxs.at? o.ctx).map (·.evtAddr)).getD 0 + 8 * e
      some (s1.recheckWaiters o.fn va, o.status, o.detail)

/-- A completion entry of 32 bytes (R361). -/
def completionEntry (o : Op) (phase : Bool) (sqHead status detail time : Nat) : List Byte :=
  leBytes 32 (1 + b2n phase * 16 + (o.sq % 64) * 256 + (sqHead % 2 ^ 16) * 2 ^ 16
    + ((status % 2 ^ 16) + (o.nflags % 16) * 2 ^ 16 + b2n o.retried * 2 ^ 20 + b2n o.rerun * 2 ^ 21) * 2 ^ 32
    + (detail % 2 ^ 64) * 2 ^ 64
    + ((if o.noHeader then 0 else fld o.desc 0x18 32 32) + (o.idx % 2 ^ 16) * 2 ^ 32) * 2 ^ 128
    + (time % 2 ^ 64) * 2 ^ 192)

/-- A completion queue after one entry. -/
def CompletionQueue.advance (q : CompletionQueue) : CompletionQueue :=
  { q with
    next := (q.next + 1) % 2 ^ q.log2
    phase := if q.next + 1 = 2 ^ q.log2 then !q.phase else q.phase
    reserved := q.reserved - 1 }

/-- The queue's interrupt after an entry (R373): sent when enough entries count, or at once with no delay set. -/
def State.countEntry (s : State) (f cq : Nat) (counts : Bool) : State :=
  match (s.fn f).cqs.at? cq with
  | none => s
  | some q =>
    if !counts then s
    else if q.counted + 1 ≥ q.irqCount || q.irqDelay = 0 then
      (s.setCq f cq { q with counted := 0, countedAt := 0 }).sendMsi f cq
    else
      s.setCq f cq { q with counted := q.counted + 1, countedAt := if q.counted = 0 then s.ns else q.countedAt }

/-- The completion entry of an ended operation (R357, R359, R361, R373), or the release of its reservation where a
quiet descriptor succeeded. Log: 104 (DESIGN CHOICE). -/
def State.writeCompletion (s : State) (o : Op) (status detail : Nat) : State :=
  let F := s.fn o.fn
  match F.cqs.at? o.cq with
  | none => s
  | some q =>
    if s.silent o.fn || (!o.noHeader && fld o.desc 3 1 1 = 1 && status = Status.success) then
      s.setCq o.fn o.cq { q with reserved := q.reserved - 1 }
    else
      let head := ((F.sqs.at? o.sq).map (·.head)).getD 0
      let s1 := s.writeHost o.fn (q.base + 32 * q.next) (completionEntry o q.phase head status detail s.ns)
      (s1.setCq o.fn o.cq q.advance).countEntry o.fn o.cq (q.irqMode = 2 || (q.irqMode = 1 && !o.noHeader && fld o.desc 3 0 1 = 1))

end Sys2Proof.Machine
end

