-- ==== Sys2Proof/Machine/SpawnTree.lean ====
section
/-! DEFINITION. The spawn tree of R572 and the life-cycle fuses of R565 and R566. -/

namespace Sys2Proof.Machine

def State.setSec (s : State) (f : SecPart → SecPart) : State := { s with sec := f s.sec }

/-- Pairs of fuse bits blown, lowest first. Log: 83 (DEDUCED). -/
def fusePair (f i : Nat) : Nat := bitsOf f (2 * i) 2

/-- Half-blown pairs completed (R566). Log: 83 (DEDUCED). -/
def lcFix (f : Nat) : Nat :=
  (List.range 4).foldl (fun g i => if fusePair f i = 0 then g else setBits g (2 * i) 2 3) f

/-- The life-cycle state of a fuse field (R565, R566). -/
def lcStateOf (f : Nat) : Nat :=
  match (List.range 4).find? (fun i => fusePair f i ≠ 3) with
  | none => 4
  | some k => if (List.range 4).any (fun i => k < i && fusePair f i ≠ 0) then 4 else k

def State.lcState (s : State) : Nat := lcStateOf s.sec.lcFuse

/-- Labels of R572. -/
def lblHchk : List Byte := ascii [0x48, 0x4E, 0x5A, 0x2D, 0x48, 0x43, 0x48, 0x4B]
def lblLcroot : List Byte := ascii [0x48, 0x4E, 0x5A, 0x2D, 0x4C, 0x43, 0x52, 0x4F, 0x4F, 0x54]
def lblDak : List Byte := ascii [0x48, 0x4E, 0x5A, 0x2D, 0x44, 0x41, 0x4B]
def lblLedger : List Byte := ascii [0x48, 0x4E, 0x5A, 0x2D, 0x4C, 0x45, 0x44, 0x47, 0x45, 0x52]
def lblCkpt : List Byte := ascii [0x48, 0x4E, 0x5A, 0x2D, 0x43, 0x4B, 0x50, 0x54]
def lblHok : List Byte := ascii [0x48, 0x4E, 0x5A, 0x2D, 0x48, 0x4F, 0x4B]
def lblLc : List Byte := ascii [0x48, 0x4E, 0x5A, 0x2D, 0x4C, 0x43]
def lblFwd : List Byte := ascii [0x48, 0x4E, 0x5A, 0x2D, 0x46, 0x57, 0x44]

/-- The check tag of helper data (R563). -/
def helperTag : List Byte := hmac384 (kdf Config.kPuf lblHchk [1] 384) lblHok

/-- The root of life-cycle state `k`, and the keys below it (R572, R573). -/
def lcRoot (k : Nat) : List Byte := kdf Config.kPuf lblLcroot [BitVec.ofNat 8 k] 384
def dakOf (k : Nat) : Nat := scalarOf (kdf (lcRoot k) lblDak [1] 448)
def ledgerOf (k : Nat) : Nat := scalarOf (kdf (lcRoot k) lblLedger [1] 448)
def ckptKeyOf (k : Nat) : List Byte := kdf (lcRoot k) lblCkpt [1] 384

/-- A key register of the signing engine (R577): 0 = DAK, 1 = ledger key, others ephemeral scalars. -/
def State.keyReg (s : State) (r : Nat) : Option Nat :=
  if r = 0 then (if s.sec.hasKey then some (dakOf s.lcState) else none)
  else if r = 1 then (if s.sec.hasKey then some (ledgerOf s.lcState) else none)
  else s.sec.scalars.at? r

/-- SECURITY_STATUS (R590). -/
def State.securityStatus (s : State) : State :=
  s.post 0 Event.securityStatus (s.lcState + b2n s.sec.hasKey * 8 + s.sec.keyless % 8 * 16 + s.sec.svn % 128 * 256
    + Config.serial % 2 ^ 64 * 2 ^ 64)

/-- X and Y of a point, 48 bytes each, big-endian. -/
def pointBytes (q : Nat × Nat) : List Byte := beBytes 48 q.1 ++ beBytes 48 q.2

end Sys2Proof.Machine
end

