-- ==== Sys2Proof/Machine/Firmware.lean ====
section
/-! DEFINITION. Images in flash and the parts that run them (R584, R585, R617, R618, R620, R630 to R632). -/

namespace Sys2Proof.Machine

def State.setBoot (s : State) (f : BootPart → BootPart) : State := { s with boot := f s.boot }

/-- The image in the bytes of a transfer, if it is well formed (R618): `genuine` = the checks of R584 that do not change
with the device's state. Log: 81 (DESIGN CHOICE). -/
def parseImage (bs : List Byte) : Option Image :=
  let n (a k : Nat) : Nat := leNat ((bs.drop a).take k)
  let h := n 0 4
  let key := bitsOf h 8 3
  let kx := beNat ((bs.drop 0x10).take 48)
  let ky := beNat ((bs.drop 0x40).take 48)
  let digest := sha384 (bs.take 0xA0 ++ bs.drop 0x100)
  let len := n 8 4
  if bs.length ≠ 256 + len || len = 0 || 0x3FFF00 < len then none
  else some
    { kind := bitsOf h 4 4, key, svn := bitsOf (n 4 4) 0 7, release := n 0xC 4, digest
      genuine := bitsOf h 0 4 = 1 && bitsOf h 11 5 = 0 && bitsOf h 16 16 = 0x7680 && bitsOf (n 4 4) 7 25 = 0
        && key ≤ 4 && bitsOf (n 4 4) 0 7 ≤ 64
        && ((bs.drop 0x70).take 48).all (· = 0) && sha384 ((bs.drop 0x10).take 96) = Config.keyDigest key
        && ecdsaVerify kx ky (beNat digest) (beNat ((bs.drop 0xA0).take 48)) (beNat ((bs.drop 0xD0).take 48)) = Eng.ok }

/-- Kind of image a flash slot holds: slots A and B of the Millwright, the Newt microcode and the X-die firmware. -/
def slotKind (slot : Nat) : Nat := slot / 2 + 1

/-- Whether the device accepts the image of a slot now (R565, R584, R618). Log: 81 (DESIGN CHOICE). -/
def State.accepts (s : State) (kind : Nat) (i : Image) : Bool :=
  i.genuine && i.kind = kind && !s.sec.revoked.contains i.key && s.sec.svn ≤ i.svn
    && (i.key ≤ 3 || s.lcState = 0 || s.lcState = 1 || s.lcState = 3)

/-- The acceptable image of a slot. -/
def State.slotImage (s : State) (slot : Nat) : Option Image :=
  (s.boot.slots.at? slot).filter (s.accepts (slotKind slot))

/-- A component's slot that boots (R620): the active one, else the other; with the image. -/
def State.bootSlot (s : State) (first active : Nat) : Option (Nat × Image) :=
  match s.slotImage (first + active) with
  | some i => some (active, i)
  | none => (s.slotImage (first + (1 - active))).map (fun i => (1 - active, i))

/-- FW_ACTIVATED (R635). -/
def State.fwActivated (s : State) (comp slot release : Nat) : State :=
  s.post 0 Event.fwActivated (comp + slot * 16 + release % 2 ^ 32 * 2 ^ 32)

/-- A Newt image loaded into a die (R631). -/
def State.loadNewt (s : State) (d slot : Nat) (i : Image) : State :=
  (s.setBoot (fun b => { b with
    newtRuns := b.newtRuns.set d i, newtActive := setAt b.newtActive d slot
    measures := b.measures.set (2 + d) i.digest })).fwActivated (2 + d) slot i.release

/-- An X-die image loaded into one leat port (R632); its measurement changes with the first port, and activation is
complete with the fourth. -/
def State.loadPort (s : State) (port slot : Nat) (i : Image) : State :=
  let d := port / 4
  let s1 := s.setBoot (fun b => { b with
    portRuns := b.portRuns.set port i, xActive := setAt b.xActive d slot
    measures := b.measures.set (6 + d) i.digest })
  if (List.range 4).all (fun k => s1.boot.portRuns.at? (4 * d + k) = some i) then s1.fwActivated (6 + d) slot i.release else s1

/-- The activation of one component on the units it names that are fenced (R631, R632). Done = every named unit runs it. -/
def State.tryActivate (s : State) (comp slot : Nat) : State × Bool :=
  match s.boot.slots.at? slot with
  | none => (s, true)
  | some i =>
    if comp < 6 then
      if s.fenced 10 (comp - 2) then (s.loadNewt (comp - 2) (slot % 2) i, true) else (s, false)
    else
      let d := comp - 6
      let ports := (List.range 4).map (4 * d + ·)
      let s1 := (ports.filter (fun p => s.fenced 9 p && s.boot.portRuns.at? p ≠ some i)).foldl
        (fun s p => s.loadPort p (slot % 2) i) s
      (s1, ports.all (fun p => s1.boot.portRuns.at? p = some i))

/-- Activations that wait tried again, after a fence (R631, R632). -/
def State.loadPending (s : State) : State :=
  s.boot.activating.foldl (fun s x =>
    let r := s.tryActivate x.1 x.2
    if r.2 then r.1.setBoot (fun b => { b with activating := b.activating.filter (· ≠ x) }) else r.1) s

end Sys2Proof.Machine
end

