-- ==== Sys2Proof/Machine/Resolve.lean ====
section
/-! DEFINITION. Resolving a fetched descriptor (R29): the checks in their order, the sluice it joins (R254), and when
a resolved descriptor may go on to its engine or take its effect (R30, R315, R332, R383). -/

namespace Sys2Proof.Machine

/-- Slot count and form rule of each opcode (R360); `none` = no chapter defines it. -/
def formOf (op : Nat) : Option (Nat × (Nat → List Nat)) :=
  if op = 0x01 then some (1, nopForm)
  else if op = 0x10 then some (2, flumeForm)
  else if op = 0x11 then some (1, loftForm)
  else if op = 0x20 then some (4, gemmForm)
  else if op = 0x21 then some (4, ggemmForm)
  else if op = 0x22 then some (3, attendForm)
  else if op = 0x23 then some (2, packForm)
  else if op = 0x30 then some (1, vaneLoadForm)
  else if op = 0x31 then some (2, vaneRunForm)
  else if op = 0x40 then some (2, redOpenForm)
  else if op = 0x41 then some (1, redRunForm)
  else if op = 0x42 then some (1, redCloseForm)
  else if op = 0x50 then some (2, sluiceOpenForm)
  else if op = 0x51 then some (1, sluiceGuardForm)
  else if op = 0x52 ∨ op = 0x53 then some (1, sluiceEndForm)
  else if op = 0x60 then some (1, pondCreateForm)
  else if op = 0x61 then some (1, pondRebindForm)
  else if op = 0x62 then some (1, pondDestroyForm)
  else if op = 0x63 ∨ op = 0x64 then some (1, unitForm)
  else if op = 0x65 then some (1, pondSchedForm)
  else if op = 0x66 then some (2, plotMapForm)
  else if op = 0x70 then some (1, beatSetForm)
  else if op = 0x71 then some (1, beatStepForm)
  else if op = 0x72 then some (1, ctxSchedForm)
  else if op = 0x80 then some (1, xlatRootForm)
  else if op = 0x81 then some (1, xlatInvalForm)
  else if op = 0x82 then some (1, xlatDirtyForm)
  else if 0x90 ≤ op ∧ op ≤ 0x95 then some (1, instForm op)
  else if op = 0xA0 then some (1, mereBindForm)
  else if op = 0xA1 then some (1, mereUnbindForm)
  else if op = 0xA2 then some (2, windowSetForm)
  else if op = 0xA3 then some (1, windowClearForm)
  else if op = 0xA4 then some (1, pushSubscribeForm)
  else if op = 0xA5 then some (1, pushCancelForm)
  else if op = 0xA6 then some (1, fabConfirmForm)
  else if op = 0xB0 then some (1, tallyCoefForm)
  else if op = 0xB1 then some (1, tallyCloseForm)
  else none

/-- The least of a list of offsets. -/
def leastOf : List Nat → Option Nat
  | [] => none
  | a :: l => match leastOf l with
    | none => some a
    | some b => some (min a b)

/-- The offsets of the fields of a descriptor that offend (R15, R359, R360). -/
def formOffsets (d : Nat) : List Nat :=
  match formOf (fld d 0 8 8) with
  | none => 1 :: headerForm (fld d 2 0 3) d
  | some (n, f) => headerForm n d ++ f d

/-- The offset a BAD_FORM completion reports, if the descriptor offends: the lowest (R15). -/
def formError (d : Nat) : Option Nat := leastOf (formOffsets d)

/-- The offset a BEAT_STEP inside another's step reports (R331): R331 names no field, and the model takes its opcode,
offset 1, unless a lower one offends. Log: 115 (DEDUCED). -/
def nestedError (d : Nat) : Option Nat := leastOf (1 :: formOffsets d)

/-- Opcodes accepted only on the physical function's rings (R292, R318, R421, R427, R486, R548); XLAT_ROOT and XLAT_INVAL with
other = 1 (R400). -/
def managerOnly (d : Nat) : Bool :=
  let op := fld d 0 8 8
  (0x60 ≤ op && op ≤ 0x66) || op = 0x82 || (0x90 ≤ op && op ≤ 0x95)
    || (0xA0 ≤ op && op ≤ 0xA3) || op = 0xA6 || op = 0xB0 || (op = 0x80 && fld d 0x2C 9 1 = 1) || (op = 0x81 && fld d 0x30 9 1 = 1)

/-- The tile of a rank of a pond: `none` = beyond its count; `some none` = a hole. -/
def Pond.tileOf (p : Pond) (vane : Bool) (rank : Nat) : Option (Option Nat) :=
  (if vane then p.binding.tilesV else p.binding.tilesM)[rank]?

/-- Ranks `first` to `first + count - 1` checked (R113, R190, R308). -/
def Pond.rankError (p : Pond) (vane : Bool) (first count : Nat) : Option Nat :=
  let l := (List.range count).map (fun i => p.tileOf vane (first + i))
  if l.any (·.isNone) then some Status.badRank
  else if l.any (fun x => x = some none) then some Status.resourceLost
  else none

/-- The engines of a pond's Flume share that are not fenced (R219, R307). -/
def State.enginesOf (s : State) (p : Pond) : List Nat :=
  (maskBits 16 p.binding.flume).filter (fun e => !s.fenced 7 e)

/-- What a mere handle named by a descriptor of function `f` comes to (R485, R490): a status, if it fails. -/
def State.mereError (s : State) (f mere : Nat) : Option Nat :=
  if mere = 0 then none
  else if s.fab.join ≠ .joined then some Status.notJoined
  else match s.fab.meres.at? mere with
    | none => some Status.badMere
    | some m =>
      if f = 0 || (s.mem.ponds.at? m.pond).any (fun p => p.inst + 1 = f) then none else some Status.badMere

/-- The opcode's own resolution at step 3 of R29: a status and detail, if it fails. Log: 23 (DEDUCED). -/
def State.resolveOwn (s : State) (f pond d : Nat) : Option (Nat × Nat) :=
  let op := fld d 0 8 8
  match s.mem.ponds.at? pond with
  | none => some (Status.badPond, 0)
  | some p =>
    if 0x20 ≤ op ∧ op ≤ 0x23 then
      let (first, count) := millRanks d
      (p.rankError false first count).map (fun st => (st, if st = Status.badRank then first + count else 0))
    else if op = 0x30 ∨ op = 0x31 then
      let first := fld d 0x20 0 8
      let count := fld d 0x20 16 8
      (p.rankError true first count).map (fun st => (st, if st = Status.badRank then first + count else 0))
    else if op = 0x10 then
      let sl := fld d 0x40 0 2
      let dl := fld d 0x40 2 2
      let src := if sl = 0 then none else p.rankError (sl = 2) (fld d 0x42 0 9) 1
      let dst := if dl = 0 then none else p.rankError (dl = 2) (fld d 0x44 0 9) 1
      match src, dst with
      | some 0x3, _ => some (0x3, 0)
      | _, some 0x3 => some (0x3, 0)
      | some x, _ => some (x, 0)
      | none, some x => some (x, 0)
      | none, none => if (s.enginesOf p).isEmpty then some (Status.resourceLost, 0) else none
    else if op = 0x40 then (s.mereError f (fld d 0x40 0 32)).map (fun st => (st, 0))
    else if op = 0x50 then (s.mereError f (fld d 0x20 0 32)).map (fun st => (st, 0))
    else if op = 0x41 ∨ op = 0x42 then
      (if s.eng.groups.any (fun g => g.2.fn = f && g.2.gid = fld d 0x20 0 64) then none else some (Status.badGroup, 0))
    else if op = 0x61 ∨ op = 0x62 ∨ op = 0x65 then
      (if (s.mem.ponds.at? (fld d 0x20 0 9)).isNone then some (Status.badPond, 0) else none)
    else if op = 0x70 then
      (if (s.mem.ponds.at? (fld d 0x20 0 9)).any (fun q => f = 0 || q.inst + 1 = f) then none
       else some (Status.badPond, 0))
    else none

/-- Opcodes whose sluice field the device ignores (R253). -/
def ignoresSluice (op : Nat) : Bool := op = 0x11 || op = 0x40 || op = 0x42

/-- The sluice descriptors, which act on the sluice they name (R253). -/
def isSluiceOp (op : Nat) : Bool := 0x50 ≤ op && op ≤ 0x53

/-- Number of the sluice entry of function `f` with ID `id` that is in one of the states of `q`; 0 = none. -/
def State.sluiceNamed (s : State) (f id : Nat) (q : Sluice → Bool) : Nat :=
  match s.work.sluices.find? (fun p => p.2.fn = f && p.2.id = id && q p.2) with
  | some p => p.1
  | none => 0

/-- The sluice a tagged descriptor of ring `sq` joins (R254, R261). -/
def State.joins (s : State) (f sq id : Nat) : Nat :=
  s.sluiceNamed f id (fun e => e.state = .open_ && (e.visible || e.openSq = sq))

/-- What resolution gives a fetched descriptor: a status and detail where it fails, and the sluice it joins. -/
def State.resolve (s : State) (f sq c d : Nat) : Option (Nat × Nat) × Nat :=
  let op := fld d 0 8 8
  let x := s.host.ctxs.at? c
  let cnt := (x.map (·.evtCount)).getD 0
  let w := fld d 0x10 0 20
  let g := fld d 0x18 0 20
  let id := fld d 8 0 48
  if managerOnly d && f ≠ 0 then (some (Status.notPermitted, 0), 0)
  else if (w ≠ 0 && cnt ≤ w) || (g ≠ 0 && cnt ≤ g) then
    (some (Status.badEvent, if w ≠ 0 && cnt ≤ w then w else g), 0)
  else match s.resolveOwn f ((x.map (·.pond)).getD 0) d with
    | some x => (some x, 0)
    | none =>
      if isSluiceOp op then (if id = 0 then (some (Status.badSluice, 0), 0) else (none, 0))
      else if id = 0 || ignoresSluice op then (none, 0)
      else
        let k := s.joins f sq id
        if k = 0 then (some (Status.badSluice, 0), 0) else (none, k)

/-- Descriptors that take their effect at step 3 of R29, before their wait (R257, R260, R274, R330, R331). Log: 18 (DEDUCED). -/
def actsAtOnce (op : Nat) : Bool := isSluiceOp op || op = 0x70 || op = 0x71

/-- A fetched descriptor whose effect at step 3 is still to be taken: no later descriptor of its ring is resolved before
(R260 step 3). Log: 18 (DEDUCED). -/
def Op.blocksFetch (o : Op) : Bool := o.phase = .fetched && actsAtOnce o.opcode && !o.acted

/-- Whether context `c` is resident (R319). -/
def State.resident (s : State) (c : Nat) : Bool :=
  s.host.slots.any (fun p => p.2.ctx = c && p.2.phase = .resident)

/-- Operations of an engine, which a re-bind point holds back (R299). -/
def isEngineOp (op : Nat) : Bool :=
  op = 0x10 || op = 0x11 || (0x20 ≤ op && op ≤ 0x23) || op = 0x30 || op = 0x31 || op = 0x41

/-- Tile operations (R315). Whether a reduction run touches tiles is its group's to say: `groupTile`. -/
def Op.isTile (o : Op) (groupTile : Nat → Bool) : Bool :=
  let op := o.opcode
  (0x20 ≤ op && op ≤ 0x23) || op = 0x30 || op = 0x31
    || (op = 0x10 && (fld o.desc 0x40 0 2 ≠ 0 || fld o.desc 0x40 2 2 ≠ 0))
    || (op = 0x41 && groupTile (fld o.desc 0x20 0 64))

/-- Whether a member of a group lies on this device (R240). -/
def State.isLocalMember (s : State) (m : RedMember) : Bool := m.dev = 0xFFFF || m.dev = s.fab.devId

/-- Whether the run of a reduction group of an instance reads or writes tile SRAM on this device (R315). -/
def State.groupTile (s : State) (f : Nat) (g : Nat) : Bool :=
  s.eng.groups.any (fun p => p.2.fn = f && p.2.gid = g && p.2.members.any (fun m => s.isLocalMember m && m.loc ≠ 0))

/-- The step of a beat, if it exists still. -/
def Pond.step? (p : Pond) (id : Nat) : Option BeatStep :=
  match p.beats with
  | none => none
  | some b => b.steps.find? (fun t => t.id = id)

/-- Whether a descriptor held for a beat is released (R332): it lies in no step, or its step is released. -/
def State.released (s : State) (o : Op) : Bool :=
  o.step = 0 || (match s.mem.ponds.at? o.pond with
    | some p => match p.step? o.step with
      | some t => t.released
      | none => true
    | none => true)

/-- Whether an earlier descriptor of the same ring has not yet gone on (R30, R383). -/
def State.behind (s : State) (id : Nat) (o : Op) : Bool :=
  s.work.ops.any (fun p => p.1 < id && p.2.fn = o.fn && p.2.sq = o.sq && p.2.phase = .fetched)

/-- Ready but for its pond's tiles: resolved, its wait met, next in its ring, released by its beat, and its context
resident (R377). -/
def State.readyOp (s : State) (id : Nat) (o : Op) : Bool :=
  o.phase = .fetched && o.waitMet && s.released o && !s.behind id o && s.resident o.ctx

/-- Whether its pond lets an operation into the engine queues now (R299, R315, R325). -/
def State.pondLets (s : State) (o : Op) : Bool :=
  match s.mem.ponds.at? o.pond with
  | none => true
  | some p =>
    (!isEngineOp o.opcode || (match p.rebind with
      | some r => !(r.switching || (r.ready && p.beats.isNone))
      | none => true) && (p.reserved.isEmpty || p.beats.isSome))
    && (!o.isTile (s.groupTile o.fn) || (p.running = o.ctx + 1 && p.switch.isNone))

/-- A descriptor of opcode `op` that may now go on (step 4 of R29). -/
def State.go? (s : State) (id op : Nat) : Option Op :=
  match s.op? id with
  | some o => if o.opcode = op && s.readyOp id o && s.pondLets o then some o else none
  | none => none

/-- A descriptor of opcode `op` whose effect at step 3 is to be taken now (R257, R260, R274, R330, R331). -/
def State.acts? (s : State) (id op : Nat) : Option Op :=
  match s.op? id with
  | some o => if o.opcode = op && o.phase = .fetched && !o.acted then some o else none
  | none => none

/-- A descriptor that has taken its effect at step 3 succeeds once it may go on, and waits till then (R383). -/
def State.goOn (s : State) (id op : Nat) : State :=
  match s.op? id with
  | some o => if o.opcode = op && o.acted && s.readyOp id o then s.succeed id else s
  | none => s

/-- The effect at step 3 has been taken without a failure. -/
def State.actDone (s : State) (id op : Nat) : State := (s.modOp id (fun o => { o with acted := true })).goOn id op

/-- The operation enters its engine queue (R112). -/
def State.enqueue (s : State) (id : Nat) : State :=
  s.modOp id (fun o => { o with phase := .queued, queuedAt := s.ns + 1 })

/-- The operation starts in its engine. -/
def State.start (s : State) (id : Nat) : State := s.modOp id (fun o => { o with phase := .running })

/-- Tiles of a pond. -/
def Pond.tiles (p : Pond) : List Nat := (p.binding.tilesM ++ p.binding.tilesV).filterMap id

/-- Tile SRAM and program memory of a tile scrubbed to zero (R297, R304). -/
def State.scrubTile (s : State) (t : Nat) : State :=
  { s with mem := { s.mem with
      sram := s.mem.sram.clear (t * 0x400000) 0x400000
      prog := s.mem.prog.clear (t * 0x10000) 0x10000
      sramPoison := s.mem.sramPoison.filter (· / 0x80000 ≠ t)
      progPoison := s.mem.progPoison.filter (· / 0x2000 ≠ t) } }

/-- `scrubTile` over a list. -/
def State.scrubTiles (s : State) (ts : List Nat) : State := ts.foldl (fun s t => s.scrubTile t) s

/-- The contexts of a pond that have a tile operation ready (R316): (context, priority, order). -/
def State.readyContexts (s : State) (pond : Nat) : List (Nat × Nat × Nat) :=
  let cs := ((s.work.ops.filter (fun p => p.2.pond = pond && p.2.isTile (s.groupTile p.2.fn)
    && s.readyOp p.1 p.2)).map (·.2.ctx)).eraseDups
  cs.filterMap (fun c => (s.host.ctxs.at? c).map (fun x => (c, x.prio, x.readyAt)))

/-- Contexts with a tile operation newly ready take their place in the order of becoming ready (R316).
Log: 103 (DEDUCED). -/
def State.stampReady (s : State) (pond : Nat) : State :=
  (s.readyContexts pond).foldl (fun s r =>
    if r.2.2 = 0 then
      { (s.modCtx r.1 (fun x => { x with readyAt := s.mem.order + 1 })) with
        mem := { s.mem with order := s.mem.order + 1 } }
    else s) s

/-- A pond without a running context gives its tiles to the context chosen (R315, R325 step 4): at once with tiles
at zero, or through a restore when the context has saved images. Log: 103 (DEDUCED). -/
def State.claim (s : State) (pond c : Nat) : State :=
  match s.mem.ponds.at? pond with
  | none => s
  | some p =>
    if (s.host.ctxs.at? c).any (·.saved) then
      s.modPond pond (fun p => { p with switch := some { dest := c, phase := .restore } })
    else (s.scrubTiles p.tiles).modPond pond (fun p => { p with running := c + 1, since := s.ns })

/-- The best of the ready contexts: lowest priority value, then first to become ready (R316). -/
def bestContext (l : List (Nat × Nat × Nat)) : Option (Nat × Nat × Nat) :=
  minBy? (fun r => r.2.1 * 2 ^ 64 + r.2.2) l

/-- Whether a re-bind point of the pond has fallen due, for a POND_REBIND or for regrow (R309), or a switch phase runs: it
comes before a tile switch (R328) and before the next beat's work (R299). -/
def Pond.rebindFirst (p : Pond) : Bool := p.rebind.any (fun r => r.ready || r.switching) || !p.reserved.isEmpty

/-- The choice of R316 made where it acts at once: a pond without a running context takes one, and a ready context
of lower priority value starts a switch (in a pond with beats only between beats). Log: 103 (DEDUCED). -/
def State.schedule (s : State) (pond : Nat) : State :=
  let s := s.stampReady pond
  match s.mem.ponds.at? pond with
  | none => s
  | some p =>
    if p.switch.isSome || p.rebindFirst then s
    else match bestContext (s.readyContexts pond) with
      | none => s
      | some r =>
        if p.running = 0 then s.claim pond r.1
        else
          let cur := ((s.host.ctxs.at? (p.running - 1)).map (·.prio)).getD 2
          let inBeat := match p.beats with
            | some b => b.running
            | none => false
          if r.1 + 1 ≠ p.running && r.2.1 < cur && !inBeat then
            s.modPond pond (fun p => { p with switch := some { dest := r.1, phase := .drain } })
          else s

/-- A tile operation that has become ready, but whose context does not hold its pond's tiles, asks for them (R315, R316). -/
def State.asksTiles (s : State) (id : Nat) : State :=
  match s.op? id with
  | some o => if o.isTile (s.groupTile o.fn) && s.readyOp id o then s.schedule o.pond else s
  | none => s

end Sys2Proof.Machine
end

