-- ==== Sys2Proof/Machine/Host.lean ====
section
/-! DEFINITION. Rings, doorbells, set-up commands and completions (12_host_interface, 13_objects_and_faults). -/

namespace Sys2Proof.Machine

/-- Whether the function exists on the link (R425). -/
def State.fnExists (s : State) (f : Nat) : Bool := f = 0 || (s.host.vfEnable && f ≤ s.host.numVfs)

/-- Contexts a function may define and queues it may create (R352). -/
def State.ctxQuota (s : State) (f : Nat) : Nat := if f = 0 then 256 else (s.fn f).ctxMax

def State.sqQuota (s : State) (f : Nat) : Nat := if f = 0 then 64 else (s.fn f).sqMax

/-- Whether a function's fetching is on: not quiescing, quiesced or resetting (R431, R436). -/
def State.fetches (s : State) (f : Nat) : Bool :=
  !s.mute && s.boot.ready && s.clk.entryStep = 0 && (f = 0 || (s.fn f).state = .active)

/-- Operations in execution on the device, and of one function (R112, R429). -/
def State.inExecCount (s : State) : Nat := (s.work.ops.filter (fun p => p.2.inExec)).length

def State.inExecOf (s : State) (f : Nat) : Nat := (s.work.ops.filter (fun p => p.2.inExec && p.2.fn = f)).length

/-- Room of a completion queue beyond what is reserved (R357). -/
def CompletionQueue.room (q : CompletionQueue) : Bool :=
  (q.next + 2 ^ q.log2 - q.head) % 2 ^ q.log2 + q.reserved < 2 ^ q.log2 - 1

/-- Slots submitted and not yet fetched (R356). -/
def SubmissionQueue.submitted (q : SubmissionQueue) : Nat := (q.tail + 2 ^ q.log2 - q.head) % 2 ^ q.log2

/-- Whether a context wants a slot (R319): a ring of it has a tail beyond its head, or it has an operation in execution;
or a descriptor of it whose wait is met would go on. A lost context wants none (R388). Log: 103 (DEDUCED). -/
def State.wantsSlot (s : State) (c : Nat) (x : Ctx) : Bool :=
  !x.lost && ((s.fn (c / 16384)).sqs.any (fun p => p.2.ctx = c % 16384 && p.2.submitted ≠ 0)
    || s.work.ops.any (fun p => p.2.ctx = c && (p.2.inExec || (p.2.phase = .fetched && p.2.waitMet))))

/-- A context that gained or lost work notes since when it waits for a slot, or has been idle (R319, R320). -/
def State.noteCtxWork (s : State) (c : Nat) : State :=
  let busy := (s.fn (c / 16384)).sqs.any (fun p => p.2.ctx = c % 16384 && p.2.submitted ≠ 0)
  let s1 := s.modCtx c (fun x => { x with
    waitSince := if s.wantsSlot c x && s.slotOf c = 0 then (if x.waitSince = 0 then s.ns + 1 else x.waitSince) else 0
    idleSince := if busy then 0 else (if x.idleSince = 0 then s.ns + 1 else x.idleSince) })
  { s1 with host := { s1.host with slots := s1.host.slots.map (fun p =>
      if p.2.ctx = c && busy then (p.1, { p.2 with idle := false }) else p) } }

/-- Whether the ring may be fetched from now (R319, R356, R357, R380), for a descriptor of `n` slots: its context is
resident, or lost (R386 step 4). Log: 18 (DEDUCED). -/
def State.canFetch (s : State) (f sq : Nat) (q : SubmissionQueue) (n : Nat) : Bool :=
  let c := f * 16384 + q.ctx
  !q.stopped && !q.destroying && s.fetches f && (s.resident c || (s.host.ctxs.at? c).any (·.lost)) && n ≤ q.submitted
    && (match (s.fn f).cqs.at? q.cq with
        | some k => k.room
        | none => false)
    && (s.work.ops.filter (fun p => p.2.ctx = c && p.2.phase = .fetched)).length < 512
    && s.inExecCount < 4096
    && ((s.fn f).opsMax = 0 || s.inExecOf f < (s.fn f).opsMax)
    && !s.work.ops.any (fun p => p.2.fn = f && p.2.sq = sq && p.2.blocksFetch)

/-- The key of a queue's round robin: its cluster and context (R322). -/
def turnKey (f : Nat) (q : SubmissionQueue) : Nat := q.cluster * 2 ^ 24 + f * 16384 + q.ctx

/-- How far queue `k` lies after queue `cur` in the round of 64 queues, the queue itself last. -/
def roundDist (cur k : Nat) : Nat := (k + 63 - cur % 64) % 64

/-- Whether the round robin of its cluster lets queue `sq` be fetched from now (R322): it has had fewer than 8
descriptors in its turn, or the turn has come to it, passing no queue that is known to hold a whole descriptor (4 slots
or more). Log: 114 (DEDUCED). -/
def State.turnOk (s : State) (f sq : Nat) (q : SubmissionQueue) : Bool :=
  match s.host.turns.at? (turnKey f q) with
  | none => true
  | some (cur, n) =>
    (cur = sq && n < 8)
      || !(s.fn f).sqs.any (fun p => p.1 ≠ sq && turnKey f p.2 = turnKey f q && s.canFetch f p.1 p.2 4
            && roundDist cur p.1 < roundDist cur sq)

/-- The round robin after a descriptor was fetched from queue `sq` (R322). -/
def State.noteTurn (s : State) (f sq : Nat) (q : SubmissionQueue) : State :=
  let n := match s.host.turns.at? (turnKey f q) with
    | some (cur, n) => if cur = sq ∧ n < 8 then n + 1 else 1
    | none => 1
  { s with host := { s.host with turns := s.host.turns.set (turnKey f q) (sq, n) } }

/-- Whether a descriptor of `n` slots may be fetched from the ring now. -/
def State.mayFetch (s : State) (f sq : Nat) (q : SubmissionQueue) (n : Nat) : Bool :=
  s.canFetch f sq q n && s.turnOk f sq q

/-- A beat step after one more of its descriptors was fetched, the `n`-th ready mark (R333). -/
def BeatStep.fetched (t : BeatStep) (n : Nat) (drop : Bool) : BeatStep :=
  let left := if drop then 0 else t.left - 1
  { t with left, readyAt := if left = 0 ∧ t.readyAt = 0 then n else t.readyAt }

/-- A step of a beat after one more of its descriptors was fetched: ready when it waits for none (R333). A step too long
for its beat is gone with its last descriptor. -/
def State.stepFetched (s : State) (pond id : Nat) (drop : Bool) : State :=
  let n := s.mem.order + 1
  let s1 := { s with mem := { s.mem with order := n } }
  let next (b : Beats) : List BeatStep := b.steps.map (fun t => if t.id = id then t.fetched n drop else t)
  s1.modPond pond (fun p => { p with beats := p.beats.map (fun b =>
    { b with steps := (next b).filter (fun t => !(t.tooLong && t.left = 0)) }) })

/-- Whether a step of a pond was too long for its beat (R333). -/
def State.stepTooLong (s : State) (pond id : Nat) : Bool :=
  match s.mem.ponds.at? pond with
  | some p => (p.step? id).any (·.tooLong)
  | none => false

/-- The status a fetched descriptor takes at once, and the sluice it joins (R15, R29, R331, R333, R386).
Log: 115 (DEDUCED). -/
def State.fetchStatus (s : State) (f sq c d : Nat) (inStep : Bool) (stepId pond : Nat) : Option (Nat × Nat) × Nat :=
  if (s.host.ctxs.at? c).any (·.lost) then (some (Status.contextLost, 0), 0)
  else if fld d 0 0 4 ≠ 1 then (some (Status.badVersion, 0), 0)
  else match (if inStep && fld d 0 8 8 = 0x71 then nestedError d else formError d) with
    | some off => (some (Status.badForm, off), 0)
    | none => match s.resolve f sq c d with
      | (some x, _) => (some x, 0)
      | (none, k) =>
        if inStep && s.stepTooLong pond stepId then (some (Status.stepTooLong, 0), 0) else (none, k)

/-- The sluice a form failure aborts (R255). -/
def State.formAborts (s : State) (f d status : Nat) : State :=
  let id := fld d 8 0 48
  if status = Status.badForm && id ≠ 0 && !ignoresSluice (fld d 0 8 8) then
    let k := s.sluiceNamed f id (fun e => e.state = .open_)
    if k = 0 then s else s.abortSluice k Reason.opFailed 0xFFFF
  else s

/-- DESCRIPTOR_FETCH (R356): the descriptor whose slots hold `d` is fetched from ring `sq` of function `f`, one
completion entry is reserved, and steps 1 to 3 of R29 are made. -/
def execDescriptorFetch (f sq d : Nat) (s : State) : Out :=
  match (s.fn f).sqs.at? sq with
  | none => .next s
  | some q =>
    let verOk := fld d 0 0 4 = 1
    let n := if verOk then max 1 (fld d 2 0 3) else 1
    if !s.mayFetch f sq q n then .next s
    else
      let c := f * 16384 + q.ctx
      let pond := ((s.host.ctxs.at? c).map (·.pond)).getD 0
      let id := s.work.nextOp
      let inStep := q.stepLeft ≠ 0
      let inner := inStep && verOk && fld d 0 8 8 = 0x71
      let (fail, k) := s.fetchStatus f sq c d inStep q.stepId pond
      let o : Op :=
        { fn := f, sq, cq := q.cq, idx := q.head, ctx := c, pond, desc := d % 2 ^ (512 * n), phase := .fetched
          waitMet := false, status := 0, detail := 0, nflags := 0, retried := false, rerun := false
          noHeader := !verOk, sluice := k, step := if inStep && !inner then q.stepId else 0, engine := 0
          queuedAt := 0, deadline := 0, done := [], push := false, count := 0, awaitsRegrow := false, coin := 0, olds := [] }
      let s1 := (s.noteTurn f sq q).setSq f sq { q with
        head := (q.head + n) % 2 ^ q.log2, stepLeft := if inner then 0 else q.stepLeft - 1 }
      let s2 := match (s1.fn f).cqs.at? q.cq with
        | some cqv => s1.setCq f q.cq { cqv with reserved := cqv.reserved + 1 }
        | none => s1
      let s3 := { s2 with
        work := { s2.work with ops := s2.work.ops.set id o, nextOp := id + 1 }
        tally := { s2.tally with who := s2.tally.who.set id o.acct } }
      let s4 := if inStep then s3.stepFetched pond q.stepId inner else s3
      let s5 := s4.noteCtxWork c
      let s6 := match fail with
        | some (st, det) => (s5.formAborts f d st).decide id st det
        | none => s5.checkWait id
      .next (s6.schedule pond)

/-- What a read of a doorbell word does to its ring (R356, R370). -/
def State.readDoorbell (s : State) (f sq : Nat) (word : Nat) : State :=
  match (s.fn f).sqs.at? sq with
  | none => s
  | some q =>
    if q.stopped || q.destroying then s
    else if headValid word q.log2 then (s.setSq f sq { q with tail := word }).noteCtxWork (f * 16384 + q.ctx)
    else (s.setSq f sq { q with stopped := true }).post f Event.queueError (queueErrorPayload sq 0 word)

/-- The rings whose doorbell words lie in a line: (function, queue, word number in the line). -/
def State.ringsOf (s : State) (line : Nat) : List (Nat × Nat × Nat) :=
  (s.host.fns.map (fun p => (p.2.sqs.filter (fun q => q.2.dbAddr / 64 = line)).map
    (fun q => (p.1, q.1, q.2.dbAddr % 64 / 8)))).flatten

/-- Every doorbell word of a line examined; `data` is the line's 64 bytes as one number (R227, R372). -/
def State.readLine (s : State) (line data : Nat) : State :=
  (s.ringsOf line).foldl (fun s r => s.readDoorbell r.1 r.2.1 (bitsOf data (64 * r.2.2) 64)) s

/-- Whether a read of a line finds a new tail on any of its rings. -/
def State.newTail (s : State) (line data : Nat) : Bool :=
  (s.ringsOf line).any (fun r => match (s.fn r.1).sqs.at? r.2.1 with
    | some q => !q.stopped && !q.destroying && q.tail ≠ bitsOf data (64 * r.2.2) 64
    | none => false)

/-- DOORBELL_SNOOP (R371): a cached line was snooped away; the device re-reads it and sees `data`. -/
def execDoorbellSnoop (line data : Nat) (s : State) : Out :=
  match s.host.lines.at? line with
  | some l => if l.cached then .next (s.readLine line data) else .next s
  | none => .next s

/-- The polling interval after a read (R372). -/
def DoorbellLine.after (l : DoorbellLine) (found : Bool) (now : Nat) : DoorbellLine :=
  if found then { l with interval := 1, foundAt := now }
  else if now < l.foundAt + 100000 then { l with interval := 1 }
  else { l with interval := min 1000 (2 * l.interval) }

/-- DOORBELL_POLL (R372): a polled line's interval expires and the device reads `data`; not during brumation entry
(R602). -/
def execDoorbellPoll (line data : Nat) (s : State) : Out :=
  match s.host.lines.at? line with
  | some l =>
    if l.cached || s.clk.entryStep ≠ 0 || s.mute then .next s
    else
      let found := s.newTail line data
      let s1 := { s with host := { s.host with lines := s.host.lines.set line (l.after found s.ns) } }
      .next (s1.readLine line data)
  | none => .next s

/-- CQ_ROOM_POLL (R357, R362): a completion queue without room has its head word read. -/
def execCqRoomPoll (f cq word : Nat) (s : State) : Out :=
  match (s.fn f).cqs.at? cq with
  | none => .next s
  | some q =>
    if q.room then .next s
    else if headValid word q.log2 then
      let q1 := { q with head := word, badRun := false }
      let q2 := if q1.room then { q1 with stallSince := 0, stallPosted := false }
                else { q1 with stallSince := if q.stallSince = 0 then s.ns + 1 else q.stallSince }
      .next (s.setCq f cq q2)
    else
      let s1 := s.setCq f cq { q with
        badRun := true, stallSince := if q.stallSince = 0 then s.ns + 1 else q.stallSince }
      .next (if q.badRun then s1 else s1.post f Event.queueError (queueErrorPayload cq 1 word))

/-- CQ_STALLED (R357): 100 ms without room; the event is posted once for the stall. -/
def execCqStalled (f cq : Nat) (s : State) : Out :=
  match (s.fn f).cqs.at? cq with
  | none => .next s
  | some q =>
    if q.room || q.stallSince = 0 || q.stallPosted then .next s
    else .next ((s.setCq f cq { q with stallPosted := true }).post f Event.cqStalled cq)

/-- EQ_HEAD_POLL (R362, R368): while discarded events are counted the head word is read; with room, EQ_OVERFLOW is
written with the count. -/
def execEqHeadPoll (f word : Nat) (s : State) : Out :=
  match (s.fn f).eq with
  | none => .next s
  | some q =>
    if q.discarded = 0 || s.silent f then .next s
    else if headValid word q.log2 then
      let q1 := { q with head := word, badRun := false }
      if q1.room then
        let q2 := { q1 with discarded := 0 }
        .next ((s.setFn f { s.fn f with eq := some q2 }).writeEvent f q2 Event.eqOverflow q.discarded)
      else .next (s.setFn f { s.fn f with eq := some q1 })
    else
      let s1 := s.setFn f { s.fn f with eq := some { q with badRun := true } }
      .next (if q.badRun then s1 else s1.post f Event.queueError (queueErrorPayload 0 2 word))

/-- Whether a sluice may still take guards: it is before its commit point and not aborting (R269). -/
def Sluice.guarding (e : Sluice) : Bool :=
  e.state = .open_ || e.state = .closing || e.state = .holding || e.state = .prepared

/-- What the completion of a successful SLUICE_GUARD or SLUICE_OPEN does to its sluice: the guard takes effect (R269),
the open becomes visible to other rings (R261), whatever its signal came to. -/
def State.sluiceCompletion (s : State) (o : Op) : State :=
  if o.status ≠ Status.success then s
  else if o.opcode = 0x51 then
    s.modSluice o.count (fun e => if e.guarding then
      { e with guards := e.guards ++ o.done.filter (fun g => !e.guards.contains g) } else e)
  else if o.opcode = 0x50 then s.modSluice o.count (fun e => { e with visible := true })
  else s

/-- What a lost context gives up as soon as it may (R388): its pond's tiles once no tile operation of it is in execution,
its slot once no operation is. -/
def State.releaseLost (s : State) (c : Nat) : State :=
  if !(s.host.ctxs.at? c).any (·.lost) then s
  else
    let mine (p : Nat × Op) : Bool := p.2.ctx = c && p.2.inExec
    let tiles := s.work.ops.any (fun p => mine p && p.2.isTile (s.groupTile p.2.fn))
    { s with
      mem := { s.mem with ponds := s.mem.ponds.map (fun p =>
        if p.2.running = c + 1 && p.2.switch.isNone && !tiles then (p.1, { p.2 with running := 0 }) else p) }
      host := { s.host with slots := s.host.slots.map (fun p =>
        if p.2.ctx = c && !s.work.ops.any mine then (p.1, { p.2 with phase := .unloading }) else p) } }

/-- What else the end of an operation's completion does: its guards or its open take effect, the loss it marked is
announced (R386), a lost context gives up its pond's tiles and its slot (R388). `status` is what was reported. -/
def State.afterCompletion (s : State) (id : Nat) (o : Op) (status : Nat) : State :=
  let s1 := s.sluiceCompletion o
  let s2 := match s1.host.ctxs.at? o.ctx with
    | some x =>
      if x.lost && x.lossOp = id then
        (s1.modCtx o.ctx (fun x => { x with lossOp := 0 })).post o.fn Event.contextLost (contextLostPayload o.ctx status)
      else s1
    | none => s1
  s2.releaseLost o.ctx

/-- Whether an ended operation's completion must wait: a CONTEXT_LOST entry follows the entry of the operation that
marked the loss (R386), and transfers already issued finish first (R196). -/
def State.completionWaits (s : State) (id : Nat) (o : Op) : Bool :=
  s.eng.orphans.any (fun x => x.op = id) || o.status = Status.contextLost
    && (match s.host.ctxs.at? o.ctx with
        | some x => (s.op? x.lossOp).isSome
        | none => false)

/-- An operation of a sluice whose signal could not be made completes with another status than SUCCESS, which aborts its
sluice (R256, R384). -/
def State.signalAborts (s : State) (o : Op) (status : Nat) : State :=
  if o.sluice ≠ 0 && o.status = Status.success && status ≠ Status.success then s.abortSluice o.sluice Reason.opFailed 0xFFFF
  else s

/-- OP_COMPLETE (R215): an ended operation's event is signalled and its completion entry written, and it leaves the
device. -/
def execOpComplete (op : Nat) (s : State) : Out :=
  match s.op? op with
  | none => .next s
  | some o =>
    if o.phase ≠ .ended || s.completionWaits op o then .next s
    else match (s.withOps (s.work.ops.erase op)).signal op o with
      | none => .next s
      | some (s1, st, det) =>
        let s2 := ((s1.signalAborts o st).writeCompletion o st det).afterCompletion op o st
        .next ((s2.noteCtxWork o.ctx).schedule o.pond)

/-- IRQ_DELAY_EXPIRY (R373): irq_delay_us after the first counted entry the interrupt is sent. -/
def execIrqDelayExpiry (f cq : Nat) (s : State) : Out :=
  match (s.fn f).cqs.at? cq with
  | none => .next s
  | some q =>
    if q.counted = 0 then .next s
    else .next ((s.setCq f cq { q with counted := 0, countedAt := 0 }).sendMsi f cq)

/-- EVENT_WAIT_RECHECK (R383): a pending wait is checked again. -/
def execEventWaitRecheck (op : Nat) (s : State) : Out :=
  match s.op? op with
  | none => .next s
  | some o => .next ((s.checkWait op).schedule o.pond)

/-- Argument register `i` of a function (R353). -/
def Fn.arg (F : Fn) (i : Nat) : Nat := F.args.get 0 i

/-- The address in argument registers `i` and `i` + 1. -/
def Fn.argAddr (F : Fn) (i : Nat) : Nat := F.arg i + F.arg (i + 1) * 2 ^ 32

/-- A set-up command ends with a status (R354, R355). -/
def State.endCmd (s : State) (f status : Nat) : State := s.setFn f { s.fn f with cmdStatus := status, busy := false }

/-- A set-up command runs unless one is running or the device still boots (R614), which discards the write and sets
overrun (R354). -/
def State.runCmd (s : State) (f : Nat) (body : State → State) : State :=
  if !s.fnExists f || s.silent f then s
  else if (s.fn f).busy || !s.boot.ready then s.setFn f { s.fn f with overrun := true }
  else body s

/-- The first status of a list of causes that holds, in the table's order; OK if none does (R355). -/
def firstCause : List (Bool × Nat) → Nat
  | [] => Cmd.ok
  | (b, st) :: l => if b then st else firstCause l

/-- A set-up command with its causes: with none, `body` changes the state (R355). -/
def State.cmdWith (s : State) (f : Nat) (causes : List (Bool × Nat)) (body : State → State) : State :=
  s.runCmd f (fun s =>
    let st := firstCause causes
    if st = Cmd.ok then (body s).endCmd f Cmd.ok else s.endCmd f st)

/-- Whether creating rings is refused for want of enable (R352, R425). Log: 19 (DEDUCED). -/
def State.notEnabled (s : State) (f : Nat) : Bool := f ≠ 0 && !(s.fn f).enable

/-- SET_CTX_TABLE's effect (R354). Log: 19 (DEDUCED). -/
def State.setCtxTable (s : State) (f : Nat) : State :=
  let F := s.fn f
  let cnt := bitsOf (F.arg 2) 0 15
  s.cmdWith f [(F.argAddr 0 % 64 ≠ 0, Cmd.badForm), (!F.sqs.isEmpty, Cmd.inUse), (s.ctxQuota f < cnt, Cmd.quota)]
    (fun s => s.setFn f { s.fn f with ctxBase := F.argAddr 0, ctxCount := cnt, ctxSet := true })

/-- CREATE_EQ's effect (R354, R364); on the physical function SECURITY_STATUS follows (R590). -/
def State.createEq (s : State) (f : Nat) : State :=
  let F := s.fn f
  let lg := bitsOf (F.arg 4) 0 5
  s.cmdWith f
    [(F.argAddr 0 % 4096 ≠ 0 || F.argAddr 2 % 8 ≠ 0 || lg < 4 || 14 < lg, Cmd.badForm), (F.eq.isSome, Cmd.exists_),
     (s.notEnabled f, Cmd.quota)]
    (fun s =>
      let q : EventQueue :=
        { base := F.argAddr 0, headAddr := F.argAddr 2, log2 := lg, next := 0, phase := true, seq := 0, head := 0
          badRun := false, discarded := 0 }
      let s1 := s.setFn f { s.fn f with eq := some q }
      if f = 0 then s1.securityStatus else s1)

/-- DESTROY_EQ's effect (R354). -/
def State.destroyEq (s : State) (f : Nat) : State :=
  let F := s.fn f
  s.cmdWith f [(F.eq.isNone, Cmd.notFound), (!F.sqs.isEmpty, Cmd.inUse)]
    (fun s => s.setFn f { s.fn f with eq := none })

/-- CREATE_CQ's effect (R354, R361, R373). -/
def State.createCq (s : State) (f : Nat) : State :=
  let F := s.fn f
  let a4 := F.arg 4
  let lg := bitsOf a4 0 5
  let cq := bitsOf a4 8 6
  s.cmdWith f
    [(F.argAddr 0 % 4096 ≠ 0 || F.argAddr 2 % 8 ≠ 0 || lg < 4 || 16 < lg || bitsOf a4 16 2 = 3, Cmd.badForm),
     ((F.cqs.at? cq).isSome, Cmd.exists_), (s.notEnabled f, Cmd.quota)]
    (fun s => s.setCq f cq
      { base := F.argAddr 0, headAddr := F.argAddr 2, log2 := lg, irqMode := bitsOf a4 16 2
        irqCount := bitsOf a4 24 8 + 1, irqDelay := bitsOf (F.arg 5) 0 10, next := 0, phase := true, head := 0
        badRun := false, reserved := 0, stallSince := 0, stallPosted := false, counted := 0, countedAt := 0 })

/-- DESTROY_CQ's effect (R354). -/
def State.destroyCq (s : State) (f : Nat) : State :=
  let F := s.fn f
  let cq := bitsOf (F.arg 4) 8 6
  s.cmdWith f [((F.cqs.at? cq).isNone, Cmd.notFound), (F.sqs.any (fun q => q.2.cq = cq), Cmd.inUse)]
    (fun s => s.setFn f { s.fn f with cqs := (s.fn f).cqs.erase cq })

/-- Whether a context record of 64 bytes, read as one number, passes its checks for function `f` (R379). -/
def State.recordOk (s : State) (f r : Nat) : Bool :=
  let pond := fld r 4 0 9
  let cnt := fld r 0x20 0 21
  fld r 0 0 4 = 1 && fld r 0 4 28 = 0 && fld r 4 9 23 = 0
    && fld r 8 0 64 % 65536 = 0 && fld r 8 55 9 = 0 && fld r 0x10 0 64 % 65536 = 0
    && fld r 0x18 0 64 % 4096 = 0 && fld r 0x18 55 9 = 0 && cnt ≤ 1048576 && (cnt ≠ 0 || fld r 0x18 0 64 = 0)
    && fld r 0x20 21 11 = 0 && fld r 0x24 0 224 = 0
    && (match s.mem.ponds.at? pond with
        | some p => f = 0 || p.inst + 1 = f
        | none => false)

/-- Whether context `c` holds no slot and no operation in execution, so that a change of pond takes effect (R380). -/
def State.ctxIdle (s : State) (c : Nat) : Bool :=
  s.slotOf c = 0 && !s.work.ops.any (fun p => p.2.ctx = c && p.2.inExec)

/-- A context with the values of its record (R379, R380). -/
def State.loadRecord (s : State) (c r : Nat) : State :=
  let idle := s.ctxIdle c
  let old := s.host.ctxs.at? c
  let base : Ctx := old.getD
    { pond := fld r 4 0 9, saveAddr := 0, saveSize := 0, evtAddr := 0, evtCount := 0, prio := 2, lost := false
      lossOp := 0, saved := false, waitSince := 0, idleSince := s.ns + 1, readyAt := 0 }
  let x : Ctx :=
    { base with
      pond := if idle then fld r 4 0 9 else base.pond
      saveAddr := fld r 8 0 64, saveSize := fld r 0x10 0 64, evtAddr := fld r 0x18 0 64
      evtCount := fld r 0x20 0 21 }
  { s with host := { s.host with ctxs := s.host.ctxs.set c x } }

/-- The Newt cluster a queue of a pond is assigned to (R28). With every cluster of the device fenced, of which R28 says
nothing, the model takes cluster 0. Log: 116 (DESIGN CHOICE). -/
def State.clusterFor (s : State) (pond : Nat) : Nat :=
  let ts := ((s.mem.ponds.at? pond).map (·.tiles)).getD []
  let live (d : Nat) := ((List.range 4).map (4 * d + ·)).filter (fun n => !s.fenced 6 n)
  let dies := (List.range 4).filter (fun d => !(live d).isEmpty)
  let most := minBy? (fun d => 512 - (ts.filter (fun t => dieOfTile t = d)).length) dies
  let serves (n : Nat) := ((s.host.fns.map (fun p => (p.2.sqs.filter (fun q => q.2.cluster = n)).length))).sum
  match most with
  | none => 0
  | some d => (minBy? serves (live d)).getD 0

/-- Doorbell-cache lines in use (R227, GSET_HOST_STATUS.dbc_lines). -/
def State.dbcLines (s : State) : Nat := (s.host.lines.filter (fun p => p.2.cached)).length

/-- The doorbell line of a new ring (R228, R372): cached in CXL mode while the cache has room, else polled at 1 µs. -/
def State.takeLine (s : State) (f addr : Nat) : State :=
  let line := addr / 64
  let cached := match s.host.lines.at? line with
    | some l => l.cached
    | none => s.host.cxl ≠ 0 && s.dbcLines < 8192
  let l : DoorbellLine := { fn := f, cached, interval := 1, foundAt := s.ns }
  { s with host := { s.host with lines := s.host.lines.set line l } }

/-- CREATE_SQ's effect (R354, R16, R28, R228); `r` is the context record the device reads (R380). -/
def State.createSq (s : State) (f r : Nat) : State :=
  let F := s.fn f
  let a4 := F.arg 4
  let lg := bitsOf a4 0 5
  let sq := bitsOf a4 8 6
  let cq := bitsOf a4 16 6
  let db := F.argAddr 2
  let ci := bitsOf (F.arg 5) 0 14
  let c := f * 16384 + ci
  let rings := (s.host.fns.map (fun p => p.2.sqs.map (fun q => (p.1, q.2.dbAddr)))).flatten
  s.cmdWith f
    [(F.argAddr 0 % 4096 ≠ 0 || db % 8 ≠ 0 || lg < 4 || 16 < lg, Cmd.badForm),
     (bitsOf a4 24 4 = 0, Cmd.badVersion),
     ((F.sqs.at? sq).isSome || rings.any (fun x => x.2 = db), Cmd.exists_),
     (F.eq.isNone || (F.cqs.at? cq).isNone, Cmd.notFound),
     (s.notEnabled f || s.sqQuota f ≤ F.sqs.length, Cmd.quota),
     (F.ctxCount ≤ ci || !s.recordOk f r, Cmd.badContext),
     (rings.any (fun x => x.1 ≠ f && x.2 / 64 = db / 64), Cmd.dbLineShared)]
    (fun s =>
      let s1 := (s.loadRecord c r).takeLine f db
      let cached := (s1.host.lines.at? (db / 64)).any (·.cached)
      let s2 := s1.setSq f sq
        { base := F.argAddr 0, dbAddr := db, log2 := lg, cq, ctx := ci, version := 1, head := 0, tail := 0
          stopped := false, destroying := false
          cluster := s.clusterFor (((s1.host.ctxs.at? c).map (·.pond)).getD 0), cached, stepLeft := 0, stepId := 0 }
      s2.setFn f { s2.fn f with resVersion := 1, resDbMode := !cached })

/-- DESTROY_SQ's start (R354): fetching stops at once; the command stays busy until the ring's descriptors end.
Log: 22 (DEDUCED). -/
def State.destroySq (s : State) (f : Nat) : State :=
  let sq := bitsOf ((s.fn f).arg 4) 8 6
  s.runCmd f (fun s => match (s.fn f).sqs.at? sq with
    | none => s.endCmd f Cmd.notFound
    | some q =>
      let s1 := s.setSq f sq { q with destroying := true }
      s1.setFn f { s1.fn f with busy := true, cmdSq := sq })

/-- SET_CTX_TABLE (R354): the function writes op 0x01 to ISET_CMD. -/
def execSetCtxTable (f : Nat) (s : State) : Out := .next (s.setCtxTable f)

/-- CREATE_EQ (R354). -/
def execCreateEq (f : Nat) (s : State) : Out := .next (s.createEq f)

/-- DESTROY_EQ (R354). -/
def execDestroyEq (f : Nat) (s : State) : Out := .next (s.destroyEq f)

/-- CREATE_CQ (R354). -/
def execCreateCq (f : Nat) (s : State) : Out := .next (s.createCq f)

/-- DESTROY_CQ (R354). -/
def execDestroyCq (f : Nat) (s : State) : Out := .next (s.destroyCq f)

/-- CREATE_SQ (R354). -/
def execCreateSq (f record : Nat) (s : State) : Out := .next (s.createSq f record)

/-- DESTROY_SQ (R354). -/
def execDestroySq (f : Nat) (s : State) : Out := .next (s.destroySq f)

/-- A switch of a pond's tiles to no context, where a running context must give up its slot (R320).
Log: 117 (DEDUCED). -/
def noContext : Nat := 2 ^ 32

/-- A context's slot on its way to being free: a running context is first switched out of its pond's tiles (R320, R321).
Log: 117 (DEDUCED). -/
def State.unloadSlot (s : State) (c : Nat) : State :=
  { s with
    host := { s.host with slots := s.host.slots.map (fun p =>
      if p.2.ctx = c then (p.1, { p.2 with phase := .unloading }) else p) }
    mem := { s.mem with ponds := s.mem.ponds.map (fun p =>
      if p.2.running = c + 1 && p.2.switch.isNone && !(s.host.ctxs.at? c).any (·.lost) then
        (p.1, { p.2 with switch := some { dest := noContext, phase := .drain } })
      else p) } }

/-- Whether a context runs in a pond, or is being switched in. -/
def State.onTiles (s : State) (c : Nat) : Bool :=
  s.mem.ponds.any (fun p => p.2.running = c + 1 || p.2.switch.any (fun w => w.dest = c))

/-- A context whose last ring is destroyed: its loss ends (R389), and it gives up its slot. -/
def State.lastRingGone (s : State) (c : Nat) : State :=
  if (s.fn (c / 16384)).sqs.any (fun p => p.2.ctx = c % 16384) then s
  else
    let s1 := s.unloadSlot c
    if (s1.host.ctxs.at? c).any (·.lost) then
      { s1 with host := { s1.host with ctxs := s1.host.ctxs.erase c } }
    else s1.modCtx c (fun x => { x with waitSince := 0 })

/-- A pond's beats without the steps and prompts of a destroyed ring (R331). -/
def Beats.dropRing (b : Beats) (f sq : Nat) : Beats :=
  { b with
    steps := b.steps.filter (fun t => !(t.fn = f && t.sq = sq))
    prompts := b.prompts.filter (fun p => !(p.fn = f && p.sq = sq)) }

/-- DESTROY_SQ_DONE (R354): every descriptor fetched from the ring has completed; the ring and, with its last ring,
its doorbell line are gone. Log: 22 (DEDUCED). -/
def execDestroySqDone (f : Nat) (s : State) : Out :=
  let F := s.fn f
  match F.sqs.at? F.cmdSq with
  | none => .next s
  | some q =>
    if !F.busy || !q.destroying || s.work.ops.any (fun p => p.2.fn = f && p.2.sq = F.cmdSq) then .next s
    else
      let s1 := s.setFn f { F with sqs := F.sqs.erase F.cmdSq }
      let s2 := if (s1.ringsOf (q.dbAddr / 64)).isEmpty then
          { s1 with host := { s1.host with lines := s1.host.lines.erase (q.dbAddr / 64) } }
        else s1
      let s3 : State := { s2 with mem := { s2.mem with ponds := s2.mem.ponds.map (fun (p : Nat × Pond) =>
        (p.1, { p.2 with beats := p.2.beats.map (fun b => b.dropRing f F.cmdSq) })) } }
      .next ((s3.lastRingGone (f * 16384 + q.ctx)).endCmd f Cmd.ok)

/-- NOP (R360): completes with SUCCESS once its wait is met. -/
def execNop (op : Nat) (s : State) : Out :=
  match s.go? op 0x01 with
  | some _ => .next (s.succeed op)
  | none => .next s

end Sys2Proof.Machine
end

