-- ==== Sys2Proof/Machine/Mesh.lean ====
section
/-! DEFINITION. The mesh: the stop map of a die (R19), its seams (R22), and the route of a packet (R23, R231, R235). -/

namespace Sys2Proof.Machine

/-- The stop map of a die (R19), row by row: 0 = T, 1 = V, 16 + n = Newt stop n, 32 + n = memory port n,
48 + n = seam port n, 64 + n = bridge port n. -/
def stopMap : List (List Nat) :=
  [[0, 0, 0, 32, 33, 1, 1, 0, 64, 65, 0, 0],
   [0, 0, 0, 0, 0, 1, 1, 0, 0, 0, 0, 0],
   [0, 0, 0, 0, 0, 1, 1, 0, 0, 0, 0, 0],
   [34, 0, 0, 16, 0, 1, 1, 0, 17, 0, 0, 0],
   [35, 0, 0, 0, 0, 1, 1, 0, 0, 0, 0, 50],
   [0, 1, 1, 0, 0, 1, 1, 0, 0, 1, 1, 0],
   [0, 1, 1, 0, 0, 1, 1, 0, 0, 1, 1, 0],
   [0, 0, 0, 0, 0, 1, 1, 0, 0, 0, 0, 0],
   [36, 0, 0, 18, 0, 1, 1, 0, 19, 0, 0, 51],
   [37, 0, 0, 0, 0, 1, 1, 0, 0, 0, 0, 0],
   [0, 0, 0, 0, 0, 1, 1, 0, 0, 0, 0, 0],
   [0, 0, 0, 0, 48, 1, 1, 0, 49, 0, 0, 0]]

/-- The stops of a die in row-major order. -/
def stops : List Nat := stopMap.flatten

/-- How many of the first `k` stops satisfy `q`. -/
def stopsBefore (k : Nat) (q : Nat → Bool) : Nat := ((stops.take k).filter q).length

/-- The tile at stop `k` (12 × row + column) of die `d` (R5), if a tile lies there. -/
def tileAtStop (d k : Nat) : Option Nat :=
  match getAt 99 stops k with
  | 0 => some (96 * d + stopsBefore k (· = 0))
  | 1 => some (384 + 32 * d + stopsBefore k (· = 1))
  | _ => none

/-- The loft slice beneath stop `k` of die `d` (R199), as 128 × die + slice. -/
def sliceAtStop (d k : Nat) : Option Nat :=
  if getAt 99 stops k ≤ 1 then some (128 * d + stopsBefore k (· ≤ 1)) else none

/-- The seam of seam port `n` of die `d` (R22, R673). -/
def seamOfPort (d n : Nat) : Nat := if n < 2 then (d % 2) * 2 + n else 4 + (d / 2) * 2 + (n - 2)

/-- The seams of a die. -/
def seamsOf (d : Nat) : List Nat := (List.range 4).map (seamOfPort d)

/-- A unit as class × 65536 + number. -/
def unitCode (cls unit : Nat) : Nat := cls * 65536 + unit

/-- The stop of die `d` whose code in the stop map is `c`, as a unit number of class 2 (R673). -/
def stopOf (d c : Nat) : Nat := 144 * d + stops.idxOf c

/-- The stop of a tile. -/
def tileStop (t : Nat) : Nat :=
  144 * dieOfTile t + ((List.range 144).find? (fun k => tileAtStop (dieOfTile t) k = some t)).getD 0

/-- The stop above a loft slice (128 × die + slice). -/
def sliceStop (n : Nat) : Nat :=
  144 * (n / 128) + ((List.range 144).find? (fun k => sliceAtStop (n / 128) k = some n)).getD 0

/-- The numbers from `x` to `y`, whichever is larger. -/
def between (x y : Nat) : List Nat :=
  if x ≤ y then (List.range (y - x + 1)).map (x + ·) else (List.range (x - y + 1)).map (x - ·)

/-- The stops a packet passes within die `d` from stop `a` to stop `b` (12 × row + column): along its row to the
destination column, then along that column to the destination row (R231). -/
def meshLeg (d a b : Nat) : List Nat :=
  (between (a % 12) (b % 12)).map (fun c => 144 * d + 12 * (a / 12) + c)
    ++ (between (a / 12) (b / 12)).map (fun r => 144 * d + 12 * r + b % 12)

/-- The two seams that join neighbouring dies (R22, R673), the even-numbered port's first. -/
def pairSeams (d e : Nat) : List Nat :=
  if d ^^^ e = 2 then [seamOfPort d 0, seamOfPort d 1] else [seamOfPort d 2, seamOfPort d 3]

/-- Whether a seam between two neighbouring dies is in service (R235). -/
def State.pairOpen (s : State) (d e : Nat) : Bool := (pairSeams d e).any (fun m => !s.fenced 3 m)

/-- The dies a packet passes (R23, R235): neighbours directly, or over the other two dies when both their seams are
fenced; diagonal dies over the east-west neighbour, or in the other order when that path meets a cut-off pair. -/
def State.diePath (s : State) (d e : Nat) : List Nat :=
  if d = e then [d]
  else if d ^^^ e = 3 then
    if s.pairOpen d (d ^^^ 1) && s.pairOpen (d ^^^ 1) e then [d, d ^^^ 1, e] else [d, d ^^^ 2, e]
  else if s.pairOpen d e then [d, e]
  else [d, d ^^^ (3 ^^^ (d ^^^ e)), e ^^^ (3 ^^^ (d ^^^ e)), e]

/-- The seam port by which a packet to stop `dest` leaves die `d` for its neighbour `e` (R231, R235): the even-numbered one
when row plus column of `dest` is even, the odd-numbered one when odd, and the other when that seam is fenced. -/
def State.seamPort (s : State) (d e dest : Nat) : Nat :=
  let k := dest % 144
  let n := (if d ^^^ e = 2 then 0 else 2) + (k / 12 + k % 12) % 2
  if s.fenced 3 (seamOfPort d n) then n ^^^ 1 else n

/-- The rest of a route to stop `dest` from stop `k` of the first of a list of dies: stops and seams, as unit codes. -/
def State.routeFrom (s : State) (dest : Nat) : List Nat → Nat → List Nat
  | [], _ => []
  | [d], k => (meshLeg d k (dest % 144)).map (2 * 65536 + ·)
  | d :: e :: l, k =>
    let n := s.seamPort d e dest
    (meshLeg d k (stopOf d (48 + n) % 144)).map (2 * 65536 + ·)
      ++ (3 * 65536 + seamOfPort d n) :: s.routeFrom dest (e :: l) (stopOf e (48 + n) % 144)

/-- The stops and seams a packet passes from stop `src` to stop `dest` (R231), as unit codes. -/
def State.route (s : State) (src dest : Nat) : List Nat :=
  s.routeFrom dest (s.diePath (src / 144) (dest / 144)) (src % 144)

/-- Whether a packet from `src` to `dest` may pass unit `u`: it lies on the route, or the route steers around a fenced
router of the same die by a way that R233 does not give. Log: 122 (DEDUCED). -/
def State.mayPass (s : State) (src dest u : Nat) : Bool :=
  let r := s.route src dest
  r.contains u || (u / 65536 = 2 && r.any (fun v => v / 65536 = 2 && s.fenced 2 (v % 65536) && v % 65536 / 144 = u % 65536 / 144))

end Sys2Proof.Machine
end

