-- ==== Sys2Proof/Machine/Energy.lean ====
section
/-! DEFINITION. The Tally's accounts, windows, records and ring (R540 to R556): what other chapters' events close, cut
and write. -/

namespace Sys2Proof.Machine

def State.setTally (s : State) (f : TallyPart → TallyPart) : State := { s with tally := f s.tally }

/-- Instance, pond and tag of a key; 512 = the manager, 1,023 = none (R549). -/
def keyInst (k : Nat) : Nat := k / 2 ^ 41
def keyPond (k : Nat) : Nat := k / 2 ^ 32 % 512
def keyTag (k : Nat) : Nat := k % 2 ^ 32

/-- The account of energy that belongs to no pond. -/
def unownedKey : Nat := acctKey 1023 0 0

/-- The account of tag 0 of the instance a pond is bound to: device-generated work of the pond, its context switches among
it, and accesses served for other devices (R327, R543). -/
def State.tagZero (s : State) (pond : Nat) : Nat :=
  match s.mem.ponds.at? pond with
  | some p => acctKey p.inst pond 0
  | none => unownedKey

/-- The account of what spent energy (R32, R542, R543): operation `w`; from 2^40 on, tag 0 of pond `w` - 2^40; or, where
neither is known, no pond. Log: 75 (DEDUCED). -/
def State.spender (s : State) (w : Nat) : Nat :=
  if w < 2 ^ 40 then s.tally.who.get unownedKey w else s.tagZero (w - 2 ^ 40)

/-- Whether a key is gathered over a pond's beat windows (R540); the others are over period windows. -/
def State.onBeats (s : State) (k : Nat) : Bool :=
  keyTag k ≠ 0 && (s.mem.ponds.at? (keyPond k)).any (fun p => p.beats.isSome)

/-- Where the table of a key's open window is kept (R548). -/
def State.coefKey (s : State) (k : Nat) : Nat := if s.onBeats k then keyPond k else 512 + keyPond k

/-- The coefficient table of a key's open window. -/
def State.coefFor (s : State) (k : Nat) : Coef := s.tally.pondCoef.get s.tally.coef (s.coefKey k)

/-- Start and beat of a key's open window; a pond's windows also start anew where they closed early. -/
def State.windowOf (s : State) (k : Nat) : Nat × Nat :=
  let w := s.tally.starts.get (s.tally.period, 0) (keyPond k)
  if s.onBeats k then w else (max s.tally.period w.1, 0)

def Acct.zero (start : Nat) : Acct :=
  { tiles := 0, memory := 0, fabric := 0, uncore := 0, filler := 0, busy := 0, flags := 0, start }

/-- An account changed, while the Tally is enabled (R559). -/
def State.charge (s : State) (k : Nat) (f : Acct → Acct) : State :=
  if !s.tally.enable then s
  else s.setTally (fun t => { t with accts := t.accts.set k (f (t.accts.get (Acct.zero (s.windowOf k).1) k)) })

/-- Shares of a total in proportion to weights, adding up to it. -/
def shares (total sum : Nat) : Nat → List Nat → List Nat
  | _, [] => []
  | done, w :: ws => (total * (done + w) / max 1 sum - total * done / max 1 sum) :: shares total sum (done + w) ws

/-- An account with filler energy, estimated in part where its meter failed (R539, R544). -/
def Acct.addFiller (a : Acct) (e : Nat) (fault : Bool) : Acct :=
  { a with filler := a.filler + e, flags := a.flags ||| (b2n fault * 16) }

/-- A pond's filler divided among the tags with busy clocks of its open window (R544). -/
def State.spreadFiller (s : State) (pond : Nat) : State :=
  let e := s.tally.filler.get 0 pond
  let bad := s.tally.fillerFault.contains pond
  let busy := s.tally.accts.filter (fun p => keyPond p.1 = pond && keyInst p.1 ≠ 1023 && p.2.busy ≠ 0)
  let s1 := s.setTally (fun t => { t with
    filler := t.filler.erase pond, fillerFault := t.fillerFault.filter (· ≠ pond) })
  if e = 0 then s1
  else if busy.isEmpty then
    s1.charge (acctKey (((s.mem.ponds.at? pond).map (·.inst)).getD 1023) pond 0) (fun a => a.addFiller e bad)
  else
    let ws := busy.map (fun p => p.2.busy)
    ((busy.map (·.1)).zip (shares e ws.sum 0 ws)).foldl (fun s x =>
      s.charge x.1 (fun a => a.addFiller x.2 bad)) s1

/-- Energy in 2^-10 pJ as microjoules (R549): from units of 2^-10 microjoule, to nearest with ties to even.
Log: 69 (DEDUCED). -/
def toUj (e : Nat) : Nat :=
  let i := e / 1000000
  let q := i / 1024
  let r := i % 1024
  if 512 < r || (r = 512 && q % 2 = 1) then q + 1 else q

/-- Whether an account holds energy (R540). -/
def Acct.any (a : Acct) : Bool := a.tiles + a.memory + a.fabric + a.uncore + a.filler ≠ 0

/-- The record of an account, up to time `t1` (R549, R550). Log: 69 (DEDUCED). -/
def State.recOf (s : State) (k : Nat) (a : Acct) (flags t1 : Nat) : EnergyRec :=
  let uj := [a.tiles, a.memory, a.fabric, a.uncore, a.filler].map toUj
  let share := getAt 0 uj 1 + getAt 0 uj 2 + getAt 0 uj 3 ≠ 0
  let unc := s.clk.uncertain || (s.tally.uncertainTo ≠ 0 && a.start ≤ s.tally.uncertainTo)
  let c := s.coefFor k
  { kind := if k = unownedKey then 4 else 1
    flags := a.flags ||| flags ||| (b2n unc * 4) ||| (b2n share * 8) ||| (b2n c.builtin * 256)
    inst := keyInst k, pond := keyPond k, tag := keyTag k, t0 := a.start, t1, beat := (s.windowOf k).2, uj
    coef := c.version, busy := if k = unownedKey then 0 else a.busy / 2 }

/-- Bytes 0x00 to 0x9F of a record (R549); the hash before a chain's first record is zero. -/
def EnergyRec.bytes (r : EnergyRec) (seq device : Nat) (prev : List Byte) : List Byte :=
  leBytes 4 (1 + r.kind * 16 + r.flags % 2 ^ 16 * 2 ^ 16) ++ leBytes 4 (r.inst + r.pond * 2 ^ 16) ++ leBytes 8 seq
    ++ leBytes 8 (r.tag % 2 ^ 32) ++ leBytes 8 r.t0 ++ leBytes 8 r.t1 ++ leBytes 8 (r.beat % 2 ^ 48)
    ++ (r.uj.map (leBytes 8)).flatten ++ leBytes 8 r.uj.sum ++ leBytes 8 (r.coef % 2 ^ 32 + device * 2 ^ 32)
    ++ leBytes 8 r.busy ++ (if prev.isEmpty then List.replicate 48 0 else prev)

def TallyPart.base (t : TallyPart) : Nat := t.baseLo.toNat + t.baseHi.toNat * 2 ^ 32
def TallyPart.cb (t : TallyPart) : Nat := t.cbLo.toNat + t.cbHi.toNat * 2 ^ 32

def TallyPart.count (t : TallyPart) (k : Nat) : TallyPart := { t with counts := setAt t.counts k (getAt 0 t.counts k + 1) }

/-- Whether the signing engine is free (R552, R580). -/
def State.engineFree (s : State) : Bool := s.sec.running.isNone && s.sec.tallyQ.isEmpty && s.sec.otherQ.isEmpty

/-- A record numbered, hashed and written to the ring, and the tail after it (R551 to R553). A record the free engine is
to sign does not carry CHAINED; without a ledger key it carries UNSIGNED. Log: 70 (DEDUCED). -/
def State.writeRec (s : State) (r : EnergyRec) : State :=
  let t := s.tally
  let own := t.signing && (r.kind = 2 || (s.engineFree && t.due.isNone))
  let r1 := { r with flags := r.flags ||| (if !t.signing then 2 else if own then 0 else 1) }
  let body := r1.bytes t.seq s.fab.devId t.hash
  let hash := sha384 body
  let sg : Signing := { slot := t.tail, hash, gap := r.kind = 2 }
  let tail := (t.tail + 1) % 2 ^ t.log2
  let s1 := s.writeHost 0 (t.base + 256 * t.tail) (body ++ List.replicate 96 0)
  let s2 := s1.writeHost 0 (t.cb + 8) (leBytes 8 tail)
  s2.setTally (fun t =>
    let t1 := { t with
      seq := (t.seq + 1) % 2 ^ 64, hash, tail
      last := if t.signing then some sg else none
      due := if own then some sg else t.due }
    if r.kind = 2 then (t1.count 0).count 3 else t1.count 0)

/-- Whether a record may be written now: the ring has room (R553), and no GAP record waits for its signature (R552). -/
def State.ringOpen (s : State) : Bool :=
  !s.mute && s.tally.enable && (s.tally.tail + 1) % 2 ^ s.tally.log2 ≠ s.tally.head
    && !(s.tally.last.any (·.gap))

/-- A TAG record merged into its instance's OVERFLOW record of the period (R554), which is of no pond and no beat.
Log: 71 (DEDUCED). -/
def mergeRec (o : Option EnergyRec) (r : EnergyRec) : EnergyRec :=
  match o with
  | none => { r with kind := 3, pond := 0, tag := 1, beat := 0, busy := 0 }
  | some x =>
    { x with
      tag := x.tag + 1, flags := x.flags ||| r.flags, t0 := min x.t0 r.t0, t1 := max x.t1 r.t1
      uj := (x.uj.zip r.uj).map (fun p => p.1 + p.2) }

/-- A formed record: written, held in the backlog, or merged (R554). Log: 71 (DEDUCED). -/
def State.emit (s : State) (r : EnergyRec) : State :=
  if !s.tally.enable then s
  else if s.tally.backlog.isEmpty && s.ringOpen then s.writeRec r
  else if s.tally.backlog.length < 8192 then
    let s1 := s.setTally (fun t => { t with backlog := t.backlog ++ [r] })
    if s.tally.backlog.isEmpty then s1.post 0 Event.tallyBacklog 1 else s1
  else if r.kind = 2 then s.setTally (fun t => { t with formed := t.formed ++ [r] })
  else
    s.setTally (fun t =>
      { t with overflow := t.overflow.set r.inst (mergeRec (t.overflow.at? r.inst) r) }.count 2)

/-- Keys put in order of ascending tag. -/
def insertTag (k : Nat) : List Nat → List Nat
  | [] => [k]
  | a :: l => if keyTag k < keyTag a then k :: a :: l else a :: insertTag k l

/-- The accounts of some keys closed: their records are formed, and the accounts are gone (R540, R541). -/
def State.closeKeys (s : State) (ks : List Nat) (flags : Nat) : State :=
  (ks.foldl (fun l k => insertTag k l) []).foldl (fun s k =>
    match s.tally.accts.at? k with
    | none => s
    | some a =>
      let s1 := s.setTally (fun t => { t with accts := t.accts.erase k })
      if a.any then s1.emit (s.recOf k a flags s.ns) else s1) s

/-- A pond's beat window closes, and the next begins (R540). -/
def State.closeBeatWindow (s : State) (pond flags : Nat) : State :=
  let s1 := s.spreadFiller pond
  let ks := (s1.tally.accts.map (·.1)).filter (fun k => keyPond k = pond && keyInst k ≠ 1023 && keyTag k ≠ 0)
  let s2 := s1.closeKeys ks flags
  let n := ((s.mem.ponds.at? pond).bind (·.beats)).map (·.number)
  s2.setTally (fun t => { t with
    starts := t.starts.set pond (s.ns, n.getD 0), pondCoef := t.pondCoef.erase pond })

/-- The period windows close (R540), each pond's records in turn and UNOWNED last; the period's OVERFLOW records are formed
and reported (R554).
Log: 71 (DEDUCED). -/
def State.closePeriod (s : State) (flags : Nat) : State :=
  let s1 := (s.mem.ponds.filter (fun p => p.2.beats.isNone)).foldl (fun s p => s.spreadFiller p.1) s
  let due := (s1.tally.accts.map (·.1)).filter (fun k => !s1.onBeats k)
  let ponds := (((due.map keyPond).filter (· ≠ 0)).eraseDups)
  let s2 := ponds.foldl (fun s p => s.closeKeys (due.filter (fun k => keyPond k = p)) flags) s1
  let s3 := s2.closeKeys (due.filter (fun k => keyPond k = 0)) flags
  let s4 := s3.tally.overflow.foldl (fun s p =>
    s.post 0 Event.tallyOverflow (p.1 % 1024 + p.2.tag % 2 ^ 32 * 2 ^ 32)) s3
  s4.setTally (fun t => { t with
    period := s.ns, pondCoef := t.pondCoef.filter (fun p => p.1 < 512)
    formed := t.formed ++ s3.tally.overflow.map (·.2), overflow := []
    who := t.who.filter (fun p => (s4.op? p.1).isSome) })

/-- Every open window closes early (R541). -/
def State.closeAll (s : State) : State :=
  let s1 := (s.mem.ponds.filter (fun p => p.2.beats.isSome)).foldl (fun s p => s.closeBeatWindow p.1 64) s
  s1.closePeriod 64

/-- A pond's windows close early (R541): at its destruction, or a change of its beat mode. -/
def State.closePondWindows (s : State) (pond : Nat) : State :=
  let s1 := s.spreadFiller pond
  let ks := (s1.tally.accts.map (·.1)).filter (fun k => keyPond k = pond && keyInst k ≠ 1023)
  let s2 := s1.closeKeys ks 64
  s2.setTally (fun t => { t with
    starts := t.starts.set pond (s.ns, 0), pondCoef := (t.pondCoef.erase pond).erase (512 + pond) })

/-- Bytes of a receipt (R555). -/
def EnergyRec.receipt (r : EnergyRec) (device : Nat) : List Byte :=
  leBytes 4 (1 + r.flags % 2 ^ 16 * 2 ^ 16) ++ leBytes 4 (r.inst + r.pond * 2 ^ 16) ++ leBytes 8 (r.tag % 2 ^ 32)
    ++ leBytes 8 r.t0 ++ leBytes 8 r.t1 ++ leBytes 8 r.uj.sum ++ leBytes 8 (getAt 0 r.uj 4)
    ++ leBytes 8 (r.coef % 2 ^ 32 + device * 2 ^ 32) ++ leBytes 8 0

/-- The FINAL record of a tag at a cut (R555), with the pond's filler divided so far. Log: 72 (DEDUCED). -/
def State.finalRec (s : State) (k : Nat) : State × EnergyRec :=
  let s1 := s.spreadFiller (keyPond k)
  (s1, s1.recOf k (s1.tally.accts.get (Acct.zero (s1.windowOf k).1) k) 512 s1.ns)

/-- An account less what a cut took from it. -/
def Acct.less (a b : Acct) (cut : Nat) : Acct :=
  { tiles := a.tiles - b.tiles, memory := a.memory - b.memory, fabric := a.fabric - b.fabric, uncore := a.uncore - b.uncore
    filler := a.filler - b.filler, busy := a.busy - b.busy, flags := 0, start := cut }

end Sys2Proof.Machine
end

