-- ==== Sys2Proof/Machine/Xlat.lean ====
section
/-! DEFINITION. Roots, walks, translation caches, invalidation and dirty logging (14_address_translation). -/

namespace Sys2Proof.Machine

/-- The cached translations of function `f` that `sel` selects removed, with its walk-cache entries (R408). -/
def State.dropXlat (s : State) (f : Nat) (sel : Translation → Bool) : State :=
  { s with xlat := { s.xlat with
      tlb := s.xlat.tlb.filter (fun t => !(t.fn = f && sel t))
      micro := s.xlat.micro.filter (fun m => !(m.2.fn = f && sel m.2))
      walkCache := s.xlat.walkCache.filter (fun w => w.fn ≠ f) } }

/-- Whether a cached translation's span overlaps a range of pages (R408). -/
def Translation.overlaps (t : Translation) (addr pages : Nat) : Bool :=
  t.vpage * 2 ^ t.span < addr + pages * 65536 && addr < (t.vpage + 1) * 2 ^ t.span

/-- An invalidation of a function's translations (R407, R408): scope 0 = range, 1 = all, 2 = not global. -/
def State.invalidate (s : State) (f scope addr pages : Nat) : State :=
  s.dropXlat f (fun t => if scope = 0 then t.overlaps addr pages else if scope = 1 then true else t.slot ≠ 0)

/-- A function's root set, and every cached translation of it removed (R400). -/
def State.setRoot (s : State) (f : Nat) (root : Option Nat) : State :=
  (s.setFn f { s.fn f with root }).invalidate f 1 0 0

/-- The function an XLAT_ROOT or XLAT_INVAL acts on; `w` is the word that holds inst and other (R400). -/
def xlatTarget (o : Op) (off : Nat) : Nat := if fld o.desc off 9 1 = 1 then fld o.desc off 0 9 + 1 else o.fn

/-- An action done now, or recorded in the operation's sluice (R409). -/
def State.nowOrRecord (s : State) (id : Nat) (o : Op) (r : Recorded) (now : State → State) : State :=
  if o.sluice = 0 then (now s).start id
  else (s.modSluice o.sluice (fun e => { e with recorded := e.recorded ++ [r] })).succeed id

/-- XLAT_ROOT with enable = 1 (R400): the root is installed and the function's cached translations removed; inside a
sluice the action is recorded. -/
def execXlatRoot (op : Nat) (s : State) : Out :=
  match s.go? op 0x80 with
  | none => .next s
  | some o =>
    if fld o.desc 0x28 0 1 = 0 then .next s
    else
      let f := xlatTarget o 0x2C
      let root := fld o.desc 0x20 0 43
      if !s.goodTable f (0xFFFF * 2 ^ 43 + root) then .next (s.decide op Status.badRoot 0)
      else .next (s.nowOrRecord op o (.root f (some root)) (fun s => s.setRoot f (some root)))

/-- XLAT_ROOT with enable = 0 (R400): the root is removed. -/
def execXlatRootRemove (op : Nat) (s : State) : Out :=
  match s.go? op 0x80 with
  | none => .next s
  | some o =>
    if fld o.desc 0x28 0 1 = 1 then .next s
    else
      let f := xlatTarget o 0x2C
      .next (s.nowOrRecord op o (.root f none) (fun s => s.setRoot f none))

/-- XLAT_INVAL (R407, R408): the selected translations are removed; the operation completes when every tile has
reported. -/
def execXlatInval (op : Nat) (s : State) : Out :=
  match s.go? op 0x81 with
  | none => .next s
  | some o =>
    let f := xlatTarget o 0x30
    let sc := fld o.desc 0x2C 0 2
    let a := fld o.desc 0x20 0 55
    let n := fld o.desc 0x28 0 32
    .next (s.nowOrRecord op o (.inval f sc a n) (fun s => s.invalidate f sc a n))

/-- XLAT_INVAL_DONE (R408): every tile has reported its part of the removal an XLAT_ROOT or XLAT_INVAL made. -/
def execXlatInvalDone (op : Nat) (s : State) : Out :=
  match s.op? op with
  | none => .next s
  | some o =>
    if (o.opcode = 0x80 || o.opcode = 0x81) && o.phase = .running then .next (s.succeed op) else .next s

/-- Whether a bitmap at a local offset keeps R419: aligned, wholly in placed plots of no pond and of no staging
region. -/
def State.bitmapOk (s : State) (bm : Nat) : Bool :=
  bm % 65536 = 0 && bm + 1572864 ≤ 0xC000000000
    && [bm / 0x20000000, (bm + 1572863) / 0x20000000].all (fun p =>
      (s.mem.remap.at? p).any (fun q => q.owner = 0)
        && !(s.mem.spill ++ s.mem.spillWritten).any (fun r => r.2.1 ≤ p && p < r.2.1 + r.2.2))

/-- Whether an instance is being logged (R420). -/
def State.logged (s : State) (inst : Nat) : Bool := (s.fn (inst + 1)).bitmap.isSome

/-- An instance's bitmap set. -/
def State.setBitmap (s : State) (inst : Nat) (bm : Option Nat) : State :=
  s.setFn (inst + 1) { s.fn (inst + 1) with bitmap := bm }

/-- An XLAT_DIRTY of kind `kind` that may go on. -/
def State.dirtyGo (s : State) (op kind : Nat) : Option Op :=
  (s.go? op 0x82).bind (fun o => if fld o.desc 0x20 16 2 = kind then some o else none)

/-- XLAT_DIRTY start (R421): logging into the bitmap begins at resolution. -/
def execXlatDirtyStart (op : Nat) (s : State) : Out :=
  match s.dirtyGo op 1 with
  | none => .next s
  | some o =>
    let i := fld o.desc 0x20 0 9
    let bm := fld o.desc 0x28 0 43
    if !s.bitmapOk bm then .next (s.decide op Status.badBitmap 0)
    else if s.logged i then .next (s.decide op Status.dirtyState 0)
    else .next ((s.setBitmap i (some bm)).succeed op)

/-- XLAT_DIRTY stop (R421): logging ends; every OR of an earlier write has reached the bitmap. -/
def execXlatDirtyStop (op : Nat) (s : State) : Out :=
  match s.dirtyGo op 0 with
  | none => .next s
  | some o =>
    let i := fld o.desc 0x20 0 9
    if !s.logged i then .next (s.decide op Status.dirtyState 0) else .next ((s.setBitmap i none).succeed op)

/-- XLAT_DIRTY swap (R422): logging moves to the new bitmap at once, or at the publish of the descriptor's sluice. -/
def execXlatDirtySwap (op : Nat) (s : State) : Out :=
  match s.dirtyGo op 2 with
  | none => .next s
  | some o =>
    let i := fld o.desc 0x20 0 9
    let bm := fld o.desc 0x28 0 43
    if !s.bitmapOk bm then .next (s.decide op Status.badBitmap 0)
    else if !s.logged i then .next (s.decide op Status.dirtyState 0)
    else if o.sluice = 0 then .next ((s.setBitmap i (some bm)).succeed op)
    else .next ((s.modSluice o.sluice (fun e => { e with recorded := e.recorded ++ [.swap i bm] })).succeed op)

/-- The shared TLB of a die with one more translation: 2,048 sets of 8 ways (R404). Log: 98 (PRESUMED). -/
def State.fillTlb (s : State) (t : Translation) : State :=
  let l := evictLru (s.xlat.tlb.filter (fun u =>
    !(u.die = t.die && u.fn = t.fn && u.slot = t.slot && u.span = t.span && u.vpage = t.vpage)))
    (fun u => u.die = t.die && u.vpage % 2048 = t.vpage % 2048) 8
  { s with xlat := { s.xlat with tlb := t :: l } }

/-- The walk-cache entry that the entry for `va` of a table at `t` gives, if it names a table (R404). -/
def State.walkStep (s : State) (die f va lvl t : Nat) : Option WalkEntry :=
  let shift := 16 + 13 * (3 - lvl)
  let e := leNat (s.readPub (bitsOf t 0 43 + 8 * ((va >>> shift) % 0x2000)) 8)
  if bitOf e 1 then none
  else some { die, fn := f, level := lvl, vprefix := va >>> shift, table := bitsOf e 16 44 <<< 16 }

/-- The table entries a walk by die `die` for `va` reads above the leaf's: those its walk cache lacks (R404). -/
def State.walkSteps (s : State) (die f va : Nat) : List WalkEntry :=
  match s.walkEntry die f va with
  | some w => if w.level = 2 then [] else (s.walkStep die f va 2 w.table).toList
  | none => match (s.host.fns.at? f).bind (·.root) with
    | none => []
    | some root => match s.walkStep die f va 1 root with
      | none => []
      | some w => (s.walkStep die f va 2 w.table).toList ++ [w]

/-- The tables a successful walk read, kept in the die's walk cache of 512 entries (R404). Log: 98 (PRESUMED). -/
def State.fillWalkCache (s : State) (die f va : Nat) : State :=
  let mine := (s.walkSteps die f va ++ s.xlat.walkCache.filter (fun w => w.die = die)).take 512
  { s with xlat := { s.xlat with walkCache := mine ++ s.xlat.walkCache.filter (fun w => w.die ≠ die) } }

/-- The entries a walk reads, as their homes' loft sees them (R405): under ALLOC in the share of the pond the access
belongs to, else NOALLOC. -/
def State.walkTouch (s : State) (die f va pond : Nat) : State :=
  let steps := s.walkSteps die f va
  let (lvl, first) := match s.walkEntry die f va with
    | some w => (w.level + 1, w.table)
    | none => (1, ((s.host.fns.at? f).bind (·.root)).getD 0)
  let tables := (lvl, first) :: steps.reverse.map (fun w => (w.level + 1, w.table))
  tables.foldl (fun s x =>
    let off := bitsOf x.2 0 43 + 8 * ((va >>> (16 + 13 * (3 - x.1))) % 0x2000)
    s.loftTouch off (if pond = 0 then .noalloc else .alloc) (s.maskFor pond off) false) s

/-- WALK_DONE (R401 to R405): a walk on a die ends for function `f`, an access of context slot `slot` (counted from 1)
and tile `tile` (counted from 1), made for operation `op`, each 0 = none. A success fills the caches; a fault or
poison ends the operation. Log: 129 (DEDUCED). -/
def execWalkDone (die f slot va tile op : Nat) (s : State) : Out :=
  let s1 := { s with xlat := { s.xlat with walks := s.xlat.walks.set die (s.xlat.walks.get 0 die + 1) } }
  let faulted := { s1 with xlat := { s1.xlat with faults := s1.xlat.faults.set die (s1.xlat.faults.get 0 die + 1) } }
  let ended (t : State) (st det : Nat) : State :=
    match t.op? op with
    | some o => if o.fn = f && (o.phase = .queued || o.phase = .running) then t.decide op st det else t
    | none => t
  match s.walkOn die f va with
  | .stall => .next s
  | .poison => .next (ended s1 Status.memoryError va)
  | .fault c l => .next (ended faulted Status.translationFault (xlatDetail va c l))
  | .leaf pa span h g l =>
    match (s.classify f (pa + va % 2 ^ span) h).atLevel l with
    | .fault c l => .next (ended faulted Status.translationFault (xlatDetail va c l))
    | .poison => .next (ended s1 Status.memoryError va)
    | .stall => .next s
    | .ok _ _ =>
      let c := s1.xlat.clock + 1
      let t : Translation :=
        { die, fn := f, slot := if g then 0 else slot, span, vpage := va >>> span, pa, hint := h, used := c }
      let s2 := { s1 with xlat := { s1.xlat with clock := c } }
      let pond := ((s.op? op).map (·.pond)).getD 0
      let s3 := ((s2.fillTlb t).fillWalkCache die f va).walkTouch die f va pond
      .next (if tile = 0 then s3 else s3.fillMicro (tile - 1) t)

end Sys2Proof.Machine
end

