-- ==== Sys2Proof/Machine/Sluice.lean ====
section
/-! DEFINITION. Sluices: opening, guarding, committing and aborting, on one device and across devices
(09_sluices). -/

namespace Sys2Proof.Machine

/-- Sluice entries in use: open sluices and the entries of re-binds (R260, R300). -/
def State.entriesUsed (s : State) : Nat :=
  s.work.sluices.length + (s.mem.ponds.filter (fun p => p.2.rebind.isSome)).length

/-- Sluice entries an instance holds (R430). -/
def State.sluicesOf (s : State) (f : Nat) : Nat := (s.work.sluices.filter (fun p => p.2.fn = f)).length

/-- A stage_ways or spill-region change waits to take effect (R203, R266). -/
def State.layoutPending (s : State) : Bool :=
  [0, 1, 2, 3].any (fun d => s.mem.stageWritten.get 4 d ≠ s.mem.stageWays.get 4 d
    || s.mem.spillWritten.get (0, 0) d ≠ s.mem.spill.get (0, 0) d)

/-- A table of 16-bit device IDs in its bytes (R258, R487). -/
def ids16 (bs : List Byte) (n : Nat) : List Nat := (List.range n).map (fun i => leNat ((bs.drop (2 * i)).take 2))

/-- The index of the first entry of a participant table that offends: a duplicate, or a device the mere does not
contain (R260 step 5). -/
def badParticipant (l map : List Nat) : Option Nat :=
  (List.range l.length).find? (fun i => (l.take i).contains (getAt 0 l i) || !map.contains (getAt 0 l i))

/-- A new entry of the sluice table (R260, R261). -/
def newSluice (o : Op) (home : Nat) (parts : List Nat) : Sluice :=
  { fn := o.fn, id := fld o.desc 8 0 48, mere := fld o.desc 0x20 0 32, participant := fld o.desc 0x24 0 1 = 1
    coord := fld o.desc 0x28 0 16, parts, timeoutUs := fld o.desc 0x38 0 32, state := .open_, home, opener := o.ctx
    visible := false, openSq := o.sq, staged := [], spilled := [], guards := [], conflict := false, reason := 0
    origin := 0, commitOp := 0, abortOps := [], votes := [], acks := [], deadline := 0, recorded := []
    published := false, silent := false }

/-- What the coordinator's decision that a waiting message brings does to a participant's entry (R281). -/
def State.takeDecision (s : State) (k : Nat) (commit : Bool) (reason origin : Nat) : State :=
  match s.work.sluices.at? k with
  | none => s
  | some e =>
    if commit then (if e.state = .prepared then s.modSluice k (fun e => { e with state := .committed, guards := [] }) else s)
    else s.abortSluiceWith false k reason origin

/-- The commit point of a sluice (R271 step 4): guards end. -/
def State.commitPoint (s : State) (k : Nat) : State :=
  s.modSluice k (fun e => { e with state := .committed, guards := [] })

/-- The coordinator's commit point, once every participant has voted (R280). -/
def State.tryDecide (s : State) (k : Nat) : State :=
  match s.work.sluices.at? k with
  | none => s
  | some e =>
    if e.state = .prepared && e.parts.all e.votes.contains then
      (e.parts.filter (· ≠ s.fab.devId)).foldl (fun s d =>
        s.send { kind := .sluiceDecision, dst := d, mere := e.mere, id := e.id, args := [1, 0, 0], data := [] })
        (s.commitPoint k)
    else s

/-- A participant's vote at the coordinator (R280): an abort vote aborts; the first vote starts the timeout. -/
def State.takeVote (s : State) (k dev : Nat) (commit : Bool) (reason origin : Nat) : State :=
  match s.work.sluices.at? k with
  | none => s
  | some e =>
    if e.state = .committed || e.state = .aborting then s
    else if commit then
      let now := s.ns
      (s.modSluice k (fun e => { e with
        votes := if e.votes.contains dev then e.votes else dev :: e.votes
        deadline := if e.deadline = 0 then now + e.timeoutUs * 1000 else e.deadline })).tryDecide k
    else s.abortSluice k reason origin

/-- The coordinator's answer to a forwarded abort (R282): 1 = committed. -/
def State.answerAbort (s : State) (mere id dev done : Nat) : State :=
  s.send { kind := .sluiceAnswer, dst := dev, mere, id, args := [done], data := [] }

/-- A forwarded abort at the coordinator (R282). -/
def State.takeAbort (s : State) (k mere id dev : Nat) : State :=
  match s.work.sluices.at? k with
  | none => s
  | some e =>
    if e.state = .committed then s.answerAbort mere id dev 1
    else (s.abortSluice k Reason.requested dev).answerAbort mere id dev 0

/-- A protocol message acts on entry `k` (R279 to R282). -/
def State.takeNote (s : State) (k mere id : Nat) : SluiceNote → State
  | .vote dev c r o => s.takeVote k dev c r o
  | .decision c r o => s.takeDecision k c r o
  | .abort dev => s.takeAbort k mere id dev

/-- A message that a device without an entry for the sluice leaves waiting in the fabric (R278). -/
def State.holdNote (s : State) (mere id : Nat) (note : SluiceNote) : State :=
  { s with work := { s.work with sluiceHeld := s.work.sluiceHeld ++ [{ mere, id, note }] } }

/-- Messages that waited for the open of a sluice are delivered to its entry, oldest first (R278). -/
def State.deliverNotes (s : State) (k mere id : Nat) : State :=
  let mine (h : SluiceHeld) : Bool := h.mere = mere && h.id = id
  let s1 := { s with work := { s.work with sluiceHeld := s.work.sluiceHeld.filter (fun h => !mine h) } }
  (s.work.sluiceHeld.filter mine).foldl (fun s h => s.takeNote k mere id h.note) s1

/-- The open takes effect with a participant list (R260). Log: 18 (DEDUCED). -/
def State.openSluice (s : State) (id : Nat) (o : Op) (parts : List Nat) : State :=
  let k := s.work.nextSluice
  let home := (((s.fn o.fn).sqs.at? o.sq).map (·.cluster / 4)).getD 0
  let e := newSluice o home parts
  let s1 := { s with work := { s.work with sluices := s.work.sluices.set k e, nextSluice := k + 1 } }
  let s2 := (s1.modOp id (fun o => { o with count := k })).actDone id 0x50
  if e.mere = 0 then s2 else s2.deliverNotes k e.mere e.id

/-- SLUICE_OPEN (R260): at resolution; the command again once its wait is met completes it. `ext` holds the participant
table's bytes that lie outside the device. Log: 18 (DEDUCED), 47 (DEDUCED). -/
def execSluiceOpen (op : Nat) (ext : Ext) (s : State) : Out :=
  match s.acts? op 0x50 with
  | none => .next (s.goOn op 0x50)
  | some o =>
    let id := fld o.desc 8 0 48
    let mere := fld o.desc 0x20 0 32
    let cap := (s.fn o.fn).sluiceMax
    if s.work.sluices.any (fun p => (p.2.fn = o.fn && p.2.id = id) || (mere ≠ 0 && p.2.mere = mere && p.2.id = id)) then
      .next (s.decide op Status.badSluice 0)
    else if s.layoutPending then .next s
    else if 1024 ≤ s.entriesUsed || (cap ≠ 0 && cap ≤ s.sluicesOf o.fn) then
      .next (s.decide op Status.sluiceTableFull 0)
    else if mere = 0 || fld o.desc 0x24 0 1 = 1 then .next (s.openSluice op o [])
    else
      let n := fld o.desc 0x2C 0 13
      match s.readVa (s.newt o.fn o.ctx 0) ext (fld o.desc 0x30 0 55) (2 * n) with
      | .stall => .next s
      | .bad st d => .next (s.decide op st d)
      | .ok bs =>
        let l := ids16 bs n
        let map := ((s.fab.meres.at? mere).map (·.map)).getD []
        match badParticipant l map with
        | some i => .next (s.decide op Status.badParticipantTable i)
        | none =>
          if l.contains s.fab.devId then .next (s.openSluice op o l)
          else
            let (k, s1) := s.takeFree
            .next (s1.decide op Status.badParticipantTable (Config.freeNat k))

/-- Pages a sluice guards, and those its guards resolved and not yet complete will (R269, R270). -/
def State.guardsOf (s : State) (k : Nat) (e : Sluice) : List Nat :=
  (e.guards ++ ((s.work.ops.filter (fun p => p.2.opcode = 0x51 && p.2.acted && p.2.count = k)).map
    (·.2.done)).flatten).eraseDups

/-- Guarded pages held or about to be held across all sluices, once entry `k` guards the pages `ps` too (R270): each sluice's
pages are counted once. Log: 118 (DEDUCED). -/
def State.guardCount (s : State) (k : Nat) (ps : List Nat) : Nat :=
  (s.work.sluices.map (fun p => (if p.1 = k then (s.guardsOf p.1 p.2 ++ ps).eraseDups else s.guardsOf p.1 p.2).length)).sum

/-- The physical 4 KiB pages of a range, page by page: `.bad` where a page is not this device's memory or faults. -/
def State.guardPages (s : State) (a : Agent) : List Nat → Acc (List Nat)
  | [] => .ok []
  | va :: l => match s.translate a va with
    | .fault c v => .bad Status.translationFault (xlatDetail va c v)
    | .poison => .bad Status.memoryError va
    | .stall => .stall
    | .ok (.local_ off) _ => match s.guardPages a l with
      | .ok ps => .ok (off / 4096 :: ps)
      | x => x
    | .ok _ _ => .bad Status.badTarget va

/-- SLUICE_GUARD (R257, R269, R270): its range is translated at resolution; the command again once its wait is met
completes it, and the pages are guarded once the completion entry is written. Log: 18 (DEDUCED). -/
def execSluiceGuard (op : Nat) (s : State) : Out :=
  match s.acts? op 0x51 with
  | none => .next (s.goOn op 0x51)
  | some o =>
    let k := s.joins o.fn o.sq (fld o.desc 8 0 48)
    let a := fld o.desc 0x20 0 55
    let n := fld o.desc 0x28 0 32
    if k = 0 then .next (s.decide op Status.badSluice 0)
    else match s.guardPages (s.newt o.fn o.ctx 0) ((pagesOf a n).map (· * 4096)) with
      | .stall => .next s
      | .bad st d =>
        let s1 := s.decide op st d
        .next (if st = Status.badTarget then s1 else s1.abortSluice k Reason.opFailed 0xFFFF)
      | .ok ps =>
        if 65536 < s.guardCount k ps then
          .next ((s.abortSluice k Reason.capacity 0xFFFF).decide op Status.sluiceAborted
            (abortDetail Reason.capacity 0xFFFF))
        else .next ((s.modOp op (fun o => { o with done := ps.eraseDups, count := k })).actDone op 0x51)

/-- A resolved SLUICE_COMMIT that may go on: the commit is in execution, and its sluice may drain. -/
def State.startCommit (s : State) (op : Nat) : State :=
  match s.op? op with
  | some o => if o.opcode = 0x52 && o.acted && s.readyOp op o then (s.enqueue op).start op else s
  | none => s

/-- SLUICE_COMMIT (R257, R271 step 1, R279, R280): at resolution the sluice closes, and a coordinator's timeout starts; the
command again once its wait is met lets the commit drain. Log: 18 (DEDUCED). -/
def execSluiceCommit (op : Nat) (s : State) : Out :=
  match s.acts? op 0x52 with
  | none => .next (s.startCommit op)
  | some o =>
    let k := s.joins o.fn o.sq (fld o.desc 8 0 48)
    if k = 0 then .next (s.decide op Status.badSluice 0)
    else
      let now := s.ns
      let s1 := s.modSluice k (fun e => { e with
        state := .closing, commitOp := op
        deadline := if e.mere ≠ 0 && !e.participant && e.deadline = 0 then now + e.timeoutUs * 1000 else e.deadline })
      .next ((s1.modOp op (fun o => { o with acted := true })).startCommit op)

/-- Number of the sluice entry of function `f` with ID `id` that a descriptor of ring `sq` may see (R261). -/
def State.sees (s : State) (f sq id : Nat) : Nat := s.sluiceNamed f id (fun e => e.visible || e.openSq = sq)

/-- SLUICE_ABORT (R274, R282): at resolution, before the commit point the sluice aborts; a prepared participant forwards
the abort. The command again once its wait is met completes it. Log: 18 (DEDUCED). -/
def execSluiceAbort (op : Nat) (s : State) : Out :=
  match s.acts? op 0x53 with
  | none => .next (s.goOn op 0x53)
  | some o =>
    let k := s.sees o.fn o.sq (fld o.desc 8 0 48)
    match s.work.sluices.at? k with
    | none => .next (s.decide op Status.badSluice 0)
    | some e =>
      if e.state = .committed then .next (s.decide op Status.alreadyCommitted 0)
      else if e.state = .aborting then .next (s.actDone op 0x53)
      else if e.state = .prepared && e.participant then
        let s1 := s.modSluice k (fun e => { e with abortOps := e.abortOps ++ [op] })
        let s2 := ((s1.modOp op (fun o => { o with acted := true, count := e.mere })).enqueue op).start op
        .next (s2.send { kind := .sluiceAbort, dst := e.coord, mere := e.mere, id := e.id, args := [s.fab.devId], data := [] })
      else
        .next (((s.abortSluice k Reason.requested 0xFFFF).modSluice k
          (fun e => { e with abortOps := e.abortOps ++ [op] })).actDone op 0x53)

/-- Slices that hold an entry's staged or guarded lines (R271 step 3). -/
def State.footprint (s : State) (e : Sluice) : List Nat :=
  (e.lines.map (fun l => s.homeOf (l * 128))
    ++ (e.guards.map (fun g => (List.range 32).map (fun i => s.homeOf (g * 4096 + 128 * i)))).flatten).eraseDups

/-- An earlier commit shares a slice and has not published (R272). Log: 99 (DEDUCED). -/
def State.commitBlocked (s : State) (k : Nat) (e : Sluice) : Bool :=
  let fp := s.footprint e
  s.work.sluices.any (fun p => p.1 ≠ k && !p.2.published
    && (p.2.state = .holding || p.2.state = .prepared || p.2.state = .committed) && (s.footprint p.2).any fp.contains)

/-- The receipts of a sluice that enters HOLDING (R555): each tag is cut now, its receipt staged, and its FINAL record kept
for the commit. An access that stalls makes the sluice wait; a fault loses the context that asked for the receipt (R2).
Log: 72 (DEDUCED). -/
def State.cutReceipts (s : State) (k : Nat) : List Recorded → Option State
  | [] => some s
  | .receipt key va fn ctx pond :: l =>
    let x := s.finalRec key
    let a : Agent := { fn, slot := s.slotOf ctx, die := 0, tile := 0, sluice := k, op := 0, pond }
    let snap := x.1.tally.accts.get (Acct.zero (x.1.windowOf key).1) key
    match x.1.writeVa a false none va (x.2.receipt s.fab.devId) with
    | .stall => none
    | .bad s1 st _ =>
      let s2 := s1.abortSluice k Reason.opFailed 0xFFFF
      some (if losesContext st && !(s2.host.ctxs.at? ctx).all (·.lost) then
        (s2.markLost ctx 0).post fn Event.contextLost (contextLostPayload ctx st) else s2)
    | .ok s1 =>
      (s1.modSluice k (fun e => { e with
        recorded := e.recorded.map (fun r => if r = .receipt key va fn ctx pond then .final key x.2 snap else r) })).cutReceipts k l
  | _ :: l => s.cutReceipts k l

/-- Whether the commit of a CLOSING sluice has gone on past its wait (R383). Log: 18 (DEDUCED). -/
def State.commitRuns (s : State) (e : Sluice) : Bool := (s.op? e.commitOp).all (fun o => o.phase ≠ .fetched)

/-- SLUICE_DRAINED (R271 steps 2 and 3): no operation of a CLOSING sluice is left; holds go out. -/
def execSluiceDrained (f id : Nat) (s : State) : Out :=
  let k := s.sluiceNamed f id (fun e => e.state = .closing)
  match s.work.sluices.at? k with
  | none => .next s
  | some e =>
    if s.work.ops.any (fun p => p.2.sluice = k) || !s.commitRuns e || s.commitBlocked k e then .next s
    else match s.cutReceipts k e.recorded with
      | none => .next s
      | some s1 => .next (s1.modSluice k (fun e => if e.state = .closing then { e with state := .holding } else e))

/-- SLUICE_HOLD_ACKED (R271 step 4, R279): every slice has acknowledged; the commit record is written, or the vote
is cast. -/
def execSluiceHoldAcked (f id : Nat) (s : State) : Out :=
  let k := s.sluiceNamed f id (fun e => e.state = .holding)
  match s.work.sluices.at? k with
  | none => .next s
  | some e =>
    if e.mere = 0 then .next (s.commitPoint k)
    else if e.participant then
      .next ((s.modSluice k (fun e => { e with state := .prepared })).send
        { kind := .sluiceVote, dst := e.coord, mere := e.mere, id := e.id, args := [1, 0, s.fab.devId], data := [] })
    else
      .next ((s.modSluice k (fun e => { e with state := .prepared, votes := s.fab.devId :: e.votes })).tryDecide k)

/-- Granules a sluice's staged actions touch. -/
def Sluice.granulesOf (e : Sluice) : List Nat :=
  ((e.staged.map (fun a => granules a.off a.bytes.length)).flatten).eraseDups

/-- Staged actions published granule by granule, in staging order, on the value published now (R264, R271, R641).
Log: 99 (DEDUCED). -/
def State.publish (s : State) (k : Nat) (e : Sluice) : State :=
  e.granulesOf.foldl (fun s g =>
    if s.poisonAt g && !e.covers g then s
    else
      let base := Memory.write [] g (s.readPub g 64)
      s.landWrite k g ((overlay base (e.staged.filter (·.touches g (g + 64)))).read g 64)) s

/-- A recorded action performed (R409, R422, R555). Log: 72 (DEDUCED). -/
def State.perform (s : State) : Recorded → State
  | .root f r => s.setRoot f r
  | .inval f sc a n => s.invalidate f sc a n
  | .swap i bm => s.setBitmap i (some bm)
  | .receipt .. => s
  | .final k r a => (s.charge k (fun b => b.less a r.t1)).emit r

/-- Whether a recorded action is a swap, made before the sluice's own lines are published (R422). -/
def Recorded.isSwap : Recorded → Bool
  | .swap .. => true
  | _ => false

/-- INSTANCE_IDLE posted to the manager once a reset instance holds no sluice entry (R440). -/
def State.idleCheck (s : State) (f : Nat) : State :=
  if (s.fn f).idleDue && s.sluicesOf f = 0 then
    (s.setFn f { s.fn f with idleDue := false }).post 0 Event.instanceIdle (f - 1)
  else s

/-- A sluice entry freed (R273). -/
def State.freeSluice (s : State) (k : Nat) : State :=
  match s.work.sluices.at? k with
  | none => s
  | some e =>
    ({ s with work := { s.work with sluices := s.work.sluices.erase k } }).idleCheck e.fn

/-- The commit of a published coordinator's or single-device sluice completes (R271 step 6, R281). -/
def State.tryFinish (s : State) (k : Nat) : State :=
  match s.work.sluices.at? k with
  | none => s
  | some e =>
    if e.state = .committed && e.published
        && (e.mere = 0 || e.participant || (e.parts.filter (· ≠ s.fab.devId)).all e.acks.contains) then
      (s.endOp e.commitOp Status.success 0).freeSluice k
    else s

/-- SLUICE_PUBLISHED (R271 steps 5 and 6, R281): the sluice's lines are visible, its recorded actions done. Granules the
host owns are recalled first (R224). -/
def execSluicePublished (f id : Nat) (s : State) : Out :=
  let k := s.sluiceNamed f id (fun e => e.state = .committed && !e.published)
  match s.work.sluices.at? k with
  | none => .next s
  | some e =>
    if e.granulesOf.any (fun g => s.hostOwns g 64) then .next s
    else
    let s1 := (e.recorded.filter Recorded.isSwap).foldl State.perform s
    let s2 := s1.publish k e
    let s3 := (e.recorded.filter (fun r => !r.isSwap)).foldl State.perform s2
    let s4 := s3.modSluice k (fun e => { e with staged := [], spilled := [], recorded := [], published := true })
    let s5 := if e.mere ≠ 0 && e.participant then
        s4.send { kind := .sluiceAck, dst := e.coord, mere := e.mere, id := e.id, args := [s.fab.devId], data := [] }
      else s4
    .next (s5.tryFinish k)

/-- SLUICE_ABORT_DONE (R275): every operation of an aborting sluice has completed; its entry is freed. -/
def execSluiceAbortDone (f id : Nat) (s : State) : Out :=
  let k := s.sluiceNamed f id (fun e => e.state = .aborting)
  match s.work.sluices.at? k with
  | none => .next s
  | some e =>
    if s.work.ops.any (fun p => p.2.sluice = k || p.1 = e.commitOp || e.abortOps.contains p.1) then .next s
    else .next (s.freeSluice k)

/-- The entry of a cross-device sluice on this device. -/
def State.sluiceOfMere (s : State) (mere id : Nat) (participant : Bool) : Nat :=
  match s.work.sluices.find? (fun p => p.2.mere = mere && p.2.id = id && p.2.participant = participant) with
  | some p => p.1
  | none => 0

/-- SLUICE_VOTE (R278, R280): a participant's vote reaches the coordinator; before its own open it waits. -/
def execSluiceVote (mere id dev : Nat) (commit : Bool) (reason origin : Nat) (s : State) : Out :=
  let k := s.sluiceOfMere mere id false
  if mere = 0 then .next s
  else if k = 0 then .next (s.holdNote mere id (.vote dev commit reason origin))
  else .next (s.takeVote k dev commit reason origin)

/-- SLUICE_DECISION (R278, R281): the coordinator's decision reaches a participant; before its own open it waits. -/
def execSluiceDecision (mere id : Nat) (commit : Bool) (reason origin : Nat) (s : State) : Out :=
  let k := s.sluiceOfMere mere id true
  if mere = 0 then .next s
  else if k = 0 then .next (s.holdNote mere id (.decision commit reason origin))
  else .next (s.takeDecision k commit reason origin)

/-- SLUICE_ACK (R281): a participant's acknowledgement reaches the coordinator. -/
def execSluiceAck (mere id dev : Nat) (s : State) : Out :=
  let k := s.sluiceOfMere mere id false
  match s.work.sluices.at? k with
  | none => .next s
  | some e =>
    if mere = 0 || e.state ≠ .committed then .next s
    else .next ((s.modSluice k (fun e => { e with acks := if e.acks.contains dev then e.acks else dev :: e.acks
                                           })).tryFinish k)

/-- Whether a vote of a device for a sluice waits for this device's open (R278). -/
def State.voteHeld (s : State) (mere id dev : Nat) : Bool :=
  s.work.sluiceHeld.any (fun h => h.mere = mere && h.id = id && (match h.note with
    | .vote d .. => d = dev
    | _ => false))

/-- SLUICE_ABORT_FORWARD (R278, R282): a forwarded abort reaches the coordinator, which answers. A participant forwards an
abort after its vote: with no entry here and that vote waiting for the open, the abort waits too; with neither, the
sluice has ended, and the answer is ALREADY_COMMITTED. Log: 119 (DEDUCED). -/
def execSluiceAbortForward (mere id dev : Nat) (s : State) : Out :=
  let k := s.sluiceOfMere mere id false
  if k ≠ 0 then .next (s.takeAbort k mere id dev)
  else if s.voteHeld mere id dev then .next (s.holdNote mere id (.abort dev))
  else .next (s.answerAbort mere id dev 1)

/-- SLUICE_ABORT_ANSWER (R282): the coordinator's answer completes the participant's SLUICE_ABORT, whose sluice may have
published and left its entry meanwhile. -/
def execSluiceAbortAnswer (mere id : Nat) (committed : Bool) (s : State) : Out :=
  let ids := s.liveOps (fun o => o.opcode = 0x53 && o.phase = .running && o.count = mere && fld o.desc 8 0 48 = id)
  let s1 := s.endOps ids (if committed then Status.alreadyCommitted else Status.success) 0
  .next (s1.modSluice (s.sluiceOfMere mere id true) (fun e => { e with
    abortOps := if committed then e.abortOps.filter (fun i => !ids.contains i) else e.abortOps }))

/-- SLUICE_COMMIT_TIMEOUT (R280): the votes are incomplete at the coordinator's timeout. -/
def execSluiceCommitTimeout (f id : Nat) (s : State) : Out :=
  let k := s.sluiceNamed f id (fun e => e.mere ≠ 0 && !e.participant && e.deadline ≠ 0)
  match s.work.sluices.at? k with
  | none => .next s
  | some _ => .next (s.abortSluice k Reason.timeout 0xFFFF)

/-- COMMIT_UNCONFIRMED (R281): acknowledgements still miss a further timeout after the commit point. -/
def execCommitUnconfirmed (f id : Nat) (s : State) : Out :=
  let k := s.sluiceNamed f id (fun e => e.mere ≠ 0 && !e.participant && e.state = .committed && e.published)
  match s.work.sluices.at? k with
  | none => .next s
  | some e =>
    let missing := (e.parts.filter (fun d => d ≠ s.fab.devId && !e.acks.contains d)).length
    .next ((s.endOp e.commitOp Status.commitUnconfirmed missing).freeSluice k)

/-- STAGE_WAYS_APPLY (R203): with no sluice open, dirty lines of the new staging ways are written back and the
pending value takes effect on a die. -/
def execStageWaysApply (die : Nat) (s : State) : Out :=
  let w := s.mem.stageWritten.get 4 die
  if !s.work.sluices.isEmpty || w = s.mem.stageWays.get 4 die || 4 ≤ die then .next s
  else .next { s with mem := { s.mem with
    loft := s.mem.loft.filter (fun l => !(l.die = die && l.way < w)), stageWays := s.mem.stageWays.set die w } }

/-- SPILL_REGION_APPLY (R266): with no sluice open, a die's pending staging region takes effect. -/
def execSpillRegionApply (die : Nat) (s : State) : Out :=
  if !s.work.sluices.isEmpty || 4 ≤ die then .next s
  else .next { s with mem := { s.mem with
    spill := s.mem.spill.set die (s.mem.spillWritten.get (0, 0) die) } }

/-- The coordinator of a sluice is unreachable (R284): a participant without a decision discards what it staged, and its
commit or forwarded abort completes with SLUICE_IN_DOUBT; its operations end as in an abort, with reason FAULT, which
R284 does not name. Log: 120 (DEDUCED). -/
def State.coordinatorLost (s : State) (dev : Nat) : State :=
  (s.work.sluices.filter (fun p => p.2.mere ≠ 0 && p.2.participant && p.2.coord = dev && p.2.state ≠ .committed
      && p.2.state ≠ .aborting)).foldl (fun s p =>
    let s1 := (s.endOp p.2.commitOp Status.sluiceInDoubt dev).endOps p.2.abortOps Status.sluiceInDoubt dev
    if p.2.state = .prepared then s1.freeSluice p.1 else s1.abortSluiceWith false p.1 Reason.fault dev) s

end Sys2Proof.Machine
end

