-- ==== Sys2Proof/Machine/Fence.lean ====
section
/-! DEFINITION. Poison and its events (R639, R642, R647), autotomy: fencing a unit with its dependents, what it does to
work, ponds and sluices (R307 to R311, R276, R277), the choices of regrow (R309), and fencing by count (R643). -/

namespace Sys2Proof.Machine

/-- What fencing mesh stop `u` takes with it (R307 class 2, R20, R26). -/
def stopUnits (u : Nat) : List Nat :=
  let d := u / 144
  let k := u % 144
  let c := getAt 99 stops k
  unitCode 2 u ::
    ((tileAtStop d k).toList.map (unitCode 1) ++ (sliceAtStop d k).toList.map (unitCode 5)
      ++ (if 16 ≤ c ∧ c < 20 then [unitCode 6 (4 * d + (c - 16)), unitCode 7 (4 * d + (c - 16))] else [])
      ++ (if 32 ≤ c ∧ c < 38 then
            (List.range 16).map (fun i => unitCode 4 (96 * d + 32 * ((c - 32) / 2) + 16 * ((c - 32) % 2) + i))
          else [])
      ++ (if 48 ≤ c ∧ c < 52 then [unitCode 3 (seamOfPort d (c - 48))] else []))

/-- A unit and every unit fenced with it (R307). -/
def unitClosure (cls unit : Nat) : List Nat :=
  if cls = 2 then stopUnits unit
  else if cls = 9 then unitCode 9 unit :: (List.range 4).map (fun i => unitCode 8 (4 * unit + i))
  else if cls = 10 then
    unitCode 10 unit :: (((List.range 144).map (fun k => stopUnits (144 * unit + k))).flatten).eraseDups
  else [unitCode cls unit]

/-- One granule poisoned (R639, R642): an ERR_POISON for it unless it was poisoned already; at most 1,024 events in a
second (R647). `off` is its local offset. -/
def State.poisonGranule (s : State) (off cause cls unit : Nat) : State :=
  match s.hbmKey off with
  | none => s
  | some k =>
    if s.mem.poison.contains (k / 64) then s
    else
      let b := s.ras.buckets.get { level := 0, warned := false, corrected := 0, uncorrectable := 0, poisoned := 0 }
        (unitCode cls unit)
      let sec := s.ns / 1000000000
      let posted := if s.ras.poisonSecond = sec then s.ras.poisonPosted else 0
      let s1 := { s with
        mem := { s.mem with poison := k / 64 :: s.mem.poison }
        ras := { s.ras with
          poisons := s.ras.poisons + 1
          buckets := s.ras.buckets.set (unitCode cls unit) { b with poisoned := b.poisoned + 1 }
          poisonSecond := sec } }
      if 1024 ≤ posted then
        { s1 with ras := { s1.ras with poisonPosted := posted, poisonUnposted := s1.ras.poisonUnposted + 1 } }
      else
        ({ s1 with ras := { s1.ras with poisonPosted := posted + 1, poisonUnposted := 0 } }).post 0 Event.errPoison
          (cause + cls * 16 + unit * 256 + (off / 64 * 64) * 2 ^ 64 + (s.ras.poisonUnposted % 2 ^ 32) * 2 ^ 128)

/-- Both granules of a line poisoned. -/
def State.poisonLine (s : State) (line cause cls unit : Nat) : State :=
  (s.poisonGranule (line * 128) cause cls unit).poisonGranule (line * 128 + 64) cause cls unit

/-- The tiles an operation runs on or whose SRAM it moves (R113, R190, R217), by its pond's map. -/
def State.opTiles (s : State) (o : Op) : List Nat :=
  match s.mem.ponds.at? o.pond with
  | none => []
  | some p =>
    let rank (vane : Bool) (r : Nat) : List Nat := ((p.tileOf vane r).join).toList
    let ranks (vane : Bool) (a n : Nat) : List Nat := ((List.range n).map (fun i => rank vane (a + i))).flatten
    let op := o.opcode
    if op = 0x10 then
      (if fld o.desc 0x40 0 2 = 0 then [] else rank (fld o.desc 0x40 0 2 = 2) (fld o.desc 0x42 0 9))
        ++ (if fld o.desc 0x40 2 2 = 0 then [] else rank (fld o.desc 0x40 2 2 = 2) (fld o.desc 0x44 0 9))
    else if 0x20 ≤ op ∧ op ≤ 0x23 then ranks false (millRanks o.desc).1 (millRanks o.desc).2
    else if op = 0x30 ∨ op = 0x31 then ranks true (fld o.desc 0x20 0 8) (fld o.desc 0x20 16 8)
    else if op = 0x41 ∧ o.phase = .running then
      (s.eng.groups.map (fun g => if g.2.fn = o.fn && g.2.gid = fld o.desc 0x20 0 64 then
        ((g.2.run.map (·.stops)).getD []).map (·.2) else [])).flatten
    else []

/-- Whether the device re-runs an operation whose unit was fenced (R276): a mill op or copy between memories. -/
def Op.mayRerun (o : Op) : Bool :=
  o.sluice ≠ 0 && !o.rerun && o.phase = .running
    && (match o.opcode with
        | 0x10 => fld o.desc 0x40 0 4 = 0
        | 0x20 | 0x21 => fld o.desc 0xD0 22 1 = 0 && fld o.desc 0xD4 22 1 = 0 && fld o.desc 0xDC 0 1 = 0
        | 0x22 => true
        | 0x23 => fld o.desc 0x28 22 1 = 0
        | _ => false)

/-- Devices to which operation `op` sent writes of sluice `id` that they stage (R265). -/
def State.stagedAt (s : State) (id op : Nat) : List Nat :=
  ((s.work.sent.filter (fun m => (m.kind = .write || m.kind = .atomicMax || m.kind = .pushWrite) && m.id = id && id ≠ 0
    && getAt 0 m.args 1 = op)).map (·.dst)).eraseDups

/-- What an operation has staged, here and on other participants, discarded (R76, R276 step 1). Log: 121 (DESIGN CHOICE). -/
def State.unstage (s : State) (slu op : Nat) : State :=
  match s.work.sluices.at? slu with
  | none => s
  | some e =>
    let s1 := s.modSluice slu (fun e => e.keep (fun a => !(a.op = op && a.dev = 0xFFFF)))
    (s.stagedAt e.id op).foldl (fun s d =>
      s.send { kind := .unstage, dst := d, mere := e.mere, id := e.id, args := [op], data := [] }) s1

/-- The detail of TILE_FAULT: the tile's number (R151), or in a Vane run the instruction and rank on that tile (R195). -/
def State.faultDetail (s : State) (id tile : Nat) : Nat :=
  match s.eng.runs.at? id with
  | none => tile
  | some r =>
    match (r.ranks.zip (List.range r.ranks.length)).find? (fun x => x.1.tile = tile) with
    | some x => x.1.pc + x.2 * 65536
    | none => r.tiles.idxOf tile * 65536

/-- An operation struck by the fence of a unit it uses (R276, R308): not started, it ends with RESOURCE_LOST; started, it
waits for its re-run where R276 allows one, and otherwise ends with the fault. Its sluice is left to `strikeAll`. -/
def State.strike (s : State) (id status detail : Nat) : State :=
  match s.op? id with
  | none => s
  | some o =>
    if o.phase = .queued then s.endOp id Status.resourceLost 0
    else if o.phase ≠ .running then s
    else if o.mayRerun then
      ((s.unstage o.sluice id).dropRun id).modOp id (fun o => { o with rerun := true, awaitsRegrow := true, done := [] })
    else s.endOp id status detail

/-- Every operation that one fence strikes ends, each by its own ending, and only then do their sluices abort with reason
FAULT (R153, R197, R277). Each entry is (operation, status, detail). -/
def State.strikeAll (s : State) (l : List (Nat × Nat × Nat)) : State :=
  let s1 := l.foldl (fun s x => s.strike x.1 x.2.1 x.2.2) s
  l.foldl (fun s x => match s.op? x.1 with
    | some o => if o.phase = .ended && o.sluice ≠ 0 then s.abortSluice o.sluice Reason.fault 0xFFFF else s
    | none => s) s1

/-- The die a local member lies on (R238), where it can be told. -/
def State.memberDie (s : State) (a : Agent) (pond : Nat) (m : RedMember) : Option Nat :=
  if m.loc = 0 then
    match s.translate a m.src with
    | .ok (.local_ off) _ => (s.plotOf off).map (·.die)
    | _ => none
  else match s.mem.ponds.at? pond with
    | some p => ((p.tileOf (m.loc = 2) m.rank).join).map dieOfTile
    | none => none

/-- An address of a member with the run's addr_delta (R243). -/
def RedMember.addr (m : RedMember) (o : Op) (x : Nat) : Nat :=
  if m.loc = 0 then unsignedOf 64 ((x : Int) + signedOf 64 (fld o.desc 0x30 0 64)) else x

/-- Local members of a group, by index. -/
def State.localMembers (s : State) (g : RedGroup) : List (Nat × RedMember) :=
  ((List.range g.members.length).zip g.members).filter (fun x => s.isLocalMember x.2)

/-- A group's member with a run's addresses. -/
def RedMember.shifted (m : RedMember) (o : Op) : RedMember := { m with src := m.addr o m.src }

/-- Dies a run uses on this device: its slot's and those its local members lie on (R238, R244). -/
def State.runDies (s : State) (g : RedGroup) (r : RedRun) : List Nat :=
  match s.op? r.op with
  | none => [g.die]
  | some o => g.die :: (s.localMembers g).filterMap (fun x => match r.stops.find? (fun y => y.1 = x.1) with
      | some y => some (dieOfTile y.2)
      | none => s.memberDie (s.newt o.fn o.ctx 0) g.pond (x.2.shifted o))

/-- Whether a run uses seam `n` (R249): it lies between neighbouring dies of a path between its slot's die and a member's.
Log: 46 (DEDUCED). -/
def State.runSeam (s : State) (g : RedGroup) (r : RedRun) (n : Nat) : Bool :=
  (s.runDies g r).any (fun d => [s.diePath d g.die, s.diePath g.die d].any (fun p =>
    (p.zip (p.drop 1)).any (fun x => (pairSeams x.1 x.2).contains n)))

/-- Whether a run uses stop `n` (R244, R249): a member's tile lies there, or the stop has a loft slice of a die that holds a
member's memory, at whose home stops its lines are injected. Log: 46 (DEDUCED). -/
def State.runStop (s : State) (g : RedGroup) (r : RedRun) (n : Nat) : Bool :=
  r.stops.any (fun x => tileAtStop (n / 144) (n % 144) = some x.2)
    || ((sliceAtStop (n / 144) (n % 144)).isSome && (match s.op? r.op with
        | none => false
        | some o => (s.localMembers g).any (fun x => x.2.loc = 0
            && s.memberDie (s.newt o.fn o.ctx 0) g.pond (x.2.shifted o) = some (n / 144))))

/-- Dies that hold plots of a pond. -/
def Pond.plotDies (p : Pond) : List Nat := (p.binding.plots.map (fun q => q.2.die)).eraseDups

/-- Pairs of stops between which packets of an operation travel: between its tiles, or its engine's stop, and one another,
the home slices of its pond's plots, and the bridge ports of its pond's sub-links and of the host; and between memory
ports and those slices. Log: 122 (DEDUCED). -/
def State.opPairs (s : State) (o : Op) : List (Nat × Nat) :=
  match s.mem.ponds.at? o.pond with
  | none => []
  | some p =>
    let near := (s.opTiles o).map tileStop
      ++ (if o.opcode = 0x10 then [stopOf (o.engine / 4) (16 + o.engine % 4)] else [])
    let slices (d : Nat) : List Nat := ((List.range 144).filter (fun k => (sliceAtStop d k).isSome)).map (144 * d + ·)
    let bridges (d : Nat) : List Nat := [stopOf d 64, stopOf d 65]
    let far := near ++ (p.plotDies.map slices).flatten ++ bridges 0
      ++ (((maskBits 64 p.binding.subl).map (· / 16)).eraseDups.map bridges).flatten
    let ports := (p.plotDies.map (fun d => ((List.range 6).map (fun i =>
      (slices d).map (fun b => (stopOf d (32 + i), b)))).flatten)).flatten
    let ways := (near.map (fun a => (far.map (fun b => [(a, b), (b, a)])).flatten)).flatten
    ways ++ ports ++ ports.map (fun x => (x.2, x.1))

/-- Whether packets of an operation may pass unit `u`, a stop or a seam. -/
def State.opPasses (s : State) (o : Op) (u : Nat) : Bool := (s.opPairs o).any (fun x => s.mayPass x.1 x.2 u)

/-- Whether an operation moves data over the mesh by itself: mill ops, Vane operations and copies (R233). -/
def Op.onMesh (o : Op) : Bool :=
  let op := o.opcode
  op = 0x10 || (0x20 ≤ op && op ≤ 0x23) || op = 0x30 || op = 0x31

/-- Operations of a list that had a packet in a failed router or on a failed seam at that moment, which the spec leaves to
the moment: a free value for each (R233, R235). Log: 122 (DEDUCED). -/
def State.caught (s : State) (ids : List Nat) : List Nat × State :=
  ids.foldl (fun x i =>
    let (c, t) := x.2.takeFree
    (if Config.freeNat c % 2 = 1 then x.1 ++ [i] else x.1, t)) ([], s)

/-- The bytes a staged action writes outside a set of lines, as actions of their own. -/
def Staged.outside (a : Staged) (gone : List Nat) : List Staged :=
  if !(linesOf a.off a.bytes.length).any gone.contains then [a]
  else (linesOf a.off a.bytes.length).filterMap (fun l =>
    if gone.contains l then none
    else
      let lo := max a.off (l * 128)
      some { a with off := lo, bytes := (a.bytes.drop (lo - a.off)).take (l * 128 + 128 - lo) })

/-- Each sluice that loses staged lines, by its number and a line (R277): it aborts before its commit point; after it the
lines lost are published as poison. Log: 99 (DEDUCED). -/
def State.loseStaged (s : State) (lost : Nat → Nat → Bool) (cls unit : Nat) : State :=
  (s.work.sluices.filter (fun p => p.2.lines.any (lost p.1))).foldl (fun s p =>
    if p.2.state = .committed then
      let gone := p.2.lines.filter (lost p.1)
      let s1 := s.modSluice p.1 (fun e => { e with staged := (e.staged.map (·.outside gone)).flatten })
      gone.foldl (fun s l => s.poisonLine l 6 cls unit) s1
    else s.abortSluice p.1 Reason.fault 0xFFFF) s

/-- Spilled lines that lay on a channel, as (sluice, line) (R266, R277): where in the staging region of its die a line lies
the spec leaves open, so its place is a free value. Log: 99 (DEDUCED). -/
def State.spilledOnChan (s : State) (c : Nat) : List (Nat × Nat) × State :=
  let l := (s.work.sluices.map (fun p => p.2.spilled.map (fun n => (p.1, n)))).flatten
  l.foldl (fun x y =>
    let region := ((x.2.plotOf (y.2 * 128)).bind (fun p => x.2.mem.spill.at? p.die)).getD (0, 0)
    let (k, t) := x.2.takeFree
    let off := region.1 * 0x20000000 + Config.freeNat k % max 1 (region.2 * 0x400000) * 128
    (if region.2 ≠ 0 && (t.hbmKey off).any (fun key => key / 0x80000000 = c) then x.1 ++ [y] else x.1, t)) ([], s)

/-- The dies of a search that starts on die `d`: its own, across the east-west seam, across the north-south seam, the
diagonal (R309). -/
def dieSearch (d : Nat) : List Nat := [d, d ^^^ 1, d ^^^ 2, d ^^^ 3]

/-- Tiles reserved for regrow in any pond (R309). -/
def State.reservedTiles (s : State) : List Nat :=
  ((s.mem.ponds.map (fun p => p.2.reserved.filterMap (fun r => match r with
    | .tile _ _ t _ => t
    | _ => none))).flatten)

/-- Sub-links reserved for regrow in any pond (R309). -/
def State.reservedSubl (s : State) : List Nat :=
  ((s.mem.ponds.map (fun p => p.2.reserved.filterMap (fun r => match r with
    | .sublink _ t => t
    | _ => none))).flatten)

/-- Flume engines reserved for regrow in any pond (R309). Log: 111 (DEDUCED). -/
def State.reservedEngines (s : State) : List Nat :=
  ((s.mem.ponds.map (fun p => p.2.reserved.filterMap (fun r => match r with
    | .engine _ t => t
    | _ => none))).flatten)

/-- Tiles bound to ponds. -/
def State.boundTiles (s : State) : List Nat := ((s.mem.ponds.map (fun p => p.2.tiles)).flatten)

/-- Sub-links bound to ponds, as a mask. -/
def State.boundSubl (s : State) : Nat := s.mem.ponds.foldl (fun m p => m ||| p.2.binding.subl) 0

/-- Whether tile `t` is free for a hole: unfenced, bound to no pond, reserved for none (R309). -/
def State.tileFree (s : State) (t : Nat) : Bool :=
  !s.fenced 1 t && !s.boundTiles.contains t && !s.reservedTiles.contains t

/-- The tile that replaces lost tile `t` (R309 REPLACE). -/
def State.replaceTile (s : State) (t : Nat) : Option Nat :=
  let v := isVaneTile t
  ((dieSearch (dieOfTile t)).map (fun d =>
    (if v then (List.range 32).map (384 + 32 * d + ·) else (List.range 96).map (96 * d + ·)))).flatten.find?
    (fun u => s.tileFree u)

/-- The sub-link that replaces lost sub-link `l` (R309): of its port, then of its X-die, then the lowest free. -/
def State.replaceSubl (s : State) (l : Nat) : Option Nat :=
  let free := (List.range 64).filter (fun i =>
    !s.fenced 8 i && !bitOf s.boundSubl i && !s.reservedSubl.contains i)
  match free.find? (fun i => i / 4 = l / 4), free.find? (fun i => i / 16 = l / 16), free.head? with
  | some i, _, _ => some i
  | none, some i, _ => some i
  | none, none, x => x

/-- Bytes of a range of elements in memory: integers or values, and tags (R71). -/
def redBytes (fmt n : Nat) : Nat × Nat := if fmt = 0x10 then (16 * n, (n + 3) / 4) else (4 * n, 0)

/-- Whether an operation takes a place in an engine's queue: a copy, or a run of a group in Flume mode (R216, R248). -/
def Op.onFlume (o : Op) : Bool := o.opcode = 0x10 || (o.opcode = 0x41 && o.count = 1)

/-- The bytes an operation in a Flume engine's queue moves: a copy's, or the local contributions of a run in Flume mode
(R219, R248). -/
def State.flumeBytes (s : State) (o : Op) : Nat :=
  if o.opcode = 0x10 then fld o.desc 0x20 0 32 * fld o.desc 0x24 0 32
  else match s.eng.groups.find? (fun p => p.2.fn = o.fn && p.2.gid = fld o.desc 0x20 0 64) with
    | some p => (s.localMembers p.2).length * ((redBytes p.2.fmt p.2.elements).1 + (redBytes p.2.fmt p.2.elements).2)
    | none => 0

/-- Bytes queued on a Flume engine (R219, R309): of the operations placed on it that have not ended. -/
def State.queuedBytes (s : State) (e : Nat) : Nat :=
  ((s.work.ops.filter (fun p => p.2.onFlume && p.2.engine = e
    && (p.2.phase = .queued || p.2.phase = .running))).map (fun p => s.flumeBytes p.2)).sum

/-- The engine that replaces lost engine `e` in a pond's share (R309). Log: 111 (DEDUCED). -/
def State.replaceEngine (s : State) (p : Pond) (e : Nat) : Option Nat :=
  ((dieSearch (e / 4)).map (fun d =>
    (minBy? s.queuedBytes (((List.range 4).map (4 * d + ·)).filter (fun i =>
      !s.fenced 7 i && !bitOf p.binding.flume i && !s.reservedEngines.contains i))).toList)).flatten.head?

/-- A pond's choice for the lost tile `t` of a rank, made at the fence (R309), if its mode makes one. -/
def State.chooseTile (s : State) (p : Pond) (vane : Bool) (rank t : Nat) : Option RegrowKind :=
  match p.binding.regrow with
  | 1 => (s.replaceTile t).map (fun u => .tile vane rank (some u) t)
  | 2 => some (.shrink vane rank)
  | 3 => match s.replaceTile t with
    | some u => some (.tile vane rank (some u) t)
    | none => some (.shrink vane rank)
  | _ => none

/-- A pond's choice for a lost sub-link (R309). -/
def State.chooseSubl (s : State) (p : Pond) (l : Nat) : Option RegrowKind :=
  match p.binding.regrow with
  | 1 | 3 => some (.sublink l (s.replaceSubl l))
  | 2 => some (.sublink l none)
  | _ => none

/-- A pond's choice for a lost Flume engine (R309): under SHRINK the last engine of the share is replaced all the same. -/
def State.chooseEngine (s : State) (p : Pond) (e : Nat) : Option RegrowKind :=
  match p.binding.regrow with
  | 1 | 3 => some (.engine e (s.replaceEngine p e))
  | 2 => if setBits p.binding.flume e 1 0 = 0 then some (.engine e (s.replaceEngine p e)) else some (.engine e none)
  | _ => none

/-- What a choice comes to in RESOURCE_LOST (R366): 1 = replaced, 2 = shrunk or dropped, 0 = awaits POND_REBIND. -/
def fateOf : Option RegrowKind → Nat
  | none => 0
  | some (.tile _ _ none _) => 0
  | some (.tile _ _ (some _) _) => 1
  | some (.sublink _ none) => 2
  | some (.sublink _ (some _)) => 1
  | some (.engine _ none) => 2
  | some (.engine _ (some _)) => 1
  | some (.shrink _ _) => 2

/-- The action field of RESOURCE_LOST (R366) over the fates of the units a pond lost. -/
def actionOf (fates : List Nat) (planned : Bool) : Nat :=
  if planned then 3
  else if fates.isEmpty then 4
  else if fates.all (· = 1) then 1
  else if fates.any (· = 1) then 5
  else if fates.any (· = 2) then 2
  else 0

/-- Ranks of a map that hold one of a list of tiles: (rank, tile). -/
def ranksOn (l : List (Option Nat)) (lost : List Nat) : List (Nat × Nat) :=
  (l.zip (List.range l.length)).filterMap (fun x => match x.1 with
    | some t => if lost.contains t then some (x.2, t) else none
    | none => none)

/-- A RESOURCE_LOST entry's payload (R366). -/
def lostPayload (cls action unit pond : Nat) (holes : List (Nat × Bool × Nat)) (more : Bool) : Nat :=
  cls + action * 16 + holes.length * 256 + b2n more * 65536 + (unit + pond * 65536) * 2 ^ 32
    + ((holes.zip (List.range holes.length)).map (fun h =>
        (h.1.1 + b2n h.1.2.1 * 512 + h.1.2.2 * 1024) * 2 ^ (64 + 32 * h.2))).sum

/-- Lists of at most 8 holes each. -/
def chunk8 : Nat → List (Nat × Bool × Nat) → List (List (Nat × Bool × Nat))
  | 0, _ => []
  | n + 1, l => if l.length ≤ 8 then [l] else l.take 8 :: chunk8 n (l.drop 8)

/-- RESOURCE_LOST posted to a function, in as many entries as its holes need (R366). -/
def State.postLost (s : State) (f cls action unit pond : Nat) (holes : List (Nat × Bool × Nat)) : State :=
  let cs := chunk8 (holes.length + 1) holes
  (cs.zip (List.range cs.length)).foldl (fun s c =>
    s.post f Event.resourceLost (lostPayload cls action unit pond c.1 (c.2 + 1 < cs.length))) s

/-- Whether a reserved choice names a unit of `us`. -/
def RegrowKind.names (us : List Nat) : RegrowKind → Bool
  | .tile _ _ (some t) _ => us.contains (unitCode 1 t)
  | .sublink _ (some l) => us.contains (unitCode 8 l)
  | .engine _ (some e) => us.contains (unitCode 7 e)
  | _ => false

/-- A choice reserved for a pond (R309). -/
def State.reserve (s : State) (h : Nat) (c : Option RegrowKind) : State :=
  s.modPond h (fun p => { p with reserved := p.reserved ++ c.toList })

/-- What a pond's choices at a fence come to so far: the state, and the holes and other units with their fates. -/
structure Chosen where
  s : State
  holes : List (Nat × Bool × Nat)
  others : List Nat

/-- A lost tile's choice made and reserved (R309). -/
def Chosen.tile (x : Chosen) (h : Nat) (vane : Bool) (rank t : Nat) : Chosen :=
  match x.s.mem.ponds.at? h with
  | none => x
  | some p =>
    let c := x.s.chooseTile p vane rank t
    { x with s := x.s.reserve h c, holes := x.holes ++ [(rank, vane, fateOf c)] }

/-- A lost sub-link's choice made and reserved (R309); the pond holds it no more. -/
def Chosen.subl (x : Chosen) (h l : Nat) : Chosen :=
  match x.s.mem.ponds.at? h with
  | none => x
  | some p =>
    let c := x.s.chooseSubl p l
    { x with
      s := (x.s.reserve h c).modPond h (fun p => { p with binding := { p.binding with subl := setBits p.binding.subl l 1 0 } })
      others := x.others ++ [fateOf c] }

/-- A lost engine's choice made and reserved (R309); the pond's share holds it no more. -/
def Chosen.engine (x : Chosen) (h e : Nat) : Chosen :=
  match x.s.mem.ponds.at? h with
  | none => x
  | some p =>
    let c := x.s.chooseEngine p e
    { x with
      s := (x.s.reserve h c).modPond h (fun p =>
        { p with binding := { p.binding with flume := setBits p.binding.flume e 1 0 } })
      others := x.others ++ [fateOf c] }

/-- A choice whose reserved unit is fenced, made again for the unit that was lost (R309). -/
def Chosen.again (x : Chosen) (h : Nat) : RegrowKind → Chosen
  | .tile v k _ t => x.tile h v k t
  | .sublink l _ => x.subl h l
  | .engine e _ => x.engine h e
  | .shrink .. => x

/-- Numbers of the units of a class among unit codes. -/
def unitsOf (cls : Nat) (us : List Nat) : List Nat := (us.filter (fun u => u / 65536 = cls)).map (· % 65536)

/-- A pond after units of `us` were fenced: its ranks become holes, its choices are made and reserved, and, unless the
fence was planned (R312), its instance and the manager are told (R308, R309). -/
def State.pondLoses (s : State) (h cls unit : Nat) (us : List Nat) (planned : Bool) : State :=
  match s.mem.ponds.at? h with
  | none => s
  | some p =>
    let tiles := unitsOf 1 us
    let chans := unitsOf 4 us
    let again := p.reserved.filter (RegrowKind.names us)
    let lostPlot := p.binding.plots.any (fun q => q.2.chans.any chans.contains) || p.binding.chans.any chans.contains
    let s0 := s.modPond h (fun p => { p with
      reserved := p.reserved.filter (fun r => !again.contains r)
      binding := { p.binding with
        tilesM := p.binding.tilesM.map (fun t => if t.any tiles.contains then none else t)
        tilesV := p.binding.tilesV.map (fun t => if t.any tiles.contains then none else t)
        chans := p.binding.chans.filter (fun c => !chans.contains c) } })
    let x0 := again.foldl (fun (x : Chosen) r => x.again h r) { s := s0, holes := [], others := [] }
    let x1 := (ranksOn p.binding.tilesM tiles).foldl (fun (x : Chosen) k => x.tile h false k.1 k.2) x0
    let x2 := (ranksOn p.binding.tilesV tiles).foldl (fun (x : Chosen) k => x.tile h true k.1 k.2) x1
    let x3 := ((unitsOf 8 us).filter (bitOf p.binding.subl)).foldl (fun (x : Chosen) l => x.subl h l) x2
    let x4 := ((unitsOf 7 us).filter (bitOf p.binding.flume)).foldl (fun (x : Chosen) e => x.engine h e) x3
    let fates := x4.holes.map (·.2.2) ++ x4.others ++ (if lostPlot then [0] else [])
    let a := actionOf fates planned
    if planned then x4.s
    else (x4.s.postLost (p.inst + 1) cls a unit h x4.holes).postLost 0 cls a unit h x4.holes

/-- Whether a pond loses anything by the fence of `us`. -/
def Pond.holds (p : Pond) (us : List Nat) : Bool :=
  us.any (fun u =>
    let c := u / 65536
    let n := u % 65536
    (c = 1 && p.tiles.contains n) || (c = 8 && bitOf p.binding.subl n) || (c = 7 && bitOf p.binding.flume n)
      || (c = 4 && (p.binding.chans.contains n || p.binding.plots.any (fun q => q.2.chans.contains n))))

/-- A fence recorded in flash, or FENCE_NOT_SAVED (R307, R644). -/
def State.saveFence (s : State) (u : Nat) : State :=
  let e := u / 65536 + 16 * (u % 65536)
  if s.ras.flashFences.contains e then s
  else if 4096 ≤ s.ras.flashFences.length then s.post 0 Event.fenceNotSaved e
  else { s with ras := { s.ras with flashFences := s.ras.flashFences ++ [e] } }

/-- A fatal device error (R615, R616): reported through AER; fetching, completions and events stop. The first stands. -/
def State.fatalError (s : State) (code : Nat) : State :=
  if s.ras.fatal then s else
  { s with
    ras := { s.ras with fatal := true, fatalCode := code, afterFatal := code }
    host := { s.host with aerFatal := s.host.aerFatal ++ [code] } }

/-- Runs of reduction groups that satisfy `q`: their operations (R249). -/
def State.redRuns (s : State) (q : RedGroup → RedRun → Bool) : List Nat :=
  s.eng.groups.filterMap (fun p => p.2.run.bind (fun r => if q p.2 r then some r.op else none))

/-- What the fence of one unit does to the data, the sub-links and the queues it held (R310, R311, R277, R28); `was` is the
state before the fence, by which lines were homed. Log: 46 (DEDUCED). -/
def State.unitGone (s was : State) (u : Nat) : State :=
  let c := u / 65536
  let n := u % 65536
  if c = 8 then
    { s with fab := { s.fab with subs := s.fab.subs.set n { (s.subLink n) with
        state := .fenced, gen := 0, txLanes := 0, rxLanes := 0, fec := false, step := 0, retryWait := false
        held := false, notice := 0 } } }
  else if c = 4 then
    let (far, s0) := s.spilledOnChan n
    let s1 := s0.loseStaged (fun k l => far.contains (k, l) || (s0.plotOf (l * 128)).any (fun p => p.chans.contains n)) 4 n
    { s1 with mem := { s1.mem with remap := s1.mem.remap.map (fun q =>
        if q.2.chans.contains n then (q.1, { q.2 with lost := true }) else q) } }
  else if c = 5 then
    let dirty := s.mem.loft.filter (fun l => l.dirty && 128 * l.die + l.slice = n)
    let s1 := s.loseStaged (fun k l => was.homeOf (l * 128) = n && (was.plotOf (l * 128)).isSome
      && !(s.work.sluices.at? k).any (fun e => e.spilled.contains l)) 5 n
    let s2 := dirty.foldl (fun s l => s.poisonLine l.line 5 5 n) s1
    { s2 with mem := { s2.mem with loft := s2.mem.loft.filter (fun l => 128 * l.die + l.slice ≠ n) } }
  else if c = 6 then
    let qs := (s.host.fns.map (fun f => (f.2.sqs.filter (fun q => q.2.cluster = n)).map (fun q => (f.1, q.1, q.2.ctx)))).flatten
    qs.foldl (fun s q => { s with host := { s.host with fns := s.host.fns.modify q.1 (fun f => { f with
      sqs := f.sqs.modify q.2.1 (fun x => { x with
        cluster := s.clusterFor (((s.host.ctxs.at? (q.1 * 16384 + q.2.2)).map (·.pond)).getD 0) }) }) } }) s
  else if c = 10 then
    (s.work.sluices.filter (fun p => p.2.home = n && p.2.state ≠ .committed)).foldl
      (fun s p => s.abortSluice p.1 Reason.fault 0xFFFF) s
  else s

/-- Operations that the fence of `us` strikes, each with its ending: those that use a tile (TILE_FAULT, by the lowest rank
there), a Flume engine, a stop or a seam (MESH_FAULT), and reduction runs over a sub-link (RESOURCE_LOST); and of them those
struck through the mesh alone (R108, R195, R233, R235, R249, R308). Log: 46 (DEDUCED), 122 (DEDUCED). -/
def State.struck (s : State) (us : List Nat) : List (Nat × Nat × Nat) × List Nat × State :=
  let tiles := unitsOf 1 us
  let byTile := (s.liveOps (fun o => (s.opTiles o).any tiles.contains)).filterMap (fun i => (s.op? i).bind (fun o =>
    ((s.opTiles o).find? tiles.contains).map (fun t => (i, Status.tileFault, s.faultDetail i t))))
  let reds := s.redRuns (fun g r => (unitsOf 2 us).any (s.runStop g r) || (unitsOf 3 us).any (s.runSeam g r))
  let routes := us.filter (fun u => u / 65536 = 2 || u / 65536 = 3)
  let (ops, s1) := s.caught (if routes.isEmpty then [] else
    s.liveOps (fun o => o.phase = .running && o.onMesh && routes.any (s.opPasses o)))
  let byEngine := s.liveOps (fun o =>
    o.onFlume && o.queuedAt ≠ 0 && (unitsOf 7 us).contains o.engine)
  let byLink := s.redRuns (fun g _ => g.mere ≠ 0
    && (s.mem.ponds.at? g.pond).any (fun p => (unitsOf 8 us).any (bitOf p.binding.subl)))
  let mesh := reds ++ ops
  (byTile ++ mesh.map (·, Status.meshFault, 0) ++ byEngine.map (·, Status.meshFault, 0)
    ++ byLink.map (·, Status.resourceLost, 0), mesh, s1)

/-- Dies between which a re-bind copies plots, and the tiles between which it migrates ranks: pairs of stops that its packets
travel between (R301, R303). Log: 122 (DEDUCED). -/
def State.rebindPairs (s : State) (p : Pond) (r : Rebind) : List (Nat × Nat) :=
  let moves (old new : List (Option Nat)) : List (Nat × Nat) :=
    (old.zip new).filterMap (fun x => match x.1, x.2 with
      | some a, some b => if a = b then none else some (tileStop a, tileStop b)
      | _, _ => none)
  let dies := ((r.moving.filterMap (fun n => s.mem.remap.at? n)).map (·.die)
    ++ ((r.binding.plots.filter (fun q => r.moving.contains q.1)).map (fun q => q.2.die))).eraseDups
  let slices := (dies.map (fun d => ((List.range 144).filter (fun k => (sliceAtStop d k).isSome)).map (144 * d + ·))).flatten
  moves p.binding.tilesM r.binding.tilesM ++ moves p.binding.tilesV r.binding.tilesV
    ++ ((maskBits 16 r.engines).map (fun e =>
      (slices.map (fun b => [(stopOf (e / 4) (16 + e % 4), b), (b, stopOf (e / 4) (16 + e % 4))])).flatten)).flatten

/-- A re-bind one of whose tiles, channels or copies uses a unit of `us`, fenced in its switch phase, ends with REBIND_FAULT
(R306). -/
def State.rebindFaults (s : State) (us : List Nat) : State :=
  let routes := us.filter (fun u => u / 65536 = 2 || u / 65536 = 3)
  (s.mem.ponds.filter (fun p => match p.2.rebind with
    | some r => r.switching && (p.2.holds us || (({ p.2 with binding := r.binding } : Pond).holds us)
        || us.any (fun u => u / 65536 = 7 && bitOf r.engines (u % 65536))
        || (!routes.isEmpty && (s.rebindPairs p.2 r).any (fun x => routes.any (s.mayPass x.1 x.2))))
    | none => false)).foldl (fun s p => match p.2.rebind with
      | some r => (s.decide r.op Status.rebindFault 0).modPond p.1 (fun q => { q with rebind := none })
      | none => s) s

/-- Operations that were to be re-run and whose pond has lost nothing it could regrow: nothing holds them (R276 step 2). -/
def State.releaseReruns (s : State) (ids : List Nat) : State :=
  ids.foldl (fun s i => match s.op? i with
    | some o => match s.mem.ponds.at? o.pond with
      | some p => if o.awaitsRegrow && p.reserved.isEmpty && (p.binding.tilesM ++ p.binding.tilesV).all (·.isSome)
          && p.binding.flume ≠ 0 then
          s.modOp i (fun o => { o with phase := .queued, awaitsRegrow := false })
        else s
      | none => s
    | none => s) s

/-- A set of units fenced at once (R307, R308): `cls` and `unit` name the one that failed or was named. What the units were
doing ends by its own faults before anything else follows from the fence (R153, R197). -/
def State.fenceUnits (s : State) (cls unit : Nat) (us : List Nat) (planned : Bool) : State :=
  let new := us.filter (fun u => !s.mem.fences.contains u)
  if new.isEmpty then s
  else
    let s1 := s.rebindFaults new
    let (hit, mesh, s2) := s1.struck new
    let s3 := { s2 with mem := { s2.mem with fences := s2.mem.fences ++ new } }
    let s4 := (new.foldl State.saveFence s3).strikeAll hit
    let s5 := (new.filter (· / 65536 ≠ 10) ++ new.filter (· / 65536 = 10)).foldl (fun s u => s.unitGone s1 u) s4
    let named := unitCode cls unit
    let s6 := { s5 with ras := { s5.ras with fencedAlone := if s5.ras.fencedAlone.contains named then s5.ras.fencedAlone
      else named :: s5.ras.fencedAlone } }
    let ponds := (s6.mem.ponds.filter (fun p => p.2.holds new || p.2.reserved.any (RegrowKind.names new))).map (·.1)
    let s7 := ponds.foldl (fun s h => s.pondLoses h cls unit new planned) s6
    let shaken := ((mesh.filterMap (fun i => (s1.op? i).map (·.pond))).eraseDups).filter (fun h => !ponds.contains h)
    let s8 := if planned then s7.postLost 0 cls 3 unit 0 []
      else if ponds.isEmpty && shaken.isEmpty then s7.postLost 0 cls 4 unit 0 []
      else shaken.foldl (fun s h => match s.mem.ponds.at? h with
        | some p => (s.postLost (p.inst + 1) cls 4 unit h []).postLost 0 cls 4 unit h []
        | none => s) s7
    s8.releaseReruns (hit.map (·.1))

/-- Dies all of whose seams are fenced (R236). -/
def State.cutOff (s : State) : List Nat :=
  (List.range 4).filter (fun d => !s.fenced 10 d && (seamsOf d).all (fun m => s.fenced 3 m))

/-- Fatal code HOST_PATH_LOST (R615). -/
def hostPathLost : Nat := 2

/-- A unit fenced with its dependents, and dies thereby cut off (R236); a fence of Z0 is a fatal device error (R615).
Firmware that waits for the fence is loaded (R631, R632). Log: 46 (DEDUCED). -/
def State.fence (s : State) (cls unit : Nat) (planned : Bool) : State :=
  let s1 := s.fenceUnits cls unit (unitClosure cls unit) planned
  let s2 := s1.cutOff.foldl (fun s d => s.fenceUnits 10 d (unitClosure 10 d) false) s1
  if s2.fenced 10 0 && !s.fenced 10 0 then s2.fatalError hostPathLost else s2.loadPending

/-- Threshold and leak of a class (R643): as written, else the defaults. -/
def State.threshold (s : State) (cls : Nat) : Nat × Nat :=
  s.ras.thresholds.get (match cls with
    | 1 => (64, 10) | 2 => (32, 10) | 3 => (200, 1) | 4 => (128, 1) | 5 => (64, 10) | 6 => (16, 60) | 7 => (16, 60)
    | _ => (0, 1)) cls

/-- A unit's bucket. -/
def State.bucket (s : State) (cls unit : Nat) : Bucket :=
  s.ras.buckets.get { level := 0, warned := false, corrected := 0, uncorrectable := 0, poisoned := 0 } (unitCode cls unit)

/-- A fingerprint of kind 5 (R646). -/
def State.fingerprint5 (s : State) (cls unit : Nat) : Nat := s.fab.devId + cls * 2 ^ 16 + unit * 2 ^ 20 + 5 * 2 ^ 60

/-- A unit's bucket raised by `n` (R643): ERR_THRESHOLD at half the threshold, the fence at the threshold. -/
def State.raiseBucket (s : State) (cls unit n : Nat) (corrected : Bool) : State :=
  let b := s.bucket cls unit
  let thr := (s.threshold cls).1
  let b1 : Bucket := { b with
    level := if 1 ≤ cls ∧ cls ≤ 7 then min 255 (b.level + n) else 0
    corrected := if corrected then b.corrected + 1 else b.corrected
    uncorrectable := if corrected then b.uncorrectable else b.uncorrectable + 1 }
  let warn := thr ≠ 0 && !b.warned && thr ≤ 2 * b1.level
  let s1 := { s with ras := { s.ras with
    buckets := s.ras.buckets.set (unitCode cls unit) { b1 with warned := b.warned || warn } } }
  let s2 := if warn then
      s1.post 0 Event.errThreshold (cls + unit * 16 + b1.level * 2 ^ 20 + s.fingerprint5 cls unit * 2 ^ 64)
    else s1
  if thr ≠ 0 ∧ thr ≤ b1.level ∧ !s.fenced cls unit then s2.fence cls unit false else s2

/-- A corrected error of a unit, and an uncorrectable one (R643). -/
def State.corrected (s : State) (cls unit : Nat) : State := s.raiseBucket cls unit 1 true

def State.uncorrectable (s : State) (cls unit : Nat) : State := s.raiseBucket cls unit 16 false

end Sys2Proof.Machine
end

