-- ==== Sys2Proof/Machine/Leat.lean ====
section
/-! DEFINITION. Sub-links of the leat ports: training, replay, retrain, holds and notices (17_leat_links). -/

namespace Sys2Proof.Machine

/-- Sub-link `n` changed. -/
def State.modSub (s : State) (n : Nat) (f : SubLink → SubLink) : State :=
  { s with fab := { s.fab with subs := s.fab.subs.set n (f (s.subLink n)) } }

/-- The fabric changed. -/
def State.setFab (s : State) (f : FabricPart → FabricPart) : State := { s with fab := f s.fab }

/-- Whether the device has a route with an UP sub-link toward another (R496). -/
def State.reaches (s : State) (dev : Nat) : Bool :=
  match s.routeSet dev with
  | none => false
  | some m => (m &&& s.upMask) ≠ 0

/-- Devices declared unreachable to which a route has returned: DEVICE_REACHABLE is posted (R496). -/
def State.reachCheck (s : State) : State :=
  let back := s.fab.unreachable.filter s.reaches
  back.foldl (fun s d => s.post 0 Event.deviceReachable d)
    (s.setFab (fun f => { f with unreachable := f.unreachable.filter (fun d => !back.contains d) }))

/-- Counter `k` of a sub-link raised (R482). -/
def SubLink.count (l : SubLink) (k n : Nat) : SubLink :=
  { l with counts := setAt l.counts k (getAt 0 l.counts k + BitVec.ofNat 32 n) }

/-- The pond that binds a sub-link. -/
def State.pondOfSub (s : State) (n : Nat) : Option (Nat × Pond) :=
  s.mem.ponds.find? (fun p => bitOf p.2.binding.subl n)

/-- A leat event (R483): to the instance of the pond that binds the sub-link, and to the manager. -/
def State.postLeat (s : State) (n code payload : Nat) : State :=
  match s.pondOfSub n with
  | some p => (s.post (p.2.inst + 1) code payload).post 0 code payload
  | none => s.post 0 code payload

/-- LINK_DOWN (R483); of a sub-link bound to no pond the pond field is a free value. Log: 55 (DEDUCED). -/
def State.linkDown (s : State) (n cause : Nat) : State :=
  let s1 := s.modSub n (fun l => { l with cause })
  match s.pondOfSub n with
  | some p => s1.postLeat n Event.linkDown (n + cause * 256 + p.1 * 65536)
  | none =>
    let (k, s2) := s1.takeFree
    s2.postLeat n Event.linkDown (n + cause * 256 + Config.freeNat k % 512 * 65536)

/-- LINK_UP and LINK_DEGRADED (R483). -/
def State.postUp (s : State) (n : Nat) (l : SubLink) : State :=
  s.postLeat n Event.linkUp (n + l.gen * 256 + l.txLanes * 2 ^ 16 + l.rxLanes * 2 ^ 24 + l.nDev * 2 ^ 32 + l.nSub * 2 ^ 48)

def State.postDegraded (s : State) (n : Nat) (l : SubLink) : State :=
  s.postLeat n Event.linkDegraded (n + l.txLanes * 2 ^ 16 + l.rxLanes * 2 ^ 24)

/-- A full training run starts (R470 step 1). -/
def State.startTraining (s : State) (n : Nat) : State :=
  s.modSub n (fun l => { l with
    state := .training, gen := 0, txLanes := 0, rxLanes := 0, fec := false, txLock := 0, step := 1, tryGen := 0
    attempts := 0, retryWait := false, retrainFails := 0, replays := 0, notice := 0 }.count 5 1)

/-- Whether a sub-link may train: it is offered, and not fenced (R474, R476, R481). -/
def SubLink.mayTrain (l : SubLink) : Bool := l.state ≠ .fenced && l.genCap ≠ 0

/-- SUBLINK_TRAIN_START (R470): a sub-link that is not up starts a training run, as at the end of self-test. -/
def execSublinkTrainStart (n : Nat) (s : State) : Out :=
  let l := s.subLink n
  if n < 64 && l.mayTrain && (l.state = .dark || l.state = .down) && !l.retryWait then .next (s.startTraining n) else .next s

/-- LIGHT_DETECT (R470 step 3, R476, R477): light appears and receivers lock on `lanes`. A sub-link that is dark, down or
asleep starts to train; a fenced one tells the manager. -/
def execLightDetect (n lanes : Nat) (s : State) : Out :=
  if 64 ≤ n then .next s
  else
    let l := s.subLink n
    let s1 := s.modSub n (fun l => { l with light := true, rxLock := lanes % 256 })
    match l.state with
    | .fenced => .next (if l.light then s1 else s1.post 0 Event.linkLight n)
    | .training => .next (s1.modSub n (fun l => { l with step := if l.step = 2 then 3 else l.step }))
    | .sleep => .next (if l.mayTrain then s1.startTraining n else s1)
    | .dark | .down =>
      if l.light || !l.mayTrain then .next s1 else .next (s1.startTraining n)
    | _ => .next s1

/-- Generations both ends offer, highest first (R472). -/
def State.commonGens (s : State) (l : SubLink) : List Nat :=
  [3, 2, 1].filter (fun g => g ≤ s.fab.genMax && g ≤ l.genCap && bitOf l.nGens (g - 1))

/-- A training run fails (R474): the sub-link is fenced after enough runs with light present, else it waits for the next
run. Log: 55 (DEDUCED). -/
def State.runFails (s : State) (n : Nat) : State :=
  let s1 := s.modSub n (fun l => { l with
    state := .down, step := 0, failedRuns := if l.light then l.failedRuns + 1 else l.failedRuns, retryWait := true
    gen := 0, txLanes := 0, rxLanes := 0, fec := false })
  let l := s1.subLink n
  if l.light && s1.fab.fenceAfter ≤ l.failedRuns then s1.fence 8 n false else s1

/-- A training attempt fails (R473): twice at each common generation, from the highest down, then the run fails. -/
def State.attemptFails (s : State) (n : Nat) : State :=
  let l := s.subLink n
  let at_ := if l.gen = 0 then l.tryGen else l.gen
  let again (g k : Nat) : State := s.modSub n (fun l => { l with tryGen := g, attempts := k, step := 3, fec := false })
  if l.attempts + 1 < 2 then again at_ (l.attempts + 1)
  else match (s.commonGens l).find? (fun g => g < at_) with
    | some g => again g 0
    | none => s.runFails n

/-- CAPABILITY_FRAME (R472): the neighbour's frame is taken, and the generation and lane masks are chosen. -/
def execCapabilityFrame (n frame : Nat) (s : State) : Out :=
  let l := s.subLink n
  if 64 ≤ n || l.state ≠ .training || l.step ≠ 3 || bitsOf frame 0 4 ≠ 1 then .next s
  else
    let l1 := { l with
      nGens := bitsOf frame 4 5, nTx := bitsOf frame 16 8, nRx := bitsOf frame 24 8
      nDev := bitsOf frame 32 16, nSub := bitsOf frame 48 6 }
    let common := s.commonGens l1
    match common.find? (fun g => l.tryGen = 0 || g ≤ l.tryGen) with
    | none =>
      if common.isEmpty then .next ((s.modSub n (fun _ => { l1 with state := .incompatible, step := 0 })).linkDown n 5)
      else .next ((s.modSub n (fun _ => l1)).runFails n)
    | some g =>
      let tx := l1.txLock &&& l1.nRx
      let rx := l1.nTx &&& l1.rxLock
      let s1 := s.modSub n (fun _ => { l1 with gen := g, txLanes := tx, rxLanes := rx, step := 4 })
      if popcount 8 tx < 4 || popcount 8 rx < 4 then .next (s1.attemptFails n) else .next s1

/-- TRAINING_STEP_DONE (R470): a timed step ends. Step 2 takes `lanes` as the transmit mask; steps 5 and 6 end the
equalisers' adaptation, and FEC lock and deskew. With `ok` false the step failed, and the attempt with it (R473). -/
def execTrainingStepDone (n lanes : Nat) (ok : Bool) (s : State) : Out :=
  let l := s.subLink n
  if 64 ≤ n || l.state ≠ .training then .next s
  else if !ok then .next (if 1 ≤ l.step then s.attemptFails n else s)
  else match l.step with
    | 1 => .next (s.modSub n (fun l => { l with
        txLock := lanes % 256, step := if l.light && l.rxLock ≠ 0 then 3 else 2 }))
    | 4 => .next (s.modSub n (fun l => { l with step := 5 }))
    | 5 => .next (s.modSub n (fun l => { l with step := 6, fec := l.gen = 3 }))
    | _ => .next s

/-- LINK_TEST_DONE (R470 steps 7 and 8, R473): the sub-link enters UP, or the attempt fails. -/
def execLinkTestDone (n : Nat) (pass : Bool) (s : State) : Out :=
  let l := s.subLink n
  if 64 ≤ n || l.state ≠ .training || l.step ≠ 6 then .next s
  else if !pass then .next (s.attemptFails n)
  else
    let s1 := s.modSub n (fun l => { l with
      state := .up, step := 8, attempts := 0, failedRuns := 0, tryGen := 0, held := false, cause := 0 })
    let l1 := s1.subLink n
    let s2 := s1.postUp n l1
    .next (if popcount 8 l1.txLanes < 8 || popcount 8 l1.rxLanes < 8 then s2.postDegraded n l1 else s2).reachCheck

/-- TRAINING_RETRY_TIMER (R474): 100 ms after a failed run the next starts, or the sub-link is fenced.
Log: 55 (DEDUCED). -/
def execTrainingRetryTimer (n : Nat) (s : State) : Out :=
  let l := s.subLink n
  if 64 ≤ n || !l.retryWait || !l.mayTrain then .next s
  else if l.light && s.fab.fenceAfter ≤ l.failedRuns then .next (s.fence 8 n false)
  else .next (s.startTraining n)

/-- A retrain starts (R475). -/
def State.startRetrain (s : State) (n : Nat) : State :=
  s.modSub n (fun l => { l with state := .retrain, step := 5, replays := 0 }.count 4 1)

/-- FLIT_CRC_FAIL (R475, R482): a flit fails its CRC and is replayed; sixteen replays of one flit start a retrain.
`fixed` codewords were corrected by FEC since the last such command; `uncorr` = the codeword was uncorrectable; `again` =
the flit is the one replayed last. Log: 55 (DEDUCED). -/
def execFlitCrcFail (n fixed : Nat) (uncorr again : Bool) (s : State) : Out :=
  let l := s.subLink n
  if 64 ≤ n || l.state ≠ .up then .next s
  else
    let r := if again then l.replays + 1 else 1
    let s1 := s.modSub n (fun l =>
      { ((((l.count 0 fixed).count 1 (b2n uncorr)).count 2 1).count 3 1) with replays := r })
    .next (if 16 ≤ r then s1.startRetrain n else s1)

/-- REPLAY_ACK_TIMEOUT (R475): a replay not acknowledged within 20 µs starts a retrain. -/
def execReplayAckTimeout (n : Nat) (s : State) : Out :=
  if n < 64 && (s.subLink n).state = .up then .next (s.startRetrain n) else .next s

/-- A sub-link leaves UP and holds its traffic (R476). -/
def State.beginHold (s : State) (n cause : Nat) : State :=
  (s.modSub n (fun l => { l with held := true }.count 7 1)).linkDown n cause

/-- A retrain has failed for good (R475 tier 3): the traffic is held and a full training run starts.
Log: 54 (DEDUCED). -/
def State.retrainLost (s : State) (n : Nat) : State := (s.beginHold n 2).startTraining n

/-- RETRAIN_DONE (R475): replay resumes, or after three failures in a row a full training run starts. -/
def execRetrainDone (n : Nat) (pass : Bool) (s : State) : Out :=
  let l := s.subLink n
  if 64 ≤ n || l.state ≠ .retrain then .next s
  else if pass then .next (s.modSub n (fun l => { l with state := .up, step := 8, retrainFails := 0 })).reachCheck
  else if l.retrainFails + 1 < 3 then
    .next ((s.modSub n (fun l => { l with retrainFails := l.retrainFails + 1 })).startRetrain n)
  else .next (s.retrainLost n)

/-- A lane dropped from one direction (R471): the outbound one, or with `rx` the inbound one. -/
def SubLink.dropLane (l : SubLink) (lane : Nat) (rx : Bool) : SubLink :=
  if rx then { l with rxLanes := setBits l.rxLanes lane 1 0, rxLock := setBits l.rxLock lane 1 0 }.count 6 1
  else { l with txLanes := setBits l.txLanes lane 1 0, txLock := setBits l.txLock lane 1 0 }.count 6 1

/-- LANE_LOCK_LOST (R471): a lane of an UP sub-link loses lock, at this device's transmitter or with `x.rx` at its receiver,
and is dropped from that direction; the sub-link retrains with the lanes left, or leaves UP with fewer than 4 (R467).
Log: 54 (DEDUCED). -/
def execLaneLockLost (n : Nat) (x : LaneEnd) (s : State) : Out :=
  let l := s.subLink n
  if 64 ≤ n || l.state ≠ .up || !bitOf (if x.rx then l.rxLanes else l.txLanes) x.lane || 8 ≤ x.lane then .next s
  else
    let s1 := s.modSub n (·.dropLane x.lane x.rx)
    let l1 := s1.subLink n
    let s2 := s1.postDegraded n l1
    .next (if popcount 8 l1.txLanes < 4 || popcount 8 l1.rxLanes < 4 then s2.retrainLost n else s2.startRetrain n)

/-- LIGHT_LOSS (R476): an UP sub-link goes down and holds its traffic; one in training waits for light again. -/
def execLightLoss (n : Nat) (s : State) : Out :=
  if 64 ≤ n then .next s
  else
    let l := s.subLink n
    let s1 := s.modSub n (fun l => { l with light := false, rxLock := 0 })
    match l.state with
    | .up | .retrain =>
      .next ((s1.modSub n (fun l => { l with
        state := .down, gen := 0, txLanes := 0, rxLanes := 0, fec := false, step := 0 })).beginHold n 1)
    | .training => .next (s1.modSub n (fun l => { l with step := min l.step 2, gen := 0, fec := false }))
    | _ => .next s1

/-- HOLD_EXPIRY (R476): hold_ms has passed before the return to UP. The operations of `ops`, whose packets are discarded,
complete with MESH_FAULT, and the sub-link is fenced. -/
def execHoldExpiry (n : Nat) (ops : List Nat) (s : State) : Out :=
  let l := s.subLink n
  if 64 ≤ n || !l.held || l.state = .up || l.state = .fenced then .next s
  else .next (((s.strikeAll (ops.map (·, Status.meshFault, 0))).fence 8 n false).releaseReruns ops)

/-- A SLEEP (1) or FENCE (2) notice sent on each UP sub-link of a list (R477). -/
def State.sendNotices (s : State) (kind : Nat) (l : List Nat) : State :=
  (l.filter (fun n => (s.subLink n).state = .up)).foldl (fun s n =>
    s.sendOn { kind := .notice, dst := (s.subLink n).nDev, mere := 0, id := n, args := [kind], data := [] } n) s

/-- NEIGHBOUR_NOTICE (R477): a SLEEP or FENCE notice arrives; no new packet is accepted. -/
def execNeighbourNotice (n : Nat) (fence : Bool) (s : State) : Out :=
  let l := s.subLink n
  if n < 64 && (l.state = .up || l.state = .retrain) then
    .next (s.modSub n (fun l => { l with notice := if fence then 2 else 1 }))
  else .next s

/-- NOTICE_DRAIN_DONE (R477, R478): 1 ms after a notice the sub-link sleeps or goes down. A sub-link that faces the first
of a sleeping neighbour's port keeps one lane at the Eslas-1 rate. Log: 56 (DEDUCED). -/
def execNoticeDrainDone (n : Nat) (s : State) : Out :=
  let l := s.subLink n
  if 64 ≤ n || l.notice = 0 || (l.state ≠ .up && l.state ≠ .retrain) then .next s
  else
    let low := l.notice = 1 && l.nSub % 4 = 0
    let s1 := s.modSub n (fun l => { l with
      state := if l.notice = 1 then .sleep else .down, notice := 0, gen := b2n low, txLanes := b2n low
      rxLanes := b2n low, fec := false, step := 0, light := low })
    .next (s1.linkDown n (if l.notice = 1 then 3 else 4))

/-- LEAT_RETRAIN_WRITE (R481): a write of retrain starts a full training run; a sub-link that was up holds its
traffic. Log: 54 (DEDUCED), 100 (DESIGN CHOICE). -/
def execLeatRetrainWrite (n : Nat) (s : State) : Out :=
  let l := s.subLink n
  if 64 ≤ n || !l.mayTrain then .next s
  else if l.state = .up || l.state = .retrain then
    .next ((s.modSub n (fun l => { l with held := true })).startTraining n)
  else .next (s.startTraining n)

/-- GEN_CAP_WRITE (R481): the highest generation a sub-link offers is written; 0 darkens it.
Log: 100 (DESIGN CHOICE). -/
def execGenCapWrite (n value : Nat) (s : State) : Out :=
  let l := s.subLink n
  if 64 ≤ n || l.state = .fenced || 3 < value then .next s
  else
    let s1 := s.modSub n (fun l => { l with genCap := value })
    if value = 0 then
      let s2 := s1.modSub n (fun l => { l with
        state := .dark, gen := 0, txLanes := 0, rxLanes := 0, fec := false, step := 0, retryWait := false })
      .next (if l.state = .up || l.state = .retrain then s2.beginHold n 1 else s2)
    else if l.state = .incompatible && value ≠ l.genCap then .next (s1.startTraining n)
    else .next s1

end Sys2Proof.Machine
end

