-- ==== Sys2Proof/Machine/Weir.lean ====
section
/-! DEFINITION. The weir (16_weir_regulation): classes, latencies, priorities, credits, misses, and the pull and push
modes of ponds. -/

namespace Sys2Proof.Machine

/-- The state with the weir changed. -/
def State.setWeir (s : State) (g : WeirPart → WeirPart) : State := { s with weir := g s.weir }

/-- The class of a local offset (R450): that of the lowest-numbered valid range entry that holds it. -/
def State.weirClass (s : State) (off : Nat) : Nat :=
  let g := off / 65536
  match (List.range 64).find? (fun n =>
    let l := s.weir.lim.get 0 n
    bitOf l 31 && s.weir.base.get 0 n ≤ g && g ≤ bitsOf l 0 27) with
  | some n => bitsOf (s.weir.lim.get 0 n) 27 3
  | none => s.weir.defaultClass

/-- The TGT word of a class; its reset value has prio_floor 4 and ewma_shift 3 (R462). -/
def WeirPart.tgtOf (w : WeirPart) (c : Nat) : Nat := w.tgt.get (4 * 2 ^ 16 + 3 * 2 ^ 20) c

def WeirPart.target (w : WeirPart) (c : Nat) : Nat := bitsOf (w.tgtOf c) 0 16

def WeirPart.floor (w : WeirPart) (c : Nat) : Nat := bitsOf (w.tgtOf c) 16 4

def WeirPart.shift (w : WeirPart) (c : Nat) : Nat := bitsOf (w.tgtOf c) 20 3

/-- Priority of a class (R453); before the first recomputation it is prio_floor. Log: 97 (DEDUCED). -/
def WeirPart.prio (w : WeirPart) (c e : Nat) : Nat :=
  if w.target c = 0 then w.floor c else max (w.floor c) (min 15 (16 * e / w.target c - 1))

/-- The memory port of a channel: 6 × die + port; a channel's 16 neighbours share a port (R20). -/
def portOfChan (c : Nat) : Nat := c / 16

/-- E after a read of latency `lat` (R452, R458): the difference is shifted arithmetically, in whole units.
Log: 97 (DEDUCED). -/
def ewma (e lat shift : Nat) : Nat := ((e : Int) + ((lat : Int) - e) / (2 ^ shift : Int)).toNat

/-- One line of a class issued to a channel consumes a credit (R455). -/
def State.spendCredit (s : State) (chan cls : Nat) : State :=
  s.setWeir (fun w => { w with credit := w.credit.set (8 * chan + cls) (w.credit.get 0 (8 * chan + cls) - 1) })

/-- The channel of a local offset. -/
def State.chanOf (s : State) (off : Nat) : Option Nat := (s.hbmKey off).map (· / 0x80000000)

/-- Whether a channel whose queue holds `n` entries holds back a class (R455 step 3). -/
def WeirPart.holds (w : WeirPart) (chan cls n : Nat) : Bool :=
  bitsOf (w.capNow.get 0 cls) 0 9 ≠ 0 && w.credit.get 0 (8 * chan + cls) = 0 && w.busyNow ≤ n

/-- HBM_READ_DONE (R452, R454, R455, R637, R639): the read of the line at local offset `off`, issued while the channel's
queue held `ret.queued` entries, returns after `lat` ns. A class held back there issued none, unless the request had aged, and
then its credit is already spent. `ret.err` tells what the channel's code found: 0 = nothing, 1 = a corrected error, 2 = an
uncorrectable one in the granule. Log: 97 (DEDUCED). -/
def execHbmReadDone (off lat : Nat) (ret : ReadReturn) (s : State) : Out :=
  match s.chanOf off with
  | none => .next s
  | some ch =>
    let c := s.weirClass off
    let key := 8 * portOfChan ch + c
    let aged := s.weir.aged.contains (off / 128)
    if !aged && s.weir.holds ch c ret.queued then .next s
    else
      let s0 := if aged then s.setWeir (fun w => { w with aged := w.aged.erase (off / 128) }) else s.spendCredit ch c
      let s1 := s0.setWeir (fun w => { w with e := w.e.set key (ewma (w.e.get 0 key) lat (w.shiftNow.get 3 key)) })
      .next (if ret.err = 1 then s1.corrected 4 ch
             else if ret.err = 2 then (s1.poisonGranule off 1 4 ch).uncorrectable 4 ch
             else s1)

/-- WEIR_RECOMPUTE (R453): a memory port recomputes the priority of each class; its targets, floors
and shifts as written take effect (R456). -/
def execWeirRecompute (port : Nat) (s : State) : Out :=
  if 24 ≤ port then .next s
  else .next (s.setWeir (fun w => { w with
    q := (List.range 8).foldl (fun q c => Tab.set q (8 * port + c) (w.prio c (w.e.get 0 (8 * port + c)))) w.q
    shiftNow := (List.range 8).foldl (fun q c => Tab.set q (8 * port + c) (w.shift c)) w.shiftNow }))

/-- WEIR_CREDIT_PERIOD (R455, R456): caps and busy_level as written take effect, and every class's credit on every
channel is set to its cap. -/
def execWeirCreditPeriod (s : State) : Out :=
  .next (s.setWeir (fun w => { w with
    capNow := w.cap
    busyNow := w.busyLevel
    credit := ((List.range 8).filter (fun c => bitsOf (w.cap.get 0 c) 0 9 ≠ 0)).foldl (fun t c =>
      (List.range 384).foldl (fun t ch => Tab.set t (8 * ch + c) (bitsOf (w.cap.get 0 c) 0 9)) t) [] }))

/-- REQUEST_AGE_TIMEOUT (R454): a request for the line at `req.off` that has waited 4 µs is issued ahead of every
priority, and consumes a credit; `req.read` tells a read, whose return is still to come. -/
def execRequestAgeTimeout (req : AgedRequest) (s : State) : Out :=
  match s.chanOf req.off with
  | none => .next s
  | some ch =>
    let s1 := s.spendCredit ch (s.weirClass req.off)
    .next (if req.read = 0 then s1 else s1.setWeir (fun w => { w with aged := (req.off / 128) :: w.aged }))

/-- The port with the largest E of a class, and that E (R457). -/
def WeirPart.worst (w : WeirPart) (c : Nat) : Nat × Nat :=
  (List.range 24).foldl (fun b p => if b.2 < w.e.get 0 (8 * p + c) then (p, w.e.get 0 (8 * p + c)) else b)
    (0, w.e.get 0 c)

/-- One class at a window's end (R457): its misses counted, WEIR_MISS posted. -/
def State.judgeWindow (s : State) (c : Nat) : State :=
  let w := s.weir
  let (port, e) := w.worst c
  let qm := (List.range 24).foldl (fun b p => max b (w.q.get (w.floor c) (8 * p + c))) 0
  let s1 := s.setWeir (fun w => { w with stat := w.stat.set c (min 0xFFFF e + qm * 2 ^ 16) })
  let most := bitsOf (w.cap.get 0 c) 16 16
  if w.target c = 0 ∨ e ≤ w.target c then s1.setWeir (fun w => { w with missRun := w.missRun.set c 0 })
  else if most = 0 then s1
  else if w.missRun.get 0 c + 1 < most then
    s1.setWeir (fun w => { w with missRun := w.missRun.set c (w.missRun.get 0 c + 1) })
  else
    (s1.setWeir (fun w => { w with
      missRun := w.missRun.set c 0, missCnt := w.missCnt.set c ((w.missCnt.get 0 c + 1) % 2 ^ 32) })).post 0
      Event.weirMiss (c + port * 2 ^ 8 + (e % 2 ^ 32) * 2 ^ 32 + w.target c * 2 ^ 64)

/-- A pond's weir state, if the pond exists. -/
def State.weirPond (s : State) (h : Nat) : Option WeirPond :=
  (s.mem.ponds.at? h).map (fun _ => s.weir.ponds.get WeirPond.reset h)

/-- A pond's weir state set. -/
def State.setWeirPond (s : State) (h : Nat) (p : WeirPond) : State :=
  s.setWeir (fun w => { w with ponds := w.ponds.set h p })

/-- WEIR_MODE posted to the pond's instance (R461, R463). -/
def State.postMode (s : State) (h : Nat) (p : WeirPond) (peak : Nat) : State :=
  match s.mem.ponds.at? h with
  | none => s
  | some q => s.post (q.inst + 1) Event.weirMode (h + b2n p.push * 2 ^ 16 + (peak % 2 ^ 16) * 2 ^ 32)

/-- A pond's remote read of latency `lat`, in 100 ns (R458). -/
def State.noteLatency (s : State) (h lat : Nat) : State :=
  match s.weirPond h with
  | none => s
  | some p =>
    let r := ewma p.r lat 4
    s.setWeirPond h { p with r, peakNow := max p.peakNow r, reads := p.reads + 1 }

/-- Remote reads of a step, in the order their data arrived. -/
def State.noteLatencies (s : State) (h : Nat) (ls : List Nat) : State := ls.foldl (fun s l => s.noteLatency h l) s

/-- The probe reads of a period in push mode, sent as it starts (R460): one to the source of each subscription that lands in it. -/
def State.probe (s : State) (h : Nat) : State :=
  (s.fab.pushIn.filter (fun x => (s.plotOf x.2.dst).any (fun p => p.owner = h))).foldl (fun s x =>
    s.send { kind := .read, dst := x.2.dev, mere := x.2.mere, id := 0, args := [x.2.src, 128], data := [] }) s

/-- The end of a pond's evaluation period (R459, R460). Log: 97 (DEDUCED). -/
def State.evalPeriod (s : State) (h : Nat) : State :=
  match s.weirPond h with
  | none => s
  | some p =>
    let base : WeirPond := { p with peak := p.peakNow, peakNow := 0, reads := 0 }
    if !p.auto || p.budget = 0 then s.setWeirPond h base
    else if !p.push then
      if p.reads = 0 then s.setWeirPond h base
      else if p.budget < p.peakNow then
        if p.beyond + 1 = 3 then
          let q : WeirPond := { base with push := true, beyond := 0, under := 0 }
          ((s.setWeirPond h q).postMode h q p.peakNow).probe h
        else s.setWeirPond h { base with beyond := p.beyond + 1 }
      else s.setWeirPond h { base with beyond := 0 }
    else if p.reads = 0 then (s.setWeirPond h base).probe h
    else if 4 * p.peakNow ≤ 3 * p.budget then
      if p.under + 1 = 16 then
        let q : WeirPond := { base with push := false, beyond := 0, under := 0 }
        (s.setWeirPond h q).postMode h q p.peakNow
      else (s.setWeirPond h { base with under := p.under + 1 }).probe h
    else if p.budget < p.peakNow then (s.setWeirPond h { base with under := 0 }).probe h
    else (s.setWeirPond h { base with under := 0 }).probe h

/-- WEIR_WINDOW_END (R457): every class is judged. -/
def execWeirWindowEnd (s : State) : Out := .next ((List.range 8).foldl State.judgeWindow s)

/-- WEIR_EVAL_PERIOD (R458 to R460): a pond's evaluation period ends: a beat, or a weir window without beats. `x.lats`
are the latencies of the period's probe reads that have arrived, which a pond in pull mode has none of. Log: 97 (DEDUCED). -/
def execWeirEvalPeriod (x : ProbePeriod) (s : State) : Out :=
  .next ((if (s.weirPond x.pond).any (·.push) then s.noteLatencies x.pond x.lats else s).evalPeriod x.pond)

/-- WEIR_POND_CFG_WRITE (R461, R462): the configuration of the selected pond; auto = 0 or a budget of 0 returns it to
pull mode at once. Log: 100 (DESIGN CHOICE). -/
def execWeirPondCfgWrite (value : Nat) (s : State) : Out :=
  let h := s.weir.pondSel
  match s.weirPond h with
  | none => .next s
  | some p =>
    let budget := bitsOf value 0 16
    let auto := bitOf value 16
    if auto && budget ≠ 0 then .next (s.setWeirPond h { p with budget, auto })
    else
      let q : WeirPond := { p with budget, auto, push := false, beyond := 0, under := 0 }
      let s1 := s.setWeirPond h q
      .next (if p.push then s1.postMode h q p.peakNow else s1)

end Sys2Proof.Machine
end

