-- ==== Sys2Proof/Machine/Tile.lean ====
section
/-! DEFINITION. Tile SRAM, seen by every engine that reads or writes it (R86, R89, R107, R155), and how an engine's
failed access ends its operation. -/

namespace Sys2Proof.Machine

/-- `n` bytes of a tile's SRAM. -/
def State.readSram (s : State) (tile off n : Nat) : List Byte := s.mem.sram.read (tile * 0x400000 + off) n

/-- Whether any 64-bit word of a range of tile SRAM is delivered as poison (R107). -/
def State.sramPoisoned (s : State) (tile off n : Nat) : Bool :=
  let a := tile * 0x400000 + off
  0 < n && s.mem.sramPoison.any (fun w => a / 8 ≤ w && w ≤ (a + n - 1) / 8)

/-- Bytes written into tile SRAM; a word written whole holds poison no longer (R107, R641). Log: 125 (DEDUCED). -/
def State.putSram (s : State) (tile off : Nat) (bytes : List Byte) : State :=
  let a := tile * 0x400000 + off
  { s with mem := { s.mem with
      sram := s.mem.sram.write a bytes
      sramPoison := s.mem.sramPoison.filter (fun w => !(a ≤ w * 8 && w * 8 + 8 ≤ a + bytes.length)) } }

/-- Numeric flags added to those an operation reports (R62). -/
def State.addFlags (s : State) (id f : Nat) : State := s.modOp id (fun o => { o with nflags := o.nflags ||| f })

/-- A read by an operation of a pond as its home's loft sees it (R201, R206): lines allocated or used under the page's
hint, or the hint given. -/
def State.touchRead (s : State) (a : Agent) (hint : Option Hint) (va n : Nat) : State :=
  (pieces va n).foldl (fun s p => match s.translate a p.1 with
    | .ok (.local_ off) lh =>
      (s.useXlat a p.1).loftTouchRange off p.2 (hint.getD (hintOf lh)) (s.maskFor a.pond off) false
    | _ => s.useXlat a p.1) s

/-- `touchRead` over a list of (address, bytes). -/
def State.touchReads (s : State) (a : Agent) (l : List (Nat × Nat)) : State :=
  l.foldl (fun s x => s.touchRead a none x.1 x.2) s

/-- The errors the code of tile SRAM and of Vane program memory finds in words a step reads (R107, R637): each is counted,
and an uncorrectable word is delivered as poison from then on. -/
def State.findErrors (s : State) (ext : Ext) : State :=
  ext.ecc.foldl (fun s x =>
    let t := x.2.1 / (if x.1 then 0x10000 else 0x400000)
    let w := x.2.1 / 8
    if 512 ≤ t || s.fenced 1 t then s
    else if !x.2.2 then s.corrected 1 t
    else
      let add (l : List Nat) : List Nat := if l.contains w then l else w :: l
      ({ s with mem := { s.mem with
          sramPoison := if x.1 then s.mem.sramPoison else add s.mem.sramPoison
          progPoison := if x.1 then add s.mem.progPoison else s.mem.progPoison } }).uncorrectable 1 t) s

/-- A free value drawn from the counter. -/
def State.drawFree (s : State) : Nat × State :=
  let (n, s1) := s.takeFree
  (Config.freeNat n, s1)

end Sys2Proof.Machine
end

