-- ==== Sys2Proof/Machine/Red.lean ====
section
/-! DEFINITION. Reduction groups: opening, running and closing them, in slot mode and in Flume mode
(08_mesh_and_reduction, R70 to R82). -/

namespace Sys2Proof.Machine

/-- The open group of a function with an identifier, and its number. -/
def State.redGroup? (s : State) (f gid : Nat) : Option (Nat × RedGroup) :=
  s.eng.groups.find? (fun p => p.2.fn = f && p.2.gid = gid)

/-- The group that an operation runs. -/
def State.redGroupOf (s : State) (id : Nat) : Option (Nat × RedGroup × RedRun) :=
  s.eng.groups.findSome? (fun p => p.2.run.bind (fun r => if r.op = id then some (p.1, p.2, r) else none))

/-- A group changed. -/
def State.modGroup (s : State) (k : Nat) (f : RedGroup → RedGroup) : State :=
  { s with eng := { s.eng with groups := s.eng.groups.modify k f } }

/-- A group's run changed. -/
def State.modRun (s : State) (k : Nat) (f : RedRun → RedRun) : State :=
  s.modGroup k (fun g => { g with run := g.run.map f })

/-- Whether a member receives a result (R237): the root of a REDUCE, every member of the other kinds. -/
def RedGroup.receives (g : RedGroup) (i : Nat) : Bool := g.kind ≠ 0 || i = g.root

/-- The elements of the result a member receives: (first, count) (R237). -/
def RedGroup.share (g : RedGroup) (i : Nat) : Nat × Nat :=
  let c := g.elements / max 1 g.members.length
  if g.kind = 2 then (i * c, c) else (0, g.elements)

/-- Whether a tile SRAM range fits its tile (R240). Log: 42 (DEDUCED). -/
def redFits (loc off n : Nat) : Bool := off + n ≤ (if loc = 1 then 0x400000 else 0x200000)

/-- Entry `i` of a member table (R240), where its fields are well formed (R241). -/
def parseMember (d i e : Nat) : Option RedMember :=
  let q128 := fld d 0x28 2 5 = 0x10
  let gets := fld d 0x28 0 2 ≠ 0 || i = fld d 0x44 0 17
  let loc := fld e 0 4 2
  let va (off : Nat) : Bool := loc ≠ 0 || fld e off 55 9 = 0
  if fld e 0 0 4 = 1 && loc ≠ 3 && fld e 0 6 10 = 0 && fld e 4 9 23 = 0 && (loc ≠ 0 || fld e 4 0 9 = 0)
      && va 8 && va 0x10 && va 0x18 && va 0x20
      && (gets || fld e 0x10 0 64 = 0) && (q128 || fld e 0x18 0 64 = 0)
      && ((q128 && gets) || fld e 0x20 0 64 = 0) && fld e 0x28 0 192 = 0 then
    some { loc, dev := fld e 0 16 16, rank := fld e 4 0 9, src := fld e 8 0 64, dst := fld e 0x10 0 64
           srcTag := fld e 0x18 0 64, dstTag := fld e 0x20 0 64 }
  else none

/-- Whether a member of a table under mere `mere` may stand in it (R240, R241): its device belongs to the mere, its
rank to this device's pond, and its areas fit their tile. Log: 42 (DEDUCED). -/
def State.memberOk (s : State) (d pond i : Nat) (map : List Nat) (m : RedMember) : Bool :=
  let mere := fld d 0x40 0 32
  let fmt := fld d 0x28 2 5
  let n := fld d 0x34 0 17
  let gets := fld d 0x28 0 2 ≠ 0 || i = fld d 0x44 0 17
  let dev := if mere = 0 then m.dev = 0xFFFF || m.dev = s.fab.devId else m.dev ≠ 0xFFFF && map.contains m.dev
  let inB := redBytes fmt (fld d 0x30 0 32)
  let outB := redBytes fmt (if fld d 0x28 0 2 = 2 then fld d 0x30 0 32 / max 1 n else fld d 0x30 0 32)
  dev && (m.loc = 0 ||
    ((!s.isLocalMember m || (match s.mem.ponds.at? pond with
        | some p => (p.tileOf (m.loc = 2) m.rank).isSome
        | none => false))
      && redFits m.loc m.src inB.1 && redFits m.loc m.srcTag inB.2
      && (!gets || (redFits m.loc m.dst outB.1 && redFits m.loc m.dstTag outB.2))))

/-- The free slot a group takes (R238): on the die with the most of its members, else the next with one free. -/
def State.groupSlot (s : State) (dies : List Nat) : Option (Nat × Nat) :=
  let most := (minBy? (fun d => dies.length - (dies.filter (· = d)).length) (List.range 4)).getD 0
  ((List.range 4).map (fun i =>
    let d := (most + i) % 4
    let taken := (s.eng.groups.filter (fun p => !p.2.flume && p.2.die = d)).map (fun p => p.2.slot)
    (((List.range 64).filter (fun k => !taken.contains k)).map (fun k => (d, k))).head?)).findSome? id

/-- Leat ports that carry a pond's sub-links, as a mask (R238). -/
def State.pondPorts (s : State) (pond : Nat) : Nat :=
  match s.mem.ponds.at? pond with
  | none => 0
  | some p => ((List.range 16).filter (fun i => bitsOf p.binding.subl (4 * i) 4 ≠ 0)).foldl (fun m i => m + 2 ^ i) 0

/-- Whether each engine of a set of ports has a context free (R238). -/
def State.portsFree (s : State) (ports : Nat) : Bool :=
  (maskBits 16 ports).all (fun i => (s.eng.groups.filter (fun p => bitOf p.2.ports i)).length < 16)

/-- The fields and table words over which a group's CRC is taken (R242). Log: 8 (DESIGN CHOICE). -/
def groupWords (d : Nat) (table : List Nat) : List Nat :=
  [fld d 0x20 0 64, fld d 0x28 0 2, fld d 0x28 2 5, fld d 0x30 0 32, fld d 0x34 0 17, fld d 0x44 0 17] ++ table

/-- Open groups in Flume mode (R378). -/
def State.flumeGroups (s : State) : Nat := (s.eng.groups.filter (fun p => p.2.flume)).length

/-- The group's open takes effect (R238, R241, R248, R378): only a group that spans devices takes engine contexts.
Log: 8 (DESIGN CHOICE), 44 (DEDUCED). -/
def State.openGroup (s : State) (id : Nat) (o : Op) (pond : Nat) (table : List Nat) (ms : List RedMember) : State :=
  let d := o.desc
  let a := s.newt o.fn o.ctx 0
  let mere := fld d 0x40 0 32
  let dies := (ms.filter s.isLocalMember).filterMap (s.memberDie a pond)
  let ports := if mere = 0 || ms.all s.isLocalMember then 0 else s.pondPorts pond
  let cap := (s.fn o.fn).groupMax
  let held := (s.eng.groups.filter (fun p => p.2.fn = o.fn && !p.2.flume)).length
  let slot := if (cap ≠ 0 && cap ≤ held) || !s.portsFree ports then none else s.groupSlot dies
  let g : RedGroup :=
    { fn := o.fn, gid := fld d 0x20 0 64, pond, kind := fld d 0x28 0 2, fmt := fld d 0x28 2 5
      elements := fld d 0x30 0 32, root := fld d 0x44 0 17, mere, timeoutUs := fld d 0x2C 0 32, members := ms
      flume := slot.isNone, die := ((slot.map (·.1)).getD 0), slot := ((slot.map (·.2)).getD 0)
      ports := if slot.isNone then 0 else ports, crc := crc64 (Config.groupBytes (groupWords d table)), run := none
      reason := if slot.isNone then Status.groupTableFull else 0 }
  if slot.isNone && 4096 ≤ s.flumeGroups then s.decide id Status.groupTableFull 0x10000
  else if slot.isNone && fld d 0x28 7 1 = 0 then s.decide id Status.groupTableFull 0
  else
    let s1 := { s with eng := { s.eng with
      groups := s.eng.groups.set s.eng.nextGroup g, nextGroup := s.eng.nextGroup + 1 } }
    s1.decide id Status.success (match slot with
      | some x => x.1 * 64 + x.2
      | none => 0x10000)

/-- RED_OPEN (R238 to R242): `ext` holds the member table's bytes that lie outside the device. Log: 44 (DEDUCED). -/
def execRedOpen (op : Nat) (ext : Ext) (s : State) : Out :=
  match s.go? op 0x40 with
  | none => .next s
  | some o =>
    let d := o.desc
    let n := fld d 0x34 0 17
    let mere := fld d 0x40 0 32
    let pond := if mere = 0 then o.pond else ((s.fab.meres.at? mere).map (·.pond)).getD o.pond
    let map := ((s.fab.meres.at? mere).map (·.map)).getD []
    match s.readVa (s.newt o.fn o.ctx 0) ext (fld d 0x38 0 55) (64 * n) with
    | .stall => .next s
    | .bad st x => .next (s.decide op st x)
    | .ok bs =>
      let table := (List.range n).map (fun i => leNat ((bs.drop (64 * i)).take 64))
      let ms := (List.range n).map (fun i => parseMember d i (getAt 0 table i))
      match (List.range n).find? (fun i => match getAt none ms i with
          | some m => !s.memberOk d pond i map m
          | none => true) with
      | some i => .next (s.decide op Status.badMemberTable i)
      | none =>
        if (s.redGroup? o.fn (fld d 0x20 0 64)).isSome then .next (s.decide op Status.badGroup 0)
        else .next (s.openGroup op o pond table (ms.filterMap id))

/-- Partial sums of two children added element by element (R47, R73, R80): the sum and its flags. -/
def addCell (a b : Cell) : Cell × Nat :=
  match a, b with
  | .q x, .q y =>
    let z := x.add y
    (.q z, z.flags)
  | .f x, .f y =>
    let z := f32Add (x.getD 0) (y.getD 0)
    (.f (some z.1), z.2)
  | a, _ => (a, 0)

def addCells (a b : List Cell) : List Cell × Nat :=
  let l := (a.zip b).map (fun x => addCell x.1 x.2)
  (l.map (·.1), l.foldl (fun f x => f ||| x.2) 0)

/-- Chunks of a group's elements (R245), and the elements of chunk `c`. -/
def RedGroup.chunks (g : RedGroup) : Nat := (g.elements + 1023) / 1024
def RedGroup.chunkLen (g : RedGroup) (c : Nat) : Nat := min 1024 (g.elements - 1024 * c)

/-- Members `lo` to `lo + m - 1` as a mask. -/
def spanMask (lo m : Nat) : Nat := (2 ^ m - 1) * 2 ^ lo

/-- The partial sum of chunk `c` over the subtree of R80 at `lo` with 2^k leaves, over `n` members, where all of it is
present. -/
def RedRun.node (r : RedRun) (c n : Nat) : Nat → Nat → Option (List Cell × Nat)
  | 0, lo => (r.parts.find? (fun p => p.chunk = c && p.mask = 2 ^ lo)).map (fun p => (p.cells, 0))
  | k + 1, lo =>
    match r.parts.find? (fun p => p.chunk = c && p.mask = spanMask lo (min (2 ^ (k + 1)) (n - lo))) with
    | some p => some (p.cells, 0)
    | none =>
      if n ≤ lo + 2 ^ k then r.node c n k lo
      else match r.node c n k lo, r.node c n k (lo + 2 ^ k) with
        | some a, some b =>
          let x := addCells a.1 b.1
          some (x.1, a.2 ||| b.2 ||| x.2)
        | _, _ => none

/-- Levels of the tree over `n` members (R80). -/
def treeLevels (n : Nat) : Nat := if n ≤ 1 then 0 else (n - 1).log2 + 1

/-- The sum of chunk `c` over the members of `mask` in whatever order they came (R68, R245), where all of them are present. -/
def RedRun.gather (r : RedRun) (c mask : Nat) : Option (List Cell × Nat) :=
  let l := r.parts.filter (fun p => p.chunk = c && p.mask &&& mask = p.mask)
  match l with
  | [] => none
  | p :: l' =>
    if l.foldl (fun m p => m ||| p.mask) 0 ≠ mask then none
    else some (l'.foldl (fun x p =>
      let y := addCells x.1 p.cells
      (y.1, x.2 ||| y.2)) (p.cells, 0))

/-- An FP32 sum with every NaN the canonical one (R37). -/
def Cell.canon : Cell → Cell
  | .f v => .f (v.map f32Canon)
  | c => c

/-- The sum of chunk `c` over all `n` members, where every contribution is present: exact in Quern, the tree of R80 in
FP32 (R245). -/
def RedRun.total (r : RedRun) (fmt c n : Nat) : Option (List Cell × Nat) :=
  if fmt = 0x10 then r.gather c (2 ^ n - 1)
  else (r.node c n (treeLevels n) 0).map (fun x => (x.1.map Cell.canon, x.2))

/-- Whether the members of `mask` among `n` are a subtree of R80, as an FP32 packet's span is. Log: 43 (DEDUCED). -/
def isSubtree (n mask : Nat) : Bool :=
  match (maskBits n mask).head? with
  | none => false
  | some lo => (List.range (treeLevels n + 1)).any (fun k => lo % 2 ^ k = 0 && mask = spanMask lo (min (2 ^ k) (n - lo)))

/-- The largest subtrees whose members all satisfy `q`, summed: what a device sends on in FP32 (R245).
Log: 44 (DEDUCED). -/
def RedRun.merged (r : RedRun) (c n : Nat) (q : Nat → Bool) : Nat → Nat → List (Partial × Nat)
  | 0, lo => if lo < n && q lo then
      match r.node c n 0 lo with
      | some x => [({ chunk := c, mask := 2 ^ lo, cells := x.1 }, x.2)]
      | none => []
    else []
  | k + 1, lo =>
    let m := min (2 ^ (k + 1)) (n - lo)
    if n ≤ lo then []
    else if (List.range m).all (fun i => q (lo + i)) then
      match r.node c n (k + 1) lo with
      | some x => [({ chunk := c, mask := spanMask lo m, cells := x.1 }, x.2)]
      | none => []
    else r.merged c n q k lo ++ r.merged c n q k (lo + 2 ^ k)

/-- What a device sends on of its members `mine` for a chunk: one Quern sum, or the largest subtrees of FP32 (R245). -/
def RedRun.sendable (r : RedRun) (fmt c n : Nat) (mine : List Nat) : List (Partial × Nat) :=
  if fmt = 0x10 then
    let mask := mine.foldl (fun m i => m ||| 2 ^ i) 0
    match r.gather c mask with
    | some x => [({ chunk := c, mask, cells := x.1 }, x.2)]
    | none => []
  else r.merged c n mine.contains (treeLevels n) 0

/-- A partial sum as it travels between devices (R73): an integer of 144 bits, tag, mark and infinities seen. -/
def cellWire : Cell → List Byte
  | .q a => leBytes 18 a.n ++ leBytes 1 (a.tag + 4 * b2n a.mark + 8 * b2n a.pinf + 16 * b2n a.ninf)
  | .f v => leBytes 4 (v.getD 0)

def wireCell (fmt : Nat) (bs : List Byte) : Cell :=
  if fmt = 0x10 then
    let t := leNat (bs.drop 18)
    .q { n := leNat (bs.take 18), tag := t % 4, mark := bitOf t 2, pinf := bitOf t 3, ninf := bitOf t 4 }
  else .f (some (leNat bs))

def wireSize (fmt : Nat) : Nat := if fmt = 0x10 then 19 else 4

def wireCells (fmt n : Nat) (bs : List Byte) : List Cell :=
  (List.range n).map (fun i => wireCell fmt ((bs.drop (i * wireSize fmt)).take (wireSize fmt)))

/-- Elements of a contribution as memory holds them (R71). -/
def redDecode (fmt n : Nat) (main tags : List Byte) : List Cell :=
  if fmt = 0x10 then
    let ts := unpackBits 2 n tags
    (List.range n).map (fun i => .q (quernOf (leNat ((main.drop (16 * i)).take 16)) (getAt 0 ts i)))
  else (List.range n).map (fun i => .f (some (leNat ((main.drop (4 * i)).take 4))))

/-- nan_in of a contribution (R62). -/
def redNan (cells : List Cell) : Nat :=
  if cells.any (fun c => match c with
    | .q a => a.tag = 3
    | .f v => (f32 (v.getD 0)).isNan) then flagNan else 0

/-- A read of a local member's memory or tile SRAM. -/
def State.redRead (s : State) (a : Agent) (ext : Ext) (m : RedMember) (tile : Option Nat) (addr n : Nat) :
    Acc (List Byte) :=
  if n = 0 then .ok []
  else if m.loc = 0 then s.readVa a ext addr n
  else match tile with
    | none => .bad Status.resourceLost 0
    | some t => if s.sramPoisoned t addr n then .bad Status.memoryError addr else .ok (s.readSram t addr n)

/-- The tile of member `i` in a run. -/
def RedRun.tileOf (r : RedRun) (i : Nat) : Option Nat := (r.stops.find? (fun x => x.1 = i)).map (·.2)

/-- Chunk `c` of the contribution of local member `i` (R244, R245). -/
def State.readMember (s : State) (a : Agent) (ext : Ext) (g : RedGroup) (r : RedRun) (o : Op) (i c : Nat) (m : RedMember) :
    Acc (List Cell) :=
  let b := redBytes g.fmt (g.chunkLen c)
  let at_ := redBytes g.fmt (1024 * c)
  match s.redRead a ext m (r.tileOf i) (m.addr o m.src + at_.1) b.1 with
  | .stall => .stall
  | .bad st x => .bad st x
  | .ok main => match s.redRead a ext m (r.tileOf i) (m.addr o m.srcTag + at_.2) b.2 with
    | .stall => .stall
    | .bad st x => .bad st x
    | .ok tags => .ok (redDecode g.fmt (g.chunkLen c) main tags)

/-- Whether this device holds member 0, where the sum is completed (R245). -/
def State.isRedRoot (s : State) (g : RedGroup) : Bool :=
  g.mere = 0 || (g.members.head?).any s.isLocalMember

/-- The device that holds member 0. -/
def RedGroup.rootDev (g : RedGroup) : Nat := ((g.members.head?).map (·.dev)).getD 0xFFFF

/-- A partial sum enters a run, unless one of its members is there already. -/
def State.addPart (s : State) (k : Nat) (p : Partial) (flags : Nat) : State :=
  s.modRun k (fun r =>
    if r.parts.any (fun x => x.chunk = p.chunk && x.mask &&& p.mask ≠ 0) then r
    else { r with parts := r.parts ++ [p], flags := r.flags ||| flags })

/-- Whether member `i`'s contribution to chunk `c` is present. -/
def RedRun.has (r : RedRun) (c i : Nat) : Bool := r.parts.any (fun p => p.chunk = c && bitOf p.mask i)

/-- This device's sums of a chunk sent toward member 0's device once every local contribution is present (R245).
Log: 44 (DEDUCED). -/
def State.forwardRed (s : State) (k c : Nat) : State :=
  match s.eng.groups.at? k with
  | none => s
  | some g => match g.run with
    | none => s
    | some r =>
      let mine := (s.localMembers g).map (·.1)
      if s.isRedRoot g || r.sent.contains c || !mine.all (r.has c) then s
      else
        let l := r.sendable g.fmt c g.members.length mine
        let flags := l.foldl (fun f p => f ||| p.2) r.flags
        let s1 := l.foldl (fun s p => s.send
          { kind := .redData, dst := g.rootDev, mere := g.mere, id := g.gid, args := [r.gen, c, p.1.mask, flags]
            data := (p.1.cells.map cellWire).flatten }) s
        s1.modRun k (fun r => { r with sent := c :: r.sent, flags })

/-- The CRC another device sent for a group, if any. -/
def State.crcOf (s : State) (g : RedGroup) (dev : Nat) : Option Nat :=
  (s.eng.redCrcs.find? (fun x => x.1 = g.fn && x.2.1 = g.gid && x.2.2.1 = dev)).map (·.2.2.2)

/-- A running group compared with the CRCs received (R242): a difference ends the run. Log: 45 (DEDUCED). -/
def State.compareCrcs (s : State) (k : Nat) : State :=
  match s.eng.groups.at? k with
  | none => s
  | some g => match g.run with
    | none => s
    | some r =>
      if (s.otherDevices g).any (fun d => (s.crcOf g d).any (· ≠ g.crc)) then s.decide r.op Status.groupMismatch 0 else s

/-- Whether every other device's CRC has come and agrees. -/
def State.crcsMatch (s : State) (g : RedGroup) : Bool :=
  g.mere = 0 || (s.otherDevices g).all (fun d => s.crcOf g d = some g.crc)

/-- A contribution of another device taken in by a run of the group, or refused (R244): of the run's gen it is added,
or sent on toward member 0's device; of the next it waits; any other ends the run with GROUP_MISMATCH.
Log: 43 (DEDUCED). -/
def State.takeRemote (s : State) (k : Nat) (x : RedHeld) : State :=
  let hold (s : State) : State := { s with eng := { s.eng with redHeld := s.eng.redHeld ++ [x] } }
  match s.eng.groups.at? k with
  | none => hold s
  | some g => match g.run with
    | none => hold s
    | some r =>
      if x.gen = r.gen then
        let n := g.members.length
        if g.chunks ≤ x.chunk || x.mask = 0 || 2 ^ n ≤ x.mask || (g.fmt ≠ 0x10 && !isSubtree n x.mask) then s
        else if s.isRedRoot g then
          s.addPart k { chunk := x.chunk, mask := x.mask, cells := wireCells g.fmt (g.chunkLen x.chunk) x.data } x.flags
        else s.send { kind := .redData, dst := g.rootDev, mere := g.mere, id := g.gid
                      args := [x.gen, x.chunk, x.mask, x.flags], data := x.data }
      else if x.gen = r.gen + 1 then hold s
      else s.decide r.op Status.groupMismatch 0

/-- Contributions that waited for a group, offered to the run that has started. Log: 43 (DEDUCED). -/
def State.takeHeld (s : State) (k f gid : Nat) : State :=
  let mine := s.eng.redHeld.filter (fun x => x.fn = f && x.gid = gid)
  let s1 := { s with eng := { s.eng with redHeld := s.eng.redHeld.filter (fun x => !(x.fn = f && x.gid = gid)) } }
  mine.foldl (fun s x => s.takeRemote k x) s1

/-- Member tiles of a run (R244 step 1): the tile of each local member in tile SRAM, or the status where one has
none. -/
def State.redStops (s : State) (g : RedGroup) : Nat ⊕ List (Nat × Nat) :=
  let l := (s.localMembers g).filter (fun x => x.2.loc ≠ 0)
  match s.mem.ponds.at? g.pond with
  | none => if l.isEmpty then .inr [] else .inl Status.badPond
  | some p => match l.findSome? (fun x => p.rankError (x.2.loc = 2) x.2.rank 1) with
    | some st => .inl st
    | none => .inr (l.filterMap (fun x => ((p.tileOf (x.2.loc = 2) x.2.rank).join).map (fun t => (x.1, t))))

/-- A run starts (R242, R244, R248): at the group's first the devices exchange their CRCs, and in Flume mode member 0's
device asks the others for their partial sums. Log: 44 (DEDUCED), 45 (DEDUCED). -/
def State.startRed (s : State) (id : Nat) (o : Op) (k : Nat) (g : RedGroup) : State :=
  match s.redStops g with
  | .inl st => s.decide id st 0
  | .inr stops =>
    let r : RedRun := { op := id, gen := fld o.desc 0x28 0 32, stops, parts := [], sent := [], flags := 0 }
    let s1 := (s.start id).modGroup k (fun g => { g with run := some r, crcSent := true })
    let tell (kind : FabKind) (args : List Nat) (s : State) : State := (s.otherDevices g).foldl (fun s d => s.send
      { kind, dst := d, mere := g.mere, id := g.gid, args, data := [] }) s
    let s2 := if g.mere ≠ 0 && !g.crcSent then tell .redCrc [g.crc] s1 else s1
    let s3 := if g.mere ≠ 0 && g.flume && s.isRedRoot g then tell .redPull [r.gen] s2 else s2
    (s3.compareCrcs k).takeHeld k g.fn g.gid

/-- Operations on a Flume engine, copies and runs in Flume mode: waiting, or active (R216, R248, R340). -/
def State.copiesOn (s : State) (e : Nat) (ph : OpPhase) : List (Nat × Op) :=
  s.work.ops.filter (fun p => p.2.onFlume && p.2.engine = e && p.2.phase = ph && !p.2.push && !p.2.awaitsRegrow)

/-- The service counter of a pond on an engine. -/
def State.servedOf (s : State) (e pond : Nat) : Nat := s.eng.served.get 0 (e * 65536 + pond)

/-- A pond's service counter raised by `n` segments of 4 KiB (R340). -/
def State.serve (s : State) (e pond weight n : Nat) : State :=
  let key := e * 65536 + pond
  { s with eng := { s.eng with
      served := s.eng.served.set key (s.eng.served.get 0 key + n * (4096 * 256 / max 1 weight)) } }

/-- A pond whose queue on an engine had been empty rejoins at the lowest counter among the ponds then queued (R340). -/
def State.rejoin (s : State) (e pond : Nat) : State :=
  let queued := (s.copiesOn e .queued ++ s.copiesOn e .running).map (·.2.pond)
  let low := queued.map (fun h => s.servedOf e h)
  if queued.contains pond || low.isEmpty then s
  else { s with eng := { s.eng with served := s.eng.served.set (e * 65536 + pond) (low.foldl min (low.headD 0)) } }

/-- The next operation an engine activates (R340), if a place is free. -/
def State.nextCopy (s : State) (e : Nat) : Option Nat :=
  let act := s.copiesOn e .running
  let wait := s.copiesOn e .queued
  if 16 ≤ act.length then none
  else
    let held (h : Nat) : Nat := (act.filter (fun p => p.2.pond = h)).length
    let ponds := (wait.map (·.2.pond)).eraseDups
    let may := ponds.filter (fun h => held h < 8 || ponds.all (· = h))
    match minBy? (fun h => s.servedOf e h * 65536 + h) may with
    | none => none
    | some h =>
      (minBy? (fun p => (if p.2.step ≠ 0 then 0 else 1) * 2 ^ 200
        + ((s.host.ctxs.at? p.2.ctx).map (·.prio)).getD 2 * 2 ^ 192 + p.2.queuedAt * 2 ^ 64 + p.1)
        (wait.filter (fun p => p.2.pond = h))).map (·.1)

/-- An operation given its engine's place: a copy becomes active, a run in Flume mode starts (R248, R340). -/
def State.launch (s : State) (id : Nat) : State :=
  match s.op? id with
  | none => s
  | some o =>
    if o.opcode = 0x41 then
      match s.redGroup? o.fn (fld o.desc 0x20 0 64) with
      | some (k, g) => s.startRed id o k g
      | none => s.decide id Status.badGroup 0
    else s.start id

/-- Free places of an engine filled. -/
def State.activate (s : State) (e : Nat) : Nat → State
  | 0 => s
  | n + 1 => match s.nextCopy e with
    | none => s
    | some id => (s.launch id).activate e n

/-- A run at the head of its group's queue: it starts, or in Flume mode takes its place in the queue of the engine with the
fewest bytes queued (R219, R244, R248). -/
def State.headRun (s : State) (id : Nat) (o : Op) (k : Nat) (g : RedGroup) : State :=
  if !g.flume then s.startRed id o k g
  else if o.count = 1 then s.activate o.engine 16
  else match (s.mem.ponds.at? o.pond).bind (fun p => minBy? s.queuedBytes (s.enginesOf p)) with
    | none => s.decide id Status.resourceLost 0
    | some e => (((s.rejoin e o.pond).modOp id (fun o => { o with engine := e, count := 1 }))).activate e 16

/-- RED_RUN (R243, R244): the run joins its group's queue, and starts at its head. -/
def execRedRun (op : Nat) (s : State) : Out :=
  let waiting := match s.op? op with
    | some o => if o.opcode = 0x41 && o.phase = .queued && s.pondLets o then some o else none
    | none => none
  match (match s.go? op 0x41 with | some o => some o | none => waiting) with
  | none => .next (s.asksTiles op)
  | some o => match s.redGroup? o.fn (fld o.desc 0x20 0 64) with
    | none => .next (s.decide op Status.badGroup 0)
    | some (k, g) =>
      let s1 := if o.phase = .fetched then s.enqueue op else s
      let ahead := s.work.ops.any (fun p => p.1 ≠ op && p.2.opcode = 0x41 && p.2.fn = o.fn && p.2.phase = .queued
        && fld p.2.desc 0x20 0 64 = g.gid && (o.phase = .fetched || p.2.queuedAt < o.queuedAt
          || (p.2.queuedAt = o.queuedAt && p.1 < op)))
      if g.run.isSome || ahead then .next s1 else .next (s1.headRun op o k g)

/-- RED_CLOSE (R247): waits for the group's runs already queued, then frees its slot and contexts. Log: 45 (DEDUCED). -/
def execRedClose (op : Nat) (s : State) : Out :=
  match s.go? op 0x42 with
  | none => .next s
  | some o => match s.redGroup? o.fn (fld o.desc 0x20 0 64) with
    | none => .next (s.decide op Status.badGroup 0)
    | some (k, g) =>
      if s.work.ops.any (fun p => p.2.opcode = 0x41 && p.2.fn = o.fn && fld p.2.desc 0x20 0 64 = g.gid
          && (p.2.phase = .queued || p.2.phase = .running)) then .next s
      else .next (({ s with eng := { s.eng with
        groups := s.eng.groups.erase k
        redCrcs := s.eng.redCrcs.filter (fun x => !(x.1 = g.fn && x.2.1 = g.gid)) } }).succeed op)

/-- RED_TABLE_CRC (R242): another device's CRC for a group arrives. -/
def execRedTableCrc (f gid dev crc : Nat) (s : State) : Out :=
  let s1 := { s with eng := { s.eng with
    redCrcs := (f, gid, dev, crc) :: s.eng.redCrcs.filter (fun x => !(x.1 = f && x.2.1 = gid && x.2.2.1 = dev)) } }
  match s1.redGroup? f gid with
  | none => .next s1
  | some (k, _) => .next (s1.compareCrcs k)

/-- The lowest member of a mask. -/
def lowBit (n mask : Nat) : Nat := ((maskBits n mask).head?).getD n

/-- RED_CONTRIBUTION (R244, R245): chunk `chunk` of the contribution of the local member that `mask` names is read and added;
or another device's sum of that chunk over the members of `mask`, whose elements travel in `data` with the numeric flags met so
far, arrives. Log: 43 (DEDUCED), 44 (DEDUCED). -/
def execRedContribution (f gid gen chunk mask : Nat) (data : RedData) (ext : Ext) (s : State) : Out :=
  let held : RedHeld := { fn := f, gid, gen, chunk, mask, flags := data.flags % 8, data := data.bytes }
  match s.redGroup? f gid with
  | none => .next { s with eng := { s.eng with redHeld := s.eng.redHeld ++ [held] } }
  | some (k, g) =>
    let i := lowBit g.members.length mask
    match g.members[i]? with
    | none => .next s
    | some m =>
      if !(s.isLocalMember m) then
        match g.run with
        | some r =>
          if ext.poison && gen = r.gen then
            let (x, s1) := s.drawFree
            .next (s1.decide r.op Status.memoryError (x % 2 ^ 55))
          else .next (s.takeRemote k held)
        | none => .next (s.takeRemote k held)
      else match g.run with
        | none => .next s
        | some r => match s.op? r.op with
          | none => .next s
          | some o =>
            if gen ≠ r.gen || mask ≠ 2 ^ i || g.chunks ≤ chunk || r.has chunk i then .next s
            else match s.readMember (s.agent r.op o g.die 0) ext g r o i chunk m with
              | .stall => .next s
              | .bad st x => .next (s.decide r.op st x)
              | .ok cells =>
                let b := redBytes g.fmt (g.chunkLen chunk)
                let at_ := redBytes g.fmt (1024 * chunk)
                let s0 := if m.loc = 0 then
                    s.touchReads (s.agent r.op o g.die 0) [(m.addr o m.src + at_.1, b.1), (m.addr o m.srcTag + at_.2, b.2)]
                  else s
                let s1 := (s0.noteLatencies o.pond ext.lats).addPart k { chunk, mask, cells } (redNan cells)
                let s2 := if g.flume then
                    s1.serve o.engine o.pond (((s.mem.ponds.at? o.pond).map (·.weight)).getD 16) ((b.1 + b.2 + 4095) / 4096)
                  else s1
                .next (s2.forwardRed k chunk)

/-- The main bytes of elements of the result as memory holds them (R71, R75). -/
def redMain (cells : List Cell) : List Byte :=
  (cells.map (fun c => match c with
    | .q a => leBytes 16 a.q128.1
    | .f v => leBytes 4 (v.getD 0))).flatten

/-- The tag of element `e` of the result (R71, R75) where its chunk is `c` or was delivered before. -/
def RedRun.tagAt (r : RedRun) (c : Nat) (cells : List Cell) (e : Nat) : Option Nat :=
  let of (l : List Cell) : Option Nat := (l[e % 1024]?).map (fun x => match x with
    | .q a => a.q128.2
    | .f _ => 0)
  if e / 1024 = c then of cells else ((r.out.find? (fun x => x.1 = e / 1024)).map (·.2)).bind of

/-- The tag bytes that hold elements `lo` to `hi - 1` of a share of `n` elements starting at `first` (R71): the bits of elements
of chunks not yet delivered, and those past the last element, are those of `pad`. -/
def RedRun.tagBytes (r : RedRun) (c : Nat) (cells : List Cell) (first n lo hi pad : Nat) : List Byte :=
  packBits 2 ((List.range ((hi + 3) / 4 * 4 - lo / 4 * 4)).map (fun i =>
    let e := lo / 4 * 4 + i
    if n ≤ e then bitsOf pad (2 * (e % 4)) 2 else (r.tagAt c cells (first + e)).getD (bitsOf pad (2 * (e % 4)) 2)))

/-- Bytes written at a member's destination. -/
def State.redWrite (s : State) (a : Agent) (ext : Ext) (m : RedMember) (tile : Option Nat) (addr : Nat)
    (bytes : List Byte) : Wrote :=
  if bytes.isEmpty then .ok s
  else if m.loc = 0 then s.writeVa a ext.refused none addr bytes
  else match tile with
    | some t => .ok (s.putSram t addr bytes)
    | none => .bad s Status.resourceLost 0

/-- Elements of chunk `c` that member `i` receives: (first, end) in the result (R237). -/
def RedGroup.shareIn (g : RedGroup) (i c : Nat) : Nat × Nat :=
  let sh := g.share i
  (max sh.1 (1024 * c), min (sh.1 + sh.2) (1024 * c + g.chunkLen c))

/-- Chunk `c` of the result written to a list of local members (R237, R246). -/
def State.redWrites (s : State) (a : Agent) (ext : Ext) (g : RedGroup) (r : RedRun) (o : Op) (c : Nat) (cells : List Cell) :
    List (Nat × RedMember) → Wrote
  | [] => .ok s
  | x :: l =>
    let (pad, s0) := s.drawFree
    let sh := g.share x.1
    let e := g.shareIn x.1 c
    if e.2 ≤ e.1 then s.redWrites a ext g r o c cells l
    else
      let lo := e.1 - sh.1
      let tags := if g.fmt = 0x10 then r.tagBytes c cells sh.1 sh.2 lo (e.2 - sh.1) pad else []
      match s0.redWrite a ext x.2 (r.tileOf x.1) (x.2.addr o x.2.dst + (redBytes g.fmt lo).1)
          (redMain ((cells.drop (e.1 - 1024 * c)).take (e.2 - e.1))) with
      | .ok s1 => match s1.redWrite a ext x.2 (r.tileOf x.1) (x.2.addr o x.2.dstTag + lo / 4) tags with
        | .ok s2 => s2.redWrites a ext g r o c cells l
        | y => y
      | y => y

/-- Elements of chunk `c` delivered here that overflowed (R73, R75). -/
def overflowed (g : RedGroup) (dests : List (Nat × RedMember)) (c : Nat) (cells : List Cell) : Nat :=
  ((List.range (g.chunkLen c)).filter (fun j =>
    dests.any (fun x => (g.shareIn x.1 c).1 ≤ 1024 * c + j && 1024 * c + j < (g.shareIn x.1 c).2)
      && (match getAt (.f none) cells j with
          | .q a => a.overflowed
          | .f _ => false))).length

/-- Local members that receive a result. -/
def State.redDests (s : State) (g : RedGroup) : List (Nat × RedMember) :=
  (s.localMembers g).filter (fun x => g.receives x.1)

/-- Chunks a device awaits before its run completes: on member 0's device all, elsewhere those its members receive from. -/
def State.redNeeds (s : State) (g : RedGroup) : List Nat :=
  (List.range g.chunks).filter (fun c => s.isRedRoot g
    || (s.redDests g).any (fun x => (g.shareIn x.1 c).1 < (g.shareIn x.1 c).2))

/-- A run with every chunk it awaits delivered ends: its flags, and QUERN_OVERFLOW where elements overflowed (R75). -/
def State.settleRed (s : State) (id k : Nat) : State :=
  match s.eng.groups.at? k with
  | none => s
  | some g => match g.run with
    | none => s
    | some r =>
      if (s.redNeeds g).all (fun c => r.out.any (fun x => x.1 = c)) then
        let s1 := s.addFlags id r.flags
        let s2 := if r.ovf ≠ 0 then s1.decide id Status.quernOverflow r.ovf else s1.succeed id
        if g.flume then s2.activate (((s.op? id).map (·.engine)).getD 0) 16 else s2
      else s

/-- Chunk `c` of the result delivered to this device's destinations (R246). -/
def State.deliverRed (s : State) (id k : Nat) (o : Op) (g : RedGroup) (r : RedRun) (ext : Ext) (c : Nat) (cells : List Cell)
    (flags : Nat) : Wrote :=
  let dests := s.redDests g
  match s.redWrites (s.agent id o g.die 0) ext g r o c cells dests with
  | .ok s1 => .ok (s1.modRun k (fun r => { r with
      out := (c, cells) :: r.out, flags := r.flags ||| flags, ovf := r.ovf + overflowed g dests c cells }))
  | w => w

/-- Whether every contribution to every chunk has come to member 0's device. -/
def RedRun.complete (r : RedRun) (g : RedGroup) : Bool :=
  (List.range g.chunks).all (fun c => (r.total g.fmt c g.members.length).isSome)

/-- RED_RUN_DONE (R245, R246, R248): on member 0's device, once every contribution has come, chunk `part.chunk` of the result is
sent to the devices with destinations in it and written here; on another device `part` is that chunk as it arrived with its flags,
and is written here. When all its chunks are delivered and its own sums sent, the run completes. Log: 43 (DEDUCED), 44 (DEDUCED). -/
def execRedRunDone (op : Nat) (part : RedChunk) (ext : Ext) (s : State) : Out :=
  let chunk := part.chunk
  match s.redGroupOf op, s.op? op with
  | some (k, g, r), some o =>
    if !s.crcsMatch g then .next s
    else if !s.isRedRoot g && !(List.range g.chunks).all r.sent.contains then .next s
    else if g.chunks ≤ chunk || r.out.any (fun x => x.1 = chunk) || !(s.redNeeds g).contains chunk then .next (s.settleRed op k)
    else
      let got := if s.isRedRoot g then (if r.complete g then r.total g.fmt chunk g.members.length else none)
        else if part.data.bytes.length ≠ g.chunkLen chunk * wireSize g.fmt then none
        else some (wireCells g.fmt (g.chunkLen chunk) part.data.bytes, part.data.flags % 8)
      match got with
      | none => .next s
      | some (cells, fl) => match s.deliverRed op k o g r ext chunk cells fl with
        | .stall => .next s
        | .bad s1 st x => .next (s1.decide op st x)
        | .ok s1 =>
          let devs := if s.isRedRoot g then (s.otherDevices g).filter (fun d =>
              ((List.range g.members.length).zip g.members).any (fun x => x.2.dev = d && g.receives x.1
                && (g.shareIn x.1 chunk).1 < (g.shareIn x.1 chunk).2))
            else []
          let s2 := devs.foldl (fun s d => s.send
            { kind := .redResult, dst := d, mere := g.mere, id := g.gid, args := [r.gen, chunk, r.flags ||| fl]
              data := (cells.map cellWire).flatten }) s1
          .next (s2.settleRed op k)
  | _, _ => .next s

/-- RED_TIMEOUT (R249): a run has not received every contribution within timeout_us, and has delivered nothing. -/
def execRedTimeout (op : Nat) (s : State) : Out :=
  match s.redGroupOf op with
  | none => .next s
  | some (_, g, r) =>
    if (s.isRedRoot g && s.crcsMatch g && r.complete g) || !r.out.isEmpty then .next s
    else .next (s.decide op Status.groupTimeout 0)

/-- RED_CANCEL (R249): a cancel for a group and gen arrives; chunks delivered before it stay. Log: 45 (DEDUCED). -/
def execRedCancel (f gid gen : Nat) (s : State) : Out :=
  .next ((s.liveOps (fun o => o.opcode = 0x41 && o.fn = f && fld o.desc 0x20 0 64 = gid && fld o.desc 0x28 0 32 = gen
    && (o.phase = .queued || o.phase = .running))).foldl (fun s i => s.decide i Status.groupCancelled 0) s)

end Sys2Proof.Machine
end

