-- ==== Sys2Proof/Machine/Flume.lean ====
section
/-! DEFINITION. Flume copies, loft prefetch and demotion (07_memory_hierarchy, R340 of 11_scheduling_and_beats). -/

namespace Sys2Proof.Machine

/-- Bytes a FLUME_COPY moves (R217), and its segments of 4 KiB of destination bytes (R216). -/
def copyBytes (d : Nat) : Nat := fld d 0x20 0 32 * fld d 0x24 0 32

def copySegments (d : Nat) : Nat := (copyBytes d + 4095) / 4096

/-- Location and rank of a copy's source (`false`) or destination (`true`). -/
def copyLoc (d : Nat) (dst : Bool) : Nat := if dst then fld d 0x40 2 2 else fld d 0x40 0 2

def copyRank (d : Nat) (dst : Bool) : Nat := if dst then fld d 0x44 0 9 else fld d 0x42 0 9

/-- Address of byte `j` of a copy, row by row. -/
def copyAddr (d : Nat) (dst : Bool) (j : Nat) : Nat :=
  let rb := max 1 (fld d 0x20 0 32)
  fld d (if dst then 0x30 else 0x28) 0 55 + j / rb * fld d (if dst then 0x3C else 0x38) 0 32 + j % rb

/-- The byte of a copy whose source or destination address is `a`, if any. -/
def copyIndex (d : Nat) (dst : Bool) (a : Nat) : Option Nat :=
  let base := fld d (if dst then 0x30 else 0x28) 0 55
  let rb := max 1 (fld d 0x20 0 32)
  let rows := fld d 0x24 0 32
  let st := fld d (if dst then 0x3C else 0x38) 0 32
  if a < base then none
  else
    let r := if rows ≤ 1 then 0 else (a - base) / max 1 st
    let c := a - base - r * st
    if r < rows && c < rb then some (r * rb + c) else none

/-- The tile of one side of a copy. -/
def Pond.copyTile (p : Pond) (d : Nat) (dst : Bool) : Option Nat :=
  if copyLoc d dst = 0 then none else (p.tileOf (copyLoc d dst = 2) (copyRank d dst)).join

/-- Whether source and destination of a copy overlap, by their addresses (R219). Log: 35 (DESIGN CHOICE). -/
def Pond.copyOverlaps (p : Pond) (d : Nat) : Bool :=
  let n := copyBytes d
  let lo (b : Bool) : Nat := copyAddr d b 0
  let hi (b : Bool) : Nat := copyAddr d b (n - 1) + 1
  (copyLoc d false = 0) = (copyLoc d true = 0) && p.copyTile d false = p.copyTile d true
    && lo false < hi true && lo true < hi false

/-- The pull or push subscription a copy fits (R221): its source lies wholly in one subscription's range, and its
destination at the matching offset of the landing range. -/
def State.pushSubFor (s : State) (o : Op) : Option Nat :=
  let d := o.desc
  let n := copyBytes d
  let rows := fld d 0x24 0 32
  if fld d 0x41 3 1 = 0 || copyLoc d false ≠ 0 || copyLoc d true ≠ 0 then none
  else (s.fab.pushIn.find? (fun x =>
    x.2.op = 0 && x.2.fn = o.fn && x.2.srcVa ≤ copyAddr d false 0
      && copyAddr d false (n - 1) < x.2.srcVa + x.2.len
      && copyAddr d true 0 + x.2.srcVa = copyAddr d false 0 + x.2.landVa
      && (rows ≤ 1 || fld d 0x38 0 32 = fld d 0x3C 0 32))).map (·.1)

/-- Whether a copy enters its queue in push mode (R221, R503): push-capable, its pond in push mode, and fewer than 16
copies waiting on the subscription. -/
def State.entersPush (s : State) (o : Op) : Option Nat :=
  match s.pushSubFor o with
  | none => none
  | some k => match s.fab.pushIn.at? k with
    | some x => if (s.weir.ponds.get WeirPond.reset o.pond).push && x.waiting.length < 16 then some k else none
    | none => none

/-- Bytes of free values a copy with overlapping ranges takes. Log: 35 (DESIGN CHOICE). -/
def State.takeCoins (s : State) (n : Nat) : State := { s with work := { s.work with free := s.work.free + n } }

/-- A copy placed on engine `e` in its mode (R219, R221, R340). Log: 36 (DEDUCED). -/
def State.placeCopy (s : State) (id : Nat) (o : Op) (p : Pond) (e : Nat) : State :=
  let s1 := s.rejoin e o.pond
  let s2 := (s1.enqueue id).modOp id (fun x => { x with engine := e, coin := s1.work.free, olds := [], done := [] })
  let s3 := if p.copyOverlaps o.desc then s2.takeCoins (copyBytes o.desc) else s2
  match s.entersPush o with
  | some k =>
    let s4 := (s3.start id).modOp id (fun x => { x with push := true })
    { s4 with fab := { s4.fab with pushIn := s4.fab.pushIn.modify k (fun x => { x with waiting := x.waiting ++ [(id, [])] }) } }
  | none => s3.activate e 16

/-- FLUME_COPY (R217 to R221, R340): the copy is placed on the engine of its pond's share with the fewest bytes queued,
and becomes active when a place is free; a copy struck by a fence in a sluice is placed again. -/
def execFlumeCopy (op : Nat) (s : State) : Out :=
  let again := match s.op? op with
    | some o => if o.opcode = 0x10 && o.phase = .queued && !o.awaitsRegrow && s.fenced 7 o.engine then some o else none
    | none => none
  match (match s.go? op 0x10 with | some o => some o | none => again) with
  | none => .next (s.asksTiles op)
  | some o => match s.mem.ponds.at? o.pond with
    | none => .next (s.decide op Status.badPond 0)
    | some p => match minBy? s.queuedBytes (s.enginesOf p) with
      | none => .next (s.decide op Status.resourceLost 0)
      | some e => .next (s.placeCopy op o p e)

/-- The effective hint of one side of a copy (R205, R207). -/
def copyHint (o : Op) (dst : Bool) : Option Hint :=
  if o.fn = 0 then some .noalloc
  else match (if dst then fld o.desc 0x41 0 3 else fld o.desc 0x40 4 3) with
    | 1 => some .alloc
    | 2 => some .noalloc
    | 3 => some .evictFirst
    | _ => none

/-- A source read of a copy: `n` bytes at address `addr`. -/
def State.copyRead (s : State) (a : Agent) (ext : Ext) (d : Nat) (tile : Option Nat) (addr n : Nat) : Acc (List Byte) :=
  if copyLoc d false = 0 then s.readVa a ext addr n
  else match tile with
    | none => .bad Status.resourceLost 0
    | some t => if s.sramPoisoned t addr n then .bad Status.memoryError addr else .ok (s.readSram t addr n)

/-- What a source byte held before the copy: as it overwrote it, else as it is now. -/
def State.origByte (s : State) (a : Agent) (ext : Ext) (o : Op) (tile : Option Nat) (addr : Nat) : Byte :=
  match o.olds.find? (fun x => x.1 = addr) with
  | some x => x.2
  | none => match s.copyRead a ext o.desc tile addr 1 with
    | .ok bs => bs.headD 0
    | _ => 0

/-- Byte `j` of a copy whose ranges overlap (R219): the source byte from before the copy's own write of it, or after,
by a free value of that byte. Log: 35 (DESIGN CHOICE). -/
def State.overlapByte (s : State) (a : Agent) (ext : Ext) (o : Op) (tile : Option Nat) : Nat → Nat → Byte
  | 0, j => s.origByte a ext o tile (copyAddr o.desc false j)
  | fuel + 1, j =>
    let addr := copyAddr o.desc false j
    match copyIndex o.desc true addr with
    | none => s.origByte a ext o tile addr
    | some k =>
      if k = j || Config.freeNat (o.coin + j) % 2 = 0 then s.origByte a ext o tile addr
      else s.overlapByte a ext o tile fuel k

/-- A segment cut where a row or a 64-byte granule of its source ends: (first byte, bytes). -/
def copyCuts (d seg : Nat) : List (Nat × Nat) :=
  let rb := max 1 (fld d 0x20 0 32)
  let lo := seg * 4096
  let hi := min (lo + 4096) (copyBytes d)
  let starts := (List.range (hi - lo)).filter (fun i =>
    i = 0 || (lo + i) % rb = 0 || copyAddr d false (lo + i) % 64 = 0)
  (starts.zip (starts.drop 1 ++ [hi - lo])).map (fun x => (lo + x.1, x.2 - x.1))

/-- Poison written to the destination lines that match poisoned source bytes, wherever the destination lies (R219, R639,
R640). Log: 34 (DEDUCED), 121 (DESIGN CHOICE). -/
def State.copyPoison (s : State) (a : Agent) (o : Op) (p : Pond) (j n : Nat) : State :=
  let addr := copyAddr o.desc true j
  match p.copyTile o.desc true with
  | some t =>
    let words := ((granules (t * 0x400000 + addr) n).map (fun g => (List.range 8).map (g / 8 + ·))).flatten
    { s with mem := { s.mem with
        sramPoison := s.mem.sramPoison ++ words.filter (fun w => !s.mem.sramPoison.contains w) } }
  | none =>
    if o.sluice ≠ 0 then s
    else (pieces addr n).foldl (fun s x => match s.translate a x.1 with
      | .ok (.local_ off) _ => (linesOf off x.2).foldl (fun s l =>
          let (c, s1) := s.drawFree
          s1.poisonLine l (c % 16) 5 (s.homeOf (l * 128))) s
      | .ok (.host bus) _ => s.poisonHost o.fn bus x.2
      | .ok (.remote dev off) _ =>
        if s.pathTo a.pond dev ≠ .open_ then s
        else s.send { kind := .poison, dst := dev, mere := (s.mereFor a.pond dev).getD 0, id := 0, args := [off, x.2], data := [] }
      | .ok (.window dev idx off) _ =>
        if s.pathTo a.pond dev ≠ .open_ then s
        else s.send { kind := .poison, dst := dev, mere := (s.mereFor a.pond dev).getD 0, id := 65536 + idx, args := [off, x.2]
                      data := [] }
      | _ => s) s

/-- One cut of a segment copied; `.bad` ends the copy. Log: 34 (DEDUCED). -/
def State.copyCut (s : State) (id : Nat) (a : Agent) (ext : Ext) (o : Op) (p : Pond) (j n : Nat) : Wrote :=
  let d := o.desc
  let beyond := p.copyOverlaps d
  let src := copyAddr d false j
  let dst := copyAddr d true j
  let st := p.copyTile d false
  match s.copyRead a ext d st src n with
  | .stall => .stall
  | .bad c x =>
    let poisoned := c = Status.memoryError && (copyLoc d false ≠ 0 || (match s.translate a src with | .ok .. => true | _ => false))
    .bad (if poisoned then s.copyPoison a o p j n else s) c (if copyLoc d false ≠ 0 then 0 else x)
  | .ok bs =>
    let data := if beyond then (List.range n).map (fun i => s.overlapByte a ext o st (copyBytes d) (j + i)) else bs
    let s1 := if copyLoc d false = 0 then s.touchRead a (copyHint o false) src n else s
    let old := if beyond then (List.range n).filterMap (fun i =>
        if (copyIndex d false (dst + i)).isSome && !o.olds.any (fun x => x.1 = dst + i) then
          some (dst + i, s.origByte a ext o st (dst + i)) else none) else []
    let s2 := if old.isEmpty then s1 else s1.modOp id (fun o => { o with olds := o.olds ++ old })
    match p.copyTile d true with
    | some t => .ok (s2.putSram t dst data)
    | none =>
      if copyLoc d true ≠ 0 then .bad s Status.resourceLost 0
      else s2.writeVa a ext.refused (copyHint o true) dst data

/-- The cuts of a list in order. -/
def State.copyCutList (s : State) (id : Nat) (a : Agent) (ext : Ext) (p : Pond) : List (Nat × Nat) → Wrote
  | [] => .ok s
  | x :: l => match s.op? id with
    | none => .ok s
    | some o => match s.copyCut id a ext o p x.1 x.2 with
      | .ok s1 => s1.copyCutList id a ext p l
      | w => w

/-- A cut less the bytes whose destination a push has filled (R221). -/
def Op.unlanded (o : Op) (x : Nat × Nat) : List (Nat × Nat) :=
  if o.landed.isEmpty then [x]
  else
    let here (i : Nat) : Bool :=
      let at_ := copyAddr o.desc true (x.1 + i)
      o.landed.any (fun r => r.1 ≤ at_ && at_ < r.1 + r.2)
    let starts := (List.range x.2).filter (fun i => i = 0 || here i ≠ here (i - 1))
    ((starts.zip (starts.drop 1 ++ [x.2])).filter (fun y => !here y.1)).map (fun y => (x.1 + y.1, y.2 - y.1))

/-- The cuts of a segment in order, less what a push has filled. -/
def State.copyCutAll (s : State) (id : Nat) (a : Agent) (ext : Ext) (p : Pond) (l : List (Nat × Nat)) : Wrote :=
  s.copyCutList id a ext p (match s.op? id with
    | some o => (l.map o.unlanded).flatten
    | none => [])

/-- FLUME_SEGMENT_DONE (R216, R219, R340): the engine finishes segment `seg` of an active copy; the pond's service
counter rises, and after the last segment the copy ends. Log: 34 (DEDUCED). -/
def execFlumeSegmentDone (op seg : Nat) (ext : Ext) (s : State) : Out :=
  match s.op? op with
  | none => .next s
  | some o0 =>
    let s0 := if o0.opcode = 0x10 then s.activate o0.engine 16 else s
    match s0.op? op, s0.mem.ponds.at? o0.pond with
    | some o, some p =>
      if o.opcode ≠ 0x10 || o.phase ≠ .running || o.push || o.done.contains seg || copySegments o.desc ≤ seg then .next s0
      else
        let a := s0.agent op o (o.engine / 4) 0
        match (s0.noteLatencies o.pond ext.lats).copyCutAll op a ext p (copyCuts o.desc seg) with
        | .stall => .next s0
        | .bad s1 st x => .next ((s1.decide op st x).activate o.engine 16)
        | .ok s1 =>
          let s2 := s1.serve o.engine o.pond p.weight 1
          let s3 := s2.modOp op (fun o => { o with done := seg :: o.done })
          .next (if o.done.length + 1 = copySegments o.desc then (s3.succeed op).activate o.engine 16 else s3)
    | _, _ => .next s0

/-- The lines of a prefetch or demote, by virtual address (R208). -/
def loftLines (d : Nat) : List Nat := (linesOf (fld d 0x20 0 55) (fld d 0x28 0 32)).map (· * 128)

/-- Local offsets of a list of line addresses, with the page's hint; a range elsewhere is BAD_TARGET (R209). -/
def State.loftOffsets (s : State) (a : Agent) : List Nat → Acc (List (Nat × Nat))
  | [] => .ok []
  | va :: l => match s.translate a va with
    | .fault c v => .bad Status.translationFault (xlatDetail va c v)
    | .poison => .bad Status.memoryError va
    | .stall => .stall
    | .ok (.local_ off) h => match s.loftOffsets a l with
      | .ok r => .ok ((off, h) :: r)
      | x => x
    | .ok _ _ => .bad Status.badTarget va

/-- A LOFT_PREFETCH descriptor of one mode that may go on, run with `body` on its lines (R209). -/
def State.loftRun (s : State) (op mode : Nat) (body : Op → State → Nat × Nat → State) : State :=
  match s.go? op 0x11 with
  | none => s
  | some o =>
    if fld o.desc 0x2C 0 2 ≠ mode then s
    else match s.loftOffsets (s.newt o.fn o.ctx 0) (loftLines o.desc) with
      | .ok l => (l.foldl (body o) s).succeed op
      | .bad st x => s.decide op st x
      | .stall => s

/-- LOFT_PREFETCH, mode 0 (R209): every line of the range is brought in under its effective hint; the manager's allocates
nothing (R207). -/
def execLoftPrefetch (op : Nat) (s : State) : Out :=
  .next (s.loftRun op 0 (fun o s x =>
    let h := fld o.desc 0x2C 2 3
    s.loftTouch x.1 (if o.fn = 0 then .noalloc else if h = 1 then .alloc else if h = 3 then .evictFirst else hintOf x.2) (s.maskFor o.pond x.1) false))

/-- LOFT_DEMOTE: LOFT_PREFETCH, mode 1 (R209): every present line of the range becomes least recently used: of the lines
never used since they came, the first of the list is the oldest. -/
def execLoftDemote (op : Nat) (s : State) : Out :=
  .next (s.loftRun op 1 (fun _ s x => { s with mem := { s.mem with
    loft := (s.mem.loft.filter (fun l => l.line = x.1 / 128)).map (fun l => { l with used := 0 })
      ++ s.mem.loft.filter (fun l => l.line ≠ x.1 / 128) } }))

end Sys2Proof.Machine
end

