-- ==== Sys2Proof/Machine/Elementary.lean ====
section
/-! DEFINITION. The elementary functions of R128, R142 and R169 at finite arguments: the exact value to far more bits than
a result holds, and the choice the manual leaves, any FP32 value within 2 ulp of it. Fixed point throughout: an `Int` in
units of 2^-400. Log: 7. -/

namespace Sys2Proof.Machine

/-- Bits after the point. -/
def fxBits : Nat := 400

def fxOne : Int := 2 ^ fxBits

def fxMul (x y : Int) : Int := x * y / fxOne

def fxDiv (x y : Int) : Int := x * fxOne / y

def fxSqrt (x : Int) : Int := (x.toNat * 2 ^ fxBits).sqrt

/-- A finite FP32 value in fixed point: exact, since its lowest bit is at least 2^-149. -/
def fxOf (neg : Bool) (m : Nat) (e : Int) : Int :=
  let a : Int := ((m : Int) * 2 ^ (e + fxBits).toNat)
  if neg then -a else a

/-- The sum of `fuel` terms: term `n` is `weigh n t`, and `step n t` makes the next `t`. -/
def fxSum (step weigh : Nat → Int → Int) : Nat → Nat → Int → Int
  | 0, _, _ => 0
  | k + 1, n, t => weigh n t + fxSum step weigh k (n + 1) (step n t)

/-- `x` squared `n` times. -/
def fxSquares : Nat → Int → Int
  | 0, x => x
  | n + 1, x => fxSquares n (fxMul x x)

/-- e^x. Past e^130, where every result is infinite, and below e^-300, where every result is the least, x is held. -/
def fxExp (x : Int) : Int :=
  let r := max (-300 * fxOne) (min (130 * fxOne) x) / 1024
  fxSquares 10 (fxSum (fun n t => fxMul t r / ((n : Int) + 1)) (fun _ t => t) 90 0 fxOne)

/-- atanh y, |y| at most 1/3; with `alt`, atan y. -/
def fxAtan (alt : Bool) (y : Int) : Int :=
  let y2 := if alt then -(fxMul y y) else fxMul y y
  fxSum (fun _ t => fxMul t y2) (fun n t => t / (2 * (n : Int) + 1)) 140 0 y

/-- π, by Machin's formula. -/
def fxPi : Int := 16 * fxAtan true (fxOne / 5) - 4 * fxAtan true (fxOne / 239)

def fxLn2 : Int := 2 * fxAtan false (fxOne / 3)

/-- ln of m × 2^e, m not zero. -/
def fxLn (m : Nat) (e : Int) : Int :=
  let j := m.log2
  2 * fxAtan false (fxDiv ((m : Int) - 2 ^ j) ((m : Int) + 2 ^ j)) + ((j : Int) + e) * fxLn2

/-- sin x, or cos x. -/
def fxSin (cosine : Bool) (x : Int) : Int :=
  let turn := 2 * fxPi
  let r := x % turn - (if x % turn > fxPi then turn else 0)
  let c : Int := if cosine then 1 else 2
  fxSum (fun n t => -(fxMul t (fxMul r r)) / ((2 * n + c) * (2 * n + c + 1))) (fun _ t => t) 90 0 (if cosine then fxOne else r)

/-- 1 / (1 + e^-x). -/
def fxSigmoid (x : Int) : Int := fxDiv fxOne (fxOne + fxExp (min (-x) (129 * fxOne)))

/-- tanh x. -/
def fxTanh (x : Int) : Int :=
  let w := fxExp (-2 * (if x < 0 then -x else x))
  let a := fxDiv (fxOne - w) (fxOne + w)
  if x < 0 then -a else a

/-- erf x; past 13 it is ±1 to more bits than a result holds. -/
def fxErf (x : Int) : Int :=
  let a := if x < 0 then -x else x
  let v :=
    if a > 13 * fxOne then fxOne
    else
      let w := 2 * fxMul a a
      fxDiv (2 * fxMul (fxExp (-(fxMul a a))) (fxSum (fun n t => fxMul t w / (2 * (n : Int) + 3)) (fun _ t => t) 900 0 a))
        (fxSqrt fxPi)
  if x < 0 then -v else v

/-- The exact value of a function of R169, by its opcode, of a finite value its special cases do not take. -/
def fxVane (op : Nat) (neg : Bool) (m : Nat) (e : Int) : Int :=
  let x := fxOf neg m e
  match op with
  | 0x38 => fxExp x
  | 0x39 => fxLn m e
  | 0x3A => fxDiv fxOne x
  | 0x3B => fxDiv fxOne (fxSqrt x)
  | 0x3C => fxSin false x
  | 0x3D => fxSin true x
  | 0x3E => fxTanh x
  | _ => fxErf x

/-- The exact value of a built-in activation of R128, by its code. Log: 7 (PRESUMED: the constants of GELU's tanh form). -/
def fxAct (code : Nat) (neg : Bool) (m : Nat) (e : Int) : Int :=
  let x := fxOf neg m e
  match code with
  | 3 => fxMul x (fxOne + fxErf (fxDiv x (fxSqrt (2 * fxOne)))) / 2
  | 4 =>
    let c := fxSqrt (fxDiv (2 * fxOne) fxPi)
    fxMul x (fxSigmoid (2 * fxMul c (x + fxMul x (fxMul x x) * 44715 / 1000000)))
  | 5 => fxMul x (fxSigmoid x)
  | 6 => fxSigmoid x
  | _ => fxTanh x

/-- The FP32 value a signed count of encodings from zero stands for, in fixed point; the first one past the largest finite
value stands for infinity. -/
def fxKey (k : Int) : Int :=
  match f32 k.natAbs with
  | .fin _ m e => fxOf (k < 0) m e
  | _ => if k < 0 then -(2 ^ 128 * fxOne) else 2 ^ 128 * fxOne

/-- The unit in the last place of an exact value's binade. Log: 7 (DEDUCED). -/
def fxUlp (a : Int) : Int := 2 ^ (max ((a.natAbs.log2 : Int) - 23) ((fxBits : Int) - 149)).toNat

/-- The FP32 encodings within 2 ulp of the exact value `a`, the nearest always among them; of a zero, both signs. -/
def withinTwoUlp (a : Int) : List Nat :=
  let near : Nat := (toF32 (.fin (a < 0) a.natAbs (-(fxBits : Int)))).1 % 2 ^ 31
  let k : Int := if a < 0 then -(near : Int) else near
  let ok (c : Int) : Bool :=
    c.natAbs ≤ 0x7F800000 && (c = k || decide ((fxKey c - a).natAbs ≤ (2 * fxUlp a + fxUlp a / 1024).natAbs))
  (((List.range 11).map (fun i : Nat => k + (i : Int) - 5)).filter ok).flatMap (fun c =>
    if c = 0 then [0, 0x80000000] else [if c < 0 then 0x80000000 + c.natAbs else c.natAbs])

/-- What the implementation returns at the finite encoding `x` for function `fn`: always the same one of the values
within 2 ulp of the exact one (R128, R169). Log: 7 (DESIGN CHOICE). -/
def elementary (fn : Nat) (a : Int) (x : Nat) : Nat :=
  let l := withinTwoUlp a
  getAt 0 l (Config.ulpPick fn x % l.length)

end Sys2Proof.Machine
end

