-- ==== Sys2Proof/Machine/Mill.lean ====
section
/-! DEFINITION. Mill operations (04_millstone_tile, 05_mill_operations): prologue fills, the
stone array's partial sums, ksplit deliveries, and the epilogue of gemm and ggemm. -/

namespace Sys2Proof.Machine

/-- The detail a mill op's completion holds for a failed access (R151): the tile for poison, else the address.
Log: 101 (DEDUCED). -/
def millDetail (status detail tile : Nat) : Nat :=
  if status = Status.memoryError then tile else if status = Status.badTarget then detail % 2 ^ 55 else detail

/-- A mill op ends by a failed access of a tile (R104, R107, R152). -/
def State.millFails (s : State) (id tile status detail : Nat) : State :=
  s.decide id status (millDetail status detail tile)

/-- Bytes of the `q`-th panel of the rank's part in row `r` of an operand: virtual address and element count; `none` =
a masked row. -/
def panelRow (d : Nat) (table : List Nat) (k : MillRank) (b : Bool) (i : MillItem) (q r srcRow : Nat) :
    Option (Nat × Nat) :=
  let w := fmtBits (operandFmt d b)
  let kk := k.k0 + 32 * q
  let n := min 32 (k.k1 - kk)
  if b then
    if i.cols ≤ r then none
    else
      let base := if fld d 0 8 8 = 0x21 then fld (getAt 0 table i.grp) 0x10 0 55 else fld d 0x48 0 55
      some (base + (i.col0 + r) * fld d 0x5C 0 32 + kk * w / 8, n)
  else if i.rows ≤ r then none
  else some (fld d 0x40 0 55 + srcRow * fld d 0x58 0 32 + kk * w / 8, n)

/-- Address of the scale byte of a panel row (R118). -/
def panelScale (d : Nat) (table : List Nat) (k : MillRank) (b : Bool) (i : MillItem) (q r srcRow : Nat) : Nat :=
  let kb := k.k0 / 32 + q
  if b then
    (if fld d 0 8 8 = 0x21 then fld (getAt 0 table i.grp) 0x18 0 55 else fld d 0x70 0 55)
      + (i.col0 + r) * fld d 0x84 0 32 + kb
  else fld d 0x68 0 55 + srcRow * fld d 0x80 0 32 + kb

/-- Row of A that output row `row` reads (R134, R138): itself, or its gather index; a bad index is BAD_INDEX. -/
def State.gatherRow (s : State) (a : Agent) (ext : Ext) (d row : Nat) : Acc Nat :=
  if fld d 0 8 8 = 0x21 ∧ fld d 0xEC 16 1 = 1 then
    match s.readVa a ext (fld d 0xE0 0 55 + 4 * row) 4 with
    | .ok bs => if fld d 0xE8 0 32 ≤ leNat bs then .bad Status.badIndex row else .ok (leNat bs)
    | .bad st x => .bad st x
    | .stall => .stall
  else .ok row

/-- The rows of one page of a panel as read from memory: element bytes and, for MX, the scale byte; masked rows and
k-steps are zero (R123). -/
def State.panelRows (s : State) (a : Agent) (ext : Ext) (d : Nat) (table : List Nat) (k : MillRank) (b : Bool)
    (i : MillItem) (q : Nat) : List Nat → Acc (List (List Byte × Byte))
  | [] => .ok []
  | r :: rs =>
    let w := fmtBits (operandFmt d b)
    let one : Acc (List Byte × Byte) :=
      if (if b then i.cols else i.rows) ≤ r then .ok (List.replicate (4 * w) 0, 0)
      else match (if b then Acc.ok 0 else s.gatherRow a ext d (i.row0 + r)) with
        | .bad st x => .bad st x
        | .stall => .stall
        | .ok src => match panelRow d table k b i q r src with
          | none => .ok (List.replicate (4 * w) 0, 0)
          | some (va, n) => match s.readVa a ext va (packed w n) with
            | .bad st x => .bad st x
            | .stall => .stall
            | .ok bs =>
              let row := (bs ++ List.replicate (4 * w - bs.length) 0)
              if isMx (operandFmt d b) then
                match s.readVa a ext (panelScale d table k b i q r src) 1 with
                | .ok sc => .ok (row, sc.headD 0)
                | .bad st x => .bad st x
                | .stall => .stall
              else .ok (row, 0)
    match one with
    | .bad st x => .bad st x
    | .stall => .stall
    | .ok p => match s.panelRows a ext d table k b i q rs with
      | .ok ps => .ok (p :: ps)
      | y => y

/-- The reads a fill of some rows of a panel makes (R118, R123): (address, bytes). -/
def State.panelReads (s : State) (a : Agent) (ext : Ext) (d : Nat) (table : List Nat) (k : MillRank) (b : Bool)
    (i : MillItem) (q : Nat) (rows : List Nat) : List (Nat × Nat) :=
  (rows.map (fun r =>
    match (if b then Acc.ok 0 else s.gatherRow a ext d (i.row0 + r)) with
    | .ok src => match panelRow d table k b i q r src with
      | some (va, n) => (va, packed (fmtBits (operandFmt d b)) n)
          :: (if isMx (operandFmt d b) then [(panelScale d table k b i q r src, 1)] else [])
      | none => []
    | _ => [])).flatten

/-- The 32 values of row `r` of a panel in tile SRAM; k-steps beyond the part are masked and not among them. -/
def State.panelVals (s : State) (d tile : Nat) (b : Bool) (pos r n : Nat) : List Val :=
  let fmt := operandFmt d b
  let w := fmtBits fmt
  match elemOf fmt with
  | none => []
  | some x =>
    let els := unpackBits w n (s.readSram tile (panelAt d b pos 0 + r * 4 * w) (4 * w))
    if isMx fmt then
      let sc := leNat (s.readSram tile (scaleAt d b pos + r) 1)
      els.map (fun e => mxValue x sc e)
    else els.map x.decode

/-- A Quern sum after the products of one panel (R46, R67, R85): the sum, and invalid of its products (R675). -/
def quernDot (anchor : Int) (c : Quern) (l : List (Val × Val)) : Quern × Nat :=
  l.foldl (fun x p =>
    let m := p.1.mul p.2
    (x.1.add (termOf anchor m.1), x.2 ||| m.2)) (c, 0)

/-- The exact sum of a block of rounded products (R79 step 2): invalid where infinities of both signs are among them.
Log: 124 (DEDUCED). -/
def sumVals (l : List Val) : Val × Nat :=
  if l.contains (.inf false) && l.contains (.inf true) then (.nan, flagInvalid)
  else match l with
    | [] => (.fin false 0 0, 0)
    | v :: vs => (vs.foldl (fun a b => (a.add b).1) v, 0)

/-- A canonical FP32 fold after one block of at most 32 products (R79): the fold and flags. -/
def foldBlock (c : Option Nat) (l : List (Val × Val)) : Nat × Nat :=
  let ps := l.map (fun p =>
    let m := p.1.mul p.2
    let r := toF32 m.1
    (f32 r.1, m.2 ||| r.2))
  let sum := sumVals (ps.map (·.1))
  let blk := toF32 sum.1
  let fl := ps.foldl (fun f p => f ||| p.2) (sum.2 ||| (if ps.any (fun p => match p.1 with | .inf _ => true | _ => false)
    then 0 else blk.2))
  match c with
  | none => (blk.1, fl)
  | some v =>
    let r := f32Add v blk.1
    (r.1, fl ||| r.2)

/-- One element's cell after one panel. -/
def Cell.step (fp : Bool) (anchor : Int) (c : Option Cell) (l : List (Val × Val)) : Cell × Nat :=
  let nan := nanIn (l.map (·.1)) ||| nanIn (l.map (·.2))
  if fp then
    let r := foldBlock (match c with | some (.f v) => v | _ => none) l
    (.f (some r.1), r.2 ||| nan)
  else
    let r := quernDot anchor (match c with | some (.q a) => a | _ => Quern.zero) l
    (.q r.1, r.2 ||| nan)

/-- The cells of an item after one panel of A and B in tile SRAM. -/
def State.panelStep (s : State) (d : Nat) (anchor : Int) (k : MillRank) (i : MillItem) (pa pb : Nat) : List Cell × Nat :=
  let n := min 32 (k.k1 - (k.k0 + 32 * k.q))
  let as_ := (List.range i.rows).map (fun r => s.panelVals d k.tile false pa r n)
  let bs := (List.range i.cols).map (fun r => s.panelVals d k.tile true pb r n)
  let fp := fld d 0x2C 28 1 = 1
  let cells := ((as_.zip (List.range i.rows)).map (fun x => (bs.zip (List.range i.cols)).map (fun y =>
    Cell.step fp anchor (k.cells[x.2 * i.cols + y.2]?) (x.1.zip y.1)))).flatten
  (cells.map (·.1), cells.foldl (fun f c => f ||| c.2) 0)

/-- Whether a panel's bytes in tile SRAM, its scale line included, hold poison (R107). -/
def State.panelPoisoned (s : State) (d tile : Nat) (b : Bool) (pos : Nat) : Bool :=
  s.sramPoisoned tile (panelAt d b pos 0) (128 * 4 * fmtBits (operandFmt d b))
    || (isMx (operandFmt d b) && s.sramPoisoned tile (scaleAt d b pos) 128)

/-- A rank whose accumulating block has its last k-step: the set changes places with the other, unless that one still waits
for its drain (R84). -/
def MillRank.turnOver (k : MillRank) : MillRank :=
  if k.q = k.panels && k.full.isNone then { k with full := some k.cells, cells := [], q := 0 } else k

/-- The stagers and the array of rank `r` consume the panels of its present item as far as they are there and a set is
free (R83 to R88, R92, R99). A panel is read from tile SRAM when it is consumed. Poison ends the op. Log: 29 (DEDUCED). -/
def State.consume (s : State) (id r : Nat) : Nat → State
  | 0 => s
  | fuel + 1 => match s.eng.mills.at? id, s.op? id with
    | some m, some o => match m.ranks.at? r with
      | none => s
      | some k =>
        let d := o.desc
        let items := m.items d k
        match items[k.feeding]? with
        | none => s
        | some i =>
          let na := panelNumber d items k false k.feeding k.q
          let nb := panelNumber d items k true k.feeding k.q
          let pa := panelPos d false na
          let pb := panelPos d true nb
          if k.q < k.panels && k.holds d false na && k.holds d true nb && s.panelReady d k.tile false pa
              && s.panelReady d k.tile true pb && s.feedTurn id k.tile && s.setsHeld k.tile < 2 then
            if s.panelPoisoned d k.tile false pa || s.panelPoisoned d k.tile true pb then
              s.millFails id k.tile Status.memoryError 0
            else
              let (cells, fl) := s.panelStep d (getAt 0 m.anchors 0) k i pa pb
              (((s.modRank id r (fun k => { k with q := k.q + 1, cells }.turnOver)).addFlags id fl).refreshBoard).consume
                id r fuel
          else s
    | _, _ => s

/-- Most panels a rank consumes at one event. -/
def consumeFuel : Nat := 1048576

/-- FILL_LANDED (R92, R123): all bytes of a fill into one page of rank `rank` have landed: of panel number `seq` of
A or B, page `half`. For attend, whose window has no layout of its own, `seq` is the page of the window.
Log: 29 (DEDUCED). -/
def execFillLanded (op rank : Nat) (b : Bool) (seq half : Nat) (ext : Ext) (s0 : State) : Out :=
  let s := s0.findErrors ext
  match s.eng.mills.at? op, s.op? op with
  | some m, some o => match m.ranks.at? rank with
    | none => .next s
    | some k =>
      let d := o.desc
      if o.phase = .ended || !s.feedTurn op k.tile then .next s
      else if o.opcode = 0x22 then
        if fld d 0x8C 10 11 ≤ seq then .next s
        else
          let (v, s1) := s.drawFree
          let s2 := ((s1.start op).putSram k.tile ((fld d 0x8C 0 10 + seq) * 4096) (leBytes 4096 v)).noteLatencies o.pond
            ext.lats
          .next ((s2.modRank op rank (fun k => { k with
            landed := if k.landed.contains seq then k.landed else k.landed ++ [seq] })).refreshBoard)
      else if 0x21 < o.opcode then .next s
      else
        let items := m.items d k
        if !(k.outstanding d items).any (fun x => x.1 = b && x.2.1 = seq && x.2.2.1 = half) then .next s
        else
          let keyed := planKeep (planOf d b)
          let n := if keyed then
              items.findIdx (fun i => (items.map (panelKey b)).eraseDups.idxOf (panelKey b i) = seq / k.panels)
            else seq / k.panels
          let q := seq % k.panels
          match items[n]? with
          | none => .next s
          | some i =>
            let per := 128 / panelPages (operandFmt d b)
            let a := s.agent op o (dieOfTile k.tile) (k.tile + 1)
            let rs := (List.range per).map (half * per + ·)
            let s0 := (s.noteLatencies o.pond ext.lats).touchReads a (s.panelReads a ext d m.table k b i q rs)
            match s.panelRows a ext d m.table k b i q rs with
            | .stall => .next s
            | .bad st x => .next (s0.millFails op k.tile st x)
            | .ok rows =>
              let pos := panelPos d b seq
              let s1 := s0.putSram k.tile (panelAt d b pos half) (rows.map (·.1)).flatten
              let s2 := if isMx (operandFmt d b) then s1.putSram k.tile (scaleAt d b pos) (rows.map (·.2)) else s1
              let s3 := (s2.start op).modRank op rank (fun k => { k with landed := k.landed ++ [fillCode b seq half] })
              .next (s3.refreshBoard.consume op rank consumeFuel)
  | _, _ => .next s

/-- Words of a list of bytes. -/
def words32 (bs : List Byte) (n : Nat) : List Nat := (List.range n).map (fun i => leNat ((bs.drop (4 * i)).take 4))

/-- The activation table (R129): words lo, inv_w and the segments; `none` = no table is used. -/
def State.readActTable (s : State) (a : Agent) (ext : Ext) (d first : Nat) : Acc (List Nat) :=
  if fld d 0x38 8 8 = 0x10 then
    match s.readVa a ext (fld d 0xB0 0 55) 3088 with
    | .ok bs =>
      let w := words32 bs 772
      if getAt 0 w 0 ≠ 1 ∨ getAt 0 w 3 ≠ 0 then .bad Status.badActTable first
      else .ok (getAt 0 w 1 :: getAt 0 w 2 :: w.drop 4)
    | .bad st x => .bad st x
    | .stall => .stall
  else .ok []

/-- The operation of a mill descriptor that may enter its tiles' queues: released by its ring, or waiting to be run
again after a fence (R276). -/
def State.millGo (s : State) (id op : Nat) : Option Op :=
  match s.go? id op with
  | some o => some o
  | none => match s.op? id with
    | some o =>
      if o.opcode = op && o.phase = .queued && !o.awaitsRegrow && (s.eng.mills.at? id).isNone then some o else none
    | none => none

/-- The die and tile an op's own tables are read through: its first rank's tile. -/
def State.millAgent (s : State) (id : Nat) (o : Op) (p : Pond) : Agent :=
  let t := ((p.tileOf false (millRanks o.desc).1).join).getD 0
  s.agent id o (dieOfTile t) (t + 1)

/-- An op arrives at tiles: any filler there stops (R106, R525). -/
def State.stopSpin (s : State) (tiles : List Nat) : State :=
  { s with pwr := { s.pwr with dies := s.pwr.dies.map (fun p =>
      (p.1, { p.2 with spin := p.2.spin.filter (fun t => !tiles.contains t) })) } }

/-- A mill op enters the engine queue of every tile of its group (R112, R113), and starts where it is first. An op
without work items completes. -/
def State.millEnter (s : State) (id : Nat) (o : Op) (p : Pond) (anchors : List Int) (table act : List Nat) : State :=
  let (first, count) := millRanks o.desc
  let tiles := (List.range count).map (fun i => (p.tileOf false (first + i)).join)
  let n := s.eng.order + 1
  let run : MillRun :=
    { order := n, anchors, raised := [], table, act, ranks := startRanks o.desc tiles, delivered := [], ovf := 0
      retried := false, amaxBad := false }
  let s1 := s.enqueue id
  let s2 := { s1 with eng := { s1.eng with order := n, mills := s1.eng.mills.set id run } }
  if (millItems o.desc table).isEmpty then s2.succeed id
  else ((if run.ranks.any (fun k => s2.feedTurn id k.2.tile) then s2.start id else s2).refreshBoard).stopSpin
    (run.ranks.map (·.2.tile))

/-- A mill op whose own tables read badly ends before it starts. Log: 101 (DEDUCED). -/
def State.millRefuses (s : State) (id tile st x : Nat) : State := (s.enqueue id).millFails id tile st x

/-- Shared start of the mill ops: the pond and its rank check, then the tables of `read`, then the queues. -/
def State.millStart (s : State) (id op : Nat) (anchors : Nat → List Int)
    (read : Op → Agent → Acc (List Nat × List Nat)) : State :=
  match s.millGo id op with
  | none => s.asksTiles id
  | some o => match s.mem.ponds.at? o.pond with
    | none => s.decide id Status.badPond 0
    | some p =>
      let (first, count) := millRanks o.desc
      match p.rankError false first count with
      | some st => s.decide id st (if st = Status.badRank then first + count else 0)
      | none => match read o (s.millAgent id o p) with
        | .stall => s
        | .bad st x => s.millRefuses id ((s.millAgent id o p).tile - 1) st x
        | .ok (table, act) => s.millEnter id o p (anchors o.desc) table act

/-- The anchor of a 10-bit field (R65). -/
def anchorAt (d off lo : Nat) : Int := signedOf 10 (fld d off lo 10)

/-- MILL_GEMM (R121): the op's activation table is read and it enters its tiles' queues. -/
def execMillGemm (op : Nat) (ext : Ext) (s : State) : Out :=
  .next (s.millStart op 0x20 (fun d => [anchorAt d 0x30 0]) (fun o a =>
    match s.readActTable a ext o.desc (millRanks o.desc).1 with
    | .ok t => .ok ([], t)
    | .bad st x => .bad st x
    | .stall => .stall))

/-- Entries of `n` bytes each as numbers. -/
def entriesOf (n count : Nat) (bs : List Byte) : List Nat :=
  (List.range count).map (fun i => leNat ((bs.drop (n * i)).take n))

/-- The first group table entry that breaks R135 or R136, from entry `i` on, where the rows before `low` are taken. A
resident B is not read, so an entry's addresses are reserved then. An address not aligned to 64 bytes (R117) is read as it
is. Log: 27 (DEDUCED). -/
def badGroupEntry (d : Nat) : List Nat → Nat → Nat → Option Nat
  | [], _, _ => none
  | e :: l, i, low =>
    let start := fld e 4 0 32
    let count := fld e 8 0 32
    if fld e 0 0 4 ≠ 1 || fld e 0 4 28 ≠ 0 || fld e 0xC 0 32 ≠ 0 || fld e 0x10 55 9 ≠ 0 || fld e 0x18 55 9 ≠ 0
        || (!isMx (operandFmt d true) && fld e 0x18 0 64 ≠ 0)
        || (planRes (planOf d true) && (fld e 0x10 0 64 ≠ 0 || fld e 0x18 0 64 ≠ 0))
        || fld d 0x20 0 32 < start + count || start < low then some i
    else badGroupEntry d l (i + 1) (start + count)

/-- The plan rules of R123 and R124 that need the group table: the least offending offset, if any. Log: 27 (DEDUCED). -/
def groupPlanError (d : Nat) (table : List Nat) : Option Nat :=
  let lanes := max 1 ((millRanks d).2 / millSplit d)
  let items := millItems d table
  let most (b : Bool) : Nat := (List.range lanes).foldl (fun x l =>
    max x (((laneItems items lanes l).map (panelKey b)).eraseDups.length)) 0
  leastOf (keepForm d 0xD0 (most false) ++ keepForm d 0xD4 (most true)
    ++ regionForm (planRegions d (laneItems items lanes 0).length))

/-- MILL_GGEMM (R134 to R137): the group table and the activation table are read, the plan is checked, and the op
enters its tiles' queues. Log: 27 (DEDUCED). -/
def execMillGgemm (op : Nat) (ext : Ext) (s : State) : Out :=
  .next (s.millStart op 0x21 (fun d => [anchorAt d 0x30 0]) (fun o a =>
    let d := o.desc
    let n := fld d 0xEC 0 13
    match s.readVa a ext (fld d 0x48 0 55) (32 * n) with
    | .bad st x => .bad st x
    | .stall => .stall
    | .ok bs =>
      let table := entriesOf 32 n bs
      match badGroupEntry d table 0 0 with
      | some i => .bad Status.badGroupTable i
      | none => match groupPlanError d table with
        | some off => .bad Status.badForm off
        | none => match s.readActTable a ext d (millRanks d).1 with
          | .ok t => .ok (table, t)
          | .bad st x => .bad st x
          | .stall => .stall))

/-- The first sequence record that breaks R140 or R147. kv_len and q_count out of range and a folio table not aligned to 8
bytes count among them, and rows end at 2^32, since nothing gives a row count of Q. Log: 33 (DEDUCED). -/
def badSequence : List Nat → Nat → Option Nat
  | [], _ => none
  | r :: l, i =>
    if fld r 0 0 4 ≠ 1 || fld r 0 4 28 ≠ 0 || fld r 0x1C 0 32 ≠ 0 || fld r 8 55 9 ≠ 0 || fld r 8 0 3 ≠ 0
        || fld r 4 0 32 = 0 || 16777216 < fld r 4 0 32 || fld r 0x14 0 32 = 0 || 16777216 < fld r 0x14 0 32
        || 2 ^ 32 < fld r 0x10 0 32 + fld r 0x14 0 32 then some i
    else badSequence l (i + 1)

/-- MILL_ATTEND (R145, R147): the sequence records are read and the op enters its tiles' queues. Log: 28 (DEDUCED). -/
def execMillAttend (op : Nat) (ext : Ext) (s : State) : Out :=
  .next (s.millStart op 0x22 (fun d => [anchorAt d 0x30 0, anchorAt d 0x30 16, anchorAt d 0x34 0]) (fun o a =>
    let n := fld o.desc 0x20 0 32
    match s.readVa a ext (fld o.desc 0x40 0 55) (32 * n) with
    | .bad st x => .bad st x
    | .stall => .stall
    | .ok bs =>
      let recs := entriesOf 32 n bs
      match badSequence recs 0 with
      | some i => .bad Status.badSequence i
      | none => .ok (recs, [])))

/-- MILL_PACK (R148): the op enters its tiles' queues. -/
def execMillPack (op : Nat) (s : State) : Out := .next (s.millStart op 0x23 (fun _ => []) (fun _ _ => .ok ([], [])))

/-- Two cells of one element added at the home rank (R115): Quern exactly; FP32 cells are kept in part order. -/
def Cell.add (a b : Cell) : Cell :=
  match a, b with
  | .q x, .q y => .q (x.add y)
  | x, _ => x

/-- The finished cells of an item: those of the home rank and of every delivery, in part order, with flags. -/
def joinCells (fp : Bool) (parts : List (List Cell)) : List Cell × Nat :=
  match parts with
  | [] => ([], 0)
  | first :: rest =>
    if fp then
      let r := (List.range first.length).map (fun i => treeResult (parts.map (fun p => match p[i]? with
        | some (Cell.f (some v)) => v
        | _ => 0)))
      (r.map (fun x => .f (some x.1)), r.foldl (fun f x => f ||| x.2) 0)
    else (rest.foldl (fun acc p => (acc.zip p).map (fun x => x.1.add x.2)) first, 0)

/-- The activation table evaluated (R129). -/
def actTable (t : List Nat) (x : Nat) : Nat :=
  let x' := match f32 x with
    | .inf neg => if neg then 0xFF7FFFFF else 0x7F7FFFFF
    | _ => x
  let u := (f32Mul (f32Add x' (f32Neg (getAt 0 t 0))).1 (getAt 0 t 1)).1
  let seg : Option Nat := match f32 u with
    | .nan => none
    | .inf neg => some (if neg then 0 else 255)
    | .fin neg m e => some (if neg then 0 else min 255 (roundUnits 1 0 m e 0))
  match seg with
  | none => 0x7FC00000
  | some g =>
    let c (j : Nat) : Nat := getAt 0 t (2 + 3 * g + j)
    let tt := (f32Add u (f32Neg (toF32 (.fin false g 0)).1)).1
    (f32Add (f32Mul (f32Add (f32Mul (c 2) tt).1 (c 1)).1 tt).1 (c 0)).1

/-- An activation (R128): FP32 encodings. Log: 7 (DESIGN CHOICE). -/
def activate (code : Nat) (t : List Nat) (x : Nat) : Nat :=
  match f32 x with
  | .nan => 0x7FC00000
  | v =>
    let pos := match v with
      | .inf neg => !neg
      | .fin neg m _ => !neg && m ≠ 0
      | .nan => false
    if code = 0 then x
    else if code = 1 then (if pos then x else 0)
    else if code = 2 then (if pos then (f32Mul x x).1 else 0)
    else if code = 0x10 then actTable t x
    else
      match v with
      | .fin neg m e => elementary code (fxAct code neg m e) x
      | _ =>
        if code = 6 then (if pos then 0x3F800000 else 0)
        else if code = 7 then (if pos then 0x3F800000 else 0xBF800000)
        else if pos then x else 0

/-- Bits of a side vector's element, widened to FP32 (R127): 0 = FP32, 1 = BF16, 2 = FP16. -/
def sideBytes (side : Nat) : Nat := if side = 0 then 4 else 2

def widenSide (side w : Nat) : Nat :=
  if side = 0 then w else (toF32 ((if side = 1 then FloatFmt.bf16 else FloatFmt.fp16).decode w)).1

/-- Side inputs of one item as FP32 encodings: col_scale, row_scale and bias by column, row and column, and the
residual row by row. -/
structure Sides where
  col : List Nat
  row : List Nat
  bias : List Nat
  res : List (List Nat)

/-- A run of `n` elements of `size` bytes read for the epilogue. -/
def State.readVec (s : State) (a : Agent) (ext : Ext) (used : Bool) (va size n : Nat) : Acc (List Nat) :=
  if !used || n = 0 then .ok []
  else match s.readVa a ext va (size * n) with
    | .ok bs => .ok (entriesOf size n bs)
    | .bad st x => .bad st x
    | .stall => .stall

/-- Residual rows. -/
def State.readRows (s : State) (a : Agent) (ext : Ext) (size n : Nat) : List Nat → Acc (List (List Nat))
  | [] => .ok []
  | va :: l => match s.readVec a ext true va size n with
    | .bad st x => .bad st x
    | .stall => .stall
    | .ok r => match s.readRows a ext size n l with
      | .ok rs => .ok (r :: rs)
      | y => y

/-- The side inputs of an item (R121, R130). -/
def State.readSides (s : State) (a : Agent) (ext : Ext) (d : Nat) (i : MillItem) : Acc Sides :=
  let epi := fld d 0x38 0 8
  let side := fld d 0x38 16 2
  let glu := epi.testBit 6
  let oc := if glu then i.col0 / 2 else i.col0
  let on := if glu then i.cols / 2 else i.cols
  match s.readVec a ext (epi.testBit 0) (fld d 0x90 0 55 + 4 * i.col0) 4 i.cols,
        s.readVec a ext (epi.testBit 1) (fld d 0x98 0 55 + 4 * i.row0) 4 i.rows,
        s.readVec a ext (epi.testBit 2) (fld d 0x88 0 55 + sideBytes side * i.col0) (sideBytes side) i.cols,
        (if epi.testBit 3 then s.readRows a ext (sideBytes side) on ((List.range i.rows).map (fun r =>
            fld d 0xA0 0 55 + (i.row0 + r) * fld d 0xA8 0 32 + sideBytes side * oc)) else .ok []) with
  | .bad st x, _, _, _ => .bad st x
  | _, .bad st x, _, _ => .bad st x
  | _, _, .bad st x, _ => .bad st x
  | _, _, _, .bad st x => .bad st x
  | .ok c, .ok r, .ok b, .ok q =>
    .ok { col := c, row := r, bias := b.map (widenSide side), res := q.map (·.map (widenSide side)) }
  | _, _, _, _ => .stall

/-- The reads the epilogue's side inputs make (R121): (address, bytes). -/
def sideReads (d : Nat) (i : MillItem) : List (Nat × Nat) :=
  let epi := fld d 0x38 0 8
  let sz := sideBytes (fld d 0x38 16 2)
  let oc := if epi.testBit 6 then i.col0 / 2 else i.col0
  let on := if epi.testBit 6 then i.cols / 2 else i.cols
  (if epi.testBit 0 then [(fld d 0x90 0 55 + 4 * i.col0, 4 * i.cols)] else [])
    ++ (if epi.testBit 1 then [(fld d 0x98 0 55 + 4 * i.row0, 4 * i.rows)] else [])
    ++ (if epi.testBit 2 then [(fld d 0x88 0 55 + sz * i.col0, sz * i.cols)] else [])
    ++ (if epi.testBit 3 then (List.range i.rows).map (fun r =>
          (fld d 0xA0 0 55 + (i.row0 + r) * fld d 0xA8 0 32 + sz * oc, sz * on)) else [])

/-- nan_in of an FP32 side value (R62). -/
def nanFlag (w : Nat) : Nat := nanIn [f32 w]

/-- Chained FP32 steps that collect flags. -/
def chain (x : Nat × Nat) (r : Nat × Nat) (more : Nat) : Nat × Nat := (r.1, x.2 ||| r.2 ||| more)

/-- Steps 2 to 4 of R126 on one accumulated column; `c` and `r` are its places in the item. -/
def epiColumn (epi : Nat) (sd : Sides) (x : Nat × Nat) (r c : Nat) : Nat × Nat :=
  let cs := getAt 0 sd.col c
  let rs := getAt 0 sd.row r
  let bs := getAt 0 sd.bias c
  let x := if epi.testBit 0 then chain x (f32Mul x.1 cs) (nanFlag cs) else x
  let x := if epi.testBit 1 then chain x (f32Mul x.1 rs) (nanFlag rs) else x
  if epi.testBit 2 then chain x (f32Add x.1 bs) (nanFlag bs) else x

/-- Steps 6 and 7 of R126. -/
def epiTail (d epi : Nat) (sd : Sides) (x : Nat × Nat) (r oc : Nat) : Nat × Nat :=
  let rv := getAt 0 (getAt [] sd.res r) oc
  let sc := fld d 0x3C 0 32
  let x := if epi.testBit 3 then chain x (f32Add x.1 rv) (nanFlag rv) else x
  if epi.testBit 4 then chain x (f32Mul x.1 sc) (nanFlag sc) else x

/-- Whether a cell overflowed (R73). -/
def Cell.beyond : Cell → Bool
  | .q a => a.overflowed
  | .f _ => false

/-- A cell's exact value at an anchor (R49, R72). -/
def Cell.value (anchor : Int) : Cell → Val
  | .q a => a.value anchor
  | .f (some v) => f32 v
  | .f none => .fin false 0 0

def Cell.flags : Cell → Nat
  | .q a => a.flags
  | .f _ => 0

/-- An output element: overflowed, its value, its magnitude for amax if it enters, and flags (R75, R126, R131, R132). -/
structure OutElem where
  beyond : Bool
  val : Val
  mag : Option Nat
  flags : Nat

/-- One output element of gemm or ggemm: row `r`, output column `oc` of the item (R126, R127, R131). -/
def outElem (d : Nat) (act : List Nat) (anchor : Int) (sd : Sides) (cells : List Cell) (cols r oc : Nat) : OutElem :=
  let epi := fld d 0x38 0 8
  let code := fld d 0x38 8 8
  let glu := epi.testBit 6
  let at_ (c : Nat) : Cell := getAt (.q Quern.zero) cells (r * cols + c)
  let wide (c : Nat) : Nat × Nat :=
    let w := toF32 ((at_ c).value anchor)
    epiColumn epi sd (w.1, w.2 ||| (at_ c).flags) r c
  let mag (x : Nat) : Option Nat :=
    if epi.testBit 5 then some (if (f32 x).isNan then 0x7FC00000 else x % 2 ^ 31) else none
  if glu then
    if (at_ (2 * oc)).beyond || (at_ (2 * oc + 1)).beyond then
      { beyond := true, val := .nan, mag := none, flags := (at_ (2 * oc)).flags ||| (at_ (2 * oc + 1)).flags }
    else
      let a := wide (2 * oc)
      let b := wide (2 * oc + 1)
      let x := epiTail d epi sd (chain a (f32Mul (activate code act a.1) b.1) b.2) r oc
      { beyond := false, val := f32 x.1, mag := mag x.1, flags := x.2 }
  else if (at_ oc).beyond then { beyond := true, val := .nan, mag := none, flags := (at_ oc).flags }
  else if epi = 0 ∧ code = 0 then
    { beyond := false, val := (at_ oc).value anchor, mag := none, flags := (at_ oc).flags }
  else
    let a := wide oc
    let x := epiTail d epi sd (activate code act a.1, a.2) r oc
    { beyond := false, val := f32 x.1, mag := mag x.1, flags := x.2 }

/-- Elements in groups of 32. -/
def chunk32 {α : Type} : Nat → List α → List (List α)
  | 0, _ => []
  | n + 1, l => if l.isEmpty then [] else l.take 32 :: chunk32 n (l.drop 32)

/-- A row of values written in an output format (R53, R57, R75): element bytes, MX scale bytes, flags. `i` and `j0` are
the coordinates of R60. -/
def encodeRow (fmt cvt seed stream i j0 : Nat) (vs : List (Bool × Val)) : List Byte × List Byte × Nat :=
  let rnd := cvt % 4
  let u (j : Nat) : Nat := if rnd = 2 then philox seed stream i (j0 + j) else 0
  let us := (List.range vs.length).map u
  if isMx fmt then
    let blocks := (chunk32 (vs.length + 1) (vs.zip us)).map (fun b => quantise fmt rnd (b.map (·.1.2)) (b.map (·.2)))
    (packBits (fmtBits fmt) (blocks.map (·.2.1)).flatten, blocks.map (fun b => BitVec.ofNat 8 b.1),
     blocks.foldl (fun f b => f ||| b.2.2) 0)
  else
    let r := (vs.zip us).map (fun x => match elemOf fmt with
      | some el =>
        let c := el.convert rnd (cvt.testBit 2) x.2 x.1.2
        (c.1, if x.1.1 then 0 else c.2)
      | none => (0, 0))
    (packBits (fmtBits fmt) (r.map (·.1)), [], r.foldl (fun f x => f ||| x.2) 0)

/-- A row of Q128 elements (R71, R119): integer bytes and tag bytes. Log: 31 (DEDUCED). -/
def q128Row (cells : List Cell) : List Byte × List Byte :=
  let qs := cells.map (fun c => match c with
    | .q a => a.q128
    | .f _ => (0, 0))
  ((qs.map (fun q => leBytes 16 q.1)).flatten, packBits 2 (qs.map (·.2)))

/-- Subscriptions whose source range a write touches, by lines (R502). -/
def State.pushOut (s : State) (a : Agent) (off : Nat) (bytes : List Byte) : State :=
  s.fab.pushOut.foldl (fun s p =>
    let lo := max off p.src
    let hi := min (off + bytes.length) (p.src + p.len)
    if lo < hi && (s.fab.meres.at? p.mere).any (fun m => m.pond = a.pond) && s.pathTo a.pond p.dev = .open_ then
      s.send { kind := .pushWrite, dst := p.dev, mere := p.mere, id := p.num
               args := [p.dst + (lo - p.src), s.sluiceId a.sluice], data := (bytes.drop (lo - off)).take (hi - lo) }
    else s) s

/-- Where an epilogue write lands locally, for its push copies. -/
def State.localOf (s : State) (a : Agent) (va : Nat) : Option Nat :=
  match s.translate a va with
  | .ok (.local_ off) _ => some off
  | _ => none

/-- Whether every consumer of a staged epilogue write is a participant of its sluice (R265). -/
def State.pushesAllowed (s : State) (a : Agent) (off n : Nat) : Bool :=
  a.sluice = 0 || s.fab.pushOut.all (fun p =>
    off + n ≤ p.src || p.src + p.len ≤ off || !(s.fab.meres.at? p.mere).any (fun m => m.pond = a.pond)
      || s.mayWriteTo a.sluice p.dev)

/-- An epilogue's write to memory (R96, R502): published or staged, and pushed to its subscribers. A staged write with a
subscriber that is no participant is refused (R265). -/
def State.epiWrite (s : State) (a : Agent) (ext : Ext) (va : Nat) (bytes : List Byte) : Wrote :=
  if bytes.isEmpty then .ok s
  else match s.localOf a va with
    | none => s.writeVa a ext.refused none va bytes
    | some off =>
      if !s.pushesAllowed a off bytes.length then .bad s Status.badTarget va
      else match s.writeVa a ext.refused none va bytes with
        | .ok s1 => .ok (s1.pushOut a off bytes)
        | w => w

/-- A list of writes in order. -/
def State.epiWrites (s : State) (a : Agent) (ext : Ext) : List (Nat × List Byte) → Wrote
  | [] => .ok s
  | x :: l => match s.epiWrite a ext x.1 x.2 with
    | .ok s1 => s1.epiWrites a ext l
    | w => w

/-- What the drain of an item writes (R117 to R119, R124): memory writes, tile SRAM writes, elements overflowed, flags,
and the largest magnitude. -/
structure Drain where
  mem : List (Nat × List Byte)
  sram : List (Nat × List Byte)
  ovf : Nat
  flags : Nat
  amax : Nat

/-- The drain of one item of gemm or ggemm; `nth` is the item's number on its rank. -/
def gemmDrain (d : Nat) (act : List Nat) (anchor : Int) (sd : Sides) (cells : List Cell) (i : MillItem) (nth : Nat) :
    Drain :=
  let fc := fld d 0x2C 16 5
  let cvt := fld d 0x2C 24 4
  let glu := fld d 0x38 6 1 = 1
  let oc0 := if glu then i.col0 / 2 else i.col0
  let on := if glu then i.cols / 2 else i.cols
  let toTile := fld d 0xDC 0 1 = 1
  let outRow := (if glu then 64 else 128) * fmtBits fc / 8
  (List.range i.rows).foldl (fun x r =>
    let els := (List.range on).map (fun c => outElem d act anchor sd cells i.cols r c)
    let row := i.row0 + r
    let (main, extra, fl) :=
      if fc = 0x10 then
        let q := q128Row ((List.range i.cols).map (fun c => getAt (.q Quern.zero) cells (r * i.cols + c)))
        (q.1, q.2, 0)
      else encodeRow fc cvt (fld d 0xC0 0 64) (fld d 0xC8 0 32) row oc0 (els.map (fun e => (e.beyond, e.val)))
    let at_ := oc0 * fmtBits fc / 8
    let exAt := if fc = 0x10 then oc0 / 4 else oc0 / 32
    { mem := x.mem ++ (if toTile then [] else
        (fld d 0x50 0 55 + row * fld d 0x60 0 32 + at_, main)
          :: (if extra.isEmpty then [] else [(fld d 0x78 0 55 + row * fld d 0x64 0 32 + exAt, extra)]))
      sram := x.sram ++ (if toTile then
        [(fld d 0xDC 16 10 * 4096 + nth * 128 * outRow + r * outRow, main)] else [])
      ovf := x.ovf + (els.filter (·.beyond)).length
      flags := els.foldl (fun f e => f ||| e.flags) (x.flags ||| fl)
      amax := els.foldl (fun m e => max m (e.mag.getD 0)) x.amax })
    { mem := [], sram := [], ovf := 0, flags := 0, amax := 0 }

/-- The detail of R363 after a retry: anchors of stages 0 to 2 and which were raised. -/
def retryDetail (anchors : List Int) (raised : List Nat) : Nat :=
  let a (i : Nat) : Nat := unsignedOf 10 (getAt 0 anchors i)
  a 0 + a 1 * 2 ^ 16 + a 2 * 2 ^ 32 + raised.foldl (fun m i => m + 2 ^ (48 + i)) 0

/-- The atomic maximum of a rank after its last block (R132). -/
def State.amaxAtomic (s : State) (id : Nat) (a : Agent) (ext : Ext) (d v : Nat) : Wrote :=
  let va := fld d 0xB8 0 55
  match s.translate a va with
  | .ok (.host _) _ => .ok (s.modMill id (fun m => { m with amaxBad := true }))
  | _ => s.writePiece a ext.refused none 1 va (leBytes 4 v)

/-- Whether overflowed stages may be raised (R77). -/
def MillRun.mayRetry (m : MillRun) (stages : List Nat) : Bool :=
  !m.retried && stages.all (fun i => getAt 0 m.anchors i + 16 ≤ 511)

/-- Whether a mill op in a sluice has overflowed and will be run again (R76): it issues no output block until then. -/
def MillRun.willRetry (m : MillRun) (o : Op) : Bool := o.sluice ≠ 0 && !m.overflowed.isEmpty && m.mayRetry m.overflowed

/-- Retry of a mill op in a sluice (R76): staged writes of the op discarded, overflowed stages raised by 16, the op run
again from its beginning over the tables it has read; its flags start afresh. Log: 126 (DEDUCED). -/
def State.millRetry (s : State) (id : Nat) (o : Op) : State :=
  (((s.unstage o.sluice id).modOp id (fun o => { o with nflags := 0 })).modMill id (fun m => { m with
    anchors := (m.anchors.zip (List.range m.anchors.length)).map (fun x =>
      if m.overflowed.contains x.2 then x.1 + 16 else x.1)
    raised := m.overflowed
    overflowed := []
    delivered := []
    maxima := []
    ovf := 0
    retried := true
    amaxBad := false
    ranks := m.ranks.map (fun k =>
      (k.1, { k.2 with done := 0, q := 0, cells := [], full := none, landed := [], amax := 0 })) })).refreshBoard

/-- A mill op that has drained its last block is run again or completes (R75 to R77, R132, R151). -/
def State.millEnd (s : State) (id : Nat) (o : Op) (m : MillRun) : State :=
  if m.willRetry o then s.millRetry id o
  else
    let s1 := if m.retried then s.modOp id (fun o => { o with retried := true }) else s
    if m.amaxBad then s1.decide id Status.badTarget (fld o.desc 0xB8 0 55)
    else if m.ovf ≠ 0 then s1.decide id Status.quernOverflow m.ovf
    else s1.decide id Status.success (if m.retried then retryDetail m.anchors m.raised else 0)

/-- The output of one drain (R96): memory, then tile SRAM. -/
def State.drainWrites (s : State) (a : Agent) (ext : Ext) (tile : Nat) (w : Drain) : Wrote :=
  match s.epiWrites a ext w.mem with
  | .ok s1 => .ok (w.sram.foldl (fun s x => s.putSram tile x.1 x.2) s1)
  | x => x

/-- A drained item: its writes made, its counts kept, the other accumulator set freed, and the op ended after its last (R75
to R77, R96). `stages` = the stages whose sums overflowed. An op that will be run again writes nothing from the first block
that overflows on; it is run again once every stage that a block of it overflows is known. Log: 126 (DEDUCED). -/
def State.drainItem (s : State) (id r : Nat) (o : Op) (m : MillRun) (k : MillRank) (items : List MillItem) (ext : Ext)
    (w : Drain) (stages : List Nat) : State :=
  let a := s.agent id o (dieOfTile k.tile) (k.tile + 1)
  let overflowed := (m.overflowed ++ stages).eraseDups
  let quiet := ({ m with overflowed } : MillRun).willRetry o
  match (if quiet then .ok s else s.drainWrites a ext k.tile w) with
  | .stall => s
  | .bad s1 st x => s1.millFails id k.tile st x
  | .ok s1 =>
    let last := k.done + 1 = items.length && fld o.desc 0x38 5 1 = 1 && o.opcode ≤ 0x21 && !quiet
    match (if last then s1.amaxAtomic id a ext o.desc (max k.amax w.amax) else .ok s1) with
    | .stall => s
    | .bad s2 st x => s2.millFails id k.tile st x
    | .ok s2 =>
      let s3 := ((s2.addFlags id w.flags).modRank id r (fun k =>
          { k with done := k.done + 1, full := none, amax := max k.amax w.amax }.turnOver)).modMill id (fun m => { m with
          overflowed
          ovf := m.ovf + w.ovf
          maxima := m.maxima.filter (fun x => !(x.lane = k.lane && x.item = k.done))
          delivered := m.delivered.filter (fun x => !(x.lane = k.lane && x.item = k.done)) })
      match s3.eng.mills.at? id with
      | none => s3
      | some m1 =>
        if m1.finished o.desc || (quiet && overflowed.length = m1.anchors.length) then s3.millEnd id o m1 else s3.refreshBoard

/-- The parts of a lane that deliver an item, other than the home rank (R115). -/
def MillRun.parts (m : MillRun) (lane : Nat) : List Nat :=
  (m.ranks.filter (fun k => k.2.lane = lane && k.2.part ≠ 0)).map (fun k => k.2.part)

/-- Deliveries of an item, in part order; `none` = one is missing. -/
def MillRun.deliveries (m : MillRun) (lane item : Nat) : Option (List (List Cell)) :=
  (m.parts lane).mapM (fun p =>
    (m.delivered.find? (fun x => x.lane = lane && x.item = item && x.part = p)).map (·.cells))

/-- MILL_BLOCK_DONE of gemm and ggemm on home rank `r`: the block has its last k-step and every delivery, and no earlier op
drains on the tile (R96, R99, R115). -/
def State.gemmBlock (s : State) (id r : Nat) (ext : Ext) : State :=
  let s0 := s.consume id r consumeFuel
  match s0.eng.mills.at? id, s0.op? id with
  | some m, some o => match m.ranks.at? r with
    | none => s0
    | some k =>
      let d := o.desc
      let items := m.items d k
      match items[k.done]?, m.deliveries k.lane k.done, k.full with
      | some i, some parts, some own =>
        if k.part ≠ 0 || !s0.millTurn id k.tile then s0
        else
          let a := s0.agent id o (dieOfTile k.tile) (k.tile + 1)
          match s0.readSides a ext d i with
          | .stall => s0
          | .bad st x => s0.millFails id k.tile st x
          | .ok sd =>
            let (cells, fl) := joinCells (fld d 0x2C 28 1 = 1) (own :: parts)
            let w := gemmDrain d m.act (getAt 0 m.anchors 0) sd cells i k.done
            (s0.touchReads a (sideReads d i)).drainItem id r o m k items ext { w with flags := w.flags ||| fl }
              (if w.ovf = 0 then [] else [0])
      | _, _, _ => s0
  | _, _ => s0

/-- KSPLIT_DELIVERY of gemm and ggemm: the finished accumulators of a part other than the home rank arrive. -/
def State.gemmDeliver (s : State) (id r : Nat) : State :=
  let s0 := s.consume id r consumeFuel
  match s0.eng.mills.at? id, s0.op? id with
  | some m, some o => match m.ranks.at? r with
    | none => s0
    | some k => match k.full with
      | none => s0
      | some cells =>
        if k.part = 0 || (m.items o.desc k).length ≤ k.done || !s0.millTurn id k.tile then s0
        else
          let x : Delivery := { lane := k.lane, item := k.done, part := k.part, cells }
          ((s0.modMill id (fun m => { m with delivered := m.delivered ++ [x] })).modRank id r (fun k =>
            { k with done := k.done + 1, full := none }.turnOver)).refreshBoard
  | _, _ => s0

end Sys2Proof.Machine
end

