-- ==== Sys2Proof/Machine/Ponds.lean ====
section
/-! DEFINITION. Ponds: binding records, creating, re-binding and destroying ponds, placing plots outside them, fencing
and restoring units, regrow, and seams (10_ponds_and_binding, 08_mesh_and_reduction). -/

namespace Sys2Proof.Machine

/-- A list of remap entries, each 64 bytes, as one number each. -/
def entries64 (bs : List Byte) (n : Nat) : List Nat := (List.range n).map (fun i => leNat ((bs.drop (64 * i)).take 64))

/-- A plot remap entry (R295) and its plot number, where its own rules hold (R296): version, reserved fields, ranges,
no channel twice, no byte past 2 GiB. -/
def parsePlot (e owner : Nat) : Option (Nat × Plot) :=
  let s := fld e 0 4 3
  let die := fld e 0 8 2
  let base := fld e 0 16 7
  let plot := fld e 4 0 11
  let idx := (List.range (2 ^ s)).map (fun i => fld e (0x20 + i) 0 8)
  if fld e 0 0 4 = 1 ∧ s ≤ 5 ∧ fld e 0 7 1 = 0 ∧ fld e 0 10 6 = 0 ∧ fld e 0 23 9 = 0 ∧ fld e 4 11 21 = 0
      ∧ fld e 8 0 192 = 0 ∧ plot < 1536 ∧ base % 2 ^ (5 - s) = 0 ∧ (idx.all (· < 96)) = true
      ∧ fld e (0x20 + 2 ^ s) 0 (256 - 8 * 2 ^ s) = 0 ∧ noRepeat idx = true ∧ base + 2 ^ (5 - s) ≤ 128 then
    some (plot, { s, die, base, chans := idx.map (96 * die + ·), owner })
  else none

/-- Whether two placements share bytes of a channel (R296); in units of 16 MiB. -/
def Plot.overlaps (p q : Plot) : Bool :=
  p.chans.any q.chans.contains && p.base < q.base + 2 ^ (5 - q.s) && q.base < p.base + 2 ^ (5 - p.s)

/-- Channels that carry a plot of the sluice staging region, pending or in effect (R296, R266). -/
def State.stagingChans (s : State) : List Nat :=
  ((s.mem.remap.filter (fun p => (s.mem.spill ++ s.mem.spillWritten).any (fun r =>
    r.2.1 ≤ p.1 && p.1 < r.2.1 + r.2.2))).map (fun p => p.2.chans)).flatten

/-- Channels dedicated to ponds other than `self`. -/
def State.dedicatedTo (s : State) (self : Nat) : List Nat :=
  ((s.mem.ponds.filter (fun p => p.1 ≠ self)).map (fun p => p.2.binding.chans)).flatten

/-- Whether a tile entry of a record offends (R296, R304): its kind, a repeat, a fence, another holder, a reservation,
or another rank of the pond's present map. -/
def State.tileBad (s : State) (self : Nat) (old : Option Pond) (all : List Nat) (nm i t : Nat) : Bool :=
  let vane := nm ≤ i
  let mine := ((old.map (·.tiles)).getD [])
  let same := match old with
    | some p => p.tileOf vane (if vane then i - nm else i) = some (some t)
    | none => false
  512 ≤ t || isVaneTile t ≠ vane || (all.take i).contains t || s.fenced 1 t
    || (s.mem.ponds.any (fun p => p.1 ≠ self && p.2.tiles.contains t)) || s.reservedTiles.contains t
    || (mine.contains t && !same)

/-- Whether a plot entry of a record offends (R296). Log: 112 (DEDUCED). -/
def State.plotBad (s : State) (self : Nat) (earlier : List (Nat × Plot)) (x : Option (Nat × Plot)) :
    Bool :=
  match x with
  | none => true
  | some (n, p) =>
    p.chans.any (fun c => s.fenced 4 c || (s.dedicatedTo self).contains c || s.stagingChans.contains c)
      || (match s.mem.remap.at? n with
          | some q => q.owner ≠ self
          | none => false)
      || earlier.any (fun e => e.1 = n || e.2.overlaps p)
      || s.mem.remap.any (fun q => q.1 ≠ n && q.2.overlaps p)

/-- Whether a dedicated channel of a record offends (R296, R212). -/
def State.chanBad (s : State) (self : Nat) (all : List Nat) (i c : Nat) : Bool :=
  384 ≤ c || (all.take i).contains c || s.fenced 4 c || (s.dedicatedTo self).contains c
    || s.mem.remap.any (fun q => q.2.owner ≠ self && q.2.chans.contains c)

/-- Offending masks of a binding record's header: no engine, a fenced or reserved engine, a sub-link that is fenced,
reserved or held by another pond (R296, R306, R307, R309). Log: 111 (DEDUCED). -/
def State.maskBad (s : State) (self flume subl : Nat) : List Nat :=
  let others := (s.mem.ponds.filter (fun p => p.1 ≠ self)).foldl (fun m p => m ||| p.2.binding.subl) 0
  offends (flume = 0 || (maskBits 16 flume).any (fun i => s.fenced 7 i || s.reservedEngines.contains i)) 0xC
    ++ offends (subl &&& others ≠ 0 || (maskBits 64 subl).any (fun i => s.fenced 8 i || s.reservedSubl.contains i)) 0x10

/-- Offending bytes of a binding record's header (R294, R296). -/
def State.headerBad (s : State) (self h : Nat) : List Nat :=
  let nm := fld h 8 0 9
  let nv := fld h 8 16 8
  offends (fld h 0 0 4 ≠ 1) 0 ++ rsv h 0 4 28 ++ rsv h 4 9 23 ++ offends (384 < nm) 8 ++ rsv h 8 9 7
    ++ offends (128 < nv || nm + nv = 0) 0xA ++ rsv h 8 24 8 ++ rsv h 0xC 18 14
    ++ s.maskBad self (fld h 0xC 0 16) (fld h 0x10 0 64)
    ++ offends (1536 < fld h 0x20 0 11) 0x20 ++ rsv h 0x20 11 5 ++ offends (384 < fld h 0x20 16 9) 0x22
    ++ rsv h 0x20 25 7 ++ rsv h 0x24 0 32 ++ vaBits h 0x28 ++ vaBits h 0x30 ++ vaBits h 0x38

/-- The first offending entry of a binding record's lists, as BAD_BINDING's detail (R296): `ts` tiles, the first `nm` of
them Millstone; `ps` plots, none for an entry that breaks its own rules; `cs` dedicated channels. -/
def State.listBad (s : State) (self : Nat) (old : Option Pond) (nm : Nat) (ts : List Nat)
    (ps : List (Option (Nat × Plot))) (cs : List Nat) : Option Nat :=
  match (List.range ts.length).find? (fun i => s.tileBad self old ts nm i (getAt 0 ts i)),
      (List.range ps.length).find? (fun i => s.plotBad self ((ps.take i).filterMap id) (getAt none ps i)),
      (List.range cs.length).find? (fun i => s.chanBad self cs i (getAt 0 cs i)) with
  | some i, _, _ => some (2 ^ 28 + i)
  | none, some i, _ => some (2 * 2 ^ 28 + i)
  | none, none, some i => some (3 * 2 ^ 28 + i)
  | none, none, none => none

/-- Why a re-bind's new record no longer passes, as BAD_BINDING's detail (R306, checked again at step 1 of R303). -/
def State.rebindBad (s : State) (h : Nat) (p : Pond) (r : Rebind) : Option Nat :=
  let b := r.binding
  match leastOf (s.maskBad h b.flume b.subl) with
  | some off => some (4 * 2 ^ 28 + off)
  | none => s.listBad h (some p) b.tilesM.length ((b.tilesM ++ b.tilesV).filterMap id) (b.plots.map some) b.chans

/-- The outcome of reading a binding record: its instance and binding, BAD_BINDING with its detail, another status, or
a stall. -/
def State.readBinding (s : State) (o : Op) (ext : Ext) (self : Nat) (old : Option Pond) : Acc (Nat × Binding) :=
  let a := s.newt o.fn o.ctx 0
  match s.readVa a ext (fld o.desc 0x28 0 55) 64 with
  | .stall => .stall
  | .bad st d => .bad st d
  | .ok hb =>
    let h := leNat hb
    match leastOf (s.headerBad self h) with
    | some off => .bad Status.badBinding (4 * 2 ^ 28 + off)
    | none =>
      let nm := fld h 8 0 9
      let nv := fld h 8 16 8
      let np := fld h 0x20 0 11
      let nc := fld h 0x20 16 9
      match s.readVa a ext (fld h 0x28 0 55) (2 * (nm + nv)), s.readVa a ext (fld h 0x30 0 55) (64 * np),
          s.readVa a ext (fld h 0x38 0 55) (2 * nc) with
      | .ok tb, .ok pb, .ok cb =>
        let ts := ids16 tb (nm + nv)
        let cs := ids16 cb nc
        let ps := (entries64 pb np).map (fun e => parsePlot e self)
        match s.listBad self old nm ts ps cs with
        | some d => .bad Status.badBinding d
        | none =>
          .ok (fld h 4 0 9,
            { tilesM := (ts.take nm).map some, tilesV := (ts.drop nm).map some, flume := fld h 0xC 0 16
              regrow := fld h 0xC 16 2, subl := fld h 0x10 0 64, loft := fld h 0x18 0 64, plots := ps.filterMap id, chans := cs })
      | .stall, _, _ => .stall
      | _, .stall, _ => .stall
      | _, _, .stall => .stall
      | .bad st d, _, _ => .bad st d
      | _, .bad st d, _ => .bad st d
      | _, _, .bad st d => .bad st d

/-- The remap table with a list of entries entered. -/
def placeAll (m : Tab Plot) (l : List (Nat × Plot)) : Tab Plot := l.foldl (fun m e => Tab.set m e.1 e.2) m

/-- POND_CREATE (R293 to R297). -/
def execPondCreate (op : Nat) (ext : Ext) (s : State) : Out :=
  match s.go? op 0x60 with
  | none => .next s
  | some o =>
    let h := fld o.desc 0x20 0 9
    if (s.mem.ponds.at? h).isSome then .next (s.decide op Status.badPond 0)
    else match s.readBinding o ext h none with
      | .stall => .next s
      | .bad st d => .next (s.decide op st d)
      | .ok (inst, b) =>
        let p : Pond :=
          { inst, binding := b, weight := 16, quantum := 10, running := 0, since := 0, switch := none, rebind := none
            reserved := [], beats := none, beatCount := 0 }
        let s1 := { s with mem := { s.mem with
          ponds := s.mem.ponds.set h p, remap := placeAll s.mem.remap b.plots } }
        .next ((s1.scrubTiles p.tiles).succeed op)

/-- Whether any context of a pond is resident (R298). -/
def State.pondResident (s : State) (h : Nat) : Bool :=
  s.host.slots.any (fun p => (s.host.ctxs.at? p.2.ctx).any (fun c => c.pond = h))

/-- Whether a sluice stages lines in a set of plots (R298). -/
def State.stagesIn (s : State) (plots : List Nat) : Bool :=
  s.work.sluices.any (fun e => e.2.lines.any (fun l => plots.contains (l * 128 / 0x20000000)))

/-- The lines of plots removed from the loft (R303, R674). -/
def State.dropLoft (s : State) (plots : List Nat) : State :=
  { s with mem := { s.mem with loft := s.mem.loft.filter (fun l => !plots.contains (l.line * 128 / 0x20000000)) } }

/-- Every translation of function `f` whose output lies in one of a set of plots removed (R410). -/
def State.dropPlotXlat (s : State) (f : Nat) (plots : List Nat) : State :=
  s.dropXlat f (fun t => !bitOf t.pa 59 && plots.contains (bitsOf t.pa 29 14))

/-- POND_DESTROY (R297, R298, R489). -/
def execPondDestroy (op : Nat) (s : State) : Out :=
  match s.go? op 0x62 with
  | none => .next s
  | some o =>
    let h := fld o.desc 0x20 0 9
    match s.mem.ponds.at? h with
    | none => .next (s.decide op Status.badPond 0)
    | some p =>
      let plots := p.binding.plots.map (·.1)
      if s.pondResident h || s.work.ops.any (fun x => x.2.pond = h && x.2.inExec) || s.stagesIn plots
          || p.rebind.isSome then .next (s.decide op Status.pondBusy 0)
      else
        let s1 := ((s.closePondWindows h).dropPlotXlat (p.inst + 1) plots).dropLoft plots
        let s2 := { s1 with
          mem := { s1.mem with
            ponds := s1.mem.ponds.erase h, remap := s1.mem.remap.filter (fun q => q.2.owner ≠ h) }
          weir := { s1.weir with ponds := s1.weir.ponds.erase h }
          fab := { s1.fab with meres := s1.fab.meres.filter (fun m => m.2.pond ≠ h) } }
        .next ((s2.scrubTiles p.tiles).succeed op)

/-- POND_SCHED (R318). -/
def execPondSched (op : Nat) (s : State) : Out :=
  match s.go? op 0x65 with
  | none => .next s
  | some o =>
    let h := fld o.desc 0x20 0 9
    if (s.mem.ponds.at? h).isNone then .next (s.decide op Status.badPond 0)
    else .next ((s.modPond h (fun p => { p with
      weight := fld o.desc 0x20 16 8, quantum := fld o.desc 0x24 0 14 })).succeed op)

/-- The detail of a PLOT_MAP's BAD_BINDING (R674): list 2, index 0. -/
def plotMapDetail : Nat := 2 * 2 ^ 28

/-- PLOT_MAP with op = 1 (R674): a plot no pond holds is placed. -/
def execPlotMapPlace (op : Nat) (s : State) : Out :=
  match s.go? op 0x66 with
  | none => .next s
  | some o =>
    if fld o.desc 0x60 0 1 = 0 then .next s
    else match parsePlot (bitsOf o.desc 256 512) 0 with
      | none => .next (s.decide op Status.badBinding plotMapDetail)
      | some (n, p) =>
        let dedicated := (s.mem.ponds.map (fun q => q.2.binding.chans)).flatten
        if p.chans.any (fun c => s.fenced 4 c || dedicated.contains c) || (s.mem.remap.at? n).isSome
            || s.mem.remap.any (fun q => q.2.overlaps p) then
          .next (s.decide op Status.badBinding plotMapDetail)
        else .next (({ s with mem := { s.mem with remap := s.mem.remap.set n p } }).succeed op)

/-- The first local offset of the enabled mere area (R516). -/
def State.mereArea (s : State) : Option Nat :=
  if bitOf s.fab.areaHi 31 then some (bitsOf s.fab.areaHi 0 11 * 2 ^ 32 + s.fab.areaLo) else none

/-- The plot of the enabled mere area, which is 1 MiB long and aligned to it. -/
def State.mereAreaPlot (s : State) : Option Nat := s.mereArea.map (· / 0x20000000)

/-- Whether a plot may not be unplaced yet (R674): a staging region pending or in effect, an enabled mere area, or the
bitmap an instance is logged into. -/
def State.plotInUse (s : State) (n : Nat) : Bool :=
  (s.mem.spill ++ s.mem.spillWritten).any (fun r => r.2.1 ≤ n && n < r.2.1 + r.2.2)
    || s.mereAreaPlot = some n
    || s.host.fns.any (fun f => match f.2.bitmap with
        | some b => b / 0x20000000 = n || (b + 1572863) / 0x20000000 = n
        | none => false)

/-- PLOT_MAP with op = 0 (R674): a placement is removed, with its loft lines and the manager's translations. -/
def execPlotMapRemove (op : Nat) (s : State) : Out :=
  match s.go? op 0x66 with
  | none => .next s
  | some o =>
    let e := bitsOf o.desc 256 512
    let n := fld e 4 0 11
    if fld o.desc 0x60 0 1 = 1 then .next s
    else if fld e 0 0 4 ≠ 1 ∨ !(s.mem.remap.at? n).any (fun p => p.owner = 0) then
      .next (s.decide op Status.badBinding plotMapDetail)
    else if s.plotInUse n then .next (s.decide op Status.pondBusy 0)
    else
      let s1 := (s.dropLoft [n]).dropPlotXlat 0 [n]
      .next (({ s1 with mem := { s1.mem with remap := s1.mem.remap.erase n } }).succeed op)

/-- Plots whose remap entry a new binding changes (R301). -/
def movingPlots (old : Binding) (new : Binding) : List Nat :=
  (new.plots.filter (fun e => old.plots.all (fun x => x ≠ e))).map (·.1)

/-- The old die's loft writes back its dirty lines of the plots that a re-bind moves between dies (R301): their pages are
dirty for the copy. -/
def State.writeBackMoving (s : State) (r : Rebind) : State :=
  let out := s.mem.loft.filter (fun l => l.dirty && s.crosses r (l.line * 128 / 0x20000000))
  let s1 := out.foldl (fun s l => s.noteMoving (l.line * 128) 128) s
  { s1 with mem := { s1.mem with loft := s1.mem.loft.map (fun l =>
      if s.crosses r (l.line * 128 / 0x20000000) then { l with dirty := false } else l) } }

/-- POND_REBIND (R293, R297, R300, R301): the record is read and checked, one sluice entry is taken, and the memory
phase starts. -/
def execPondRebind (op : Nat) (ext : Ext) (s : State) : Out :=
  match s.go? op 0x61 with
  | none => .next s
  | some o =>
    let h := fld o.desc 0x20 0 9
    match s.mem.ponds.at? h with
    | none => .next (s.decide op Status.badPond 0)
    | some p =>
      if p.rebind.isSome then .next (s.decide op Status.pondBusy 0)
      else match s.readBinding o ext h (some p) with
        | .stall => .next s
        | .bad st d => .next (s.decide op st d)
        | .ok (_, b) =>
          if 1024 ≤ s.entriesUsed then .next (s.decide op Status.sluiceTableFull 0)
          else
            let eng := fld o.desc 0x30 0 16
            let r : Rebind :=
              { op, binding := b, engines := if eng = 0 then b.flume else eng
                deadline := s.ns + fld o.desc 0x24 0 32 * 1000, moving := movingPlots p.binding b, dirty := []
                ready := false, switching := false }
            .next (((((s.modPond h (fun p => { p with rebind := some r })).writeBackMoving r).enqueue op).start op))

/-- REBIND_COPY_PASS_DONE (R302): a pass ends; the phase is ready when few enough dirty pages are left, and for a move
between dies when no sluice stages lines or guards pages in the plot. -/
def execRebindCopyPassDone (h : Nat) (s : State) : Out :=
  match s.mem.ponds.at? h with
  | none => .next s
  | some p => match p.rebind with
    | none => .next s
    | some r =>
      let crossing := r.moving.filter (s.crosses r)
      let busy := s.stagesIn crossing || s.work.sluices.any (fun e =>
        e.2.guards.any (fun g => crossing.contains (g * 4096 / 0x20000000)))
      let ready := r.dirty.length ≤ 256 * popcount 16 r.engines && !busy
      .next (s.modPond h (fun p => { p with rebind := some { r with
        ready := r.ready || ready, dirty := if ready then r.dirty else [] } }))

/-- Operations of a pond in execution that hold off a re-bind point (R299), runs of reduction groups whose ranks resolve
through the pond among them (R250): not those that wait for regrow. -/
def State.pondBusy (s : State) (h : Nat) : Bool :=
  s.work.ops.any (fun p => p.2.pond = h && p.2.inExec && isEngineOp p.2.opcode && !p.2.awaitsRegrow)
    || s.eng.groups.any (fun g => g.2.pond = h && g.2.run.isSome)

/-- Whether a pond is between beats (R299). -/
def Pond.betweenBeats (p : Pond) : Bool :=
  match p.beats with
  | none => true
  | some b => !b.running

/-- Whether a pond's beat in progress holds an operation that waits for regrow, and nothing else of the beat's released
steps is left (R299). -/
def State.insideBeat (s : State) (h : Nat) (p : Pond) : Bool :=
  let rel := ((p.beats.map (fun b => (b.steps.filter (·.released)).map (·.id))).getD [])
  s.work.ops.any (fun x => x.2.pond = h && x.2.awaitsRegrow)
    && s.work.ops.all (fun x => x.2.pond ≠ h || x.2.awaitsRegrow || !x.2.live || !rel.contains x.2.step)

/-- Whether the re-bind point of a pond's regrow may come now (R299, R309). -/
def State.regrowPoint (s : State) (h : Nat) (p : Pond) : Bool :=
  !s.pondBusy h && (p.betweenBeats || s.insideBeat h p)

/-- Whether a POND_REBIND's re-bind point may come now: at a beat boundary; inside the beat where nothing else can regrow
the pond for the operation that waits for it. Log: 106 (DEDUCED). -/
def State.rebindPoint (s : State) (h : Nat) (p : Pond) : Bool :=
  !s.pondBusy h && (p.betweenBeats || (p.reserved.isEmpty && s.insideBeat h p))

/-- Loft lines of the plots that a re-bind moves between dies, written back and invalidated, and the host's clean copies of
their granules recalled (R303 step 1, R223). -/
def State.recallMoving (s : State) (r : Rebind) : State :=
  let s1 := s.writeBackMoving r
  { s1 with mem := { s1.mem with
      loft := s1.mem.loft.filter (fun l => !s.crosses r (l.line * 128 / 0x20000000))
      snoop := s1.mem.snoop.filter (fun e => e.owned || !s.crosses r (e.granule * 64 / 0x20000000)) } }

/-- Whether the host still owns a granule of a plot that a re-bind moves between dies: its write-back is awaited (R303
step 1, R223). -/
def State.awaitsRecall (s : State) (r : Rebind) : Bool :=
  s.mem.snoop.any (fun e => e.owned && s.crosses r (e.granule * 64 / 0x20000000))

/-- REBIND_POINT (R299, R303 step 1): the switch phase starts; a record that no longer passes ends the re-bind with
BAD_BINDING (R306). -/
def execRebindPoint (h : Nat) (s : State) : Out :=
  match s.mem.ponds.at? h with
  | none => .next s
  | some p => match p.rebind with
    | none => .next s
    | some r =>
      if !r.ready || r.switching || !s.rebindPoint h p then .next s
      else match s.rebindBad h p r with
      | some d => .next (((s.decide r.op Status.badBinding d).modPond h (fun p => { p with rebind := none })).schedule h)
      | none => .next ((s.recallMoving r).modPond h (fun p => { p with
          rebind := p.rebind.map (fun r => { r with switching := true }) }))

/-- The offset in a plot of a channel byte, where the placement holds it (the inverse of R211). -/
def Plot.offsetOf (p : Plot) (key : Nat) : Option Nat :=
  let chan := key / 0x80000000
  let off := key % 0x80000000
  let lo := p.base * 0x1000000
  if lo ≤ off ∧ off < lo + 0x20000000 / 2 ^ p.s then
    ((List.range (2 ^ p.s)).find? (fun i => getAt 999 p.chans i = chan)).map (fun c =>
      let q := ((off - lo) >>> 10) <<< (10 + p.s)
      let x := if p.s = 0 then 0 else (c ^^^ (q >>> 20)) % 2 ^ p.s
      q + x * 1024 + off % 1024)
  else none

/-- The ranges of channel bytes a placement occupies: (key, length). -/
def Plot.ranges (p : Plot) : List (Nat × Nat) :=
  p.chans.map (fun c => (c * 0x80000000 + p.base * 0x1000000, 0x20000000 / 2 ^ p.s))

/-- HBM with a placement's bytes zero, and their poison gone. -/
def State.zeroPlot (s : State) (p : Plot) : State :=
  { s with mem := { s.mem with
      hbm := p.ranges.foldl (fun m r => m.clear r.1 r.2) s.mem.hbm
      poison := s.mem.poison.filter (fun g => !p.ranges.any (fun r => r.1 / 64 ≤ g && g < (r.1 + r.2) / 64)) } }

/-- A plot's bytes and poison as they lie now: (offset in the plot, byte), and offsets of poisoned granules. -/
def State.plotContents (s : State) (p : Plot) : List (Nat × Byte) × List Nat :=
  ((p.ranges.map (fun r => s.mem.hbm.filter (fun c => r.1 ≤ c.1 && c.1 < r.1 + r.2))).flatten.filterMap (fun c =>
      (p.offsetOf c.1).map (fun o => (o, c.2))),
   s.mem.poison.filterMap (fun g => p.offsetOf (g * 64)))

/-- A plot's contents put at a new placement (R301, R303 step 3). -/
def State.putPlot (s : State) (p : Plot) (x : List (Nat × Byte) × List Nat) : State :=
  let z := s.zeroPlot p
  { z with mem := { z.mem with
      hbm := x.1.foldl (fun m c => m.put (p.chanAddr c.1) c.2) z.mem.hbm
      poison := x.2.map (fun o => p.chanAddr o / 64) ++ z.mem.poison } }

/-- What a migration copies of a tile (R105): its SRAM and program memory, and the poisoned words of each. -/
abbrev TileImage := List Host.Cell × List Host.Cell × List Nat × List Nat

/-- The image of a tile. -/
def State.tileImage (s : State) (t : Nat) : TileImage :=
  (s.mem.sram.cells (t * 0x400000) 0x400000, s.mem.prog.cells (t * 0x10000) 0x10000,
   (s.mem.sramPoison.filter (· / 0x80000 = t)).map (· % 0x80000),
   (s.mem.progPoison.filter (· / 0x2000 = t)).map (· % 0x2000))

/-- A tile's SRAM and program memory replaced by an image. -/
def State.putTileImage (s : State) (t : Nat) (x : TileImage) : State :=
  let z := s.scrubTile t
  { z with mem := { z.mem with
      sram := z.mem.sram.putCells (t * 0x400000) x.1
      prog := z.mem.prog.putCells (t * 0x10000) x.2.1
      sramPoison := x.2.2.1.map (t * 0x80000 + ·) ++ z.mem.sramPoison
      progPoison := x.2.2.2.map (t * 0x2000 + ·) ++ z.mem.progPoison } }

/-- Ranks of both maps and their tiles: (new tile, the image of the old tile where the rank was no hole). -/
def State.rankImages (s : State) (old new : List (Option Nat)) :
    List (Nat × Option TileImage) :=
  (new.zip (List.range new.length)).filterMap (fun x => x.1.map (fun t =>
    (t, match old[x.2]? with
        | some (some u) => some (s.tileImage u)
        | _ => none)))

/-- POND_RESIZED's payload (R365). -/
def resizedPayload (h : Nat) (old new : Binding) : Nat :=
  h + (old.tilesM.length + old.tilesV.length * 65536) * 2 ^ 32 + (new.tilesM.length + new.tilesV.length * 65536) * 2 ^ 64

/-- The new map in force (R303 steps 2 to 5, R304, R305): tiles and plots moved, units freed and scrubbed, counts
announced. -/
def State.commitRebind (s : State) (h : Nat) (p : Pond) (r : Rebind) : State :=
  let old := p.binding
  let new := r.binding
  let images := s.rankImages old.tilesM new.tilesM ++ s.rankImages old.tilesV new.tilesV
  let contents := (new.plots.filter (fun e => r.moving.contains e.1)).map (fun e =>
    (e.2, match s.mem.remap.at? e.1 with
          | some q => if s.plotLost q then ([], []) else s.plotContents q
          | none => ([], [])))
  let s1 := s.dropLoft (r.moving.filter (fun n => s.crosses r n || !(s.mem.remap.at? n).any (fun q => !s.plotLost q)))
  let s2 := s1.scrubTiles p.tiles
  let s3 := images.foldl (fun s x => match x.2 with
    | some im => s.putTileImage x.1 im
    | none => s.scrubTile x.1) s2
  let s4 := contents.foldl (fun s x => s.putPlot x.1 x.2) s3
  let gone := (old.plots.filter (fun e => !new.plots.any (fun x => x.1 = e.1))).map (·.1)
  let s5 := (s4.dropPlotXlat (p.inst + 1) gone).dropLoft gone
  let s6 := { s5 with mem := { s5.mem with
    remap := placeAll (s5.mem.remap.filter (fun q => q.2.owner ≠ h || (new.plots.any (fun e => e.1 = q.1) && !r.moving.contains q.1)))
      (new.plots.filter (fun e => r.moving.contains e.1)) } }
  let s7 := s6.modPond h (fun p => { p with binding := new, rebind := none, reserved := [] })
  if old.tilesM.length ≠ new.tilesM.length ∨ old.tilesV.length ≠ new.tilesV.length then
    s7.post (p.inst + 1) Event.pondResized (resizedPayload h old new)
  else s7

/-- Operations of a pond that waited for regrow start again on the new map; with too few ranks left their sluice
aborts (R276 step 3, R277). -/
def State.resumeReruns (s : State) (h : Nat) : State :=
  (s.liveOps (fun o => o.pond = h && o.awaitsRegrow)).foldl (fun s i => match s.op? i, s.mem.ponds.at? h with
    | some o, some p =>
      let n := (millRanks o.desc).1 + (millRanks o.desc).2
      if o.opcode ≠ 0x10 && p.binding.tilesM.length < n then s.abortSluice o.sluice Reason.fault 0xFFFF
      else if o.opcode ≠ 0x10 && (p.rankError false (millRanks o.desc).1 (millRanks o.desc).2).isSome then s
      else s.modOp i (fun o => { o with phase := .queued, awaitsRegrow := false, done := [] })
    | _, _ => s) s

/-- REBIND_SWITCH_DONE (R303 to R305): the new map and entries take effect, stalled accesses are released, and the
POND_REBIND completes; a unit that the record names and another binding has taken meanwhile ends it with BAD_BINDING (R306). -/
def execRebindSwitchDone (h : Nat) (s : State) : Out :=
  match s.mem.ponds.at? h with
  | none => .next s
  | some p => match p.rebind with
    | none => .next s
    | some r =>
      if !r.switching || s.awaitsRecall r then .next s
      else match s.rebindBad h p r with
      | some d => .next (((s.decide r.op Status.badBinding d).modPond h (fun p => { p with rebind := none })).schedule h)
      | none => .next ((((s.commitRebind h p r).resumeReruns h).succeed r.op).schedule h)

/-- REBIND_TIMEOUT (R306): the re-bind point has not come in time; nothing changes. -/
def execRebindTimeout (h : Nat) (s : State) : Out :=
  match s.mem.ponds.at? h with
  | none => .next s
  | some p => match p.rebind with
    | none => .next s
    | some r =>
      if r.switching then .next s
      else .next (((s.decide r.op Status.rebindTimeout 0).modPond h (fun p => { p with rebind := none })).schedule h)

/-- UNIT_FENCE (R312, R477). -/
def execUnitFence (op : Nat) (s : State) : Out :=
  match s.go? op 0x63 with
  | none => .next s
  | some o =>
    let cls := fld o.desc 0x20 0 4
    let unit := fld o.desc 0x24 0 16
    let us := unitClosure cls unit
    if s.fenced cls unit then .next (s.succeed op)
    else if s.mem.ponds.any (fun p => p.2.holds us) then .next (s.decide op Status.unitBusy 0)
    else
      let ports := if cls = 9 then (List.range 4).map (fun i => 4 * unit + i) else []
      .next (((s.sendNotices 2 ports).fence cls unit true).succeed op)

/-- Contents of a unit that returns to service: a channel at zero, a bucket at 0 (R313, R643). A loft slice takes its lines
home again, empty. -/
def State.renewUnit (s : State) (u : Nat) : State :=
  let c := u / 65536
  let n := u % 65536
  let b := s.bucket c n
  let s1 := { s with
    mem := { s.mem with
      fences := s.mem.fences.filter (· ≠ u)
      hbm := if c = 4 then s.mem.hbm.clear (n * 0x80000000) 0x80000000 else s.mem.hbm
      poison := if c = 4 then s.mem.poison.filter (fun g => g / 0x2000000 ≠ n) else s.mem.poison }
    ras := { s.ras with
      flashFences := s.ras.flashFences.filter (· ≠ c + 16 * n)
      fencedAlone := s.ras.fencedAlone.filter (· ≠ u)
      buckets := s.ras.buckets.set u { b with level := 0, warned := false } } }
  if c = 1 then s1.scrubTile n
  else if c = 5 then
    { s1 with mem := { s1.mem with loft := s1.mem.loft.filter (fun l => l.slice = s1.homeSlice l.die (l.line * 128)) } }
  else if c = 8 then
    { s1 with fab := { s1.fab with subs := s1.fab.subs.modify n (fun l => { l with state := .dark, cause := 0 }) } }
  else s1

/-- UNIT_RESTORE (R313): `passed` lists the units (class × 65536 + number) whose built-in self-test passes. The fences cleared
are the unit's own and those made with it, not one made for another unit's sake. -/
def execUnitRestore (op : Nat) (passed : List Nat) (s : State) : Out :=
  match s.go? op 0x64 with
  | none => .next s
  | some o =>
    let cls := fld o.desc 0x20 0 4
    let unit := fld o.desc 0x24 0 16
    if !passed.contains (unitCode cls unit) then .next (s.decide op Status.unitFailedTest 0)
    else
      let back := (unitClosure cls unit).filter (fun u => passed.contains u && s.mem.fences.contains u
        && (u = unitCode cls unit || !s.ras.fencedAlone.contains u))
      .next ((back.foldl State.renewUnit s).succeed op)

/-- UNIT_FAILURE (R307): a check declares a unit failed and it is fenced with its dependents. -/
def execUnitFailure (cls unit : Nat) (s : State) : Out :=
  if unitLimit cls ≤ unit then .next s else .next (s.fence cls unit false)

/-- A hole's rank after the shrink of its kind (R309): the highest rank takes its place. -/
def shrinkRanks (l : List (Option Nat)) (rank : Nat) : List (Option Nat) :=
  (setAt l rank (getAt none l (l.length - 1))).take (l.length - 1)

/-- One regrow choice applied (R309): the binding after it, and the tiles to zero. Log: 106 (DEDUCED). -/
def applyChoice (x : Binding × List Nat) (r : RegrowKind) : Binding × List Nat :=
  let b := x.1
  match r with
  | .tile v k (some t) _ =>
    (if v then { b with tilesV := setAt b.tilesV k (some t) } else { b with tilesM := setAt b.tilesM k (some t) },
     t :: x.2)
  | .shrink v k =>
    let l := if v then b.tilesV else b.tilesM
    let moved := (getAt none l (l.length - 1)).toList
    (if v then { b with tilesV := shrinkRanks l k } else { b with tilesM := shrinkRanks l k }, moved ++ x.2)
  | .sublink _ (some l) => ({ b with subl := b.subl ||| 2 ^ l }, x.2)
  | .engine _ (some e) => ({ b with flume := b.flume ||| 2 ^ e }, x.2)
  | _ => x

/-- Choices in the order regrow applies them: shrinks from the highest rank down, so that each names its hole.
Log: 106 (DEDUCED). -/
def choiceOrder (l : List RegrowKind) : List RegrowKind :=
  l.filter (fun r => match r with | .shrink .. => false | _ => true)
    ++ ((List.range 512).reverse.map (fun k => l.filter (fun r => match r with | .shrink _ j => j = k | _ => false))).flatten

/-- REGROW (R309): at the pond's re-bind point the reserved choices take effect; ranks that were holes are zero.
Log: 106 (DEDUCED). -/
def execRegrow (h : Nat) (s : State) : Out :=
  match s.mem.ponds.at? h with
  | none => .next s
  | some p =>
    if p.reserved.isEmpty || !s.regrowPoint h p || p.rebind.any (·.switching) then .next s
    else
      let (b, zero) := (choiceOrder p.reserved).foldl applyChoice (p.binding, [])
      let s1 := (s.modPond h (fun p => { p with binding := b, reserved := [] })).scrubTiles zero
      let s2 := if b.tilesM.length ≠ p.binding.tilesM.length ∨ b.tilesV.length ≠ p.binding.tilesV.length then
          s1.post (p.inst + 1) Event.pondResized (resizedPayload h p.binding b)
        else s1.post (p.inst + 1) Event.pondRegrown h
      .next ((s2.resumeReruns h).schedule h)

/-- SEAM_CRC_FAIL (R234, R643): a flit fails its CRC and is replayed, which the seam counts as a corrected error;
`again` says whether it is the flit of the last failure. Sixteen replays of one flit fence the seam. -/
def execSeamCrcFail (seam : Nat) (again : Bool) (s : State) : Out :=
  if 8 ≤ seam || s.fenced 3 seam then .next s
  else
    let n := (if again then s.mem.seamReplays.get 0 seam else 0) + 1
    let s1 := ({ s with mem := { s.mem with seamReplays := s.mem.seamReplays.set seam n } }).corrected 3 seam
    .next (if 16 ≤ n && !s1.fenced 3 seam then s1.fence 3 seam false else s1)

/-- SEAM_REPLAY_TIMEOUT (R234): 10 µs without progress declares the seam failed. -/
def execSeamReplayTimeout (seam : Nat) (s : State) : Out :=
  if 8 ≤ seam || s.fenced 3 seam then .next s else .next (s.fence 3 seam false)

end Sys2Proof.Machine
end

