-- ==== Sys2Proof/Machine/Meres.lean ====
section
/-! DEFINITION. Remote requests and window accesses served for other devices, mere memberships, windows and push
subscriptions (18_meres, R220, R221, R411 to R418). -/

namespace Sys2Proof.Machine

/-- What serving another device's access comes to: a reply's bytes with whether they are poisoned, a refusal, or a
stall. -/
inductive Served where
  | ok (s : State) (bytes : List Byte) (poison : Bool)
  | refused (s : State)
  | stall

/-- The reply to an access: back on the sub-link by which it arrived (R494). -/
def State.answer (s : State) (src tag mere sub : Nat) : Served → State
  | .ok s1 bytes p => s1.sendOn { kind := .reply, dst := src, mere, id := tag, args := [b2n p], data := bytes } sub
  | .refused s1 => s1.sendOn { kind := .refusal, dst := src, mere, id := tag, args := [], data := [] } sub
  | .stall => s

/-- Poison another device's copy carries to the lines of a range (R219, R639). Which cause it reports the spec does not say:
a free value. Log: 34 (DEDUCED). -/
def State.poisonFrom (s : State) (off n : Nat) : State :=
  (linesOf off n).foldl (fun s l =>
    let (c, s1) := s.drawFree
    s1.poisonLine l (c % 16) 5 (s.homeOf (l * 128))) s

/-- A write or atomic of another device at its home (R207, R220): published, allocating as EVICT_FIRST in the ways of
remote_mask. Kind 2 is the FP32 maximum, kind 4 poison. Log: 59 (DEDUCED). -/
def State.serveWrite (s : State) (kind off : Nat) (data : List Byte) : Served :=
  if s.stalls 0 off data.length true then .stall
  else if kind = 4 then .ok (s.poisonFrom off data.length) [] false
  else if kind = 2 && s.poisonIn off data.length then .ok s [] true
  else
    let bs := if kind = 2 then leBytes 4 (max (leNat (s.readPub off 4)) (leNat data)) else data
    let die := ((s.plotOf off).map (·.die)).getD 0
    .ok ((s.landWrite 0 off bs).loftTouchRange off data.length .evictFirst (s.mem.remoteMask.get 0 die) true) [] false

/-- A read of another device at its home: served as NOALLOC (R207); for sluice entry `k` (0 = none) with the sluice's
staged values (R263). -/
def State.serveRead (s : State) (k off n : Nat) : Served :=
  if s.stalls k off n false then .stall else .ok s (s.readLocal k off n) (s.poisonFor k off n)

/-- The entry of sluice `id` of a mere that another device may stage in. Log: 59 (DEDUCED). -/
def State.stagingEntry (s : State) (mere id : Nat) : Nat :=
  match s.work.sluices.find? (fun p => p.2.mere = mere && p.2.id = id
      && (p.2.state = .open_ || p.2.state = .closing)) with
  | some p => p.1
  | none => 0

/-- The entry whose staged values a read of sluice `id` of a mere sees (R263); 0 = none. -/
def State.keyEntry (s : State) (mere id : Nat) : Nat :=
  if id = 0 then 0
  else match s.work.sluices.find? (fun p => p.2.mere = mere && p.2.id = id && p.2.state ≠ .aborting) with
    | some p => p.1
    | none => 0

/-- What operation `op` of device `src` staged here in sluice `id`, discarded for its re-run (R76, R276).
Log: 121 (DESIGN CHOICE). -/
def State.unstageFor (s : State) (mere id src op : Nat) : State :=
  s.modSluice (s.stagingEntry mere id) (fun e => e.keep (fun a => !(a.dev = src && a.op = op)))

/-- A staged write or atomic of operation `op` of device `src` (R265). -/
def State.serveStaged (s : State) (mere slu src op kind off : Nat) (data : List Byte) : Served :=
  let k := s.stagingEntry mere slu
  if k = 0 then .refused s
  else
    match s.stage k op src (if kind = 2 then 1 else 0) off data with
    | .ok s1 => .ok s1 [] false
    | .bad s1 _ _ => .refused s1
    | .stall => .stall

/-- Whether every byte of a range lies in plots bound to the pond that a mere binds here (R414). -/
def State.mereOwns (s : State) (mere off n : Nat) : Bool :=
  match s.fab.meres.at? mere with
  | none => false
  | some m => off + n ≤ 0xC000000000 && [off, off + n - 1].all (fun o => (s.plotOf o).any (fun p => p.owner = m.pond))

/-- REMOTE_REQUEST (R414): a remote access of device `src` arrives on a sub-link. Kind 0 reads `len` bytes, 1 writes
`data`, 2 is an FP32 maximum; `slu` = the ID of the sluice it acts for, 0 = none, and `len` of a staged write is the
number of the requester's operation. Kind 3 discards what that operation staged here; kind 4 writes poison over as many
bytes as `data` has. Log: 121 (DESIGN CHOICE). -/
def execRemoteRequest (src tag mere kind off len slu : Nat) (data : List Byte) (sub : Nat) (s : State) : Out :=
  let n := if kind = 0 then len else data.length
  if s.fab.join ≠ .joined then .next s
  else if kind = 3 then .next (s.unstageFor mere slu src len)
  else if n = 0 || 65536 < n then .next s
  else if !s.mereOwns mere off n then .next (s.answer src tag mere sub (.refused s))
  else if kind = 0 then .next (s.answer src tag mere sub (s.serveRead (s.keyEntry mere slu) off n))
  else if slu ≠ 0 then .next (s.answer src tag mere sub (s.serveStaged mere slu src len kind off data))
  else .next (s.answer src tag mere sub (s.serveWrite kind off data))

/-- WINDOW_ACCESS (R417): an access through window `idx` arrives. `data` = the bytes written, or as many bytes as are
read; `host` = what host memory returned to a read of a window into the host range, `poison` whether in error.
Log: 59 (DEDUCED). -/
def execWindowAccess (src tag mere idx kind off : Nat) (data host : List Byte) (poison : Bool) (sub : Nat) (s : State) :
    Out :=
  let n := data.length
  let write := decide (kind ≠ 0)
  match s.xlat.windows.at? idx with
  | none => .next (s.answer src tag mere sub (.refused s))
  | some w =>
    if n = 0 || w.clearing ≠ 0 || w.pages * 65536 < off + n || (w.req ≠ 0xFFFF && w.req ≠ src) || w.mere = 0
        || w.mere ≠ mere || (if write then w.wr else w.rd) = false then
      .next (s.answer src tag mere sub (.refused s))
    else if w.base < 0xC000000000 then
      let at_ := w.base + off
      if [at_, at_ + n - 1].any (fun o => (s.plotOf o).isNone) then .next (s.answer src tag mere sub (.refused s))
      else .next (s.answer src tag mere sub (if write then s.serveWrite kind at_ data else s.serveRead 0 at_ n))
    else
      let bus := w.base + off - 0x40000000000
      if kind = 0 then .next (s.answer src tag mere sub (.ok s (host.take n) poison))
      else if kind = 1 then .next (s.answer src tag mere sub (.ok (s.writeHostData 0 bus data) [] false))
      else if kind = 4 then .next (s.answer src tag mere sub (.ok (s.poisonHost 0 bus n) [] false))
      else .next (s.answer src tag mere sub (.refused s))

/-- Whether a local offset lies in a placed plot of no pond. -/
def State.freePlot (s : State) (off : Nat) : Bool := (s.plotOf off).any (fun p => p.owner = 0)

/-- MERE_BIND (R487, R488): a handle is bound to a local pond, with a device map read from memory and copied into the
mere area. Log: 49 (DEDUCED). -/
def execMereBind (op : Nat) (s : State) : Out :=
  match s.go? op 0xA0 with
  | none => .next s
  | some o =>
    let mere := fld o.desc 0x20 0 32
    let h := fld o.desc 0x24 0 9
    let at_ := fld o.desc 0x28 0 43
    let bytes := s.readPub at_ 4096
    let map := maskBits 32768 (leNat bytes)
    let used := s.fab.meres.map (·.2.slot)
    match s.mereArea with
    | none =>
      if s.fab.join ≠ .joined then .next (s.decide op Status.notJoined 0)
      else if (s.mem.ponds.at? h).isNone then .next (s.decide op Status.badPond 0)
      else .next (s.decide op Status.badMere 0)
    | some area =>
      if s.fab.join ≠ .joined then .next (s.decide op Status.notJoined 0)
      else if (s.mem.ponds.at? h).isNone then .next (s.decide op Status.badPond 0)
      else if !s.freePlot at_ then .next (s.decide op Status.badForm 0x28)
      else if s.stalls 0 at_ 4096 false then .next s
      else if s.poisonIn at_ 4096 then .next (s.decide op Status.memoryError at_)
      else if mere = 0 || (s.fab.meres.at? mere).isSome || !map.contains s.fab.devId then
        .next (s.decide op Status.badMere 0)
      else match (List.range 256).find? (fun i => !used.contains i) with
        | none => .next (s.decide op Status.mereTableFull 0)
        | some slot =>
          if s.freePlot (area + 4096 * slot) && s.stalls 0 (area + 4096 * slot) 4096 true then .next s
          else
          let s1 := if s.freePlot (area + 4096 * slot) then s.landWrite 0 (area + 4096 * slot) bytes else s
          .next (({ s1 with fab := { s1.fab with meres := s1.fab.meres.set mere { pond := h, slot, map } } }).succeed op)

/-- Whether an operation in execution carries a mere handle of pond `h` (R489): a copy one of whose addresses leads to a
device of the handle, or an operation of a tile of the pond, whose operands may lie there. Log: 58 (DEDUCED). -/
def State.carries (s : State) (mere h : Nat) (o : Op) : Bool :=
  let remote (va : Nat) : Bool := match s.translate (s.newt o.fn o.ctx 0) va with
    | .ok (.remote dev _) _ => s.mereFor h dev = some mere
    | .ok (.window dev _ _) _ => s.mereFor h dev = some mere
    | _ => false
  o.pond = h && o.inExec &&
    ((o.opcode = 0x10 && ((copyLoc o.desc false = 0 && remote (copyAddr o.desc false 0))
        || (copyLoc o.desc true = 0 && remote (copyAddr o.desc true 0))))
      || ((0x20 ≤ o.opcode && o.opcode ≤ 0x31) && (s.mem.ponds.at? h).any (fun p => p.binding.subl ≠ 0)))

/-- MERE_UNBIND (R489). Log: 58 (DEDUCED). -/
def execMereUnbind (op : Nat) (s : State) : Out :=
  match s.go? op 0xA1 with
  | none => .next s
  | some o =>
    let mere := fld o.desc 0x20 0 32
    match s.fab.meres.at? mere with
    | none => .next (s.decide op Status.badMere 0)
    | some m =>
      if s.work.sluices.any (fun p => p.2.mere = mere) || s.eng.groups.any (fun p => p.2.mere = mere)
          || s.fab.pushIn.any (fun p => p.2.mere = mere) || s.fab.pushOut.any (fun p => p.mere = mere)
          || s.work.ops.any (fun p => s.carries mere m.pond p.2) then .next (s.decide op Status.mereBusy 0)
      else .next (({ s with fab := { s.fab with meres := s.fab.meres.erase mere } }).succeed op)

/-- A window-table entry, where it keeps R416 and is valid (R498). `e` = its 32 bytes as a number. -/
def State.parseWindow (s : State) (e : Nat) : Option Window :=
  let base := fld e 8 0 43
  let pages := fld e 0x10 0 16
  let mere := fld e 4 0 32
  let top := base + pages * 65536
  if fld e 0 0 4 = 1 && fld e 0 4 1 = 1 && fld e 0 7 9 = 0 && base % 65536 = 0 && fld e 8 43 21 = 0
      && 1 ≤ pages && pages ≤ 32768 && fld e 0x10 16 16 = 0 && fld e 0x14 0 96 = 0
      && (top ≤ 0xC000000000 || (0x40000000000 ≤ base && top ≤ 0x80000000000))
      && (mere = 0 || (s.fab.meres.at? mere).isSome) then
    some { rd := fld e 0 5 1 = 1, wr := fld e 0 6 1 = 1, req := fld e 0 16 16, mere, base, pages, clearing := 0 }
  else none

/-- WINDOW_SET (R498, R418). -/
def execWindowSet (op : Nat) (s : State) : Out :=
  match s.go? op 0xA2 with
  | none => .next s
  | some o => match s.parseWindow (fld o.desc 0x40 0 256) with
    | none => .next (s.decide op Status.badWindow 0)
    | some w =>
      let idx := if fld o.desc 0x20 12 1 = 1 then (List.range 4096).find? (fun i => (s.xlat.windows.at? i).isNone)
                 else some (fld o.desc 0x20 0 12)
      match idx with
      | none => .next (s.decide op Status.windowTableFull 0)
      | some i =>
        .next (({ s with xlat := { s.xlat with windows := s.xlat.windows.set i w } }).decide op Status.success i)

/-- WINDOW_CLEAR (R499): no new access finds the entry; it is gone once those that found it have completed. -/
def execWindowClear (op : Nat) (s : State) : Out :=
  match s.go? op 0xA3 with
  | none => .next s
  | some o =>
    let i := fld o.desc 0x20 0 12
    match s.xlat.windows.at? i with
    | none => .next (s.decide op Status.badWindow 0)
    | some w =>
      if w.clearing ≠ 0 then .next (s.decide op Status.badWindow 0)
      else .next ((({ s with xlat := { s.xlat with windows := s.xlat.windows.set i { w with clearing := op } } }).enqueue
        op).start op)

/-- WINDOW_CLEAR_DONE (R418, R499): no access that found the window remains. -/
def execWindowClearDone (idx : Nat) (s : State) : Out :=
  match s.xlat.windows.at? idx with
  | none => .next s
  | some w =>
    if w.clearing = 0 then .next s
    else .next (({ s with xlat := { s.xlat with windows := s.xlat.windows.erase idx } }).succeed w.clearing)

/-- Where a range leads, piece by piece, if it leads to consecutive offsets of one place (R501): the device (`none` =
this one) and the first offset. -/
def State.consecutive (s : State) (a : Agent) : List (Nat × Nat) → Option (Option Nat × Nat) → Acc (Option Nat × Nat)
  | [], some (d, o) => .ok (d, o)
  | [], none => .bad Status.badSubscription 0
  | (va, n) :: l, prev =>
    let step (d : Option Nat) (off : Nat) : Acc (Option Nat × Nat) :=
      match prev with
      | none => match s.consecutive a l (some (d, off + n)) with
        | .ok _ => .ok (d, off)
        | x => x
      | some (d', o') => if d' = d && o' = off then s.consecutive a l (some (d, off + n)) else .bad Status.badSubscription 0
    match s.translate a va with
    | .fault c v => .bad Status.translationFault (xlatDetail va c v)
    | .poison => .bad Status.memoryError va
    | .stall => .stall
    | .ok (.local_ off) _ => step none off
    | .ok (.remote dev off) _ => step (some dev) off
    | .ok _ _ => .bad Status.badSubscription 0

/-- The checks a consumer makes (R501): the producer, and the local offsets of both ranges. -/
def State.checkSubscription (s : State) (o : Op) : Acc (Nat × Nat × Nat) :=
  let a := s.newt o.fn o.ctx 0
  let n := fld o.desc 0x30 0 32
  match s.consecutive a (pieces (fld o.desc 0x20 0 55) n) none with
  | .stall => .stall
  | .bad st d => .bad st d
  | .ok (none, _) => .bad Status.badSubscription 0
  | .ok (some dev, src) => match s.consecutive a (pieces (fld o.desc 0x28 0 55) n) none with
    | .stall => .stall
    | .bad st d => .bad st d
    | .ok (some _, _) => .bad Status.badSubscription 0
    | .ok (none, dst) =>
      if (List.range ((dst + n - 1) / 0x20000000 - dst / 0x20000000 + 1)).all (fun i =>
          (s.mem.remap.at? (dst / 0x20000000 + i)).any (fun p => p.owner = o.pond)) && (s.mereFor o.pond dev).isSome then
        .ok (dev, src, dst)
      else .bad Status.badSubscription 0

/-- PUSH_SUBSCRIBE (R500, R501): checked and sent to the producer; given again with the producer's reply (1 = recorded,
2 = refused, 3 = its table is full) it completes. Log: 57 (DEDUCED). -/
def execPushSubscribe (op reply : Nat) (s : State) : Out :=
  match s.go? op 0xA4 with
  | some o =>
    if s.fab.join ≠ .joined then .next (s.decide op Status.notJoined 0)
    else match s.checkSubscription o with
      | .stall => .next s
      | .bad st d => .next (s.decide op st d)
      | .ok (dev, src, dst) =>
        if s.pathTo o.pond dev = .refused then .next (s.decide op Status.badTarget (fld o.desc 0x20 0 55))
        else match (List.range 256).find? (fun i => (s.fab.pushIn.at? i).isNone) with
          | none => .next (s.decide op Status.pushTableFull 0)
          | some i =>
            let mere := (s.mereFor o.pond dev).getD 0
            let x : PushIn :=
              { fn := o.fn, dev, mere, srcVa := fld o.desc 0x20 0 55, landVa := fld o.desc 0x28 0 55, src, dst
                len := fld o.desc 0x30 0 32, timeoutUs := fld o.desc 0x34 0 32, op, waiting := [] }
            let s1 := { s with fab := { s.fab with pushIn := s.fab.pushIn.set i x } }
            .next (((s1.send { kind := .pushSubscribe, dst := dev, mere, id := i
                               args := [src, dst, x.len], data := [] }).enqueue op).start op)
  | none =>
    match s.op? op, s.fab.pushIn.find? (fun p => p.2.op = op && op ≠ 0) with
    | some o, some (i, _) =>
      if o.opcode ≠ 0xA4 || o.phase ≠ .running || reply = 0 || 3 < reply then .next s
      else if reply = 1 then
        .next (({ s with fab := { s.fab with pushIn := s.fab.pushIn.modify i (fun x => { x with op := 0 }) } }).decide op
          Status.success i)
      else .next (({ s with fab := { s.fab with pushIn := s.fab.pushIn.erase i } }).decide op
        (if reply = 2 then Status.badSubscription else Status.pushTableFull) 0)
    | _, _ => .next s

/-- Whether `[lo, hi)` is covered by a list of ranges (first, bytes). -/
def covered (l : List (Nat × Nat)) : Nat → Nat → Nat → Bool
  | 0, lo, hi => decide (hi ≤ lo)
  | k + 1, lo, hi =>
    if hi ≤ lo then true
    else match l.find? (fun r => r.1 ≤ lo && lo < r.1 + r.2) with
      | some r => covered l k (r.1 + r.2) hi
      | none => false

/-- Local ranges that bytes `j` to `j + n - 1` of a copy cover at its destination, in the landing range of `x`. -/
def landRanges (x : PushIn) (d j n : Nat) : List (Nat × Nat) :=
  let rb := max 1 (fld d 0x20 0 32)
  if n = 0 then []
  else (List.range ((j + n - 1) / rb - j / rb + 1)).map (fun i =>
    let lo := max j ((j / rb + i) * rb)
    let hi := min (j + n) ((j / rb + i + 1) * rb)
    (x.dst + (copyAddr d true lo - x.landVa), hi - lo))

/-- Whether bytes of a waiting copy have all landed. -/
def landedAll (x : PushIn) (landed : List (Nat × Nat)) (d j n : Nat) : Bool :=
  (landRanges x d j n).all (fun r => covered landed (landed.length + 1) r.1 (r.1 + r.2))

/-- A waiting copy goes on in pull mode (R221): its segments that have wholly landed are done, and of the others only the
bytes that have not landed are pulled. Log: 36 (DEDUCED). -/
def State.pullCopy (s : State) (x : PushIn) (id : Nat) (landed : List (Nat × Nat)) : State :=
  match s.op? id with
  | none => s
  | some o =>
    let segs := (List.range (copySegments o.desc)).filter (fun g =>
      landedAll x landed o.desc (4096 * g) (min 4096 (copyBytes o.desc - 4096 * g)))
    let s1 := s.modOp id (fun o => { o with
      push := false, phase := .queued, done := segs
      landed := landed.map (fun r => (x.landVa + (r.1 - x.dst), r.2)) })
    if segs.length = copySegments o.desc then s1.succeed id else s1.activate o.engine 16

/-- A subscription removed at the consumer (R504): its waiting copies go on in pull mode, and PUSH_ENDED is posted. -/
def State.endPush (s : State) (i cause : Nat) : State :=
  match s.fab.pushIn.at? i with
  | none => s
  | some x =>
    let s1 := { s with fab := { s.fab with pushIn := s.fab.pushIn.erase i } }
    (x.waiting.foldl (fun s w => s.pullCopy x w.1 w.2) s1).post x.fn Event.pushEnded (i + cause * 256)

/-- PUSH_CANCEL (R504): the subscription ends here and its removal is sent to the producer; given again with the
producer's reply the descriptor completes. Log: 57 (DEDUCED). -/
def execPushCancel (op : Nat) (reply : Bool) (s : State) : Out :=
  match s.go? op 0xA5 with
  | some o =>
    let i := fld o.desc 0x20 0 8
    match s.fab.pushIn.at? i with
    | none => .next (s.decide op Status.badSubscription 0)
    | some x =>
      if x.fn ≠ o.fn || x.op ≠ 0 then .next (s.decide op Status.badSubscription 0)
      else if s.fab.join ≠ .joined then .next (s.decide op Status.notJoined 0)
      else
        .next ((((s.endPush i 1).send
          { kind := .pushCancel, dst := x.dev, mere := x.mere, id := i, args := [], data := [] }).enqueue op).start op)
  | none => match s.op? op with
    | some o => if o.opcode = 0xA5 && o.phase = .running && reply then .next (s.succeed op) else .next s
    | none => .next s

/-- PUSH_SUBSCRIBE_AT_PRODUCER (R501, R504): consumer `src` asks to record, or with `cancel` to remove, its
subscription `num` for `len` bytes at local offset `off`, landing at `dst`. The reply says 1 = recorded or removed, 2 =
refused, 3 = full. -/
def execPushSubscribeAtProducer (src mere num off dst len : Nat) (cancel : Bool) (sub : Nat) (s : State) : Out :=
  let reply (s : State) (r : Nat) : State :=
    s.sendOn { kind := .pushReply, dst := src, mere, id := num, args := [r], data := [] } sub
  let mine (p : PushOut) : Bool := p.dev = src && p.num = num
  if s.fab.join ≠ .joined then .next s
  else if cancel then
    .next (reply { s with fab := { s.fab with pushOut := s.fab.pushOut.filter (fun p => !mine p) } } 1)
  else
    let ok := match s.fab.meres.at? mere with
      | none => false
      | some m => 0 < len && off + len ≤ 0xC000000000
          && (List.range ((off + len - 1) / 0x20000000 - off / 0x20000000 + 1)).all (fun i =>
            (s.mem.remap.at? (off / 0x20000000 + i)).any (fun p => p.owner = m.pond))
    if !ok then .next (reply s 2)
    else if 256 ≤ s.fab.pushOut.length then .next (reply s 3)
    else .next (reply { s with fab := { s.fab with
      pushOut := s.fab.pushOut ++ [{ dev := src, mere, num, src := off, dst, len }] } } 1)

/-- Every waiting copy of a subscription whose bytes have all landed completes (R221, R503). -/
def State.finishPushed (s : State) (i : Nat) : State :=
  match s.fab.pushIn.at? i with
  | none => s
  | some x =>
    let whole (w : Nat × List (Nat × Nat)) : Bool := match s.op? w.1 with
      | some o => landedAll x w.2 o.desc 0 (copyBytes o.desc)
      | none => true
    let s1 := { s with fab := { s.fab with
      pushIn := s.fab.pushIn.modify i (fun x => { x with waiting := x.waiting.filter (fun w => !whole w) }) } }
    (x.waiting.filter whole).foldl (fun s w => s.succeed w.1) s1

/-- PUSH_WRITE_LAND (R502, R503): a push write of subscription `num` lands at local offset `off`, staged in sluice `slu`
where that is not 0, and marks the lines of waiting copies. -/
def execPushWriteLand (num off : Nat) (data : List Byte) (slu : Nat) (s : State) : Out :=
  match s.fab.pushIn.at? num with
  | none => .next s
  | some x =>
    let n := data.length
    if n = 0 || off < x.dst || x.dst + x.len < off + n then .next s
    else
      let served := if slu ≠ 0 then s.serveStaged x.mere slu x.dev 0 1 off data
        else if s.stalls 0 off n true then .stall
        else
          let pond := ((s.plotOf off).map (·.owner)).getD 0
          .ok ((s.landWrite 0 off data).loftTouchRange off n .alloc (s.maskFor pond off) true) [] false
      match served with
      | .stall => .next s
      | .refused s1 => .next s1
      | .ok s1 _ _ =>
        let s2 := { s1 with fab := { s1.fab with
          pushIn := s1.fab.pushIn.modify num (fun x => { x with
            waiting := x.waiting.map (fun (w : Nat × List (Nat × Nat)) => (w.1, w.2 ++ [(off, n)])) }) } }
        .next (s2.finishPushed num)

/-- PUSH_TIMEOUT (R221): bytes of a push-mode copy that have not landed within the subscription's timeout are pulled.
Log: 36 (DEDUCED). -/
def execPushTimeout (op : Nat) (s : State) : Out :=
  match s.fab.pushIn.find? (fun p => p.2.waiting.any (fun w => w.1 = op)) with
  | none => .next s
  | some (i, x) => match x.waiting.find? (fun w => w.1 = op) with
    | none => .next s
    | some w =>
      let s1 := { s with fab := { s.fab with
        pushIn := s.fab.pushIn.modify i (fun x => { x with waiting := x.waiting.filter (fun v => v.1 ≠ op) }) } }
      .next (s1.pullCopy x op w.2)

end Sys2Proof.Machine
end

