-- ==== Sys2Proof/Machine/Join.lean ====
section
/-! DEFINITION. Joining a fabric domain, routes, reports of groups and faults, unreachable devices, and the exchange of
time with the parent (18_meres). -/

namespace Sys2Proof.Machine

/-- This device's group and member numbers (R484). -/
def State.ownGroup (s : State) : Nat := bitsOf s.fab.devId 8 7
def State.ownMember (s : State) : Nat := s.fab.devId % 256

/-- The ID as configured (R484, R518): eight bits of group. -/
def State.configuredId (s : State) : Nat := (s.fab.group.getD 0) % 256 * 256 + s.fab.member

/-- The device enters REJECTED with a cause (R484, R507, R508): it is no leader and no time root, and learns no rate. -/
def State.reject (s : State) (cause : Nat) : State :=
  let s1 := s.setFab (fun f =>
    { f with join := .rejected, cause, confirmed := false, leader := false, timeRoot := false, roundKind := 0 })
  let s2 : State := { s1 with clk := { s1.clk with corr := 0 } }
  s2.post 0 Event.joinRejected (s.configuredId + cause * 65536)

/-- A routing word (R516). -/
def routeWord (set hops : Nat) : Nat := set + 64 + hops * 256

/-- The entry of the group table or the member table. -/
def State.routeEntry (s : State) (group : Bool) (k : Nat) : Nat :=
  if group then s.fab.routeGrp.get 0 k else s.fab.routeMbr.get 0 k

def State.setRoute (s : State) (group : Bool) (k w : Nat) : State :=
  s.setFab (fun f => { f with
    routeGrp := if group then f.routeGrp.set k w else f.routeGrp
    routeMbr := if group then f.routeMbr else f.routeMbr.set k w
    changed := true })

/-- The set of an entry, and whether another valid entry names a set. -/
def State.maskOf (s : State) (w : Nat) : Nat := if bitOf w 6 then s.fab.routeSet.get 0 (w % 64) else 0

def State.setUsed (s : State) (group : Bool) (k i : Nat) : Bool :=
  s.fab.routeGrp.any (fun p => !(group && p.1 = k) && bitOf p.2 6 && p.2 % 64 = i)
    || s.fab.routeMbr.any (fun p => !(!group && p.1 = k) && bitOf p.2 6 && p.2 % 64 = i)

/-- The set-table entry an entry may name for a mask: one that holds it, else the lowest no other entry names.
Log: 61 (DEDUCED). -/
def State.setFor (s : State) (group : Bool) (k mask : Nat) : Option Nat :=
  match (List.range 64).find? (fun i => s.setUsed group k i && s.fab.routeSet.get 0 i = mask) with
  | some i => some i
  | none => (List.range 64).find? (fun i => !s.setUsed group k i)

/-- An entry given a mask of sub-links and a distance; with an empty mask it becomes invalid (R492, R495). -/
def State.putRoute (s : State) (group : Bool) (k mask hops : Nat) : State :=
  if mask = 0 then s.setRoute group k 0
  else match s.setFor group k mask with
    | none => s
    | some i =>
      (s.setFab (fun f => { f with routeSet := f.routeSet.set i mask })).setRoute group k (routeWord i hops)

/-- One entry of a vector merged (R505): a destination `hops` away over sub-link `sub`. A shorter way replaces the set,
an equal one joins it, and a sub-link over which the way is no longer so short leaves it. Log: 61 (DEDUCED). -/
def State.mergeRoute (s : State) (group : Bool) (sub k hops : Nat) : State :=
  let w := s.routeEntry group k
  let m := s.maskOf w
  let d := bitsOf w 8 8
  let has := bitOf m sub
  if 255 ≤ hops then (if has then s.putRoute group k (m - 2 ^ sub) d else s)
  else if m = 0 || hops < d then s.putRoute group k (2 ^ sub) hops
  else if hops = d then (if has then s else s.putRoute group k (m + 2 ^ sub) d)
  else if has then
    (if m = 2 ^ sub then s.putRoute group k m hops else s.putRoute group k (m - 2 ^ sub) d)
  else s

/-- Sub-links whose state is UP. -/
def State.upSubs (s : State) : List Nat := (List.range 64).filter (fun n => (s.subLink n).state = .up)

/-- In discovered mode, entries whose sets hold no UP sub-link become invalid, and a change of the UP sub-links since the
last look starts the rounds again (R495). Log: 63 (DESIGN CHOICE). -/
def State.pruneRoutes (s0 : State) : State :=
  if s0.fab.routeMode then s0
  else
    let up := s0.upMask
    let s := s0.setFab (fun f => { f with upSeen := up, changed := f.changed || up ≠ f.upSeen })
    let dead (w : Nat) : Bool := bitOf w 6 && (s.maskOf w &&& up) = 0
    let s1 := (s.fab.routeGrp.filter (fun p => dead p.2)).foldl (fun s p => s.setRoute true p.1 0) s
    (s.fab.routeMbr.filter (fun p => dead p.2)).foldl (fun s p => s.setRoute false p.1 0) s1

/-- Members of this group the device reaches, itself among them. -/
def State.reachedMembers (s : State) : List Nat :=
  (List.range 256).filter (fun m => m = s.ownMember || bitOf (s.fab.routeMbr.get 0 m) 6)

/-- The least of a list. -/
def leastNat : List Nat → Option Nat
  | [] => none
  | a :: l => match leastNat l with
    | none => some a
    | some b => some (min a b)

/-- Lower-numbered groups to which the device has a route: their leaders come before this one as time root (R506).
Log: 61 (DEDUCED). -/
def State.lowerGroup (s : State) : Option Nat :=
  leastNat ((s.fab.routeGrp.filter (fun p => bitOf p.2 6 && p.1 < s.ownGroup)).map (·.1))

/-- The time root is the leader of the lowest-numbered JOINED group (R506). A device that becomes it learns no rate. -/
def State.updateRoot (s : State) : State :=
  let root := s.fab.leader && s.fab.join = .joined && (s.lowerGroup).isNone
  let s1 := s.setFab (fun f => { f with timeRoot := root })
  if root then { s1 with clk := { s1.clk with corr := 0 } } else s1

/-- The group's leader chosen (R506): the lowest member reached with leader_ok = 1 and not rejected. -/
def State.elect (s : State) : State :=
  let me := s.ownMember
  let cand := (s.fab.leaders.filter (fun m => s.reachedMembers.contains m && m ≠ me && !s.fab.rejected.contains m))
    ++ (if s.fab.leaderOk then [me] else [])
  match leastNat cand with
  | some m => (s.setFab (fun f => { f with leader := m = me, leaderMember := m })).updateRoot
  | none => (s.setFab (fun f => { f with leader := false, leaderMember := 0 })).updateRoot

/-- A HELLO of this device on a sub-link (R505 step 3). -/
def State.sendHello (s : State) (sub : Nat) : State :=
  let code := match s.fab.join with
    | .off => 0 | .training => 1 | .discovery => 2 | .linking => 3 | .awaitConfirm => 4 | .joined => 5 | .rejected => 6
  s.sendOn { kind := .hello, dst := (s.subLink sub).nDev, mere := 0, id := 0
             args := [s.fab.devId, code, b2n s.fab.leaderOk], data := [] } sub

/-- Whether a sub-link leads to a neighbour through which the device may route (R485). -/
def State.goodNeighbour (s : State) (sub : Nat) : Option Neighbour :=
  match s.fab.neighbours.at? sub with
  | some n => if n.state = 6 then none else some n
  | none => none

/-- The sub-links a kind of round uses (R505 steps 4 and 5): to the same group for member rounds, every one for group
rounds. -/
def State.roundSubs (s : State) (group : Bool) : List Nat :=
  s.upSubs.filter (fun n => match s.goodNeighbour n with
    | some x => group || x.dev / 256 = s.ownGroup
    | none => false)

/-- The device's vector (R505): by destination, the distance (255 = not reached) and the lowest sub-link of its way. -/
def State.vector (s : State) (group : Bool) : List (Nat × Nat) :=
  (List.range (if group then 128 else 256)).map (fun k =>
    if k = (if group then s.ownGroup else s.ownMember) then (0, 64)
    else
      let w := s.routeEntry group k
      if bitOf w 6 then (bitsOf w 8 8, (((maskBits 64 (s.maskOf w)).head?).getD 64)) else (255, 64))

/-- The lowest anchor this device knows, itself included (R505 step 6). -/
def State.bestAnchor (s : State) : Nat := if s.fab.anchor then min s.fab.devId s.fab.anchorId else s.fab.anchorId

/-- The vector sent on every sub-link of a kind of round (R505), with the members that may lead, the lowest anchor and
the IDs two devices claim. -/
def State.sendVectors (s : State) (group : Bool) : State :=
  let v := s.vector group
  let leaders := s.fab.leaders ++ (if s.fab.leaderOk then [s.ownMember] else [])
  (s.roundSubs group).foldl (fun s n =>
    s.sendOn { kind := .vector, dst := (s.subLink n).nDev, mere := 0, id := b2n group
               args := v.map (·.1) ++ v.map (·.2) ++ [s.bestAnchor, leaders.length] ++ leaders ++ s.fab.dups
               data := [] } n) s

/-- The direct neighbours of a kind of round entered into the tables, one hop away. -/
def State.addDirect (s : State) (group : Bool) : State :=
  if s.fab.routeMode then s
  else s.upSubs.foldl (fun s n => match s.goodNeighbour n with
    | none => s
    | some x =>
      if group && x.dev / 256 ≠ s.ownGroup && x.dev < 0x8000 then s.mergeRoute true n (x.dev / 256) 1
      else if !group && x.dev / 256 = s.ownGroup && x.dev ≠ s.fab.devId then
        let s1 := s.mergeRoute false n (x.dev % 256) 1
        if x.leaderOk && !s1.fab.leaders.contains (x.dev % 256) then
          s1.setFab (fun f => { f with leaders := f.leaders ++ [x.dev % 256] })
        else s1
      else s) s

/-- A mask with the bits of a list set. -/
def maskFrom (l : List Nat) : Nat := l.eraseDups.foldl (fun m i => m + 2 ^ i) 0

/-- GROUP_REPORT posted at an anchor (R518). -/
def State.postReport (s : State) (group leader members : Nat) (dup : Bool) (bitmap : Nat) : State :=
  (s.setFab (fun f => { f with reportLeader := f.reportLeader.set group leader })).post 0 Event.groupReport
    (group % 128 + leader % 256 * 2 ^ 8 + members % 512 * 2 ^ 16 + b2n dup * 2 ^ 31 + bitmap % 2 ^ 256 * 2 ^ 64)

/-- The leader's report of its group to the lowest anchor reached (R505 step 6, R507): at first of every member, later of
those not yet reported (R509). Nothing leaves while no anchor is reached. Log: 62 (DEDUCED). -/
def State.sendReport (s : State) : State :=
  let all := s.reachedMembers.filter (fun m => !s.fab.rejected.contains m || s.fab.dups.contains (256 * s.ownGroup + m))
  let new := all.filter (fun m => !s.fab.reported.contains m)
  let dup := s.fab.dups.any (fun d => d / 256 = s.ownGroup)
  let a := s.bestAnchor
  if !s.fab.leader || new.isEmpty || a = 0xFFFF then s
  else
    let s1 := s.setFab (fun f => { f with reported := f.reported ++ new })
    if a = s.fab.devId then s1.postReport s.ownGroup s.ownMember new.length dup (maskFrom new)
    else s1.send { kind := .report, dst := a, mere := 0, id := s.ownGroup
                   args := [s.ownMember, new.length, b2n dup, maskFrom new], data := [] }

/-- A kind of rounds starts (R505). -/
def State.beginRounds (s : State) (kind : Nat) : State :=
  let s1 := s.addDirect (kind = 3)
  (s1.setFab (fun f => { f with roundKind := kind, rounds := 1, changed := false })).sendVectors (kind = 3)

/-- JOIN_ROUND_END (R495, R505): a round ends, and convergence is judged: the rounds end after the first that changes no
vector. Between convergences a change starts them again, with a neighbour round over the sub-links newly UP. -/
def execJoinRoundEnd (s0 : State) : Out :=
  let s := s0.pruneRoutes
  match s.fab.join with
  | .off | .rejected => .next s0
  | .training =>
    let s1 := s.setFab (fun f => { f with join := .discovery, roundKind := 1 })
    .next (s1.upSubs.foldl (fun s n => s.sendHello n) s1)
  | _ =>
    match s.fab.roundKind with
    | 1 => .next (s.beginRounds 2)
    | 2 =>
      if s.fab.changed then
        .next ((s.setFab (fun f => { f with rounds := f.rounds + 1, changed := false })).sendVectors false)
      else
        let s1 := s.setFab (fun f => { f with
          dM := (f.rounds - 1) % 256, join := if f.join = .discovery then .linking else f.join })
        .next ((s1.elect).beginRounds 3)
    | 3 =>
      if s.fab.changed then
        .next ((s.setFab (fun f => { f with rounds := f.rounds + 1, changed := false })).sendVectors true)
      else
        let s1 := s.setFab (fun f => { f with
          dG := (f.rounds - 1) % 128, roundKind := 0, join := if f.join = .linking then .awaitConfirm else f.join })
        .next s1.updateRoot.sendReport
    | _ =>
      let fresh := s.upSubs.filter (fun n => !bitOf s0.fab.upSeen n)
      if !s.fab.changed then .next s
      else if fresh.isEmpty then .next (s.beginRounds 2)
      else .next (fresh.foldl (fun s n => s.sendHello n) (s.setFab (fun f => { f with roundKind := 1 })))

/-- HELLO (R505 step 3): a neighbour's ID, state and leader_ok arrive. A device past its own neighbour round answers a
neighbour it did not know, and runs its rounds again (R509). -/
def execHello (sub dev state : Nat) (leaderOk : Bool) (s : State) : Out :=
  if 64 ≤ sub || (s.subLink sub).state ≠ .up || s.fab.join = .off then .next s
  else
    let known := s.fab.neighbours.at? sub = some { dev, state, leaderOk }
    let s1 := (s.modSub sub (fun l => { l with nDev := dev % 65536 })).setFab (fun f => { f with
      neighbours := f.neighbours.set sub { dev, state, leaderOk }
      rejected := if state = 6 && dev / 256 = s.ownGroup && !f.rejected.contains (dev % 256) then f.rejected ++ [dev % 256]
                  else f.rejected })
    if known || s1.fab.join = .training || s1.fab.join = .rejected || s1.fab.roundKind = 1 then .next s1
    else .next ((s1.sendHello sub).setFab (fun f => { f with changed := true }))

/-- VECTOR_RECEIVED (R505, R508): a neighbour's vector is merged. `links` are the sub-links of its ways at the neighbour:
a way back over the link the vector came by is none. `dups` are IDs its rounds show claimed twice.
Log: 61 (DEDUCED), 62 (DEDUCED). -/
def execVectorReceived (sub : Nat) (group : Bool) (dists links leaders : List Nat) (anchor : Nat) (dups : List Nat)
    (s : State) : Out :=
  let l := s.subLink sub
  match s.goodNeighbour sub with
  | none => .next s
  | some x =>
    if 64 ≤ sub || l.state ≠ .up || s.fab.join = .off || s.fab.join = .training || s.fab.join = .rejected
        || (!group && x.dev / 256 ≠ s.ownGroup) then .next s
    else if dups.contains s.fab.devId then .next (s.reject 2)
    else
      let n := if group then 128 else 256
      let own := if group then s.ownGroup else s.ownMember
      let ways := ((dists.zip links).zip (List.range n)).map (fun w =>
        (w.2, if w.1.2 = l.nSub || 255 ≤ w.1.1 then 255 else w.1.1 + 1))
      let skip (k : Nat) : Bool := k = own || (!group && s.fab.rejected.contains k)
      let s1 := if s.fab.routeMode then s
        else (ways.filter (fun w => !skip w.1)).foldl (fun s w => s.mergeRoute group sub w.1 w.2) s
      let newL := if group then [] else leaders.filter (fun m => m < 256 && !s1.fab.leaders.contains m && m ≠ s.ownMember)
      let newD := dups.filter (fun d => !s1.fab.dups.contains d)
      let better := decide (anchor < s1.fab.anchorId)
      let s2 := s1.setFab (fun f => { f with
        leaders := f.leaders ++ newL.eraseDups, dups := f.dups ++ newD.eraseDups
        anchorId := min f.anchorId anchor
        changed := f.changed || !newL.isEmpty || !newD.isEmpty || better })
      .next s2.reachCheck

/-- GROUP_REPORT (R507): a leader's report arrives at an anchor. -/
def execGroupReport (group leader members : Nat) (dup : Bool) (bitmap : Nat) (s : State) : Out :=
  if s.fab.anchor && group < 128 then .next (s.postReport group leader members dup bitmap) else .next s

/-- GROUP_REPORT_RESEND (R507): 100 ms after finding no anchor the leader tries its report again. -/
def execGroupReportResend (s : State) : Out :=
  if s.fab.leader && s.fab.roundKind = 0 && (s.fab.join = .awaitConfirm || s.fab.join = .joined) then .next s.sendReport
  else .next s

/-- A confirmation applied on a member (R507): its own bit decides its state; routes to reported members whose bits are
clear are dropped. A clear bit says nothing of a member that no report has named. -/
def State.applyConfirm (s : State) (bitmap reported : Nat) : State :=
  let clear := (List.range 256).filter (fun m => !bitOf bitmap m && bitOf reported m)
  let gone := s.reachedMembers.filter (fun m => m ≠ s.ownMember && clear.contains m)
  let s1 := gone.foldl (fun s m => s.setRoute false m 0) s
  let s2 := s1.setFab (fun f => { f with
    rejected := (f.rejected.filter (fun m => !bitOf bitmap m)) ++ gone.filter (fun m => !f.rejected.contains m)
    changed := s.fab.changed })
  if bitOf bitmap s.ownMember then
    if s2.fab.join = .joined then s2.updateRoot
    else if s2.fab.join = .awaitConfirm || (s2.fab.join = .rejected && s2.fab.cause = 3) then
      let s3 := s2.setFab (fun f => { f with join := .joined, confirmed := true, cause := 0 })
      s3.updateRoot.post 0 Event.fabricJoined
        (s3.fab.devId + s3.fab.leaderMember * 2 ^ 16 + s3.fab.dM * 2 ^ 32 + s3.fab.dG * 2 ^ 40)
    else s2
  else if bitOf reported s.ownMember && (s2.fab.join = .joined || s2.fab.join = .awaitConfirm) then s2.reject 3
  else s2

/-- The leader floods a confirmation to the members it reaches (R505 step 7), with the members it has reported, then
applies it. -/
def State.floodConfirm (s : State) (bitmap : Nat) : State :=
  let reported := maskFrom s.fab.reported
  let s1 := (s.reachedMembers.filter (· ≠ s.ownMember)).foldl (fun s m =>
    s.send { kind := .confirm, dst := 256 * s.ownGroup + m, mere := 0, id := s.ownGroup, args := [bitmap, reported]
             data := [] }) s
  s1.applyConfirm bitmap reported

/-- CONFIRMATION_RECEIVED (R505 step 7, R507): from an anchor at the leader, which knows whom it has reported; from the
leader at a member, with the members reported. Log: 61 (DEDUCED). -/
def execConfirmationReceived (group : Nat) (conf : Confirmation) (s : State) : Out :=
  if group ≠ s.ownGroup || s.fab.join = .off || s.fab.join = .training then .next s
  else .next (if s.fab.leader then s.floodConfirm conf.bitmap else s.applyConfirm conf.bitmap conf.reported)

/-- FAB_CONFIRM (R507): the fabric manager's answer to a group report, at an anchor. Log: 49 (DEDUCED), 62 (DEDUCED). -/
def execFabConfirm (op : Nat) (s : State) : Out :=
  match s.go? op 0xA6 with
  | none => .next s
  | some o =>
    let g := fld o.desc 0x20 0 7
    let at_ := fld o.desc 0x28 0 43
    let own := decide (g = s.ownGroup)
    if !s.fab.anchor then .next (s.decide op Status.notAnchor 0)
    else if !own && !bitOf (s.fab.routeGrp.get 0 g) 6 then .next (s.decide op Status.notJoined 0)
    else if (s.plotOf at_).isNone then .next (s.decide op Status.badForm 0x28)
    else if s.stalls 0 at_ 32 false then .next s
    else if s.poisonIn at_ 32 then .next (s.decide op Status.memoryError at_)
    else
      let bitmap := leNat (s.readPub at_ 32)
      if own && s.fab.leader then .next ((s.floodConfirm bitmap).succeed op)
      else
        let (k, s1) := s.takeFree
        let leader := if own then s.fab.leaderMember else (s.fab.reportLeader.at? g).getD (Config.freeNat k % 256)
        .next ((s1.send { kind := .confirm, dst := 256 * g + leader, mere := 0, id := g, args := [bitmap], data := [] }).succeed op)

/-- The ends of a sub-link, ordered by device and then by sub-link (R646 kind 1). -/
def State.linkEnds (s : State) (n : Nat) : Nat :=
  let l := s.subLink n
  let a := s.fab.devId * 64 + n
  let b := l.nDev * 64 + l.nSub
  let lo := min a b
  let hi := max a b
  lo / 64 % 65536 + lo % 64 * 2 ^ 16 + hi / 64 % 65536 * 2 ^ 22 + hi % 64 * 2 ^ 38

/-- Fingerprints (R646): of a sub-link `a`; of device `a`; of the run of mere `a`, group `b`, number `c`; of sluice `b` of
coordinator `a`; of the unit `b` of class `a` of this device. Log: 64 (DEDUCED). -/
def State.fingerprint (s : State) (kind a b c : Nat) : Option Nat :=
  let k := kind * 2 ^ 60
  match kind with
  | 1 => some (k + s.linkEnds a)
  | 2 => some (k + a % 65536)
  | 3 => some (k + a % 2 ^ 28 + crc32 (leBytes 8 b ++ leBytes 4 c) * 2 ^ 28)
  | 4 => some (k + a % 65536 + b % 2 ^ 44 * 65536)
  | 5 => some (k + s.fab.devId % 65536 + a % 16 * 65536 + b % 65536 * 2 ^ 20)
  | _ => none

/-- A report taken into the leader's window (R511); beyond 1,024 fingerprints under fingerprint 0. -/
def State.mergeReport (s : State) (fp dev count : Nat) : State :=
  let key := if (s.fab.merged.at? fp).isSome || (s.fab.merged.filter (fun p => p.1 ≠ 0)).length < 1024 then fp else 0
  let m := s.fab.merged.get { devices := [], count := 0, lowest := dev } key
  let m1 : Merged :=
    { devices := if m.devices.contains dev then m.devices else m.devices ++ [dev]
      count := (m.count + count) % 2 ^ 32, lowest := min m.lowest dev }
  s.setFab (fun f => { f with merged := f.merged.set key m1 })

/-- The leader of this device's group, once chosen (R506). -/
def State.leaderKnown (s : State) : Bool :=
  (s.fab.join = .linking || s.fab.join = .awaitConfirm || s.fab.join = .joined)
    && (s.fab.leader || bitOf (s.fab.routeMbr.get 0 s.fab.leaderMember) 6)

/-- FAULT_REPORT_SEND (R510): the device observes a fault. One report of a fingerprint goes to the leader in each 10 ms
window; further observations are counted and go with the next. -/
def execFaultReportSend (kind a b c : Nat) (s : State) : Out :=
  match s.fingerprint kind a b c with
  | none => .next s
  | some fp =>
    let w := s.ns / 10000000 + 1
    let x := s.fab.faults.get { window := 0, count := 0 } fp
    if x.window = w || !s.leaderKnown then
      .next (s.setFab (fun f => { f with faults := f.faults.set fp { x with count := x.count + 1 } }))
    else
      let s1 := s.setFab (fun f => { f with faults := f.faults.set fp { window := w, count := 0 } })
      if s.fab.leader then .next (s1.mergeReport fp s.fab.devId (x.count + 1))
      else .next (s1.send { kind := .faultReport, dst := 256 * s.ownGroup + s.fab.leaderMember, mere := 0, id := 0
                            args := [fp, s.fab.devId, x.count + 1], data := [] })

/-- FAULT_REPORT_AT_LEADER (R511): a member's report is merged. -/
def execFaultReportAtLeader (fp dev count : Nat) (s : State) : Out :=
  if s.fab.leader then .next (s.mergeReport (fp % 2 ^ 64) (dev % 65536) count) else .next s

/-- FAULT_REPORT posted at an anchor (R518). -/
def State.postFault (s : State) (fp devices count lowest group : Nat) : State :=
  s.post 0 Event.faultReport (fp % 2 ^ 64 + devices % 2 ^ 32 * 2 ^ 64 + count % 2 ^ 32 * 2 ^ 96
    + (lowest % 65536 + group % 128 * 65536) * 2 ^ 128)

/-- LEADER_FAULT_WINDOW (R511): at the end of a 10 ms window the leader sends its merged reports to the anchor. While no
anchor is reached they stay. Log: 62 (DEDUCED). -/
def execLeaderFaultWindow (s : State) : Out :=
  let a := s.bestAnchor
  if !s.fab.leader || a = 0xFFFF then .next s
  else
    let s1 := s.setFab (fun f => { f with merged := [] })
    .next (s.fab.merged.foldl (fun s p =>
      if a = s.fab.devId then s.postFault p.1 p.2.devices.length p.2.count p.2.lowest s.ownGroup
      else s.send { kind := .faultReport, dst := a, mere := 0, id := 1
                    args := [p.1, p.2.devices.length, p.2.count, p.2.lowest, s.ownGroup], data := [] }) s1)

/-- FAULT_REPORT (R511): a merged report arrives at an anchor. -/
def execFaultReport (fp devices count lowest group : Nat) (s : State) : Out :=
  if s.fab.anchor then .next (s.postFault fp devices count lowest group) else .next s

/-- UNREACH_TIMER (R496): device `dev` has been without a route or an UP sub-link for unreach_ms. `ops` are the
operations whose requests to it wait. Log: 64 (DEDUCED). -/
def execUnreachTimer (dev : Nat) (ops : List Nat) (s : State) : Out :=
  if dev = s.fab.devId || 0x8000 ≤ dev || s.reaches dev || s.fab.unreachable.contains dev then .next s
  else
    let s1 := (s.setFab (fun f => { f with unreachable := f.unreachable ++ [dev] })).post 0 Event.deviceUnreachable dev
    let subs := (s1.fab.pushIn.filter (fun p => p.2.dev = dev && p.2.op ≠ 0)).map (·.2.op)
    let s2 := (ops ++ subs).foldl (fun s i => s.decide i Status.badTarget 0) s1
    let s3 := s2.coordinatorLost dev
    .next ((s3.fab.pushIn.filter (fun p => p.2.dev = dev && p.2.op = 0)).foldl (fun s p => s.endPush p.1 2) s3)

/-- The sub-links that carry time messages: those UP, and the low-rate links of brumation (R478, R512). -/
def State.timeMask (s : State) : Nat :=
  ((List.range 64).filter (fun n => (s.subLink n).state = .sleep && (s.subLink n).gen = 1)).foldl (fun m n => m + 2 ^ n)
    s.upMask

/-- The sub-link toward the device's time parent (R512); 64 = it has none. -/
def State.parentSub (s : State) : Nat :=
  if !s.leaderKnown || s.fab.timeRoot then 64
  else
    let dst : Option Nat := if s.fab.leader then (s.lowerGroup).map (256 * ·) else some (256 * s.ownGroup + s.fab.leaderMember)
    match dst with
    | none => 64
    | some d => pickSub d 0 (((s.routeSet d).getD 0) &&& s.timeMask)

/-- TIME_EXCHANGE (R512): a time request goes to the parent. -/
def execTimeExchange (s : State) : Out :=
  let p := s.parentSub
  if 64 ≤ p then .next s
  else .next ((s.setFab (fun f => { f with t1 := s.ns })).sendOn
    { kind := .timeRequest, dst := (s.subLink p).nDev, mere := 0, id := 0, args := [s.ns], data := [] } p)

/-- TIME_REQUEST_RECEIVED (R512): the parent answers with t2 and t3. -/
def execTimeRequestReceived (sub t1 : Nat) (s : State) : Out :=
  if 64 ≤ sub || !bitOf s.timeMask sub || s.fab.join = .off then .next s
  else .next (s.sendOn { kind := .timeReply, dst := (s.subLink sub).nDev, mere := 0, id := 0
                         args := [t1, s.ns, s.ns], data := [] } sub)

/-- ROUTE_TABLE_WRITE (R497, R516): a routing register is written in static route mode. `table`: 0 = group, 1 = member, 2
and 3 = low and high words of the set table. -/
def execRouteTableWrite (table idx value : Nat) (s : State) : Out :=
  let w := value % 2 ^ 32
  let e := w % 128 + bitsOf w 8 8 * 256
  let old := s.fab.routeSet.get 0 idx
  if !s.fab.routeMode then .next s
  else match table with
    | 0 => if idx < 128 then .next (s.setFab (fun f => { f with routeGrp := f.routeGrp.set idx e })).reachCheck else .next s
    | 1 => if idx < 256 then .next (s.setFab (fun f => { f with routeMbr := f.routeMbr.set idx e })).reachCheck else .next s
    | 2 => if idx < 64 then
        .next (s.setFab (fun f => { f with routeSet := f.routeSet.set idx (setBits old 0 32 w) })).reachCheck else .next s
    | 3 => if idx < 64 then
        .next (s.setFab (fun f => { f with routeSet := f.routeSet.set idx (setBits old 32 32 w) })).reachCheck else .next s
    | _ => .next s

/-- TRANSIT_PACKET (R485, R493, R494): a packet for another device passes through; a response goes back on the sub-link
its request came by. `src` and `tag` name the request; `cls.sys` tells a SYS-class join, time, wake or fault message, which also a
device not yet JOINED passes on, but never a rejected one. Log: 63 (DESIGN CHOICE). -/
def execTransitPacket (src tag dst addr sub : Nat) (cls : PacketClass) (data : List Byte) (s : State) : Out :=
  if !(s.fab.join = .joined || cls.sys && s.fab.join ≠ .off && s.fab.join ≠ .rejected) || dst = s.fab.devId || dst = 0xFFFF then
    .next s
  else
    let key := src * 65536 + tag
    let msg : FabMsg := { kind := .transit, dst, mere := 0, id := tag, args := [src, addr, b2n cls.resp], data }
    if cls.resp then match s.fab.paths.at? key with
      | none => .next s
      | some n => .next ((s.setFab (fun f => { f with paths := f.paths.erase key })).sendOn msg n)
    else
      let out := pickSub dst addr (((s.routeSet dst).getD 0) &&& s.upMask)
      .next ((s.setFab (fun f => { f with paths := f.paths.set key sub })).sendOn msg out)

end Sys2Proof.Machine
end

