-- ==== Sys2Proof/Machine/Power.lean ====
section
/-! DEFINITION. Voltage commands, the sail controller, CROAK_N, temperature and droop (19_power_and_thermal). -/

namespace Sys2Proof.Machine

def State.setPwr (s : State) (f : PowerPart → PowerPart) : State := { s with pwr := f s.pwr }

def State.island (s : State) (n : Nat) : Island := s.pwr.islands.get Island.reset n

def State.modIsland (s : State) (n : Nat) (f : Island → Island) : State :=
  s.setPwr (fun p => { p with islands := p.islands.set n (f (s.island n)) })

def State.sail (s : State) (d : Nat) : Sail := s.pwr.dies.get Sail.reset d

def State.modSail (s : State) (d : Nat) (f : Sail → Sail) : State :=
  s.setPwr (fun p => { p with dies := p.dies.set d (f (s.sail d)) })

/-- Minimum code of each divider (R520). -/
def minCode (div : Nat) : Nat :=
  match div with
  | 8 => 46 | 9 => 37 | 10 => 30 | 11 => 24 | 12 => 19 | 13 => 15 | 14 => 11 | 15 => 7 | _ => 4

/-- A voltage code in microvolts. -/
def codeUv (code : Nat) : Nat := 550000 + 5000 * code

/-- An island's output at time `t` (R522): it slews at 25 mV per microsecond. Log: 65 (DEDUCED). -/
def Island.out (i : Island) (t : Nat) : Nat :=
  let goal := codeUv i.target
  let moved := 25 * (t - i.at_)
  if i.uv ≤ goal then min goal (i.uv + moved) else max goal (i.uv - moved)

/-- Whether the tile islands are forced (R531, R535, R616, R668). -/
def State.forced (s : State) : Bool := s.pwr.forced || s.pwr.trip || s.ras.fatal || 2 ≤ s.pwr.downStep

/-- The divider an island runs at (R523). -/
def State.divNow (s : State) (n : Nat) : Nat :=
  let i := s.island n
  if s.forced then 16 else min 16 (i.div + i.steps)

/-- An island settled at its target: a pending raise takes effect, unless the island is forced (R532), and the command
completes once its divider is in place (R522). Log: 65 (DEDUCED). -/
def State.settle (s : State) (n : Nat) : State :=
  let wait := s.forced
  s.modIsland n (fun i =>
    let i1 := { i with uv := codeUv i.target, at_ := s.ns, settled := true }
    if i1.raise && wait then i1
    else { i1 with div := i1.cmdDiv, raise := false, complete := true, doneTag := if i1.complete then i1.doneTag else i1.tag })

/-- A voltage command (R521, R522). -/
def State.voltageCommand (s : State) (n code div tag : Nat) : State :=
  if 512 ≤ n then s
  else if 80 < code || div < 8 || 16 < div || code < minCode div || s.fenced 1 n then
    s.modIsland n (fun i => { i with cmdBad := true })
  else
    let there := (s.island n).settled && (s.island n).target = code
    let s1 := s.modIsland n (fun i =>
      { i with
        uv := i.out s.ns, at_ := s.ns, target := code, cmdDiv := div, tag, settled := there, complete := false
        div := if i.div < div then div else i.div
        raise := div < i.div })
    if there then s1.settle n else s1

/-- VOLTAGE_COMMAND (R521): GSET_PWR_ISL_CMD is written for the selected island. Log: 100 (DESIGN CHOICE). -/
def execVoltageCommand (value : Nat) (s : State) : Out :=
  .next (s.voltageCommand s.pwr.islSel (bitsOf value 0 7) (bitsOf value 8 5) (bitsOf value 16 8))

/-- Whether an output has stood at its target for 200 ns at time `t` (R522). -/
def Island.stands (i : Island) (t : Nat) : Bool := i.at_ + 200 ≤ t && i.out (t - 200) = codeUv i.target

/-- ISLAND_SETTLED (R522). -/
def execIslandSettled (n : Nat) (s : State) : Out :=
  let i := s.island n
  if 512 ≤ n || i.settled || !i.stands s.ns then .next s else .next (s.settle n)

/-- Millstone tiles of a die whose stone arrays are idle (R525): first those no pond binds, then bound tiles without an
operation. -/
def State.idleArrays (s : State) (d : Nat) : List Nat :=
  let ts := ((List.range 96).map (96 * d + ·)).filter (fun t => !s.fenced 1 t)
  let bound (t : Nat) : Bool := s.mem.ponds.any (fun p => p.2.tiles.contains t)
  let busy (t : Nat) : Bool := s.eng.mills.any (fun m => m.2.ranks.any (fun r => r.2.tile = t))
  ts.filter (fun t => !bound t) ++ ts.filter (fun t => bound t && !busy t)

/-- A list of numbers taken in pairs. -/
def pairsOf : List Nat → List (Nat × Nat)
  | a :: b :: l => (a, b) :: pairsOf l
  | _ => []

/-- A counter of GSET_SAIL_CNT raised. -/
def Sail.count (x : Sail) (k n : Nat) : Sail := { x with counts := setAt x.counts k (getAt 0 x.counts k + BitVec.ofNat 32 n) }

/-- Mill clocks of an island in 50 ns. -/
def State.windowClocks (s : State) (n : Nat) : Nat := 720 / s.divNow n

/-- SAIL_SLOPE_MISS (R526), at most once in 10 ms for a die. Log: 66 (DEDUCED). -/
def State.slopeMiss (s : State) (d short : Nat) : State :=
  let x := s.sail d
  let worst := max x.shortfall short
  if x.missAt = 0 || x.missAt + 10000000 ≤ s.ns + 1 then
    (s.modSail d (fun x => { x with misses := x.misses + 1, shortfall := 0, missAt := s.ns + 1 })).post 0
      Event.sailSlopeMiss (d + ((worst + 999) / 1000) % 65536 * 2 ^ 32)
  else s.modSail d (fun x => { x with misses := x.misses + 1, shortfall := worst })

/-- SAIL_WINDOW (R524 to R527): a 50 ns window of one die. `demand` is the current, in mA, its tiles would draw unheld and
without filler; `ponds` pairs each pond with its tiles' current. -/
def execSailWindow (d demand : Nat) (ponds : List Nat) (s : State) : Out :=
  if 4 ≤ d then .next s
  else
    let x := s.sail d
    let prev := x.windows.headD 0
    let forced := s.forced
    let i := if forced then demand else min demand (prev + 50 * x.slopeUp)
    let f := if forced then i else min (1000 * x.iCap) (max i (x.floor - 50 * x.slopeDown))
    let n := if forced || !x.spinEn then 0 else (f - i + 4199) / 4200
    let spin := (s.idleArrays d).take n
    let short := f - i - 4200 * spin.length
    let now := pairsOf ponds
    let base := if f ≤ i then now else x.base
    let falls := (base.map (fun p => (p.1, p.2 - ((now.find? (fun q => q.1 = p.1)).map (·.2)).getD 0))).filter (fun p => p.2 ≠ 0)
    let clocks := (spin.map s.windowClocks).sum
    let held := (((List.range 512).filter (fun t => dieOfTile t = d && !s.fenced 1 t)).map s.windowClocks).sum
    let s1 := s.modSail d (fun x =>
      ({ x with windows := (i + 4200 * spin.length) :: x.windows.take 4, floor := f, spin, base, falls }.count 2 clocks).count 1
        (if forced then held else held * x.duty / 256))
    .next (if f - i ≤ 4200 * spin.length then s1 else s1.slopeMiss d short)

/-- A die's current over the last 250 ns, in mA (R536). -/
def Sail.now (x : Sail) : Nat := if x.windows.isEmpty then 0 else x.windows.sum / x.windows.length

/-- Excess over a cap in units of 1/256 of it (R528). -/
def excess (v cap : Nat) : Nat := (v - cap) * 256 / max 1 cap

/-- FURL_UPDATE (R528): every 250 ns the furl duty of each die is set. `power` is the package power of the last 1 µs, in
W. Log: 9 (DESIGN CHOICE), 66 (DEDUCED). -/
def execFurlUpdate (power : Nat) (s : State) : Out :=
  let avg := max (min s.pwr.pAvg power) (min (max s.pwr.pAvg power) (Config.ewma s.pwr.pAvg power s.pwr.tauMs))
  let s1 := s.setPwr (fun p => { p with pNow := power % 8192, pAvg := avg % 8192 })
  let pkg := max (excess power s.pwr.pShort) (excess avg s.pwr.pLong)
  .next ((List.range 4).foldl (fun s d =>
    s.modSail d (fun x =>
      let i := x.now
      let goal := min x.furlMax (x.gain * max pkg (excess i (1000 * x.iCap)))
      let up := x.duty + x.slopeDown * 250 * 256 / max 1 i
      let down := x.duty - x.slopeUp * 250 * 256 / max 1 i
      { x with duty := if x.duty ≤ goal then min goal up else max goal down })) s1)

/-- DROOP_CROSSING (R530, R594): the clocks of a domain stretch. -/
def execDroopCrossing (dom : Nat) (s : State) : Out :=
  if 591 ≤ dom || s.clk.stretching.contains dom then .next s
  else .next { s with clk := { s.clk with stretching := s.clk.stretching ++ [dom] } }

/-- DROOP_RECOVER (R530): stretching ends after `clocks` stretched clocks, counted for tile islands only (R594). -/
def execDroopRecover (dom clocks : Nat) (s : State) : Out :=
  if !s.clk.stretching.contains dom then .next s
  else
    let s1 : State := { s with clk := { s.clk with stretching := s.clk.stretching.filter (· ≠ dom) } }
    .next (if dom < 512 then s1.modSail (dieOfTile dom) (fun x => x.count 0 clocks) else s1)

/-- Every filler stops (R526, R531). -/
def State.stopFiller (s : State) : State := (List.range 4).foldl (fun s d => s.modSail d (fun x => { x with spin := [] })) s

/-- CROAK_N_ASSERT (R531, R532): the forced state begins. A further assertion before re-arm is only counted; one during a
thermal trip changes nothing. -/
def execCroakNAssert (s : State) : Out :=
  if !s.pwr.pwrOk || s.clk.asleep then .next s
  else
    let s1 := s.setPwr (fun p => { p with croakPin := true })
    if s.pwr.trip then .next s1
    else if s.pwr.forced then .next (s1.setPwr (fun p => { p with croaks := (p.croaks + 1) % 65536 }))
    else
      let s2 := s1.setPwr (fun p => { p with forced := true, forcedSince := s.ns, croaks := (p.croaks + 1) % 65536 })
      .next (s2.stopFiller.post 0 Event.croak 0)

/-- CROAK_N_RELEASE (R531 step 5). -/
def execCroakNRelease (s : State) : Out := .next (s.setPwr (fun p => { p with croakPin := false }))

/-- Islands settled with a raise that waited out the forced state (R532). Log: 65 (DEDUCED). -/
def State.resumeRaises (s : State) : State :=
  if s.forced then s
  else ((s.pwr.islands.filter (fun p => p.2.settled && p.2.raise)).map (·.1)).foldl (fun s n => s.settle n) s

/-- CROAK_REARM (R531 steps 6 and 7): the pin has been high for 100 µs and the Millwright runs. -/
def execCroakRearm (s : State) : Out :=
  if !s.pwr.forced || s.pwr.croakPin || !s.boot.mwUp then .next s
  else
    let s1 := s.setPwr (fun p => { p with forced := false })
    .next (s1.resumeRaises.post 0 Event.croak (1 + ((s.ns - s.pwr.forcedSince) % 2 ^ 64) * 2 ^ 64))

/-- A thermal trip (R535): latched, with the forced state. -/
def State.tripAt (s : State) (hbm : Bool) (unit temp : Nat) : State :=
  if s.pwr.trip then s
  else
    ((s.setPwr (fun p => { p with trip := true, hbmTrip := hbm })).stopFiller).post 0 Event.thermalTrip
      (b2n hbm + unit * 65536 + temp % 2048 * 2 ^ 32)

/-- TEMP_SAMPLE (R533, R535): an island's sensor reads `temp`, 11 bits in 0.25 °C. -/
def execTempSample (n temp : Nat) (s : State) : Out :=
  if 512 ≤ n || !s.pwr.pwrOk || s.clk.asleep then .next s
  else
    let s1 := s.modIsland n (fun i => { i with temp := temp % 2048 })
    .next (if signedOf 11 temp > 4 * (s.pwr.tTrip : Int) then s1.tripAt false n temp else s1)

/-- HBM_TEMP_READ (R533, R535): a stack reads `temp` °C. -/
def execHbmTempRead (port temp : Nat) (s : State) : Out :=
  if 24 ≤ port || !s.pwr.pwrOk || s.clk.asleep then .next s
  else
    let s1 := s.setPwr (fun p => { p with hbmTemps := p.hbmTemps.set port (temp % 256) })
    .next (if 105 < temp then s1.tripAt true port (4 * temp) else s1)

/-- THERMAL_STEP_TIMER (R534): an island above the threshold gains a thermal step, one below it by the hysteresis loses
one. Log: 67 (DEDUCED). -/
def execThermalStepTimer (n : Nat) (s : State) : Out :=
  let i := s.island n
  let t := signedOf 11 i.temp
  if 512 ≤ n then .next s
  else if t > 4 * (s.pwr.tThrottle : Int) then
    if 8 ≤ i.steps then .next s
    else
      let s1 := s.modIsland n (fun i => { i with steps := i.steps + 1 })
      .next (if i.steps = 0 then s1.post 0 Event.thermal (n * 65536 + i.temp % 2048 * 2 ^ 32) else s1)
  else if t < 4 * ((s.pwr.tThrottle : Int) - s.pwr.hyst) then
    if i.steps = 0 then .next s
    else
      let s1 := s.modIsland n (fun i => { i with steps := i.steps - 1 })
      .next (if s1.pwr.islands.all (fun p => p.2.steps = 0) then
        s1.post 0 Event.thermal (1 + n * 65536 + i.temp % 2048 * 2 ^ 32) else s1)
  else .next s

end Sys2Proof.Machine
end

