-- ==== Sys2Proof/Machine/Tally.lean ====
section
/-! DEFINITION. The Tally's commands: meter readings and their attribution, windows, coefficient tables, receipts,
signatures, checkpoints and the backlog (20_energy_tally). -/

namespace Sys2Proof.Machine

/-- Values of a coefficient table (R547), in order: HBM read and write, loft read and write, fabric sent and received by
generation, clock of a Millstone and of a Vane island, X-die power. -/
def coefValues (bs : List Byte) : List Nat := (List.range 13).map (fun i => leNat ((bs.drop (0x10 + 4 * i)).take 4))

def parseCoef (bs : List Byte) (builtin : Bool) : Coef :=
  { version := leNat ((bs.drop 4).take 4), values := coefValues bs, builtin, digest := sha384 bs }

def Coef.val (c : Coef) (i : Nat) : Nat := getAt 0 c.values i

/-- Triples of a list: what spent it, measure, amount. -/
def triplesOf : List Nat → List (Nat × Nat × Nat)
  | a :: b :: c :: l => (a, b, c) :: triplesOf l
  | _ => []

/-- Whether an operation of an account was retried or re-run (R545). -/
def State.redone (s : State) (k : Nat) : Bool := s.work.ops.any (fun p => p.2.acct = k && (p.2.retried || p.2.rerun))

/-- REDONE, where it applies (R545, R550). -/
def State.redoneFlag (s : State) (k : Nat) : Nat := b2n (s.redone k) * 128

/-- Bytes counted for a shared consumer (R543): measures 0 to 3 are HBM and loft, 4 to 9 the fabric by generation; 16 more
= served for another device. Log: 75 (DEDUCED). -/
def State.chargeBytes (s : State) (x : Nat × Nat × Nat) : State :=
  let m := x.2.1 % 16
  let k := s.spender x.1
  let e := x.2.2 * (s.coefFor k).val m
  let fl := (if 16 ≤ x.2.1 then 32 else 0) ||| s.redoneFlag k
  s.charge k (fun a =>
    { a with
      memory := if m < 4 then a.memory + e else a.memory
      fabric := if 4 ≤ m then a.fabric + e else a.fabric
      flags := a.flags ||| fl })

/-- Filler energy of a die's window (R527, R544), estimated where the meter failed (R539): to ponds by their falls, else
counted as unowned, and UNOWNED's (R540). Log: 66 (DEDUCED). -/
def State.chargeFiller (s : State) (d e : Nat) (fault : Bool) : State :=
  let x := s.sail d
  let ws := x.falls.map (·.2)
  if x.falls.isEmpty then
    let u := x.unowned + e
    (s.modSail d (fun x => { x.count 3 (u / 1024000000) with unowned := u % 1024000000 })).charge unownedKey
      (fun a => if e = 0 then a else a.addFiller e fault)
  else if !s.tally.enable then s
  else ((x.falls.map (·.1)).zip (shares e ws.sum 0 ws)).foldl (fun s y =>
    s.setTally (fun t => { t with
      filler := t.filler.set y.1 (t.filler.get 0 y.1 + y.2)
      fillerFault := if fault && !t.fillerFault.contains y.1 then y.1 :: t.fillerFault else t.fillerFault })) s

/-- The account of a tile's idle clocks (R542): tag 0 of the instance of the pond that binds the tile, or UNOWNED. -/
def State.idleKey (s : State) (tile : Nat) : Nat :=
  match s.mem.ponds.find? (fun p => p.2.tiles.contains tile) with
  | some p => s.tagZero p.1
  | none => unownedKey

/-- A tile island's energy of a reading less what its loft slice took, or its estimate where its meter failed (R539, R542),
by a coefficient table; `half` = its busy half clocks. -/
def islandEnergy (c : Coef) (unit energy half : Nat) (loft : List Nat) (fault : Bool) : Nat :=
  if fault then half * c.val (if unit < 384 then 10 else 11) / 2
  else energy - (getAt 0 loft 0 * c.val 2 + getAt 0 loft 1 * c.val 3)

/-- The energy of an uncore and its X-die in a microsecond, by a coefficient table (R543), in 2^-10 pJ. -/
def uncoreEnergy (c : Coef) (energy : Nat) : Nat := energy + c.val 12 * 1024000

/-- METER_READ (R538, R542, R543): one meter's reading. Units 0 to 511 are tile islands and 512 to 515 the uncore of a die;
`energy` is in 2^-10 pJ. `loft` = bytes its loft slice read and wrote. `clocks` = for a tile island, filler and idle half
clocks, then pairs of what ran there, as for `State.spender`, and its busy half clocks; for an uncore, such pairs over the
die. `bytes` = triples of what made the accesses, measure and bytes. Every share is figured by the table its own record
carries (R548). With `fault` the meter has failed its self-check and the energy is estimated (R539); for an uncore, whose
estimate no coefficient gives, it is a free value. Log: 75 (DEDUCED), 128 (DESIGN CHOICE). -/
def execMeterRead (unit energy : Nat) (loft clocks bytes : List Nat) (fault : Bool) (s : State) : Out :=
  let s1 := (triplesOf bytes).foldl State.chargeBytes s
  if unit < 512 then
    let busy := pairsOf (clocks.drop 2)
    let fl := getAt 0 clocks 0
    let idle := getAt 0 clocks 1
    let half := (busy.map (·.2)).sum
    let ws := fl :: idle :: busy.map (·.2)
    let part (k i : Nat) : Nat := getAt 0 (shares (islandEnergy (s.coefFor k) unit energy half loft fault) ws.sum 0 ws) i
    let s2 := (busy.zip (List.range busy.length)).foldl (fun t x =>
      let k := s.spender x.1.1
      t.charge k (fun a => { a with
        tiles := a.tiles + part k (x.2 + 2), busy := a.busy + x.1.2
        flags := a.flags ||| (b2n fault * 16) ||| s.redoneFlag k })) s1
    let ik := s.idleKey unit
    .next ((s2.chargeFiller (dieOfTile unit) (part ik 0) fault).charge ik (fun a => { a with
      tiles := a.tiles + part ik 1, flags := a.flags ||| (b2n (fault && idle ≠ 0) * 16) }))
  else if unit < 516 then
    let busy := pairsOf clocks
    let (n, s2) := if fault then s1.takeFree else (0, s1)
    let e := if fault then Config.freeNat n else energy
    let ws := busy.map (·.2)
    let add (a : Acct) (k x : Nat) : Acct :=
      { a with uncore := a.uncore + x, flags := a.flags ||| (b2n fault * 16) ||| s.redoneFlag k }
    if ws.sum = 0 then .next (s2.charge unownedKey (fun a => add a unownedKey (uncoreEnergy (s.coefFor unownedKey) e)))
    else .next ((busy.zip (List.range busy.length)).foldl (fun t x =>
      let k := s.spender x.1.1
      t.charge k (fun a => add a k (getAt 0 (shares (uncoreEnergy (s.coefFor k) e) ws.sum 0 ws) x.2))) s2)
  else .next s

/-- TALLY_WINDOW_CLOSE (R540): a pond's beat window ends, or with pond 0 the period windows. -/
def execTallyWindowClose (pond : Nat) (s : State) : Out :=
  if !s.tally.enable then .next s
  else if pond = 0 then .next (s.closePeriod 0)
  else if (s.mem.ponds.at? pond).any (fun p => p.beats.isSome) then .next (s.closeBeatWindow pond 0)
  else .next s

/-- Whether a coefficient table may come into force (R547, R548): its fields, and its signature by Dalvo's key. -/
def coefOk (bs : List Byte) : Bool :=
  let n (a k : Nat) : Nat := leNat ((bs.drop a).take k)
  let z (a k : Nat) : Bool := ((bs.drop a).take k).all (· = 0)
  n 0 4 = 1 && n 4 4 ≠ 0 && n 8 4 = 0x7680 && z 0xC 4 && z 0x44 0x15C
    && ecdsaVerify Config.coefKey.1 Config.coefKey.2 (beNat (sha384 (bs.take 0x1A0)))
        (beNat ((bs.drop 0x1A0).take 48)) (beNat ((bs.drop 0x1D0).take 48)) = Eng.ok

/-- TALLY_COEF (R548): a table comes into force in each pond at its next window start.
Log: 75 (DEDUCED), 84 (DESIGN CHOICE). -/
def execTallyCoef (op : Nat) (s : State) : Out :=
  match s.go? op 0xB0 with
  | none => .next s
  | some o =>
    let at_ := fld o.desc 0x20 0 43
    let bs := s.readPub at_ 512
    let free := (s.plotOf at_).any (fun p => p.owner = 0)
    if free && s.stalls 0 at_ 512 false then .next s
    else if !free || s.poisonIn at_ 512 || !coefOk bs then .next (s.decide op Status.badCoefTable 0)
    else
      let c := parseCoef bs false
      if c.version < s.tally.coef.version then .next (s.decide op Status.coefRollback 0)
      else
        let hold (k : Nat) (t : Tab Coef) : Tab Coef := if (t.at? k).isSome then t else t.set k s.tally.coef
        let keys := 512 :: (s.mem.ponds.map (fun p => [p.1, 512 + p.1])).flatten
        .next (((s.setTally (fun t => { t with
          coef := c, pondCoef := keys.foldl (fun t k => hold k t) t.pondCoef })).post 0 Event.tallyCoef c.version).succeed op)

/-- TALLY_CLOSE (R555): outside a sluice the tag is cut now and the receipt written; in a sluice the action is
recorded. -/
def execTallyClose (op : Nat) (s : State) : Out :=
  match s.go? op 0xB1 with
  | none => .next s
  | some o =>
    let k := o.acct
    let va := fld o.desc 0x20 0 55
    if o.sluice ≠ 0 then
      .next ((s.modSluice o.sluice (fun e => { e with
        recorded := e.recorded ++ [.receipt k va o.fn o.ctx o.pond] })).succeed op)
    else
      let x := s.finalRec k
      let a := x.1.agent op o 0 0
      match x.1.writeVa a false none va (x.2.receipt s.fab.devId) with
      | .stall => .next s
      | .bad s1 st d => .next (s1.decide op st d)
      | .ok s1 => .next (((s1.charge k (fun _ => Acct.zero s.ns)).emit x.2).succeed op)

/-- RECORD_SIGN (R552, R580): the Tally asks the engine to sign the latest unsigned record. -/
def execRecordSign (s : State) : Out :=
  match (if s.tally.due.isSome then s.tally.due else s.tally.last) with
  | none => .next s
  | some g =>
    let c : EngCall := .record g.slot g.hash g.gap
    if s.sec.running.isNone then .next (s.setSec (fun k => { k with running := some c }))
    else if s.sec.tallyQ.isEmpty then .next (s.setSec (fun k => { k with tallyQ := [c] }))
    else .next s

/-- Bytes 0x00 to 0x4F of a checkpoint (R617). -/
def checkpointBytes (seq : Nat) (hash : List Byte) (time state : Nat) : List Byte :=
  leBytes 8 1 ++ leBytes 8 seq ++ hash ++ leBytes 8 time ++ leBytes 8 state

/-- The chain written to flash with the checkpoint key of life-cycle state `k` (R556, R571, R575); without keys there is
none to write. -/
def State.writeCheckpoint (s : State) (k : Nat) : State :=
  let seq := (s.tally.seq + 2 ^ 64 - 1) % 2 ^ 64
  if !s.sec.hasKey || s.tally.hash.isEmpty then s
  else { s with boot := { s.boot with
    checkpoint := some
      { seq, hash := s.tally.hash, time := s.ns, state := k
        mac := hmac384 (ckptKeyOf k) (checkpointBytes seq s.tally.hash s.ns k) } } }

/-- TALLY_CHECKPOINT (R556): a checkpoint falls due; while the Millwright is down it waits (R624). -/
def execTallyCheckpoint (s : State) : Out :=
  if s.mute then .next s
  else if s.boot.mwUp then .next (s.writeCheckpoint s.lcState)
  else .next (s.setTally (fun t => { t with ckptDue := true }))

/-- A checkpoint that fell due while the Millwright was down, written on its restart (R634). -/
def State.lateCheckpoint (s : State) : State :=
  if s.tally.ckptDue then (s.writeCheckpoint s.lcState).setTally (fun t => { t with ckptDue := false }) else s

/-- Backlog records written while the ring takes them. -/
def State.drain (s : State) : List EnergyRec → State
  | [] => s
  | r :: l => if s.ringOpen then (s.writeRec r).drain l else s.setTally (fun t => { t with backlog := r :: l })

/-- The records behind the backlog moved into it, as far as it has room (R554). -/
def State.refill (s : State) : State :=
  let n := 8192 - s.tally.backlog.length
  s.setTally (fun t => { t with backlog := t.backlog ++ t.formed.take n, formed := t.formed.drop n })

/-- The backlog and then what was formed behind it written (R554). -/
def State.drainAll (s : State) : State :=
  let s1 := ((s.setTally (fun t => { t with backlog := [] })).drain s.tally.backlog).refill
  (s1.setTally (fun t => { t with backlog := [] })).drain s1.tally.backlog

/-- TALLY_BACKLOG_DRAIN (R553, R554): the device reads the head word, and writes what has room. -/
def execTallyBacklogDrain (head : Nat) (s : State) : Out :=
  .next (s.setTally (fun t => { t with head := head % 2 ^ t.log2 })).drainAll

/-- A GAP record (R557). Log: 70 (DEDUCED). -/
def State.gapRec (s : State) (reason t0 : Nat) : EnergyRec :=
  { kind := 2, flags := b2n s.clk.uncertain * 4, inst := 1023, pond := 0, tag := reason, t0, t1 := s.ns, beat := 0
    uj := [0, 0, 0, 0, 0], coef := s.tally.coef.version, busy := 0 }

/-- TALLY_ENABLE_WRITE (R557 to R559): GSET_TALLY_CTL is written. Turning the Tally on writes the GAP record that is due;
turning it off drops the open windows. Log: 70 (DEDUCED), 71 (DEDUCED), 100 (DESIGN CHOICE). -/
def execTallyEnableWrite (value : Nat) (s : State) : Out :=
  let p := bitsOf value 1 10
  let c := bitsOf value 11 10
  let s1 := s.setTally (fun t => { t with
    periodMs := if 1 ≤ p && p ≤ 1000 then p else t.periodMs
    ckptMs := if 10 ≤ c && c ≤ 1000 then c else t.ckptMs })
  if bitOf value 0 && !s.tally.enable then
    let s2 := s1.setTally (fun t => { t with
      enable := true, period := s.ns, starts := [], accts := [], filler := [], fillerFault := [], gap := none })
    let s3 := match s.tally.gap with
      | some g => s2.emit (s2.gapRec g.1 g.2)
      | none => s2
    .next (if s.tally.signing then s3 else s3.post 0 Event.tallyUnsigned 0)
  else if !bitOf value 0 && s.tally.enable then
    .next (s1.setTally (fun t => { t with enable := false, accts := [], filler := [], fillerFault := [], gap := some (4, s.ns) }))
  else .next s1

end Sys2Proof.Machine
end

