-- ==== Sys2Proof/Machine/Time.lean ====
section
/-! DEFINITION. The timebase, its sources and corrections, and brumation with its entry and wake
(22_clocks_time_brumation). -/

namespace Sys2Proof.Machine

def State.setClk (s : State) (f : ClockPart → ClockPart) : State := { s with clk := f s.clk }

/-- Whether the device has a time parent and is JOINED, so that it applies its rate correction (R598). -/
def State.hasRate (s : State) : Bool := s.fab.join = .joined && s.parentSub < 64

/-- One tick of the timebase (R596, R598): 10 ns, or 11 or 9 while an offset is made up, and the rate correction. No
increment is under 9 ns. Log: 1 (DESIGN CHOICE). -/
def State.tick (s : State) : State :=
  let w := s.clk.slew
  let base : Int := 10 + (if 0 < w then 1 else if w < 0 then -1 else 0)
  let inc := base * 2 ^ 32 + (if s.hasRate then s.clk.corr else 0)
  s.setClk (fun c => { c with
    tb := (c.tb + (max inc (9 * 2 ^ 32)).toNat) % 2 ^ 96
    slew := w - (if 0 < w then 1 else if w < 0 then -1 else 0) })

/-- TIME_STATUS (R609), with the jump that caused it. -/
def State.postTime (s : State) (jump : Nat) : State :=
  s.post 0 Event.timeStatus (b2n s.clk.uncertain + s.clk.src * 2 + jump % 2 ^ 64 * 2 ^ 64)

/-- The clock's source or flag changed by `f`: TIME_STATUS where one of them differs (R609). -/
def State.changeClock (s : State) (f : ClockPart → ClockPart) : State :=
  let s1 := s.setClk f
  let s2 := if s.clk.uncertain && !s1.clk.uncertain then s1.setTally (fun t => { t with uncertainTo := s.ns }) else s1
  if s2.clk.uncertain = s.clk.uncertain && s2.clk.src = s.clk.src then s2 else s2.postTime 0

/-- A forward jump by `o` ns (R598): every pond's beats move with it (R338). -/
def State.jump (s : State) (o : Nat) : State :=
  let s1 := s.setClk (fun c => { c with tb := (c.tb + o * 2 ^ 32) % 2 ^ 96, slew := 0, jumps := (c.jumps + 1) % 65536 })
  { s1 with mem := { s1.mem with ponds := s1.mem.ponds.map (fun p => (p.1, { p.2 with
      beats := p.2.beats.map (fun b => { b with
        t0 := b.t0 + o, grid := b.grid + o, start := if b.running then b.start + o else b.start
        next := b.next.map (fun x => (x.1, x.2.1, x.2.2.1, x.2.2.2.1 + o, x.2.2.2.2)) }) })) } }

/-- TIME_REPLY (R512, R597, R598): the parent's t2 and t3 arrive. Log: 60 (DEDUCED). -/
def execTimeReply (t2 t3 : Nat) (s : State) : Out :=
  if 64 ≤ s.parentSub then .next s
  else
    let t1 : Int := s.fab.t1
    let t4 : Int := s.ns
    let o : Int := (((t2 : Int) - t1) - (t4 - (t3 : Int))) / 2
    let sat := max (-2 ^ 31) (min (2 ^ 31 - 1) o)
    let (k, s0) := s.takeFree
    let rate : Int := (Config.freeNat k % 42949673 : Nat) - 21474836
    let s1 := s0.setClk (fun c => { c with offset := sat, corr := if s.fab.join = .joined then rate else c.corr })
    let s2 := if 1000 < o then s1.jump o.toNat else s1.setClk (fun c => { c with slew := o })
    let clear := s.fab.join = .joined && -50 ≤ o && o ≤ 50 && s.clk.refPresent && s.clk.uncertain
    let s3 := if clear then s2.changeClock (fun c => { c with uncertain := false }) else s2
    .next (if 1000 < o then s3.postTime o.toNat else s3)

/-- TIME_SET (R597, R599): GSET_TIME_SET_HI is written. Log: 100 (DESIGN CHOICE). -/
def execTimeSet (hi : Nat) (s : State) : Out :=
  let v := s.clk.setLo.toNat + hi % 2 ^ 32 * 2 ^ 32
  let may := s.fab.timeRoot || s.fab.join ≠ .joined
  if v < s.ns || !may then .next (s.setClk (fun c => { c with setBad := true }))
  else
    let o := v - s.ns
    let s1 := s.jump o
    let clear := s.clk.refPresent && s.clk.uncertain
    let s2 : State := if clear then
        (s1.setClk (fun c => { c with uncertain := false })).setTally (fun t => { t with uncertainTo := v })
      else s1
    .next (if clear || 1000 < o then s2.postTime o else s2)

/-- TIME_LO_READ (R608): the low word is returned, the high word latched. Log: 92 (DEDUCED). -/
def execTimeLoRead (s : State) : Out :=
  let s1 := s.setClk (fun c => { c with latch := BitVec.ofNat 32 (s.ns >>> 32) })
  .next { s1 with host := { s1.host with readData := leBytes 4 (s.ns % 2 ^ 32), readPoison := false } }

/-- ROOT_PLL_LOCK (R592, R596): derived clocks start, and the timebase clock becomes the source. -/
def execRootPllLock (s : State) : Out :=
  if !s.clk.refPresent || (s.pwr.reached < 5 && s.clk.wakeStep ≠ 2) || 2 ≤ s.pwr.downStep then .next s
  else .next (s.changeClock (fun c => { c with rootLocked := true, src := 0 }))

/-- CLK_REF_LOSS (R595 to R597): the internal oscillator becomes the source; outside brumation a fatal device error.
Log: 77 (DEDUCED). -/
def execClkRefLoss (s : State) : Out :=
  if !s.clk.refPresent then .next s
  else
    let s1 := if s.pwr.pwrOk && !s.clk.asleep then (s.stopFiller).fatalError 1 else s
    .next (s1.changeClock (fun c => { c with refPresent := false, rootLocked := false, src := 2, uncertain := true }))

/-- A wake starts (R606 step 1). -/
def State.startWake (s : State) : State :=
  if s.clk.asleep && s.clk.wakeSrc ≠ 0 && s.clk.wakeStep = 0 && s.clk.refPresent then
    s.setClk (fun c => { c with wakeStep := 1 })
  else s

/-- CLK_REF_RETURN (R595, R596, R605): 1,000 good edges. A wake that waited for the reference starts. -/
def execClkRefReturn (s : State) : Out :=
  if s.clk.refPresent then .next s
  else .next (s.changeClock (fun c => { c with refPresent := true, src := 1 })).startWake

/-- Whether the device is idle (R601), as far as its own state shows. Log: 78 (DEDUCED). -/
def State.idle (s : State) : Bool :=
  s.work.ops.isEmpty && s.work.sluices.isEmpty
    && s.host.fns.all (fun p => p.2.sqs.all (fun q => q.2.head = q.2.tail))
    && s.mem.ponds.all (fun p => p.2.rebind.isNone && (p.2.beats.all (fun b => b.steps.all (fun t => t.readyAt = 0 || t.released || t.tooLong))))
    && s.sec.lcTarget.isNone && s.boot.activating.isEmpty && !s.boot.resetDue

/-- IDLE_TIMER_EXPIRY (R601, R602): entry begins; fetching and polling stop. Log: 78 (DEDUCED). -/
def execIdleTimerExpiry (s : State) : Out :=
  if s.clk.brumEnable && s.boot.ready && !s.mute && s.clk.entryStep = 0 && s.pwr.downStep = 0 && s.idle then
    .next (s.setClk (fun c => { c with entryStep := 1, wakeSrc := 0 }))
  else .next s

/-- The state word written (R607): not while its address is zero. -/
def State.writeWord (s : State) (st : Nat) : State :=
  let a := s.clk.wordLo.toNat + s.clk.wordHi.toNat * 2 ^ 32
  if a = 0 then s else s.writeHost 0 a (leBytes 8 (1 + st * 16 + s.clk.entries % 2 ^ 48 * 65536))

/-- Doorbell lines taken again into the doorbell cache (R603): those of the rings whose set-up reported a cached doorbell,
which keep their line until torn down; polled rings stay polled (R228). Log: 77 (DEDUCED). -/
def State.reacquire (s : State) : State :=
  let kept (line : Nat) : Bool :=
    s.host.fns.any (fun p => p.2.sqs.any (fun q => q.2.cached && q.2.dbAddr / 64 = line))
  if s.host.cxl = 0 then s
  else { s with host := { s.host with lines := s.host.lines.map (fun p => (p.1, { p.2 with cached := p.2.cached || kept p.1 })) } }

/-- Every ring's doorbell word read afresh (R603), in order of functions and queues. -/
def State.readAllWords (s : State) (words : List Nat) : State :=
  let rings := (s.host.fns.map (fun p => p.2.sqs.map (fun q => (p.1, q.1)))).flatten
  (rings.zip words).foldl (fun s x => s.readDoorbell x.1.1 x.1.2 x.2) s

/-- What an entry step does (R602). Log: 56 (DEDUCED), 76 (DEDUCED). -/
def State.entryDo (s : State) (k : Nat) : State :=
  match k with
  | 2 =>
    let s1 := s.closeAll
    match execRecordSign s1 with
    | .next t => t
    | _ => s1
  | 3 =>
    let s1 := (s.setClk (fun c => { c with entries := (c.entries + 1) % 2 ^ 48 })).writeWord 1
    { s1 with host := { s1.host with lines := s1.host.lines.map (fun p => (p.1, { p.2 with cached := false })) } }
  | 4 =>
    let s1 := s.sendNotices 1 (List.range 64)
    ((List.range 64).filter (fun n => (s1.subLink n).state ≠ .fenced)).foldl (fun s n => s.modSub n (fun l =>
      let low := n % 4 = 0 && (l.state = .up || l.state = .retrain)
      { l with
        state := if low then .sleep else .dark, gen := b2n low, txLanes := b2n low, rxLanes := b2n low, fec := false
        step := 0, notice := 0, held := false, retryWait := false })) s1
  | 5 => s.writeCheckpoint s.lcState
  | 6 => { s.setClk (fun c => { c with linkBefore := (s.host.speed, s.host.width) }) with
           host := { s.host with speed := 1, width := 1 } }
  | 7 =>
    let s1 := s.setClk (fun c => { c with asleep := true, entryStep := 0, rootLocked := false, src := if c.refPresent then 1 else 2 })
    { s1 with pwr := { s1.pwr with hbmEn := false, reached := 3 } }
  | _ => s

/-- Entry abandoned at abort point `k` (R603). -/
def State.abandon (s : State) (k : Nat) (words : List Nat) : State :=
  let s1 : State := if 6 ≤ k then { s with host := { s.host with speed := s.clk.linkBefore.1, width := s.clk.linkBefore.2 } } else s
  let s2 := if 4 ≤ k then ((List.range 64).filter (fun n =>
      let l := s1.subLink n
      l.mayTrain && (l.state = .sleep || l.state = .dark))).foldl (fun s n => s.startTraining n) s1 else s1
  let s3 := if 3 ≤ k then (s2.writeWord 0).reacquire else s2
  let s4 := s3.setClk (fun c => { c with entryStep := 0, lastAbort := k, lastSrc := c.wakeSrc, wakeSrc := 0 })
  (s4.readAllWords words).post 0 Event.brumAbandoned (k + s.clk.wakeSrc * 16 + s4.clk.entries % 2 ^ 48 * 2 ^ 64)

/-- BRUM_ENTRY_STEP_DONE (R602, R603): an entry step ends; at its abort point a wake event abandons the entry. `words`
are the doorbell words then read. Step 5 needs the Millwright, which writes the checkpoint. Log: 76 (DEDUCED). -/
def execBrumEntryStepDone (words : List Nat) (s : State) : Out :=
  let k := s.clk.entryStep
  if k = 0 || (k = 5 && !s.boot.mwUp) then .next s
  else
    let s1 := s.entryDo k
    if k = 7 then .next s1.startWake
    else if s1.clk.wakeSrc ≠ 0 then .next (s1.abandon k words)
    else .next (s1.setClk (fun c => { c with entryStep := k + 1 }))

/-- A wake event recorded (R602, R604): during entry, or in brumation where it starts the wake. A further one is
absorbed; one that meets power-down is ignored (R671). -/
def State.wakeEvent (s : State) (src : Nat) : State :=
  if s.pwr.downStep ≠ 0 || s.clk.wakeSrc ≠ 0 || src = 0 || 5 < src then s
  else if s.clk.entryStep ≠ 0 then s.setClk (fun c => { c with wakeSrc := src })
  else if s.clk.asleep && src ≠ 5 then (s.setClk (fun c => { c with wakeSrc := src })).startWake
  else s

/-- WAKE_EVENT (R604): 1 = BAR2, 2 = CXL.mem, 3 = wake message, 4 = WAKE_IN_N, 5 = enable cleared. -/
def execWakeEvent (src : Nat) (s : State) : Out := .next (s.wakeEvent src)

/-- BRUM_ENABLE_WRITE (R601, R604, R608): enable of GSET_BRUM_CTL. Log: 100 (DESIGN CHOICE). -/
def execBrumEnableWrite (on : Bool) (s : State) : Out :=
  let s1 := s.setClk (fun c => { c with brumEnable := on })
  .next (if on then s1 else s1.wakeEvent 5)

/-- BRUM_WAKE_WRITE (R606, R608): a wake message is sent to a device ID; discarded while this device is not JOINED. -/
def execBrumWakeWrite (dev : Nat) (s : State) : Out :=
  if s.fab.join ≠ .joined then .next s
  else .next (s.send { kind := .wake, dst := dev % 65536, mere := 0, id := 0, args := [], data := [] })

/-- WAKE_MESSAGE (R606): a wake message for `dst` arrives on a sub-link. The target's neighbour delivers it on the
low-rate link; a device on the way passes it on, JOINED or not (R485); a sleeping device forwards none. -/
def execWakeMessage (dst sub : Nat) (s : State) : Out :=
  let msg : FabMsg := { kind := .wake, dst, mere := 0, id := 0, args := [], data := [] }
  let low := (List.range 64).find? (fun n => (s.subLink n).state = .sleep && (s.subLink n).nDev = dst && (s.subLink n).gen = 1)
  if dst = s.fab.devId then .next (s.wakeEvent 3)
  else if s.clk.asleep || s.fab.join = .off || s.fab.join = .rejected || 64 ≤ sub then .next s
  else match low with
    | some n => .next (s.sendOn msg n)
    | none => .next (s.send msg)

end Sys2Proof.Machine
end

