-- ==== Sys2Proof/Machine/Boot.lean ====
section
/-! DEFINITION. Resets, boot, the power sequencer, and the wake that is a reset (R610 to R625, R666 to R671). -/

namespace Sys2Proof.Machine

/-- Bits of GSET_RESET_CAUSE by cause (R613, R614). -/
def Cause.por : Nat := 1
def Cause.perst : Nat := 2
def Cause.hot : Nat := 4
def Cause.flr : Nat := 8
def Cause.wake (src : Nat) : Nat := 16 + src * 32
def Cause.lc : Nat := 256
def Cause.mgmt : Nat := 512
def Cause.recovery : Nat := 0x8000

/-- The fence list in flash as fenced units (R307, R617). -/
def listedFences (l : List Nat) : List Nat := l.map (fun e => e % 16 * 65536 + e / 16)

/-- Boot starts at step 1 (R619, R659): SLOT_ID is sampled. -/
def State.startBoot (s : State) : State :=
  (s.setBoot (fun b => { b with stage := 1, perst := false, ready := false })).setFab (fun f => { f with member := s.boot.straps % 256 })

/-- What every reset leaves of flash, fuses and pins, and of what has left the device. Log: 80 (DEDUCED). -/
def State.keepOutside (s t : State) : State :=
  { t with
    pending := s.pending
    host := { t.host with writes := s.host.writes, msis := s.host.msis, readData := s.host.readData
                          readPoison := s.host.readPoison, aerFatal := s.host.aerFatal, aerNonFatal := s.host.aerNonFatal }
    work := { t.work with sent := s.work.sent, free := s.work.free }
    ras := { t.ras with flashFences := s.ras.flashFences, fencedAlone := s.ras.fencedAlone }
    mem := { t.mem with fences := listedFences s.ras.flashFences }
    sec := { t.sec with lcFuse := s.sec.lcFuse, svn := s.sec.svn, revoked := s.sec.revoked, helper := s.sec.helper }
    boot := { t.boot with
      straps := s.boot.straps, slots := s.boot.slots, mwActive := s.boot.mwActive, newtActive := s.boot.newtActive
      xActive := s.boot.xActive, config := s.boot.config, checkpoint := s.boot.checkpoint, cert := s.boot.cert
      certKey := s.boot.certKey, replies := s.boot.replies, perst := s.boot.perst }
    pwr := { t.pwr with pwrReq := s.pwr.pwrReq, croakPin := s.pwr.croakPin } }

/-- A device reset (R610 to R614): only what R611 lists is kept. The cause names the reset; an error that preceded it is
kept as after_fatal (R616). Log: 74 (DEDUCED), 79 (DEDUCED), 80 (DEDUCED). -/
def State.deviceReset (s : State) (cause : Nat) : State :=
  let t := s.keepOutside State.reset
  let wake := bitOf cause 4
  let fatal := if s.ras.fatal then 1024 + s.ras.fatalCode % 16 * 2048 else 0
  { t with
    host := { t.host with
      vfEnable := wake && s.host.vfEnable, numVfs := if wake then s.host.numVfs else 0
      cxl := if cause = Cause.flr then s.host.cxl else 0, flit := cause = Cause.flr && s.host.flit
      speed := if cause = Cause.flr || wake then s.host.speed else 0
      width := if cause = Cause.flr || wake then s.host.width else 0 }
    ras := { t.ras with
      afterFatal := if s.ras.fatal then s.ras.fatalCode else 0
      buckets := s.ras.buckets }
    clk := { t.clk with
      tb := s.clk.tb, src := s.clk.src, rootLocked := s.clk.rootLocked, refPresent := s.clk.refPresent
      uncertain := s.clk.uncertain, wordLo := s.clk.wordLo, wordHi := s.clk.wordHi, entries := s.clk.entries
      wakeSrc := if wake then s.clk.wakeSrc else 0, wakeStep := if wake then s.clk.wakeStep else 0
      linkBefore := s.clk.linkBefore }
    tally := { t.tally with
      seq := s.tally.seq, hash := s.tally.hash
      gap := s.tally.gap, uncertainTo := s.tally.uncertainTo }
    pwr := { s.pwr with
      islands := [], islSel := 0, dies := [], pLong := 0x12C0, pShort := 0x1518, tauMs := 0x64, pNow := 0, pAvg := 0
      forced := s.pwr.forced && s.pwr.croakPin, croaks := 0, tThrottle := 0x5F, tTrip := 0x6E, hyst := 5, hbmTemps := []
      droopMv := 0x1E, reached := if s.pwr.pwrOk then 7 else s.pwr.reached, hbmEn := s.pwr.pwrOk || s.pwr.hbmEn }
    sec := { t.sec with lcChanged := bitOf cause 8 || s.sec.lcTarget.isSome }
    boot := { t.boot with cause := cause + fatal } }

/-- A device reset that is not held: boot starts at once (R619). -/
def State.resetAndBoot (s : State) (cause : Nat) : State := (s.deviceReset cause).startBoot

/-- Power-on reset (R600, R610): the always-on island too; fuses, flash, straps and pins stay. -/
def State.powerOnReset (s : State) : State := s.keepOutside State.reset

/-- PERST_N_ASSERT (R610, R613): the device is held in device reset. -/
def execPerstNAssert (s : State) : Out :=
  let s1 := if s.pwr.pwrOk then s.deviceReset Cause.perst else s
  .next (s1.setBoot (fun b => { b with perst := true }))

/-- PERST_N_RELEASE (R619, R659, R667): boot starts when the device is powered up. -/
def execPerstNRelease (s : State) : Out :=
  if !s.boot.perst then .next s
  else if s.pwr.pwrOk then .next s.startBoot
  else .next ((s.setBoot (fun b => { b with perst := false })).setFab (fun f => { f with member := s.boot.straps % 256 }))

/-- Whether a reset by the link or a message can meet the device: powered up and not held by PERST_N. -/
def State.resettable (s : State) : Bool := s.pwr.pwrOk && !s.boot.perst

/-- HOT_RESET (R610). -/
def execHotReset (s : State) : Out := if s.resettable then .next (s.resetAndBoot Cause.hot) else .next s

/-- PF_FLR (R375, R610): a configuration request, which the device takes in brumation too (R605). Log: 80 (DEDUCED). -/
def execPfFlr (s : State) : Out :=
  if s.resettable then .next (s.resetAndBoot Cause.flr) else .next s

/-- DEVICE_RESET_DELAY (R628): 10 ms after the response. -/
def execDeviceResetDelay (s : State) : Out :=
  if s.boot.resetDue && s.resettable then .next (s.resetAndBoot Cause.mgmt) else .next s

/-- Whether the host link supports a speed, width and flit mode (R342). -/
def linkOption (flit : Bool) (speed width : Nat) : Bool :=
  1 ≤ speed && speed ≤ 6 && [1, 2, 4, 8, 16].contains width && (speed ≠ 6 || flit)

/-- HOST_LINK_TRAINED (R342, R343, R351): `mode` 0 = PCIe only, 1 = CXL 2.0, 2 = CXL 3.1. Options that R342 does not name do
not train. -/
def execHostLinkTrained (mode : Nat) (flit : Bool) (speed width : Nat) (s : State) : Out :=
  if !s.resettable || s.clk.asleep || s.clk.entryStep = 6 || 2 < mode || !linkOption flit speed width then .next s
  else .next { s with host := { s.host with cxl := mode, flit, speed, width } }

/-- A boot step ends, and the next begins (R619). -/
def State.nextStage (s : State) (k : Nat) : State :=
  s.setBoot (fun b => { b with stage := k, times := b.times ++ [s.ns] })

/-- The PUF attempt of boot step 3 (R562 to R564, R576). -/
def State.pufAttempt (s : State) (ok : Bool) : State :=
  if s.lcState = 4 then (s.setSec (fun k => { k with keyless := 3 })).nextStage 4
  else match s.sec.helper with
    | none =>
      if s.lcState = 0 then
        if ok then (s.setSec (fun k => { k with hasKey := true, helper := some helperTag })).nextStage 4 else s
      else (s.setSec (fun k => { k with keyless := 1 })).nextStage 4
    | some tag =>
      if ok && tag = helperTag then (s.setSec (fun k => { k with hasKey := true })).nextStage 4
      else if s.sec.pufFails + 1 < 3 then s.setSec (fun k => { k with pufFails := k.pufFails + 1 })
      else (s.setSec (fun k => { k with pufFails := k.pufFails + 1, keyless := 2 })).nextStage 4

/-- The Millwright starts from the slot that boots (R619 step 4, R620, R621). -/
def State.startMillwright (s : State) : State :=
  match s.bootSlot 0 s.boot.mwActive with
  | none => s.setBoot (fun b => { b with bootFail := true })
  | some (slot, i) =>
    (s.setBoot (fun b => { b with
      mwSlot := slot, mwActive := slot, mwUp := true, fallback := b.fallback || slot ≠ b.mwActive
      measures := b.measures.set 1 i.digest, mwFails := 0 })).nextStage 5

/-- Whether a deployment configuration is valid (R622). -/
def configOk (bs : List Byte) : Bool :=
  bs.length = 64 && leNat (bs.take 1) % 16 = 1 && leNat (bs.drop 60) = crc32 (bs.take 60)

/-- Boot step 5 (R484, R619, R622): the configuration is read and the device's ID formed. -/
def State.readConfig (s : State) : State :=
  let c := leNat (s.boot.config.take 4)
  if !configOk s.boot.config then (s.setFab (fun f => { f with group := none })).reject 4
  else
    let g := bitsOf c 8 8
    let s1 := (s.setFab (fun f => { f with
      group := some g, anchor := bitOf c 16, leaderOk := bitOf c 17, routeMode := bitOf c 18
      devId := if g < 128 then g * 256 + f.member else 0xFFFF })).setBoot (fun b => { b with bmcPriv := bitOf c 19 })
    if g < 128 then s1 else s1.reject 1

/-- Newt microcode loaded into a die at boot (R619 step 6, R620). -/
def State.bootNewt (s : State) (d : Nat) : State :=
  let a := getAt 0 s.boot.newtActive d
  match s.bootSlot 2 a with
  | none => s.fence 10 d false
  | some (slot, i) => s.setBoot (fun b => { b with
      newtRuns := b.newtRuns.set d i, newtActive := setAt b.newtActive d slot, fallback := b.fallback || slot ≠ a
      measures := b.measures.set (2 + d) i.digest })

/-- Firmware loaded into an X-die at boot (R619 step 6, R620). -/
def State.bootXdie (s : State) (d : Nat) : State :=
  let a := getAt 0 s.boot.xActive d
  match s.bootSlot 4 a with
  | none => (List.range 4).foldl (fun s k => s.fence 9 (4 * d + k) false) s
  | some (slot, i) => s.setBoot (fun b => { b with
      portRuns := (List.range 4).foldl (fun t k => Tab.set t (4 * d + k) i) b.portRuns
      xActive := setAt b.xActive d slot, fallback := b.fallback || slot ≠ a
      measures := b.measures.set (6 + d) i.digest })

/-- Boot step 7 (R521, R619): every unfenced island to /8 at code 46; leat training starts. -/
def State.bootIslands (s : State) : State :=
  let s1 := ((List.range 512).filter (fun t => !s.fenced 1 t)).foldl (fun s t => s.voltageCommand t 46 8 0) s
  let s2 := if s1.fab.join = .off then s1.setFab (fun f => { f with join := .training }) else s1
  ((List.range 64).filter (fun n => !s2.fenced 8 n && (s2.subLink n).mayTrain)).foldl (fun s n => s.startTraining n) s2

/-- Whether a checkpoint verifies (R575). -/
def State.checkpointOk (s : State) (c : Checkpoint) : Bool :=
  s.sec.hasKey && c.mac = hmac384 (ckptKeyOf s.lcState) (checkpointBytes c.seq c.hash c.time c.state)

/-- Boot step 8 (R556 to R558, R619): the Tally resumes its chain, with the GAP record due at its next enable. After a
reset whose records start afresh the GAP record's start is a free value. Log: 70 (DEDUCED). -/
def State.resumeTally (s : State) : State :=
  let (k, s0) := s.takeFree
  let t0 := Config.freeNat k % 2 ^ 64
  let s1 := s0.setTally (fun t => { t with
    coef := parseCoef Config.builtinCoef true, signing := s.sec.hasKey, period := s.ns })
  let fresh (s : State) : State := s.setTally (fun t => { t with seq := 0, hash := [], gap := some (1, t0) })
  if bitOf s.boot.cause 4 then s1
  else if !s.sec.hasKey then fresh s1
  else if bitOf s.boot.cause 0 then
    match s.boot.checkpoint.filter s.checkpointOk with
    | some c => s1.setTally (fun t => { t with seq := (c.seq + 2 ^ 32) % 2 ^ 64, hash := c.hash, gap := some (3, c.time) })
    | none => fresh s1
  else s1.setTally (fun t => { t with gap := some (if s.sec.lcChanged then 5 else 2, t0) })

/-- BOOT_STEP_DONE (R619): a timed boot step ends. In step 3, `ok` = the PUF reconstruction gave K_PUF. -/
def execBootStepDone (ok : Bool) (s : State) : Out :=
  if s.boot.ready || s.boot.perst || s.boot.bootFail then .next s
  else match s.boot.stage with
    | 1 => .next (s.nextStage 2)
    | 2 => .next ((s.setSec (fun k => { k with lcFuse := lcFix k.lcFuse })).nextStage 3)
    | 3 => .next (s.pufAttempt ok)
    | 4 => .next s.startMillwright
    | 5 => if s.lcState = 4 then .next s.readConfig else .next ((s.readConfig).nextStage 6)
    | 6 =>
      let s1 := (List.range 4).foldl (fun s d => s.bootNewt d) s
      .next (((List.range 4).foldl (fun s d => s.bootXdie d) s1).nextStage 7)
    | 7 => .next (s.bootIslands.nextStage 8)
    | 8 => .next ((s.resumeTally.nextStage 8).setBoot (fun b => { b with ready := true }))
    | _ => .next s

/-- SELF_TEST_DONE (R619 step 6, R623): at boot a unit that fails its built-in self-test is fenced. -/
def execSelfTestDone (cls unit : Nat) (pass : Bool) (s : State) : Out :=
  if s.boot.stage ≠ 6 || s.boot.ready || pass || unitLimit cls ≤ unit || s.fenced cls unit then .next s
  else .next (s.fence cls unit false)

/-- MW_START_TIMEOUT (R620, R625, R630): a Millwright image has not reported running within 500 ms. At boot the other slot
is tried, then recovery mode is entered. In service the previous slot is restored; when neither runs the device has lost
its Millwright. -/
def execMwStartTimeout (s : State) : Out :=
  if s.boot.mwUp then .next s
  else if s.boot.stage = 4 then
    if s.boot.mwFails = 0 && (s.slotImage (1 - s.boot.mwActive)).isSome then
      .next (s.setBoot (fun b => { b with mwActive := 1 - b.mwActive, fallback := true, mwFails := 1 }))
    else .next (s.setBoot (fun b => { b with bootFail := true }))
  else if 5 ≤ s.boot.stage then
    if s.boot.mwFails = 0 then
      .next (s.setBoot (fun b => { b with
        mwActive := if b.mwCause = 2 then b.mwPrev else 1 - b.mwActive
        fallback := true, mwFails := 1, mwCause := 1 }))
    else .next ((s.stopFiller).fatalError 4)
  else .next s

/-- Power-down begins at a step (R668, R669). Step 2 takes PWR_OK away at once. -/
def State.beginDown (s : State) (step : Nat) : State :=
  let s1 := s.setPwr (fun p => { p with downStep := step, upStep := 0, pwrOk := if step = 2 then false else p.pwrOk })
  (s1.setClk (fun c => { c with entryStep := 0 })).stopFiller

/-- The power-down step that undoes the last power-up step completed (R669). -/
def downFor (reached : Nat) : Nat :=
  match reached with
  | 7 => 2 | 6 => 4 | 5 => 5 | 4 => 6 | _ => 7

/-- Power-up starts from OFF (R666). -/
def State.tryPowerUp (s : State) : State :=
  let p := s.pwr
  if p.aon && p.vin12 && p.pwrReq && !p.blocked && !p.trip && p.reached = 0 && p.upStep = 0 && p.downStep = 0
      && s.clk.refPresent then
    s.setPwr (fun p => { p with upStep := 2, xrailEn := true })
  else s

/-- A power-up step completes (R667, R669): the sequencer reads PWR_REQ and the trip, and goes on or turns back.
Log: 79 (DEDUCED). -/
def State.upDone (s : State) (k : Nat) : State :=
  let s1 := s.setPwr (fun p => { p with reached := k })
  if !s.pwr.pwrReq || s.pwr.trip then (s1.setPwr (fun p => { p with upStep := 0 })).beginDown (downFor k)
  else match k with
    | 4 => s1.setPwr (fun p => { p with upStep := 5, hbmEn := true })
    | 7 => (s1.setPwr (fun p => { p with upStep := 0, pwrOk := true, poweredBefore := true })).setBoot (fun b =>
        { b with cause := if s.pwr.poweredBefore then Cause.perst else Cause.por, perst := true })
    | _ => s1.setPwr (fun p => { p with upStep := k + 1 })

/-- PWR_REQ_HIGH (R666, R667). -/
def execPwrReqHigh (s : State) : Out := .next (s.setPwr (fun p => { p with pwrReq := true })).tryPowerUp

/-- PWR_REQ_LOW (R668, R669, R671): a device powered up powers down, ending a brumation entry at once; one in brumation
runs step 7. -/
def execPwrReqLow (s : State) : Out :=
  let s1 := s.setPwr (fun p => { p with pwrReq := false, blocked := false })
  if s.pwr.downStep ≠ 0 || s.pwr.upStep ≠ 0 || s.clk.wakeStep ≠ 0 then .next s1
  else if s.clk.asleep then .next (s1.beginDown 7)
  else if s.pwr.reached = 7 then .next (s1.beginDown 2)
  else .next s1

/-- XRAIL_GOOD_RISE (R667 step 3). -/
def execXrailGoodRise (s : State) : Out :=
  let s1 := s.setPwr (fun p => { p with xrailGood := true })
  if s.pwr.upStep = 3 then .next (s1.upDone 3) else .next s1

/-- HBM_GOOD_RISE (R667 step 5). -/
def execHbmGoodRise (s : State) : Out :=
  let s1 := s.setPwr (fun p => { p with hbmGood := true })
  if s.pwr.upStep = 5 then .next (s1.upDone 5) else .next s1

/-- The device in OFF (R666): held in device reset, with nothing powered but the always-on island. Log: 79 (DEDUCED). -/
def State.off (s : State) : State :=
  let s1 := s.deviceReset Cause.perst
  (s1.setPwr (fun p => { p with
    reached := 0, upStep := 0, downStep := 0, quick := false, pwrOk := false, xrailEn := false, hbmEn := false
    xrailGood := false, hbmGood := false })).setClk (fun c => { c with
      rootLocked := false, src := if c.refPresent then 1 else 2, asleep := false, wakeSrc := 0, wakeStep := 0 })

/-- Step 3 of power-down (R668): SLEEP notices, and the Tally's checkpoint. -/
def State.sayGoodbye (s : State) : State :=
  let s1 := s.sendNotices 1 (List.range 64)
  if s.boot.mwUp && s.tally.enable then s1.writeCheckpoint s.lcState else s1

/-- A power-down step ends (R668). -/
def State.downDone (s : State) (k : Nat) : State :=
  match k with
  | 2 => if s.pwr.quick then s.setPwr (fun p => { p with downStep := 4 })
         else (s.setPwr (fun p => { p with downStep := 3 })).sayGoodbye
  | 3 => s.setPwr (fun p => { p with downStep := 4 })
  | 4 => s.setPwr (fun p => { p with downStep := 5, reached := 5, hbmEn := false })
  | 5 => s.setPwr (fun p => { p with downStep := 6, reached := 4, hbmEn := false, hbmGood := false })
  | 6 => s.setPwr (fun p => { p with downStep := 7, reached := 3, xrailEn := false })
  | _ => s.off.tryPowerUp

/-- POWER_STEP_DONE (R667, R668): a timed step of the sequence in progress ends; power-up step 6 needs the root PLL
locked. -/
def execPowerStepDone (s : State) : Out :=
  if s.pwr.downStep ≠ 0 then .next (s.downDone s.pwr.downStep)
  else match s.pwr.upStep with
    | 2 => .next ((s.setPwr (fun p => { p with xrailEn := true })).upDone 2)
    | 4 => .next (s.upDone 4)
    | 6 => if s.clk.rootLocked then .next (s.upDone 6) else .next s
    | 7 => .next (s.upDone 7)
    | _ => .next s

/-- POWER_STEP_TIMEOUT (R667, R669): a good signal has not risen; power-down runs from that step, and power-up waits for
PWR_REQ to go low and high again. -/
def execPowerStepTimeout (s : State) : Out :=
  let fail (d : Nat) : Out := .next ((s.setPwr (fun p => { p with blocked := true })).beginDown d)
  if s.pwr.upStep = 3 then fail 7 else if s.pwr.upStep = 5 then fail 5 else .next s

/-- GOOD_SIGNAL_LOST (R670): the islands are forced at once, and power-down runs from the point reached without step 3. -/
def execGoodSignalLost (hbm : Bool) (s : State) : Out :=
  let s1 := s.setPwr (fun p => { p with xrailGood := p.xrailGood && hbm, hbmGood := p.hbmGood && !hbm })
  if s.pwr.downStep ≠ 0 || (s.pwr.reached ≠ 7 && !s.clk.asleep) then .next s1
  else
    .next ((s1.setPwr (fun p => { p with blocked := true, quick := true })).beginDown (if s.clk.asleep then 7 else 2))

/-- VIN12_FAULT (R670): everything but the always-on island stops at once. -/
def execVin12Fault (s : State) : Out := .next (s.off.setPwr (fun p => { p with vin12 := false }))

/-- AON_SUPPLY_LOST (R670): the device is held in power-on reset, every output low. -/
def execAonSupplyLost (s : State) : Out := .next (s.powerOnReset.setPwr (fun p => { p with aon := false, vin12 := s.pwr.vin12 }))

/-- POWER_ON_RESET (R666): the supplies have risen through their thresholds, and the reset is released. -/
def execPowerOnReset (s : State) : Out := .next s.powerOnReset.tryPowerUp

/-- WAKE_STEP_DONE (R606, R671): a step of the wake ends. Step 2 writes WAKING; step 3, with the
root PLL locked, is the device reset; step 5 needs
boot to be complete; step 6 writes RESET. When PWR_REQ has fallen, power-down runs from there. Log: 77 (DEDUCED). -/
def execWakeStepDone (s : State) : Out :=
  let go (s : State) : State := s.setClk (fun c => { c with wakeStep := c.wakeStep + 1 })
  if s.clk.wakeStep ≠ 0 && !s.pwr.pwrReq then
    .next ((s.setClk (fun c => { c with wakeStep := 0, wakeSrc := 0 })).beginDown (if s.clk.asleep then 7 else 2))
  else match s.clk.wakeStep with
    | 1 => .next (go (s.writeWord 2))
    | 2 => if s.clk.rootLocked then .next ((go s).resetAndBoot (Cause.wake s.clk.wakeSrc)) else .next s
    | 3 => .next { (go s) with host := { s.host with speed := s.clk.linkBefore.1, width := s.clk.linkBefore.2 } }
    | 4 => if s.boot.ready then .next (go s) else .next s
    | 5 => .next ((s.writeWord 3).setClk (fun c => { c with wakeStep := 0, wakeSrc := 0 }))
    | _ => .next s

end Sys2Proof.Machine
end

