-- ==== Sys2Proof/Machine/Keys.lean ====
section
/-! DEFINITION. The signing engine, the hash engine, life-cycle transitions and SPDM (21_keys_and_attestation). -/

namespace Sys2Proof.Machine

/-- A management response sent (R628). Log: 4 (DESIGN CHOICE), 82 (DESIGN CHOICE). -/
def State.reply (s : State) (message : Nat) (code : Resp) (data : List Byte) : State :=
  s.setBoot (fun b => { b with replies := b.replies ++ [{ message, code, data }] })

/-- A management request that the Millwright takes (R624, R626, R627): `tr` 0 = PCIe from the physical function, 1 = SMBus,
2 = I3C, 3 = PCIe from a virtual function, which is dropped. A privileged request needs a transport that has the
privilege. -/
def State.request (s : State) (tr message : Nat) (priv : Bool) (body : State → State) : Out :=
  if !s.boot.mwUp || !s.pwr.pwrOk || s.clk.asleep || 3 ≤ tr then .next s
  else if priv && tr ≠ 0 && !s.boot.bmcPriv then .next (s.reply message .notPrivileged [])
  else .next (body s)

/-- Signature bytes (R549): r then s. -/
def sigBytes (x : Nat × Nat) : List Byte := beBytes 48 x.1 ++ beBytes 48 x.2

/-- What a call returns (R577, R578): code and output. -/
def State.engine (s : State) : EngCall → Nat × List Byte
  | .pubkey r => match s.keyReg r with
    | none => (Eng.errKey, [])
    | some d => if scalarOk d then (Eng.ok, pointBytes (pubOf d)) else (Eng.errScalar, [])
  | .sign r e => match s.keyReg r with
    | none => (Eng.errKey, [])
    | some d => if scalarOk d then (Eng.ok, sigBytes (ecdsaSign d e)) else (Eng.errScalar, [])
  | .verify x y e r t => (ecdsaVerify x y e r t, [])
  | .ecdh r x y => match s.keyReg r with
    | none => (Eng.errKey, [])
    | some d =>
      if !scalarOk d then (Eng.errScalar, [])
      else if !pointOk x y then (Eng.errPoint, [])
      else (Eng.ok, beBytes 48 ((ecMul 384 d (some (x, y))).getD (0, 0)).1)
  | .record _ h _ => match s.keyReg 1 with
    | none => (Eng.errKey, [])
    | some d => (Eng.ok, sigBytes (ecdsaSign d (beNat h)))

/-- A call of a caller other than the Tally enters the engine, or its queue (R580). Log: 84 (DESIGN CHOICE). -/
def State.callEngine (s : State) (c : EngCall) : State :=
  if s.sec.running.isNone then s.setSec (fun k => { k with running := some c })
  else s.setSec (fun k => { k with otherQ := k.otherQ ++ [c] })

/-- PUBKEY, SIGN, VERIFY and ECDH (R577): the call is made; SIGNING_CALL_DONE returns. -/
def execPubkey (reg : Nat) (s : State) : Out := .next (s.callEngine (.pubkey reg))

def execSign (reg e : Nat) (s : State) : Out := .next (s.callEngine (.sign reg e))

def execVerify (x y e r t : Nat) (s : State) : Out := .next (s.callEngine (.verify x y e r t))

def execEcdh (reg x y : Nat) (s : State) : Out := .next (s.callEngine (.ecdh reg x y))

/-- A record's signature written into its slot while the slot lies between head and tail (R552, R553). -/
def State.placeSignature (s : State) (slot : Nat) (hash sig : List Byte) : State :=
  let t := s.tally
  let n := 2 ^ t.log2
  let live := (slot + n - t.head) % n < (t.tail + n - t.head) % n && !s.mute
  let g (x : Option Signing) : Option Signing := x.filter (fun y => y.hash ≠ hash)
  let s1 := if live then s.writeHost 0 (t.base + 256 * slot + 0xA0) sig else s
  s1.setTally (fun t =>
    let t1 := { t with last := g t.last, due := g t.due }
    if live then t1.count 1 else t1)

/-- The next call starts (R580): the Tally's request after another caller's call, else the oldest other request. The
Tally's request signs the latest unsigned record of that moment (R552). -/
def State.nextCall (s : State) (wasTally : Bool) : State :=
  let t := s.sec.tallyQ
  let o := s.sec.otherQ
  let latest := if s.tally.due.isSome then s.tally.due else s.tally.last
  let tallyNext (s : State) : State := match latest with
    | some g => s.setSec (fun k => { k with running := some (.record g.slot g.hash g.gap), tallyQ := [] })
    | none => s.setSec (fun k => { k with tallyQ := [] })
  if !t.isEmpty && (!wasTally || o.isEmpty) then tallyNext s
  else match o with
    | c :: l => s.setSec (fun k => { k with running := some c, otherQ := l })
    | [] => s

/-- SIGNING_CALL_DONE (R552, R579, R580): the running call returns, and the next starts. `head` is the energy ring's head
word as the device reads it. -/
def execSigningCallDone (head : Nat) (s : State) : Out :=
  match s.sec.running with
  | none => .next s
  | some c =>
    let r := s.engine c
    let s1 := s.setSec (fun k => { k with running := none })
    match c with
    | .record slot hash _ =>
      let s2 := s1.setTally (fun t => { t with head := head % 2 ^ t.log2 })
      let s3 := if r.1 = Eng.ok then s2.placeSignature slot hash r.2 else s2
      .next (s3.drainAll.nextCall true)
    | _ => .next ((s1.setSec (fun k => { k with engCode := r.1, engOut := r.2 })).nextCall false)

/-- Slots of the hash engine a caller may use (R581): 0 = the Tally, 1 = the security block, others = every other
caller. -/
def slotsFor (caller : Nat) : List Nat := if caller = 0 then [0] else if caller = 1 then [1] else [2, 3, 4, 5, 6, 7]

/-- The slot a caller's message holds. -/
def State.slotOfCaller (s : State) (caller : Nat) : Option Nat :=
  (s.sec.slots.find? (fun p => p.2.caller = caller)).map (·.1)

/-- A message placed in a free slot of its caller's kind, or made to wait (R581). -/
def State.placeHash (s : State) (x : HashSlot) : State :=
  match (slotsFor x.caller).find? (fun i => (s.sec.slots.at? i).isNone) with
  | some i => s.setSec (fun k => { k with slots := k.slots.set i x })
  | none => s.setSec (fun k => { k with slotWaits := k.slotWaits ++ [x] })

/-- Waiting requests take free slots in arrival order (R581). -/
def State.placeWaits (s : State) : State :=
  s.sec.slotWaits.foldl (fun s x => s.placeHash x) (s.setSec (fun k => { k with slotWaits := [] }))

/-- Data of a caller that arrives at the hash engine. -/
def State.feed (s : State) (caller : Nat) (data : List Byte) (last : Bool) : State :=
  if data.isEmpty && !last then s
  else match s.slotOfCaller caller with
    | some i => s.setSec (fun k => { k with slots := k.slots.modify i (fun x =>
        { x with waiting := x.waiting ++ data, last := x.last || last }) })
    | none =>
      if s.sec.slotWaits.any (fun x => x.caller = caller) then
        s.setSec (fun k => { k with slotWaits := k.slotWaits.map (fun x =>
          if x.caller = caller then { x with waiting := x.waiting ++ data, last := x.last || last } else x) })
      else s.placeHash { caller, served := [], waiting := data, last }

/-- The segment in progress ends (R582): at most 4 KiB of its slot's data; a message that has ended gives its digest and
frees the slot. -/
def State.endSegment (s : State) : State :=
  match s.sec.slots.at? s.sec.serving with
  | none => s
  | some x =>
    let y := { x with served := x.served ++ x.waiting.take 4096, waiting := x.waiting.drop 4096 }
    if y.last && y.waiting.isEmpty then
      (s.setSec (fun k => { k with slots := k.slots.erase k.serving, digest := sha384 y.served })).placeWaits
    else s.setSec (fun k => { k with slots := k.slots.set k.serving y })

/-- The slot served next (R582): slot 0 first, then slots 1 to 7 in turn; 8 = none. -/
def State.nextSlot (s : State) : State :=
  let has (i : Nat) : Bool := (s.sec.slots.at? i).any (fun x => !x.waiting.isEmpty || x.last)
  if has 0 then s.setSec (fun k => { k with serving := 0 })
  else match ((List.range 7).map (fun j => (s.sec.turn + j) % 7 + 1)).find? has with
    | some i => s.setSec (fun k => { k with serving := i, turn := i })
    | none => s.setSec (fun k => { k with serving := 8 })

/-- HASH_SEGMENT_DONE (R581, R582): a segment ends, and the engine serves the next slot. `data` arrived from `caller`
meanwhile; `last` ends its message. -/
def execHashSegmentDone (caller : Nat) (data : List Byte) (last : Bool) (s : State) : Out :=
  .next (((s.endSegment).feed caller data last).nextSlot)

/-- HASH_SUSPEND (R583): a caller's slot is saved to its memory and freed, never inside a segment. -/
def execHashSuspend (caller : Nat) (s : State) : Out :=
  match s.slotOfCaller caller with
  | none => .next s
  | some i =>
    if caller = 0 || s.sec.serving = i then .next s
    else match s.sec.slots.at? i with
      | none => .next s
      | some x => .next (s.setSec (fun k => { k with
          slots := k.slots.erase i, suspended := k.suspended.set caller x })).placeWaits

/-- HASH_RESUME (R583): a suspended hash takes a free slot of its kind. -/
def execHashResume (caller : Nat) (s : State) : Out :=
  match s.sec.suspended.at? caller with
  | none => .next s
  | some x => .next ((s.setSec (fun k => { k with suspended := k.suspended.erase caller })).placeHash x)

/-- LC_NONCE (R568): 32 bytes from the entropy source. -/
def execLcNonce (tr : Nat) (s : State) : Out :=
  s.request tr 0x10 false (fun s =>
    let (k, s1) := s.takeFree
    let bytes := leBytes 32 (Config.freeNat k)
    (s1.setSec (fun c => { c with nonce := some { bytes, confirmTo := none } })).reply 0x10 .ok bytes)

/-- Transitions that exist (R567). -/
def lcAllowed (a b : Nat) : Bool :=
  (a = 0 && b = 1) || (a = 1 && b = 2) || ((a = 1 || a = 2) && b = 3) || (a ≤ 3 && b = 4)

/-- What a life-cycle token signs (R568). -/
def lcMessage (nonce : List Byte) (a b : Nat) : List Byte :=
  lblLc ++ leBytes 8 Config.serial ++ nonce ++ [BitVec.ofNat 8 a, BitVec.ofNat 8 b]

/-- The latest record signed at once with the present ledger key (R571 step 2). -/
def State.signLatest (s : State) : State :=
  match (if s.tally.due.isSome then s.tally.due else s.tally.last) with
  | none => s
  | some g =>
    let r := s.engine (.record g.slot g.hash g.gap)
    if r.1 = Eng.ok then s.placeSignature g.slot g.hash r.2 else s

/-- An accepted transition (R571): the Tally closes its windows and signs, the checkpoint takes the target state's key, the
old keys are cleared, and the fuses are blown. With `fuseOk` false the last fuse pair is only half blown.
Log: 83 (DEDUCED). -/
def State.transition (s : State) (dest : Nat) (fuseOk : Bool) : State :=
  let s1 := (s.closeAll.signLatest).writeCheckpoint dest
  let full := 2 ^ (2 * dest) - 1
  let fuses := if fuseOk then full else full - 2 ^ (2 * dest - 1)
  (s1.setSec (fun k => { k with
    hasKey := false, scalars := [], sessions := [], lcFuse := k.lcFuse ||| fuses, lcTarget := some dest })).reply 0x11
      (if fuseOk then .lcOk else .lcFuseFail) []

/-- LC_REQUEST (R568 to R571): target state, nonce, Dalvo's key and the signature. Log: 83 (DEDUCED). -/
def execLcRequest (tr dest : Nat) (nonce : List Byte) (x y r t : Nat) (fuseOk : Bool) (s : State) : Out :=
  s.request tr 0x11 false (fun s =>
    let at_ := s.lcState
    let spend (s : State) : State := s.setSec (fun k => { k with nonce := none })
    let say (s : State) (c : Resp) : State := s.reply 0x11 c []
    if s.sec.lcTarget.isSome || !lcAllowed at_ dest then say (spend s) .lcNotAllowed
    else if !s.mem.ponds.isEmpty then say (spend s) .lcBusy
    else match s.sec.nonce with
      | none => say s .lcBadToken
      | some n =>
        if n.bytes ≠ nonce then say (spend s) .lcBadToken
        else if r = 0 && t = 0 && dest = 4 && 2 ≤ at_ then
          match n.confirmTo with
          | none => say (s.setSec (fun k => { k with
              nonce := some { n with confirmTo := some (s.ns + 10000000000) } })) .lcConfirm
          | some e => if s.ns ≤ e then (spend s).transition dest fuseOk else say (spend s) .lcBadToken
        else if n.confirmTo.isSome then say (spend s) .lcBadToken
        else if sha384 (pointBytes (x, y)) = Config.lcKeyDigest
            && ecdsaVerify x y (beNat (sha384 (lcMessage nonce at_ dest))) r t = Eng.ok then
          (spend s).transition dest fuseOk
        else say (spend s) .lcBadToken)

/-- LC_NONCE_EXPIRY (R569): a confirm nonce is void after 10 s. -/
def execLcNonceExpiry (s : State) : Out :=
  if (s.sec.nonce.bind (·.confirmTo)).any (fun e => e ≤ s.ns) then .next (s.setSec (fun k => { k with nonce := none }))
  else .next s

/-- LC_TRANSITION_RESET (R571 step 6): 10 ms after the response a device reset starts. -/
def execLcTransitionReset (s : State) : Out :=
  if s.sec.lcTarget.isSome && s.resettable then .next (s.resetAndBoot Cause.lc) else .next s

/-- LC_PUBKEYS (R574): in PROVISION, the public keys of OWNED, signed with the present DAK. -/
def execLcPubkeys (tr : Nat) (s : State) : Out :=
  s.request tr 0x12 false (fun s =>
    if s.lcState ≠ 1 || !s.sec.hasKey then s.reply 0x12 .badRequest []
    else
      let keys := pointBytes (pubOf (dakOf 2)) ++ pointBytes (pubOf (ledgerOf 2))
      let e := beNat (sha384 (lblFwd ++ leBytes 8 Config.serial ++ keys))
      s.reply 0x12 .ok (keys ++ sigBytes (ecdsaSign (dakOf 1) e)))

/-- SPDM requests (R586), numbered by their codes of DSP0274. -/
def Spdm.getDigests : Nat := 0x81
def Spdm.getCertificate : Nat := 0x82
def Spdm.challenge : Nat := 0x83
def Spdm.getVersion : Nat := 0x84
def Spdm.getMeasurements : Nat := 0xE0
def Spdm.getCapabilities : Nat := 0xE1
def Spdm.negotiate : Nat := 0xE3
def Spdm.keyExchange : Nat := 0xE4
def Spdm.finish : Nat := 0xE5
def Spdm.heartbeat : Nat := 0xE8
def Spdm.keyUpdate : Nat := 0xE9
def Spdm.endSession : Nat := 0xEC

/-- A request that needs a private key: a keyless device answers with ERROR and its cause (R589). -/
def State.keyed (s : State) (msg : Nat) (body : State → State) : State :=
  if s.sec.hasKey then body s else s.reply msg .spdmError [BitVec.ofNat 8 s.sec.keyless]

/-- GET_VERSION (R586): versions 1.2 and 1.3. -/
def execGetVersion (tr : Nat) (s : State) : Out :=
  s.request tr Spdm.getVersion false (fun s =>
    (s.setSec (fun k => { k with spdmVersion := 0, spdmAlgos := false })).reply Spdm.getVersion .spdm [0x12, 0x13])

/-- GET_CAPABILITIES (R586) settles the version. -/
def execGetCapabilities (tr version : Nat) (s : State) : Out :=
  s.request tr Spdm.getCapabilities false (fun s =>
    if version ≠ 0x12 && version ≠ 0x13 then s.reply Spdm.getCapabilities .spdmError []
    else (s.setSec (fun k => { k with spdmVersion := version })).reply Spdm.getCapabilities .spdm [])

/-- NEGOTIATE_ALGORITHMS (R586): `ok` = the request offers P-384, SHA-384, secp384r1 and AES-256-GCM. -/
def execNegotiateAlgorithms (tr : Nat) (ok : Bool) (s : State) : Out :=
  s.request tr Spdm.negotiate false (fun s =>
    if ok then (s.setSec (fun k => { k with spdmAlgos := true })).reply Spdm.negotiate .spdm []
    else s.reply Spdm.negotiate .spdmError [])

/-- Whether slot 0 holds a chain for the device's own DAK (R587). -/
def State.slotFilled (s : State) : Bool :=
  !s.boot.cert.isEmpty && s.sec.hasKey && s.boot.certKey = pubOf (dakOf s.lcState)

/-- GET_DIGESTS (R586, R587): the digest of slot 0, or none while it is reported empty. -/
def execGetDigests (tr : Nat) (s : State) : Out :=
  s.request tr Spdm.getDigests false (fun s =>
    s.reply Spdm.getDigests .spdm (if s.slotFilled then sha384 s.boot.cert else []))

/-- GET_CERTIFICATE (R586, R587): part of the chain of slot 0. -/
def execGetCertificate (tr off len : Nat) (s : State) : Out :=
  s.request tr Spdm.getCertificate false (fun s =>
    s.reply Spdm.getCertificate .spdm (if s.slotFilled then (s.boot.cert.drop off).take len else []))

/-- CHALLENGE (R586, R589): `transcript` is what SPDM has the response sign. Log: 84 (DESIGN CHOICE). -/
def execChallenge (tr : Nat) (transcript : List Byte) (s : State) : Out :=
  s.request tr Spdm.challenge false (fun s => s.keyed Spdm.challenge (fun s =>
    s.reply Spdm.challenge .spdm (sigBytes (ecdsaSign (dakOf s.lcState) (beNat (sha384 transcript))))))

/-- The ledger key statement (R588). -/
def State.ledgerStatement (s : State) : List Byte :=
  [1, BitVec.ofNat 8 s.lcState, 1, 3] ++ leBytes 4 0 ++ pointBytes (pubOf (ledgerOf s.lcState))

/-- A measurement block (R587). -/
def State.measurement (s : State) (i : Nat) : List Byte :=
  if 1 ≤ i && i ≤ 9 then (s.boot.measures.at? i).getD []
  else if i = 10 then s.tally.coef.digest
  else if i = 0x10 then
    leBytes 2 (s.lcState + s.sec.keyless % 8 * 16 + s.sec.svn % 128 * 256) ++ leBytes 8 Config.serial
  else if i = 0xF0 && s.sec.hasKey then s.ledgerStatement
  else []

/-- GET_MEASUREMENTS (R586 to R589), of one block or with 0xFF of all, signed or unsigned. Log: 84 (DESIGN CHOICE). -/
def execGetMeasurements (tr index : Nat) (signed : Bool) (transcript : List Byte) (s : State) : Out :=
  s.request tr Spdm.getMeasurements false (fun s =>
    let all := [1, 2, 3, 4, 5, 6, 7, 8, 9, 10, 0x10, 0xF0]
    let body := if index = 0xFF then (all.map s.measurement).flatten else s.measurement index
    if signed then s.keyed Spdm.getMeasurements (fun s =>
      s.reply Spdm.getMeasurements .spdm (body ++ sigBytes (ecdsaSign (dakOf s.lcState) (beNat (sha384 (transcript ++ body))))))
    else s.reply Spdm.getMeasurements .spdm body)

/-- KEY_EXCHANGE (R586, R589): an ephemeral scalar from the entropy source, its public half, the shared point, and the
DAK's signature. `x` and `y` are the requester's point. Log: 84 (DESIGN CHOICE). -/
def execKeyExchange (tr id x y : Nat) (transcript : List Byte) (s : State) : Out :=
  s.request tr Spdm.keyExchange false (fun s => s.keyed Spdm.keyExchange (fun s =>
    if !pointOk x y then s.reply Spdm.keyExchange .spdmError []
    else
      let (k, s1) := s.takeFree
      let d := Config.freeNat k % (ecN - 1) + 1
      let q := pointBytes (pubOf d)
      let secret := ((ecMul 384 d (some (x, y))).getD (0, 0)).1
      (s1.setSec (fun c => { c with
        scalars := c.scalars.set (2 + id) d
        sessions := c.sessions.set id { secret, established := false, updates := 0 } })).reply Spdm.keyExchange .spdm
          (q ++ sigBytes (ecdsaSign (dakOf s.lcState) (beNat (sha384 (transcript ++ q)))))))

/-- FINISH (R586): `ok` = the requester's verify data holds. -/
def execFinish (tr id : Nat) (ok : Bool) (s : State) : Out :=
  s.request tr Spdm.finish false (fun s =>
    if (s.sec.sessions.at? id).isSome && ok then
      (s.setSec (fun k => { k with sessions := k.sessions.modify id (fun x => { x with established := true }) })).reply
        Spdm.finish .spdm []
    else s.reply Spdm.finish .spdmError [])

/-- A request inside an established session. -/
def State.inSession (s : State) (id msg : Nat) (body : State → State) : State :=
  if (s.sec.sessions.at? id).any (·.established) then (body s).reply msg .spdm [] else s.reply msg .spdmError []

/-- HEARTBEAT (R586). -/
def execHeartbeat (tr id : Nat) (s : State) : Out :=
  s.request tr Spdm.heartbeat false (fun s => s.inSession id Spdm.heartbeat (fun s => s))

/-- KEY_UPDATE (R586). -/
def execKeyUpdate (tr id : Nat) (s : State) : Out :=
  s.request tr Spdm.keyUpdate false (fun s => s.inSession id Spdm.keyUpdate (fun s =>
    s.setSec (fun k => { k with sessions := k.sessions.modify id (fun x => { x with updates := x.updates + 1 }) })))

/-- END_SESSION (R586). -/
def execEndSession (tr id : Nat) (s : State) : Out :=
  s.request tr Spdm.endSession false (fun s => s.inSession id Spdm.endSession (fun s =>
    s.setSec (fun k => { k with sessions := k.sessions.erase id, scalars := k.scalars.erase (2 + id) })))

end Sys2Proof.Machine
end

