-- ==== Sys2Proof/Machine/Bars.lean ====
section
/-! DEFINITION. Host accesses to device memory: the memory BARs (R347 to R349, R412) and CXL.mem (R223 to R226, R344). -/

namespace Sys2Proof.Machine

/-- What the host's read returns. Log: 4 (DESIGN CHOICE), 88 (DEDUCED). -/
def State.hostReads (s : State) (data : List Byte) (poison : Bool) : State :=
  { s with host := { s.host with readData := data, readPoison := poison } }

/-- All ones. -/
def ones (n : Nat) : List Byte := List.replicate n 0xFF

/-- Whether the host link carries memory requests to the device. -/
def State.linked (s : State) : Bool := s.pwr.pwrOk && !s.boot.perst

/-- Whether a memory request is only a wake event (R602 to R604): the device enters brumation or is in it. -/
def State.drowsy (s : State) : Bool := s.clk.asleep || s.clk.entryStep ≠ 0

/-- A write by the host at a local offset (R201, R207): nothing is allocated. Log: 86 (DEDUCED). -/
def State.hostStore (s : State) (off : Nat) (data : List Byte) : State :=
  (cutGranules off data).foldl (fun s g => s.landWrite 0 g.1 g.2) s |>.loftTouchRange off data.length .noalloc 0 true

/-- Whether a range meets a plot that is not placed (R674). -/
def State.unplaced (s : State) (off n : Nat) : Bool := (s.plotOf off).isNone || (s.plotOf (off + n - 1)).isNone

/-- `n` bytes at a local offset, or poison: of a poisoned granule, and over CXL.mem of a plot that is not placed (R674).
Log: 86 (DEDUCED). -/
def State.hostLoad (s : State) (off n : Nat) : State :=
  if s.unplaced off n then s.hostReads [] true
  else if s.poisonIn off n then s.hostReads [] true
  else s.hostReads (s.readLocal 0 off n) false

/-- A BAR2 access of the physical function (R349, R412): beyond plot space, or where a plot is not placed (R674), all ones,
or discarded. Log: 86 (DEDUCED). -/
def State.bar2Pf (s : State) (off : Nat) (write : Bool) (len : Nat) (data : List Byte) : State :=
  if 0xC000000000 ≤ off then (if write then s else s.hostReads (ones len) false)
  else if s.stalls 0 off (if write then data.length else len) write then s
  else if !write && s.unplaced off len then s.hostReads (ones len) false
  else if write then s.hostStore off data
  else s.hostLoad off len

/-- APERTURE_FAULT (R349, R365). Log: 87 (DEDUCED). -/
def State.apertureFault (s : State) (fn off : Nat) (write : Bool) : State :=
  s.post fn Event.apertureFault (off % 2 ^ 34 + b2n write * 2 ^ 63)

/-- A BAR2 access of an instance (R349): through its page tables from the aperture's base. Where it cannot be served, a
read returns all ones and a write is discarded, as in CXL 2.0 mode, where device memory is reachable through the physical
function's memory BAR alone (R343); a translation fault is also posted. Log: 87 (DEDUCED). -/
def State.bar2Vf (s : State) (fn off : Nat) (write : Bool) (len : Nat) (data : List Byte) (ext : Ext) : State :=
  let F := s.fn fn
  let va := F.apBase * 2 ^ 34 + off
  let a : Agent := { fn, slot := 0, die := 0, tile := 0, sluice := 0, op := 0, pond := 0 }
  let no (s : State) : State := if write then s else s.hostReads (ones len) false
  if !F.apEnable || s.host.cxl = 1 then no s
  else if write then
    match s.writeVa a ext.refused (some .noalloc) va data with
    | .ok s1 => s1
    | .bad s1 st _ => if st = Status.translationFault then s1.apertureFault fn off true else s1
    | .stall => s
  else
    match s.readVa a ext va len with
    | .ok bs => s.hostReads bs false
    | .bad st _ =>
      if st = Status.memoryError || st = Status.hostAccessError then s.hostReads [] true
      else if st = Status.translationFault then (no s).apertureFault fn off false
      else no s
    | .stall => s

/-- BAR2_ACCESS (R349, R604): the host reads `len` bytes or writes `data` at an offset of a function's memory BAR. During
brumation and its entry it is a wake event, read as all ones or discarded. Before boot is complete what is read is a free
value. `ext` holds what reads of host memory or of another device return. Log: 86 (DEDUCED). -/
def execBar2Access (fn off : Nat) (write : Bool) (len : Nat) (data : List Byte) (ext : Ext) (s : State) : Out :=
  if !s.linked || !s.fnExists fn || (if fn = 0 then 2 ^ 40 else 2 ^ 34) ≤ off then .next s
  else if s.drowsy then .next ((if write then s else s.hostReads (ones len) false).wakeEvent 1)
  else if !s.boot.ready then
    if write then .next s
    else
      let (k, s1) := s.takeFree
      .next (s1.hostReads (leBytes len (Config.freeNat k)) false)
  else if fn = 0 then .next (s.bar2Pf off write len data)
  else .next (s.bar2Vf fn off write len data ext)

/-- Entries of a home slice's snoop filter. Log: 88 (DEDUCED). -/
def State.filterOf (s : State) (home : Nat) : List SnoopEntry :=
  s.mem.snoop.filter (fun e => s.homeOf (e.granule * 64) = home)

/-- The snoop filter's entry for the host's copy of a granule set. A full slice recalls its oldest entry first (R223);
`recalled` is what the host gives back of a granule it had changed. Log: 88 (DEDUCED). -/
def State.track (s : State) (granule : Nat) (owned : Bool) (recalled : List Byte) : State :=
  let set (s : State) : State := { s with mem := { s.mem with
    snoop := s.mem.snoop.filter (fun e => e.granule ≠ granule) ++ [{ granule, agent := 0, owned }] } }
  if s.mem.snoop.any (fun e => e.granule = granule) then set s
  else
    let l := s.filterOf (s.homeOf (granule * 64))
    match l with
    | e :: _ =>
      if l.length < 2048 then set s
      else
        let s1 : State := { s with mem := { s.mem with snoop := s.mem.snoop.filter (fun x => x.granule ≠ e.granule) } }
        set (if e.owned && recalled.length = 64 then s1.hostStore (e.granule * 64) recalled else s1)
    | [] => set s

/-- A granule given up by the host; its data is taken unless the host no longer owned it (R226). Log: 88 (DEDUCED). -/
def State.giveUp (s : State) (granule : Nat) (data : List Byte) : State :=
  let owned := s.mem.snoop.any (fun e => e.granule = granule && e.owned)
  let s1 : State := { s with mem := { s.mem with snoop := s.mem.snoop.filter (fun e => e.granule ≠ granule) } }
  if owned && data.length = 64 then s1.hostStore (granule * 64) data else s1

/-- CXL_MEM_ACCESS (R223 to R226, R344): in CXL 3.1 mode the host reads a granule of plot space without caching it (0),
takes it shared (1) or owned (2), writes back (3) or drops (4) its copy, or writes `data` without owning the granule (5).
A copy given up is taken whatever holds the line (R225). During brumation and its entry it is a wake event and reads poison. `recalled` = what a back-invalidate snoop returns.
Log: 86 (DEDUCED). -/
def execCxlMemAccess (kind off : Nat) (data recalled : List Byte) (s : State) : Out :=
  let g := off / 64
  if !s.linked || s.host.cxl ≠ 2 || 0xC000000000 ≤ off then .next s
  else if s.drowsy then .next ((if kind ≤ 2 then s.hostReads [] true else s).wakeEvent 2)
  else if !s.boot.ready then
    if 2 < kind then .next s
    else
      let (k, s1) := s.takeFree
      .next (s1.hostReads (leBytes 64 (Config.freeNat k)) false)
  else if kind ≠ 3 && kind ≠ 4 && (s.heldBySluice 0 (64 * g) 64 (2 ≤ kind) || s.movingPlot off) then .next s
  else match kind with
    | 0 => .next (s.hostLoad (64 * g) 64)
    | 1 => .next ((s.hostLoad (64 * g) 64).track g false recalled)
    | 2 => .next ((s.hostLoad (64 * g) 64).track g true recalled)
    | 3 => .next (s.giveUp g data)
    | 4 => .next (s.giveUp g [])
    | 5 => .next (s.hostStore off data)
    | _ => .next s

end Sys2Proof.Machine
end

