-- ==== Sys2Proof/Machine/Sched.lean ====
section
/-! DEFINITION. Scheduling: context slots, tile switches with their saves and restores, and beats
(11_scheduling_and_beats). -/

namespace Sys2Proof.Machine

/-- CTX_SCHED (R317): the priority of the context that owns the ring. -/
def execCtxSched (op : Nat) (s : State) : Out :=
  match s.go? op 0x72 with
  | none => .next s
  | some o => .next (((s.modCtx o.ctx (fun x => { x with prio := fld o.desc 0x20 0 2 })).succeed op).schedule o.pond)

/-- The next context of equal priority after the running one in the order of becoming ready (R316). -/
def nextEqual (l : List (Nat × Nat × Nat)) (cur prio order : Nat) : Option (Nat × Nat × Nat) :=
  let eqs := l.filter (fun r => r.1 ≠ cur && r.2.1 = prio)
  match minBy? (·.2.2) (eqs.filter (fun r => order < r.2.2)) with
  | some r => some r
  | none => minBy? (·.2.2) eqs

/-- Whether a pond may switch its tiles now (R316, R339): no switch or re-bind phase in progress, and between beats. -/
def Pond.maySwitch (p : Pond) : Bool :=
  p.switch.isNone && !p.rebind.any (·.switching) && (match p.beats with
    | some b => !b.running
    | none => true)

/-- QUANTUM_EXPIRY (R316): the running context has held the tiles for the quantum while another has tile work ready; the
switch starts to the one of lowest priority value, among equals the next after the running one. A context of a higher
value than the running one takes the tiles only where the running one has no tile work ready. -/
def execQuantumExpiry (h : Nat) (s : State) : Out :=
  let s := s.stampReady h
  match s.mem.ponds.at? h with
  | none => .next s
  | some p =>
    if !p.maySwitch || p.rebindFirst || p.running = 0 then .next s
    else
      let cur := p.running - 1
      let x := s.host.ctxs.at? cur
      let prio := (x.map (·.prio)).getD 2
      let all := s.readyContexts h
      let l := all.filter (fun r => r.1 ≠ cur)
      let pick := match bestContext (l.filter (fun r => r.2.1 < prio)) with
        | some r => some r
        | none => match nextEqual l cur prio ((x.map (fun (y : Ctx) => y.readyAt)).getD 0) with
          | some r => some r
          | none => if all.any (fun r => r.1 = cur) then none else bestContext l
      match pick with
      | none => .next s
      | some r => .next (s.modPond h (fun p => { p with switch := some { dest := r.1, phase := .drain } }))

/-- Bytes of a save area (R323). -/
def saveNeed (nm nv : Nat) : Nat := 589824 + nm * 0x400000 + nv * 0x210000

/-- The lines a warm list records for a die (R326): the most recently used lines in the cache ways of the pond's share,
at most 16,384, as local offsets. -/
def State.warmList (s : State) (p : Pond) (die : Nat) : List Nat :=
  let ways := s.cacheWays die (bitsOf p.binding.loft (16 * die) 16)
  let l := s.mem.loft.filter (fun x => x.die = die && ways.contains x.way)
  ((sortBy (fun (a b : LoftLine) => Nat.ble b.used a.used) l).take 16384).map (·.line * 128)

/-- A list of 8-byte entries padded with zeros to `n` of them. -/
def entries8 (n : Nat) (l : List Nat) : List Byte :=
  ((List.range n).map (fun i => leBytes 8 (getAt 0 l i))).flatten

/-- An entry of a warm list (R326): a line's local offset with bit 63 set, so that no unused entry reads as a line.
Log: 48 (DEDUCED). -/
def warmEntry (off : Nat) : Nat := 2 ^ 63 + off

/-- The parts of a save image: (offset in the save area, bytes) (R323). The header holds version, nm and nv; its flags and
the slot control state that fill the control area, whose contents R323 does not give, are the free value `ctl`.
Log: 48 (DEDUCED). -/
def State.saveImage (s : State) (p : Pond) (ctl : Nat) : List (Nat × List Byte) :=
  let nm := p.binding.tilesM.length
  let tile (t : Option Nat) (n : Nat) : List Byte := match t with
    | some t => s.mem.sram.read (t * 0x400000) n
    | none => List.replicate n 0
  let prog (t : Option Nat) : List Byte := match t with
    | some t => s.mem.prog.read (t * 0x10000) 0x10000
    | none => List.replicate 0x10000 0
  (0, leBytes 12 (1 + nm * 2 ^ 32 + p.binding.tilesV.length * 2 ^ 64) ++ leBytes 65524 ctl)
    :: (List.range 4).map (fun d => (0x10000 + d * 0x20000, entries8 16384 ((s.warmList p d).map warmEntry)))
    ++ (p.binding.tilesM.zip (List.range nm)).map (fun x => (0x90000 + x.2 * 0x400000, tile x.1 0x400000))
    ++ ((p.binding.tilesV.zip (List.range p.binding.tilesV.length)).map (fun x =>
          (0x90000 + nm * 0x400000 + x.2 * 0x210000, tile x.1 0x200000 ++ prog x.1)))

/-- Pieces of an image written at a save area; the first that fails decides. Log: 102 (DEDUCED). -/
def State.writeAll (s : State) (a : Agent) (base : Nat) : List (Nat × List Byte) → Wrote
  | [] => .ok s
  | x :: l => match s.writeVa a false (some .noalloc) (base + x.1) x.2 with
    | .ok s1 => s1.writeAll a base l
    | w => w

/-- A context marked lost by an access made for it outside any operation, or by its record (R380, R385), and announced
with a status. -/
def State.loseContext (s : State) (c status : Nat) : State :=
  if (s.host.ctxs.at? c).all (·.lost) then s
  else ((s.markLost c 0).post (c / 16384) Event.contextLost (contextLostPayload c status)).releaseLost c

/-- A context marked lost because its record fails (R380). -/
def State.recordFails (s : State) (c : Nat) : State := s.loseContext c Status.badForm

/-- The agent that saves and restores a context's tiles (R325): its traffic is the pond's (R327). -/
def State.switcher (s : State) (h c : Nat) : Agent := { s.newt (c / 16384) c 0 with pond := h }

/-- The granules of a save image that hold poisoned words of the tiles they come from (R107), by their offset in the save
area. -/
def State.imagePoisons (s : State) (p : Pond) : List Nat :=
  let nm := p.binding.tilesM.length
  let part (l : List Nat) (first n base : Nat) : List Nat :=
    ((l.filter (fun w => first ≤ w && w < first + n)).map (fun w => base + (w - first) / 8 * 64)).eraseDups
  let ms := (p.binding.tilesM.zip (List.range nm)).map (fun x => match x.1 with
    | some t => part s.mem.sramPoison (t * 0x80000) 0x80000 (0x90000 + x.2 * 0x400000)
    | none => [])
  let vs := (p.binding.tilesV.zip (List.range p.binding.tilesV.length)).map (fun x => match x.1 with
    | some t =>
      let base := 0x90000 + nm * 0x400000 + x.2 * 0x210000
      part s.mem.sramPoison (t * 0x80000) 0x40000 base ++ part s.mem.progPoison (t * 0x2000) 0x2000 (base + 0x200000)
    | none => [])
  (ms ++ vs).flatten

/-- The granule of a virtual address in this device's memory marked as poisoned. -/
def State.poisonVa (s : State) (a : Agent) (va : Nat) : State :=
  match s.translate a va with
  | .ok (.local_ off) _ => match s.hbmKey off with
    | some k => { s with mem := { s.mem with poison := (k / 64) :: s.mem.poison.filter (· ≠ k / 64) } }
    | none => s
  | _ => s

/-- A running context's images saved (R325 step 3): saved, with poisoned granules as poison, or the context is lost where
its save area faults; `none` = an access stalls, and the save goes on later. The control area is a free value.
Log: 48 (DEDUCED). -/
def State.saveTiles (s : State) (h : Nat) (p : Pond) (c : Nat) : Option State :=
  match s.host.ctxs.at? c with
  | none => some s
  | some x =>
    let (k, s0) := s.takeFree
    match s0.writeAll (s0.switcher h c) x.saveAddr (s0.saveImage p (Config.freeNat k)) with
    | .ok s1 =>
      let s2 := (s.imagePoisons p).foldl (fun t g => t.poisonVa (s0.switcher h c) (x.saveAddr + g)) s1
      some (s2.modCtx c (fun x => { x with saved := true, ctlSaved := true, readyAt := 0 }))
    | .bad s1 st _ => some (s1.loseContext c st)
    | .stall => none

/-- SAVE_AREA_SHORT's payload (R365). -/
def shortPayload (c need : Nat) : Nat := c % 16384 + (need % 2 ^ 64) * 2 ^ 64

/-- The restore of a switch begins: the tiles are no context's (R325 step 4); a switch to no context ends there. -/
def Pond.toRestore (p : Pond) (w : Switch) : Pond :=
  { p with switch := if w.dest = noContext then none else some { w with phase := .restore }, running := 0 }

/-- CONTEXT_DRAIN_DONE (R325 step 2, R324, R328, R380): the outgoing context's last tile operation is done, and no re-bind
point that has fallen due comes first. Its record is read again: `record`. A lost context is not saved; a save area
too small cancels the switch while the context has tile work ready, and without any the others get the tiles, its
images unsaved. Log: 117 (DEDUCED). -/
def execContextDrainDone (h record : Nat) (s : State) : Out :=
  match s.mem.ponds.at? h with
  | none => .next s
  | some p => match p.switch with
    | none => .next s
    | some w =>
      let c := p.running - 1
      if w.phase ≠ .drain || p.rebindFirst
          || s.work.ops.any (fun x => x.2.ctx = c && x.2.inExec && x.2.isTile (s.groupTile x.2.fn)) then
        .next s
      else if (s.host.ctxs.at? c).any (·.lost) then .next ((s.modPond h (fun p => p.toRestore w)).releaseLost c)
      else if !s.recordOk (c / 16384) record then .next ((s.modPond h (fun p => p.toRestore w)).recordFails c)
      else
        let s1 := s.loadRecord c record
        let need := saveNeed p.binding.tilesM.length p.binding.tilesV.length
        if (s1.host.ctxs.at? c).any (fun x => x.saveSize < need) then
          let busy := (s.readyContexts h).any (fun r => r.1 = c)
          .next ((s1.modPond h (fun p => if busy then { p with switch := none } else p.toRestore w)).post (p.inst + 1)
            Event.saveAreaShort (shortPayload c need))
        else .next (s1.modPond h (fun p => { p with switch := some { w with phase := .save } }))

/-- CONTEXT_SAVE_DONE (R325 step 3): the images and warm lists are in the save area; the restore starts. -/
def execContextSaveDone (h : Nat) (s : State) : Out :=
  match s.mem.ponds.at? h with
  | none => .next s
  | some p => match p.switch with
    | none => .next s
    | some w =>
      if w.phase ≠ .save then .next s
      else match s.saveTiles h p (p.running - 1) with
        | none => .next s
        | some s1 => .next ((s1.modPond h (fun p => p.toRestore w)).releaseLost (p.running - 1))

/-- The images of a save area put into the tiles of a list of ranks, Vane ranks with their program memory (R325 step 4);
the first read that fails decides. -/
def State.restoreRanks (s : State) (a : Agent) (base size : Nat) (vane : Bool) : List (Option Nat × Nat) → Acc State
  | [] => .ok s
  | (none, _) :: l => s.restoreRanks a base size vane l
  | (some t, r) :: l =>
    let n := if vane then 0x200000 else 0x400000
    match s.readVa a { bytes := [], refused := true, poison := false, lats := [] } (base + r * size) size with
    | .ok bs =>
      { s with mem := { s.mem with
        sram := s.mem.sram.write (t * 0x400000) (bs.take n)
        prog := s.mem.prog.write (t * 0x10000) (bs.drop n) } }.restoreRanks a base size vane l
    | .bad st d => .bad st d
    | .stall => .stall

/-- The agent's read of a save area's bytes. -/
def State.readSave (s : State) (h c va n : Nat) : Acc (List Byte) :=
  s.readVa (s.switcher h c) { bytes := [], refused := true, poison := false, lats := [] } va n

/-- A context's images restored into a pond's tiles, already at zero (R325 step 4, R640); `none` = an access stalls, and the
restore goes on later. -/
def State.restoreTiles (s : State) (h : Nat) (p : Pond) (c : Nat) : Option State :=
  match s.host.ctxs.at? c with
  | none => some s
  | some x =>
    if !x.saved then some s
    else
      let a := s.switcher h c
      match s.readSave h c x.saveAddr 16 with
      | .bad st _ => some (s.loseContext c st)
      | .stall => none
      | .ok hb =>
        let nm := fld (leNat hb) 4 0 32
        let nv := fld (leNat hb) 8 0 32
        let ms := (p.binding.tilesM.zip (List.range p.binding.tilesM.length)).take nm
        let vs := (p.binding.tilesV.zip (List.range p.binding.tilesV.length)).take nv
        match s.restoreRanks a (x.saveAddr + 0x90000) 0x400000 false ms with
        | .stall => none
        | .bad st _ => some ((s.scrubTiles p.tiles).loseContext c st)
        | .ok s1 => match s1.restoreRanks a (x.saveAddr + 0x90000 + nm * 0x400000) 0x210000 true vs with
          | .stall => none
          | .bad st _ => some ((s.scrubTiles p.tiles).loseContext c st)
          | .ok s2 => some s2

/-- Whether a page table of `k` levels at physical address `t` maps some virtual address of function `fn` to the page of a
local offset (R326). -/
def State.tableMaps (s : State) (fn off : Nat) : Nat → Nat → Bool
  | 0, _ => false
  | k + 1, t =>
    let lvl := 3 - k
    (List.range 0x2000).any (fun i =>
      let e := leNat (s.readPub (bitsOf t 0 43 + 8 * i) 8)
      bitOf e 0 && !pteBad e lvl &&
        (if bitOf e 1 then
          let span := if lvl = 2 then 29 else if bitOf e 5 then 20 else 16
          match s.classify fn (bitsOf e 16 44 * 0x10000 / 2 ^ span * 2 ^ span) 0 with
          | .ok (.local_ o) _ => o / 2 ^ span = off / 2 ^ span
          | _ => false
         else
          let t' := bitsOf e 16 44 <<< 16
          s.goodTable fn t' && s.tableMaps fn off k t'))

/-- Whether a function's translation maps a local offset (R326). -/
def State.maps (s : State) (fn off : Nat) : Bool :=
  match (s.host.fns.at? fn).bind (·.root) with
  | none => false
  | some root => s.tableMaps fn off 3 (0xFFFF * 2 ^ 43 + root)

/-- A context's warm-list lines prefetched into its pond's share (R325 step 5, R326): those its translation maps, in plots
the pond holds. A fault on the save area loses the context (R385). -/
def State.prefetchWarm (s : State) (h : Nat) (p : Pond) (c : Nat) : State :=
  match s.host.ctxs.at? c with
  | none => s
  | some x =>
    (List.range 4).foldl (fun s d => match s.readSave h c (x.saveAddr + 0x10000 + d * 0x20000) 0x20000 with
      | .ok bs =>
        let l := ((List.range 16384).map (fun i => leNat ((bs.drop (8 * i)).take 8))).filterMap (fun e =>
          if 2 ^ 63 ≤ e then some (e - 2 ^ 63) else none)
        (l.filter (fun off => (s.plotOf off).any (fun q => q.owner = h) && s.maps (c / 16384) off)).reverse.foldl
          (fun s off => s.loftTouch off .alloc (bitsOf p.binding.loft (16 * d) 16) false) s
      | .bad st _ => s.loseContext c st
      | .stall => s) s

/-- CONTEXT_RESTORE_DONE (R325 steps 4 and 5): the incoming images are in the tiles, and the context runs. -/
def execContextRestoreDone (h : Nat) (s : State) : Out :=
  match s.mem.ponds.at? h with
  | none => .next s
  | some p => match p.switch with
    | none => .next s
    | some w =>
      if w.phase ≠ .restore then .next s
      else match (s.scrubTiles p.tiles).restoreTiles h p w.dest with
        | none => .next s
        | some s1 =>
          let s2 := s1.modCtx w.dest (fun x => { x with saved := false })
          let lost := (s2.host.ctxs.at? w.dest).all (·.lost)
          let s3 := s2.modPond h (fun p => { p with
            switch := none, running := if lost then 0 else w.dest + 1, since := s.ns })
          let s4 := if (s.host.ctxs.at? w.dest).any (·.saved) then s3.prefetchWarm h p w.dest else s3
          .next ((s4.releaseLost w.dest).schedule h)

/-- A pond's held slots over its weight, as a key that orders like the fraction (R319). -/
def shareKey (held weight : Nat) : Nat := held * 2 ^ 64 / weight

/-- Slots the contexts of a pond hold, over the pond's weight. -/
def State.pondShare (s : State) (h : Nat) : Nat :=
  shareKey ((s.host.slots.filter (fun p => (s.host.ctxs.at? p.2.ctx).any (fun c => c.pond = h))).length)
    (((s.mem.ponds.at? h).map (·.weight)).getD 1)

/-- Slots the contexts of a function hold. -/
def State.slotsOf (s : State) (f : Nat) : Nat := (s.host.slots.filter (fun p => p.2.ctx / 16384 = f)).length

/-- Contexts that wait for a slot and may take a free one (R319, R429): they are known to wait, or have come to want one
by a wait that was met (R383). -/
def State.slotWaiters (s : State) : List (Nat × Ctx) :=
  s.host.ctxs.filter (fun p => (p.2.waitSince ≠ 0 || s.wantsSlot p.1 p.2) && s.slotOf p.1 = 0 && !p.2.lost)

/-- The waiting context the device chooses (R319): least share, then priority value, then longest wait. -/
def State.bestWaiter (s : State) (l : List (Nat × Ctx)) : Option (Nat × Ctx) :=
  minBy? (fun p => s.pondShare p.2.pond * 2 ^ 136 + p.2.prio * 2 ^ 128
    + (if p.2.waitSince = 0 then s.ns + 1 else p.2.waitSince)) l

/-- Whether a slot may be taken from its holder (R320): resident, with nothing in execution, and not being switched in. -/
def State.takable (s : State) (x : Slot) : Bool :=
  x.phase = .resident && !s.work.ops.any (fun p => p.2.ctx = x.ctx && p.2.inExec)
    && !s.mem.ponds.any (fun p => p.2.switch.any (fun w => w.dest = x.ctx))

/-- The pond of a slot's context. -/
def State.slotPond (s : State) (x : Slot) : Nat := ((s.host.ctxs.at? x.ctx).map (·.pond)).getD 0

/-- The slot the device takes, of those that may be taken, for a waiting context of share `share` (R320): the longest
idle; else, of holders past their quantum, one of the pond with the largest share. None while the waiting context's
pond holds more for its weight than every holder's. -/
def State.victim (s : State) (l : List (Nat × Slot)) (share : Nat) : Option Nat :=
  if !s.host.slots.any (fun p => share ≤ s.pondShare (s.slotPond p.2)) then none
  else match minBy? (fun p => ((s.host.ctxs.at? p.2.ctx).map (·.idleSince)).getD 0) (l.filter (fun p => p.2.idle)) with
    | some p => some p.1
    | none =>
      let old := l.filter (fun p =>
        p.2.since + ((s.mem.ponds.at? (s.slotPond p.2)).map (·.quantum)).getD 0 * 1000000 ≤ s.ns)
      (minBy? (fun p => 2 ^ 128 - s.pondShare (s.slotPond p.2)) old).map (·.1)

/-- SLOT_GRANT (R319, R320, R429): a free slot goes to the waiting context chosen; with none free, a slot is taken from
a holder, whose unloading starts; a running holder is first switched out of its pond's tiles. Log: 117 (DEDUCED). -/
def execSlotGrant (s : State) : Out :=
  let free := (List.range 64).find? (fun i => (s.host.slots.at? i).isNone)
  let capped (f : Nat) : Bool := (s.fn f).slotMax ≠ 0 && (s.fn f).slotMax ≤ s.slotsOf f
  match free, s.bestWaiter (s.slotWaiters.filter (fun p => !capped (p.1 / 16384))) with
  | some i, some w =>
    let x : Slot := { ctx := w.1, phase := .loading, since := s.ns, idle := false }
    .next ({ s with host := { s.host with slots := s.host.slots.set i x } }.modCtx w.1 (fun c => { c with waitSince := 0 }))
  | _, _ => match s.bestWaiter s.slotWaiters with
    | none => .next s
    | some w =>
      let f := w.1 / 16384
      let l := s.host.slots.filter (fun p => s.takable p.2 && (!capped f || p.2.ctx / 16384 = f))
      if free.isSome && !capped f then .next s
      else match s.victim l (s.pondShare w.2.pond) with
        | none => .next s
        | some i => .next (s.unloadSlot (((s.host.slots.at? i).map (·.ctx)).getD noContext))

/-- SLOT_IDLE_TIMEOUT (R320): a holder none of whose rings has had work for 100 µs may lose its slot. -/
def execSlotIdleTimeout (slot : Nat) (s : State) : Out :=
  match s.host.slots.at? slot with
  | none => .next s
  | some x =>
    if (s.fn (x.ctx / 16384)).sqs.any (fun p => p.2.ctx = x.ctx % 16384 && p.2.submitted ≠ 0) then .next s
    else .next { s with host := { s.host with slots := s.host.slots.modify slot (fun x => { x with idle := true }) } }

/-- Every cached translation tagged with a slot removed (R321, R410). -/
def State.dropSlotXlat (s : State) (slot : Nat) : State :=
  { s with xlat := { s.xlat with
      tlb := s.xlat.tlb.filter (fun t => t.slot ≠ slot + 1)
      micro := s.xlat.micro.filter (fun m => m.2.slot ≠ slot + 1) } }

/-- A context's slot control state written to the control area of its save area (R321), behind the 16 bytes of header:
its contents are a free value. A context without a save area keeps it in the device. A fault loses the context (R385);
`none` = the access stalls. Log: 48 (DEDUCED). -/
def State.saveControl (s : State) (c : Nat) : Option State :=
  match s.host.ctxs.at? c with
  | none => some s
  | some x =>
    if x.saveSize < 0x10000 || x.lost then some s
    else
      let (k, s0) := s.takeFree
      match s0.writeVa (s0.switcher x.pond c) false (some .noalloc) (x.saveAddr + 16) (leBytes 65520 (Config.freeNat k)) with
      | .ok s1 => some (s1.modCtx c (fun x => { x with ctlSaved := true }))
      | .bad s1 st _ => some (s1.loseContext c st)
      | .stall => none

/-- A context's slot control state read back from its save area (R321); a fault loses the context (R385). -/
def State.loadControl (s : State) (c : Nat) : State :=
  match s.host.ctxs.at? c with
  | none => s
  | some x =>
    if !x.ctlSaved || x.lost then s
    else match s.readSave x.pond c (x.saveAddr + 16) 65520 with
      | .bad st _ => s.loseContext c st
      | _ => s.modCtx c (fun x => { x with ctlSaved := false })

/-- SLOT_LOAD_DONE (R321, R380): a slot is unloaded, its control state saved and its translations removed, and free; or it
is loaded with the context's record as read: `record`. A context on its pond's tiles is switched out first.
Log: 117 (DEDUCED). -/
def execSlotLoadDone (slot record : Nat) (s : State) : Out :=
  match s.host.slots.at? slot with
  | none => .next s
  | some x => match x.phase with
    | .resident => .next s
    | .unloading =>
      if s.onTiles x.ctx then .next (s.unloadSlot x.ctx)
      else match s.saveControl x.ctx with
        | none => .next s
        | some s0 =>
          let s1 := s0.dropSlotXlat slot
          .next ({ s1 with host := { s1.host with slots := s1.host.slots.erase slot } }.noteCtxWork x.ctx)
    | .loading =>
      let s1 := { s with host := { s.host with
        slots := s.host.slots.modify slot (fun x => { x with phase := .resident, since := s.ns }) } }
      if s.recordOk (x.ctx / 16384) record then
        let free := { s with host := { s.host with slots := s.host.slots.erase slot } }
        let s2 := free.loadRecord x.ctx record
        .next ({ s2 with host := { s2.host with slots := s1.host.slots } }.loadControl x.ctx)
      else .next (s1.recordFails x.ctx)

/-- The first grid point at or after a time (R330). -/
def gridFrom (t0 period now : Nat) : Nat := if now ≤ t0 then t0 else t0 + ((now - t0 + period - 1) / period) * period

/-- A pond's beats with new settings, their next beat at the first grid point at or after `now` (R330). -/
def Beats.reset (now number period catchUp floor t0 : Nat) (events : Bool) (steps : List BeatStep) : Beats :=
  { events, period, catchUp, floor, t0, number, running := false, grid := gridFrom t0 period now, start := 0, lag := 0
    budget := 0, sumC := 0, sumM := 0, tokens := 0, prefills := 0, left := 0, lagPosted := 0, next := none
    stopping := false, steps }

/-- A pond's beats set; a change between beats and none closes its energy windows (R541). -/
def State.setBeats (s : State) (h : Nat) (p : Pond) (b : Option Beats) (n : Nat) : State :=
  let s1 := if p.beats.isSome = b.isSome then s else s.closePondWindows h
  s1.modPond h (fun p => { p with beats := b, beatCount := n })

/-- BEAT_SET (R329, R330): at resolution in a pond without beats or between beats, else when the beat in progress ends; the
command again once its wait is met completes it. Log: 18 (DEDUCED). -/
def execBeatSet (op : Nat) (s : State) : Out :=
  match s.acts? op 0x70 with
  | none => .next (s.goOn op 0x70)
  | some o =>
    let h := fld o.desc 0x20 0 9
    match s.mem.ponds.at? h with
    | none => .next (s.decide op Status.badPond 0)
    | some p =>
      if o.fn ≠ 0 ∧ p.inst + 1 ≠ o.fn then .next (s.decide op Status.badPond 0)
      else
        let period := fld o.desc 0x24 0 32 * 1000
        let c := fld o.desc 0x28 0 8
        let f := fld o.desc 0x28 8 8
        let t0 := if fld o.desc 0x30 0 64 = 0 then s.ns else fld o.desc 0x30 0 64
        let ev := bitOf (fld o.desc 0x20 0 32) 17
        let on := bitOf (fld o.desc 0x20 0 32) 16
        let b' := match p.beats with
          | none => if on then some (Beats.reset s.ns p.beatCount period c f t0 ev []) else none
          | some b =>
            if b.running then
              (if on then some { b with next := some (period, c, f, t0, ev), stopping := false }
               else some { b with stopping := true, next := none })
            else if on then some { Beats.reset s.ns b.number period c f t0 ev b.steps with prompts := b.prompts } else none
        let n := match p.beats with
          | some b => b.number
          | none => p.beatCount
        .next (((s.setBeats h p b' n).actDone op 0x70).schedule h)

/-- BEAT_STEP (R331, R333): at resolution the ring's next descriptors become one step, and a step too long for its beat
fails; the command again once its wait is met completes it. Log: 18 (DEDUCED). -/
def execBeatStep (op : Nat) (s : State) : Out :=
  match s.acts? op 0x71 with
  | none => .next (s.goOn op 0x71)
  | some o => match (s.mem.ponds.at? o.pond).bind (·.beats), (s.fn o.fn).sqs.at? o.sq with
    | some b, some q =>
      let id := s.work.nextStep
      let n := fld o.desc 0x24 0 13
      let c := fld o.desc 0x28 0 32
      let m := fld o.desc 0x2C 0 32
      let long := b.period < max c m * 100
      let t : BeatStep :=
        { id, fn := o.fn, sq := o.sq, prefill := fld o.desc 0x20 0 1 = 1, costC := c, costM := m
          key := fld o.desc 0x30 0 32, last := fld o.desc 0x34 0 1 = 1, left := n, readyAt := 0, released := false
          tooLong := long }
      let s1 := { s with work := { s.work with nextStep := id + 1 } }
      let s2 := s1.modPond o.pond (fun p => { p with beats := p.beats.map (fun b => { b with steps := b.steps ++ [t] }) })
      let s3 := s2.setSq o.fn o.sq { q with stepLeft := n, stepId := id }
      .next (if long then s3.decide op Status.stepTooLong 0 else s3.actDone op 0x71)
    | _, _ => .next (s.actDone op 0x71)

/-- Ready steps not yet released. Log: 105 (DEDUCED). -/
def Beats.ready (b : Beats) (prefill : Bool) : List BeatStep :=
  b.steps.filter (fun t => t.readyAt ≠ 0 && !t.released && !t.tooLong && t.prefill = prefill)

/-- Token steps in the order the composer takes them (R334). -/
def Beats.tokenOrder (b : Beats) : List BeatStep :=
  sortBy (fun (x y : BeatStep) => Nat.ble (x.readyAt * 65536 + x.sq) (y.readyAt * 65536 + y.sq)) (b.ready false)

/-- Whether a prompt is that of a unit. -/
def Prompt.of (p : Prompt) (t : BeatStep) : Bool := p.fn = t.fn && p.sq = t.sq && p.key = t.key

/-- A prompt with units already released and not its last is in progress (R334). -/
def Beats.inProgress (b : Beats) (t : BeatStep) : Bool := b.prompts.any (fun p => p.of t)

/-- The order in which a prompt's first ready unit became ready. -/
def Beats.promptOrder (b : Beats) (t : BeatStep) : Nat :=
  match b.prompts.find? (fun p => p.of t) with
  | some p => p.order
  | none => ((b.steps.filter (fun u => u.prefill && u.readyAt ≠ 0 && u.fn = t.fn && u.sq = t.sq && u.key = t.key)).map
      (·.readyAt)).foldl min t.readyAt

/-- The prompts in progress after the release of a unit (R334). -/
def Beats.notePrompt (b : Beats) (t : BeatStep) : Beats :=
  let order := b.promptOrder t
  let rest := b.prompts.filter (fun p => !p.of t)
  { b with prompts := if t.last then rest else rest ++ [{ fn := t.fn, sq := t.sq, key := t.key, order }] }

/-- Prefill units in prompt order, then unit order (R334). -/
def Beats.prefillOrder (b : Beats) : List BeatStep :=
  sortBy (fun (x y : BeatStep) => Nat.ble
    ((if b.inProgress x then 0 else 1) * 2 ^ 128 + b.promptOrder x * 2 ^ 64 + x.id)
      ((if b.inProgress y then 0 else 1) * 2 ^ 128 + b.promptOrder y * 2 ^ 64 + y.id)) (b.ready true)

/-- Steps taken while their sums stay within a limit of 2^16 parts of a unit (R334); `free` = the first is always
taken. Log: 105 (DEDUCED). -/
def takeSteps : List BeatStep → Nat → Nat → Nat → Bool → List BeatStep × Nat × Nat
  | [], c, m, _, _ => ([], c, m)
  | t :: l, c, m, limit, free =>
    if !free && limit < max (c + t.costC) (m + t.costM) * 6553600 then ([], c, m)
    else
      let r := takeSteps l (c + t.costC) (m + t.costM) limit false
      (t :: r.1, r.2)

/-- BEAT_LAG posted when the lag exceeds a further multiple of P (R336). -/
def State.beatLag (s : State) (h inst : Nat) (b : Beats) (lag : Nat) : State × Nat :=
  let k := if lag = 0 then 0 else (lag - 1) / b.period
  (if b.lagPosted < k then
     s.post (inst + 1) Event.beatLag (b.number % 2 ^ 48 + h * 2 ^ 48 + (lag / 100 % 2 ^ 32) * 2 ^ 64)
   else s, k)

/-- BEAT_START (R334): the composer forms the release list of the next beat within its budget. Times in ns; the budget
times 256 and the limits times 2^16 keep the fractions of catch_up and prefill_floor exact. Log: 105 (DEDUCED). -/
def execBeatStart (h : Nat) (s : State) : Out :=
  match s.mem.ponds.at? h with
  | none => .next s
  | some p => match p.beats with
    | none => .next s
    | some b =>
      if b.running || p.switch.isSome || p.rebindFirst then .next s
      else
        let now := s.ns
        let lag := now - b.grid
        let b256 := b.period * 256 - min (lag * 256) (b.catchUp * b.period)
        let full := b256 * 256
        let floor := if lag = 0 then b.floor * b256 else 0
        let (ts, c1, m1) := takeSteps b.tokenOrder 0 0 (full - floor) true
        let (us, c2, m2) := takeSteps b.prefillOrder c1 m1 full false
        let rel := (ts ++ us).map (·.id)
        let (s1, k) := s.beatLag h p.inst b lag
        let b' : Beats := { b with
          running := true, start := now, lag, budget := b256 / 256, sumC := c2, sumM := m2, tokens := ts.length
          prefills := us.length, left := (b.ready false).length - ts.length, lagPosted := k
          steps := b.steps.map (fun t => if rel.contains t.id then { t with released := true } else t) }
        .next ((s1.modPond h (fun p => { p with beats := some (us.foldl Beats.notePrompt b') })).schedule h)

/-- BEAT_DONE's payload (R367), durations in units of 100 ns. -/
def beatDonePayload (h : Nat) (b : Beats) : Nat :=
  b.number % 2 ^ 48 + h * 2 ^ 48 + (b.start % 2 ^ 64) * 2 ^ 64
    + (b.lag / 100 % 2 ^ 32 + (b.budget / 100 % 2 ^ 32) * 2 ^ 32) * 2 ^ 128
    + (b.sumC % 2 ^ 32 + (b.sumM % 2 ^ 32) * 2 ^ 32) * 2 ^ 192
    + (b.tokens % 2 ^ 16 + (b.prefills % 2 ^ 16) * 2 ^ 16 + (b.left % 2 ^ 16) * 2 ^ 32) * 2 ^ 256

/-- BEAT_END (R335, R337, R330): no operation of the released steps is left; the next beat starts at the later of its
grid point and now, on the new grid where one was set. Log: 105 (DEDUCED). -/
def execBeatEnd (h : Nat) (s : State) : Out :=
  match s.mem.ponds.at? h with
  | none => .next s
  | some p => match p.beats with
    | none => .next s
    | some b =>
      let rel := (b.steps.filter (·.released)).map (·.id)
      if !b.running || s.work.ops.any (fun o => o.2.pond = h && o.2.step ≠ 0 && rel.contains o.2.step) then .next s
      else
        let s1 := if b.events then s.post (p.inst + 1) Event.beatDone (beatDonePayload h b) else s
        let left := b.steps.filter (fun t => !t.released)
        let n := (b.number + 1) % 2 ^ 48
        let b' := if b.stopping then none
          else match b.next with
            | some (period, c, f, t0, ev) => some { Beats.reset s.ns n period c f t0 ev left with prompts := b.prompts }
            | none => some { b with running := false, number := n, grid := b.grid + b.period, steps := left }
        .next ((s1.setBeats h p b' n).schedule h)

end Sys2Proof.Machine
end

