-- ==== Sys2Proof/Machine/Inst.lean ====
section
/-! DEFINITION. Instances: quiescing and resuming them, their caps, saving and restoring their device state, forced
reset, and errors of host-memory accesses made for them (15_instances). -/

namespace Sys2Proof.Machine

/-- The instance an instance descriptor names (R428). -/
def Op.inst (o : Op) : Nat := fld o.desc 0x20 0 9

/-- An instance descriptor that may take its effect: with the instance not enabled it ends with INST_STATE (R427). -/
def State.instOp (s : State) (op code : Nat) (body : Op → Nat → State → State) : State :=
  match s.go? op code with
  | none => s
  | some o =>
    if !(s.fnExists (o.inst + 1) && (s.fn (o.inst + 1)).enable) then s.decide op Status.instState 0
    else body o (o.inst + 1) s

/-- The state of a function changed. -/
def State.setInstState (s : State) (f : Nat) (st : InstState) : State := s.setFn f { s.fn f with state := st }

/-- INST_QUIESCE (R431 step 1, R433): fetching stops and the drain begins. -/
def execInstQuiesce (op : Nat) (s : State) : Out :=
  .next (s.instOp op 0x90 (fun o f s =>
    if (s.fn f).state ≠ .active then s.decide op Status.instState 0
    else
      ((s.setFn f { s.fn f with
          state := .quiescing, quiesceOp := op, quiesceCount := 0
          quiesceBy := s.ns + fld o.desc 0x24 0 32 * 1000 }).enqueue op).start op))

/-- QUIESCE_DRAINED (R431 step 4): no descriptor and no operation of the instance is left. -/
def execQuiesceDrained (inst : Nat) (s : State) : Out :=
  let f := inst + 1
  let F := s.fn f
  if F.state ≠ .quiescing || s.work.ops.any (fun p => p.2.fn = f) then .next s
  else
    let s1 := (s.setFn f { F with state := .quiesced, quiesceOp := 0 }).post f Event.quiesced (F.quiesceCount % 2 ^ 32)
    .next (s1.decide F.quiesceOp Status.success (F.quiesceCount % 2 ^ 32))

/-- Operations whose fate a sluice past PREPARED decides: its commit, and an abort forwarded to its coordinator.
Log: 51 (DEDUCED). -/
def State.heldBySluiceFate (s : State) (id : Nat) : Bool :=
  s.work.sluices.any (fun p => (p.2.state = .prepared || p.2.state = .committed)
    && (p.2.commitOp = id || p.2.abortOps.contains id))

/-- QUIESCE_TIMEOUT (R431 step 3): what remains is cancelled, and the sluices it belonged to abort.
Log: 51 (DEDUCED). -/
def execQuiesceTimeout (inst : Nat) (s : State) : Out :=
  let f := inst + 1
  let F := s.fn f
  if F.state ≠ .quiescing then .next s
  else
    let ids := s.liveOps (fun o => o.fn = f)
    let ids := ids.filter (fun i => !s.heldBySluiceFate i)
    let slus := (s.work.sluices.filter (fun p => ids.contains p.2.commitOp
      || ids.any (fun i => (s.op? i).any (fun o => o.sluice = p.1)))).map (·.1)
    let s1 := s.endOps ids Status.cancelled 0
    let s2 := slus.foldl (fun s k => s.abortSluice k Reason.quiesce 0xFFFF) s1
    .next ((s2.setFn f { s2.fn f with quiesceCount := F.quiesceCount + ids.length }).refreshBoard)

/-- INST_RESUME (R434): fetching starts again; `words` are the doorbell words of the instance's rings, in order. -/
def execInstResume (op : Nat) (words : List Nat) (s : State) : Out :=
  .next (s.instOp op 0x91 (fun _ f s =>
    if (s.fn f).state ≠ .quiesced then s.decide op Status.instState 0
    else
      let s1 := s.setFn f { s.fn f with state := .active, saved := false }
      (((s.fn f).sqs.zip words).foldl (fun s x => s.readDoorbell f x.1.1 x.2) s1).succeed op))

/-- INST_LIMITS (R429). -/
def execInstLimits (op : Nat) (s : State) : Out :=
  match s.go? op 0x92 with
  | none => .next s
  | some o =>
    let f := o.inst + 1
    .next ((s.setFn f { s.fn f with
      sluiceMax := fld o.desc 0x30 0 11, groupMax := fld o.desc 0x30 16 9
      opsMax := fld o.desc 0x34 0 13, slotMax := fld o.desc 0x34 16 7 }).succeed op)

/-- INST_NOTICE (R427): MANAGER_NOTICE is posted to the instance. -/
def execInstNotice (op : Nat) (s : State) : Out :=
  .next (s.instOp op 0x95 (fun o f s => (s.post f Event.managerNotice (fld o.desc 0x28 0 64)).succeed op))

/-- ISET_HELD (R430). -/
def State.instHeld (s : State) (f : Nat) : Nat :=
  s.sluicesOf f + (s.eng.groups.filter (fun p => p.2.fn = f)).length * 2 ^ 16

/-- GSET_ID (R351). -/
def gsetId : Nat := 0x117680

/-- Whether an image at a local offset lies wholly in placed plots of no pond (R428). Log: 49 (DEDUCED). -/
def State.imageOk (s : State) (at_ : Nat) : Bool :=
  [at_ / 0x20000000, (at_ + 0x23FFF) / 0x20000000].all (fun n =>
    n < 1536 && (s.mem.remap.at? n).any (fun p => p.owner = 0))

/-- A submission-queue record of an image (R444). -/
def sqRecord (q : SubmissionQueue) : List Byte :=
  leBytes 64 (1 + q.log2 * 2 ^ 8 + q.cq * 2 ^ 16 + q.version * 2 ^ 24 + q.ctx * 2 ^ 32 + q.head * 2 ^ 48
    + q.base * 2 ^ 64 + q.dbAddr * 2 ^ 128)

/-- A completion-queue record of an image (R444). -/
def cqRecord (q : CompletionQueue) : List Byte :=
  leBytes 64 (1 + q.log2 * 2 ^ 8 + b2n q.phase * 2 ^ 16 + q.irqMode * 2 ^ 24 + q.irqCount * 2 ^ 32 + q.irqDelay * 2 ^ 48
    + q.base * 2 ^ 64 + q.headAddr * 2 ^ 128 + q.next * 2 ^ 192)

/-- The event-queue record of an image (R444). -/
def eqRecord (q : EventQueue) : List Byte :=
  leBytes 64 (1 + q.log2 * 2 ^ 8 + b2n q.phase * 2 ^ 16 + q.seq * 2 ^ 32 + q.base * 2 ^ 64 + q.headAddr * 2 ^ 128
    + q.next * 2 ^ 192)

/-- A context state of an image (R444). -/
def ctxRecord (x : Ctx) : Nat := x.prio % 4 + b2n x.lost * 4 + b2n x.saved * 8

/-- The bytes of an instance image after its header (R444). Log: 48 (DEDUCED). -/
def State.imageBody (s : State) (f : Nat) : List Byte :=
  let F := s.fn f
  let z := List.replicate 64 0
  ((List.range 64).map (fun i => ((F.sqs.at? i).map sqRecord).getD z)).flatten
    ++ ((List.range 64).map (fun i => ((F.cqs.at? i).map cqRecord).getD z)).flatten
    ++ ((F.eq.map eqRecord).getD z ++ List.replicate 4032 0)
    ++ ((List.range 16384).map (fun i => leBytes 8 (((s.host.ctxs.at? (f * 16384 + i)).map ctxRecord).getD 0))).flatten

/-- ISET_APERTURE (R353). -/
def Fn.aperture (F : Fn) : Nat := F.apBase + b2n F.apEnable * 2 ^ 31

/-- The header of an instance image (R444). Log: 48 (DEDUCED). -/
def State.imageHeader (s : State) (f : Nat) (body : List Byte) : List Byte :=
  let F := s.fn f
  leBytes 4096 (1 + (f - 1) * 2 ^ 32 + gsetId * 2 ^ 64 + F.ctxBase * 2 ^ 128 + F.ctxCount * 2 ^ 192
    + (F.root.getD 0) * 2 ^ 256 + F.aperture * 2 ^ 320 + (F.ctxMax + F.sqMax * 2 ^ 16) * 2 ^ 384 + crc64 body * 2 ^ 448)

/-- A running context of the instance switched out of its pond's tiles (R443 step 1): its record read again (R380), its
images saved; `none` = an access to its save area stalls. -/
def State.saveRunning (s : State) (h : Nat) (p : Pond) (record : Nat) : Option State :=
  let c := p.running - 1
  let s1 := if (s.host.ctxs.at? c).any (·.lost) then some s
    else if !s.recordOk (c / 16384) record then some (s.recordFails c)
    else (s.loadRecord c record).saveTiles h p c
  s1.map (fun s => s.modPond h (fun p => { p with running := 0 }))

/-- Running contexts switched out one by one, each with its record. -/
def State.saveAllRunning (s : State) : List ((Nat × Pond) × Nat) → Option State
  | [] => some s
  | x :: l => (s.saveRunning x.1.1 x.1.2 x.2).bind (fun t => t.saveAllRunning l)

/-- Ponds whose running context is of function `f`. -/
def State.runningPonds (s : State) (f : Nat) : List (Nat × Pond) :=
  s.mem.ponds.filter (fun p => p.2.running ≠ 0 && (p.2.running - 1) / 16384 = f)

/-- The context whose save area is too small for its pond, if any (R443); `records` as for INST_SAVE. -/
def State.shortSave (s : State) (l : List ((Nat × Pond) × Nat)) : Option Nat :=
  (l.find? (fun x =>
    let c := x.1.2.running - 1
    !(s.host.ctxs.at? c).any (·.lost) && s.recordOk (c / 16384) x.2
      && fld x.2 0x10 0 64 < saveNeed x.1.2.binding.tilesM.length x.1.2.binding.tilesV.length)).map
    (fun x => (x.1.2.running - 1) % 16384)

/-- INST_SAVE (R443): `records` are the context records read again, one for each running context, by pond.
Log: 49 (DEDUCED), 50 (DEDUCED). -/
def execInstSave (op : Nat) (records : List Nat) (s : State) : Out :=
  .next (s.instOp op 0x93 (fun o f s =>
    let at_ := fld o.desc 0x28 0 43
    let run := s.runningPonds f
    let l := run.zip (records ++ List.replicate run.length 0)
    if (s.fn f).state ≠ .quiesced then s.decide op Status.instState 0
    else if s.instHeld f ≠ 0 then s.decide op Status.instNotIdle (s.instHeld f)
    else if !s.imageOk at_ then s.decide op Status.badForm 0x28
    else if run.any (fun p => p.2.switch.isSome) || s.stalls 0 at_ 0x24000 true then s
    else match s.shortSave l with
      | some c => s.decide op Status.saveAreaShort c
      | none =>
        match s.saveAllRunning l with
        | none => s
        | some s1 =>
          let body := s1.imageBody f
          let s2 := s1.landWrite 0 at_ (s1.imageHeader f body ++ body)
          (s2.setFn f { s2.fn f with saved := true }).succeed op))

/-- Whether an image's reserved bytes are zero and its header's version is 1 (R445). `h` = the header as a number. -/
def imageWell (h : Nat) (body : List Byte) : Bool :=
  let rec64 (i : Nat) : Nat := leNat ((body.drop (64 * i)).take 64)
  fld h 0 0 4 = 1 && fld h 0 4 28 = 0 && fld h 4 9 23 = 0 && fld h 0xC 0 32 = 0 && fld h 0x18 15 49 = 0
    && fld h 0x2C 0 32 = 0 && fld h 0x28 21 10 = 0 && fld h 0x30 15 1 = 0 && fld h 0x30 22 42 = 0
    && h / 2 ^ 512 = 0
    && (List.range 64).all (fun i => rec64 i / 2 ^ 192 = 0)
    && (List.range 64).all (fun i => rec64 (64 + i) / 2 ^ 256 = 0)
    && rec64 128 / 2 ^ 256 = 0 && ((body.drop (8192 + 64)).take 4032).all (· = 0)
    && (List.range 16384).all (fun i => leNat ((body.drop (0x3000 + 8 * i)).take 8) / 16 = 0)

/-- The pond of a restored context whose record is not read or fails its checks, until its slot load (R380): no handle.
Log: 50 (DEDUCED). -/
def noPond : Nat := 0x200

/-- The records of an image loaded into a function (R445 steps 1 to 6); `records` = the context records of its rings'
contexts, by ring, which name the ponds that R28 assigns the rings by. Log: 50 (DEDUCED). -/
def State.loadImage (s : State) (f h : Nat) (body : List Byte) (records : List Nat) : State :=
  let r (i : Nat) : Nat := leNat ((body.drop (64 * i)).take 64)
  let cqs : Tab CompletionQueue := ((List.range 64).filter (fun i => fld (r (64 + i)) 0 0 1 = 1)).map (fun i =>
    let e := r (64 + i)
    (i, { base := fld e 8 0 64, headAddr := fld e 0x10 0 64, log2 := fld e 1 0 8, irqMode := fld e 3 0 8
          irqCount := fld e 4 0 16, irqDelay := fld e 6 0 16, next := fld e 0x18 0 64, phase := fld e 2 0 1 = 1
          head := fld e 0x18 0 64, badRun := false, reserved := 0, stallSince := 0, stallPosted := false
          counted := 0, countedAt := 0 }))
  let e := r 128
  let eq : Option EventQueue := if fld e 0 0 1 = 0 then none else
    some { base := fld e 8 0 64, headAddr := fld e 0x10 0 64, log2 := fld e 1 0 8, next := fld e 0x18 0 64
           phase := fld e 2 0 1 = 1, seq := fld e 4 0 32, head := fld e 0x18 0 64, badRun := false, discarded := 0 }
  let ctxs := (List.range 16384).filterMap (fun i =>
    let w := leNat ((body.drop (0x3000 + 8 * i)).take 8)
    if w = 0 then none else some (f * 16384 + i, w))
  let used := (List.range 64).filter (fun i => fld (r i) 0 0 1 = 1)
  let ids := ((ctxs.map (·.1)) ++ used.map (fun i => f * 16384 + fld (r i) 4 0 16)).eraseDups
  let s1 := s.setFn f { s.fn f with
    ctxBase := fld h 0x10 0 64, ctxCount := fld h 0x18 0 15, ctxSet := true, cqs, eq
    apBase := fld h 0x28 0 21, apEnable := fld h 0x28 31 1 = 1
    root := if fld h 0x20 0 64 = 0 then none else some (fld h 0x20 0 64), state := .quiesced }
  let s2 := ids.foldl (fun s c =>
    let w := ((ctxs.find? (fun x => x.1 = c)).map (·.2)).getD 2
    let x : Ctx :=
        { pond := noPond, saveAddr := 0, saveSize := 0, evtAddr := 0, evtCount := 0, prio := bitsOf w 0 2
          lost := bitOf w 2, lossOp := 0, saved := bitOf w 3, waitSince := 0
          idleSince := s.ns + 1, readyAt := 0 }
    { s with host := { s.host with ctxs := s.host.ctxs.set c x } }) s1
  let s2 := (used.zip records).foldl (fun s x =>
    if s.recordOk f x.2 then s.loadRecord (f * 16384 + fld (r x.1) 4 0 16) x.2 else s) s2
  used.foldl (fun s i =>
    let e := r i
    let pond := ((s.host.ctxs.at? (f * 16384 + fld e 4 0 16)).map (·.pond)).getD noPond
    let s3 := s.takeLine f (fld e 0x10 0 64)
    let cached := (s3.host.lines.at? (fld e 0x10 0 64 / 64)).any (·.cached)
    s3.setSq f i
      { base := fld e 8 0 64, dbAddr := fld e 0x10 0 64, log2 := fld e 1 0 8, cq := fld e 2 0 8, ctx := fld e 4 0 16
        version := fld e 3 0 8, head := fld e 6 0 16, tail := fld e 6 0 16, stopped := false, destroying := false
        cluster := s.clusterFor pond, cached, stepLeft := 0, stepId := 0 }) s2

/-- INST_RESTORE (R445): `x.records` are the context records of its rings' contexts, by ring. Log: 49 (DEDUCED),
50 (DEDUCED). -/
def execInstRestore (x : RecordsFor) (s : State) : Out :=
  let op := x.op
  .next (s.instOp op 0x94 (fun o f s =>
    let at_ := fld o.desc 0x28 0 43
    let F := s.fn f
    if F.state ≠ .active || F.ctxSet || !F.sqs.isEmpty || !F.cqs.isEmpty || F.eq.isSome then
      s.decide op Status.instState 0
    else if !s.imageOk at_ then s.decide op Status.badForm 0x28
    else if s.stalls 0 at_ 0x24000 false then s
    else if s.poisonIn at_ 0x24000 then s.decide op Status.memoryError at_
    else
      let bs := s.readPub at_ 0x24000
      let h := leNat (bs.take 4096)
      let body := bs.drop 4096
      let root := fld h 0x20 0 64
      if !imageWell h body || fld h 0x38 0 64 ≠ crc64 body then s.decide op Status.badImage 0
      else if fld h 8 0 16 ≠ gsetId % 2 ^ 16 || fld h 8 20 4 ≠ bitsOf gsetId 20 4
          || F.ctxMax < fld h 0x30 0 15 || F.sqMax < fld h 0x30 16 6
          || (root ≠ 0 && !(root % 65536 = 0 && root < 2 ^ 43 && s.goodTable f (0xFFFF * 2 ^ 43 + root))) then
        s.decide op Status.imageMismatch 0
      else (s.loadImage f h body x.records).succeed op))

/-- The sluices of a function that is reset (R285): those before PREPARED abort and are freed, the others keep their
entries and complete nothing. -/
def State.settleSluices (s : State) (f : Nat) : State :=
  let early (e : Sluice) : Bool := e.fn = f && e.state ≠ .prepared && e.state ≠ .committed
  let s1 := (s.work.sluices.filter (fun p => early p.2)).foldl
    (fun s p => s.abortSluice p.1 Reason.instanceReset 0xFFFF) s
  { s1 with work := { s1.work with
      sluices := (s1.work.sluices.filter (fun p => !early p.2)).map (fun p =>
        if p.2.fn = f then (p.1, { p.2 with silent := true }) else p) } }

/-- Everything the engines, composers and caches hold for a function removed (R436 steps 2 and 3). -/
def State.dropWork (s : State) (f : Nat) : State :=
  let mine := (s.work.ops.filter (fun p => p.2.fn = f)).map (·.1)
  let s1 := mine.foldl (fun s i => s.redCancels i) s
  let ponds := s1.mem.ponds.map (fun (p : Nat × Pond) => (p.1, { p.2 with
    beats := p.2.beats.map (fun b => { b with
      steps := b.steps.filter (fun t => t.fn ≠ f), prompts := b.prompts.filter (fun t => t.fn ≠ f) }) }))
  let s2 := { s1 with
    work := { s1.work with ops := s1.work.ops.filter (fun p => p.2.fn ≠ f) }
    eng := { s1.eng with
      mills := s1.eng.mills.filter (fun p => !mine.contains p.1)
      runs := s1.eng.runs.filter (fun p => !mine.contains p.1)
      orphans := s1.eng.orphans.filter (fun x => x.fn ≠ f)
      groups := s1.eng.groups.filter (fun p => p.2.fn ≠ f)
      redHeld := s1.eng.redHeld.filter (fun x => x.fn ≠ f)
      redCrcs := s1.eng.redCrcs.filter (fun x => x.1 ≠ f) }
    host := { s1.host with lines := s1.host.lines.filter (fun p => p.2.fn ≠ f) }
    mem := { s1.mem with ponds } }
  s2.refreshBoard

/-- Re-binds and switches of the instance's ponds end (R306, R328). -/
def State.endMoves (s : State) (inst : Nat) : State :=
  (s.mem.ponds.filter (fun p => p.2.inst = inst)).foldl (fun s p =>
    let s1 := match p.2.rebind with
      | some r => s.decide r.op Status.instanceReset 0
      | none => s
    s1.modPond p.1 (fun q => { q with rebind := none, switch := none })) s

/-- Push subscriptions of a function end: their producers are told (R504). -/
def State.dropPushes (s : State) (f : Nat) : State :=
  (s.fab.pushIn.filter (fun p => p.2.fn = f)).foldl (fun s p =>
    ({ s with fab := { s.fab with pushIn := s.fab.pushIn.erase p.1 } }).send
      { kind := .pushCancel, dst := p.2.dev, mere := p.2.mere, id := p.1, args := [], data := [] }) s

/-- A function's registers after an instance reset (R375, R438): quotas and caps stay; the status of a command that ran
reads ABANDONED (R355). Log: 53 (DEDUCED). -/
def Fn.afterReset (F : Fn) : Fn :=
  { Fn.reset with
    cmdStatus := if F.busy then Cmd.abandoned else 0
    enable := F.enable, ctxMax := F.ctxMax, sqMax := F.sqMax, state := .resetting
    sluiceMax := F.sluiceMax, groupMax := F.groupMax, opsMax := F.opsMax, slotMax := F.slotMax, idleDue := true }

/-- A forced reset of an instance up to step 4 of R436. Log: 53 (DEDUCED). -/
def State.forcedReset (s : State) (inst : Nat) : State :=
  let f := inst + 1
  let F := s.fn f
  if F.state = .resetting then s
  else
    let s1 := s.setInstState f .resetting
    let s2 := (s1.decide F.quiesceOp Status.instanceReset 0).settleSluices f
    let s3 := ((s2.dropWork f).endMoves inst).dropPushes f
    (s3.dropXlat f (fun _ => true)).setFn f F.afterReset

/-- FORCED_INSTANCE_RESET (R436): a function-level reset of a virtual function. -/
def execForcedInstanceReset (inst : Nat) (s : State) : Out :=
  if s.fnExists (inst + 1) then .next (s.forcedReset inst) else .next s

/-- INSTANCE_RESET_DONE (R436 step 5, R440): contexts are dropped, tiles of a running context scrubbed, and the
instance leaves RESETTING. Log: 20 (DEDUCED). -/
def execInstanceResetDone (inst : Nat) (s : State) : Out :=
  let f := inst + 1
  let F := s.fn f
  if F.state ≠ .resetting then .next s
  else
    let mine := (s.host.slots.filter (fun p => p.2.ctx / 16384 = f)).map (·.1)
    let run := s.runningPonds f
    let s1 := mine.foldl (fun s k => s.dropSlotXlat k) s
    let s2 := { s1 with host := { s1.host with
      slots := s1.host.slots.filter (fun p => !mine.contains p.1)
      ctxs := s1.host.ctxs.filter (fun p => p.1 / 16384 ≠ f) } }
    let s3 := run.foldl (fun s p => (s.scrubTiles p.2.tiles).modPond p.1 (fun q => { q with running := 0 })) s2
    let st := if F.enable && s.fnExists f then InstState.active else InstState.disabled
    let s4 := (s3.setInstState f st).idleCheck f
    .next ((s4.mem.ponds.map (·.1)).foldl (fun s h => s.schedule h) s4)

/-- VF_ENABLE_CLEAR (R426): VF Enable and NumVFs are written; every instance that ceases to exist is reset, and one
that exists again follows its enable bit; the capability has 512 at most (R342, R425). Log: 20 (DEDUCED). -/
def execVfEnableClear (enable : Bool) (num : Nat) (s : State) : Out :=
  let num := min num 512
  let gone := (s.host.fns.filter (fun p => p.1 ≠ 0 && s.fnExists p.1 && !(enable && p.1 ≤ num))).map (·.1)
  let back := (s.host.fns.filter (fun p => p.1 ≠ 0 && !s.fnExists p.1 && enable && p.1 ≤ num && p.2.enable
    && p.2.state = .disabled)).map (·.1)
  let s1 := gone.foldl (fun s f => s.forcedReset (f - 1)) s
  let s2 := back.foldl (fun s f => s.setInstState f .active) s1
  .next { s2 with host := { s2.host with vfEnable := enable, numVfs := min num 512 } }

/-- HOST_ACCESS_ERROR (R441): an access to host memory for function `f` ends in error. Kind 0 = a descriptor fetch or
doorbell read of ring `target`; 1 = the record of context `target`; 2 = an operand or event read of operation
`target`; 3 = a write. Log: 52 (DEDUCED). -/
def execHostAccessError (f kind target : Nat) (s : State) : Out :=
  let s0 := { s with host := { s.host with aerNonFatal := s.host.aerNonFatal.set f (s.host.aerNonFatal.get 0 f + 1) } }
  match kind with
  | 0 => match (s.fn f).sqs.at? target with
    | none => .next s0
    | some q =>
      let (n, s1) := s0.takeFree
      .next (if q.stopped then s0 else
        (s1.setSq f target { q with stopped := true }).post f Event.queueError
          (queueErrorPayload target 0 (Config.freeNat n)))
  | 1 => if (s.host.ctxs.at? (f * 16384 + target)).isSome then .next (s0.recordFails (f * 16384 + target)) else .next s0
  | 2 => match s.op? target with
    | some o =>
      let (n, s1) := s0.takeFree
      if o.fn = f then .next (s1.decide target Status.hostAccessError (Config.freeNat n % 2 ^ 55)) else .next s0
    | none => .next s0
  | _ => .next s0

end Sys2Proof.Machine
end

