-- ==== Sys2Proof/Machine/Regs.lean ====
section
/-! DEFINITION. The register blocks: what a read of each register returns and what a write does, by its access code
(R9 to R12, R347 to R353 and the chapters' own tables). -/

namespace Sys2Proof.Machine

/-- Fields joined into a word: (first bit, value). -/
def word (fs : List (Nat × Nat)) : Nat := (fs.map (fun f => f.2 * 2 ^ f.1)).sum

/-- Code of a sub-link's state (R481). -/
def LinkState.code : LinkState → Nat
  | .dark => 0 | .training => 1 | .up => 2 | .retrain => 3 | .down => 4 | .sleep => 5 | .incompatible => 6 | .fenced => 7

/-- Code of the join's state (R516). -/
def JoinState.code : JoinState → Nat
  | .off => 0 | .training => 1 | .discovery => 2 | .linking => 3 | .awaitConfirm => 4 | .joined => 5 | .rejected => 6

/-- Code of an instance's state (R430). -/
def InstState.code : InstState → Nat
  | .disabled => 0 | .active => 1 | .quiescing => 2 | .quiesced => 3 | .resetting => 4

/-- GSET_RESET_CAUSE (R613, R614). -/
def State.resetCause (s : State) : Nat :=
  let b := s.boot
  word [(0, b.cause % 65536), (16, b.stage), (20, b2n b.ready), (21, b.mwSlot), (22, b2n b.fallback), (23, b2n b.bootFail)]

/-- GSET_HOST_STATUS (R350). -/
def State.hostStatus (s : State) : Nat :=
  let h := s.host
  word [(0, b2n (h.cxl ≠ 0)), (1, b2n (h.cxl = 2)), (2, b2n h.flit), (3, h.speed), (6, h.width), (11, s.dbcLines)]

/-- GSET_INST_CFG of the selected instance (R352). -/
def State.instCfg (s : State) : Nat :=
  let F := s.fn (s.host.instSel + 1)
  word [(0, b2n F.enable), (1, F.ctxMax), (16, F.sqMax)]

/-- GSET_LOFT_CFG of a die (R202, R203). -/
def State.loftCfg (s : State) (d : Nat) : Nat :=
  let w := s.mem.stageWritten.get 4 d
  word [(0, w), (4, b2n (w ≠ s.mem.stageWays.get 4 d)), (16, s.mem.remoteMask.get 0 d)]

/-- GSET_SLUICE_SPILL of a die (R266). -/
def State.spillCfg (s : State) (d : Nat) : Nat :=
  let w := s.mem.spillWritten.get (0, 0) d
  word [(0, w.1), (16, w.2), (21, b2n (w ≠ s.mem.spill.get (0, 0) d))]

/-- Registers at 0x0000 to 0x0FFF (R350). -/
def State.readGlobal (s : State) (o : Nat) : Nat :=
  if o = 0 then gsetId
  else if o = 4 then b2n s.host.setupLock
  else if o = 8 then s.hostStatus
  else if o = 0xC then s.resetCause
  else if o = 0x10 then s.host.instSel
  else if o = 0x14 then s.instCfg
  else if 0x100 ≤ o && o < 0x110 then s.loftCfg ((o - 0x100) / 4)
  else if 0x110 ≤ o && o < 0x120 then s.spillCfg ((o - 0x110) / 4)
  else 0

/-- Registers of the weir, by offset in its block (R462). -/
def State.readWeir (s : State) (o : Nat) : Nat :=
  let w := s.weir
  let c := (o - 0x200) / 16
  if o < 0x200 then (if o % 8 = 0 then w.base.get 0 (o / 8) else w.lim.get 0 (o / 8))
  else if o < 0x280 then
    if o % 16 = 0 then w.tgtOf c
    else if o % 16 = 4 then w.cap.get 0 c
    else if o % 16 = 8 then w.stat.get 0 c
    else w.missCnt.get 0 c
  else if o = 0x300 then word [(0, w.windowUs), (10, w.defaultClass), (16, w.busyLevel)]
  else if o = 0x310 then w.pondSel
  else if o = 0x314 then match s.weirPond w.pondSel with
    | some p => word [(0, p.budget), (16, b2n p.auto), (17, b2n p.push)]
    | none => 0
  else if o = 0x318 then match s.weirPond w.pondSel with
    | some p => word [(0, p.peak % 65536), (16, p.beyond), (20, p.under)]
    | none => 0
  else 0

/-- GSET_PWR_ISL_STATUS (R536). Log: 68 (DEDUCED). -/
def State.islStatus (s : State) : Nat :=
  let n := s.pwr.islSel
  let i := s.island n
  let v := if s.fenced 1 n then 0x7F else (i.out s.ns - 550000) / 5000
  word [(0, v), (7, b2n i.settled), (8, s.divNow n), (13, b2n i.raise), (14, b2n i.cmdBad), (16, i.target), (24, i.doneTag)]

/-- The hottest island: (tile, temperature) (R536). -/
def State.hottest (s : State) (ts : List Nat) : Nat × Int :=
  ts.foldl (fun b n => if b.2 < signedOf 11 (s.island n).temp then (n, signedOf 11 (s.island n).temp) else b)
    (ts.headD 0, signedOf 11 (s.island (ts.headD 0)).temp)

/-- GSET_THERM_STAT (R536). -/
def State.thermStat (s : State) : Nat :=
  let h := s.hottest (List.range 512)
  word [(0, unsignedOf 11 h.2), (12, h.1), (21, b2n (s.pwr.islands.any (fun p => p.2.steps ≠ 0))), (22, b2n s.pwr.trip),
        (23, b2n s.pwr.hbmTrip), (24, (s.pwr.hbmTemps.map (·.2)).foldl max 0)]

/-- Registers of the power block (R536). Log: 68 (DEDUCED). -/
def State.readPower (s : State) (o : Nat) : Nat :=
  let p := s.pwr
  let x := s.sail ((o - 0x100) / 16)
  if o = 0 then p.islSel
  else if o = 8 then s.islStatus
  else if o = 0xC then word [(0, (s.island p.islSel).temp), (11, (s.island p.islSel).steps)]
  else if 0x100 ≤ o && o < 0x140 then
    if o % 16 = 0 then word [(0, x.slopeUp), (8, x.slopeDown), (16, b2n x.spinEn)]
    else if o % 16 = 4 then word [(0, x.iCap), (16, x.gain), (24, x.furlMax)]
    else if o % 16 = 8 then
      word [(0, x.now / 1000 % 1024), (16, x.duty % 256), (24, b2n (!x.spin.isEmpty)), (25, b2n (p.forced || p.trip))]
    else 0
  else if o = 0x200 then word [(0, p.pLong), (16, p.pShort)]
  else if o = 0x204 then p.tauMs
  else if o = 0x208 then word [(0, p.pNow), (16, p.pAvg)]
  else if o = 0x210 then word [(0, b2n p.croakPin), (1, b2n p.forced), (16, p.croaks)]
  else if o = 0x300 then word [(0, p.tThrottle), (8, p.tTrip), (16, p.hyst)]
  else if o = 0x304 then s.thermStat
  else if o = 0x308 then p.droopMv
  else if 0x400 ≤ o && o < 0x440 then (getAt 0 (s.sail ((o - 0x400) / 16)).counts (o / 4 % 4)).toNat
  else 0

/-- Sequence number of the last record (R559). Log: 73 (DESIGN CHOICE). -/
def State.lastSeq (s : State) : Nat := if s.tally.hash.isEmpty then 0 else (s.tally.seq + 2 ^ 64 - 1) % 2 ^ 64

/-- Registers of the Tally (R559). -/
def State.readTally (s : State) (o : Nat) : Nat :=
  let t := s.tally
  if o = 0 then word [(0, b2n t.enable), (1, t.periodMs), (11, t.ckptMs)]
  else if o = 4 then t.log2
  else if o = 8 then t.baseLo.toNat
  else if o = 0xC then t.baseHi.toNat
  else if o = 0x10 then t.cbLo.toNat
  else if o = 0x14 then t.cbHi.toNat
  else if o = 0x18 then word [(0, b2n t.signing), (1, b2n t.coef.builtin), (16, t.backlog.length)]
  else if o = 0x1C then t.coef.version
  else if o = 0x20 then s.lastSeq % 2 ^ 32
  else if o = 0x24 then s.lastSeq / 2 ^ 32
  else if 0x100 ≤ o && o < 0x110 then (getAt 0 t.counts ((o - 0x100) / 4)).toNat
  else 0

/-- The VCO source and divider of a clock domain (R593, R608). -/
def State.domClock (s : State) (n : Nat) : Nat × Nat :=
  if n < 512 then (0, s.divNow n)
  else if 568 ≤ n && n < 580 then (1, 6)
  else if n = 589 then (3, 18)
  else if n = 590 then (if s.clk.src = 0 then (4, 144) else if s.clk.src = 1 then (5, 0) else (6, 0))
  else (2, 12)

/-- The die whose reset or fence gates a domain, if it lies on a Z-die. Log: 91 (DEDUCED). -/
def zDieOf (n : Nat) : Option Nat :=
  if n < 512 then some (dieOfTile n)
  else if n < 528 then some ((n - 512) / 4)
  else if n < 552 then some ((n - 528) / 6)
  else if 568 ≤ n && n < 576 then some ((n - 568) / 2)
  else if 576 ≤ n && n < 584 then some (n % 4)
  else none

/-- Whether a domain's clock is gated (R594): its unit is fenced, its die is held in reset during boot, or in
brumation. Log: 91 (DEDUCED). -/
def State.gated (s : State) (n : Nat) : Bool :=
  let unit :=
    if n < 512 then s.fenced 1 n
    else if n < 528 then s.fenced 6 (n - 512)
    else if 552 ≤ n && n < 568 then s.fenced 9 (n - 552)
    else if 568 ≤ n && n < 576 then
      let k := 2 * (n % 2)
      [k, k + 1].all (fun p => s.fenced 3 (seamOfPort ((n - 568) / 2) p))
    else false
  let die := (zDieOf n).any (fun d => s.fenced 10 d || s.boot.stage < 6)
  unit || die || (s.clk.asleep && n ≠ 588 && n ≠ 590 && !(552 ≤ n && n < 568))

/-- Registers of the clock block (R608). -/
def State.readClock (s : State) (o : Nat) : Nat :=
  let c := s.clk
  if o = 0 then word [(0, b2n c.rootLocked), (1, b2n c.refPresent)]
  else if o = 0x10 then s.ns % 2 ^ 32
  else if o = 0x14 then c.latch.toNat
  else if o = 0x20 then word [(0, c.src), (2, b2n c.uncertain), (3, b2n c.setBad), (16, c.jumps)]
  else if o = 0x24 then unsignedOf 32 (if s.fab.timeRoot then 0 else c.offset)
  else if o = 0x40 then word [(0, b2n c.brumEnable), (16, c.idleS)]
  else if o = 0x44 then word [(0, c.entryStep), (3, c.lastAbort), (6, c.lastSrc)]
  else if o = 0x48 then c.wordLo.toNat
  else if o = 0x4C then c.wordHi.toNat
  else if o = 0x80 then c.domSel
  else if o = 0x84 then
    if 591 ≤ c.domSel then 0
    else
      let d := s.domClock c.domSel
      word [(0, d.1), (8, d.2), (16, b2n (s.gated c.domSel)), (17, b2n (c.stretching.contains c.domSel))]
  else 0

/-- Counters of translation (R424). -/
def State.readXlat (s : State) (o : Nat) : Nat :=
  if o < 0x10 then (s.xlat.walks.get 0 (o / 4)).toNat
  else if o < 0x20 then (s.xlat.faults.get 0 ((o - 0x10) / 4)).toNat
  else 0

/-- Registers of the leat ports (R481, R482). -/
def State.readLeat (s : State) (o : Nat) : Nat :=
  let l := s.subLink (o / 4 % 64)
  if o = 0 then word [(0, s.fab.genMax), (4, s.fab.holdMs), (16, s.fab.fenceAfter)]
  else if 0x100 ≤ o && o < 0x200 then
    word [(0, l.state.code), (4, l.gen), (8, l.txLanes), (16, l.rxLanes), (24, b2n l.light), (25, b2n l.fec)]
  else if 0x200 ≤ o && o < 0x300 then l.genCap
  else if 0x400 ≤ o && o < 0xC00 then
    (getAt 0 (s.subLink ((o - 0x400) / 32)).counts (o / 4 % 8)).toNat
  else 0

/-- Registers of the meres (R516). -/
def State.readMere (s : State) (o : Nat) : Nat :=
  let f := s.fab
  if o = 0 then word [(0, f.member), (8, f.group.getD 0), (16, b2n f.confirmed)]
  else if o = 4 then word [(0, b2n f.routeMode), (1, b2n f.anchor), (2, b2n f.leaderOk), (16, f.unreachMs)]
  else if o = 8 then
    word [(0, f.join.code), (3, f.cause), (6, b2n f.leader), (7, b2n f.timeRoot), (8, f.leaderMember), (16, f.dM % 256), (24, f.dG % 128)]
  else if o = 0x10 then f.areaLo
  else if o = 0x14 then f.areaHi
  else if 0x100 ≤ o && o < 0x300 then f.routeGrp.get 0 ((o - 0x100) / 4)
  else if 0x300 ≤ o && o < 0x700 then f.routeMbr.get 0 ((o - 0x300) / 4)
  else if 0x800 ≤ o && o < 0xA00 then bitsOf (f.routeSet.get 0 ((o - 0x800) / 8)) (32 * (o / 4 % 2)) 32
  else 0

/-- Registers of the error block (R648). -/
def State.readErr (s : State) (o : Nat) : Nat :=
  let r := s.ras
  let b := s.bucket r.selClass r.selUnit
  let real := r.selUnit < unitLimit r.selClass
  if o = 0 then word [(0, b2n r.fatal), (1, r.fatalCode), (16, r.flashFences.length)]
  else if o = 4 then word [(0, r.selClass), (4, r.selUnit)]
  else if o = 8 then (if real then b.corrected.toNat else 0)
  else if o = 0xC then (if real then b.uncorrectable.toNat else 0)
  else if o = 0x10 then (if real then b.poisoned.toNat else 0)
  else if o = 0x14 then (if real then word [(0, b.level), (8, b2n (s.fenced r.selClass r.selUnit))] else 0)
  else if o = 0x18 then r.poisons.toNat
  else if o = 0x20 then word [(0, r.scrubHours), (8, r.scrubLoft)]
  else if 0x104 ≤ o && o < 0x120 then
    let t := s.threshold ((o - 0x100) / 4)
    word [(0, t.1), (8, t.2)]
  else 0

/-- A GSET register (R350), at an aligned offset. -/
def State.gset (s : State) (off : Nat) : Nat :=
  let o := off % 0x1000
  match off / 0x1000 with
  | 0 => s.readGlobal o
  | 1 => s.readWeir o
  | 2 => s.readPower o
  | 3 => s.readTally o
  | 4 => s.readClock o
  | 5 => s.readXlat o
  | 6 => s.readLeat o
  | 7 => s.readMere o
  | 8 => s.readErr o
  | _ => 0

/-- An ISET register of a function (R353, R430). Until boot is complete every function reads busy (R614). -/
def State.iset (s : State) (f o : Nat) : Nat :=
  let F := s.fn f
  if o = 0 then (if f = 0 then 2 ^ 31 else f - 1)
  else if o = 0x14 then word [(0, b2n (F.busy || !s.boot.ready)), (1, b2n F.overrun), (8, F.cmdStatus)]
  else if o = 0x18 then word [(0, F.resVersion), (4, b2n F.resDbMode)]
  else if 0x40 ≤ o && o < 0x80 then F.arg ((o - 0x40) / 4)
  else if o = 0x80 then F.aperture
  else if 0x100 ≤ o && o < 0x200 then match F.sqs.at? ((o - 0x100) / 4) with
    | some q => word [(0, q.head), (16, 1)]
    | none => 0
  else if o = 0x200 then
    if f = 0 then 1 else word [(0, F.state.code), (3, b2n F.bitmap.isSome), (4, b2n F.saved)]
  else if o = 0x204 then (if f = 0 then 0 else s.instHeld f)
  else if o = 0x208 then (if f = 0 then 0 else s.inExecOf f)
  else 0

/-- The MSI-X table and pending bits of a function, by offset from the table (R347, R373). Log: 21 (PRESUMED). -/
def State.msixWord (s : State) (f o : Nat) : Nat :=
  let v (i : Nat) : MsixVector := (s.fn f).msix.get { addr := 0, data := 0, masked := true, pending := false } i
  if o < 0x410 then
    let x := v (o / 16)
    if o % 16 = 0 then x.addr % 2 ^ 32
    else if o % 16 = 4 then x.addr / 2 ^ 32
    else if o % 16 = 8 then x.data
    else b2n x.masked
  else if 0x1000 ≤ o && o < 0x100C then
    ((List.range 32).map (fun i => b2n (v (32 * ((o - 0x1000) / 4) + i)).pending * 2 ^ i)).sum
  else 0

/-- What GSET reads while boot runs (R614): the reset values, those of registers that a reset keeps as they are now, and
the reset cause. Log: 89 (DEDUCED). -/
def State.bootView (s : State) : State := { s.deviceReset 0 with boot := s.boot }

/-- An aligned 4-byte read of a function's BAR0 (R347, R348, R614, R621). In recovery mode only the reset cause reads other
than zero. Log: 89 (DEDUCED). -/
def State.bar0 (s : State) (f off : Nat) : Nat :=
  if s.boot.bootFail then (if f = 0 && off = 0xC then s.resetCause else 0)
  else if f = 0 then
    if off < 0x10000 then (if s.boot.ready then s else s.bootView).gset off
    else if off < 0x20000 then s.iset 0 (off - 0x10000)
    else s.msixWord 0 (off - 0x20000)
  else if off < 0x10000 then s.iset f off
  else s.msixWord f (off - 0x10000)

/-- SETUP_LOCK_WRITE (R351): GSET_CTL is written. Once set, the lock stays. -/
def State.writeLock (s : State) (value : Nat) : State :=
  { s with host := { s.host with setupLock := s.host.setupLock || bitOf value 0 } }

/-- Whether a function holds a ring (R352). -/
def Fn.holdsRing (F : Fn) : Bool := F.eq.isSome || !F.cqs.isEmpty || !F.sqs.isEmpty

/-- GSET_INST_CFG written for the selected instance (R352, R430): discarded where the quotas would not fit, or would change
under an instance that holds a ring. Log: 20 (DEDUCED). -/
def State.writeInstCfg (s : State) (value : Nat) : State :=
  let f := s.host.instSel + 1
  let F := s.fn f
  let en := bitOf value 0
  let ctx := if s.host.setupLock then F.ctxMax else bitsOf value 1 15
  let sq := if s.host.setupLock then F.sqMax else bitsOf value 16 7
  let others := ((s.host.fns.filter (fun p => p.1 ≠ 0 && p.1 ≠ f)).map (fun p => p.2.ctxMax)).sum
  if 16128 < others + ctx || 64 < sq then s
  else if F.holdsRing && (ctx ≠ F.ctxMax || sq ≠ F.sqMax || !en) then s
  else
    let st := if F.state = .resetting then F.state
              else if !en then .disabled
              else if F.state = .disabled then .active else F.state
    s.setFn f { F with enable := en, ctxMax := ctx, sqMax := sq, state := st }

/-- GSET_LOFT_CFG of a die written (R202, R203). -/
def State.writeLoftCfg (s : State) (d value : Nat) : State :=
  if s.host.setupLock || 4 ≤ d then s
  else
    let w := bitsOf value 0 4
    { s with mem := { s.mem with
        stageWritten := if w ≤ 8 then s.mem.stageWritten.set d w else s.mem.stageWritten
        remoteMask := s.mem.remoteMask.set d (bitsOf value 16 16) } }

/-- GSET_SLUICE_SPILL of a die written (R266). -/
def State.writeSpill (s : State) (d value : Nat) : State :=
  let p := bitsOf value 0 11
  let n := bitsOf value 16 5
  let others := (([0, 1, 2, 3].filter (· ≠ d)).map (fun k => (s.mem.spillWritten.get (0, 0) k).2)).sum
  if s.host.setupLock || 4 ≤ d || 1536 < p + n || 16 < others + n then s
  else { s with mem := { s.mem with spillWritten := s.mem.spillWritten.set d (p, n) } }

/-- The state an outcome leads to. -/
def ranTo (s : State) (o : Out) : State :=
  match o with
  | .next t => t
  | _ => s

/-- A write to a register at 0x0000 to 0x0FFF (R350). -/
def State.writeGlobal (s : State) (o v : Nat) : State :=
  if o = 4 then s.writeLock v
  else if o = 0x10 then { s with host := { s.host with instSel := bitsOf v 0 9 } }
  else if o = 0x14 then s.writeInstCfg v
  else if 0x100 ≤ o && o < 0x110 then s.writeLoftCfg ((o - 0x100) / 4) v
  else if 0x110 ≤ o && o < 0x120 then s.writeSpill ((o - 0x110) / 4) v
  else s

/-- A write to a register of the weir (R456, R462). Log: 90 (DEDUCED). -/
def State.writeWeir (s : State) (o v : Nat) : State :=
  let c := (o - 0x200) / 16
  if o < 0x200 then
    if o % 8 = 0 then s.setWeir (fun w => { w with base := w.base.set (o / 8) (bitsOf v 0 27) })
    else s.setWeir (fun w => { w with lim := w.lim.set (o / 8) (bitsOf v 0 30 + b2n (bitOf v 31) * 2 ^ 31) })
  else if o < 0x280 then
    if o % 16 = 0 then s.setWeir (fun w => { w with tgt := w.tgt.set c (bitsOf v 0 23) })
    else if o % 16 = 4 then
      s.setWeir (fun w =>
        let lines := if bitsOf v 0 9 ≤ 500 then bitsOf v 0 9 else bitsOf (w.cap.get 0 c) 0 9
        { w with cap := w.cap.set c (word [(0, lines), (16, bitsOf v 16 16)]) })
    else s
  else if o = 0x300 then
    s.setWeir (fun w => { w with
      windowUs := if 1 ≤ bitsOf v 0 10 && bitsOf v 0 10 ≤ 1000 then bitsOf v 0 10 else w.windowUs
      defaultClass := bitsOf v 10 3
      busyLevel := if bitsOf v 16 7 = 0 then w.busyLevel else bitsOf v 16 7 })
  else if o = 0x310 then s.setWeir (fun w => { w with pondSel := bitsOf v 0 9 })
  else if o = 0x314 then ranTo s (execWeirPondCfgWrite v s)
  else s

/-- A field between bounds, or its old value. Log: 90 (DEDUCED). -/
def within (lo hi old v : Nat) : Nat := if lo ≤ v && v ≤ hi then v else old

/-- Two fields of one write that bound each other, `low` at most `high`: a write that breaks the bound is discarded; a
`high` that its own limit refuses keeps its value (R536). `gap` = 1 where they must differ. Log: 90 (DEDUCED). -/
def ordered (gap limit low high oldLow oldHigh : Nat) : Nat × Nat :=
  if limit < high then (if low + gap ≤ oldHigh then (low, oldHigh) else (oldLow, oldHigh))
  else if low + gap ≤ high then (low, high)
  else (oldLow, oldHigh)

/-- A write to a register of the power block (R521, R536). Log: 90 (DEDUCED). -/
def State.writePower (s : State) (o v : Nat) : State :=
  let d := (o - 0x100) / 16
  let lock := s.host.setupLock
  if o = 0 then s.setPwr (fun p => { p with islSel := bitsOf v 0 9 })
  else if o = 4 then ranTo s (execVoltageCommand v s)
  else if o = 8 then
    if bitOf v 14 then s.modIsland s.pwr.islSel (fun i => { i with cmdBad := false }) else s
  else if 0x100 ≤ o && o < 0x140 then
    if o % 16 = 0 then
      s.modSail d (fun x => { x with
        slopeUp := if lock || bitsOf v 0 8 = 0 then x.slopeUp else bitsOf v 0 8
        slopeDown := if lock || bitsOf v 8 8 = 0 then x.slopeDown else bitsOf v 8 8
        spinEn := bitOf v 16 })
    else if o % 16 = 4 then
      s.modSail d (fun x => { x with
        iCap := within 50 1023 x.iCap (bitsOf v 0 10)
        gain := within 1 63 x.gain (bitsOf v 16 6)
        furlMax := bitsOf v 24 8 })
    else s
  else if o = 0x200 then
    let x := ordered 0 5400 (bitsOf v 0 13) (bitsOf v 16 13) s.pwr.pLong s.pwr.pShort
    s.setPwr (fun p => { p with pLong := x.1, pShort := x.2 })
  else if o = 0x204 then s.setPwr (fun p => { p with tauMs := within 1 1000 p.tauMs (bitsOf v 0 10) })
  else if o = 0x300 then
    let x := ordered 1 115 (bitsOf v 0 8) (bitsOf v 8 8) s.pwr.tThrottle s.pwr.tTrip
    s.setPwr (fun p => { p with
      tThrottle := if lock then p.tThrottle else x.1
      tTrip := if lock then p.tTrip else x.2
      hyst := within 1 15 p.hyst (bitsOf v 16 4) })
  else if o = 0x308 then s.setPwr (fun p => { p with droopMv := within 10 60 p.droopMv (bitsOf v 0 6) })
  else s

/-- A write to a register of the Tally (R559). -/
def State.writeTally (s : State) (o v : Nat) : State :=
  let free := !s.host.setupLock && !s.tally.enable
  let w := BitVec.ofNat 32 v
  if o = 0 then ranTo s (execTallyEnableWrite v s)
  else if !free then s
  else if o = 4 then s.setTally (fun t => { t with log2 := within 8 20 t.log2 (bitsOf v 0 5) })
  else if o = 8 then s.setTally (fun t => { t with baseLo := w &&& 0xFFFFF000#32 })
  else if o = 0xC then s.setTally (fun t => { t with baseHi := w })
  else if o = 0x10 then s.setTally (fun t => { t with cbLo := w &&& 0xFFFFFFF0#32 })
  else if o = 0x14 then s.setTally (fun t => { t with cbHi := w })
  else s

/-- A write to a register of the clock block (R599, R608). -/
def State.writeClock (s : State) (o v : Nat) : State :=
  let w := BitVec.ofNat 32 v
  if o = 0x18 then s.setClk (fun c => { c with setLo := w })
  else if o = 0x1C then ranTo s (execTimeSet v s)
  else if o = 0x20 then (if bitOf v 3 then s.setClk (fun c => { c with setBad := false }) else s)
  else if o = 0x40 then
    (ranTo s (execBrumEnableWrite (bitOf v 0) s)).setClk (fun c => { c with idleS := within 1 3600 c.idleS (bitsOf v 16 12) })
  else if o = 0x48 then s.setClk (fun c => { c with wordLo := w &&& 0xFFFFFFF8#32 })
  else if o = 0x4C then s.setClk (fun c => { c with wordHi := w })
  else if o = 0x50 then ranTo s (execBrumWakeWrite (bitsOf v 0 16) s)
  else if o = 0x80 then s.setClk (fun c => { c with domSel := bitsOf v 0 10 })
  else s

/-- A change of gen_max starts the sub-links that found no common generation again (R472). -/
def State.retryIncompatible (s : State) : State :=
  ((List.range 64).filter (fun n => (s.subLink n).state = .incompatible)).foldl (fun s n => s.startTraining n) s

/-- A write to a register of the leat ports (R481). -/
def State.writeLeat (s : State) (o v : Nat) : State :=
  if o = 0 then
    let g := if s.host.setupLock then s.fab.genMax else within 1 3 s.fab.genMax (bitsOf v 0 3)
    let s1 := s.setFab (fun f => { f with
      genMax := g, holdMs := within 1 1000 f.holdMs (bitsOf v 4 10), fenceAfter := within 1 15 f.fenceAfter (bitsOf v 16 4) })
    if g = s.fab.genMax then s1 else s1.retryIncompatible
  else if 0x200 ≤ o && o < 0x300 then
    let n := (o - 0x200) / 4
    let s1 := ranTo s (execGenCapWrite n (bitsOf v 0 3) s)
    if bitOf v 3 then ranTo s1 (execLeatRetrainWrite n s1) else s1
  else s

/-- A write to a register of the meres (R497, R516). -/
def State.writeMere (s : State) (o v : Nat) : State :=
  let lock := s.host.setupLock
  if o = 4 then
    s.setFab (fun f => { f with
      routeMode := if lock then f.routeMode else bitOf v 0
      anchor := if lock then f.anchor else bitOf v 1
      leaderOk := if lock then f.leaderOk else bitOf v 2
      unreachMs := within 10 1000 f.unreachMs (bitsOf v 16 10) })
  else if o = 0x10 then (if lock then s else s.setFab (fun f => { f with areaLo := bitsOf v 20 12 * 2 ^ 20 }))
  else if o = 0x14 then
    if lock then s else s.setFab (fun f => { f with areaHi := bitsOf v 0 11 + b2n (bitOf v 31) * 2 ^ 31 })
  else if 0x100 ≤ o && o < 0x300 then ranTo s (execRouteTableWrite 0 ((o - 0x100) / 4) v s)
  else if 0x300 ≤ o && o < 0x700 then ranTo s (execRouteTableWrite 1 ((o - 0x300) / 4) v s)
  else if 0x800 ≤ o && o < 0xA00 then ranTo s (execRouteTableWrite (2 + o / 4 % 2) ((o - 0x800) / 8) v s)
  else s

/-- A write to a register of the error block (R648). Log: 90 (DEDUCED). -/
def State.writeErr (s : State) (o v : Nat) : State :=
  let setRas (f : RasPart → RasPart) : State := { s with ras := f s.ras }
  if o = 4 then setRas (fun r => { r with selClass := bitsOf v 0 4, selUnit := bitsOf v 4 16 })
  else if s.host.setupLock then s
  else if o = 0x20 then setRas (fun r => { r with
      scrubHours := within 0 168 r.scrubHours (bitsOf v 0 8), scrubLoft := within 0 1440 r.scrubLoft (bitsOf v 8 16) })
  else if 0x104 ≤ o && o < 0x120 then
    let c := (o - 0x100) / 4
    let leak := if bitsOf v 8 16 = 0 then (s.threshold c).2 else bitsOf v 8 16
    setRas (fun r => { r with thresholds := r.thresholds.set c (bitsOf v 0 8, leak) })
  else s

/-- A write to a GSET register (R350), at an aligned offset. -/
def State.writeGset (s : State) (off v : Nat) : State :=
  let o := off % 0x1000
  match off / 0x1000 with
  | 0 => s.writeGlobal o v
  | 1 => s.writeWeir o v
  | 2 => s.writePower o v
  | 3 => s.writeTally o v
  | 4 => s.writeClock o v
  | 6 => s.writeLeat o v
  | 7 => s.writeMere o v
  | 8 => s.writeErr o v
  | _ => s

/-- A write to ISET_CMD (R354, R355): a set-up command starts. `record` = the context record a CREATE_SQ reads. -/
def State.writeCmd (s : State) (f op record : Nat) : State :=
  match op with
  | 1 => s.setCtxTable f
  | 2 => s.createEq f
  | 3 => s.destroyEq f
  | 4 => s.createCq f
  | 5 => s.destroyCq f
  | 6 => s.createSq f record
  | 7 => s.destroySq f
  | _ => s.cmdWith f [(true, Cmd.badForm)] (fun s => s)

/-- A write to an ISET register (R353). -/
def State.writeIset (s : State) (f o v record : Nat) : State :=
  let F := s.fn f
  if o = 0x10 then s.writeCmd f (bitsOf v 0 8) record
  else if o = 0x14 then (if bitOf v 1 then s.setFn f { F with overrun := false } else s)
  else if 0x40 ≤ o && o < 0x80 then s.setFn f { F with args := F.args.set ((o - 0x40) / 4) (v % 2 ^ 32) }
  else if o = 0x80 then s.setFn f { F with apBase := bitsOf v 0 21, apEnable := bitOf v 31 }
  else s

/-- A write to the MSI-X table (R373): an interrupt that was pending is sent when its vector is unmasked.
Log: 21 (PRESUMED). -/
def State.writeMsix (s : State) (f o v : Nat) : State :=
  let F := s.fn f
  let i := o / 16
  let x := F.msix.get { addr := 0, data := 0, masked := true, pending := false } i
  let put (x : MsixVector) : State := s.setFn f { F with msix := F.msix.set i x }
  if 0x410 ≤ o then s
  else if o % 16 = 0 then put { x with addr := setBits x.addr 0 32 (v / 4 * 4) }
  else if o % 16 = 4 then put { x with addr := setBits x.addr 32 32 v }
  else if o % 16 = 8 then put { x with data := v % 2 ^ 32 }
  else if x.pending && !bitOf v 0 then (put { x with masked := false, pending := false }).sendMsi f i
  else put { x with masked := bitOf v 0 }

/-- An aligned 4-byte write of a function's BAR0 (R347, R348). -/
def State.writeBar0 (s : State) (f off v record : Nat) : State :=
  if f = 0 then
    if off < 0x10000 then s.writeGset off v
    else if off < 0x20000 then s.writeIset 0 (off - 0x10000) v record
    else s.writeMsix 0 (off - 0x20000) v
  else if off < 0x10000 then s.writeIset f off v record
  else s.writeMsix f (off - 0x10000) v

/-- Whether the registers of a function can be written: the link is up, the device awake, and boot has not failed
(R621). Log: 89 (DEDUCED), 100 (DESIGN CHOICE). -/
def State.regsUp (s : State) (f : Nat) : Bool :=
  s.linked && !s.clk.asleep && !s.boot.bootFail && s.fnExists f

/-- REGISTER_WRITE (R9, R348): `data` written at an offset of a function's BAR0: 4 bytes, or 8 as two writes; any other size
or alignment is discarded. `record` = the context record a CREATE_SQ then reads. Log: 100 (DESIGN CHOICE). -/
def execRegisterWrite (fn off : Nat) (data : List Byte) (record : Nat) (s : State) : Out :=
  if !s.regsUp fn || (if fn = 0 then 0x40000 else 0x20000) ≤ off then .next s
  else if data.length = 4 && off % 4 = 0 then .next (s.writeBar0 fn off (leNat data) record)
  else if data.length = 8 && off % 8 = 0 then
    .next ((s.writeBar0 fn off (leNat (data.take 4)) record).writeBar0 fn (off + 4) (leNat (data.drop 4)) record)
  else .next s

/-- SETUP_LOCK_WRITE (R351). -/
def execSetupLockWrite (value : Nat) (s : State) : Out := if s.regsUp 0 then .next (s.writeLock value) else .next s

/-- INST_CFG_WRITE (R352). -/
def execInstCfgWrite (value : Nat) (s : State) : Out := if s.regsUp 0 then .next (s.writeInstCfg value) else .next s

/-- STAGE_WAYS_WRITE (R203): GSET_LOFT_CFG of a die. -/
def execStageWaysWrite (die value : Nat) (s : State) : Out :=
  if s.regsUp 0 then .next (s.writeLoftCfg die value) else .next s

/-- SPILL_REGION_WRITE (R266): GSET_SLUICE_SPILL of a die. -/
def execSpillRegionWrite (die value : Nat) (s : State) : Out :=
  if s.regsUp 0 then .next (s.writeSpill die value) else .next s

end Sys2Proof.Machine
end

