-- ==== Sys2Proof/Machine/Mgmt.lean ====
section
/-! DEFINITION. Management messages, firmware update and the Millwright's resets (R621, R624 to R633). -/

namespace Sys2Proof.Machine

/-- Numbers under which responses are kept: vendor-defined messages by their code (R628), SPDM by its code, and those of
MCTP control and PLDM apart. Log: 82 (DESIGN CHOICE). -/
def Msg.setEid : Nat := 0x101
/-- Log: 82 (DESIGN CHOICE). -/
def Msg.sensor : Nat := 0x211
/-- Log: 82 (DESIGN CHOICE). -/
def Msg.transfer : Nat := 0x515
/-- Log: 82 (DESIGN CHOICE). -/
def Msg.activate : Nat := 0x51A

/-- BOOT_LOG (R628): GSET_RESET_CAUSE and the time each boot step ended. -/
def execBootLog (tr : Nat) (s : State) : Out :=
  s.request tr 1 false (fun s =>
    s.reply 1 .ok (leBytes 4 s.resetCause ++ (s.boot.times.map (leBytes 8)).flatten))

/-- FENCE_LIST (R628): the fence list. -/
def execFenceList (tr : Nat) (s : State) : Out :=
  s.request tr 2 false (fun s => s.reply 2 .ok ((s.ras.flashFences.map (leBytes 4)).flatten))

/-- REG_READ (R628): a register of the power, Tally, clock or error block. A read of GSET_TIME_LO latches the high word
(R608). Log: 92 (DEDUCED). -/
def execRegRead (tr addr : Nat) (s : State) : Out :=
  s.request tr 3 false (fun s =>
    if addr % 4 = 0 && ((0x2000 ≤ addr && addr < 0x5000) || (0x8000 ≤ addr && addr < 0x9000)) then
      let s1 := if addr = 0x4010 then s.setClk (fun c => { c with latch := BitVec.ofNat 32 (s.ns >>> 32) }) else s
      s1.reply 3 .ok (leBytes 4 (s.gset addr))
    else s.reply 3 .badRequest [])

/-- REG_WRITE (R536, R628): a register of the power block, under the set-up lock. -/
def execRegWrite (tr addr value : Nat) (s : State) : Out :=
  s.request tr 4 true (fun s =>
    if addr % 4 = 0 && 0x2000 ≤ addr && addr < 0x3000 then (s.writePower (addr - 0x2000) value).reply 4 .ok []
    else s.reply 4 .badRequest [])

/-- SETUP_UNLOCK (R351, R628): the set-up lock is cleared, and SETUP_UNLOCKED is posted. -/
def execSetupUnlock (tr : Nat) (s : State) : Out :=
  s.request tr 5 true (fun s =>
    (({ s with host := { s.host with setupLock := false } } : State).post 0 Event.setupUnlocked tr).reply 5 .ok [])

/-- DEVICE_RESET (R628): a device reset is due 10 ms after the response. -/
def execDeviceReset (tr : Nat) (s : State) : Out :=
  s.request tr 6 true (fun s => (s.setBoot (fun b => { b with resetDue := true })).reply 6 .ok [])

/-- Images the device runs (R633). -/
def State.runningImages (s : State) : List Image :=
  (s.boot.slots.at? s.boot.mwSlot).toList ++ s.boot.newtRuns.map (·.2) ++ s.boot.portRuns.map (·.2)

/-- SVN_COMMIT (R633): fuse bits blown up to `t`; the response names every slot that can no longer boot.
Log: 95 (DEDUCED). -/
def execSvnCommit (tr t : Nat) (s : State) : Out :=
  s.request tr 7 true (fun s =>
    if s.sec.svn < t && t ≤ 64 && s.runningImages.all (fun i => t ≤ i.svn) then
      let s1 := s.setSec (fun k => { k with svn := t })
      (s1.post 0 Event.svnCommitted t).reply 7 .ok
        ((s.boot.slots.filter (fun p => p.2.svn < t)).map (fun p => BitVec.ofNat 8 p.1))
    else s.reply 7 .badRequest [])

/-- CONFIG_WRITE (R622, R628): the 64 bytes of the deployment configuration; it applies at the next boot. -/
def execConfigWrite (tr : Nat) (data : List Byte) (s : State) : Out :=
  s.request tr 8 true (fun s =>
    if data.length = 64 then (s.setBoot (fun b => { b with config := data })).reply 8 .ok [] else s.reply 8 .badRequest [])

/-- MCTP_SET_EID (R626): the transport's bus owner assigns an endpoint ID. Log: 93 (DEDUCED), 96 (DEDUCED). -/
def execMctpSetEid (tr eid : Nat) (s : State) : Out :=
  s.request tr Msg.setEid false (fun s =>
    (s.setBoot (fun b => { b with eids := b.eids.set tr (eid % 256) })).reply Msg.setEid .ok [])

/-- Tiles of a die (R5). -/
def tilesOnDie (d : Nat) : List Nat := (List.range 96).map (96 * d + ·) ++ (List.range 32).map (384 + 32 * d + ·)

/-- A sensor's reading (R629): 0 to 3 the hottest tile island of each die, in 0.25 °C as 11 bits; 4 the hottest stack; 5 and
6 p_now and p_avg; 7 to 10 i_now of each die; 11 TIME_UNCERTAIN. Log: 94 (DESIGN CHOICE). -/
def State.sensor (s : State) (n : Nat) : Option Nat :=
  if n < 4 then some (unsignedOf 11 (s.hottest (tilesOnDie n)).2)
  else if n = 4 then some ((s.pwr.hbmTemps.map (·.2)).foldl max 0)
  else if n = 5 then some s.pwr.pNow
  else if n = 6 then some s.pwr.pAvg
  else if n < 11 then some ((s.sail (n - 7)).now / 1000)
  else if n = 11 then some (b2n s.clk.uncertain)
  else none

/-- PLDM_SENSOR_READ (R629). -/
def execPldmSensorRead (tr n : Nat) (s : State) : Out :=
  s.request tr Msg.sensor false (fun s => match s.sensor n with
    | some v => s.reply Msg.sensor .ok (leBytes 4 v)
    | none => s.reply Msg.sensor .badRequest [])

/-- The kind of image components of an update take, if they are all of one kind (R629). -/
def kindOf (comps : List Nat) : Option Nat :=
  if comps.isEmpty then none
  else if comps.all (· = 1) then some 1
  else if comps.all (fun c => 2 ≤ c && c ≤ 5) then some 2
  else if comps.all (fun c => 6 ≤ c && c ≤ 9) then some 3
  else none

/-- The flash slot of a kind that no component runs from (R630). Log: 93 (DEDUCED). -/
def State.freeSlot (s : State) (kind : Nat) : Option Nat :=
  let b := s.boot
  if kind = 1 then some (1 - b.mwSlot)
  else if kind = 2 then
    let a := getAt 0 b.newtActive 0
    if b.newtActive.all (· = a) then some (2 + (1 - a)) else none
  else
    let a := getAt 0 b.xActive 0
    if b.xActive.all (· = a) && b.portRuns.all (fun p => b.slots.at? (4 + a) = some p.2) then some (4 + (1 - a)) else none

/-- An image written into a flash slot and checked (R618, R630). Log: 81 (DESIGN CHOICE). -/
def State.writeSlot (s : State) (slot : Nat) (data : List Byte) : State × Bool :=
  match parseImage data with
  | none => (s.setBoot (fun b => { b with slots := b.slots.erase slot }), false)
  | some i => (s.setBoot (fun b => { b with slots := b.slots.set slot i }), s.accepts (slotKind slot) i)

/-- PLDM_FW_TRANSFER (R621, R630): an image for components of one kind is written into the slot of that kind that nothing
runs from, and checked. In recovery mode the boot ROM takes a Millwright image over any transport, and starts a device
reset once it is accepted. Log: 93 (DEDUCED). -/
def execPldmFwTransfer (tr : Nat) (comps : List Nat) (data : List Byte) (s : State) : Out :=
  if s.boot.bootFail then
    if kindOf comps ≠ some 1 || 3 ≤ tr || !s.resettable then .next s
    else
      let r := s.writeSlot s.boot.mwActive data
      if r.2 then .next ((r.1.reply Msg.transfer .ok []).resetAndBoot Cause.recovery)
      else .next (r.1.reply Msg.transfer .badRequest [])
  else s.request tr Msg.transfer false (fun s =>
    match (kindOf comps).bind s.freeSlot with
    | none => s.reply Msg.transfer .badRequest []
    | some slot =>
      let r := s.writeSlot slot data
      r.1.reply Msg.transfer (if r.2 then .ok else .badRequest) [])

/-- The Millwright stops (R624): SPDM sessions end. -/
def State.stopMillwright (s : State) (cause : Nat) : State :=
  (s.setSec (fun k => { k with sessions := [], scalars := [] })).setBoot (fun b => { b with
    mwUp := false, mwCause := cause, mwPrev := b.mwSlot, mwFails := 0 })

/-- The slot a component would activate (R630): the other one of its kind. -/
def State.nextSlot? (s : State) (comp : Nat) : Nat :=
  if comp = 1 then 1 - s.boot.mwSlot
  else if comp < 6 then 2 + (1 - getAt 0 s.boot.newtActive (comp - 2))
  else 4 + (1 - getAt 0 s.boot.xActive (comp - 6))

/-- One component's activation (R631, R632): at once on what is fenced, else at its fence. The Millwright's is a Millwright
reset into the new slot. -/
def State.activateFw (s : State) (comp : Nat) : State :=
  if comp = 1 then
    let slot := s.nextSlot? 1
    (s.stopMillwright 2).setBoot (fun b => { b with mwActive := slot })
  else if s.boot.activating.any (fun x => x.1 = comp) then s
  else
    let slot := s.nextSlot? comp
    (s.setBoot (fun b => { b with activating := b.activating ++ [(comp, slot)] })).loadPending

/-- ACTIVATE_FIRMWARE (R630 to R632): the named components, the Millwright last; refused where a slot holds no accepted
image. Log: 93 (DEDUCED). -/
def execActivateFirmware (tr : Nat) (comps : List Nat) (s : State) : Out :=
  s.request tr Msg.activate false (fun s =>
    let ready (c : Nat) : Bool := s.boot.activating.any (fun x => x.1 = c) || (s.slotImage (s.nextSlot? c)).isSome
    if comps.isEmpty || !comps.all (fun c => 1 ≤ c && c ≤ 9 && ready c) then s.reply Msg.activate .badRequest []
    else
      (comps.filter (· ≠ 1) ++ comps.filter (· = 1)).foldl State.activateFw (s.reply Msg.activate .ok []))

/-- Window in which watchdog expiries are counted (R625), in ns. -/
def tenMinutes : Nat := 600000000000

/-- MILLWRIGHT_WATCHDOG (R625): a Millwright reset; the third expiry within 10 minutes restarts it from its other slot, where
that holds an accepted image. During a life-cycle transition a device reset starts instead. Log: 95 (DEDUCED). -/
def execMillwrightWatchdog (s : State) : Out :=
  if !s.boot.mwUp || !s.resettable || s.clk.asleep then .next s
  else if s.sec.lcTarget.isSome then .next (s.resetAndBoot Cause.lc)
  else
    let recent := s.boot.expiries.filter (fun e => s.ns ≤ e + tenMinutes) ++ [s.ns]
    let other := 1 - s.boot.mwSlot
    let swap := 3 ≤ recent.length && (s.slotImage other).isSome
    .next ((s.stopMillwright 1).setBoot (fun b => { b with
      mwActive := if swap then other else b.mwSlot
      fallback := b.fallback || swap
      expiries := if swap then [] else recent }))

/-- MW_RESTART_DONE (R624, R630, R634, R635): the Millwright runs again; measurement 1 is that of its image. -/
def execMwRestartDone (s : State) : Out :=
  if s.boot.mwUp || s.boot.stage < 5 || !s.resettable then .next s
  else match s.slotImage s.boot.mwActive with
    | none => .next s
    | some i =>
      let slot := s.boot.mwActive
      let s1 := s.setBoot (fun b => { b with mwUp := true, mwSlot := slot, mwFails := 0, measures := b.measures.set 1 i.digest })
      let s2 := s1.lateCheckpoint.post 0 Event.mwRestarted (s.boot.mwCause % 4 + slot * 16 + b2n s.boot.fallback * 32)
      .next (if s.boot.mwCause = 2 then s2.fwActivated 1 slot i.release else s2)

end Sys2Proof.Machine
end

