-- ==== Sys2Proof/Machine/MillAttend.lean ====
section
/-! DEFINITION. attend's two passes (R139 to R147) and pack's conversion and re-layout (R148 to R150), and the two block
events of every mill op: a block with its last k-step done, and a part's sums delivered to the home rank. -/

namespace Sys2Proof.Machine

/-- An attend item's output rows (R144): query row of the sequence and query head. -/
def attendRows (d : Nat) (i : MillItem) : List (Nat × Nat) :=
  let g := fld d 0x24 0 9 / max 1 (fld d 0x24 16 9)
  if fld d 0x28 16 1 = 0 then (List.range i.rows).map (fun n => (i.row0 + n, i.col0))
  else if g ≤ 128 then
    ((List.range i.rows).map (fun t => (List.range g).map (fun h => (i.row0 + t, i.col0 * g + h)))).flatten
  else (List.range (min 128 (g - 128 * i.cols))).map (fun n => (i.row0, i.col0 * g + 128 * i.cols + n))

/-- Whether the query row at position `q` sees key position `p` (R141). -/
def seesKey (d kvLen q p : Nat) : Bool :=
  let w := fld d 0x60 0 32
  p < kvLen && (fld d 0x28 17 1 = 0 || p ≤ q) && (w = 0 || q < p + w)

/-- Bytes of an element of `fmt`. -/
def attendBytes (fmt : Nat) : Nat := fmtBits fmt / 8

/-- Decoded values of `n` elements of a format. -/
def decodeRun (fmt n : Nat) (bs : List Byte) : List Val :=
  (unpackBits (fmtBits fmt) n bs).map (fun w => match elemOf fmt with
    | some e => e.decode w
    | none => .fin false 0 0)

/-- One KV head of a folio as read (R139): K by position then dimension, V by dimension then position. -/
structure FolioHead where
  num : Nat
  k : List Val
  v : List Val

/-- The addresses of the folios of a list of table entries; an absent one is BAD_FOLIO (R139, R140, R147).
Log: 33 (DEDUCED). -/
def State.readEntries (s : State) (a : Agent) (ext : Ext) (r seq : Nat) : List Nat → Acc (List (Nat × Nat))
  | [] => .ok []
  | f :: l => match s.readVa a ext (fld r 8 0 55 + 8 * f) 8 with
    | .bad st x => .bad st x
    | .stall => .stall
    | .ok e =>
      if leNat e = 0 then .bad Status.badFolio seq
      else match s.readEntries a ext r seq l with
        | .ok es => .ok ((f, bitsOf (leNat e) 16 39 * 65536) :: es)
        | x => x

/-- Where the K and the V of a KV head lie in the folio at `base`, and the bytes of each (R139). -/
def folioParts (d base hk : Nat) : Nat × Nat × Nat :=
  let n := 256 * fld d 0x28 0 9 * attendBytes (fld d 0x2C 5 5)
  (base + hk * n, base + fld d 0x24 16 9 * n + hk * n, n)

/-- Folios read for one KV head (R139). Log: 28 (DEDUCED). -/
def State.readFolios (s : State) (a : Agent) (ext : Ext) (d hk : Nat) : List (Nat × Nat) → Acc (List FolioHead)
  | [] => .ok []
  | f :: l =>
    let dh := fld d 0x28 0 9
    let fmt := fld d 0x2C 5 5
    let (k, v, n) := folioParts d f.2 hk
    match s.readVa a ext k n, s.readVa a ext v n with
    | .bad st x, _ => .bad st x
    | _, .bad st x => .bad st x
    | .ok kb, .ok vb => match s.readFolios a ext d hk l with
      | .ok fs => .ok ({ num := f.1, k := decodeRun fmt (256 * dh) kb, v := decodeRun fmt (256 * dh) vb } :: fs)
      | x => x
    | _, _ => .stall

/-- Query vectors of an item's rows. -/
def State.readQueries (s : State) (a : Agent) (ext : Ext) (d qRow : Nat) : List (Nat × Nat) → Acc (List (List Val))
  | [] => .ok []
  | x :: l =>
    let dh := fld d 0x28 0 9
    let fmt := fld d 0x2C 0 5
    match s.readVa a ext (fld d 0x48 0 55 + (qRow + x.1) * fld d 0x58 0 32 + x.2 * dh * attendBytes fmt)
        (dh * attendBytes fmt) with
    | .bad st y => .bad st y
    | .stall => .stall
    | .ok bs => match s.readQueries a ext d qRow l with
      | .ok qs => .ok (decodeRun fmt dh bs :: qs)
      | y => y

/-- A score of R142: its FP32 encoding, flags, and whether its Quern sum overflowed at anchor_s, which makes it NaN as R75
has such a sum written. Log: 30 (DEDUCED). -/
def score (d : Nat) (anchor : Int) (q k : List Val) : Nat × Nat × Bool :=
  let x := quernDot anchor Quern.zero (q.zip k)
  let fl := x.2 ||| x.1.flags ||| nanIn q ||| nanIn k ||| nanFlag (fld d 0x3C 0 32)
  if x.1.overflowed then (0x7FC00000, fl, true)
  else
    let w := toF32 (x.1.value anchor)
    let r := f32Mul w.1 (fld d 0x3C 0 32)
    (r.1, fl ||| w.2 ||| r.2, false)

/-- The larger of two FP32 values; NaN where either is (R142). -/
def maxNan (a b : Nat) : Nat :=
  if (f32 a).isNan || (f32 b).isNan then 0x7FC00000 else if (f32 a).lt (f32 b) then b else a

/-- exp of R142: the canonical NaN of NaN, +0 of −inf, +inf of +inf, and of a finite
value the bits VEXP returns (R169). Log: 7 (DESIGN CHOICE). -/
def expOf (x : Nat) : Nat :=
  match f32 x with
  | .nan => 0x7FC00000
  | .inf neg => if neg then 0 else 0x7F800000
  | .fin neg m e => elementary 0x38 (fxVane 0x38 neg m e) x

/-- A row's visible positions with K and V at each: (position, K, V). -/
def visible (d kvLen q : Nat) (fs : List FolioHead) : List (Nat × List Val × List Val) :=
  let dh := fld d 0x28 0 9
  (fs.map (fun f => ((List.range 256).filter (fun t => seesKey d kvLen q (f.num * 256 + t))).map (fun t =>
    (f.num * 256 + t, (f.k.drop (t * dh)).take dh,
     (List.range dh).map (fun j => getAt (.fin false 0 0) f.v (j * 256 + t)))))).flatten

/-- Pass 1 of one row over a part's positions (R142): its maximum, whether a score overflowed, flags, and the scores with
their V. Log: 28 (DEDUCED). -/
structure RowScores where
  m : Nat
  beyond : Bool
  flags : Nat
  scores : List (Nat × List Val)

def rowScores (d : Nat) (anchor : Int) (q : List Val) (vis : List (Nat × List Val × List Val)) : RowScores :=
  let l := vis.map (fun p => (score d anchor q p.2.1, p.2.2))
  { m := l.foldl (fun m p => maxNan m p.1.1) 0xFF800000
    beyond := l.any (fun p => p.1.2.2)
    flags := l.foldl (fun f p => f ||| p.1.2.1) 0
    scores := l.map (fun p => (p.1.1, p.2)) }

/-- The maxima of an item's rows combined over its parts (R144): by row, the maximum and whether a score overflowed. -/
def joinMaxima (n : Nat) (l : List Maxima) : List (Nat × Bool) :=
  (List.range n).map (fun i => l.foldl (fun acc x =>
    let v := getAt (0xFF800000, false) x.rows i
    (maxNan acc.1 v.1, acc.2 || v.2)) (0xFF800000, false))

/-- Pass 2 of one row over a part's positions, under the row's maximum `m` (R142, R144): L, then O by dimension, and
flags. -/
def rowSums (d : Nat) (al ao : Int) (m : Nat) (scores : List (Nat × List Val)) : List Cell × Nat :=
  let dh := fld d 0x28 0 9
  let l := scores.map (fun p =>
    let x := f32Add p.1 (f32Neg m)
    let e := match elemOf (fld d 0x2C 10 5) with
      | some el => ((el.convert 0 false 0 (f32 (expOf x.1))), el)
      | none => ((0, 0), .float .fp32)
    (e.2.decode e.1.1, p.2, x.2 ||| e.1.2 ||| nanIn p.2))
  let lSum := l.foldl (fun c p => c.add (termOf al p.1)) Quern.zero
  let os := (List.range dh).map (fun j => quernDot ao Quern.zero (l.map (fun p => (p.1, getAt (.fin false 0 0) p.2.1 j))))
  (.q lSum :: os.map (fun o => .q o.1),
   os.foldl (fun f o => f ||| o.2) (l.foldl (fun f p => f ||| p.2.2) 0))

/-- An output row of an attend item: query row and head, its query vector, and its visible positions of one part's folios. -/
abbrev AttendRow := (Nat × Nat) × List Val × List (Nat × List Val × List Val)

/-- KV head of an item (R142, R144). -/
def itemHead (d : Nat) (i : MillItem) : Nat :=
  (((attendRows d i).head?).map (·.2)).getD 0 / max 1 (fld d 0x24 0 9 / max 1 (fld d 0x24 16 9))

/-- Whether some row of an item sees a position of folio `f` (R141). -/
def folioSeen (d r f : Nat) (i : MillItem) : Bool :=
  (attendRows d i).any (fun x => (List.range 256).any (fun t =>
    seesKey d (fld r 4 0 32) (fld r 0x18 0 32 + x.1) (f * 256 + t)))

/-- What part `part` of an item reads (R144, R147): every folio table entry of its own, the queries, and K and V of the
folios of its own that a row sees. -/
def State.attendInputs (s : State) (a : Agent) (ext : Ext) (d r split part : Nat) (i : MillItem) : Acc (List AttendRow) :=
  let rows := attendRows d i
  let mine := (List.range ((fld r 4 0 32 + 255) / 256)).filter (fun f => f % split = part)
  match s.readEntries a ext r i.grp mine with
  | .bad st x => .bad st x
  | .stall => .stall
  | .ok es => match s.readQueries a ext d (fld r 0x10 0 32) rows,
        s.readFolios a ext d (itemHead d i) (es.filter (fun e => folioSeen d r e.1 i)) with
    | .bad st x, _ => .bad st x
    | _, .bad st x => .bad st x
    | .ok qs, .ok fs =>
      .ok ((rows.zip qs).map (fun x => (x.1, x.2, visible d (fld r 4 0 32) (fld r 0x18 0 32 + x.1.1) fs)))
    | _, _ => .stall

/-- The reads of a pass of one part (R142, R147): (address, bytes) of its queries and of its folios of a KV head. -/
def State.attendReads (s : State) (a : Agent) (ext : Ext) (d r split part : Nat) (i : MillItem) : List (Nat × Nat) :=
  let n := fld d 0x28 0 9 * attendBytes (fld d 0x2C 0 5)
  let mine := (List.range ((fld r 4 0 32 + 255) / 256)).filter (fun f => f % split = part && folioSeen d r f i)
  (attendRows d i).map (fun x => (fld d 0x48 0 55 + (fld r 0x10 0 32 + x.1) * fld d 0x58 0 32 + x.2 * n, n))
    ++ (match s.readEntries a ext r i.grp mine with
      | .ok es => (es.map (fun e =>
          let p := folioParts d e.2 (itemHead d i)
          [(p.1, p.2.2), (p.2.1, p.2.2)])).flatten
      | _ => [])

/-- Whether a query row at position `q` sees no key position at all (R141, R142). -/
def seesNone (d kvLen q : Nat) : Bool :=
  let w := fld d 0x60 0 32
  let hi := if fld d 0x28 17 1 = 1 then min kvLen (q + 1) else kvLen
  hi ≤ (if w = 0 then 0 else q + 1 - w)

/-- The cells one part delivers for an item: for each row L and O (R144), and flags. Log: 30 (DEDUCED). -/
def attendPart (d : Nat) (anchors : List Int) (ms : List (Nat × Bool)) (rows : List AttendRow) : List Cell × Nat :=
  let l := (rows.zip ms).map (fun x =>
    rowSums d (getAt 0 anchors 1) (getAt 0 anchors 2) x.2.1 (rowScores d (getAt 0 anchors 0) x.1.2.1 x.1.2.2).scores)
  ((l.map (·.1)).flatten, l.foldl (fun f x => f ||| x.2) 0)

/-- What the drain of an attend item writes, and the stages that overflowed (R142, R75). `ms` = the rows' maxima. Flags
of the passes of a row that overflows stay. Log: 30 (DEDUCED). -/
def attendDrain (d r : Nat) (anchors : List Int) (ms : List (Nat × Bool)) (rows : List (Nat × Nat)) (cells : List Cell) :
    Drain × List Nat :=
  let dh := fld d 0x28 0 9
  let fo := fld d 0x2C 15 5
  let cvt := fld d 0x2C 20 4
  (rows.zip (List.range rows.length)).foldl (fun acc y =>
    let x := y.1
    let m := getAt (0xFF800000, false) ms y.2
    let at_ (j : Nat) : Cell := getAt (.q Quern.zero) cells (y.2 * (dh + 1) + j)
    let l := toF32 ((at_ 0).value (getAt 0 anchors 1))
    let els := (List.range dh).map (fun j =>
      let c := at_ (j + 1)
      let fl := c.flags ||| (at_ 0).flags
      if m.2 || (at_ 0).beyond || c.beyond then (true, Val.nan, fl)
      else if seesNone d (fld r 4 0 32) (fld r 0x18 0 32 + x.1) then (false, Val.fin false 0 0, 0)
      else if (f32 m.1).isNan then (false, Val.nan, fl)
      else
        let o := toF32 (c.value (getAt 0 anchors 2))
        let q := f32Div o.1 l.1
        (false, f32 q.1, o.2 ||| q.2 ||| fl ||| l.2))
    let row := fld r 0x10 0 32 + x.1
    let enc := encodeRow fo cvt (fld d 0x80 0 64) (fld d 0x88 0 32) row (x.2 * dh) (els.map (fun e => (e.1, e.2.1)))
    let stages := (if m.2 then [0] else []) ++ (if (at_ 0).beyond then [1] else [])
      ++ (if (List.range dh).any (fun j => (at_ (j + 1)).beyond) then [2] else [])
    ({ mem := acc.1.mem ++ [(fld d 0x50 0 55 + row * fld d 0x5C 0 32 + x.2 * dh * attendBytes fo, enc.1)]
       sram := []
       ovf := acc.1.ovf + (els.filter (·.1)).length
       flags := els.foldl (fun f e => f ||| e.2.2) (acc.1.flags ||| enc.2.2)
       amax := 0 },
     (acc.2 ++ stages).eraseDups)) ({ mem := [], sram := [], ovf := 0, flags := 0, amax := 0 }, [])

/-- Parts of a lane whose folios an item of an attend is split over, the home rank's among them (R144). -/
def MillRun.allParts (m : MillRun) (lane : Nat) : List Nat :=
  (m.ranks.filter (fun k => k.2.lane = lane)).map (fun k => k.2.part)

/-- The maxima of an item, if every part has delivered its own (R144). -/
def MillRun.joined (m : MillRun) (k : MillRank) (n : Nat) : Option (List (Nat × Bool)) :=
  let l := m.maxima.filter (fun x => x.lane = k.lane && x.item = k.done)
  if (m.allParts k.lane).all (fun p => l.any (fun x => x.part = p)) then some (joinMaxima n l) else none

/-- Pass 1 of a rank over its present item, unless its maxima are delivered already (R142, R144): the maxima of its part
go to the home rank. -/
def State.attendMaxima (s : State) (id : Nat) (a : Agent) (ext : Ext) (o : Op) (m : MillRun) (k : MillRank) (i : MillItem)
    (rows : List AttendRow) : State :=
  if m.maxima.any (fun x => x.lane = k.lane && x.item = k.done && x.part = k.part) then s
  else
    let d := o.desc
    let rs := rows.map (fun x => rowScores d (getAt 0 m.anchors 0) x.2.1 x.2.2)
    let fl := rs.foldl (fun f x => f ||| x.flags) 0
    let x : Maxima := { lane := k.lane, item := k.done, part := k.part, rows := rs.map (fun x => (x.m, x.beyond)) }
    ((((s.start id).noteLatencies o.pond ext.lats).touchReads a
      (s.attendReads a ext d (getAt 0 m.table i.grp) (millSplit d) k.part i)).addFlags id fl).modMill id (fun m =>
        { m with maxima := m.maxima ++ [x] })

/-- A part's passes over its present item (R144): its maxima first, and `pass2` once every part's are in. Log: 30 (DEDUCED). -/
def State.attendPasses (s : State) (id r : Nat) (ext : Ext) (home : Bool)
    (pass2 : State → Op → MillRun → MillRank → MillItem → List (Nat × Bool) → List AttendRow → State) : State :=
  match s.eng.mills.at? id, s.op? id with
  | some m, some o => match m.ranks.at? r with
    | none => s
    | some k => match (m.items o.desc k)[k.done]? with
      | none => s
      | some i =>
        if (k.part = 0) ≠ home || o.phase = .ended || !s.millTurn id k.tile then s
        else
          let a := s.agent id o (dieOfTile k.tile) (k.tile + 1)
          match s.attendInputs a ext o.desc (getAt 0 m.table i.grp) (millSplit o.desc) k.part i with
          | .stall => s
          | .bad st x => s.millFails id k.tile st x
          | .ok rows =>
            let s1 := s.attendMaxima id a ext o m k i rows
            match s1.eng.mills.at? id with
            | none => s1
            | some m1 => match m1.joined k rows.length with
              | none => s1
              | some ms => pass2 (s1.touchReads a (s.attendReads a ext o.desc (getAt 0 m.table i.grp) (millSplit o.desc) k.part i))
                  o m1 k i ms rows
  | _, _ => s

/-- MILL_BLOCK_DONE of attend on home rank `r`: the passes of its item, the parts' sums added, and its drain. Where the
item has several parts, the first such command ends its pass 1. Log: 30 (DEDUCED). -/
def State.attendBlock (s : State) (id r : Nat) (ext : Ext) : State :=
  s.attendPasses id r ext true (fun s o m k i ms rows =>
    match m.deliveries k.lane k.done with
    | none => s
    | some parts =>
      let own := attendPart o.desc m.anchors ms rows
      let (cells, fl) := joinCells false (own.1 :: parts)
      let w := attendDrain o.desc (getAt 0 m.table i.grp) m.anchors ms (rows.map (·.1)) cells
      (s.modRank id r (fun k => { k with landed := [] })).drainItem id r o m k (m.items o.desc k) ext
        { w.1 with flags := w.1.flags ||| fl ||| own.2 } w.2)

/-- KSPLIT_DELIVERY of attend: the maxima of a part's folios, then their L and O sums, arrive at the home rank (R144). -/
def State.attendDeliver (s : State) (id r : Nat) (ext : Ext) : State :=
  s.attendPasses id r ext false (fun s o m k _ ms rows =>
    let own := attendPart o.desc m.anchors ms rows
    let x : Delivery := { lane := k.lane, item := k.done, part := k.part, cells := own.1 }
    (((s.addFlags id own.2).modMill id (fun m => { m with delivered := m.delivered ++ [x] })).modRank id r (fun k =>
      { k with done := k.done + 1, landed := [] })).refreshBoard)

/-- Whether pack copies its source's bits (R149). -/
def packCopies (d : Nat) : Bool :=
  fld d 0x28 0 5 = fld d 0x28 8 5 && (fld d 0x28 20 1 = 0 || !isMx (fld d 0x28 0 5))

/-- Source rows `lo` to `lo + n - 1` of a pack: the bits of elements `c0` to `c0 + cols - 1` of each, with their scale
bytes. Element runs start at a byte boundary where `c0` is 0 or an even number of 4-bit elements. -/
def State.packRows (s : State) (a : Agent) (ext : Ext) (d c0 cols : Nat) : List Nat → Acc (List (List Nat × List Nat))
  | [] => .ok []
  | r :: l =>
    let fs := fld d 0x28 0 5
    let w := fmtBits fs
    let lo := c0 * w / 8
    let hi := ((c0 + cols) * w + 7) / 8
    match s.readVa a ext (fld d 0x30 0 55 + r * fld d 0x40 0 32 + lo) (hi - lo),
          (if isMx fs then s.readVa a ext (fld d 0x48 0 55 + r * fld d 0x58 0 32 + c0 / 32) ((c0 + cols + 31) / 32 - c0 / 32)
           else .ok []) with
    | .bad st x, _ => .bad st x
    | _, .bad st x => .bad st x
    | .ok bs, .ok sc =>
      let skip := (c0 * w - 8 * lo) / w
      let els := (unpackBits w (cols + skip) bs).drop skip
      match s.packRows a ext d c0 cols l with
      | .ok rs => .ok ((els, (List.range cols).map (fun j => (getAt 0 sc ((c0 + j) / 32 - c0 / 32)).toNat)) :: rs)
      | x => x
    | _, _ => .stall

/-- The elements of a pack block by destination row: (bits, scale byte) in the source format. -/
def State.packSource (s : State) (a : Agent) (ext : Ext) (d : Nat) (i : MillItem) : Acc (List (List (Nat × Nat))) :=
  if fld d 0x28 20 1 = 0 then
    match s.packRows a ext d 0 i.cols ((List.range i.rows).map (i.row0 + ·)) with
    | .ok rs => .ok (rs.map (fun r => r.1.zip r.2))
    | .bad st x => .bad st x
    | .stall => .stall
  else
    match s.packRows a ext d i.row0 i.rows (List.range i.cols) with
    | .ok rs => .ok ((List.range i.rows).map (fun n => rs.map (fun r => (getAt 0 r.1 n, getAt 0 r.2 n))))
    | .bad st x => .bad st x
    | .stall => .stall

/-- One destination row of a pack (R149): element bits, scale bytes and flags. Log: 31 (DEDUCED). -/
def packRow (d i : Nat) (row : List (Nat × Nat)) : List Nat × List Byte × Nat :=
  let fs := fld d 0x28 0 5
  let fd := fld d 0x28 8 5
  if packCopies d then
    (row.map (·.1), if isMx fd then (chunk32 (row.length + 1) row).map (fun b => BitVec.ofNat 8 ((b.headD (0, 0)).2)) else [], 0)
  else match elemOf fs with
    | none => ([], [], 0)
    | some e =>
      let vs := row.map (fun x => if isMx fs then mxValue e x.2 x.1 else e.decode x.1)
      let enc := encodeRow fd (fld d 0x28 16 4) (fld d 0x60 0 64) (fld d 0x68 0 32) i 0 (vs.map (fun v => (false, v)))
      (unpackBits (fmtBits fd) row.length enc.1, enc.2.1,
       enc.2.2 ||| (if vs.any Val.isNan then flagNan else 0))

/-- The source reads of a pack block: (address, bytes). -/
def packReads (d : Nat) (i : MillItem) : List (Nat × Nat) :=
  let w := fmtBits (fld d 0x28 0 5)
  let tr := fld d 0x28 20 1 = 1
  let (rows, c0, n) := if tr then (List.range i.cols, i.row0, i.rows) else ((List.range i.rows).map (i.row0 + ·), 0, i.cols)
  rows.map (fun r => (fld d 0x30 0 55 + r * fld d 0x40 0 32 + c0 * w / 8, packed w n))

/-- What a block of a pack writes (R150): `nth` is the block's number on its rank, `b` its number in the destination. -/
def packDrain (d nth b : Nat) (i : MillItem) (rows : List (List Nat × List Byte × Nat)) : Drain :=
  let fd := fld d 0x28 8 5
  let w := fmtBits fd
  let panel := fld d 0x28 21 1 = 1
  let toTile := fld d 0x28 22 1 = 1
  let blk := packBlockBytes d
  let q := (i.cols + 31) / 32
  let put (x : Drain) (off : Nat) (bs : List Byte) : Drain :=
    if toTile then { x with sram := x.sram ++ [(fld d 0x38 0 22 + nth * blk + off, bs)] }
    else { x with mem := x.mem ++ [(fld d 0x38 0 55 + (if panel then b * blk else 0) + off, bs)] }
  let fl := rows.foldl (fun f r => f ||| r.2.2) 0
  let x0 : Drain := { mem := [], sram := [], ovf := 0, flags := fl, amax := 0 }
  if panel then
    (List.range q).foldl (fun x c =>
      let body := ((List.range 128).map (fun r =>
        packBits w ((List.range 32).map (fun j => getAt 0 (getAt ([], [], 0) rows r).1 (32 * c + j))))).flatten
      let y := put x (c * panelPages fd * 4096) body
      if isMx fd then
        { y with mem := y.mem ++ [(fld d 0x50 0 55 + (b * q + c) * 128,
            (List.range 128).map (fun r => getAt 0 (getAt ([], [], 0) rows r).2.1 c))] }
      else y) x0
  else
    (rows.zip (List.range rows.length)).foldl (fun x r =>
      let row := if toTile then r.2 else i.row0 + r.2
      let y := put x (row * fld d 0x44 0 32) (packBits w r.1.1)
      if isMx fd then
        { y with mem := y.mem ++ [(fld d 0x50 0 55 + (i.row0 + r.2) * fld d 0x5C 0 32, r.1.2.1)] }
      else y) x0

/-- MILL_BLOCK_DONE of pack: the next block of 128 destination rows of rank `r`. -/
def State.packBlock (s : State) (id r : Nat) (ext : Ext) : State :=
  match s.eng.mills.at? id, s.op? id with
  | some m, some o => match m.ranks.at? r with
    | none => s
    | some k =>
      let d := o.desc
      let items := m.items d k
      match items[k.done]? with
      | none => s
      | some i =>
        if o.phase = .ended || !s.millTurn id k.tile then s
        else
          let a := s.agent id o (dieOfTile k.tile) (k.tile + 1)
          match s.packSource a ext d i with
          | .stall => s
          | .bad st x => s.millFails id k.tile st x
          | .ok src =>
            let rows := (src.zip (List.range src.length)).map (fun x => packRow d (i.row0 + x.2) x.1)
            (((s.start id).noteLatencies o.pond ext.lats).touchReads a (packReads d i)).drainItem id r o m k items ext
              (packDrain d k.done (i.row0 / 128) i rows) []
  | _, _ => s

/-- MILL_BLOCK_DONE (R98): a block of rank `rank` has its last k-step done, and its drain is made. -/
def execMillBlockDone (op rank : Nat) (ext : Ext) (s0 : State) : Out :=
  let s := s0.findErrors ext
  match s.op? op with
  | none => .next s
  | some o =>
    if o.opcode = 0x22 then .next (s.attendBlock op rank ext)
    else if o.opcode = 0x23 then .next (s.packBlock op rank ext)
    else if o.opcode ≤ 0x21 then .next (s.gemmBlock op rank ext)
    else .next s

/-- KSPLIT_DELIVERY (R115, R116): the finished accumulators of a part arrive at its lane's home rank. -/
def execKsplitDelivery (op rank : Nat) (ext : Ext) (s0 : State) : Out :=
  let s := s0.findErrors ext
  match s.op? op with
  | none => .next s
  | some o =>
    if o.opcode = 0x22 then .next (s.attendDeliver op rank ext)
    else if o.opcode ≤ 0x21 then .next (s.gemmDeliver op rank)
    else .next s

end Sys2Proof.Machine
end

