-- ==== Sys2Proof/Machine/Ras.lean ====
section
/-! DEFINITION. Patrol scrub and the leak of error buckets (24_ras_and_limits). -/

namespace Sys2Proof.Machine

/-- PATROL_READ of an HBM granule (R638): a corrected error is counted and written back; an uncorrectable one poisons the
granule. A plot without placement holds nothing to poison (R647). -/
def State.patrolHbm (s : State) (off err : Nat) : State :=
  match s.hbmKey off with
  | none => s
  | some k =>
    let ch := k / 0x80000000
    if s.fenced 4 ch then s
    else if err = 1 then s.corrected 4 ch
    else if err = 2 then (s.poisonGranule off 2 4 ch).uncorrectable 4 ch
    else s

/-- PATROL_READ of a loft line (R637, R638): an uncorrectable error drops a clean line, counted as corrected, poisons the
granule of a dirty one, and loses a line a sluice has staged. Log: 17 (DEDUCED). -/
def State.patrolLoft (s : State) (off err : Nat) : State :=
  let line := off / 128
  let u := s.homeOf off
  let held := s.mem.loft.find? (fun l => l.line = line)
  let drop (s : State) : State := { s with mem := { s.mem with loft := s.mem.loft.filter (fun l => l.line ≠ line) } }
  if s.fenced 5 u || (s.plotOf off).isNone then s
  else if err = 1 then s.corrected 5 u
  else if err ≠ 2 then s
  else if s.work.sluices.any (fun p => p.2.lines.contains line && !p.2.spilled.contains line) then
    (s.loseStaged (fun k l => l = line && (s.work.sluices.at? k).any (fun e => !e.spilled.contains l)) 5 u).uncorrectable 5 u
  else match held with
    | none => s
    | some l => if l.dirty then (s.poisonGranule off 3 5 u).uncorrectable 5 u else (drop s).corrected 5 u

/-- PATROL_READ (R638): the patrol reads the granule at local offset `off`, from HBM or in the loft. `err`: 0 = no error, 1
= a corrected one, 2 = an uncorrectable one. -/
def execPatrolRead (off : Nat) (loft : Bool) (err : Nat) (s : State) : Out :=
  if !s.boot.ready || (if loft then s.ras.scrubLoft else s.ras.scrubHours) = 0 then .next s
  else .next (if loft then s.patrolLoft off err else s.patrolHbm off err)

/-- BUCKET_LEAK (R643): leak_min minutes have passed for a unit, and its level falls by 1. -/
def execBucketLeak (cls unit : Nat) (s : State) : Out :=
  if cls < 1 || 7 < cls || unitLimit cls ≤ unit then .next s
  else
    let b := s.bucket cls unit
    if b.level = 0 then .next s
    else
      let b1 : Bucket := { b with level := b.level - 1, warned := b.warned && b.level ≠ 1 }
      .next { s with ras := { s.ras with buckets := s.ras.buckets.set (unitCode cls unit) b1 } }

end Sys2Proof.Machine
end

