-- ==== Sys2Proof/Machine/Vane.lean ====
section
/-! DEFINITION. The Vane tile (06_vane_instruction_set): encoding and its checks, how a rank issues an instruction, loading
and running programs, and transfers. -/

namespace Sys2Proof.Machine

/-- An instruction's fields (R160). -/
structure VaneIns where
  op : Nat
  d : Nat
  a : Nat
  b : Nat
  c : Nat
  g : Nat
  z : Bool
  imm : Nat

/-- The fields of a 64-bit instruction word (R160). -/
def vaneFields (w : Nat) : VaneIns :=
  { op := bitsOf w 56 8, d := bitsOf w 51 5, a := bitsOf w 46 5, b := bitsOf w 41 5, c := bitsOf w 36 5
    g := bitsOf w 33 3, z := bitOf w 32, imm := bitsOf w 0 32 }

/-- What a field of an opcode names (R161, R166). -/
inductive FieldUse where
  | none | v | s | p | width
  deriving DecidableEq

/-- Whether a field's value is admitted by its use (R161): 16 scalar registers or sync counters, 8 predicates, width codes
0 to 2. -/
def FieldUse.ok (u : FieldUse) (x : Nat) : Bool :=
  match u with
  | .none => x = 0
  | .v => true
  | .s => x < 16
  | .p => x < 8
  | .width => x < 3

/-- The fields an opcode uses: d, a, b, c, whether it is predicated, and the bits its immediate may hold. -/
structure VaneForm where
  d : FieldUse := .none
  a : FieldUse := .none
  b : FieldUse := .none
  c : FieldUse := .none
  pred : Bool := false
  imm : Nat := 0

/-- The form of each opcode (R166); `none` = undefined. Log: 37 (DEDUCED). -/
def vaneFormOf (op : Nat) : Option VaneForm :=
  let all := 0xFFFFFFFF
  match op with
  | 0x00 | 0x01 | 0x03 => some {}
  | 0x02 => some { imm := 0xFFFF }
  | 0x04 => some { imm := all }
  | 0x05 | 0x06 | 0x07 | 0x08 | 0x09 => some { a := .s, b := .s, imm := all }
  | 0x0A => some { d := .s, imm := all }
  | 0x0B => some { a := .s }
  | 0x0C | 0x0D => some { a := .p, imm := all }
  | 0x0E => some { d := .s, imm := 0xF }
  | 0x0F => some { c := .s, imm := all }
  | 0x10 | 0x11 | 0x12 | 0x13 | 0x14 | 0x15 | 0x16 | 0x17 | 0x18 | 0x1E => some { d := .s, a := .s, b := .s }
  | 0x19 | 0x1C | 0x1D => some { d := .s, a := .s, imm := all }
  | 0x1A | 0x1B => some { d := .s, imm := all }
  | 0x20 | 0x21 | 0x22 | 0x25 | 0x26 | 0x29 => some { d := .v, a := .v, b := .v, pred := true }
  | 0x23 | 0x24 => some { d := .v, a := .v, b := .v, c := .v, pred := true }
  | 0x27 | 0x28 | 0x2A => some { d := .v, a := .v, pred := true }
  | 0x2B | 0x2C => some { d := .v, a := .v, b := .s, pred := true }
  | 0x2D => some { d := .v, a := .v, b := .s, c := .v, pred := true }
  | 0x30 | 0x31 | 0x32 | 0x34 | 0x35 => some { d := .v, a := .v, b := .v, pred := true, imm := 1 }
  | 0x33 => some { d := .v, a := .v, b := .v, c := .v, pred := true, imm := 1 }
  | 0x38 | 0x39 | 0x3A | 0x3B | 0x3C | 0x3D | 0x3E | 0x3F => some { d := .v, a := .v, pred := true }
  | 0x40 | 0x41 | 0x42 | 0x43 | 0x44 | 0x45 | 0x46 | 0x47 | 0x48 | 0x49 | 0x4A =>
    some { d := .v, a := .v, b := .v, pred := true }
  | 0x50 | 0x51 => some { d := .p, a := .v, b := .v, pred := true, imm := 7 }
  | 0x52 | 0x53 | 0x54 => some { d := .p, a := .p, b := .p }
  | 0x55 => some { d := .p, a := .p }
  | 0x56 => some { d := .p, a := .s }
  | 0x57 => some { d := .s, a := .p }
  | 0x58 => some { d := .v, a := .v, b := .v, c := .p, pred := true }
  | 0x59 => some { d := .v, pred := true, imm := all }
  | 0x5A => some { d := .v, a := .s, pred := true }
  | 0x5B => some { d := .v, pred := true }
  | 0x5C | 0x5F => some { d := .v, a := .v, b := .v, pred := true }
  | 0x5D => some { d := .s, a := .v, b := .s }
  | 0x5E => some { d := .v, a := .s, b := .s }
  | 0x60 | 0x61 | 0x62 => some { d := .s, a := .v, pred := true }
  | 0x63 => some { d := .v, a := .v, b := .s, c := .s, pred := true, imm := 0xF1F1F }
  | 0x64 => some { d := .v, a := .v, b := .v, c := .v, pred := true }
  | 0x68 | 0x6B => some { d := .v, a := .s, c := .width, pred := true, imm := all }
  | 0x69 | 0x6C => some { d := .v, a := .s, b := .s, c := .width, pred := true, imm := all }
  | 0x6A | 0x6D => some { d := .v, a := .s, b := .v, c := .width, pred := true, imm := all }
  | 0x70 | 0x73 => some { pred := true }
  | 0x71 => some { a := .v, b := .v, c := .s, pred := true }
  | 0x72 => some { a := .v, c := .s, pred := true }
  | 0x74 | 0x75 => some { a := .s, b := .s, pred := true, imm := all }
  | 0x78 | 0x79 => some { a := .s, b := .s, c := .s }
  | 0x7A => some { d := .s, a := .s, b := .s, c := .s, imm := 0x1F }
  | 0x7B => some { imm := all }
  | _ => none

/-- The formats VCVT takes (R171). -/
def isVcvt (fmt : Nat) : Bool := [1, 2, 3, 4, 5, 6, 8].contains fmt

/-- Whether an instruction is defined and well formed (R161, R166, R167, R171). -/
def VaneIns.ok (i : VaneIns) : Bool :=
  match vaneFormOf i.op with
  | none => false
  | some f =>
    f.d.ok i.d && f.a.ok i.a && f.b.ok i.b && f.c.ok i.c && (f.pred || (i.g = 0 && !i.z)) && i.imm &&& f.imm = i.imm
      && (i.op ≠ 0x0E || i.imm < 8)
      && (i.op ≠ 0x63 || (isVcvt (bitsOf i.imm 0 5) && isVcvt (bitsOf i.imm 8 5) && !cvtBad (bitsOf i.imm 16 4)
            && (bitsOf i.imm 16 2 = 2 || (i.b = 0 && i.c = 0))))

/-- Scalar register `n` (R158). -/
def VaneRank.sr (k : VaneRank) (n : Nat) : Nat := if n = 0 then 0 else (getAt 0 k.s n).toNat

/-- A rank with a scalar register written, modulo 2^64; s0 takes no write (R158, R162). -/
def VaneRank.setS (k : VaneRank) (n v : Nat) : VaneRank :=
  if n = 0 then k else { k with s := setAt k.s n (BitVec.ofNat 64 v) }

/-- Predicate register `n` (R158). -/
def VaneRank.pr (k : VaneRank) (n : Nat) : Nat := if n = 0 then 2 ^ 64 - 1 else (getAt 0 k.p n).toNat

/-- A rank with a predicate written; p0 takes no write (R158). -/
def VaneRank.setP (k : VaneRank) (n v : Nat) : VaneRank :=
  if n = 0 then k else { k with p := setAt k.p n (BitVec.ofNat 64 v) }

/-- Lane `i` of vector register `n`. -/
def VaneRank.vr (k : VaneRank) (n i : Nat) : Nat := (getAt 0 (getAt [] k.v n) i).toNat

/-- Numeric flags added to a rank's (R172). -/
def VaneRank.flag (k : VaneRank) (f : Nat) : VaneRank := { k with flags := k.flags ||| f }

/-- What an instruction is issued in: the state, its operation, the run and the issuing rank. -/
structure VaneEnv where
  s : State
  id : Nat
  o : Op
  run : VaneRun
  r : Nat
  k : VaneRank
  i : VaneIns

/-- What issuing an instruction comes to: executed, with pc to advance; executed with pc set; the rank ends; a trap; an
exception; or it waits. -/
inductive VaneRes where
  | ok (s : State) (run : VaneRun)
  | jump (run : VaneRun) (target : Int)
  | halt
  | trap (code : Nat)
  | bad (status : Nat)
  | wait

/-- The run with its issuing rank replaced. -/
def VaneEnv.put (e : VaneEnv) (k : VaneRank) : VaneRun := { e.run with ranks := setAt e.run.ranks e.r k }

/-- An instruction that changes its rank's registers alone. -/
def VaneEnv.done (e : VaneEnv) (k : VaneRank) : VaneRes := .ok e.s (e.put k)

/-- sext(imm) (R162). -/
def VaneEnv.simm (e : VaneEnv) : Int := signedOf 32 e.i.imm

/-- Whether lane `i` is active (R163). -/
def VaneEnv.active (e : VaneEnv) (i : Nat) : Bool := (e.k.pr e.i.g).testBit i

/-- The active lanes. -/
def VaneEnv.lanes (e : VaneEnv) : List Nat := (List.range 64).filter e.active

/-- Destination v[d] written lane by lane under predication (R163). -/
def VaneEnv.vector (e : VaneEnv) (f : Nat → Nat × Nat) : VaneRank :=
  let l : List (Nat × Nat) := (List.range 64).map (fun i => if e.active i then f i else (if e.i.z then 0 else e.k.vr e.i.d i, 0))
  ({ e.k with v := setAt e.k.v e.i.d (l.map (fun (x : Nat × Nat) => BitVec.ofNat 32 x.1)) }).flag (l.foldl (fun f (x : Nat × Nat) => f ||| x.2) 0)

/-- A vector instruction (R163). -/
def VaneEnv.vec (e : VaneEnv) (f : Nat → Nat × Nat) : VaneRes := e.done (e.vector f)

/-- The detail of a run's exception (R195). Log: 41 (DEDUCED). -/
def vaneDetail (pc rank trap : Nat) : Nat := pc % 8192 + rank % 256 * 2 ^ 16 + trap % 65536 * 2 ^ 32

/-- A rank raises an exception: the run ends (R196). Log: 41 (DEDUCED). -/
def State.vaneRaise (s : State) (id rank pc status trap : Nat) : State := s.decide id status (vaneDetail pc rank trap)

/-- A run's state kept, with the flags of the issuing rank (R62, R172). -/
def State.vaneCommit (s : State) (id r : Nat) (run : VaneRun) : State :=
  ({ s with eng := { s.eng with runs := s.eng.runs.set id run } }).addFlags id
    (((run.ranks[r]?).map (fun (k : VaneRank) => k.flags)).getD 0)

/-- pc of rank `r` set. -/
def VaneRun.setPc (run : VaneRun) (r pc : Nat) : VaneRun :=
  { run with ranks := match run.ranks[r]? with
      | some k => setAt run.ranks r { k with pc }
      | none => run.ranks }

/-- Outcome of an issue applied: pc advanced, kept inside 0 to 8,191 (R165), or the exception raised (R196).
Log: 37 (DEDUCED). -/
def State.vaneApply (s : State) (e : VaneEnv) (res : VaneRes) : State :=
  let past := e.k.pc = 8191
  let range := s.vaneRaise e.id e.r e.k.pc Status.vanePcRange 0
  match res with
  | .ok s1 run => if past then range else s1.vaneCommit e.id e.r (run.setPc e.r (e.k.pc + 1))
  | .jump run t => if t < 0 || 8191 < t then range else s.vaneCommit e.id e.r (run.setPc e.r t.toNat)
  | .halt => s.vaneCommit e.id e.r (e.put { e.k with halted := true })
  | .trap c => s.vaneRaise e.id e.r e.k.pc Status.vaneTrap c
  | .bad st => if past then range else s.vaneRaise e.id e.r e.k.pc st 0
  | .wait => if past then range else s

/-- What rank `r` of a started run would issue next, whatever its program memory holds there. -/
def State.vaneAt (s : State) (id r : Nat) : Option VaneEnv :=
  match s.eng.runs.at? id, s.op? id with
  | some run, some o => match run.ranks[r]? with
    | none => none
    | some k =>
      if !run.started || k.halted || o.phase ≠ .running then none
      else some { s, id, o, run, r, k, i := vaneFields (leNat (s.mem.prog.read (k.tile * 0x10000 + 8 * k.pc) 8)) }
  | _, _ => none

/-- Whether the word of program memory a rank issues next is delivered as poison (R107, R195). -/
def VaneEnv.poisoned (e : VaneEnv) : Bool := e.s.mem.progPoison.contains (e.k.tile * 0x2000 + e.k.pc)

/-- What rank `r` of a started run issues next. -/
def State.vaneEnv (s : State) (id r : Nat) : Option VaneEnv := (s.vaneAt id r).filter (fun e => !e.poisoned)

/-- A rank that issues a poisoned word raises MEMORY_ERROR (R195). -/
def State.vaneNoFetch (s : State) (id r : Nat) : State :=
  match s.vaneAt id r with
  | none => s
  | some e => s.vaneRaise id r e.k.pc Status.memoryError 0

/-- Rank `r` issues its next instruction, if its opcode is `op` (R154, R161). Log: 37 (DEDUCED). -/
def vaneExec (s : State) (id r op : Nat) (body : VaneEnv → VaneRes) : State :=
  match s.vaneEnv id r with
  | none => s.vaneNoFetch id r
  | some e =>
    if e.i.op ≠ op then s
    else if !e.i.ok then s.vaneRaise id r e.k.pc Status.vaneBadInstr 0
    else s.vaneApply e (body e)

/-- VANE_UNDEFINED_INSTR (R161): the word a rank issues is undefined or malformed. -/
def execVaneUndefinedInstr (op rank : Nat) (s : State) : Out :=
  match s.vaneEnv op rank with
  | none => .next (s.vaneNoFetch op rank)
  | some e => if e.i.ok then .next s else .next (s.vaneRaise op rank e.k.pc Status.vaneBadInstr 0)

/-- Whether a Vane operation has its turn on every tile of its ranks: no earlier one holds any of them (R31, R191). -/
def State.vaneTurn (s : State) (id : Nat) : Bool :=
  match s.eng.runs.at? id with
  | none => false
  | some r => !s.eng.runs.any (fun p => p.2.order < r.order && p.2.tiles.any r.tiles.contains)

/-- First rank and rank count of a Vane descriptor (R188, R189). -/
def vaneRanks (d : Nat) : Nat × Nat := (fld d 0x20 0 8, fld d 0x20 16 8)

/-- A Vane descriptor enters the queues of its tiles (R191). -/
def State.vaneEnter (s : State) (id : Nat) (o : Op) (load : Bool) : State :=
  match s.mem.ponds.at? o.pond with
  | none => s.decide id Status.badPond 0
  | some p =>
    let (first, count) := vaneRanks o.desc
    match p.rankError true first count with
    | some st => s.decide id st (if st = Status.badRank then first + count else 0)
    | none =>
      let tiles := (List.range count).map (fun i => ((p.tileOf true (first + i)).join).getD 0)
      let n := s.eng.order + 1
      let run : VaneRun := { order := n, tiles, load, started := false, ranks := [], ovf := 0, nextTransfer := 1 }
      let s1 := s.enqueue id
      { s1 with eng := { s1.eng with order := n, runs := s1.eng.runs.set id run } }

/-- The registers of a rank at the start of a run (R159). -/
def startRank (d idx tile : Nat) : VaneRank :=
  let (first, count) := vaneRanks d
  { tile
    v := List.replicate 32 (List.replicate 64 0)
    s := ([0, first + idx, idx, count, 0, 0, 0, 0] ++ (List.range 8).map (fun i => fld d (0x40 + 8 * i) 0 64)).map
      (BitVec.ofNat 64)
    p := (2 ^ 64 - 1 : BitVec 64) :: List.replicate 7 0
    pc := fld d 0x24 0 13
    acc := List.replicate 64 Quern.zero
    counters := List.replicate 16 0
    transfers := []
    halted := false
    flags := 0 }

/-- VANE_RUN (R189, R191): the run enters the queues of its tiles. -/
def execVaneRun (op : Nat) (s : State) : Out :=
  match s.go? op 0x31 with
  | none => .next (s.asksTiles op)
  | some o => .next (s.vaneEnter op o false)

/-- VANE_RUN_START (R191, R159): every rank's tile is reserved, and the run starts on all of them together. -/
def execVaneRunStart (op : Nat) (s : State) : Out :=
  match s.eng.runs.at? op, s.op? op with
  | some r, some o =>
    if r.load || r.started || o.phase ≠ .queued || !s.vaneTurn op then .next s
    else
      let ranks := (r.tiles.zip (List.range r.tiles.length)).map (fun x => startRank o.desc x.2 x.1)
      .next ({ s with eng := { s.eng with runs := s.eng.runs.set op { r with started := true, ranks } } }.start op)
  | _, _ => .next s

/-- VANE_RUN_COMPLETE (R192, R185): every rank has halted and no transfer is left. -/
def execVaneRunComplete (op : Nat) (s : State) : Out :=
  match s.eng.runs.at? op with
  | none => .next s
  | some r =>
    if r.load || !r.started || !r.ranks.all (fun k => k.halted && k.transfers.isEmpty) then .next s
    else if r.ovf ≠ 0 then .next (s.decide op Status.quernOverflow r.ovf)
    else .next (s.succeed op)

/-- VANE_TIMEOUT (R193): a rank has run its budget of clocks without halting. -/
def execVaneTimeout (op rank : Nat) (s : State) : Out :=
  match s.vaneAt op rank with
  | none => .next s
  | some e => .next (s.vaneRaise op rank e.k.pc Status.vaneTimeout 0)

/-- Instructions of an image put into the program memory of a rank's tile, from instruction `at_` on. -/
def State.putProg (s : State) (tile at_ : Nat) (bytes : List Byte) : State :=
  let w := tile * 0x2000 + at_
  { s with mem := { s.mem with
      prog := s.mem.prog.write (tile * 0x10000 + 8 * at_) bytes
      progPoison := s.mem.progPoison.filter (fun x => x < w || w + bytes.length / 8 ≤ x) } }

/-- An image whose read fails (R190): each instruction of each rank that could be read is the old or the new one, by a
free value. Log: 40 (DEDUCED). -/
def State.halfLoad (s : State) (a : Agent) (ext : Ext) (d : Nat) (tiles : List Nat) : State :=
  tiles.foldl (fun s t => (List.range (fld d 0x28 0 14)).foldl (fun s i =>
    match s.readVa a ext (fld d 0x30 0 55 + 8 * i) 8 with
    | .ok bs =>
      let (c, s1) := s.drawFree
      if c % 2 = 0 then s1 else s1.putProg t (fld d 0x24 0 13 + i) bs
    | _ => s) s) s

/-- VANE_LOAD (R188, R190, R191): the image is copied into the program memory of every rank once its tiles are free;
given again while it waits for them. -/
def execVaneLoad (op : Nat) (ext : Ext) (s1 : State) : Out :=
  let s := s1.findErrors ext
  let s0 := match s.go? op 0x30 with
    | some o => s.vaneEnter op o true
    | none => s
  match s0.eng.runs.at? op, s0.op? op with
  | some r, some o =>
    if !r.load || !s0.vaneTurn op then .next s0
    else
      let d := o.desc
      let t := r.tiles.headD 0
      let a := s0.agent op o (dieOfTile t) (t + 1)
      let n := 8 * fld d 0x28 0 14
      match s0.readVa a ext (fld d 0x30 0 55) n with
      | .stall => .next s0
      | .bad st x => .next ((s0.halfLoad a ext d r.tiles).decide op st x)
      | .ok bs =>
        let s1 := ((s0.start op).noteLatencies o.pond ext.lats).touchRead a none (fld d 0x30 0 55) n
        .next ((r.tiles.foldl (fun s t => s.putProg t (fld d 0x24 0 13) bs) s1).succeed op)
  | _, _ => .next (s0.asksTiles op)

/-- `n` free bytes. -/
def State.freeBytes (s : State) (n : Nat) : List Byte × State :=
  ((List.range n).map (fun i => BitVec.ofNat 8 (Config.freeNat (s.work.free + i))),
   { s with work := { s.work with free := s.work.free + n } })

/-- The bytes a transfer moves, those with no defined value free (R177). Log: 39 (DEDUCED). -/
def State.transferBytes (s : State) (t : Transfer) (bytes : List Byte) : List Byte × State :=
  if t.undef.isEmpty then (bytes, s)
  else
    let (fs, s1) := s.freeBytes bytes.length
    (((bytes.zip fs).zip (List.range bytes.length)).map (fun x =>
      if t.undef.any (fun u => u.1 ≤ x.2 && x.2 < u.1 + u.2) then x.1.2 else x.1.1), s1)

/-- A transfer of rank `r` removed from its run. -/
def State.dropTransfer (s : State) (id r tid : Nat) : State :=
  { s with eng := { s.eng with runs := s.eng.runs.modify id (fun run => match run.ranks[r]? with
      | some k => { run with ranks := setAt run.ranks r { k with transfers := k.transfers.filter (fun t => t.id ≠ tid) } }
      | none => run) } }

/-- What an MGET or MPUT does when it completes: the state, or a failed access. -/
def State.moveTransfer (s : State) (a : Agent) (ext : Ext) (tile : Nat) (t : Transfer) : Wrote :=
  if t.kind = 0 then
    match s.readVa a ext t.va t.len with
    | .ok bs =>
      let (data, s1) := s.transferBytes t bs
      .ok (((s1.touchRead a none t.va t.len).noteLatencies a.pond ext.lats).putSram tile t.off data)
    | .bad st x => .bad s st x
    | .stall => .stall
  else
    let (data, s1) := s.transferBytes t t.data
    s1.writeVa a ext.refused none t.va data

/-- The 128-byte lines of memory an MGET or MPUT touches, as ranges: device (0xFFFF = this one, 0xFFFE = host, 0xFFFD = not
mapped), first line, last line. -/
def State.transferLines (s : State) (a : Agent) (t : Transfer) : List (Nat × Nat × Nat) :=
  (pieces t.va t.len).map (fun p =>
    let run (dev off : Nat) : Nat × Nat × Nat := (dev, off / 128, (off + p.2 - 1) / 128)
    match s.translate a p.1 with
    | .ok (.local_ off) _ => run 0xFFFF off
    | .ok (.host bus) _ => run 0xFFFE bus
    | .ok (.remote dev off) _ => run dev off
    | _ => run 0xFFFD p.1)

/-- Transfers of a rank of an operation that have not completed, those that outlived the run among them. -/
def State.transfersOf (s : State) (op rank : Nat) : List Transfer :=
  (s.eng.orphans.filter (fun x => x.op = op && x.rank = rank)).map (·.t)
    ++ ((((s.eng.runs.at? op).map (·.ranks)).getD [])[rank]?.map (·.transfers)).getD []

/-- Whether an MGET or MPUT may take effect (R214): no earlier one of its tile to the same 128-byte line is outstanding. -/
def State.inLineOrder (s : State) (a : Agent) (op rank : Nat) (t : Transfer) : Bool :=
  let mine := s.transferLines a t
  !((s.transfersOf op rank).any (fun u => u.kind ≠ 2 && u.id < t.id && (s.transferLines a u).any (fun x =>
    mine.any (fun y => x.1 = y.1 && x.2.1 ≤ y.2.2 && y.2.1 ≤ x.2.2))))

/-- Whether an MSEND may land (R232): no earlier one of its rank to the same rank is still on its way. -/
def State.inSendOrder (s : State) (op rank : Nat) (t : Transfer) : Bool :=
  !((s.transfersOf op rank).any (fun u => u.kind = 2 && u.id < t.id && u.dest = t.dest && !u.landed))

/-- TRANSFER_DONE (R176, R177, R180, R214): transfer `id` of rank `rank` completes; an MSEND, once it has landed. One whose
access fails has no effect and raises its exception (R196). A transfer that outlived its run completes likewise (R196). -/
def execTransferDone (op rank id : Nat) (ext : Ext) (s0 : State) : Out :=
  let s := s0.findErrors ext
  match s.eng.orphans.find? (fun x => x.op = op && x.rank = rank && x.t.id = id) with
  | some x =>
    let gone (t : State) : State :=
      { t with eng := { t.eng with orphans := t.eng.orphans.filter (fun y =>
          !(y.op = op && y.rank = rank && y.t.id = id)) } }
    if x.t.kind = 2 then .next (if x.t.landed then gone s else s)
    else
      let a : Agent := { fn := x.fn, slot := x.slot, die := dieOfTile x.tile, tile := x.tile + 1, sluice := 0, op
                         pond := x.pond }
      if !s.inLineOrder a op rank x.t then .next s
      else match s.moveTransfer a ext x.tile x.t with
      | .ok s1 => .next (gone s1)
      | .bad s1 _ _ => .next (gone s1)
      | .stall => .next s
  | none => match s.eng.runs.at? op, s.op? op with
    | some r, some o => match r.ranks[rank]? with
      | none => .next s
      | some k => match k.transfers.find? (fun t => t.id = id) with
        | none => .next s
        | some t =>
          if t.kind = 2 then .next (if t.landed then s.dropTransfer op rank id else s)
          else
            let a := s.agent op o (dieOfTile k.tile) (k.tile + 1)
            if !s.inLineOrder a op rank t then .next s
            else match s.moveTransfer a ext k.tile t with
              | .ok s1 => .next (s1.dropTransfer op rank id)
              | .bad s1 st _ =>
                .next (((if st = Status.sluiceAborted then s1 else s).dropTransfer op rank id).vaneRaise op rank t.pc st 0)
              | .stall => .next s
    | _, _ => .next s

/-- A sync counter of a rank incremented (R180). -/
def VaneRun.bump (run : VaneRun) (r c : Nat) : VaneRun :=
  match run.ranks[r]? with
  | some k => { run with ranks := setAt run.ranks r { k with
      counters := setAt k.counters c ((getAt 0 k.counters c + 1) % 2 ^ 32) } }
  | none => run

/-- A transfer of a rank marked as landed. -/
def VaneRun.landed (run : VaneRun) (r tid : Nat) : VaneRun :=
  match run.ranks[r]? with
  | some k => { run with ranks := setAt run.ranks r { k with transfers := k.transfers.map (fun t =>
      if t.id = tid then { t with landed := true } else t) } }
  | none => run

/-- MSEND_LANDED (R180, R181, R232): every byte of an MSEND is in the destination rank's tile SRAM, and its counter there is
incremented. -/
def execMsendLanded (op rank id : Nat) (s : State) : Out :=
  match s.eng.orphans.find? (fun x => x.op = op && x.rank = rank && x.t.id = id && x.t.kind = 2 && !x.t.landed) with
  | some x =>
    if !s.inSendOrder op rank x.t then .next s
    else
    let (data, s1) := s.transferBytes x.t x.t.data
    .next { s1.putSram x.destTile x.t.doff data with eng := { s1.eng with orphans := s1.eng.orphans.map (fun y =>
      if y.op = op && y.rank = rank && y.t.id = id then { y with t := { y.t with landed := true } } else y) } }
  | none => match s.eng.runs.at? op with
    | none => .next s
    | some r => match (r.ranks[rank]?).bind (fun k => k.transfers.find? (fun t => t.id = id && t.kind = 2 && !t.landed)) with
      | none => .next s
      | some t =>
        if !s.inSendOrder op rank t then .next s
        else
        let (data, s1) := s.transferBytes t t.data
        let s2 := s1.putSram (getAt 0 r.tiles t.dest) t.doff data
        let r1 := r.landed rank id
        let r2 := if t.inc then r1.bump t.dest t.counter else r1
        .next { s2 with eng := { s2.eng with runs := s2.eng.runs.set op r2 } }

end Sys2Proof.Machine
end

