-- ==== Sys2Proof/Machine/VaneScalar.lean ====
section
/-! DEFINITION. Vane control, scalar, integer, predicate, move and pack instructions (R166, R167, R181). Each body gives
what the instruction does once it is issued well formed. -/

namespace Sys2Proof.Machine

/-- A relative branch taken when `c` holds (R162). -/
def VaneEnv.branch (e : VaneEnv) (c : Bool) : VaneRes :=
  if c then .jump e.run (e.k.pc + e.simm) else e.done e.k

/-- s[a] and s[b] as unsigned and signed values. -/
def VaneEnv.sa (e : VaneEnv) : Nat := e.k.sr e.i.a

def VaneEnv.sb (e : VaneEnv) : Nat := e.k.sr e.i.b

def VaneEnv.sai (e : VaneEnv) : Int := signedOf 64 e.sa

def VaneEnv.sbi (e : VaneEnv) : Int := signedOf 64 e.sb

/-- An instruction that writes s[d] modulo 2^64. -/
def VaneEnv.scalar (e : VaneEnv) (v : Int) : VaneRes := e.done (e.k.setS e.i.d (unsignedOf 64 v))

/-- NOP. -/
def execVaneNop (op rank : Nat) (s : State) : Out := .next (vaneExec s op rank 0x00 (fun e => e.done e.k))

/-- HALT (R192). -/
def execHalt (op rank : Nat) (s : State) : Out := .next (vaneExec s op rank 0x01 (fun _ => .halt))

/-- TRAP. -/
def execTrap (op rank : Nat) (s : State) : Out := .next (vaneExec s op rank 0x02 (fun e => .trap e.i.imm))

/-- FENCE: waits until every transfer the rank issued is complete. -/
def execFence (op rank : Nat) (s : State) : Out :=
  .next (vaneExec s op rank 0x03 (fun e => if e.k.transfers.isEmpty then e.done e.k else .wait))

def execBr (op rank : Nat) (s : State) : Out := .next (vaneExec s op rank 0x04 (fun e => e.branch true))

def execBeq (op rank : Nat) (s : State) : Out := .next (vaneExec s op rank 0x05 (fun e => e.branch (e.sa = e.sb)))

def execBne (op rank : Nat) (s : State) : Out := .next (vaneExec s op rank 0x06 (fun e => e.branch (e.sa ≠ e.sb)))

def execBlt (op rank : Nat) (s : State) : Out := .next (vaneExec s op rank 0x07 (fun e => e.branch (e.sai < e.sbi)))

def execBge (op rank : Nat) (s : State) : Out := .next (vaneExec s op rank 0x08 (fun e => e.branch (e.sbi ≤ e.sai)))

def execBltu (op rank : Nat) (s : State) : Out := .next (vaneExec s op rank 0x09 (fun e => e.branch (e.sa < e.sb)))

/-- JAL: the link is pc + 1. -/
def execJal (op rank : Nat) (s : State) : Out :=
  .next (vaneExec s op rank 0x0A (fun e => .jump (e.put (e.k.setS e.i.d (e.k.pc + 1))) (e.k.pc + e.simm)))

def execJr (op rank : Nat) (s : State) : Out := .next (vaneExec s op rank 0x0B (fun e => .jump e.run e.sa))

def execBany (op rank : Nat) (s : State) : Out :=
  .next (vaneExec s op rank 0x0C (fun e => e.branch (e.k.pr e.i.a ≠ 0)))

def execBnone (op rank : Nat) (s : State) : Out :=
  .next (vaneExec s op rank 0x0D (fun e => e.branch (e.k.pr e.i.a = 0)))

/-- The special values of SRD (R167); the count of clocks is free. Log: 39 (DEDUCED). -/
def srdBody (e : VaneEnv) : VaneRes :=
  let put (v : Nat) : VaneRes := e.done (e.k.setS e.i.d v)
  match e.i.imm with
  | 0 =>
    let (v, s1) := e.s.drawFree
    .ok s1 (e.put (e.k.setS e.i.d v))
  | 1 => put e.s.ns
  | 2 => put ((vaneRanks e.o.desc).1 + e.r)
  | 3 => put e.r
  | 4 => put (vaneRanks e.o.desc).2
  | 5 => put (((e.s.mem.ponds.at? e.o.pond).map (fun p => p.binding.tilesV.length)).getD 0)
  | 6 => put e.k.flags
  | _ => put e.k.transfers.length

def execSrd (op rank : Nat) (s : State) : Out := .next (vaneExec s op rank 0x0E srdBody)

/-- WAITC (R181): counter c at least k loses k; else the rank waits. -/
def waitcBody (e : VaneEnv) : VaneRes :=
  let n := getAt 0 e.k.counters e.i.c
  if e.i.imm ≤ n then e.done { e.k with counters := setAt e.k.counters e.i.c (n - e.i.imm) } else .wait

def execWaitc (op rank : Nat) (s : State) : Out := .next (vaneExec s op rank 0x0F waitcBody)

def execSadd (op rank : Nat) (s : State) : Out := .next (vaneExec s op rank 0x10 (fun e => e.scalar (e.sa + e.sb)))

def execSsub (op rank : Nat) (s : State) : Out := .next (vaneExec s op rank 0x11 (fun e => e.scalar ((e.sa : Int) - e.sb)))

def execSmul (op rank : Nat) (s : State) : Out := .next (vaneExec s op rank 0x12 (fun e => e.scalar (e.sa * e.sb)))

def execSand (op rank : Nat) (s : State) : Out :=
  .next (vaneExec s op rank 0x13 (fun e => e.scalar ((e.sa &&& e.sb : Nat) : Int)))

def execSor (op rank : Nat) (s : State) : Out :=
  .next (vaneExec s op rank 0x14 (fun e => e.scalar ((e.sa ||| e.sb : Nat) : Int)))

def execSxor (op rank : Nat) (s : State) : Out :=
  .next (vaneExec s op rank 0x15 (fun e => e.scalar ((e.sa ^^^ e.sb : Nat) : Int)))

def execSshl (op rank : Nat) (s : State) : Out :=
  .next (vaneExec s op rank 0x16 (fun e => e.scalar ((e.sa <<< (e.sb % 64) : Nat) : Int)))

def execSshr (op rank : Nat) (s : State) : Out :=
  .next (vaneExec s op rank 0x17 (fun e => e.scalar ((e.sa >>> (e.sb % 64) : Nat) : Int)))

def execSsra (op rank : Nat) (s : State) : Out :=
  .next (vaneExec s op rank 0x18 (fun e => e.scalar (e.sai / (2 ^ (e.sb % 64) : Int))))

def execSaddi (op rank : Nat) (s : State) : Out := .next (vaneExec s op rank 0x19 (fun e => e.scalar (e.sa + e.simm)))

def execSmovi (op rank : Nat) (s : State) : Out := .next (vaneExec s op rank 0x1A (fun e => e.scalar e.simm))

/-- SMOVHI: bits [31:0] are kept. -/
def execSmovhi (op rank : Nat) (s : State) : Out :=
  .next (vaneExec s op rank 0x1B (fun e => e.scalar ((e.i.imm * 2 ^ 32 + e.k.sr e.i.d % 2 ^ 32 : Nat) : Int)))

def execSslt (op rank : Nat) (s : State) : Out :=
  .next (vaneExec s op rank 0x1E (fun e => e.scalar (if e.sai < e.sbi then 1 else 0)))

/-- v[a] and v[b] of a lane. -/
def VaneEnv.va (e : VaneEnv) (i : Nat) : Nat := e.k.vr e.i.a i

def VaneEnv.vb (e : VaneEnv) (i : Nat) : Nat := e.k.vr e.i.b i

def VaneEnv.vc (e : VaneEnv) (i : Nat) : Nat := e.k.vr e.i.c i

/-- A lane-by-lane integer operation, modulo 2^32, that sets no flag. -/
def VaneEnv.int (e : VaneEnv) (f : Nat → Nat → Int) : VaneRes :=
  e.vec (fun i => (unsignedOf 32 (f (e.va i) (e.vb i)), 0))

def execViadd (op rank : Nat) (s : State) : Out := .next (vaneExec s op rank 0x40 (fun e => e.int (fun a b => a + b)))

def execVisub (op rank : Nat) (s : State) : Out := .next (vaneExec s op rank 0x41 (fun e => e.int (fun a b => (a : Int) - b)))

def execVimul (op rank : Nat) (s : State) : Out := .next (vaneExec s op rank 0x42 (fun e => e.int (fun a b => a * b)))

def execVand (op rank : Nat) (s : State) : Out :=
  .next (vaneExec s op rank 0x43 (fun e => e.int (fun a b => ((a &&& b : Nat) : Int))))

def execVor (op rank : Nat) (s : State) : Out :=
  .next (vaneExec s op rank 0x44 (fun e => e.int (fun a b => ((a ||| b : Nat) : Int))))

def execVxor (op rank : Nat) (s : State) : Out :=
  .next (vaneExec s op rank 0x45 (fun e => e.int (fun a b => ((a ^^^ b : Nat) : Int))))

def execVshl (op rank : Nat) (s : State) : Out :=
  .next (vaneExec s op rank 0x46 (fun e => e.int (fun a b => ((a <<< (b % 32) : Nat) : Int))))

def execVshr (op rank : Nat) (s : State) : Out :=
  .next (vaneExec s op rank 0x47 (fun e => e.int (fun a b => ((a >>> (b % 32) : Nat) : Int))))

def execVsra (op rank : Nat) (s : State) : Out :=
  .next (vaneExec s op rank 0x48 (fun e => e.int (fun a b => signedOf 32 a / (2 ^ (b % 32) : Int))))

def execVimin (op rank : Nat) (s : State) : Out :=
  .next (vaneExec s op rank 0x49 (fun e => e.int (fun a b => min (signedOf 32 a) (signedOf 32 b))))

def execVimax (op rank : Nat) (s : State) : Out :=
  .next (vaneExec s op rank 0x4A (fun e => e.int (fun a b => max (signedOf 32 a) (signedOf 32 b))))

/-- A compare: p[d] holds the condition at active lanes and 0 elsewhere (R163); flags of the active lanes. -/
def VaneEnv.compare (e : VaneEnv) (f : Nat → Bool × Nat) : VaneRes :=
  let p := e.lanes.foldl (fun m i => if (f i).1 then m + 2 ^ i else m) 0
  e.done ((e.k.setP e.i.d p).flag (e.lanes.foldl (fun g i => g ||| (f i).2) 0))

/-- VICMP's conditions. -/
def intCond (code a b : Nat) : Bool :=
  let x := signedOf 32 a
  let y := signedOf 32 b
  match code with
  | 0 => a = b
  | 1 => a ≠ b
  | 2 => x < y
  | 3 => x ≤ y
  | 4 => y < x
  | 5 => y ≤ x
  | 6 => a < b
  | _ => b ≤ a

def execVicmp (op rank : Nat) (s : State) : Out :=
  .next (vaneExec s op rank 0x51 (fun e => e.compare (fun i => (intCond e.i.imm (e.va i) (e.vb i), 0))))

def execPand (op rank : Nat) (s : State) : Out :=
  .next (vaneExec s op rank 0x52 (fun e => e.done (e.k.setP e.i.d (e.k.pr e.i.a &&& e.k.pr e.i.b))))

def execPor (op rank : Nat) (s : State) : Out :=
  .next (vaneExec s op rank 0x53 (fun e => e.done (e.k.setP e.i.d (e.k.pr e.i.a ||| e.k.pr e.i.b))))

def execPxor (op rank : Nat) (s : State) : Out :=
  .next (vaneExec s op rank 0x54 (fun e => e.done (e.k.setP e.i.d (e.k.pr e.i.a ^^^ e.k.pr e.i.b))))

def execPnot (op rank : Nat) (s : State) : Out :=
  .next (vaneExec s op rank 0x55 (fun e => e.done (e.k.setP e.i.d (e.k.pr e.i.a ^^^ (2 ^ 64 - 1)))))

def execPset (op rank : Nat) (s : State) : Out := .next (vaneExec s op rank 0x56 (fun e => e.done (e.k.setP e.i.d e.sa)))

def execPget (op rank : Nat) (s : State) : Out :=
  .next (vaneExec s op rank 0x57 (fun e => e.scalar (e.k.pr e.i.a)))

def execVsel (op rank : Nat) (s : State) : Out :=
  .next (vaneExec s op rank 0x58 (fun e => e.vec (fun i => (if (e.k.pr e.i.c).testBit i then e.va i else e.vb i, 0))))

def execVmovi (op rank : Nat) (s : State) : Out := .next (vaneExec s op rank 0x59 (fun e => e.vec (fun _ => (e.i.imm, 0))))

def execVbcast (op rank : Nat) (s : State) : Out :=
  .next (vaneExec s op rank 0x5A (fun e => e.vec (fun _ => (e.sa % 2 ^ 32, 0))))

def execVlane (op rank : Nat) (s : State) : Out := .next (vaneExec s op rank 0x5B (fun e => e.vec (fun i => (i, 0))))

def execVshuf (op rank : Nat) (s : State) : Out :=
  .next (vaneExec s op rank 0x5C (fun e => e.vec (fun i => (e.va (e.vb i % 64), 0))))

def execVextr (op rank : Nat) (s : State) : Out := .next (vaneExec s op rank 0x5D (fun e => e.scalar (e.va (e.sb % 64))))

/-- VINS: other lanes kept; not predicated. -/
def execVins (op rank : Nat) (s : State) : Out :=
  .next (vaneExec s op rank 0x5E (fun e => e.done { e.k with
    v := setAt e.k.v e.i.d (setAt (getAt [] e.k.v e.i.d) (e.sb % 64) (BitVec.ofNat 32 e.sa)) }))

def execVpk2 (op rank : Nat) (s : State) : Out :=
  .next (vaneExec s op rank 0x5F (fun e => e.vec (fun i => (e.vb i % 65536 * 65536 + e.va i % 65536, 0))))

def execVpk4 (op rank : Nat) (s : State) : Out :=
  .next (vaneExec s op rank 0x64 (fun e => e.vec (fun i =>
    (e.k.vr e.i.d i % 256 * 2 ^ 24 + e.vc i % 256 * 2 ^ 16 + e.vb i % 256 * 2 ^ 8 + e.va i % 256, 0))))

end Sys2Proof.Machine
end

