-- ==== Sys2Proof/Machine/VaneFloat.lean ====
section
/-! DEFINITION. Vane FP32 and packed arithmetic, transcendentals, compares, cross-lane reductions and conversion
(R168 to R172). -/

namespace Sys2Proof.Machine

/-- An exact result rounded once to a format (R168), with its flags. -/
def roundTo (f : FloatFmt) (r : Val × Nat) : Nat × Nat :=
  let w := f.convert 0 false 0 r.1
  (w.1, r.2 ||| w.2)

/-- A two-operand operation on encodings. -/
def fp2 (f : FloatFmt) (g : Val → Val → Val × Nat) (a b : Nat) : Nat × Nat :=
  let x := f.decode a
  let y := f.decode b
  let r := roundTo f (g x y)
  (r.1, r.2 ||| nanIn [x, y])

def valSub (a b : Val) : Val × Nat := a.add b.neg

/-- a × b + c with one rounding; `neg` subtracts c. -/
def fma (f : FloatFmt) (neg : Bool) (a b c : Nat) : Nat × Nat :=
  let x := f.decode a
  let y := f.decode b
  let z := f.decode c
  let m := x.mul y
  let t := m.1.add (if neg then z.neg else z)
  let r := roundTo f (t.1, m.2 ||| t.2)
  (r.1, r.2 ||| nanIn [x, y, z])

/-- The smaller (`low`) or larger of two encodings; −0 is below +0, and NaN gives the canonical NaN (R166, R168). -/
def minMax (f : FloatFmt) (low : Bool) (a b : Nat) : Nat × Nat :=
  let x := f.decode a
  let y := f.decode b
  if x.isNan || y.isNan then (f.qnan, flagNan)
  else
    let less : Bool := x.lt y || (!y.lt x && a.testBit (f.ebits + f.mbits))
    (if less = low then a else b, 0)

/-- An FP32 operation of v[a] and v[b]. -/
def VaneEnv.fp (e : VaneEnv) (g : Nat → Nat → Nat × Nat) : VaneRes := e.vec (fun i => g (e.va i) (e.vb i))

def execVadd (op rank : Nat) (s : State) : Out := .next (vaneExec s op rank 0x20 (fun e => e.fp (fp2 .fp32 Val.add)))

def execVsub (op rank : Nat) (s : State) : Out := .next (vaneExec s op rank 0x21 (fun e => e.fp (fp2 .fp32 valSub)))

def execVmul (op rank : Nat) (s : State) : Out := .next (vaneExec s op rank 0x22 (fun e => e.fp (fp2 .fp32 Val.mul)))

def execVfma (op rank : Nat) (s : State) : Out :=
  .next (vaneExec s op rank 0x23 (fun e => e.vec (fun i => fma .fp32 false (e.va i) (e.vb i) (e.vc i))))

def execVfms (op rank : Nat) (s : State) : Out :=
  .next (vaneExec s op rank 0x24 (fun e => e.vec (fun i => fma .fp32 true (e.va i) (e.vb i) (e.vc i))))

def execVmin (op rank : Nat) (s : State) : Out := .next (vaneExec s op rank 0x25 (fun e => e.fp (minMax .fp32 true)))

def execVmax (op rank : Nat) (s : State) : Out := .next (vaneExec s op rank 0x26 (fun e => e.fp (minMax .fp32 false)))

def execVabs (op rank : Nat) (s : State) : Out :=
  .next (vaneExec s op rank 0x27 (fun e => e.vec (fun i => (e.va i % 2 ^ 31, 0))))

def execVneg (op rank : Nat) (s : State) : Out :=
  .next (vaneExec s op rank 0x28 (fun e => e.vec (fun i => (f32Neg (e.va i), 0))))

def execVdiv (op rank : Nat) (s : State) : Out := .next (vaneExec s op rank 0x29 (fun e => e.fp (fp2 .fp32 Val.div)))

def execVsqrt (op rank : Nat) (s : State) : Out :=
  .next (vaneExec s op rank 0x2A (fun e => e.vec (fun i =>
    let r := roundTo .fp32 (f32 (e.va i)).sqrt
    (r.1, r.2 ||| nanIn [f32 (e.va i)]))))

/-- s[b][31:0] as FP32. -/
def VaneEnv.sf (e : VaneEnv) : Nat := e.sb % 2 ^ 32

def execVadds (op rank : Nat) (s : State) : Out :=
  .next (vaneExec s op rank 0x2B (fun e => e.vec (fun i => fp2 .fp32 Val.add (e.va i) e.sf)))

def execVmuls (op rank : Nat) (s : State) : Out :=
  .next (vaneExec s op rank 0x2C (fun e => e.vec (fun i => fp2 .fp32 Val.mul (e.va i) e.sf)))

def execVfmas (op rank : Nat) (s : State) : Out :=
  .next (vaneExec s op rank 0x2D (fun e => e.vec (fun i => fma .fp32 false (e.va i) e.sf (e.vc i))))

/-- The format of a packed instruction (R166): BF16 or FP16. -/
def VaneEnv.half (e : VaneEnv) : FloatFmt := if e.i.imm.testBit 0 then .fp16 else .bf16

/-- A packed operation: the two halves computed independently (R168). -/
def VaneEnv.packed (e : VaneEnv) (g : Nat → Nat → Nat → Nat × Nat) : VaneRes :=
  e.vec (fun i =>
    let lo := g (e.va i % 65536) (e.vb i % 65536) (e.vc i % 65536)
    let hi := g (e.va i / 65536) (e.vb i / 65536) (e.vc i / 65536)
    (hi.1 * 65536 + lo.1, lo.2 ||| hi.2))

def execHadd (op rank : Nat) (s : State) : Out :=
  .next (vaneExec s op rank 0x30 (fun e => e.packed (fun a b _ => fp2 e.half Val.add a b)))

def execHsub (op rank : Nat) (s : State) : Out :=
  .next (vaneExec s op rank 0x31 (fun e => e.packed (fun a b _ => fp2 e.half valSub a b)))

def execHmul (op rank : Nat) (s : State) : Out :=
  .next (vaneExec s op rank 0x32 (fun e => e.packed (fun a b _ => fp2 e.half Val.mul a b)))

def execHfma (op rank : Nat) (s : State) : Out := .next (vaneExec s op rank 0x33 (fun e => e.packed (fma e.half false)))

def execHmin (op rank : Nat) (s : State) : Out :=
  .next (vaneExec s op rank 0x34 (fun e => e.packed (fun a b _ => minMax e.half true a b)))

def execHmax (op rank : Nat) (s : State) : Out :=
  .next (vaneExec s op rank 0x35 (fun e => e.packed (fun a b _ => minMax e.half false a b)))

/-- A computed transcendental's result, whose rounding to infinity from a finite operand sets overflow (R172). -/
def computed (w : Nat) : Nat × Nat :=
  match f32 w with
  | .inf _ => (w, flagOverflow)
  | _ => (w, 0)

/-- A transcendental of one FP32 value (R169): the special cases of its table, and the implementation's value within 2 ulp
of a finite operand elsewhere. Log: 7 (DESIGN CHOICE). -/
def transcend (op x : Nat) : Nat × Nat :=
  let pinf := 0x7F800000
  let ninf := 0xFF800000
  let nan := 0x7FC00000
  match f32 x with
  | .nan => (nan, flagNan)
  | .inf neg =>
    match op with
    | 0x38 => (if neg then 0 else pinf, 0)
    | 0x39 => if neg then (nan, flagInvalid) else (pinf, 0)
    | 0x3A => (if neg then 0x80000000 else 0, 0)
    | 0x3B => if neg then (nan, flagInvalid) else (0, 0)
    | 0x3C | 0x3D => (nan, flagInvalid)
    | _ => (if neg then 0xBF800000 else 0x3F800000, 0)
  | .fin neg m e =>
    let value := elementary op (fxVane op neg m e) x
    match op with
    | 0x39 => if m = 0 then (ninf, 0) else if neg then (nan, flagInvalid) else computed value
    | 0x3A => if m = 0 then (if neg then ninf else pinf, 0) else computed value
    | 0x3B => if m = 0 then (if neg then ninf else pinf, 0) else if neg then (nan, flagInvalid) else computed value
    | _ => computed value

/-- A transcendental instruction. -/
def VaneEnv.trans (e : VaneEnv) : VaneRes := e.vec (fun i => transcend e.i.op (e.va i))

def execVexp (op rank : Nat) (s : State) : Out := .next (vaneExec s op rank 0x38 VaneEnv.trans)

def execVlog (op rank : Nat) (s : State) : Out := .next (vaneExec s op rank 0x39 VaneEnv.trans)

def execVrcp (op rank : Nat) (s : State) : Out := .next (vaneExec s op rank 0x3A VaneEnv.trans)

def execVrsqrt (op rank : Nat) (s : State) : Out := .next (vaneExec s op rank 0x3B VaneEnv.trans)

def execVsin (op rank : Nat) (s : State) : Out := .next (vaneExec s op rank 0x3C VaneEnv.trans)

def execVcos (op rank : Nat) (s : State) : Out := .next (vaneExec s op rank 0x3D VaneEnv.trans)

def execVtanh (op rank : Nat) (s : State) : Out := .next (vaneExec s op rank 0x3E VaneEnv.trans)

def execVerf (op rank : Nat) (s : State) : Out := .next (vaneExec s op rank 0x3F VaneEnv.trans)

/-- VCMP's conditions. -/
def floatCond (code : Nat) (x y : Val) : Bool :=
  let un := x.isNan || y.isNan
  let eq := !un && !x.lt y && !y.lt x
  match code with
  | 0 => eq
  | 1 => !eq
  | 2 => x.lt y
  | 3 => x.lt y || eq
  | 4 => y.lt x
  | 5 => y.lt x || eq
  | 6 => un
  | _ => !un

def execVcmp (op rank : Nat) (s : State) : Out :=
  .next (vaneExec s op rank 0x50 (fun e => e.compare (fun i =>
    (floatCond e.i.imm (f32 (e.va i)) (f32 (e.vb i)), nanIn [f32 (e.va i), f32 (e.vb i)]))))

/-- The tree of R80 over values some of which are absent. -/
def treeOpt (c : List (Option Nat)) : Nat → Nat → Option Nat × Nat
  | 0, lo => (getAt none c lo, 0)
  | k + 1, lo =>
    let a := treeOpt c k lo
    let b := treeOpt c k (lo + 2 ^ k)
    match a.1, b.1 with
    | some x, some y =>
      let r := f32Add x y
      (some r.1, a.2 ||| b.2 ||| r.2)
    | some x, none => (some x, a.2 ||| b.2)
    | none, y => (y, a.2 ||| b.2)

/-- nan_in over the active lanes of v[a]. -/
def VaneEnv.laneNan (e : VaneEnv) : Nat := nanIn (e.lanes.map (fun i => f32 (e.va i)))

/-- VRSUM (R170). -/
def vrsumBody (e : VaneEnv) : VaneRes :=
  let r := treeOpt ((List.range 64).map (fun i => if e.active i then some (e.va i) else none)) 6 0
  e.done ((e.k.setS e.i.d (f32Canon (r.1.getD 0))).flag (r.2 ||| e.laneNan))

def execVrsum (op rank : Nat) (s : State) : Out := .next (vaneExec s op rank 0x60 vrsumBody)

/-- VRMAX and VRMIN (R170). -/
def extremeBody (low : Bool) (e : VaneEnv) : VaneRes :=
  let start := if low then 0x7F800000 else 0xFF800000
  let r := e.lanes.foldl (fun x i => (minMax .fp32 low x (e.va i)).1) start
  e.done ((e.k.setS e.i.d r).flag e.laneNan)

def execVrmax (op rank : Nat) (s : State) : Out := .next (vaneExec s op rank 0x61 (extremeBody false))

def execVrmin (op rank : Nat) (s : State) : Out := .next (vaneExec s op rank 0x62 (extremeBody true))

/-- VCVT of one lane (R171). -/
def VaneEnv.cvt (e : VaneEnv) (i : Nat) : Nat × Nat :=
  let src := bitsOf e.i.imm 0 5
  let dst := bitsOf e.i.imm 8 5
  let cvt := bitsOf e.i.imm 16 4
  let u := if cvt % 4 = 2 then
      philox (fld e.o.desc 0x30 0 64) (fld e.o.desc 0x2C 0 32) (e.sb % 2 ^ 32) ((e.k.sr e.i.c + i) % 2 ^ 32)
    else 0
  match elemOf src, elemOf dst with
  | some a, some b =>
    let x := a.decode (e.va i % 2 ^ fmtBits src)
    let r := b.convert (cvt % 4) (cvt.testBit 2) u x
    (r.1, r.2 ||| nanIn [x])
  | _, _ => (0, 0)

def execVcvt (op rank : Nat) (s : State) : Out := .next (vaneExec s op rank 0x63 (fun e => e.vec e.cvt))

end Sys2Proof.Machine
end

