-- ==== Sys2Proof/Machine/VaneMem.lean ====
section
/-! DEFINITION. Vane loads and stores of tile SRAM, Quern accumulators, and transfers (R173 to R185). -/

namespace Sys2Proof.Machine

/-- Whether two ranges of a tile's SRAM share a byte. -/
def rangesMeet (a n b m : Nat) : Bool := a < b + m && b < a + n && n ≠ 0 && m ≠ 0

/-- The share of a stored range in a transfer's bytes that start at `lo`: (first, bytes). -/
def shareOf (lo len off n : Nat) : Nat × Nat := (max lo off - lo, min (lo + len) (off + n) - max lo off)

/-- Marks of a transfer for a store of its own rank into its tile's SRAM (R177). -/
def Transfer.storedOwn (t : Transfer) (off n : Nat) : Transfer :=
  if !t.landed && rangesMeet t.off t.len off n then { t with undef := t.undef ++ [shareOf t.off t.len off n] } else t

/-- Marks of an MSEND for a store into its destination area. -/
def Transfer.storedDest (t : Transfer) (off n : Nat) : Transfer :=
  if t.kind = 2 && !t.landed && rangesMeet t.doff t.len off n then { t with undef := t.undef ++ [shareOf t.doff t.len off n] }
  else t

/-- A run after a store of rank `r` into its tile's SRAM: outstanding transfers whose source or destination it touches
give results that are not defined (R177). Log: 39 (DEDUCED). -/
def VaneRun.stored (run : VaneRun) (r off n : Nat) : VaneRun :=
  { run with ranks := (run.ranks.zip (List.range run.ranks.length)).map (fun x =>
      { x.1 with transfers := x.1.transfers.map (fun t =>
        let t1 := if x.2 = r then t.storedOwn off n else t
        if t.dest = r then t1.storedDest off n else t1) }) }

/-- A store of bytes by the issuing rank. -/
def VaneEnv.store (e : VaneEnv) (x : State × VaneRun) (off : Nat) (bytes : List Byte) : State × VaneRun :=
  (x.1.putSram e.k.tile off bytes, x.2.stored e.r off bytes.length)

/-- Whether a byte of the rank's tile lies in the destination of one of its own outstanding MGETs. -/
def VaneEnv.awaited (e : VaneEnv) (a : Nat) : Bool :=
  e.k.transfers.any (fun t => t.kind = 0 && t.off ≤ a && a < t.off + t.len)

/-- The byte an MSEND that has not landed brings to offset `a` of the issuing rank's tile, if any (R181). -/
def VaneEnv.arriving (e : VaneEnv) (a : Nat) : Option Byte :=
  ((e.run.ranks.map (fun k => k.transfers.filter (fun t =>
    t.kind = 2 && !t.landed && t.dest = e.r && t.doff ≤ a && a < t.doff + t.len))).flatten.head?).map (fun t =>
      getAt 0 t.data (a - t.doff))

/-- A load of `n` bytes at `off` by the issuing rank (R177, R181): bytes an MGET is to write are not defined; bytes of an
MSEND that has not landed may be seen. Log: 39 (DEDUCED). -/
def VaneEnv.load (e : VaneEnv) (s : State) (off n : Nat) : List Byte × State :=
  let raw := s.readSram e.k.tile off n
  if e.run.ranks.all (fun k => k.transfers.isEmpty) then (raw, s)
  else
    let (fs, s1) := s.freeBytes n
    (((raw.zip fs).zip (List.range n)).map (fun x =>
      if e.awaited (off + x.2) then x.1.2
      else match e.arriving (off + x.2) with
        | some b => if x.1.2.toNat % 2 = 0 then x.1.1 else b
        | none => x.1.1), s1)

/-- Alignment, then range, of the addresses of an access of `w` bytes each (R173). -/
def sramCheck (addrs : List Nat) (w : Nat) : Option Nat :=
  if addrs.any (fun a => a % w ≠ 0) then some Status.vaneMisaligned
  else if addrs.any (fun a => 0x200000 < a + w) then some Status.vaneSramRange
  else none

/-- s[a] + sext(imm), modulo 2^64. -/
def VaneEnv.base (e : VaneEnv) : Nat := unsignedOf 64 (e.sa + e.simm)

/-- SLD. -/
def sldBody (e : VaneEnv) : VaneRes :=
  match sramCheck [e.base] 8 with
  | some st => .bad st
  | none =>
    if e.s.sramPoisoned e.k.tile e.base 8 then .bad Status.memoryError
    else
      let (bs, s1) := e.load e.s e.base 8
      .ok s1 (e.put (e.k.setS e.i.d (leNat bs)))

def execSld (op rank : Nat) (s : State) : Out := .next (vaneExec s op rank 0x1C sldBody)

/-- SST. -/
def sstBody (e : VaneEnv) : VaneRes :=
  match sramCheck [e.base] 8 with
  | some st => .bad st
  | none =>
    let x := e.store (e.s, e.run) e.base (leBytes 8 (e.k.sr e.i.d))
    .ok x.1 x.2

def execSst (op rank : Nat) (s : State) : Out := .next (vaneExec s op rank 0x1D sstBody)

/-- Element width in bytes (R166). -/
def VaneEnv.width (e : VaneEnv) : Nat := if e.i.c = 0 then 1 else if e.i.c = 1 then 2 else 4

/-- A vector load from the active lanes' addresses (R173): poison or a bad address ends the run. -/
def VaneEnv.vload (e : VaneEnv) (addr : Nat → Nat) : VaneRes :=
  let w := e.width
  match sramCheck (e.lanes.map addr) w with
  | some st => .bad st
  | none =>
    if e.lanes.any (fun i => e.s.sramPoisoned e.k.tile (addr i) w) then .bad Status.memoryError
    else
      let r := e.lanes.foldl (fun (x : Tab Nat × State) i =>
        let (bs, s1) := e.load x.2 (addr i) w
        (x.1.set i (leNat bs), s1)) ([], e.s)
      .ok r.2 (e.put (e.vector (fun i => (r.1.get 0 i, 0))))

/-- A vector store: lanes in rising order, so the highest-numbered lane's bytes stay (R174). -/
def VaneEnv.vstore (e : VaneEnv) (addr : Nat → Nat) : VaneRes :=
  let w := e.width
  match sramCheck (e.lanes.map addr) w with
  | some st => .bad st
  | none =>
    let x := e.lanes.foldl (fun x i => e.store x (addr i) (leBytes w (e.k.vr e.i.d i))) (e.s, e.run)
    .ok x.1 x.2

/-- Addresses of lane `i` (R166), modulo 2^64. -/
def VaneEnv.contig (e : VaneEnv) (i : Nat) : Nat := (e.base + i * e.width) % 2 ^ 64

def VaneEnv.strided (e : VaneEnv) (i : Nat) : Nat := (e.base + i * e.sb) % 2 ^ 64

def VaneEnv.gathered (e : VaneEnv) (i : Nat) : Nat := (e.base + e.vb i) % 2 ^ 64

def execVld (op rank : Nat) (s : State) : Out := .next (vaneExec s op rank 0x68 (fun e => e.vload e.contig))

def execVlds (op rank : Nat) (s : State) : Out := .next (vaneExec s op rank 0x69 (fun e => e.vload e.strided))

def execVgath (op rank : Nat) (s : State) : Out := .next (vaneExec s op rank 0x6A (fun e => e.vload e.gathered))

def execVst (op rank : Nat) (s : State) : Out := .next (vaneExec s op rank 0x6B (fun e => e.vstore e.contig))

def execVsts (op rank : Nat) (s : State) : Out := .next (vaneExec s op rank 0x6C (fun e => e.vstore e.strided))

def execVscat (op rank : Nat) (s : State) : Out := .next (vaneExec s op rank 0x6D (fun e => e.vstore e.gathered))

/-- The accumulators changed at the active lanes, with flags. Log: 38 (DEDUCED). -/
def VaneEnv.accs (e : VaneEnv) (f : Nat → Quern → Quern × Nat) : VaneRank :=
  let l : List (Quern × Nat) := (e.k.acc.zip (List.range 64)).map (fun x => if e.active x.2 then f x.2 x.1 else (x.1, 0))
  ({ e.k with acc := l.map (fun (x : Quern × Nat) => x.1) }).flag (l.foldl (fun g (x : Quern × Nat) => g ||| x.2) 0)

def execQclr (op rank : Nat) (s : State) : Out :=
  .next (vaneExec s op rank 0x70 (fun e => e.done (e.accs (fun _ _ => (Quern.zero, 0)))))

/-- The anchor in s[c], if it lies in −512 to 511 (R182). -/
def VaneEnv.anchor (e : VaneEnv) : Option Int :=
  let a := signedOf 64 (e.k.sr e.i.c)
  if -512 ≤ a && a ≤ 511 then some a else none

/-- QMAC (R182). -/
def qmacBody (e : VaneEnv) : VaneRes :=
  match e.anchor with
  | none => .bad Status.vaneBadOperand
  | some a => e.done (e.accs (fun i q =>
      let x := f32 (e.va i)
      let y := f32 (e.vb i)
      let m := x.mul y
      let r := q.add (termOf a m.1)
      (r, m.2 ||| r.flags ||| nanIn [x, y])))

def execQmac (op rank : Nat) (s : State) : Out := .next (vaneExec s op rank 0x71 qmacBody)

/-- QADDV (R182). -/
def qaddvBody (e : VaneEnv) : VaneRes :=
  match e.anchor with
  | none => .bad Status.vaneBadOperand
  | some a => e.done (e.accs (fun i q =>
      let x := f32 (e.va i)
      let r := q.add (termOf a x)
      (r, r.flags ||| nanIn [x])))

def execQaddv (op rank : Nat) (s : State) : Out := .next (vaneExec s op rank 0x72 qaddvBody)

/-- QSUM (R183, R184). -/
def qsumBody (e : VaneEnv) : VaneRes :=
  if !e.active 0 then .bad Status.vaneBadOperand
  else
    let t := e.lanes.foldl (fun q i => q.add (getAt Quern.zero e.k.acc i)) Quern.zero
    e.done (e.accs (fun i _ => if i = 0 then (t, t.flags) else (Quern.zero, 0)))

def execQsum (op rank : Nat) (s : State) : Out := .next (vaneExec s op rank 0x73 qsumBody)

/-- Address of lane `i`'s Q128 integer (R184). -/
def VaneEnv.q128At (e : VaneEnv) (i : Nat) : Nat := (e.base + 16 * i) % 2 ^ 64

/-- The checks of QLD and QST (R184). -/
def VaneEnv.q128Check (e : VaneEnv) : Option Nat :=
  if e.lanes.isEmpty then none else sramCheck (e.sb :: e.lanes.map e.q128At) 16

/-- QLD (R184). -/
def qldBody (e : VaneEnv) : VaneRes :=
  if e.lanes.isEmpty then e.done e.k
  else match e.q128Check with
    | some st => .bad st
    | none =>
      if e.s.sramPoisoned e.k.tile e.sb 16 || e.lanes.any (fun i => e.s.sramPoisoned e.k.tile (e.q128At i) 16) then
        .bad Status.memoryError
      else
        let (tags, s0) := e.load e.s e.sb 16
        let r := e.lanes.foldl (fun (x : Tab Nat × State) i =>
          let (bs, s1) := e.load x.2 (e.q128At i) 16
          (x.1.set i (leNat bs), s1)) ([], s0)
        .ok r.2 (e.put (e.accs (fun i _ => (quernOf (r.1.get 0 i) (bitsOf (leNat tags) (2 * i) 2), 0))))

def execQld (op rank : Nat) (s : State) : Out := .next (vaneExec s op rank 0x74 qldBody)

/-- QST (R184, R185): an overflowed lane is written with tag NAN and counted; inside a sluice it ends the run.
Log: 38 (DEDUCED). -/
def qstBody (e : VaneEnv) : VaneRes :=
  if e.lanes.isEmpty then e.done e.k
  else match e.q128Check with
    | some st => .bad st
    | none =>
      let acc (i : Nat) : Quern := getAt Quern.zero e.k.acc i
      let ovf := (e.lanes.filter (fun i => (acc i).overflowed)).length
      if ovf ≠ 0 && e.o.sluice ≠ 0 then .bad Status.quernOverflow
      else
        let x := e.lanes.foldl (fun x i => e.store x (e.q128At i) (leBytes 16 (acc i).q128.1)) (e.s, e.run)
        let old := leNat (x.1.readSram e.k.tile e.sb 16)
        let tags := e.lanes.foldl (fun w i => setBits w (2 * i) 2 (acc i).q128.2) old
        let y := ((List.range 16).filter (fun j => e.lanes.any (fun i => i / 4 = j))).foldl (fun y j =>
          e.store y (e.sb + j) [BitVec.ofNat 8 (bitsOf tags (8 * j) 8)]) x
        .ok y.1 { y.2 with ovf := y.2.ovf + ovf }

def execQst (op rank : Nat) (s : State) : Out := .next (vaneExec s op rank 0x75 qstBody)

/-- A transfer issued by the rank, under the next number of its run. -/
def VaneEnv.issue (e : VaneEnv) (t : Transfer) : VaneRes :=
  if 16 ≤ e.k.transfers.length then .wait
  else
    let run := e.put { e.k with transfers := e.k.transfers ++ [{ t with id := e.run.nextTransfer, pc := e.k.pc }] }
    .ok e.s { run with nextTransfer := e.run.nextTransfer + 1 }

/-- s[c]. -/
def VaneEnv.scv (e : VaneEnv) : Nat := e.k.sr e.i.c

/-- The operand checks of MGET and MPUT (R176). -/
def VaneEnv.moveOk (e : VaneEnv) : Bool :=
  e.sa < 2 ^ 55 && 1 ≤ e.scv && e.scv ≤ 0x200000 && e.sb + e.scv ≤ 0x200000

/-- MGET and MPUT (R176, R177): an MPUT's bytes are those of the tile's SRAM at issue. Log: 39 (DEDUCED). -/
def moveBody (put : Bool) (e : VaneEnv) : VaneRes :=
  if !e.moveOk then .bad Status.vaneBadOperand
  else if put && e.s.sramPoisoned e.k.tile e.sb e.scv then .bad Status.memoryError
  else
    e.issue { id := 0, kind := if put then 1 else 0, va := e.sa, off := e.sb, len := e.scv, dest := 0, doff := 0
              counter := 0, inc := false, data := if put then e.s.readSram e.k.tile e.sb e.scv else []
              undef := [], landed := false, pc := 0 }

def execMget (op rank : Nat) (s : State) : Out := .next (vaneExec s op rank 0x78 (moveBody false))

def execMput (op rank : Nat) (s : State) : Out := .next (vaneExec s op rank 0x79 (moveBody true))

/-- MSEND (R180). Log: 39 (DEDUCED). -/
def msendBody (e : VaneEnv) : VaneRes :=
  let n := e.k.sr e.i.d
  if e.run.tiles.length ≤ e.sa || n = 0 || 0x200000 < n || 0x200000 < e.scv + n || 0x200000 < e.sb + n then
    .bad Status.vaneBadOperand
  else if e.s.sramPoisoned e.k.tile e.scv n then .bad Status.memoryError
  else
    e.issue { id := 0, kind := 2, va := 0, off := e.scv, len := n, dest := e.sa, doff := e.sb
              counter := e.i.imm % 16, inc := e.i.imm.testBit 4, data := e.s.readSram e.k.tile e.scv n
              undef := [], landed := false, pc := 0 }

def execMsend (op rank : Nat) (s : State) : Out := .next (vaneExec s op rank 0x7A msendBody)

/-- MWAIT: waits until at most imm transfers are outstanding. -/
def execMwait (op rank : Nat) (s : State) : Out :=
  .next (vaneExec s op rank 0x7B (fun e => if e.k.transfers.length ≤ e.i.imm then e.done e.k else .wait))

end Sys2Proof.Machine
end

