-- ==== Sys2Proof/Machine/Dispatch.lean ====
section
/-! DEFINITION. The effect of each command: one arm a constructor, each a direct call of that command's meaning. -/

namespace Sys2Proof.Machine

def exec (i : Instr) (s : State) : Host.Outcome State Fault Refusal :=
  match i with
  | .descriptorFetch fn sq desc => Sys2Proof.Machine.execDescriptorFetch fn sq desc s
  | .doorbellSnoop line data => Sys2Proof.Machine.execDoorbellSnoop line data s
  | .doorbellPoll line data => Sys2Proof.Machine.execDoorbellPoll line data s
  | .cqRoomPoll fn cq word => Sys2Proof.Machine.execCqRoomPoll fn cq word s
  | .cqStalled fn cq => Sys2Proof.Machine.execCqStalled fn cq s
  | .eqHeadPoll fn word => Sys2Proof.Machine.execEqHeadPoll fn word s
  | .opComplete op => Sys2Proof.Machine.execOpComplete op s
  | .irqDelayExpiry fn cq => Sys2Proof.Machine.execIrqDelayExpiry fn cq s
  | .eventWaitRecheck op => Sys2Proof.Machine.execEventWaitRecheck op s
  | .setCtxTable fn => Sys2Proof.Machine.execSetCtxTable fn s
  | .createEq fn => Sys2Proof.Machine.execCreateEq fn s
  | .destroyEq fn => Sys2Proof.Machine.execDestroyEq fn s
  | .createCq fn => Sys2Proof.Machine.execCreateCq fn s
  | .destroyCq fn => Sys2Proof.Machine.execDestroyCq fn s
  | .createSq fn record => Sys2Proof.Machine.execCreateSq fn record s
  | .destroySq fn => Sys2Proof.Machine.execDestroySq fn s
  | .destroySqDone fn => Sys2Proof.Machine.execDestroySqDone fn s
  | .nop op => Sys2Proof.Machine.execNop op s
  | .flumeCopy op => Sys2Proof.Machine.execFlumeCopy op s
  | .flumeSegmentDone op seg ext => Sys2Proof.Machine.execFlumeSegmentDone op seg ext s
  | .loftPrefetch op => Sys2Proof.Machine.execLoftPrefetch op s
  | .loftDemote op => Sys2Proof.Machine.execLoftDemote op s
  | .millGemm op ext => Sys2Proof.Machine.execMillGemm op ext s
  | .millGgemm op ext => Sys2Proof.Machine.execMillGgemm op ext s
  | .millAttend op ext => Sys2Proof.Machine.execMillAttend op ext s
  | .millPack op => Sys2Proof.Machine.execMillPack op s
  | .fillLanded op rank b seq half ext => Sys2Proof.Machine.execFillLanded op rank b seq half ext s
  | .ksplitDelivery op rank ext => Sys2Proof.Machine.execKsplitDelivery op rank ext s
  | .millBlockDone op rank ext => Sys2Proof.Machine.execMillBlockDone op rank ext s
  | .walkDone die fn slot va tile op => Sys2Proof.Machine.execWalkDone die fn slot va tile op s
  | .vaneLoad op ext => Sys2Proof.Machine.execVaneLoad op ext s
  | .vaneRun op => Sys2Proof.Machine.execVaneRun op s
  | .vaneRunStart op => Sys2Proof.Machine.execVaneRunStart op s
  | .vaneRunComplete op => Sys2Proof.Machine.execVaneRunComplete op s
  | .vaneTimeout op rank => Sys2Proof.Machine.execVaneTimeout op rank s
  | .transferDone op rank id ext => Sys2Proof.Machine.execTransferDone op rank id ext s
  | .msendLanded op rank id => Sys2Proof.Machine.execMsendLanded op rank id s
  | .vaneNop op rank => Sys2Proof.Machine.execVaneNop op rank s
  | .halt op rank => Sys2Proof.Machine.execHalt op rank s
  | .trap op rank => Sys2Proof.Machine.execTrap op rank s
  | .fence op rank => Sys2Proof.Machine.execFence op rank s
  | .br op rank => Sys2Proof.Machine.execBr op rank s
  | .beq op rank => Sys2Proof.Machine.execBeq op rank s
  | .bne op rank => Sys2Proof.Machine.execBne op rank s
  | .blt op rank => Sys2Proof.Machine.execBlt op rank s
  | .bge op rank => Sys2Proof.Machine.execBge op rank s
  | .bltu op rank => Sys2Proof.Machine.execBltu op rank s
  | .jal op rank => Sys2Proof.Machine.execJal op rank s
  | .jr op rank => Sys2Proof.Machine.execJr op rank s
  | .bany op rank => Sys2Proof.Machine.execBany op rank s
  | .bnone op rank => Sys2Proof.Machine.execBnone op rank s
  | .srd op rank => Sys2Proof.Machine.execSrd op rank s
  | .waitc op rank => Sys2Proof.Machine.execWaitc op rank s
  | .sadd op rank => Sys2Proof.Machine.execSadd op rank s
  | .ssub op rank => Sys2Proof.Machine.execSsub op rank s
  | .smul op rank => Sys2Proof.Machine.execSmul op rank s
  | .sand op rank => Sys2Proof.Machine.execSand op rank s
  | .sor op rank => Sys2Proof.Machine.execSor op rank s
  | .sxor op rank => Sys2Proof.Machine.execSxor op rank s
  | .sshl op rank => Sys2Proof.Machine.execSshl op rank s
  | .sshr op rank => Sys2Proof.Machine.execSshr op rank s
  | .ssra op rank => Sys2Proof.Machine.execSsra op rank s
  | .saddi op rank => Sys2Proof.Machine.execSaddi op rank s
  | .smovi op rank => Sys2Proof.Machine.execSmovi op rank s
  | .smovhi op rank => Sys2Proof.Machine.execSmovhi op rank s
  | .sld op rank => Sys2Proof.Machine.execSld op rank s
  | .sst op rank => Sys2Proof.Machine.execSst op rank s
  | .sslt op rank => Sys2Proof.Machine.execSslt op rank s
  | .vadd op rank => Sys2Proof.Machine.execVadd op rank s
  | .vsub op rank => Sys2Proof.Machine.execVsub op rank s
  | .vmul op rank => Sys2Proof.Machine.execVmul op rank s
  | .vfma op rank => Sys2Proof.Machine.execVfma op rank s
  | .vfms op rank => Sys2Proof.Machine.execVfms op rank s
  | .vmin op rank => Sys2Proof.Machine.execVmin op rank s
  | .vmax op rank => Sys2Proof.Machine.execVmax op rank s
  | .vabs op rank => Sys2Proof.Machine.execVabs op rank s
  | .vneg op rank => Sys2Proof.Machine.execVneg op rank s
  | .vdiv op rank => Sys2Proof.Machine.execVdiv op rank s
  | .vsqrt op rank => Sys2Proof.Machine.execVsqrt op rank s
  | .vadds op rank => Sys2Proof.Machine.execVadds op rank s
  | .vmuls op rank => Sys2Proof.Machine.execVmuls op rank s
  | .vfmas op rank => Sys2Proof.Machine.execVfmas op rank s
  | .hadd op rank => Sys2Proof.Machine.execHadd op rank s
  | .hsub op rank => Sys2Proof.Machine.execHsub op rank s
  | .hmul op rank => Sys2Proof.Machine.execHmul op rank s
  | .hfma op rank => Sys2Proof.Machine.execHfma op rank s
  | .hmin op rank => Sys2Proof.Machine.execHmin op rank s
  | .hmax op rank => Sys2Proof.Machine.execHmax op rank s
  | .vexp op rank => Sys2Proof.Machine.execVexp op rank s
  | .vlog op rank => Sys2Proof.Machine.execVlog op rank s
  | .vrcp op rank => Sys2Proof.Machine.execVrcp op rank s
  | .vrsqrt op rank => Sys2Proof.Machine.execVrsqrt op rank s
  | .vsin op rank => Sys2Proof.Machine.execVsin op rank s
  | .vcos op rank => Sys2Proof.Machine.execVcos op rank s
  | .vtanh op rank => Sys2Proof.Machine.execVtanh op rank s
  | .verf op rank => Sys2Proof.Machine.execVerf op rank s
  | .viadd op rank => Sys2Proof.Machine.execViadd op rank s
  | .visub op rank => Sys2Proof.Machine.execVisub op rank s
  | .vimul op rank => Sys2Proof.Machine.execVimul op rank s
  | .vand op rank => Sys2Proof.Machine.execVand op rank s
  | .vor op rank => Sys2Proof.Machine.execVor op rank s
  | .vxor op rank => Sys2Proof.Machine.execVxor op rank s
  | .vshl op rank => Sys2Proof.Machine.execVshl op rank s
  | .vshr op rank => Sys2Proof.Machine.execVshr op rank s
  | .vsra op rank => Sys2Proof.Machine.execVsra op rank s
  | .vimin op rank => Sys2Proof.Machine.execVimin op rank s
  | .vimax op rank => Sys2Proof.Machine.execVimax op rank s
  | .vcmp op rank => Sys2Proof.Machine.execVcmp op rank s
  | .vicmp op rank => Sys2Proof.Machine.execVicmp op rank s
  | .pand op rank => Sys2Proof.Machine.execPand op rank s
  | .por op rank => Sys2Proof.Machine.execPor op rank s
  | .pxor op rank => Sys2Proof.Machine.execPxor op rank s
  | .pnot op rank => Sys2Proof.Machine.execPnot op rank s
  | .pset op rank => Sys2Proof.Machine.execPset op rank s
  | .pget op rank => Sys2Proof.Machine.execPget op rank s
  | .vsel op rank => Sys2Proof.Machine.execVsel op rank s
  | .vmovi op rank => Sys2Proof.Machine.execVmovi op rank s
  | .vbcast op rank => Sys2Proof.Machine.execVbcast op rank s
  | .vlane op rank => Sys2Proof.Machine.execVlane op rank s
  | .vshuf op rank => Sys2Proof.Machine.execVshuf op rank s
  | .vextr op rank => Sys2Proof.Machine.execVextr op rank s
  | .vins op rank => Sys2Proof.Machine.execVins op rank s
  | .vpk2 op rank => Sys2Proof.Machine.execVpk2 op rank s
  | .vrsum op rank => Sys2Proof.Machine.execVrsum op rank s
  | .vrmax op rank => Sys2Proof.Machine.execVrmax op rank s
  | .vrmin op rank => Sys2Proof.Machine.execVrmin op rank s
  | .vcvt op rank => Sys2Proof.Machine.execVcvt op rank s
  | .vpk4 op rank => Sys2Proof.Machine.execVpk4 op rank s
  | .vld op rank => Sys2Proof.Machine.execVld op rank s
  | .vlds op rank => Sys2Proof.Machine.execVlds op rank s
  | .vgath op rank => Sys2Proof.Machine.execVgath op rank s
  | .vst op rank => Sys2Proof.Machine.execVst op rank s
  | .vsts op rank => Sys2Proof.Machine.execVsts op rank s
  | .vscat op rank => Sys2Proof.Machine.execVscat op rank s
  | .qclr op rank => Sys2Proof.Machine.execQclr op rank s
  | .qmac op rank => Sys2Proof.Machine.execQmac op rank s
  | .qaddv op rank => Sys2Proof.Machine.execQaddv op rank s
  | .qsum op rank => Sys2Proof.Machine.execQsum op rank s
  | .qld op rank => Sys2Proof.Machine.execQld op rank s
  | .qst op rank => Sys2Proof.Machine.execQst op rank s
  | .mget op rank => Sys2Proof.Machine.execMget op rank s
  | .mput op rank => Sys2Proof.Machine.execMput op rank s
  | .msend op rank => Sys2Proof.Machine.execMsend op rank s
  | .mwait op rank => Sys2Proof.Machine.execMwait op rank s
  | .vaneUndefinedInstr op rank => Sys2Proof.Machine.execVaneUndefinedInstr op rank s
  | .redOpen op ext => Sys2Proof.Machine.execRedOpen op ext s
  | .redRun op => Sys2Proof.Machine.execRedRun op s
  | .redClose op => Sys2Proof.Machine.execRedClose op s
  | .redTableCrc fn gid dev crc => Sys2Proof.Machine.execRedTableCrc fn gid dev crc s
  | .redContribution fn gid gen chunk mask data ext => Sys2Proof.Machine.execRedContribution fn gid gen chunk mask data ext s
  | .redRunDone op part ext => Sys2Proof.Machine.execRedRunDone op part ext s
  | .redTimeout op => Sys2Proof.Machine.execRedTimeout op s
  | .redCancel fn gid gen => Sys2Proof.Machine.execRedCancel fn gid gen s
  | .sluiceOpen op ext => Sys2Proof.Machine.execSluiceOpen op ext s
  | .sluiceGuard op => Sys2Proof.Machine.execSluiceGuard op s
  | .sluiceCommit op => Sys2Proof.Machine.execSluiceCommit op s
  | .sluiceAbort op => Sys2Proof.Machine.execSluiceAbort op s
  | .sluiceDrained fn id => Sys2Proof.Machine.execSluiceDrained fn id s
  | .sluiceHoldAcked fn id => Sys2Proof.Machine.execSluiceHoldAcked fn id s
  | .sluicePublished fn id => Sys2Proof.Machine.execSluicePublished fn id s
  | .sluiceAbortDone fn id => Sys2Proof.Machine.execSluiceAbortDone fn id s
  | .sluiceVote mere id dev commit reason origin => Sys2Proof.Machine.execSluiceVote mere id dev commit reason origin s
  | .sluiceDecision mere id commit reason origin => Sys2Proof.Machine.execSluiceDecision mere id commit reason origin s
  | .sluiceAck mere id dev => Sys2Proof.Machine.execSluiceAck mere id dev s
  | .sluiceAbortForward mere id dev => Sys2Proof.Machine.execSluiceAbortForward mere id dev s
  | .sluiceCommitTimeout fn id => Sys2Proof.Machine.execSluiceCommitTimeout fn id s
  | .commitUnconfirmed fn id => Sys2Proof.Machine.execCommitUnconfirmed fn id s
  | .stageWaysApply die => Sys2Proof.Machine.execStageWaysApply die s
  | .spillRegionApply die => Sys2Proof.Machine.execSpillRegionApply die s
  | .pondCreate op ext => Sys2Proof.Machine.execPondCreate op ext s
  | .pondRebind op ext => Sys2Proof.Machine.execPondRebind op ext s
  | .pondDestroy op => Sys2Proof.Machine.execPondDestroy op s
  | .pondSched op => Sys2Proof.Machine.execPondSched op s
  | .plotMapPlace op => Sys2Proof.Machine.execPlotMapPlace op s
  | .plotMapRemove op => Sys2Proof.Machine.execPlotMapRemove op s
  | .rebindCopyPassDone pond => Sys2Proof.Machine.execRebindCopyPassDone pond s
  | .rebindPoint pond => Sys2Proof.Machine.execRebindPoint pond s
  | .rebindSwitchDone pond => Sys2Proof.Machine.execRebindSwitchDone pond s
  | .rebindTimeout pond => Sys2Proof.Machine.execRebindTimeout pond s
  | .unitFence op => Sys2Proof.Machine.execUnitFence op s
  | .unitRestore op passed => Sys2Proof.Machine.execUnitRestore op passed s
  | .unitFailure cls unit => Sys2Proof.Machine.execUnitFailure cls unit s
  | .regrow pond => Sys2Proof.Machine.execRegrow pond s
  | .seamCrcFail seam again => Sys2Proof.Machine.execSeamCrcFail seam again s
  | .seamReplayTimeout seam => Sys2Proof.Machine.execSeamReplayTimeout seam s
  | .ctxSched op => Sys2Proof.Machine.execCtxSched op s
  | .quantumExpiry pond => Sys2Proof.Machine.execQuantumExpiry pond s
  | .contextDrainDone pond record => Sys2Proof.Machine.execContextDrainDone pond record s
  | .contextSaveDone pond => Sys2Proof.Machine.execContextSaveDone pond s
  | .contextRestoreDone pond => Sys2Proof.Machine.execContextRestoreDone pond s
  | .slotGrant => Sys2Proof.Machine.execSlotGrant s
  | .slotIdleTimeout slot => Sys2Proof.Machine.execSlotIdleTimeout slot s
  | .slotLoadDone slot record => Sys2Proof.Machine.execSlotLoadDone slot record s
  | .beatSet op => Sys2Proof.Machine.execBeatSet op s
  | .beatStep op => Sys2Proof.Machine.execBeatStep op s
  | .beatStart pond => Sys2Proof.Machine.execBeatStart pond s
  | .beatEnd pond => Sys2Proof.Machine.execBeatEnd pond s
  | .xlatRoot op => Sys2Proof.Machine.execXlatRoot op s
  | .xlatRootRemove op => Sys2Proof.Machine.execXlatRootRemove op s
  | .xlatInval op => Sys2Proof.Machine.execXlatInval op s
  | .xlatInvalDone op => Sys2Proof.Machine.execXlatInvalDone op s
  | .xlatDirtyStart op => Sys2Proof.Machine.execXlatDirtyStart op s
  | .xlatDirtyStop op => Sys2Proof.Machine.execXlatDirtyStop op s
  | .xlatDirtySwap op => Sys2Proof.Machine.execXlatDirtySwap op s
  | .instQuiesce op => Sys2Proof.Machine.execInstQuiesce op s
  | .quiesceDrained inst => Sys2Proof.Machine.execQuiesceDrained inst s
  | .quiesceTimeout inst => Sys2Proof.Machine.execQuiesceTimeout inst s
  | .instResume op words => Sys2Proof.Machine.execInstResume op words s
  | .instLimits op => Sys2Proof.Machine.execInstLimits op s
  | .instSave op records => Sys2Proof.Machine.execInstSave op records s
  | .instRestore op => Sys2Proof.Machine.execInstRestore op s
  | .instNotice op => Sys2Proof.Machine.execInstNotice op s
  | .forcedInstanceReset inst => Sys2Proof.Machine.execForcedInstanceReset inst s
  | .instanceResetDone inst => Sys2Proof.Machine.execInstanceResetDone inst s
  | .vfEnableClear enable num => Sys2Proof.Machine.execVfEnableClear enable num s
  | .hostAccessError fn kind target => Sys2Proof.Machine.execHostAccessError fn kind target s
  | .bar2Access fn off write len data ext => Sys2Proof.Machine.execBar2Access fn off write len data ext s
  | .cxlMemAccess kind off data recalled => Sys2Proof.Machine.execCxlMemAccess kind off data recalled s
  | .hbmReadDone off lat ret => Sys2Proof.Machine.execHbmReadDone off lat ret s
  | .weirRecompute port => Sys2Proof.Machine.execWeirRecompute port s
  | .weirCreditPeriod => Sys2Proof.Machine.execWeirCreditPeriod s
  | .requestAgeTimeout req => Sys2Proof.Machine.execRequestAgeTimeout req s
  | .weirWindowEnd => Sys2Proof.Machine.execWeirWindowEnd s
  | .weirEvalPeriod period => Sys2Proof.Machine.execWeirEvalPeriod period s
  | .patrolRead off loft err => Sys2Proof.Machine.execPatrolRead off loft err s
  | .bucketLeak cls unit => Sys2Proof.Machine.execBucketLeak cls unit s
  | .sublinkTrainStart sub => Sys2Proof.Machine.execSublinkTrainStart sub s
  | .lightDetect sub lanes => Sys2Proof.Machine.execLightDetect sub lanes s
  | .capabilityFrame sub frame => Sys2Proof.Machine.execCapabilityFrame sub frame s
  | .trainingStepDone sub lanes ok => Sys2Proof.Machine.execTrainingStepDone sub lanes ok s
  | .linkTestDone sub pass => Sys2Proof.Machine.execLinkTestDone sub pass s
  | .trainingRetryTimer sub => Sys2Proof.Machine.execTrainingRetryTimer sub s
  | .flitCrcFail sub fixed uncorr again => Sys2Proof.Machine.execFlitCrcFail sub fixed uncorr again s
  | .replayAckTimeout sub => Sys2Proof.Machine.execReplayAckTimeout sub s
  | .retrainDone sub pass => Sys2Proof.Machine.execRetrainDone sub pass s
  | .laneLockLost sub lane => Sys2Proof.Machine.execLaneLockLost sub lane s
  | .lightLoss sub => Sys2Proof.Machine.execLightLoss sub s
  | .holdExpiry sub ops => Sys2Proof.Machine.execHoldExpiry sub ops s
  | .neighbourNotice sub fence => Sys2Proof.Machine.execNeighbourNotice sub fence s
  | .noticeDrainDone sub => Sys2Proof.Machine.execNoticeDrainDone sub s
  | .remoteRequest src tag mere kind off len slu data sub => Sys2Proof.Machine.execRemoteRequest src tag mere kind off len slu data sub s
  | .windowAccess src tag mere idx kind off data host poison sub => Sys2Proof.Machine.execWindowAccess src tag mere idx kind off data host poison sub s
  | .mereBind op => Sys2Proof.Machine.execMereBind op s
  | .mereUnbind op => Sys2Proof.Machine.execMereUnbind op s
  | .windowSet op => Sys2Proof.Machine.execWindowSet op s
  | .windowClear op => Sys2Proof.Machine.execWindowClear op s
  | .windowClearDone idx => Sys2Proof.Machine.execWindowClearDone idx s
  | .pushSubscribe op reply => Sys2Proof.Machine.execPushSubscribe op reply s
  | .pushCancel op reply => Sys2Proof.Machine.execPushCancel op reply s
  | .pushWriteLand num off data slu => Sys2Proof.Machine.execPushWriteLand num off data slu s
  | .pushTimeout op => Sys2Proof.Machine.execPushTimeout op s
  | .fabConfirm op => Sys2Proof.Machine.execFabConfirm op s
  | .hello sub dev state leaderOk => Sys2Proof.Machine.execHello sub dev state leaderOk s
  | .vectorReceived sub group dists links leaders anchor dups => Sys2Proof.Machine.execVectorReceived sub group dists links leaders anchor dups s
  | .joinRoundEnd => Sys2Proof.Machine.execJoinRoundEnd s
  | .groupReport group leader members dup bitmap => Sys2Proof.Machine.execGroupReport group leader members dup bitmap s
  | .groupReportResend => Sys2Proof.Machine.execGroupReportResend s
  | .confirmationReceived group conf => Sys2Proof.Machine.execConfirmationReceived group conf s
  | .faultReportSend kind a b c => Sys2Proof.Machine.execFaultReportSend kind a b c s
  | .leaderFaultWindow => Sys2Proof.Machine.execLeaderFaultWindow s
  | .faultReport fp devices count lowest group => Sys2Proof.Machine.execFaultReport fp devices count lowest group s
  | .unreachTimer dev ops => Sys2Proof.Machine.execUnreachTimer dev ops s
  | .timeExchange => Sys2Proof.Machine.execTimeExchange s
  | .timeRequestReceived sub t1 => Sys2Proof.Machine.execTimeRequestReceived sub t1 s
  | .timeReply t2 t3 => Sys2Proof.Machine.execTimeReply t2 t3 s
  | .wakeMessage dst sub => Sys2Proof.Machine.execWakeMessage dst sub s
  | .pwrReqHigh => Sys2Proof.Machine.execPwrReqHigh s
  | .pwrReqLow => Sys2Proof.Machine.execPwrReqLow s
  | .xrailGoodRise => Sys2Proof.Machine.execXrailGoodRise s
  | .hbmGoodRise => Sys2Proof.Machine.execHbmGoodRise s
  | .powerStepDone => Sys2Proof.Machine.execPowerStepDone s
  | .powerStepTimeout => Sys2Proof.Machine.execPowerStepTimeout s
  | .goodSignalLost hbm => Sys2Proof.Machine.execGoodSignalLost hbm s
  | .vin12Fault => Sys2Proof.Machine.execVin12Fault s
  | .aonSupplyLost => Sys2Proof.Machine.execAonSupplyLost s
  | .powerOnReset => Sys2Proof.Machine.execPowerOnReset s
  | .voltageCommand value => Sys2Proof.Machine.execVoltageCommand value s
  | .islandSettled island => Sys2Proof.Machine.execIslandSettled island s
  | .sailWindow die demand ponds => Sys2Proof.Machine.execSailWindow die demand ponds s
  | .meterRead unit energy loft clocks bytes fault => Sys2Proof.Machine.execMeterRead unit energy loft clocks bytes fault s
  | .furlUpdate power => Sys2Proof.Machine.execFurlUpdate power s
  | .droopCrossing dom => Sys2Proof.Machine.execDroopCrossing dom s
  | .droopRecover dom clocks => Sys2Proof.Machine.execDroopRecover dom clocks s
  | .croakNAssert => Sys2Proof.Machine.execCroakNAssert s
  | .croakRearm => Sys2Proof.Machine.execCroakRearm s
  | .tempSample island temp => Sys2Proof.Machine.execTempSample island temp s
  | .hbmTempRead port temp => Sys2Proof.Machine.execHbmTempRead port temp s
  | .thermalStepTimer island => Sys2Proof.Machine.execThermalStepTimer island s
  | .tallyCoef op => Sys2Proof.Machine.execTallyCoef op s
  | .tallyClose op => Sys2Proof.Machine.execTallyClose op s
  | .tallyWindowClose pond => Sys2Proof.Machine.execTallyWindowClose pond s
  | .recordSign => Sys2Proof.Machine.execRecordSign s
  | .tallyCheckpoint => Sys2Proof.Machine.execTallyCheckpoint s
  | .pubkey reg => Sys2Proof.Machine.execPubkey reg s
  | .sign reg e => Sys2Proof.Machine.execSign reg e s
  | .verify x y e r t => Sys2Proof.Machine.execVerify x y e r t s
  | .ecdh reg x y => Sys2Proof.Machine.execEcdh reg x y s
  | .signingCallDone head => Sys2Proof.Machine.execSigningCallDone head s
  | .hashSegmentDone caller data last => Sys2Proof.Machine.execHashSegmentDone caller data last s
  | .hashSuspend caller => Sys2Proof.Machine.execHashSuspend caller s
  | .hashResume caller => Sys2Proof.Machine.execHashResume caller s
  | .lcNonce tr => Sys2Proof.Machine.execLcNonce tr s
  | .lcRequest tr dest nonce x y r t fuseOk => Sys2Proof.Machine.execLcRequest tr dest nonce x y r t fuseOk s
  | .lcNonceExpiry => Sys2Proof.Machine.execLcNonceExpiry s
  | .lcTransitionReset => Sys2Proof.Machine.execLcTransitionReset s
  | .lcPubkeys tr => Sys2Proof.Machine.execLcPubkeys tr s
  | .getVersion tr => Sys2Proof.Machine.execGetVersion tr s
  | .getCapabilities tr version => Sys2Proof.Machine.execGetCapabilities tr version s
  | .negotiateAlgorithms tr ok => Sys2Proof.Machine.execNegotiateAlgorithms tr ok s
  | .getDigests tr => Sys2Proof.Machine.execGetDigests tr s
  | .getCertificate tr off len => Sys2Proof.Machine.execGetCertificate tr off len s
  | .challenge tr transcript => Sys2Proof.Machine.execChallenge tr transcript s
  | .getMeasurements tr index signed transcript => Sys2Proof.Machine.execGetMeasurements tr index signed transcript s
  | .keyExchange tr id x y transcript => Sys2Proof.Machine.execKeyExchange tr id x y transcript s
  | .finish tr id ok => Sys2Proof.Machine.execFinish tr id ok s
  | .heartbeat tr id => Sys2Proof.Machine.execHeartbeat tr id s
  | .keyUpdate tr id => Sys2Proof.Machine.execKeyUpdate tr id s
  | .endSession tr id => Sys2Proof.Machine.execEndSession tr id s
  | .bootLog tr => Sys2Proof.Machine.execBootLog tr s
  | .fenceList tr => Sys2Proof.Machine.execFenceList tr s
  | .regRead tr addr => Sys2Proof.Machine.execRegRead tr addr s
  | .regWrite tr addr value => Sys2Proof.Machine.execRegWrite tr addr value s
  | .setupUnlock tr => Sys2Proof.Machine.execSetupUnlock tr s
  | .deviceReset tr => Sys2Proof.Machine.execDeviceReset tr s
  | .deviceResetDelay => Sys2Proof.Machine.execDeviceResetDelay s
  | .svnCommit tr t => Sys2Proof.Machine.execSvnCommit tr t s
  | .configWrite tr data => Sys2Proof.Machine.execConfigWrite tr data s
  | .mctpSetEid tr eid => Sys2Proof.Machine.execMctpSetEid tr eid s
  | .pldmSensorRead tr n => Sys2Proof.Machine.execPldmSensorRead tr n s
  | .pldmFwTransfer tr comps data => Sys2Proof.Machine.execPldmFwTransfer tr comps data s
  | .activateFirmware tr comps => Sys2Proof.Machine.execActivateFirmware tr comps s
  | .millwrightWatchdog => Sys2Proof.Machine.execMillwrightWatchdog s
  | .mwRestartDone => Sys2Proof.Machine.execMwRestartDone s
  | .mwStartTimeout => Sys2Proof.Machine.execMwStartTimeout s
  | .perstNAssert => Sys2Proof.Machine.execPerstNAssert s
  | .perstNRelease => Sys2Proof.Machine.execPerstNRelease s
  | .hotReset => Sys2Proof.Machine.execHotReset s
  | .pfFlr => Sys2Proof.Machine.execPfFlr s
  | .hostLinkTrained mode flit speed width => Sys2Proof.Machine.execHostLinkTrained mode flit speed width s
  | .bootStepDone ok => Sys2Proof.Machine.execBootStepDone ok s
  | .selfTestDone cls unit pass => Sys2Proof.Machine.execSelfTestDone cls unit pass s
  | .rootPllLock => Sys2Proof.Machine.execRootPllLock s
  | .clkRefLoss => Sys2Proof.Machine.execClkRefLoss s
  | .clkRefReturn => Sys2Proof.Machine.execClkRefReturn s
  | .timeLoRead => Sys2Proof.Machine.execTimeLoRead s
  | .timeSet hi => Sys2Proof.Machine.execTimeSet hi s
  | .idleTimerExpiry => Sys2Proof.Machine.execIdleTimerExpiry s
  | .brumEntryStepDone words => Sys2Proof.Machine.execBrumEntryStepDone words s
  | .wakeEvent src => Sys2Proof.Machine.execWakeEvent src s
  | .wakeStepDone => Sys2Proof.Machine.execWakeStepDone s
  | .setupLockWrite value => Sys2Proof.Machine.execSetupLockWrite value s
  | .instCfgWrite value => Sys2Proof.Machine.execInstCfgWrite value s
  | .stageWaysWrite die value => Sys2Proof.Machine.execStageWaysWrite die value s
  | .spillRegionWrite die value => Sys2Proof.Machine.execSpillRegionWrite die value s
  | .brumEnableWrite on => Sys2Proof.Machine.execBrumEnableWrite on s
  | .brumWakeWrite dev => Sys2Proof.Machine.execBrumWakeWrite dev s
  | .leatRetrainWrite sub => Sys2Proof.Machine.execLeatRetrainWrite sub s
  | .genCapWrite sub value => Sys2Proof.Machine.execGenCapWrite sub value s
  | .routeTableWrite table idx value => Sys2Proof.Machine.execRouteTableWrite table idx value s
  | .weirPondCfgWrite value => Sys2Proof.Machine.execWeirPondCfgWrite value s
  | .tallyEnableWrite value => Sys2Proof.Machine.execTallyEnableWrite value s
  | .registerWrite fn off data record => Sys2Proof.Machine.execRegisterWrite fn off data record s
  | .croakNRelease => Sys2Proof.Machine.execCroakNRelease s
  | .transitPacket src tag dst addr sub cls data => Sys2Proof.Machine.execTransitPacket src tag dst addr sub cls data s
  | .faultReportAtLeader fp dev count => Sys2Proof.Machine.execFaultReportAtLeader fp dev count s
  | .sluiceAbortAnswer mere id committed => Sys2Proof.Machine.execSluiceAbortAnswer mere id committed s
  | .pushSubscribeAtProducer src mere num off dst len cancel sub => Sys2Proof.Machine.execPushSubscribeAtProducer src mere num off dst len cancel sub s
  | .tallyBacklogDrain head => Sys2Proof.Machine.execTallyBacklogDrain head s

end Sys2Proof.Machine
end

