-- ==== Sys2Proof/Safety.lean ====
section
/-! DEFINITION. What claims about the block are stated in: conditions on a state under which a command takes its effect, and
the canonical form of the device's memories. -/

namespace Sys2Proof.Machine

/-- Every byte memory of the device is in canonical form: addresses strictly rising, no zero byte listed. -/
def State.memWf (s : State) : Bool := s.mem.hbm.wf && s.mem.sram.wf && s.mem.prog.wf

/-- An outcome that is a next state, as a state; the given one otherwise. -/
def Out.stateOr (d : State) : Out → State
  | .next s => s
  | _ => d

/-- Whether an outcome is a next state. -/
def Out.isNext : Out → Bool
  | .next _ => true
  | _ => false

/-- A function may start a set-up command: it exists, the device serves it, boot is complete, and none is running (R354,
R614). -/
abbrev State.cmdReady (s : State) (f : Nat) : Prop :=
  s.fnExists f = true ∧ s.silent f = false ∧ s.boot.ready = true ∧ (s.fn f).busy = false

/-- A function may create rings (R352): the manager always, an instance while enabled. -/
abbrev State.mayCreate (s : State) (f : Nat) : Prop := f = 0 ∨ (s.fn f).enable = true

/-- Two states differ at most in the host interface's functions and what left the device for the host. -/
abbrev sameButFunctions (s t : State) : Prop :=
  t.mem = s.mem ∧ t.work = s.work ∧ t.xlat = s.xlat ∧ t.eng = s.eng ∧ t.ras = s.ras ∧ t.clk = s.clk ∧ t.fab = s.fab
    ∧ t.weir = s.weir ∧ t.pwr = s.pwr ∧ t.tally = s.tally ∧ t.sec = s.sec ∧ t.boot = s.boot ∧ t.pending = s.pending
    ∧ t.host.ctxs = s.host.ctxs ∧ t.host.slots = s.host.slots

/-- The state after an instruction of a Vane rank that leaves the rank's registers as `k` and goes on. -/
def VaneEnv.next (e : VaneEnv) (k : VaneRank) : State := e.s.vaneCommit e.id e.r ((e.put k).setPc e.r (e.k.pc + 1))

/-- The state after an instruction of a Vane rank that goes to instruction `t` with the rank's registers as `k`. -/
def VaneEnv.goto (e : VaneEnv) (k : VaneRank) (t : Nat) : State := e.s.vaneCommit e.id e.r ((e.put k).setPc e.r t)

end Sys2Proof.Machine
end

