-- ==== Sys2Proof/WellFormed.lean ====
section
/-! DEFINITION. Well-formed commands: every operand that numbers an object of the device lies in its range. The meanings
take any operand; what a command names that does not exist changes nothing. -/

namespace Sys2Proof

/-- What an operand numbers. -/
inductive Operand where
  | func | queue | die | subLink | island | transport | memPort | seam | domain | pond | inst | rank | word
  | unitClass | device | mereHandle
  deriving DecidableEq, Repr

/-- How many there are: functions (R342, R425), queues (R354), dies, sub-links, tile islands (R5), MCTP transports with
those of virtual functions (R626), memory ports (R20), seams (R22), clock domains (R593), ponds (R289), instances (R425),
ranks of a pond (R115), register values (R348), unit classes (R307), device IDs (R34), mere handles (R487). -/
def Operand.limit : Operand → Nat
  | .func => 513
  | .queue => 64
  | .die => 4
  | .subLink => 64
  | .island => 512
  | .transport => 4
  | .memPort => 24
  | .seam => 8
  | .domain => 591
  | .pond => 512
  | .inst => 512
  | .rank => 512
  | .word => 2 ^ 32
  | .unitClass => 11
  | .device => 2 ^ 16
  | .mereHandle => 2 ^ 32

/-- The operands of a command that number objects. -/
def Instr.operands : Instr → List (Operand × Nat)
  | .descriptorFetch fn sq _ => [(.func, fn), (.queue, sq)]
  | .doorbellSnoop _ _ => []
  | .doorbellPoll _ _ => []
  | .cqRoomPoll fn cq _ => [(.func, fn), (.queue, cq)]
  | .cqStalled fn cq => [(.func, fn), (.queue, cq)]
  | .eqHeadPoll fn _ => [(.func, fn)]
  | .opComplete _ => []
  | .irqDelayExpiry fn cq => [(.func, fn), (.queue, cq)]
  | .eventWaitRecheck _ => []
  | .setCtxTable fn => [(.func, fn)]
  | .createEq fn => [(.func, fn)]
  | .destroyEq fn => [(.func, fn)]
  | .createCq fn => [(.func, fn)]
  | .destroyCq fn => [(.func, fn)]
  | .createSq fn _ => [(.func, fn)]
  | .destroySq fn => [(.func, fn)]
  | .destroySqDone fn => [(.func, fn)]
  | .nop _ => []
  | .flumeCopy _ => []
  | .flumeSegmentDone _ _ _ => []
  | .loftPrefetch _ => []
  | .loftDemote _ => []
  | .millGemm _ _ => []
  | .millGgemm _ _ => []
  | .millAttend _ _ => []
  | .millPack _ => []
  | .fillLanded _ rank _ _ _ _ => [(.rank, rank)]
  | .ksplitDelivery _ rank _ => [(.rank, rank)]
  | .millBlockDone _ rank _ => [(.rank, rank)]
  | .walkDone die fn _ _ _ _ => [(.die, die), (.func, fn)]
  | .vaneLoad _ _ => []
  | .vaneRun _ => []
  | .vaneRunStart _ => []
  | .vaneRunComplete _ => []
  | .vaneTimeout _ rank => [(.rank, rank)]
  | .transferDone _ rank _ _ => [(.rank, rank)]
  | .msendLanded _ rank _ => [(.rank, rank)]
  | .vaneNop _ rank => [(.rank, rank)]
  | .halt _ rank => [(.rank, rank)]
  | .trap _ rank => [(.rank, rank)]
  | .fence _ rank => [(.rank, rank)]
  | .br _ rank => [(.rank, rank)]
  | .beq _ rank => [(.rank, rank)]
  | .bne _ rank => [(.rank, rank)]
  | .blt _ rank => [(.rank, rank)]
  | .bge _ rank => [(.rank, rank)]
  | .bltu _ rank => [(.rank, rank)]
  | .jal _ rank => [(.rank, rank)]
  | .jr _ rank => [(.rank, rank)]
  | .bany _ rank => [(.rank, rank)]
  | .bnone _ rank => [(.rank, rank)]
  | .srd _ rank => [(.rank, rank)]
  | .waitc _ rank => [(.rank, rank)]
  | .sadd _ rank => [(.rank, rank)]
  | .ssub _ rank => [(.rank, rank)]
  | .smul _ rank => [(.rank, rank)]
  | .sand _ rank => [(.rank, rank)]
  | .sor _ rank => [(.rank, rank)]
  | .sxor _ rank => [(.rank, rank)]
  | .sshl _ rank => [(.rank, rank)]
  | .sshr _ rank => [(.rank, rank)]
  | .ssra _ rank => [(.rank, rank)]
  | .saddi _ rank => [(.rank, rank)]
  | .smovi _ rank => [(.rank, rank)]
  | .smovhi _ rank => [(.rank, rank)]
  | .sld _ rank => [(.rank, rank)]
  | .sst _ rank => [(.rank, rank)]
  | .sslt _ rank => [(.rank, rank)]
  | .vadd _ rank => [(.rank, rank)]
  | .vsub _ rank => [(.rank, rank)]
  | .vmul _ rank => [(.rank, rank)]
  | .vfma _ rank => [(.rank, rank)]
  | .vfms _ rank => [(.rank, rank)]
  | .vmin _ rank => [(.rank, rank)]
  | .vmax _ rank => [(.rank, rank)]
  | .vabs _ rank => [(.rank, rank)]
  | .vneg _ rank => [(.rank, rank)]
  | .vdiv _ rank => [(.rank, rank)]
  | .vsqrt _ rank => [(.rank, rank)]
  | .vadds _ rank => [(.rank, rank)]
  | .vmuls _ rank => [(.rank, rank)]
  | .vfmas _ rank => [(.rank, rank)]
  | .hadd _ rank => [(.rank, rank)]
  | .hsub _ rank => [(.rank, rank)]
  | .hmul _ rank => [(.rank, rank)]
  | .hfma _ rank => [(.rank, rank)]
  | .hmin _ rank => [(.rank, rank)]
  | .hmax _ rank => [(.rank, rank)]
  | .vexp _ rank => [(.rank, rank)]
  | .vlog _ rank => [(.rank, rank)]
  | .vrcp _ rank => [(.rank, rank)]
  | .vrsqrt _ rank => [(.rank, rank)]
  | .vsin _ rank => [(.rank, rank)]
  | .vcos _ rank => [(.rank, rank)]
  | .vtanh _ rank => [(.rank, rank)]
  | .verf _ rank => [(.rank, rank)]
  | .viadd _ rank => [(.rank, rank)]
  | .visub _ rank => [(.rank, rank)]
  | .vimul _ rank => [(.rank, rank)]
  | .vand _ rank => [(.rank, rank)]
  | .vor _ rank => [(.rank, rank)]
  | .vxor _ rank => [(.rank, rank)]
  | .vshl _ rank => [(.rank, rank)]
  | .vshr _ rank => [(.rank, rank)]
  | .vsra _ rank => [(.rank, rank)]
  | .vimin _ rank => [(.rank, rank)]
  | .vimax _ rank => [(.rank, rank)]
  | .vcmp _ rank => [(.rank, rank)]
  | .vicmp _ rank => [(.rank, rank)]
  | .pand _ rank => [(.rank, rank)]
  | .por _ rank => [(.rank, rank)]
  | .pxor _ rank => [(.rank, rank)]
  | .pnot _ rank => [(.rank, rank)]
  | .pset _ rank => [(.rank, rank)]
  | .pget _ rank => [(.rank, rank)]
  | .vsel _ rank => [(.rank, rank)]
  | .vmovi _ rank => [(.rank, rank)]
  | .vbcast _ rank => [(.rank, rank)]
  | .vlane _ rank => [(.rank, rank)]
  | .vshuf _ rank => [(.rank, rank)]
  | .vextr _ rank => [(.rank, rank)]
  | .vins _ rank => [(.rank, rank)]
  | .vpk2 _ rank => [(.rank, rank)]
  | .vrsum _ rank => [(.rank, rank)]
  | .vrmax _ rank => [(.rank, rank)]
  | .vrmin _ rank => [(.rank, rank)]
  | .vcvt _ rank => [(.rank, rank)]
  | .vpk4 _ rank => [(.rank, rank)]
  | .vld _ rank => [(.rank, rank)]
  | .vlds _ rank => [(.rank, rank)]
  | .vgath _ rank => [(.rank, rank)]
  | .vst _ rank => [(.rank, rank)]
  | .vsts _ rank => [(.rank, rank)]
  | .vscat _ rank => [(.rank, rank)]
  | .qclr _ rank => [(.rank, rank)]
  | .qmac _ rank => [(.rank, rank)]
  | .qaddv _ rank => [(.rank, rank)]
  | .qsum _ rank => [(.rank, rank)]
  | .qld _ rank => [(.rank, rank)]
  | .qst _ rank => [(.rank, rank)]
  | .mget _ rank => [(.rank, rank)]
  | .mput _ rank => [(.rank, rank)]
  | .msend _ rank => [(.rank, rank)]
  | .mwait _ rank => [(.rank, rank)]
  | .vaneUndefinedInstr _ rank => [(.rank, rank)]
  | .redOpen _ _ => []
  | .redRun _ => []
  | .redClose _ => []
  | .redTableCrc fn _ dev _ => [(.func, fn), (.device, dev)]
  | .redContribution fn _ _ _ _ _ _ => [(.func, fn)]
  | .redRunDone _ _ _ => []
  | .redTimeout _ => []
  | .redCancel fn _ _ => [(.func, fn)]
  | .sluiceOpen _ _ => []
  | .sluiceGuard _ => []
  | .sluiceCommit _ => []
  | .sluiceAbort _ => []
  | .sluiceDrained fn _ => [(.func, fn)]
  | .sluiceHoldAcked fn _ => [(.func, fn)]
  | .sluicePublished fn _ => [(.func, fn)]
  | .sluiceAbortDone fn _ => [(.func, fn)]
  | .sluiceVote mere _ dev _ _ _ => [(.mereHandle, mere), (.device, dev)]
  | .sluiceDecision mere _ _ _ _ => [(.mereHandle, mere)]
  | .sluiceAck mere _ dev => [(.mereHandle, mere), (.device, dev)]
  | .sluiceAbortForward mere _ dev => [(.mereHandle, mere), (.device, dev)]
  | .sluiceCommitTimeout fn _ => [(.func, fn)]
  | .commitUnconfirmed fn _ => [(.func, fn)]
  | .stageWaysApply die => [(.die, die)]
  | .spillRegionApply die => [(.die, die)]
  | .pondCreate _ _ => []
  | .pondRebind _ _ => []
  | .pondDestroy _ => []
  | .pondSched _ => []
  | .plotMapPlace _ => []
  | .plotMapRemove _ => []
  | .rebindCopyPassDone pond => [(.pond, pond)]
  | .rebindPoint pond => [(.pond, pond)]
  | .rebindSwitchDone pond => [(.pond, pond)]
  | .rebindTimeout pond => [(.pond, pond)]
  | .unitFence _ => []
  | .unitRestore _ _ => []
  | .unitFailure cls _ => [(.unitClass, cls)]
  | .regrow pond => [(.pond, pond)]
  | .seamCrcFail seam _ => [(.seam, seam)]
  | .seamReplayTimeout seam => [(.seam, seam)]
  | .ctxSched _ => []
  | .quantumExpiry pond => [(.pond, pond)]
  | .contextDrainDone pond _ => [(.pond, pond)]
  | .contextSaveDone pond => [(.pond, pond)]
  | .contextRestoreDone pond => [(.pond, pond)]
  | .slotGrant => []
  | .slotIdleTimeout _ => []
  | .slotLoadDone _ _ => []
  | .beatSet _ => []
  | .beatStep _ => []
  | .beatStart pond => [(.pond, pond)]
  | .beatEnd pond => [(.pond, pond)]
  | .xlatRoot _ => []
  | .xlatRootRemove _ => []
  | .xlatInval _ => []
  | .xlatInvalDone _ => []
  | .xlatDirtyStart _ => []
  | .xlatDirtyStop _ => []
  | .xlatDirtySwap _ => []
  | .instQuiesce _ => []
  | .quiesceDrained inst => [(.inst, inst)]
  | .quiesceTimeout inst => [(.inst, inst)]
  | .instResume _ _ => []
  | .instLimits _ => []
  | .instSave _ _ => []
  | .instRestore _ => []
  | .instNotice _ => []
  | .forcedInstanceReset inst => [(.inst, inst)]
  | .instanceResetDone inst => [(.inst, inst)]
  | .vfEnableClear _ _ => []
  | .hostAccessError fn _ _ => [(.func, fn)]
  | .bar2Access fn _ _ _ _ _ => [(.func, fn)]
  | .cxlMemAccess _ _ _ _ => []
  | .hbmReadDone _ _ _ => []
  | .weirRecompute port => [(.memPort, port)]
  | .weirCreditPeriod => []
  | .requestAgeTimeout _ => []
  | .weirWindowEnd => []
  | .weirEvalPeriod x => [(.pond, x.pond)]
  | .patrolRead _ _ _ => []
  | .bucketLeak cls _ => [(.unitClass, cls)]
  | .sublinkTrainStart sub => [(.subLink, sub)]
  | .lightDetect sub _ => [(.subLink, sub)]
  | .capabilityFrame sub _ => [(.subLink, sub)]
  | .trainingStepDone sub _ _ => [(.subLink, sub)]
  | .linkTestDone sub _ => [(.subLink, sub)]
  | .trainingRetryTimer sub => [(.subLink, sub)]
  | .flitCrcFail sub _ _ _ => [(.subLink, sub)]
  | .replayAckTimeout sub => [(.subLink, sub)]
  | .retrainDone sub _ => [(.subLink, sub)]
  | .laneLockLost sub _ => [(.subLink, sub)]
  | .lightLoss sub => [(.subLink, sub)]
  | .holdExpiry sub _ => [(.subLink, sub)]
  | .neighbourNotice sub _ => [(.subLink, sub)]
  | .noticeDrainDone sub => [(.subLink, sub)]
  | .remoteRequest _ _ mere _ _ _ _ _ sub => [(.mereHandle, mere), (.subLink, sub)]
  | .windowAccess _ _ mere _ _ _ _ _ _ sub => [(.mereHandle, mere), (.subLink, sub)]
  | .mereBind _ => []
  | .mereUnbind _ => []
  | .windowSet _ => []
  | .windowClear _ => []
  | .windowClearDone _ => []
  | .pushSubscribe _ _ => []
  | .pushCancel _ _ => []
  | .pushWriteLand _ _ _ _ => []
  | .pushTimeout _ => []
  | .fabConfirm _ => []
  | .hello sub dev _ _ => [(.subLink, sub), (.device, dev)]
  | .vectorReceived sub _ _ _ _ _ _ => [(.subLink, sub)]
  | .joinRoundEnd => []
  | .groupReport _ _ _ _ _ => []
  | .groupReportResend => []
  | .confirmationReceived _ _ => []
  | .faultReportSend _ _ _ _ => []
  | .leaderFaultWindow => []
  | .faultReport _ _ _ _ _ => []
  | .unreachTimer dev _ => [(.device, dev)]
  | .timeExchange => []
  | .timeRequestReceived sub _ => [(.subLink, sub)]
  | .timeReply _ _ => []
  | .wakeMessage _ sub => [(.subLink, sub)]
  | .pwrReqHigh => []
  | .pwrReqLow => []
  | .xrailGoodRise => []
  | .hbmGoodRise => []
  | .powerStepDone => []
  | .powerStepTimeout => []
  | .goodSignalLost _ => []
  | .vin12Fault => []
  | .aonSupplyLost => []
  | .powerOnReset => []
  | .voltageCommand value => [(.word, value)]
  | .islandSettled island => [(.island, island)]
  | .sailWindow die _ _ => [(.die, die)]
  | .meterRead _ _ _ _ _ _ => []
  | .furlUpdate _ => []
  | .droopCrossing dom => [(.domain, dom)]
  | .droopRecover dom _ => [(.domain, dom)]
  | .croakNAssert => []
  | .croakRearm => []
  | .tempSample island _ => [(.island, island)]
  | .hbmTempRead port _ => [(.memPort, port)]
  | .thermalStepTimer island => [(.island, island)]
  | .tallyCoef _ => []
  | .tallyClose _ => []
  | .tallyWindowClose pond => [(.pond, pond)]
  | .recordSign => []
  | .tallyCheckpoint => []
  | .pubkey _ => []
  | .sign _ _ => []
  | .verify _ _ _ _ _ => []
  | .ecdh _ _ _ => []
  | .signingCallDone _ => []
  | .hashSegmentDone _ _ _ => []
  | .hashSuspend _ => []
  | .hashResume _ => []
  | .lcNonce tr => [(.transport, tr)]
  | .lcRequest tr _ _ _ _ _ _ _ => [(.transport, tr)]
  | .lcNonceExpiry => []
  | .lcTransitionReset => []
  | .lcPubkeys tr => [(.transport, tr)]
  | .getVersion tr => [(.transport, tr)]
  | .getCapabilities tr _ => [(.transport, tr)]
  | .negotiateAlgorithms tr _ => [(.transport, tr)]
  | .getDigests tr => [(.transport, tr)]
  | .getCertificate tr _ _ => [(.transport, tr)]
  | .challenge tr _ => [(.transport, tr)]
  | .getMeasurements tr _ _ _ => [(.transport, tr)]
  | .keyExchange tr _ _ _ _ => [(.transport, tr)]
  | .finish tr _ _ => [(.transport, tr)]
  | .heartbeat tr _ => [(.transport, tr)]
  | .keyUpdate tr _ => [(.transport, tr)]
  | .endSession tr _ => [(.transport, tr)]
  | .bootLog tr => [(.transport, tr)]
  | .fenceList tr => [(.transport, tr)]
  | .regRead tr _ => [(.transport, tr)]
  | .regWrite tr _ value => [(.transport, tr), (.word, value)]
  | .setupUnlock tr => [(.transport, tr)]
  | .deviceReset tr => [(.transport, tr)]
  | .deviceResetDelay => []
  | .svnCommit tr _ => [(.transport, tr)]
  | .configWrite tr _ => [(.transport, tr)]
  | .mctpSetEid tr _ => [(.transport, tr)]
  | .pldmSensorRead tr _ => [(.transport, tr)]
  | .pldmFwTransfer tr _ _ => [(.transport, tr)]
  | .activateFirmware tr _ => [(.transport, tr)]
  | .millwrightWatchdog => []
  | .mwRestartDone => []
  | .mwStartTimeout => []
  | .perstNAssert => []
  | .perstNRelease => []
  | .hotReset => []
  | .pfFlr => []
  | .hostLinkTrained _ _ _ _ => []
  | .bootStepDone _ => []
  | .selfTestDone cls _ _ => [(.unitClass, cls)]
  | .rootPllLock => []
  | .clkRefLoss => []
  | .clkRefReturn => []
  | .timeLoRead => []
  | .timeSet _ => []
  | .idleTimerExpiry => []
  | .brumEntryStepDone _ => []
  | .wakeEvent _ => []
  | .wakeStepDone => []
  | .setupLockWrite value => [(.word, value)]
  | .instCfgWrite value => [(.word, value)]
  | .stageWaysWrite die value => [(.die, die), (.word, value)]
  | .spillRegionWrite die value => [(.die, die), (.word, value)]
  | .brumEnableWrite _ => []
  | .brumWakeWrite dev => [(.device, dev)]
  | .leatRetrainWrite sub => [(.subLink, sub)]
  | .genCapWrite sub value => [(.subLink, sub), (.word, value)]
  | .routeTableWrite _ _ value => [(.word, value)]
  | .weirPondCfgWrite value => [(.word, value)]
  | .tallyEnableWrite value => [(.word, value)]
  | .registerWrite fn _ _ _ => [(.func, fn)]
  | .croakNRelease => []
  | .transitPacket _ _ _ _ sub _ _ => [(.subLink, sub)]
  | .faultReportAtLeader _ dev _ => [(.device, dev)]
  | .sluiceAbortAnswer mere _ _ => [(.mereHandle, mere)]
  | .pushSubscribeAtProducer _ mere _ _ _ _ _ sub => [(.mereHandle, mere), (.subLink, sub)]
  | .tallyBacklogDrain _ => []

/-- Whether a command is well formed. -/
def Instr.wf (i : Instr) : Bool := i.operands.all (fun p => decide (p.2 < p.1.limit))

end Sys2Proof
end

