-- ==== Sys2Proof/Certificates/Slice0/Obligations.lean ====
section
/-! DEFINITION. The statements for the provers. -/

open Sys2Proof Sys2Proof.Machine

/-- The block runs the command at the front of its queue on the state that holds the rest of it; with no command waiting
one tick of the timebase passes. The model's own choice here: log 1. -/
def Obligations.StepRunsFrontCommand : Prop :=
  (∀ (c : Instr) (rest : List Instr) (s : State), s.pending = c :: rest → step s = exec c (s.withPending rest))
    ∧ (∀ s : State, s.pending = [] → step s = .next s.tick)

/-- R354, R355: the creation commands and SET_CTX_TABLE, on arguments in range, create what they name with status OK and
leave every other ring as it was. The model's own choice here: log 4. -/
def Obligations.CreationCommandsTakeEffect : Prop :=
  (∀ (s : State) (f : Nat), s.cmdReady f → s.mayCreate f →
    (s.fn f).argAddr 0 % 4096 = 0 → (s.fn f).argAddr 2 % 8 = 0 →
    4 ≤ bitsOf ((s.fn f).arg 4) 0 5 → bitsOf ((s.fn f).arg 4) 0 5 ≤ 14 → (s.fn f).eq = none →
    ∃ (t : State) (q : EventQueue), exec (.createEq f) s = .next t ∧ (t.fn f).eq = some q
      ∧ q.base = (s.fn f).argAddr 0 ∧ q.headAddr = (s.fn f).argAddr 2 ∧ q.log2 = bitsOf ((s.fn f).arg 4) 0 5
      ∧ (t.fn f).cmdStatus = 0 ∧ (t.fn f).busy = false ∧ (t.fn f).cqs = (s.fn f).cqs ∧ (t.fn f).sqs = (s.fn f).sqs
      ∧ (∀ g, g ≠ f → t.fn g = s.fn g) ∧ sameButFunctions s t)
  ∧ (∀ (s : State) (f : Nat), s.cmdReady f → s.mayCreate f →
    (s.fn f).argAddr 0 % 4096 = 0 → (s.fn f).argAddr 2 % 8 = 0 →
    4 ≤ bitsOf ((s.fn f).arg 4) 0 5 → bitsOf ((s.fn f).arg 4) 0 5 ≤ 16 → bitsOf ((s.fn f).arg 4) 16 2 ≠ 3 →
    (s.fn f).cqs.at? (bitsOf ((s.fn f).arg 4) 8 6) = none →
    ∃ (t : State) (q : CompletionQueue), exec (.createCq f) s = .next t
      ∧ (t.fn f).cqs.at? (bitsOf ((s.fn f).arg 4) 8 6) = some q
      ∧ q.base = (s.fn f).argAddr 0 ∧ q.headAddr = (s.fn f).argAddr 2 ∧ q.log2 = bitsOf ((s.fn f).arg 4) 0 5
      ∧ q.next = 0 ∧ q.phase = true ∧ q.irqMode = bitsOf ((s.fn f).arg 4) 16 2
      ∧ q.irqCount = bitsOf ((s.fn f).arg 4) 24 8 + 1 ∧ q.irqDelay = bitsOf ((s.fn f).arg 5) 0 10
      ∧ (t.fn f).cmdStatus = 0 ∧ (t.fn f).busy = false ∧ (t.fn f).eq = (s.fn f).eq ∧ (t.fn f).sqs = (s.fn f).sqs
      ∧ (∀ k, k ≠ bitsOf ((s.fn f).arg 4) 8 6 → (t.fn f).cqs.at? k = (s.fn f).cqs.at? k)
      ∧ (∀ g, g ≠ f → t.fn g = s.fn g) ∧ sameButFunctions s t)
  ∧ (∀ (s : State) (f : Nat), s.cmdReady f → (s.fn f).argAddr 0 % 64 = 0 → (s.fn f).sqs = [] →
    bitsOf ((s.fn f).arg 2) 0 15 ≤ s.ctxQuota f →
    ∃ t : State, exec (.setCtxTable f) s = .next t ∧ (t.fn f).ctxBase = (s.fn f).argAddr 0
      ∧ (t.fn f).ctxCount = bitsOf ((s.fn f).arg 2) 0 15 ∧ (t.fn f).cmdStatus = 0 ∧ (t.fn f).busy = false
      ∧ (t.fn f).eq = (s.fn f).eq ∧ (t.fn f).cqs = (s.fn f).cqs ∧ (t.fn f).sqs = (s.fn f).sqs
      ∧ (∀ g, g ≠ f → t.fn g = s.fn g) ∧ sameButFunctions s t)

/-- R354, R16, R228: CREATE_SQ on arguments in range and a good context record creates the queue with version 1, its head
and tail at 0, bound to its completion queue and context, and reports the doorbell mode.
The model's own choice here: log 4. -/
def Obligations.CreateSqMakesAnEmptyRing : Prop :=
  ∀ (s : State) (f r : Nat), s.cmdReady f → s.mayCreate f →
    let a := (s.fn f).arg 4
    let c := bitsOf ((s.fn f).arg 5) 0 14
    (s.fn f).argAddr 0 % 4096 = 0 → (s.fn f).argAddr 2 % 8 = 0 → 4 ≤ bitsOf a 0 5 → bitsOf a 0 5 ≤ 16 →
    bitsOf a 24 4 ≠ 0 → (s.fn f).sqs.at? (bitsOf a 8 6) = none →
    (∀ p ∈ s.host.fns, ∀ q ∈ p.2.sqs, q.2.dbAddr ≠ (s.fn f).argAddr 2 ∧
      (q.2.dbAddr / 64 = (s.fn f).argAddr 2 / 64 → p.1 = f)) →
    (s.fn f).eq.isSome = true → ((s.fn f).cqs.at? (bitsOf a 16 6)).isSome = true →
    (s.fn f).sqs.length < s.sqQuota f → c < (s.fn f).ctxCount → s.recordOk f r = true →
    ∃ (t : State) (q : SubmissionQueue), exec (.createSq f r) s = .next t
      ∧ (t.fn f).sqs.at? (bitsOf a 8 6) = some q ∧ q.base = (s.fn f).argAddr 0 ∧ q.dbAddr = (s.fn f).argAddr 2
      ∧ q.log2 = bitsOf a 0 5 ∧ q.cq = bitsOf a 16 6 ∧ q.ctx = c ∧ q.version = 1 ∧ q.head = 0 ∧ q.tail = 0
      ∧ q.stopped = false ∧ (t.fn f).resVersion = 1 ∧ (t.fn f).resDbMode = !q.cached
      ∧ (t.fn f).cmdStatus = 0 ∧ (t.fn f).busy = false ∧ (t.fn f).cqs = (s.fn f).cqs ∧ (t.fn f).eq = (s.fn f).eq
      ∧ (∀ k, k ≠ bitsOf a 8 6 → (t.fn f).sqs.at? k = (s.fn f).sqs.at? k) ∧ t.mem = s.mem ∧ t.work = s.work

/-- R354, R355: the destroy commands. DESTROY_SQ stops the ring's fetching at once and stays busy; once no descriptor of
the ring is left, DESTROY_SQ_DONE removes the ring with status OK. The model's own choice here: log 22. -/
def Obligations.DestroyCommandsTakeEffect : Prop :=
  (∀ (s : State) (f : Nat), s.cmdReady f → (s.fn f).eq.isSome = true → (s.fn f).sqs = [] →
    exec (.destroyEq f) s = .next (s.setFn f { s.fn f with eq := none, cmdStatus := 0, busy := false }))
  ∧ (∀ (s : State) (f : Nat), s.cmdReady f →
    ((s.fn f).cqs.at? (bitsOf ((s.fn f).arg 4) 8 6)).isSome = true →
    (∀ p ∈ (s.fn f).sqs, p.2.cq ≠ bitsOf ((s.fn f).arg 4) 8 6) →
    exec (.destroyCq f) s = .next (s.setFn f
      { s.fn f with cqs := (s.fn f).cqs.erase (bitsOf ((s.fn f).arg 4) 8 6), cmdStatus := 0, busy := false }))
  ∧ (∀ (s : State) (f : Nat) (q : SubmissionQueue), s.cmdReady f →
    (s.fn f).sqs.at? (bitsOf ((s.fn f).arg 4) 8 6) = some q →
    exec (.destroySq f) s = .next (s.setFn f
      { s.fn f with
        sqs := (s.fn f).sqs.set (bitsOf ((s.fn f).arg 4) 8 6) { q with destroying := true },
        busy := true, cmdSq := bitsOf ((s.fn f).arg 4) 8 6 }))
  ∧ (∀ (s : State) (f : Nat) (q : SubmissionQueue), (s.fn f).busy = true →
    (s.fn f).sqs.at? (s.fn f).cmdSq = some q → q.destroying = true →
    (∀ p ∈ s.work.ops, ¬(p.2.fn = f ∧ p.2.sq = (s.fn f).cmdSq)) →
    ∃ t : State, exec (.destroySqDone f) s = .next t ∧ (t.fn f).sqs = (s.fn f).sqs.erase (s.fn f).cmdSq
      ∧ (t.fn f).cmdStatus = 0 ∧ (t.fn f).busy = false ∧ t.mem.hbm = s.mem.hbm ∧ t.mem.sram = s.mem.sram
      ∧ t.mem.prog = s.mem.prog ∧ t.mem.remap = s.mem.remap ∧ t.work = s.work
      ∧ (∀ k, (t.mem.ponds.at? k).map (·.binding) = (s.mem.ponds.at? k).map (·.binding))
      ∧ (∀ g, g ≠ f → t.fn g = s.fn g))

/-- R356, R370 to R372: a read of a doorbell line, by snoop or by polling, that finds a valid word sets the ring's tail; an
invalid word stops the ring's fetching. The model's own choice here: log 4. -/
def Obligations.DoorbellReadsSetTails : Prop :=
  (∀ (s : State) (line data f k : Nat) (l : DoorbellLine) (q : SubmissionQueue),
    s.host.lines.at? line = some l → l.cached = true → s.ringsOf line = [(f, k, q.dbAddr % 64 / 8)] →
    (s.fn f).sqs.at? k = some q → q.stopped = false → q.destroying = false →
    bitsOf data (64 * (q.dbAddr % 64 / 8)) 64 < 2 ^ q.log2 → q.log2 ≤ 16 →
    ∃ t : State, exec (.doorbellSnoop line data) s = .next t
      ∧ (t.fn f).sqs.at? k = some { q with tail := bitsOf data (64 * (q.dbAddr % 64 / 8)) 64 }
      ∧ t.mem = s.mem ∧ t.work = s.work ∧ t.host.lines = s.host.lines)
  ∧ (∀ (s : State) (line data f k : Nat) (l : DoorbellLine) (q : SubmissionQueue),
    s.host.lines.at? line = some l → l.cached = false → s.clk.entryStep = 0 → s.mute = false →
    s.ringsOf line = [(f, k, q.dbAddr % 64 / 8)] →
    (s.fn f).sqs.at? k = some q → q.stopped = false → q.destroying = false →
    bitsOf data (64 * (q.dbAddr % 64 / 8)) 64 < 2 ^ q.log2 → q.log2 ≤ 16 →
    ∃ t : State, exec (.doorbellPoll line data) s = .next t
      ∧ (t.fn f).sqs.at? k = some { q with tail := bitsOf data (64 * (q.dbAddr % 64 / 8)) 64 }
      ∧ ((t.host.lines.at? line).map (·.interval) = some
          (if q.tail ≠ bitsOf data (64 * (q.dbAddr % 64 / 8)) 64 ∨ s.ns < l.foundAt + 100000 then 1
           else min 1000 (2 * l.interval)))
      ∧ t.mem = s.mem ∧ t.work = s.work)
  ∧ (∀ (s : State) (line data f k : Nat) (l : DoorbellLine) (q : SubmissionQueue),
    s.host.lines.at? line = some l → l.cached = true → s.ringsOf line = [(f, k, q.dbAddr % 64 / 8)] →
    (s.fn f).sqs.at? k = some q → q.stopped = false → q.destroying = false →
    2 ^ q.log2 ≤ bitsOf data (64 * (q.dbAddr % 64 / 8)) 64 →
    ∃ t : State, exec (.doorbellSnoop line data) s = .next t
      ∧ (t.fn f).sqs.at? k = some { q with stopped := true } ∧ t.mem = s.mem ∧ t.work = s.work)

/-- R357, R362, R368, R373: the polls of head words and the delays of interrupts. A valid head word is taken; with room for
events again, the count of discarded events is written. The model's own choices here: log 3, 104. -/
def Obligations.QueueTimersTakeEffect : Prop :=
  (∀ (s : State) (f k w : Nat) (q : CompletionQueue), (s.fn f).cqs.at? k = some q → q.room = false →
    w < 2 ^ q.log2 → q.log2 ≤ 16 →
    ∃ (t : State) (q' : CompletionQueue), exec (.cqRoomPoll f k w) s = .next t ∧ (t.fn f).cqs.at? k = some q'
      ∧ q'.head = w ∧ q'.next = q.next ∧ q'.reserved = q.reserved ∧ t.mem = s.mem ∧ t.work = s.work
      ∧ (∀ g, g ≠ f → t.fn g = s.fn g))
  ∧ (∀ (s : State) (f k : Nat) (q : CompletionQueue), (s.fn f).cqs.at? k = some q → q.room = false →
    q.stallSince ≠ 0 → q.stallPosted = false →
    exec (.cqStalled f k) s = .next ((s.setCq f k { q with stallPosted := true }).post f 0x0009 k))
  ∧ (∀ (s : State) (f w : Nat) (q : EventQueue), (s.fn f).eq = some q → q.discarded ≠ 0 → s.silent f = false → w < 2 ^ q.log2 → q.log2 ≤ 14 →
    ({ q with head := w } : EventQueue).room = true →
    ∃ (t : State) (q' : EventQueue), exec (.eqHeadPoll f w) s = .next t ∧ (t.fn f).eq = some q' ∧ q'.discarded = 0
      ∧ q'.head = w ∧ q'.seq = (q.seq + 1) % 2 ^ 32
      ∧ t.host.writes = s.host.writes ++
          [{ fn := f, addr := q.base + 64 * q.next, bytes := eventEntry 0x000B q.seq s.ns q.discarded q.phase }]
      ∧ t.mem = s.mem ∧ t.work = s.work)
  ∧ (∀ (s : State) (f k : Nat) (q : CompletionQueue), (s.fn f).cqs.at? k = some q → q.counted ≠ 0 →
    exec (.irqDelayExpiry f k) s = .next ((s.setCq f k { q with counted := 0, countedAt := 0 }).sendMsi f k))
/-- R256, R386, R388, R392: deciding an operation's status ends it and no other; SUCCESS changes nothing but the work, the engines
and the push subscriptions' waiting copies; outside a sluice only a status that loses the context marks the context lost. -/
def Obligations.DecidingAStatusEndsTheOperation : Prop :=
  (∀ (s : State) (id : Nat) (o : Op), s.op? id = some o → o.phase ≠ .ended →
    (s.succeed id).op? id = some { o with phase := .ended, status := 0, detail := 0, awaitsRegrow := false }
      ∧ (∀ j, j ≠ id → (s.succeed id).op? j = s.op? j)
      ∧ (s.succeed id).work.sluices = s.work.sluices ∧ (s.succeed id).work.sent = s.work.sent
      ∧ (s.succeed id).host = s.host ∧ (s.succeed id).mem = s.mem ∧ (s.succeed id).xlat = s.xlat
      ∧ (s.succeed id).fab.meres = s.fab.meres ∧ (s.succeed id).tally = s.tally ∧ (s.succeed id).pending = s.pending)
  ∧ (∀ (s : State) (id st d : Nat) (o : Op), s.op? id = some o → o.phase ≠ .ended → o.sluice = 0 → st ≠ 0 →
    ((s.decide id st d).op? id).map (fun x => (x.phase, x.status, x.detail)) = some (.ended, st, d)
      ∧ (losesContext st = false → (s.decide id st d).host = s.host)
      ∧ (∀ x, losesContext st = true → s.host.ctxs.at? o.ctx = some x → x.lost = false →
          ((s.decide id st d).host.ctxs.at? o.ctx).map (fun y => (y.lost, y.lossOp)) = some (true, id))
      ∧ (s.decide id st d).mem = s.mem)

/-- R362, R364, R368, R373: an event posted to a queue with room that holds back no discarded event is written at the
queue's next index with its phase and number, the index and number advance, and the event interrupt follows.
The model's own choices here: log 4, 104. -/
def Obligations.PostedEventIsWritten : Prop :=
  ∀ (s : State) (f code payload : Nat) (q : EventQueue), s.silent f = false → (s.fn f).eq = some q →
    (q.discarded = 0 → q.room = true →
      (s.post f code payload).host.writes = s.host.writes ++
          [{ fn := f, addr := q.base + 64 * q.next, bytes := eventEntry code q.seq s.ns payload q.phase }]
        ∧ ((s.post f code payload).fn f).eq = some
            { q with
              next := (q.next + 1) % 2 ^ q.log2,
              phase := if q.next + 1 = 2 ^ q.log2 then !q.phase else q.phase,
              seq := (q.seq + 1) % 2 ^ 32 })
    ∧ ((q.discarded ≠ 0 ∨ q.room = false) →
      s.post f code payload = s.setFn f { s.fn f with eq := some { q with discarded := q.discarded + 1 } })
    ∧ (s.post f code payload).mem = s.mem ∧ (s.post f code payload).work = s.work
    ∧ (∀ g, g ≠ f → (s.post f code payload).fn g = s.fn g)

/-- R356, R357, R359: a ring that may be fetched gives its descriptor an operation with the ring's completion queue, context
and first slot, and its head advances by the descriptor's slots; a descriptor that fails the version check is completed with
BAD_VERSION and detail 0, and the head advances by one slot. The model's own choices here: log 18, 114. -/
def Obligations.DescriptorsAreFetched : Prop :=
  (∀ (s : State) (f k d : Nat) (q : SubmissionQueue) (cq : CompletionQueue),
    (s.fn f).sqs.at? k = some q → (s.fn f).cqs.at? q.cq = some cq → fld d 0 0 4 = 1 →
    s.mayFetch f k q (max 1 (fld d 2 0 3)) = true →
    ∃ (t : State) (o : Op) (q' : SubmissionQueue), exec (.descriptorFetch f k d) s = .next t
      ∧ t.op? s.work.nextOp = some o ∧ o.fn = f ∧ o.sq = k ∧ o.cq = q.cq ∧ o.idx = q.head
      ∧ o.ctx = f * 16384 + q.ctx ∧ o.desc = d % 2 ^ (512 * max 1 (fld d 2 0 3)) ∧ o.noHeader = false
      ∧ (t.fn f).sqs.at? k = some q' ∧ q'.head = (q.head + max 1 (fld d 2 0 3)) % 2 ^ q.log2 ∧ q'.tail = q.tail
      ∧ t.work.nextOp = s.work.nextOp + 1)
  ∧ (∀ (s : State) (f k d : Nat) (q : SubmissionQueue), (s.fn f).sqs.at? k = some q → fld d 0 0 4 ≠ 1 →
    (∀ x, s.host.ctxs.at? (f * 16384 + q.ctx) = some x → x.lost = false) →
    s.mayFetch f k q 1 = true →
    ∃ (t : State) (o : Op) (q' : SubmissionQueue), exec (.descriptorFetch f k d) s = .next t
      ∧ t.op? s.work.nextOp = some o ∧ o.phase = .ended ∧ o.status = 0x0001 ∧ o.detail = 0 ∧ o.noHeader = true
      ∧ o.idx = q.head ∧ (t.fn f).sqs.at? k = some q' ∧ q'.head = (q.head + 1) % 2 ^ q.log2)

/-- R215, R361, R384: an ended operation leaves the device; with no event to signal its completion entry is written at the
next index of its completion queue, unless it is a quiet descriptor that succeeded. NOP succeeds once its wait is met, and a
wait on no event is met. The model's own choice here: log 104. -/
def Obligations.EndedOperationCompletes : Prop :=
  (∀ (s : State) (id : Nat) (o : Op) (q : CompletionQueue), s.op? id = some o → o.phase = .ended →
    s.completionWaits id o = false → fld o.desc 0x18 0 20 = 0 → s.silent o.fn = false →
    (s.fn o.fn).cqs.at? o.cq = some q → (o.noHeader = true ∨ fld o.desc 3 1 1 = 0 ∨ o.status ≠ 0) →
    ∃ (t : State) (ev : List HostWrite), exec (.opComplete id) s = .next t ∧ t.op? id = none
      ∧ t.host.writes = s.host.writes ++
          { fn := o.fn, addr := q.base + 32 * q.next,
            bytes := completionEntry o q.phase ((((s.fn o.fn).sqs.at? o.sq).map (·.head)).getD 0) o.status o.detail s.ns } :: ev)
  ∧ (∀ (s : State) (id : Nat) (o : Op), s.go? id 0x01 = some o → exec (.nop id) s = .next (s.succeed id))
  ∧ (∀ (s : State) (id : Nat) (o : Op), s.op? id = some o → o.phase = .fetched → o.waitMet = false →
    fld o.desc 0x10 0 20 = 0 →
    exec (.eventWaitRecheck id) s = .next ((s.modOp id (fun x => { x with waitMet := true })).schedule o.pond))

/-- R216, R219, R340: a copy goes to the engine of its pond's share with the fewest bytes queued and waits or starts there;
a finished segment that is not the last counts as done and raises its pond's service counter; the last one ends the copy.
The model's own choice here: log 36. -/
def Obligations.FlumeCopyRunsBySegments : Prop :=
  (∀ (s : State) (op e : Nat) (o : Op) (p : Pond), s.go? op 0x10 = some o → s.mem.ponds.at? o.pond = some p →
    minBy? s.queuedBytes (s.enginesOf p) = some e → (∀ x ∈ s.copiesOn e .queued, x.2.opcode = 0x10) →
    ∃ (t : State) (o' : Op), exec (.flumeCopy op) s = .next t ∧ t.op? op = some o' ∧ o'.engine = e
      ∧ o'.queuedAt = s.ns + 1 ∧ (o'.phase = .queued ∨ o'.phase = .running) ∧ o'.desc = o.desc
      ∧ t.mem = s.mem ∧ t.host = s.host ∧ t.work.sluices = s.work.sluices ∧ t.eng.mills = s.eng.mills
      ∧ e ∈ s.enginesOf p ∧ (∀ e', e' ∈ s.enginesOf p → s.queuedBytes e ≤ s.queuedBytes e'))
  ∧ (∀ (s s1 : State) (op seg : Nat) (ext : Ext) (o : Op) (p : Pond), s.op? op = some o → o.opcode = 0x10 →
    s.nextCopy o.engine = none → s.mem.ponds.at? o.pond = some p → o.phase = .running → o.push = false →
    o.done.contains seg = false → seg < copySegments o.desc →
    (s.noteLatencies o.pond ext.lats).copyCutAll op (s.agent op o (o.engine / 4) 0) ext p (copyCuts o.desc seg) = .ok s1 →
    let s3 := (s1.serve o.engine o.pond p.weight 1).modOp op (fun x => { x with done := seg :: x.done })
    (o.done.length + 1 ≠ copySegments o.desc → exec (.flumeSegmentDone op seg ext) s = .next s3)
      ∧ (o.done.length + 1 = copySegments o.desc →
          exec (.flumeSegmentDone op seg ext) s = .next ((s3.succeed op).activate o.engine 16)))

/-- R216: a copy of one row of at most 4096 bytes from the SRAM of one tile to that of another, with no poison under it, puts
the source's bytes at the destination, changes no other byte of any SRAM and no byte of memory, and ends the copy, where the
memories are in canonical form.
The model's own choice here: log 16. -/
def Obligations.TileCopyMovesItsBytes : Prop :=
  ∀ (s : State) (op ts td : Nat) (ext : Ext) (o : Op) (p : Pond), s.memWf = true → s.op? op = some o → o.opcode = 0x10 →
    s.nextCopy o.engine = none → s.mem.ponds.at? o.pond = some p → o.phase = .running → o.push = false → o.done = [] →
    o.landed = [] → o.sluice = 0 → fld o.desc 0x24 0 32 = 1 → 0 < fld o.desc 0x20 0 32 → fld o.desc 0x20 0 32 ≤ 4096 →
    p.copyTile o.desc false = some ts → p.copyTile o.desc true = some td → ts ≠ td →
    fld o.desc 0x28 0 55 + fld o.desc 0x20 0 32 ≤ 0x400000 → fld o.desc 0x30 0 55 + fld o.desc 0x20 0 32 ≤ 0x400000 →
    s.sramPoisoned ts (fld o.desc 0x28 0 55) (fld o.desc 0x20 0 32) = false →
    ∃ t : State, exec (.flumeSegmentDone op 0 ext) s = .next t
      ∧ t.readSram td (fld o.desc 0x30 0 55) (fld o.desc 0x20 0 32)
          = s.readSram ts (fld o.desc 0x28 0 55) (fld o.desc 0x20 0 32)
      ∧ (∀ a, ¬(td * 0x400000 + fld o.desc 0x30 0 55 ≤ a
            ∧ a < td * 0x400000 + fld o.desc 0x30 0 55 + fld o.desc 0x20 0 32) →
          t.mem.sram.get a = s.mem.sram.get a)
      ∧ t.mem.hbm = s.mem.hbm ∧ (t.op? op).map (fun x => (x.phase, x.status)) = some (.ended, 0)

/-- R209, R206: prefetch and demotion succeed when every line of their range leads to local memory, and change no byte of
it; the last line of a prefetch is in the loft after it, where its pond may allocate every way, and after a demotion the
present lines of the range come before all others in the order of use.
The model's own choice here: log 17. -/
def Obligations.LoftCommandsTakeEffect : Prop :=
  (∀ (s : State) (op : Nat) (o : Op) (l : List (Nat × Nat)), s.go? op 0x11 = some o → fld o.desc 0x2C 0 2 = 0 →
    s.loftOffsets (s.newt o.fn o.ctx 0) (loftLines o.desc) = .ok l →
    ∃ t : State, exec (.loftPrefetch op) s = .next t
      ∧ (t.op? op).map (fun x => (x.phase, x.status, x.detail)) = some (.ended, 0, 0)
      ∧ t.mem.hbm = s.mem.hbm ∧ t.mem.poison = s.mem.poison ∧ t.mem.sram = s.mem.sram ∧ t.host = s.host
      ∧ (fld o.desc 0x2C 2 3 = 1 → o.fn ≠ 0 → ∀ x p, l.getLast? = some x → s.plotOf x.1 = some p →
          s.leavingDie x.1 = false → s.maskFor o.pond x.1 = 65535 → s.mem.stageWays.get 4 p.die < 16 →
          t.mem.loft.any (fun y => y.line = x.1 / 128) = true))
  ∧ (∀ (s : State) (op : Nat) (o : Op) (l : List (Nat × Nat)), s.go? op 0x11 = some o → fld o.desc 0x2C 0 2 = 1 →
    s.loftOffsets (s.newt o.fn o.ctx 0) (loftLines o.desc) = .ok l →
    ∃ t : State, exec (.loftDemote op) s = .next t
      ∧ (t.op? op).map (fun x => (x.phase, x.status, x.detail)) = some (.ended, 0, 0)
      ∧ t.mem.hbm = s.mem.hbm ∧ t.mem.poison = s.mem.poison ∧ t.mem.ponds = s.mem.ponds ∧ t.host = s.host
      ∧ (∃ a b, t.mem.loft = a ++ b ∧ (∀ y ∈ a, y.used = 0 ∧ ∃ x ∈ l, y.line = x.1 / 128)
          ∧ (∀ y ∈ b, ∀ x ∈ l, y.line ≠ x.1 / 128)
          ∧ (∀ z, (∃ y ∈ a, z = y.line) ↔ (∃ y ∈ s.mem.loft, z = y.line ∧ ∃ x ∈ l, y.line = x.1 / 128))
          ∧ b = s.mem.loft.filter (fun y => !l.any (fun x => y.line = x.1 / 128))))

/-- R112 to R115, R121, R134 to R137, R145 to R148: a mill op whose ranks are its pond's and whose tables read well enters its
tiles' queues with its anchors, its tables and its ranks at their first items; no byte of memory changes.
The model's own choices here: log 27, 28. -/
def Obligations.MillOpsEnterTheirTiles : Prop :=
  let entered (s t : State) (op : Nat) (o : Op) (p : Pond) (anchors : List Int) (table act : List Nat) : Prop :=
    (millItems o.desc table ≠ [] → t.eng.mills.at? op = some
      { order := s.eng.order + 1, anchors, raised := [], table, act,
        ranks := startRanks o.desc ((List.range (millRanks o.desc).2).map
          (fun i => (p.tileOf false ((millRanks o.desc).1 + i)).join)),
        delivered := [], ovf := 0, retried := false, amaxBad := false }
      ∧ (t.op? op).any (fun x => x.phase = .queued || x.phase = .running) = true)
    ∧ (millItems o.desc table = [] → (t.op? op).any (fun x => x.phase = .ended && x.status = 0) = true)
    ∧ t.mem = s.mem ∧ t.host = s.host
  (∀ (s : State) (op : Nat) (ext : Ext) (o : Op) (p : Pond) (act : List Nat), s.millGo op 0x20 = some o →
    s.mem.ponds.at? o.pond = some p → p.rankError false (millRanks o.desc).1 (millRanks o.desc).2 = none →
    s.readActTable (s.millAgent op o p) ext o.desc (millRanks o.desc).1 = .ok act →
    ∃ t : State, exec (.millGemm op ext) s = .next t ∧ entered s t op o p [anchorAt o.desc 0x30 0] [] act)
  ∧ (∀ (s : State) (op : Nat) (ext : Ext) (o : Op) (p : Pond) (act : List Nat) (bs : List Byte),
    s.millGo op 0x21 = some o →
    s.mem.ponds.at? o.pond = some p → p.rankError false (millRanks o.desc).1 (millRanks o.desc).2 = none →
    s.readVa (s.millAgent op o p) ext (fld o.desc 0x48 0 55) (32 * fld o.desc 0xEC 0 13) = .ok bs →
    badGroupEntry o.desc (entriesOf 32 (fld o.desc 0xEC 0 13) bs) 0 0 = none →
    groupPlanError o.desc (entriesOf 32 (fld o.desc 0xEC 0 13) bs) = none →
    s.readActTable (s.millAgent op o p) ext o.desc (millRanks o.desc).1 = .ok act →
    ∃ t : State, exec (.millGgemm op ext) s = .next t
      ∧ entered s t op o p [anchorAt o.desc 0x30 0] (entriesOf 32 (fld o.desc 0xEC 0 13) bs) act)
  ∧ (∀ (s : State) (op : Nat) (ext : Ext) (o : Op) (p : Pond) (bs : List Byte), s.millGo op 0x22 = some o →
    s.mem.ponds.at? o.pond = some p → p.rankError false (millRanks o.desc).1 (millRanks o.desc).2 = none →
    s.readVa (s.millAgent op o p) ext (fld o.desc 0x40 0 55) (32 * fld o.desc 0x20 0 32) = .ok bs →
    badSequence (entriesOf 32 (fld o.desc 0x20 0 32) bs) 0 = none →
    ∃ t : State, exec (.millAttend op ext) s = .next t ∧ entered s t op o p
      [anchorAt o.desc 0x30 0, anchorAt o.desc 0x30 16, anchorAt o.desc 0x34 0] (entriesOf 32 (fld o.desc 0x20 0 32) bs) [])
  ∧ (∀ (s : State) (op : Nat) (o : Op) (p : Pond), s.millGo op 0x23 = some o →
    s.mem.ponds.at? o.pond = some p → p.rankError false (millRanks o.desc).1 (millRanks o.desc).2 = none →
    ∃ t : State, exec (.millPack op) s = .next t ∧ entered s t op o p [] [] [])

/-- R92, R123: a fill into a page of a gemm's ring-planned operand that is not an MX format puts the page's rows into the
tile's SRAM at the panel's place, changes no other byte of SRAM and no byte of memory, where the memories are in
canonical form. The model's own choice here: log 29. -/
def Obligations.LandedFillFillsItsPanel : Prop :=
  ∀ (s : State) (op rank seq half page : Nat) (b : Bool) (ext : Ext) (m : MillRun) (o : Op) (k : MillRank) (i : MillItem)
    (rows : List (List Byte × Byte)),
    s.memWf = true → s.eng.mills.at? op = some m → s.op? op = some o → m.ranks.at? rank = some k → o.phase ≠ .ended →
    ext.ecc = [] → s.feedTurn op k.tile = true → o.opcode = 0x20 → planKeep (planOf o.desc b) = false →
    planRes (planOf o.desc b) = false → isMx (operandFmt o.desc b) = false →
    (b, seq, half, page) ∈ k.outstanding o.desc (m.items o.desc k) → (m.items o.desc k)[seq / k.panels]? = some i →
    s.panelRows (s.agent op o (dieOfTile k.tile) (k.tile + 1)) ext o.desc m.table k b i (seq % k.panels)
      ((List.range (128 / panelPages (operandFmt o.desc b))).map (half * (128 / panelPages (operandFmt o.desc b)) + ·))
      = .ok rows →
    let at_ := panelAt o.desc b (seq % max 1 (planRing (planOf o.desc b))) half
    let bytes := (rows.map (·.1)).flatten
    ∃ t : State, exec (.fillLanded op rank b seq half ext) s = .next t
      ∧ t.readSram k.tile at_ bytes.length = bytes
      ∧ (∀ a, ¬(k.tile * 0x400000 + at_ ≤ a ∧ a < k.tile * 0x400000 + at_ + bytes.length) →
          t.mem.sram.get a = s.mem.sram.get a)
      ∧ t.mem.hbm = s.mem.hbm ∧ t.mem.prog = s.mem.prog

/-- R98, R115, R116, R142, R144, R149: a finished block with every delivery is drained by its home rank, in each mill op's own
way; the sums of a part other than the home rank are delivered, and that rank goes on to its next item. A rank of an attend
first delivers its maxima, and goes on to its sums once those of every part are there.
The model's own choices here: log 28, 30. -/
def Obligations.MillBlocksDrain : Prop :=
  let agentOf (s : State) (op : Nat) (o : Op) (k : MillRank) : Agent := s.agent op o (dieOfTile k.tile) (k.tile + 1)
  let gemm (s0 s : State) (op r : Nat) (ext : Ext) (m : MillRun) (o : Op) (k : MillRank) : Prop :=
    (∃ o1, (s0.findErrors ext).op? op = some o1 ∧ o1.opcode ≤ 0x21) ∧ (s0.findErrors ext).consume op r consumeFuel = s
      ∧ s.eng.mills.at? op = some m ∧ s.op? op = some o ∧ m.ranks.at? r = some k ∧ s.millTurn op k.tile = true
  let other (s0 s : State) (opcode op r : Nat) (ext : Ext) (m : MillRun) (o : Op) (k : MillRank) (i : MillItem) : Prop :=
    s0.findErrors ext = s ∧ s.eng.mills.at? op = some m ∧ s.op? op = some o ∧ o.opcode = opcode ∧ m.ranks.at? r = some k
      ∧ o.phase ≠ .ended ∧ s.millTurn op k.tile = true ∧ (m.items o.desc k)[k.done]? = some i
  (∀ (s0 s : State) (op r : Nat) (ext : Ext) (m : MillRun) (o : Op) (k : MillRank) (i : MillItem) (own : List Cell)
    (parts : List (List Cell)) (sd : Sides), gemm s0 s op r ext m o k → (m.items o.desc k)[k.done]? = some i →
    m.deliveries k.lane k.done = some parts → k.full = some own → k.part = 0 →
    s.readSides (agentOf s op o k) ext o.desc i = .ok sd →
    let c := joinCells (fld o.desc 0x2C 28 1 = 1) (own :: parts)
    let w := gemmDrain o.desc m.act (getAt 0 m.anchors 0) sd c.1 i k.done
    exec (.millBlockDone op r ext) s0 = .next ((s.touchReads (agentOf s op o k) (sideReads o.desc i)).drainItem op r o m k
      (m.items o.desc k) ext { w with flags := w.flags ||| c.2 } (if w.ovf = 0 then [] else [0])))
  ∧ (∀ (s0 s : State) (op r : Nat) (ext : Ext) (m m1 : MillRun) (o : Op) (k : MillRank) (i : MillItem)
    (rows : List AttendRow) (ms : List (Nat × Bool)) (parts : List (List Cell)),
    other s0 s 0x22 op r ext m o k i → k.part = 0 →
    s.attendInputs (agentOf s op o k) ext o.desc (getAt 0 m.table i.grp) (millSplit o.desc) 0 i = .ok rows →
    let s1 := s.attendMaxima op (agentOf s op o k) ext o m k i rows
    s1.eng.mills.at? op = some m1 → m1.joined k rows.length = some ms → m1.deliveries k.lane k.done = some parts →
    let own := attendPart o.desc m1.anchors ms rows
    let c := joinCells false (own.1 :: parts)
    let w := attendDrain o.desc (getAt 0 m1.table i.grp) m1.anchors ms (rows.map (·.1)) c.1
    exec (.millBlockDone op r ext) s0 = .next (((s1.touchReads (agentOf s op o k) (s.attendReads (agentOf s op o k) ext o.desc
      (getAt 0 m.table i.grp) (millSplit o.desc) 0 i)).modRank op r (fun k => { k with landed := [] })).drainItem op r o m1 k
        (m1.items o.desc k) ext { w.1 with flags := w.1.flags ||| c.2 ||| own.2 } w.2))
  ∧ (∀ (s0 s : State) (op r : Nat) (ext : Ext) (m : MillRun) (o : Op) (k : MillRank) (i : MillItem)
    (src : List (List (Nat × Nat))), other s0 s 0x23 op r ext m o k i →
    s.packSource (agentOf s op o k) ext o.desc i = .ok src →
    exec (.millBlockDone op r ext) s0 = .next ((((s.start op).noteLatencies o.pond ext.lats).touchReads
      (agentOf s op o k) (packReads o.desc i)).drainItem op r o m k (m.items o.desc k) ext
        (packDrain o.desc k.done (i.row0 / 128) i
          ((src.zip (List.range src.length)).map (fun x => packRow o.desc (i.row0 + x.2) x.1))) []))
  ∧ (∀ (s0 s : State) (op r : Nat) (ext : Ext) (m : MillRun) (o : Op) (k : MillRank) (cells : List Cell),
    gemm s0 s op r ext m o k → k.part ≠ 0 → k.full = some cells → k.done < (m.items o.desc k).length →
    ∃ t : State, exec (.ksplitDelivery op r ext) s0 = .next t ∧ t.mem = s.mem ∧ t.host = s.host ∧ t.work = s.work
      ∧ t.eng.mills.at? op = some { m with
          delivered := m.delivered ++ [{ lane := k.lane, item := k.done, part := k.part, cells }],
          ranks := m.ranks.modify r (fun k => { k with done := k.done + 1, full := none }.turnOver) })
  ∧ (∀ (s0 s : State) (op r : Nat) (ext : Ext) (m m1 : MillRun) (o : Op) (k : MillRank) (i : MillItem)
    (rows : List AttendRow) (ms : List (Nat × Bool)), other s0 s 0x22 op r ext m o k i → k.part ≠ 0 →
    s.attendInputs (agentOf s op o k) ext o.desc (getAt 0 m.table i.grp) (millSplit o.desc) k.part i = .ok rows →
    let s1 := s.attendMaxima op (agentOf s op o k) ext o m k i rows
    s1.eng.mills.at? op = some m1 → m1.joined k rows.length = some ms →
    ∃ t : State, exec (.ksplitDelivery op r ext) s0 = .next t ∧ t.mem.hbm = s.mem.hbm ∧ t.mem.sram = s.mem.sram
      ∧ t.host = s.host ∧ t.eng.mills.at? op = some { m1 with
          delivered := m1.delivered
            ++ [{ lane := k.lane, item := k.done, part := k.part, cells := (attendPart o.desc m1.anchors ms rows).1 }],
          ranks := m1.ranks.modify r (fun k => { k with done := k.done + 1, landed := [] }) })
  ∧ (∀ (s0 s : State) (op r : Nat) (ext : Ext) (m m1 : MillRun) (o : Op) (k : MillRank) (i : MillItem)
    (rows : List AttendRow), other s0 s 0x22 op r ext m o k i →
    s.attendInputs (agentOf s op o k) ext o.desc (getAt 0 m.table i.grp) (millSplit o.desc) k.part i = .ok rows →
    let s1 := s.attendMaxima op (agentOf s op o k) ext o m k i rows
    s1.eng.mills.at? op = some m1 → m1.joined k rows.length = none →
    (k.part = 0 → exec (.millBlockDone op r ext) s0 = .next s1)
      ∧ (k.part ≠ 0 → exec (.ksplitDelivery op r ext) s0 = .next s1))

/-- R400, R407 to R409: outside a sluice a root is installed or removed and the selected translations of the function leave
every cache at once, and no other function's do; inside a sluice the action is recorded and the operation succeeds. -/
def Obligations.RootsAndInvalidationsTakeEffect : Prop :=
  let dropped (s t : State) (f : Nat) (sel : Translation → Bool) : Prop :=
    (∀ x, x ∈ t.xlat.tlb ↔ x ∈ s.xlat.tlb ∧ ¬(x.fn = f ∧ sel x = true))
      ∧ (∀ x, x ∈ t.xlat.micro ↔ x ∈ s.xlat.micro ∧ ¬(x.2.fn = f ∧ sel x.2 = true))
      ∧ (∀ g, g ≠ f → t.fn g = s.fn g) ∧ t.mem = s.mem ∧ t.eng = s.eng ∧ t.work.sluices = s.work.sluices
  let recorded (s : State) (op : Nat) (o : Op) (r : Recorded) : State :=
    (s.modSluice o.sluice (fun e => { e with recorded := e.recorded ++ [r] })).succeed op
  (∀ (s : State) (op : Nat) (o : Op), s.go? op 0x80 = some o → fld o.desc 0x28 0 1 = 1 →
    s.goodTable (xlatTarget o 0x2C) (0xFFFF * 2 ^ 43 + fld o.desc 0x20 0 43) = true →
    (o.sluice = 0 → ∃ t : State, exec (.xlatRoot op) s = .next t
        ∧ (t.fn (xlatTarget o 0x2C)).root = some (fld o.desc 0x20 0 43)
        ∧ (t.op? op).map (·.phase) = some .running ∧ dropped s t (xlatTarget o 0x2C) (fun _ => true))
      ∧ (o.sluice ≠ 0 → exec (.xlatRoot op) s
          = .next (recorded s op o (.root (xlatTarget o 0x2C) (some (fld o.desc 0x20 0 43))))))
  ∧ (∀ (s : State) (op : Nat) (o : Op), s.go? op 0x80 = some o → fld o.desc 0x28 0 1 = 0 →
    (o.sluice = 0 → ∃ t : State, exec (.xlatRootRemove op) s = .next t ∧ (t.fn (xlatTarget o 0x2C)).root = none
        ∧ (t.op? op).map (·.phase) = some .running ∧ dropped s t (xlatTarget o 0x2C) (fun _ => true))
      ∧ (o.sluice ≠ 0 → exec (.xlatRootRemove op) s = .next (recorded s op o (.root (xlatTarget o 0x2C) none))))
  ∧ (∀ (s : State) (op : Nat) (o : Op), s.go? op 0x81 = some o →
    let sc := fld o.desc 0x2C 0 2
    (o.sluice = 0 → ∃ t : State, exec (.xlatInval op) s = .next t ∧ t.host = s.host
        ∧ (t.op? op).map (·.phase) = some .running
        ∧ dropped s t (xlatTarget o 0x30) (fun x =>
            if sc = 0 then x.overlaps (fld o.desc 0x20 0 55) (fld o.desc 0x28 0 32) else sc = 1 || x.slot ≠ 0))
      ∧ (o.sluice ≠ 0 → exec (.xlatInval op) s = .next
          (recorded s op o (.inval (xlatTarget o 0x30) sc (fld o.desc 0x20 0 55) (fld o.desc 0x28 0 32)))))
  ∧ (∀ (s : State) (op : Nat) (o : Op), s.op? op = some o → o.opcode = 0x80 ∨ o.opcode = 0x81 → o.phase = .running →
    exec (.xlatInvalDone op) s = .next (s.succeed op))

/-- R419 to R422: dirty logging starts, stops and swaps its bitmap, and the operation succeeds; an instance logged when it
starts, or not logged when it stops or swaps, is DIRTY_STATE. -/
def Obligations.DirtyLoggingTakesEffect : Prop :=
  (∀ (s : State) (op : Nat) (o : Op), s.dirtyGo op 1 = some o → s.bitmapOk (fld o.desc 0x28 0 43) = true →
    (s.logged (fld o.desc 0x20 0 9) = false →
      exec (.xlatDirtyStart op) s = .next ((s.setBitmap (fld o.desc 0x20 0 9) (some (fld o.desc 0x28 0 43))).succeed op))
    ∧ (s.logged (fld o.desc 0x20 0 9) = true →
      exec (.xlatDirtyStart op) s = .next (s.decide op Status.dirtyState 0)))
  ∧ (∀ (s : State) (op : Nat) (o : Op), s.dirtyGo op 0 = some o →
    (s.logged (fld o.desc 0x20 0 9) = true →
      exec (.xlatDirtyStop op) s = .next ((s.setBitmap (fld o.desc 0x20 0 9) none).succeed op))
    ∧ (s.logged (fld o.desc 0x20 0 9) = false → exec (.xlatDirtyStop op) s = .next (s.decide op Status.dirtyState 0)))
  ∧ (∀ (s : State) (op : Nat) (o : Op), s.dirtyGo op 2 = some o → s.bitmapOk (fld o.desc 0x28 0 43) = true →
    (s.logged (fld o.desc 0x20 0 9) = true → o.sluice = 0 →
      exec (.xlatDirtySwap op) s = .next ((s.setBitmap (fld o.desc 0x20 0 9) (some (fld o.desc 0x28 0 43))).succeed op))
    ∧ (s.logged (fld o.desc 0x20 0 9) = true → o.sluice ≠ 0 →
      exec (.xlatDirtySwap op) s = .next ((s.modSluice o.sluice (fun e =>
        { e with recorded := e.recorded ++ [.swap (fld o.desc 0x20 0 9) (fld o.desc 0x28 0 43)] })).succeed op))
    ∧ (s.logged (fld o.desc 0x20 0 9) = false → exec (.xlatDirtySwap op) s = .next (s.decide op Status.dirtyState 0)))

/-- R401 to R405: a walk that finds a leaf its function may use is cached, so that the tile's next access in its span
translates without a walk; a walk that faults is counted, ends the operation it was made for, and changes no cache.
The model's own choice here: log 98. -/
def Obligations.WalksFillTheCaches : Prop :=
  (∀ (s : State) (die f slot va tile op pa span hint l : Nat) (g : Bool) (p : Place) (h : Nat),
    s.walkOn die f va = .leaf pa span hint g l → s.classify f (pa + va % 2 ^ span) hint = .ok p h →
    ∃ t : State, exec (.walkDone die f slot va tile op) s = .next t
      ∧ (∃ x : Translation, (0 < tile → t.xlat.micro.head? = some (tile - 1, x)) ∧ (tile = 0 → t.xlat.micro = s.xlat.micro)
          ∧ t.xlat.tlb.head? = some x ∧ x.die = die ∧ x.fn = f
          ∧ x.slot = (if g then 0 else slot) ∧ x.span = span ∧ x.vpage = va >>> span ∧ x.pa = pa ∧ x.hint = hint)
      ∧ (∀ a : Agent, a.fn = f → a.slot = slot → a.tile = tile → 0 < tile → va < 2 ^ 55 → t.translate a va = .ok p h)
      ∧ t.mem.hbm = s.mem.hbm ∧ t.mem.sram = s.mem.sram ∧ t.mem.poison = s.mem.poison ∧ t.mem.remap = s.mem.remap
      ∧ t.host = s.host ∧ t.work = s.work)
  ∧ (∀ (s : State) (die f slot va tile op c l : Nat), s.walkOn die f va = .fault c l →
    ∃ t : State, exec (.walkDone die f slot va tile op) s = .next t ∧ t.xlat.tlb = s.xlat.tlb
      ∧ t.xlat.micro = s.xlat.micro ∧ t.xlat.faults.get 0 die = s.xlat.faults.get 0 die + 1
      ∧ t.xlat.walks.get 0 die = s.xlat.walks.get 0 die + 1 ∧ t.mem = s.mem
      ∧ (∀ o, s.op? op = some o → o.fn = f → o.phase = .running → o.sluice = 0 →
          (t.op? op).map (fun x => (x.phase, x.status, x.detail))
            = some (.ended, Status.translationFault, xlatDetail va c l)))

/-- R452 to R457, R461, R462: what a returned read, a recomputation, a period and an aged request do to the weir; at a window's
end a class within its target forgets its misses; a pond configured with no budget or without auto is in pull mode at once.
The model's own choices here: log 97, 100. -/
def Obligations.WeirCommandsTakeEffect : Prop :=
  (∀ (s : State) (off lat err queued ch : Nat), s.chanOf off = some ch → s.weir.aged.contains (off / 128) = false →
    s.weir.holds ch (s.weirClass off) queued = true → exec (.hbmReadDone off lat ⟨err, queued⟩) s = .next s)
  ∧ (∀ (s : State) (off lat err queued ch : Nat) (aged : Bool), s.chanOf off = some ch →
    s.weir.aged.contains (off / 128) = aged → aged = true ∨ s.weir.holds ch (s.weirClass off) queued = false →
    ∃ s1 : State, exec (.hbmReadDone off lat ⟨err, queued⟩) s = .next
        (if err = 1 then s1.corrected 4 ch
         else if err = 2 then (s1.poisonGranule off 1 4 ch).uncorrectable 4 ch else s1)
      ∧ s1.weir.e.get 0 (8 * portOfChan ch + s.weirClass off)
          = ewma (s.weir.e.get 0 (8 * portOfChan ch + s.weirClass off)) lat
              (s.weir.shiftNow.get 3 (8 * portOfChan ch + s.weirClass off))
      ∧ (∀ k, k ≠ 8 * portOfChan ch + s.weirClass off → s1.weir.e.get 0 k = s.weir.e.get 0 k)
      ∧ s1.weir.credit.get 0 (8 * ch + s.weirClass off)
          = s.weir.credit.get 0 (8 * ch + s.weirClass off) - (if aged then 0 else 1)
      ∧ s1.mem = s.mem ∧ s1.host = s.host ∧ s1.work = s.work ∧ s1.ras = s.ras)
  ∧ (∀ (s : State) (port : Nat), port < 24 →
    ∃ t : State, exec (.weirRecompute port) s = .next t
      ∧ (∀ c, c < 8 → t.weir.q.get 0 (8 * port + c) = s.weir.prio c (s.weir.e.get 0 (8 * port + c))
          ∧ t.weir.shiftNow.get 3 (8 * port + c) = s.weir.shift c)
      ∧ t.weir.e = s.weir.e ∧ t.weir.credit = s.weir.credit ∧ t.mem = s.mem ∧ t.host = s.host)
  ∧ (∀ s : State, ∃ t : State, exec .weirCreditPeriod s = .next t ∧ t.weir.capNow = s.weir.cap
      ∧ t.weir.busyNow = s.weir.busyLevel
      ∧ (∀ c ch, c < 8 → ch < 384 → t.weir.credit.get 0 (8 * ch + c) = bitsOf (s.weir.cap.get 0 c) 0 9)
      ∧ t.mem = s.mem ∧ t.host = s.host)
  ∧ (∀ (s : State) (off ch : Nat), s.chanOf off = some ch →
    exec (.requestAgeTimeout ⟨off, 0⟩) s = .next (s.spendCredit ch (s.weirClass off))
      ∧ (∀ n, n ≠ 0 → ∃ t : State, exec (.requestAgeTimeout ⟨off, n⟩) s = .next t
          ∧ t.weir.credit = (s.spendCredit ch (s.weirClass off)).weir.credit ∧ (off / 128) ∈ t.weir.aged ∧ t.mem = s.mem))
  ∧ (∀ (s : State) (c : Nat), c < 8 → (s.weir.target c = 0 ∨ (s.weir.worst c).2 ≤ s.weir.target c) →
    ∃ t : State, exec .weirWindowEnd s = .next t ∧ t.weir.missRun.get 0 c = 0 ∧ t.weir.missCnt.get 0 c = s.weir.missCnt.get 0 c
      ∧ t.weir.e = s.weir.e ∧ t.mem = s.mem)
  ∧ (∀ (s : State) (h : Nat) (lats : List Nat) (p : WeirPond), s.weirPond h = some p → p.auto = true → p.budget ≠ 0 →
    p.push = false → p.reads ≠ 0 → p.budget < p.peakNow → p.beyond = 2 →
    ∃ (t : State) (q : WeirPond), exec (.weirEvalPeriod ⟨h, lats⟩) s = .next t ∧ t.weirPond h = some q ∧ q.push = true
      ∧ q.beyond = 0 ∧ q.peak = p.peakNow ∧ t.mem = s.mem)
  ∧ (∀ (s : State) (h : Nat) (lats : List Nat) (p0 p : WeirPond), s.weirPond h = some p0 → p0.push = true →
    (s.noteLatencies h lats).weirPond h = some p → p.auto = true → p.budget ≠ 0 → p.reads ≠ 0 → 4 * p.peakNow ≤ 3 * p.budget →
    ∃ (t : State) (q : WeirPond), exec (.weirEvalPeriod ⟨h, lats⟩) s = .next t ∧ t.weirPond h = some q
      ∧ q.push = (p.under ≠ 15) ∧ q.under = (if p.under = 15 then 0 else p.under + 1) ∧ q.peak = p.peakNow ∧ t.mem = s.mem)
  ∧ (∀ (s : State) (value : Nat) (p : WeirPond), s.weirPond s.weir.pondSel = some p →
    bitOf value 16 = false ∨ bitsOf value 0 16 = 0 →
    ∃ (t : State) (q : WeirPond), exec (.weirPondCfgWrite value) s = .next t ∧ t.weirPond s.weir.pondSel = some q
      ∧ q.push = false ∧ q.budget = bitsOf value 0 16 ∧ q.auto = bitOf value 16 ∧ t.mem = s.mem)

/-- R7, R201, R211, R641: a write of bytes within one 64-byte granule of a placed plot with no fenced channel, not logged, is
what the granule reads afterwards, where the granule was not poisoned or is written whole; a write of part of a poisoned
granule changes nothing there. Every other byte of HBM keeps its value. The memories are in canonical form. -/
def Obligations.LandedWriteIsReadBack : Prop :=
  ∀ (s : State) (slu off : Nat) (bytes : List Byte) (p : Plot), s.memWf = true → s.plotOf off = some p → s.plotLost p = false →
    0 < bytes.length → off / 64 = (off + bytes.length - 1) / 64 →
    (∀ q, s.mem.ponds.at? p.owner = some q → (s.fn (q.inst + 1)).bitmap = none) →
    (s.poisonAt off = false ∨ bytes.length = 64 →
      (s.landWrite slu off bytes).readPub off bytes.length = bytes ∧ (s.landWrite slu off bytes).poisonAt off = false)
    ∧ (s.poisonAt off = true → bytes.length ≠ 64 → (s.landWrite slu off bytes).mem.hbm = s.mem.hbm
        ∧ (s.landWrite slu off bytes).poisonAt off = true)
    ∧ (∀ k, (∀ i, i < bytes.length → s.hbmKey (off + i) ≠ some k) →
        (s.landWrite slu off bytes).mem.hbm.get k = s.mem.hbm.get k)
    ∧ (s.landWrite slu off bytes).mem.sram = s.mem.sram ∧ (s.landWrite slu off bytes).mem.prog = s.mem.prog

/-- R223 to R226, R349, R412, R604: what the host reads and writes of device memory.
The model's own choices here: log 86, 87, 88. -/
def Obligations.HostAccessesReachMemory : Prop :=
  (∀ (s : State) (off len : Nat) (write : Bool) (data : List Byte) (ext : Ext), s.linked = true → s.drowsy = false →
    s.boot.ready = true → off < 2 ^ 40 →
    (write = false → off < 0xC000000000 → s.stalls 0 off len false = false → (s.plotOf off).isSome = true →
      (s.plotOf (off + len - 1)).isSome = true → s.poisonIn off len = false →
      exec (.bar2Access 0 off write len data ext) s = .next (s.hostReads (s.readLocal 0 off len) false))
    ∧ (write = false → off < 0xC000000000 → s.stalls 0 off len false = false →
      s.plotOf off = none ∨ s.plotOf (off + len - 1) = none →
      exec (.bar2Access 0 off write len data ext) s = .next (s.hostReads (ones len) false))
    ∧ (write = true → off < 0xC000000000 → s.stalls 0 off data.length true = false →
      exec (.bar2Access 0 off write len data ext) s = .next (s.hostStore off data))
    ∧ (write = false → 0xC000000000 ≤ off →
      exec (.bar2Access 0 off write len data ext) s = .next (s.hostReads (ones len) false))
    ∧ (write = true → 0xC000000000 ≤ off → exec (.bar2Access 0 off write len data ext) s = .next s))
  ∧ (∀ (s : State) (fn off len : Nat) (data bs : List Byte) (ext : Ext), s.linked = true → s.drowsy = false →
    s.boot.ready = true → fn ≠ 0 → s.fnExists fn = true → off < 2 ^ 34 → s.host.cxl ≠ 1 → (s.fn fn).apEnable = true →
    s.readVa { fn, slot := 0, die := 0, tile := 0, sluice := 0, op := 0, pond := 0 } ext ((s.fn fn).apBase * 2 ^ 34 + off) len
      = .ok bs →
    exec (.bar2Access fn off false len data ext) s = .next (s.hostReads bs false))
  ∧ (∀ (s : State) (fn off len : Nat) (data : List Byte) (ext : Ext), s.linked = true → s.drowsy = false →
    s.boot.ready = true → fn ≠ 0 → s.fnExists fn = true → off < 2 ^ 34 → s.host.cxl = 1 ∨ (s.fn fn).apEnable = false →
    exec (.bar2Access fn off false len data ext) s = .next (s.hostReads (ones len) false)
      ∧ exec (.bar2Access fn off true len data ext) s = .next s)
  ∧ (∀ (s : State) (fn off len : Nat) (write : Bool) (data : List Byte) (ext : Ext), s.linked = true → s.drowsy = true →
    s.fnExists fn = true → off < 2 ^ 34 →
    exec (.bar2Access fn off write len data ext) s
      = .next ((if write then s else s.hostReads (ones len) false).wakeEvent 1))
  ∧ (∀ (s : State) (g : Nat) (data recalled : List Byte), s.linked = true → s.host.cxl = 2 → s.drowsy = false →
    s.boot.ready = true → 64 * g < 0xC000000000 → s.movingPlot (64 * g) = false →
    (∀ b, s.heldBySluice 0 (64 * g) 64 b = false) →
    exec (.cxlMemAccess 0 (64 * g) data recalled) s = .next (s.hostLoad (64 * g) 64)
    ∧ (∃ t : State, exec (.cxlMemAccess 1 (64 * g) data recalled) s = .next t
        ∧ { granule := g, agent := 0, owned := false } ∈ t.mem.snoop ∧ t.host.readPoison = (s.hostLoad (64 * g) 64).host.readPoison
        ∧ t.host.readData = (s.hostLoad (64 * g) 64).host.readData)
    ∧ (∃ t : State, exec (.cxlMemAccess 2 (64 * g) data recalled) s = .next t
        ∧ { granule := g, agent := 0, owned := true } ∈ t.mem.snoop
        ∧ t.host.readData = (s.hostLoad (64 * g) 64).host.readData)
    ∧ (∃ t : State, exec (.cxlMemAccess 3 (64 * g) data recalled) s = .next t
        ∧ (∀ e, e ∈ t.mem.snoop → e.granule ≠ g)
        ∧ (s.mem.snoop.any (fun e => e.granule = g && e.owned) = false → t.mem.hbm = s.mem.hbm)
        ∧ (s.memWf = true → s.mem.snoop.any (fun e => e.granule = g && e.owned) = true → data.length = 64 →
            ∀ p, s.plotOf (64 * g) = some p → s.plotLost p = false →
            (∀ q, s.mem.ponds.at? p.owner = some q → (s.fn (q.inst + 1)).bitmap = none) →
            t.readPub (64 * g) 64 = data))
    ∧ (∃ t : State, exec (.cxlMemAccess 4 (64 * g) data recalled) s = .next t
        ∧ (∀ e, e ∈ t.mem.snoop → e.granule ≠ g) ∧ t.mem.hbm = s.mem.hbm)
    ∧ exec (.cxlMemAccess 5 (64 * g) data recalled) s = .next (s.hostStore (64 * g) data))

/-- R637 to R639, R643: what a patrol read finds, and the leak of an error bucket. -/
def Obligations.PatrolAndBucketsTakeEffect : Prop :=
  (∀ (s : State) (off k err : Nat), s.boot.ready = true → s.ras.scrubHours ≠ 0 → s.hbmKey off = some k →
    s.fenced 4 (k / 0x80000000) = false →
    exec (.patrolRead off false err) s = .next
      (if err = 1 then s.corrected 4 (k / 0x80000000)
       else if err = 2 then (s.poisonGranule off 2 4 (k / 0x80000000)).uncorrectable 4 (k / 0x80000000) else s))
  ∧ (∀ (s : State) (off : Nat) (l : LoftLine), s.boot.ready = true → s.ras.scrubLoft ≠ 0 →
    s.fenced 5 (s.homeOf off) = false → (s.plotOf off).isSome = true →
    s.mem.loft.find? (fun l => l.line = off / 128) = some l →
    s.work.sluices.any (fun p => p.2.lines.contains (off / 128) && !p.2.spilled.contains (off / 128)) = false →
    exec (.patrolRead off true 1) s = .next (s.corrected 5 (s.homeOf off))
    ∧ (l.dirty = true → exec (.patrolRead off true 2) s
        = .next ((s.poisonGranule off 3 5 (s.homeOf off)).uncorrectable 5 (s.homeOf off)))
    ∧ (l.dirty = false → exec (.patrolRead off true 2) s = .next
        (({ s with mem := { s.mem with loft := s.mem.loft.filter (fun l => l.line ≠ off / 128) } } : State).corrected 5
          (s.homeOf off))))
  ∧ (∀ (s : State) (cls unit : Nat), 1 ≤ cls → cls ≤ 7 → unit < unitLimit cls → 0 < (s.bucket cls unit).level →
    ∃ t : State, exec (.bucketLeak cls unit) s = .next t ∧ (t.bucket cls unit).level = (s.bucket cls unit).level - 1
      ∧ (∀ u, u ≠ unitCode cls unit → t.ras.buckets.at? u = s.ras.buckets.at? u) ∧ t.mem = s.mem ∧ t.host = s.host)

/-- R188 to R193, R159, R161, R195, R196: a program's load and run enter the queues of their tiles; the load puts its image into
every rank's program memory; the run starts on all its ranks with the registers of R159, and completes when all have halted.
A malformed instruction or a spent budget ends the run. The model's own choices here: log 37, 41. -/
def Obligations.VaneProgramsLoadAndRun : Prop :=
  (∀ (s : State) (op : Nat) (o : Op) (p : Pond), s.go? op 0x31 = some o → s.mem.ponds.at? o.pond = some p →
    p.rankError true (vaneRanks o.desc).1 (vaneRanks o.desc).2 = none →
    ∃ (t : State) (run : VaneRun), exec (.vaneRun op) s = .next t ∧ t.eng.runs.at? op = some run ∧ run.load = false
      ∧ run.started = false ∧ run.order = s.eng.order + 1 ∧ t.eng.order = s.eng.order + 1
      ∧ run.tiles = (List.range (vaneRanks o.desc).2).map (fun i => ((p.tileOf true ((vaneRanks o.desc).1 + i)).join).getD 0)
      ∧ (t.op? op).map (·.phase) = some .queued ∧ t.mem = s.mem)
  ∧ (∀ (s : State) (op : Nat) (ext : Ext) (o : Op) (r : VaneRun) (bs : List Byte), ext.ecc = [] → s.go? op 0x30 = none →
    s.eng.runs.at? op = some r → s.op? op = some o → r.load = true → s.vaneTurn op = true →
    s.readVa (s.agent op o (dieOfTile (r.tiles.headD 0)) (r.tiles.headD 0 + 1)) ext (fld o.desc 0x30 0 55)
      (8 * fld o.desc 0x28 0 14) = .ok bs →
    ∃ t : State, exec (.vaneLoad op ext) s = .next t ∧ t.eng.runs.at? op = none
      ∧ (t.op? op).map (fun x => (x.phase, x.status)) = some (.ended, 0)
      ∧ t.mem.prog = r.tiles.foldl (fun m tile => m.write (tile * 0x10000 + 8 * fld o.desc 0x24 0 13) bs) s.mem.prog
      ∧ t.mem.hbm = s.mem.hbm ∧ t.mem.sram = s.mem.sram)
  ∧ (∀ (s : State) (op : Nat) (ext : Ext) (o : Op), ext.ecc = [] → s.go? op 0x30 = some o →
    exec (.vaneLoad op ext) s = exec (.vaneLoad op ext) (s.vaneEnter op o true))
  ∧ (∀ (s : State) (op : Nat) (o : Op) (r : VaneRun), s.eng.runs.at? op = some r → s.op? op = some o → r.load = false →
    r.started = false → o.phase = .queued → s.vaneTurn op = true →
    ∃ (t : State) (r' : VaneRun), exec (.vaneRunStart op) s = .next t ∧ t.eng.runs.at? op = some r' ∧ r'.started = true
      ∧ r'.tiles = r.tiles ∧ r'.ranks.length = r.tiles.length
      ∧ (∀ i tile, r.tiles[i]? = some tile → r'.ranks[i]? = some (startRank o.desc i tile))
      ∧ (t.op? op).map (·.phase) = some .running ∧ t.mem = s.mem)
  ∧ (∀ (s : State) (op : Nat) (r : VaneRun), s.eng.runs.at? op = some r → r.load = false → r.started = true →
    r.ranks.all (fun k => k.halted && k.transfers.isEmpty) = true →
    exec (.vaneRunComplete op) s
      = .next (if r.ovf = 0 then s.succeed op else s.decide op Status.quernOverflow r.ovf))
  ∧ (∀ (s : State) (op r : Nat) (e : VaneEnv), s.vaneEnv op r = some e →
    exec (.vaneTimeout op r) s = .next (s.decide op Status.vaneTimeout (vaneDetail e.k.pc r 0))
      ∧ (e.i.ok = false →
          exec (.vaneUndefinedInstr op r) s = .next (s.decide op Status.vaneBadInstr (vaneDetail e.k.pc r 0))))
  ∧ (∀ (s : State) (op r : Nat) (e : VaneEnv), s.vaneAt op r = some e → e.poisoned = true →
    exec (.vaneNop op r) s = .next (s.decide op Status.memoryError (vaneDetail e.k.pc r 0)))

/-- R163, R172: under its predicate a vector instruction writes the active lanes, keeps or clears the others, changes no other
register, and adds its flags. -/
def Obligations.PredicationDecidesTheLanes : Prop :=
  ∀ (e : VaneEnv) (f : Nat → Nat × Nat), e.i.d < e.k.v.length →
    (∀ i, i < 64 → (e.vector f).vr e.i.d i
      = if e.active i then (f i).1 % 2 ^ 32 else if e.i.z then 0 else e.k.vr e.i.d i)
    ∧ (∀ n, n ≠ e.i.d → (e.vector f).v[n]? = e.k.v[n]?)
    ∧ (e.vector f).s = e.k.s ∧ (e.vector f).p = e.k.p ∧ (e.vector f).acc = e.k.acc ∧ (e.vector f).pc = e.k.pc
    ∧ (e.vector f).counters = e.k.counters ∧ (e.vector f).transfers = e.k.transfers
    ∧ (∀ b, (e.vector f).flags.testBit b
        = (e.k.flags.testBit b || (List.range 64).any (fun i => e.active i && (f i).2.testBit b)))

/-- R154, R158, R165: an instruction that goes on leaves its rank with the registers it wrote and the next pc; no other rank, no
other run and no memory changes, and s0 and p0 take no write. -/
def Obligations.InstructionsChangeTheirRankAlone : Prop :=
  ∀ (s : State) (op r : Nat) (e : VaneEnv) (k : VaneRank) (n : Nat), s.vaneEnv op r = some e →
    (∃ run : VaneRun, (e.goto k n).eng.runs.at? op = some run ∧ run.ranks[r]? = some { k with pc := n }
        ∧ (∀ j, j ≠ r → run.ranks[j]? = e.run.ranks[j]?) ∧ run.tiles = e.run.tiles)
      ∧ (∀ j, j ≠ op → (e.goto k n).eng.runs.at? j = s.eng.runs.at? j)
      ∧ (e.goto k n).mem = s.mem ∧ (e.goto k n).host = s.host ∧ (e.goto k n).work.sluices = s.work.sluices
      ∧ (∀ j, j ≠ op → (e.goto k n).op? j = s.op? j)
      ∧ e.next k = e.goto k (e.k.pc + 1)
      ∧ (e.k.setS 0 n = e.k ∧ e.k.setP 0 n = e.k ∧ e.k.sr 0 = 0 ∧ e.k.pr 0 = 2 ^ 64 - 1)

/-- R162, R165, R166, R167, R181, R192: the control instructions. A taken branch goes to its target inside program memory; FENCE,
WAITC and MWAIT go on once what they wait for holds, and wait till then.
The model's own choices here: log 37, 39. -/
def Obligations.VaneControlTakesEffect : Prop :=
  ∀ (s : State) (op r : Nat) (e : VaneEnv), s.vaneEnv op r = some e → e.i.ok = true → e.k.pc < 8191 →
    let a := BitVec.ofNat 64 (e.k.sr e.i.a)
    let b := BitVec.ofNat 64 (e.k.sr e.i.b)
    let branch (x : Instr) (c : Bool) : Prop :=
      (c = true → 0 ≤ (e.k.pc : Int) + e.simm → (e.k.pc : Int) + e.simm ≤ 8191 →
        exec x s = .next (e.goto e.k (e.k.pc + e.simm).toNat))
      ∧ (c = true → (e.k.pc : Int) + e.simm < 0 ∨ 8191 < (e.k.pc : Int) + e.simm →
        exec x s = .next (s.decide op Status.vanePcRange (vaneDetail e.k.pc r 0)))
      ∧ (c = false → exec x s = .next (e.next e.k))
    (e.i.op = 0x00 → exec (.vaneNop op r) s = .next (e.next e.k))
    ∧ (e.i.op = 0x01 → exec (.halt op r) s = .next (s.vaneCommit op r (e.put { e.k with halted := true })))
    ∧ (e.i.op = 0x02 → exec (.trap op r) s = .next (s.decide op Status.vaneTrap (vaneDetail e.k.pc r e.i.imm)))
    ∧ (e.i.op = 0x03 → exec (.fence op r) s = .next (if e.k.transfers = [] then e.next e.k else s))
    ∧ (e.i.op = 0x04 → branch (.br op r) true)
    ∧ (e.i.op = 0x05 → branch (.beq op r) (a == b))
    ∧ (e.i.op = 0x06 → branch (.bne op r) (a != b))
    ∧ (e.i.op = 0x07 → branch (.blt op r) (a.slt b))
    ∧ (e.i.op = 0x08 → branch (.bge op r) (!a.slt b))
    ∧ (e.i.op = 0x09 → branch (.bltu op r) (a.ult b))
    ∧ (e.i.op = 0x0A → 0 ≤ (e.k.pc : Int) + e.simm → (e.k.pc : Int) + e.simm ≤ 8191 →
        exec (.jal op r) s = .next (e.goto (e.k.setS e.i.d (e.k.pc + 1)) (e.k.pc + e.simm).toNat))
    ∧ (e.i.op = 0x0B → e.k.sr e.i.a ≤ 8191 → exec (.jr op r) s = .next (e.goto e.k (e.k.sr e.i.a)))
    ∧ (e.i.op = 0x0C → branch (.bany op r) (e.k.pr e.i.a != 0))
    ∧ (e.i.op = 0x0D → branch (.bnone op r) (e.k.pr e.i.a == 0))
    ∧ (e.i.op = 0x0E → e.i.imm = 0 → ∃ v, exec (.srd op r) s = .next (s.takeFree.2.vaneCommit op r
        ((e.put (e.k.setS e.i.d v)).setPc r (e.k.pc + 1))))
    ∧ (e.i.op = 0x0E → e.i.imm = 1 → exec (.srd op r) s = .next (e.next (e.k.setS e.i.d s.ns)))
    ∧ (e.i.op = 0x0E → e.i.imm = 2 →
        exec (.srd op r) s = .next (e.next (e.k.setS e.i.d (fld e.o.desc 0x20 0 8 + r))))
    ∧ (e.i.op = 0x0E → e.i.imm = 3 → exec (.srd op r) s = .next (e.next (e.k.setS e.i.d r)))
    ∧ (e.i.op = 0x0E → e.i.imm = 4 → exec (.srd op r) s = .next (e.next (e.k.setS e.i.d (fld e.o.desc 0x20 16 8))))
    ∧ (e.i.op = 0x0E → e.i.imm = 5 → ∀ p, s.mem.ponds.at? e.o.pond = some p →
        exec (.srd op r) s = .next (e.next (e.k.setS e.i.d p.binding.tilesV.length)))
    ∧ (e.i.op = 0x0E → e.i.imm = 6 → exec (.srd op r) s = .next (e.next (e.k.setS e.i.d e.k.flags)))
    ∧ (e.i.op = 0x0E → e.i.imm = 7 → exec (.srd op r) s = .next (e.next (e.k.setS e.i.d e.k.transfers.length)))
    ∧ (e.i.op = 0x0F → exec (.waitc op r) s = .next
        (if e.i.imm ≤ getAt 0 e.k.counters e.i.c then
           e.next { e.k with counters := setAt e.k.counters e.i.c (getAt 0 e.k.counters e.i.c - e.i.imm) }
         else s))
    ∧ (e.i.op = 0x7B → exec (.mwait op r) s = .next (if e.k.transfers.length ≤ e.i.imm then e.next e.k else s))

/-- R162, R166: the scalar instructions write s[d] with their result modulo 2^64 and go on. -/
def Obligations.VaneScalarsTakeEffect : Prop :=
  ∀ (s : State) (op r : Nat) (e : VaneEnv), s.vaneEnv op r = some e → e.i.ok = true → e.k.pc < 8191 →
    let a := BitVec.ofNat 64 (e.k.sr e.i.a)
    let b := BitVec.ofNat 64 (e.k.sr e.i.b)
    let n := e.k.sr e.i.b % 64
    let simm := (BitVec.ofNat 32 e.i.imm).signExtend 64
    let writes (x : Instr) (v : BitVec 64) : Prop := exec x s = .next (e.next (e.k.setS e.i.d v.toNat))
    (e.i.op = 0x10 → writes (.sadd op r) (a + b))
    ∧ (e.i.op = 0x11 → writes (.ssub op r) (a - b))
    ∧ (e.i.op = 0x12 → writes (.smul op r) (a * b))
    ∧ (e.i.op = 0x13 → writes (.sand op r) (a &&& b))
    ∧ (e.i.op = 0x14 → writes (.sor op r) (a ||| b))
    ∧ (e.i.op = 0x15 → writes (.sxor op r) (a ^^^ b))
    ∧ (e.i.op = 0x16 → writes (.sshl op r) (a <<< n))
    ∧ (e.i.op = 0x17 → writes (.sshr op r) (a >>> n))
    ∧ (e.i.op = 0x18 → writes (.ssra op r) (a.sshiftRight n))
    ∧ (e.i.op = 0x19 → writes (.saddi op r) (a + simm))
    ∧ (e.i.op = 0x1A → writes (.smovi op r) simm)
    ∧ (e.i.op = 0x1B → writes (.smovhi op r) (BitVec.ofNat 32 e.i.imm ++ BitVec.ofNat 32 (e.k.sr e.i.d)))
    ∧ (e.i.op = 0x1E → writes (.sslt op r) (if a.slt b then 1 else 0))
    ∧ (e.i.op = 0x57 → writes (.pget op r) (BitVec.ofNat 64 (e.k.pr e.i.a)))
    ∧ (e.i.op = 0x5D → writes (.vextr op r) (BitVec.ofNat 64 (e.k.vr e.i.a (e.k.sr e.i.b % 64))))

/-- R166: the integer, predicate, move and pack instructions compute lane by lane under predication, or write a predicate. -/
def Obligations.VaneLanesTakeEffect : Prop :=
  ∀ (s : State) (op r : Nat) (e : VaneEnv), s.vaneEnv op r = some e → e.i.ok = true → e.k.pc < 8191 →
    let a (i : Nat) : BitVec 32 := BitVec.ofNat 32 (e.k.vr e.i.a i)
    let b (i : Nat) : BitVec 32 := BitVec.ofNat 32 (e.k.vr e.i.b i)
    let c (i : Nat) : BitVec 32 := BitVec.ofNat 32 (e.k.vr e.i.c i)
    let n (i : Nat) : Nat := e.k.vr e.i.b i % 32
    let lanes (x : Instr) (f : Nat → BitVec 32) : Prop := exec x s = .next (e.next (e.vector (fun i => ((f i).toNat, 0))))
    let pred (x : Instr) (v : BitVec 64) : Prop := exec x s = .next (e.next (e.k.setP e.i.d v.toNat))
    let pa := BitVec.ofNat 64 (e.k.pr e.i.a)
    let pb := BitVec.ofNat 64 (e.k.pr e.i.b)
    (e.i.op = 0x40 → lanes (.viadd op r) (fun i => a i + b i))
    ∧ (e.i.op = 0x41 → lanes (.visub op r) (fun i => a i - b i))
    ∧ (e.i.op = 0x42 → lanes (.vimul op r) (fun i => a i * b i))
    ∧ (e.i.op = 0x43 → lanes (.vand op r) (fun i => a i &&& b i))
    ∧ (e.i.op = 0x44 → lanes (.vor op r) (fun i => a i ||| b i))
    ∧ (e.i.op = 0x45 → lanes (.vxor op r) (fun i => a i ^^^ b i))
    ∧ (e.i.op = 0x46 → lanes (.vshl op r) (fun i => a i <<< n i))
    ∧ (e.i.op = 0x47 → lanes (.vshr op r) (fun i => a i >>> n i))
    ∧ (e.i.op = 0x48 → lanes (.vsra op r) (fun i => (a i).sshiftRight (n i)))
    ∧ (e.i.op = 0x49 → lanes (.vimin op r) (fun i => if (a i).slt (b i) then a i else b i))
    ∧ (e.i.op = 0x4A → lanes (.vimax op r) (fun i => if (a i).slt (b i) then b i else a i))
    ∧ (e.i.op = 0x51 → ∃ m : Nat, exec (.vicmp op r) s = .next (e.next (e.k.setP e.i.d m))
        ∧ ∀ i, i < 64 → m.testBit i = (e.active i && intCond e.i.imm (e.k.vr e.i.a i) (e.k.vr e.i.b i)))
    ∧ (e.i.op = 0x52 → pred (.pand op r) (pa &&& pb))
    ∧ (e.i.op = 0x53 → pred (.por op r) (pa ||| pb))
    ∧ (e.i.op = 0x54 → pred (.pxor op r) (pa ^^^ pb))
    ∧ (e.i.op = 0x55 → pred (.pnot op r) (~~~pa))
    ∧ (e.i.op = 0x56 → pred (.pset op r) (BitVec.ofNat 64 (e.k.sr e.i.a)))
    ∧ (e.i.op = 0x58 → lanes (.vsel op r) (fun i => if (e.k.pr e.i.c).testBit i then a i else b i))
    ∧ (e.i.op = 0x59 → lanes (.vmovi op r) (fun _ => BitVec.ofNat 32 e.i.imm))
    ∧ (e.i.op = 0x5A → lanes (.vbcast op r) (fun _ => BitVec.ofNat 32 (e.k.sr e.i.a)))
    ∧ (e.i.op = 0x5B → lanes (.vlane op r) (fun i => BitVec.ofNat 32 i))
    ∧ (e.i.op = 0x5C → lanes (.vshuf op r) (fun i => a (e.k.vr e.i.b i % 64)))
    ∧ (e.i.op = 0x5E →
        let row := setAt (getAt [] e.k.v e.i.d) (e.k.sr e.i.b % 64) (BitVec.ofNat 32 (e.k.sr e.i.a))
        exec (.vins op r) s = .next (e.next { e.k with v := setAt e.k.v e.i.d row }))
    ∧ (e.i.op = 0x5F → lanes (.vpk2 op r) (fun i => (b i).extractLsb' 0 16 ++ (a i).extractLsb' 0 16))
    ∧ (e.i.op = 0x64 → lanes (.vpk4 op r) (fun i => (BitVec.ofNat 8 (e.k.vr e.i.d i) ++ (c i).extractLsb' 0 8)
        ++ ((b i).extractLsb' 0 8 ++ (a i).extractLsb' 0 8)))

/-- R166, R168, R169, R172: the FP32 and packed instructions round each exact result once and the transcendentals return the
value of R169, lane by lane under predication; a packed one computes its halves independently. The model's own choice here:
log 7. -/
def Obligations.VaneFloatsTakeEffect : Prop :=
  ∀ (s : State) (op r : Nat) (e : VaneEnv), s.vaneEnv op r = some e → e.i.ok = true → e.k.pc < 8191 →
    let a (i : Nat) : Nat := e.k.vr e.i.a i
    let b (i : Nat) : Nat := e.k.vr e.i.b i
    let c (i : Nat) : Nat := e.k.vr e.i.c i
    let x := e.k.sr e.i.b % 2 ^ 32
    let half : FloatFmt := if e.i.imm = 1 then .fp16 else .bf16
    let lanes (x : Instr) (f : Nat → Nat × Nat) : Prop := exec x s = .next (e.next (e.vector f))
    let halves (x : Instr) (g : Nat → Nat → Nat → Nat × Nat) : Prop := exec x s = .next (e.next (e.vector (fun i =>
      ((g (a i / 65536) (b i / 65536) (c i / 65536)).1 * 65536 + (g (a i % 65536) (b i % 65536) (c i % 65536)).1,
       (g (a i % 65536) (b i % 65536) (c i % 65536)).2 ||| (g (a i / 65536) (b i / 65536) (c i / 65536)).2))))
    (e.i.op = 0x20 → lanes (.vadd op r) (fun i => fp2 .fp32 Val.add (a i) (b i)))
    ∧ (e.i.op = 0x21 → lanes (.vsub op r) (fun i => fp2 .fp32 valSub (a i) (b i)))
    ∧ (e.i.op = 0x22 → lanes (.vmul op r) (fun i => fp2 .fp32 Val.mul (a i) (b i)))
    ∧ (e.i.op = 0x23 → lanes (.vfma op r) (fun i => fma .fp32 false (a i) (b i) (c i)))
    ∧ (e.i.op = 0x24 → lanes (.vfms op r) (fun i => fma .fp32 true (a i) (b i) (c i)))
    ∧ (e.i.op = 0x25 → lanes (.vmin op r) (fun i => minMax .fp32 true (a i) (b i)))
    ∧ (e.i.op = 0x26 → lanes (.vmax op r) (fun i => minMax .fp32 false (a i) (b i)))
    ∧ (e.i.op = 0x27 → lanes (.vabs op r) (fun i => (a i % 2 ^ 31, 0)))
    ∧ (e.i.op = 0x28 → lanes (.vneg op r) (fun i => (a i ^^^ 2 ^ 31, 0)))
    ∧ (e.i.op = 0x29 → lanes (.vdiv op r) (fun i => fp2 .fp32 Val.div (a i) (b i)))
    ∧ (e.i.op = 0x2A → lanes (.vsqrt op r) (fun i =>
        ((roundTo .fp32 (f32 (a i)).sqrt).1, (roundTo .fp32 (f32 (a i)).sqrt).2 ||| nanIn [f32 (a i)])))
    ∧ (e.i.op = 0x2B → lanes (.vadds op r) (fun i => fp2 .fp32 Val.add (a i) x))
    ∧ (e.i.op = 0x2C → lanes (.vmuls op r) (fun i => fp2 .fp32 Val.mul (a i) x))
    ∧ (e.i.op = 0x2D → lanes (.vfmas op r) (fun i => fma .fp32 false (a i) x (c i)))
    ∧ (e.i.op = 0x30 → halves (.hadd op r) (fun u v _ => fp2 half Val.add u v))
    ∧ (e.i.op = 0x31 → halves (.hsub op r) (fun u v _ => fp2 half valSub u v))
    ∧ (e.i.op = 0x32 → halves (.hmul op r) (fun u v _ => fp2 half Val.mul u v))
    ∧ (e.i.op = 0x33 → halves (.hfma op r) (fma half false))
    ∧ (e.i.op = 0x34 → halves (.hmin op r) (fun u v _ => minMax half true u v))
    ∧ (e.i.op = 0x35 → halves (.hmax op r) (fun u v _ => minMax half false u v))
    ∧ (e.i.op = 0x38 → lanes (.vexp op r) (fun i => transcend 0x38 (a i)))
    ∧ (e.i.op = 0x39 → lanes (.vlog op r) (fun i => transcend 0x39 (a i)))
    ∧ (e.i.op = 0x3A → lanes (.vrcp op r) (fun i => transcend 0x3A (a i)))
    ∧ (e.i.op = 0x3B → lanes (.vrsqrt op r) (fun i => transcend 0x3B (a i)))
    ∧ (e.i.op = 0x3C → lanes (.vsin op r) (fun i => transcend 0x3C (a i)))
    ∧ (e.i.op = 0x3D → lanes (.vcos op r) (fun i => transcend 0x3D (a i)))
    ∧ (e.i.op = 0x3E → lanes (.vtanh op r) (fun i => transcend 0x3E (a i)))
    ∧ (e.i.op = 0x3F → lanes (.verf op r) (fun i => transcend 0x3F (a i)))

/-- R80, R163, R166, R170, R171: a compare sets p[d] to its condition at the active lanes and to 0 elsewhere; the reductions
write s[d] from the active lanes; VCVT converts each lane. -/
def Obligations.VaneComparesAndReductions : Prop :=
  ∀ (s : State) (op r : Nat) (e : VaneEnv), s.vaneEnv op r = some e → e.i.ok = true → e.k.pc < 8191 →
    let a (i : Nat) : Nat := e.k.vr e.i.a i
    let nan := nanIn (e.lanes.map (fun i => f32 (a i)))
    (e.i.op = 0x50 → ∃ (m : Nat) (k : VaneRank), exec (.vcmp op r) s = .next (e.next k)
        ∧ k = { e.k.setP e.i.d m with flags := k.flags }
        ∧ ∀ i, i < 64 → m.testBit i = (e.active i && floatCond e.i.imm (f32 (a i)) (f32 (e.k.vr e.i.b i))))
    ∧ (e.i.op = 0x60 →
        let sum := treeOpt ((List.range 64).map (fun i => if e.active i then some (a i) else none)) 6 0
        exec (.vrsum op r) s = .next (e.next ((e.k.setS e.i.d (f32Canon (sum.1.getD 0))).flag (sum.2 ||| nan))))
    ∧ (e.i.op = 0x60 → e.lanes = [] → exec (.vrsum op r) s = .next (e.next (e.k.setS e.i.d 0)))
    ∧ (e.i.op = 0x61 → exec (.vrmax op r) s = .next (e.next ((e.k.setS e.i.d
        (e.lanes.foldl (fun x i => (minMax .fp32 false x (a i)).1) 0xFF800000)).flag nan)))
    ∧ (e.i.op = 0x62 → exec (.vrmin op r) s = .next (e.next ((e.k.setS e.i.d
        (e.lanes.foldl (fun x i => (minMax .fp32 true x (a i)).1) 0x7F800000)).flag nan)))
    ∧ (e.i.op = 0x63 → exec (.vcvt op r) s = .next (e.next (e.vector e.cvt)))

/-- R166, R173, R174: loads and stores of tile SRAM at aligned addresses inside it, with no transfer outstanding and no poison
read: a load brings the bytes it addresses, a store puts the active lanes' bytes in rising order and changes no other byte. -/
def Obligations.VaneLoadsAndStores : Prop :=
  ∀ (s : State) (op r : Nat) (e : VaneEnv), s.vaneEnv op r = some e → e.i.ok = true → e.k.pc < 8191 →
    e.run.ranks.all (fun k => k.transfers.isEmpty) = true →
    let base := ((BitVec.ofNat 64 (e.k.sr e.i.a)) + (BitVec.ofNat 32 e.i.imm).signExtend 64).toNat
    let w := if e.i.c = 0 then 1 else if e.i.c = 1 then 2 else 4
    let good (n x : Nat) : Prop := x % n = 0 ∧ x + n ≤ 0x200000
    let loads (x : Instr) (addr : Nat → Nat) : Prop :=
      (∀ i, i < 64 → e.active i = true → good w (addr i) ∧ s.sramPoisoned e.k.tile (addr i) w = false) →
      exec x s = .next (e.next (e.vector (fun i => (leNat (s.readSram e.k.tile (addr i) w), 0))))
    let stores (x : Instr) (addr : Nat → Nat) : Prop :=
      (∀ i, i < 64 → e.active i = true → good w (addr i)) →
      ∃ (t : State) (run : VaneRun), exec x s = .next t ∧ t.eng.runs.at? op = some run
        ∧ run.ranks[r]? = some { e.k with pc := e.k.pc + 1 }
        ∧ t.mem.sram = e.lanes.foldl (fun m i => m.write (e.k.tile * 0x400000 + addr i) (leBytes w (e.k.vr e.i.d i))) s.mem.sram
        ∧ (∀ x, (∀ i, i < 64 → e.active i = true → ¬(e.k.tile * 0x400000 + addr i ≤ x
            ∧ x < e.k.tile * 0x400000 + addr i + w)) → t.mem.sram.get x = s.mem.sram.get x)
        ∧ t.mem.hbm = s.mem.hbm ∧ t.mem.prog = s.mem.prog ∧ t.host = s.host
    (e.i.op = 0x1C → good 8 base → s.sramPoisoned e.k.tile base 8 = false →
        exec (.sld op r) s = .next (e.next (e.k.setS e.i.d (leNat (s.readSram e.k.tile base 8)))))
    ∧ (e.i.op = 0x1D → s.memWf = true → good 8 base → ∃ (t : State) (run : VaneRun), exec (.sst op r) s = .next t
        ∧ t.readSram e.k.tile base 8 = leBytes 8 (e.k.sr e.i.d) ∧ t.eng.runs.at? op = some run
        ∧ run.ranks[r]? = some { e.k with pc := e.k.pc + 1 }
        ∧ (∀ x, ¬(e.k.tile * 0x400000 + base ≤ x ∧ x < e.k.tile * 0x400000 + base + 8) →
            t.mem.sram.get x = s.mem.sram.get x)
        ∧ t.mem.hbm = s.mem.hbm ∧ t.mem.prog = s.mem.prog)
    ∧ (e.i.op = 0x68 → loads (.vld op r) (fun i => (base + i * w) % 2 ^ 64))
    ∧ (e.i.op = 0x69 → loads (.vlds op r) (fun i => (base + i * e.k.sr e.i.b) % 2 ^ 64))
    ∧ (e.i.op = 0x6A → loads (.vgath op r) (fun i => (base + e.k.vr e.i.b i) % 2 ^ 64))
    ∧ (e.i.op = 0x6B → stores (.vst op r) (fun i => (base + i * w) % 2 ^ 64))
    ∧ (e.i.op = 0x6C → stores (.vsts op r) (fun i => (base + i * e.k.sr e.i.b) % 2 ^ 64))
    ∧ (e.i.op = 0x6D → stores (.vscat op r) (fun i => (base + e.k.vr e.i.b i) % 2 ^ 64))

/-- R182 to R185: the Quern instructions change the accumulators of the active lanes exactly; QLD and QST move them from and to
tile SRAM as Q128 integers with their tags. The model's own choice here: log 38. -/
def Obligations.VaneQuernsTakeEffect : Prop :=
  ∀ (s : State) (op r : Nat) (e : VaneEnv), s.vaneEnv op r = some e → e.i.ok = true → e.k.pc < 8191 →
    e.run.ranks.all (fun k => k.transfers.isEmpty) = true →
    let anchor := (BitVec.ofNat 64 (e.k.sr e.i.c)).toInt
    let base := ((BitVec.ofNat 64 (e.k.sr e.i.a)) + (BitVec.ofNat 32 e.i.imm).signExtend 64).toNat
    let at_ (i : Nat) : Nat := (base + 16 * i) % 2 ^ 64
    let tagAt := e.k.sr e.i.b
    let acc (i : Nat) : Quern := getAt Quern.zero e.k.acc i
    let inside : Prop := tagAt % 16 = 0 ∧ tagAt + 16 ≤ 0x200000
      ∧ ∀ i, i < 64 → e.active i = true → at_ i % 16 = 0 ∧ at_ i + 16 ≤ 0x200000
    (e.i.op = 0x70 → exec (.qclr op r) s = .next (e.next (e.accs (fun _ _ => (Quern.zero, 0)))))
    ∧ (e.i.op = 0x71 → -512 ≤ anchor → anchor ≤ 511 →
        ∃ k : VaneRank, exec (.qmac op r) s = .next (e.next k) ∧ k.v = e.k.v ∧ k.s = e.k.s ∧ k.p = e.k.p
          ∧ (∀ i q, e.k.acc[i]? = some q → i < 64 → k.acc[i]? = some (if e.active i then
              q.add (termOf anchor ((f32 (e.k.vr e.i.a i)).mul (f32 (e.k.vr e.i.b i))).1) else q)))
    ∧ (e.i.op = 0x72 → -512 ≤ anchor → anchor ≤ 511 →
        ∃ k : VaneRank, exec (.qaddv op r) s = .next (e.next k) ∧ k.v = e.k.v ∧ k.s = e.k.s ∧ k.p = e.k.p
          ∧ (∀ i q, e.k.acc[i]? = some q → i < 64 → k.acc[i]? = some (if e.active i then
              q.add (termOf anchor (f32 (e.k.vr e.i.a i))) else q)))
    ∧ (e.i.op = 0x73 → e.active 0 = true → e.k.acc.length = 64 →
        ∃ k : VaneRank, exec (.qsum op r) s = .next (e.next k)
          ∧ k.acc[0]? = some (e.lanes.foldl (fun q i => q.add (acc i)) Quern.zero)
          ∧ (∀ i, 0 < i → i < 64 → k.acc[i]? = some (if e.active i then Quern.zero else acc i)))
    ∧ (e.i.op = 0x74 → e.lanes = [] → exec (.qld op r) s = .next (e.next e.k))
    ∧ (e.i.op = 0x74 → e.lanes ≠ [] → inside → s.sramPoisoned e.k.tile tagAt 16 = false →
        (∀ i, i < 64 → e.active i = true → s.sramPoisoned e.k.tile (at_ i) 16 = false) →
        exec (.qld op r) s = .next (e.next (e.accs (fun i _ => (quernOf (leNat (s.readSram e.k.tile (at_ i) 16))
          (bitsOf (leNat (s.readSram e.k.tile tagAt 16)) (2 * i) 2), 0)))))
    ∧ (e.i.op = 0x75 → e.lanes = [] → exec (.qst op r) s = .next (e.next e.k))
    ∧ (e.i.op = 0x75 → s.memWf = true → e.lanes ≠ [] → inside → (e.o.sluice = 0 ∨ ∀ i, e.active i = true → (acc i).overflowed = false) →
        ∃ (t : State) (run : VaneRun), exec (.qst op r) s = .next t ∧ t.eng.runs.at? op = some run
          ∧ run.ranks[r]? = some { e.k with pc := e.k.pc + 1 }
          ∧ run.ovf = e.run.ovf + (e.lanes.filter (fun i => (acc i).overflowed)).length
          ∧ (∀ i, e.active i = true → i < 64 → (at_ i + 16 ≤ tagAt ∨ tagAt + 16 ≤ at_ i) →
              (∀ j, j < 64 → e.active j = true → j ≠ i → at_ i + 16 ≤ at_ j ∨ at_ j + 16 ≤ at_ i) →
              t.readSram e.k.tile (at_ i) 16 = leBytes 16 (acc i).q128.1)
          ∧ (∀ i, e.active i = true → i < 64 →
              bitsOf (leNat (t.readSram e.k.tile tagAt 16)) (2 * i) 2 = (acc i).q128.2 % 4)
          ∧ t.mem.hbm = s.mem.hbm ∧ t.mem.prog = s.mem.prog)

/-- R176, R177, R180, R181: MGET, MPUT and MSEND with good operands issue a transfer, an MPUT and an MSEND with the bytes of the
SRAM at issue; a rank with 16 transfers outstanding waits. An MSEND lands its bytes and its count; a completed transfer leaves.
The model's own choice here: log 39. -/
def Obligations.VaneTransfersTakeEffect : Prop :=
  (∀ (s : State) (op r : Nat) (e : VaneEnv), s.vaneEnv op r = some e → e.i.ok = true → e.k.pc < 8191 →
    let a := e.k.sr e.i.a
    let b := e.k.sr e.i.b
    let c := e.k.sr e.i.c
    let n := e.k.sr e.i.d
    let issues (x : Instr) (t : Transfer) : Prop :=
      (16 ≤ e.k.transfers.length → exec x s = .next s)
      ∧ (e.k.transfers.length < 16 → ∃ (u : State) (run : VaneRun), exec x s = .next u ∧ u.eng.runs.at? op = some run
          ∧ run.ranks[r]? = some { e.k with
              transfers := e.k.transfers ++ [{ t with id := e.run.nextTransfer, pc := e.k.pc }], pc := e.k.pc + 1 }
          ∧ run.nextTransfer = e.run.nextTransfer + 1 ∧ u.mem = s.mem)
    let move (kind : Nat) (data : List Byte) : Transfer :=
      { id := 0, kind := kind, va := a, off := b, len := c, dest := 0, doff := 0, counter := 0, inc := false, data := data, undef := [],
        landed := false, pc := 0 }
    let send : Transfer :=
      { id := 0, kind := 2, va := 0, off := c, len := n, dest := a, doff := b, counter := e.i.imm % 16,
        inc := e.i.imm.testBit 4, data := s.readSram e.k.tile c n, undef := [], landed := false, pc := 0 }
    (e.i.op = 0x78 → a < 2 ^ 55 → 1 ≤ c → b + c ≤ 0x200000 → issues (.mget op r) (move 0 []))
    ∧ (e.i.op = 0x79 → a < 2 ^ 55 → 1 ≤ c → b + c ≤ 0x200000 → s.sramPoisoned e.k.tile b c = false →
        issues (.mput op r) (move 1 (s.readSram e.k.tile b c)))
    ∧ (e.i.op = 0x7A → a < e.run.tiles.length → 1 ≤ n → c + n ≤ 0x200000 → b + n ≤ 0x200000 →
        s.sramPoisoned e.k.tile c n = false →
        issues (.msend op r) send))
  ∧ (∀ (s : State) (op rank id : Nat) (ext : Ext) (o : Op) (r : VaneRun) (k : VaneRank) (t : Transfer),
    ext.ecc = [] → s.eng.orphans = [] → s.eng.runs.at? op = some r → s.op? op = some o → r.ranks[rank]? = some k →
    k.transfers.find? (fun t => t.id = id) = some t →
    let a := s.agent op o (dieOfTile k.tile) (k.tile + 1)
    (t.kind = 2 → t.landed = true → exec (.transferDone op rank id ext) s = .next (s.dropTransfer op rank id))
    ∧ (t.kind ≠ 2 → s.inLineOrder a op rank t = false → exec (.transferDone op rank id ext) s = .next s)
    ∧ (t.kind ≠ 2 → s.inLineOrder a op rank t = true → ∀ s1, s.moveTransfer a ext k.tile t = .ok s1 →
        exec (.transferDone op rank id ext) s = .next (s1.dropTransfer op rank id))
    ∧ (t.kind ≠ 2 → s.inLineOrder a op rank t = true → ∀ s1 st x, s.moveTransfer a ext k.tile t = .bad s1 st x →
        exec (.transferDone op rank id ext) s = .next (((if st = Status.sluiceAborted then s1 else s).dropTransfer op rank id).decide
          op st (vaneDetail t.pc rank 0))))
  ∧ (∀ (s : State) (op rank id : Nat) (r : VaneRun) (k : VaneRank) (t : Transfer), s.memWf = true → s.eng.orphans = [] →
    s.eng.runs.at? op = some r → r.ranks[rank]? = some k → t.undef = [] →
    k.transfers.find? (fun t => t.id = id && t.kind = 2 && !t.landed) = some t → s.inSendOrder op rank t = true →
    ∃ u : State, exec (.msendLanded op rank id) s = .next u
      ∧ u.readSram (getAt 0 r.tiles t.dest) t.doff t.data.length = t.data
      ∧ (∀ x, ¬(getAt 0 r.tiles t.dest * 0x400000 + t.doff ≤ x
          ∧ x < getAt 0 r.tiles t.dest * 0x400000 + t.doff + t.data.length) → u.mem.sram.get x = s.mem.sram.get x)
      ∧ u.eng.runs.at? op = some (if t.inc then (r.landed rank id).bump t.dest t.counter else r.landed rank id)
      ∧ u.mem.hbm = s.mem.hbm ∧ u.mem.prog = s.mem.prog)

/-- R238 to R249: the life of a reduction group: its opening takes a slot, its run starts at the head of its queue, takes in each
contribution once, ends with its sum at its destinations, or by a timeout, a cancel or a group table that differs.
The model's own choices here: log 8, 43, 44, 45. -/
def Obligations.ReductionCommandsTakeEffect : Prop :=
  (∀ (s : State) (op : Nat) (ext : Ext) (o : Op) (bs : List Byte) (ms : List RedMember) (x : Nat × Nat), s.go? op 0x40 = some o →
    let d := o.desc
    let n := fld d 0x34 0 17
    let table := (List.range n).map (fun i => leNat ((bs.drop (64 * i)).take 64))
    fld d 0x40 0 32 = 0 → s.readVa (s.newt o.fn o.ctx 0) ext (fld d 0x38 0 55) (64 * n) = .ok bs →
    (List.range n).map (fun i => parseMember d i (getAt 0 table i)) = ms.map some →
    (∀ i m, ms[i]? = some m → s.memberOk d o.pond i [] m = true) → s.redGroup? o.fn (fld d 0x20 0 64) = none →
    (s.fn o.fn).groupMax = 0 →
    s.groupSlot ((ms.filter s.isLocalMember).filterMap (s.memberDie (s.newt o.fn o.ctx 0) o.pond)) = some x →
    ∃ (t : State) (g : RedGroup), exec (.redOpen op ext) s = .next t ∧ t.eng.groups.at? s.eng.nextGroup = some g
      ∧ t.eng.nextGroup = s.eng.nextGroup + 1 ∧ g.fn = o.fn ∧ g.gid = fld d 0x20 0 64 ∧ g.kind = fld d 0x28 0 2
      ∧ g.fmt = fld d 0x28 2 5 ∧ g.elements = fld d 0x30 0 32 ∧ g.root = fld d 0x44 0 17 ∧ g.members = ms ∧ g.flume = false
      ∧ g.die = x.1 ∧ g.slot = x.2 ∧ g.run = none
      ∧ (t.op? op).map (fun y => (y.phase, y.status, y.detail)) = some (.ended, 0, x.1 * 64 + x.2) ∧ t.mem = s.mem)
  ∧ (∀ (s : State) (op pond : Nat) (o : Op) (table : List Nat) (ms : List RedMember), s.op? op = some o → o.phase ≠ .ended →
    fld o.desc 0x40 0 32 = 0 →
    s.groupSlot ((ms.filter s.isLocalMember).filterMap (s.memberDie (s.newt o.fn o.ctx 0) pond)) = none →
    ((s.openGroup op o pond table ms).op? op).map (fun y => (y.phase, y.status, y.detail))
        = some (if 4096 ≤ s.flumeGroups then (.ended, Status.groupTableFull, 0x10000)
                else if fld o.desc 0x28 7 1 = 0 then (.ended, Status.groupTableFull, 0) else (.ended, 0, 0x10000))
      ∧ (s.openGroup op o pond table ms).eng.nextGroup
          = s.eng.nextGroup + (if s.flumeGroups < 4096 ∧ fld o.desc 0x28 7 1 ≠ 0 then 1 else 0))
  ∧ (∀ (s : State) (op k : Nat) (o : Op) (g : RedGroup) (stops : List (Nat × Nat)), s.go? op 0x41 = some o →
    s.redGroup? o.fn (fld o.desc 0x20 0 64) = some (k, g) → s.eng.groups.at? k = some g → g.run = none → g.flume = false →
    s.eng.redCrcs = [] → s.eng.redHeld = [] →
    (∀ p, p ∈ s.work.ops → p.1 ≠ op → p.2.opcode = 0x41 → p.2.phase ≠ .queued) → s.redStops g = .inr stops →
    ∃ (t : State) (r : RedRun), exec (.redRun op) s = .next t ∧ t.eng.groups.at? k = some { g with run := some r, crcSent := true }
      ∧ r.op = op ∧ r.gen = fld o.desc 0x28 0 32 ∧ r.stops = stops ∧ r.parts = [] ∧ r.out = [] ∧ (t.op? op).map (·.phase) = some .running
      ∧ t.mem = s.mem ∧ t.host = s.host)
  ∧ (∀ (s : State) (op k : Nat) (o : Op) (g : RedGroup), s.go? op 0x42 = some o →
    s.redGroup? o.fn (fld o.desc 0x20 0 64) = some (k, g) →
    (∀ p, p ∈ s.work.ops → p.2.opcode = 0x41 → p.2.phase ≠ .queued ∧ p.2.phase ≠ .running) →
    ∃ t : State, exec (.redClose op) s = .next t ∧ t.eng.groups.at? k = none
      ∧ (∀ j, j ≠ k → (t.eng.groups.at? j).map (fun g => { g with run := none })
          = (s.eng.groups.at? j).map (fun g => { g with run := none }))
      ∧ (t.op? op).map (fun y => (y.phase, y.status)) = some (.ended, 0) ∧ t.mem = s.mem)
  ∧ (∀ (s : State) (f gid dev crc : Nat),
    (s.redGroup? f gid = none → ∃ t : State, exec (.redTableCrc f gid dev crc) s = .next t
      ∧ t.eng.redCrcs = (f, gid, dev, crc) :: s.eng.redCrcs.filter (fun x => !(x.1 = f && x.2.1 = gid && x.2.2.1 = dev))
      ∧ t.mem = s.mem ∧ t.work = s.work)
    ∧ (∀ k g r o, s.redGroup? f gid = some (k, g) → s.eng.groups.at? k = some g → g.fn = f → g.gid = gid → g.run = some r →
      s.op? r.op = some o → o.phase ≠ .ended → dev ∈ s.otherDevices g → crc ≠ g.crc →
      ∃ t : State, exec (.redTableCrc f gid dev crc) s = .next t
        ∧ (t.op? r.op).map (fun y => (y.phase, y.status)) = some (.ended, Status.groupMismatch)))
  ∧ (∀ (s : State) (f gid gen c mask fl : Nat) (data : List Byte) (ext : Ext), s.redGroup? f gid = none →
    ∃ t : State, exec (.redContribution f gid gen c mask ⟨fl, data⟩ ext) s = .next t ∧ t.mem = s.mem ∧ t.work = s.work
      ∧ t.eng.redHeld = s.eng.redHeld ++ [{ fn := f, gid, gen, chunk := c, mask, flags := fl % 8, data }])
  ∧ (∀ (s : State) (f gid k c i fl : Nat) (data : List Byte) (ext : Ext) (g : RedGroup) (m : RedMember) (r : RedRun) (o : Op)
    (cells : List Cell), s.redGroup? f gid = some (k, g) → s.eng.groups.at? k = some g → g.members[i]? = some m →
    g.run = some r → s.isRedRoot g = true → s.isLocalMember m = true → s.op? r.op = some o → c < g.chunks → r.has c i = false →
    s.readMember (s.agent r.op o g.die 0) ext g r o i c m = .ok cells →
    ∃ t : State, exec (.redContribution f gid r.gen c (2 ^ i) ⟨fl, data⟩ ext) s = .next t
      ∧ t.eng.groups.at? k = some { g with run := some { r with
          parts := r.parts ++ [{ chunk := c, mask := 2 ^ i, cells }], flags := r.flags ||| redNan cells } }
      ∧ t.mem.hbm = s.mem.hbm ∧ t.mem.sram = s.mem.sram)
  ∧ (∀ (s : State) (f gid k c mask fl : Nat) (data : List Byte) (ext : Ext) (g : RedGroup) (m : RedMember) (r : RedRun),
    s.redGroup? f gid = some (k, g) → s.eng.groups.at? k = some g → g.members[lowBit g.members.length mask]? = some m →
    g.run = some r → s.isRedRoot g = true → s.isLocalMember m = false → ext.poison = false → c < g.chunks → mask ≠ 0 →
    mask < 2 ^ g.members.length → g.fmt = 0x10 ∨ isSubtree g.members.length mask = true →
    r.parts.any (fun x => x.chunk = c && x.mask &&& mask ≠ 0) = false →
    ∃ t : State, exec (.redContribution f gid r.gen c mask ⟨fl, data⟩ ext) s = .next t
      ∧ t.eng.groups.at? k = some { g with run := some { r with
          parts := r.parts ++ [{ chunk := c, mask, cells := wireCells g.fmt (g.chunkLen c) data }],
          flags := r.flags ||| fl % 8 } }
      ∧ t.mem = s.mem)
  ∧ (∀ (s s1 : State) (op k c fl fl' : Nat) (data : List Byte) (ext : Ext) (g : RedGroup) (r : RedRun) (o : Op) (cells : List Cell),
    s.redGroupOf op = some (k, g, r) → s.op? op = some o → s.crcsMatch g = true → c < g.chunks →
    r.out.any (fun x => x.1 = c) = false →
    (s.isRedRoot g = true → r.complete g = true → r.total g.fmt c g.members.length = some (cells, fl') →
      s.deliverRed op k o g r ext c cells fl' = .ok s1 →
      ∃ u : State, exec (.redRunDone op ⟨c, fl, data⟩ ext) s = .next (u.settleRed op k) ∧ u.mem = s1.mem ∧ u.host = s1.host
        ∧ u.eng = s1.eng ∧ u.work.ops = s1.work.ops ∧ (s.otherDevices g = [] → u = s1))
    ∧ (s.isRedRoot g = false → (List.range g.chunks).all r.sent.contains = true → (s.redNeeds g).contains c = true →
      data.length = g.chunkLen c * wireSize g.fmt →
      s.deliverRed op k o g r ext c (wireCells g.fmt (g.chunkLen c) data) (fl % 8) = .ok s1 →
      exec (.redRunDone op ⟨c, fl, data⟩ ext) s = .next (s1.settleRed op k))
    ∧ (s.isRedRoot g = false → (List.range g.chunks).all r.sent.contains = true → s.redNeeds g = [] →
      s.eng.groups.at? k = some g → g.run = some r → g.flume = false → r.ovf = 0 →
      exec (.redRunDone op ⟨c, fl, data⟩ ext) s = .next ((s.addFlags op r.flags).succeed op)))
  ∧ (∀ (s : State) (id k : Nat) (g : RedGroup) (r : RedRun), s.eng.groups.at? k = some g → g.run = some r → g.flume = false →
    (s.redNeeds g).all (fun c => r.out.any (fun x => x.1 = c)) = true →
    s.settleRed id k = if r.ovf = 0 then (s.addFlags id r.flags).succeed id
      else (s.addFlags id r.flags).decide id Status.quernOverflow r.ovf)
  ∧ (∀ (s : State) (op k : Nat) (g : RedGroup) (r : RedRun), s.redGroupOf op = some (k, g, r) → r.out = [] →
    (s.isRedRoot g = false ∨ s.crcsMatch g = false ∨ r.complete g = false) →
    exec (.redTimeout op) s = .next (s.decide op Status.groupTimeout 0))
  ∧ (∀ (s : State) (f gid gen id : Nat), s.liveOps (fun o => o.opcode = 0x41 && o.fn = f && fld o.desc 0x20 0 64 = gid
      && fld o.desc 0x28 0 32 = gen && (o.phase = .queued || o.phase = .running)) = [id] →
    exec (.redCancel f gid gen) s = .next (s.decide id Status.groupCancelled 0))

/-- R68, R80, R245: the sum of a chunk over the members of a group: with every member's single contribution present it exists,
with a member's missing from every part it does not; over two members it is the first contribution plus the second, and an
FP32 sum holds no NaN but the canonical one. -/
def Obligations.ReductionTreeAddsEveryMember : Prop :=
  (∀ (r : RedRun) (fmt c n : Nat), 0 < n → (∀ i, i < n → ∃ p, p ∈ r.parts ∧ p.chunk = c ∧ p.mask = 2 ^ i) →
    (r.total fmt c n).isSome = true)
  ∧ (∀ (r : RedRun) (fmt c n i : Nat), i < n → (∀ p, p ∈ r.parts → p.chunk = c → p.mask.testBit i = false) →
    r.total fmt c n = none)
  ∧ (∀ (r : RedRun) (fmt c : Nat) (a b : List Cell),
    r.parts = [{ chunk := c, mask := 1, cells := a }, { chunk := c, mask := 2, cells := b }] →
    r.total fmt c 2 = if fmt = 0x10 then some (addCells a b) else some ((addCells a b).1.map Cell.canon, (addCells a b).2))
  ∧ (∀ (r : RedRun) (fmt c n : Nat) (cells : List Cell) (fl : Nat), fmt ≠ 0x10 → r.total fmt c n = some (cells, fl) →
    ∀ v, Cell.f (some v) ∈ cells → (f32 v).isNan = true → v = 0x7FC00000)

/-- R253, R257, R260, R269, R271, R274, R275, R203, R266, R383: the life of a sluice on one device, from its opening to its
commit or abort, and the layout changes that wait for no sluice to be open. A sluice descriptor takes its effect when it is
resolved, and succeeds then or once its wait is met. The model's own choices here: log 18, 118. -/
def Obligations.SluiceCommandsTakeEffect : Prop :=
  let acted (s t : State) (op : Nat) (o : Op) : Prop :=
    (s.readyOp op o = true → (t.op? op).map (fun x => (x.phase, x.status)) = some (.ended, 0))
    ∧ (s.readyOp op o = false → (t.op? op).map (fun x => (x.phase, x.acted)) = some (.fetched, true))
  (∀ (s : State) (op : Nat) (ext : Ext) (o : Op), s.acts? op 0x50 = some o → fld o.desc 0x20 0 32 = 0 →
    (∀ p, p ∈ s.work.sluices → ¬(p.2.fn = o.fn ∧ p.2.id = fld o.desc 8 0 48)) → s.layoutPending = false →
    s.entriesUsed < 1024 → (s.fn o.fn).sluiceMax = 0 →
    ∃ (t : State) (e : Sluice), exec (.sluiceOpen op ext) s = .next t ∧ t.work.sluices.at? s.work.nextSluice = some e
      ∧ e.fn = o.fn ∧ e.id = fld o.desc 8 0 48 ∧ e.state = .open_ ∧ e.staged = [] ∧ e.guards = [] ∧ e.opener = o.ctx
      ∧ t.work.nextSluice = s.work.nextSluice + 1 ∧ acted s t op o ∧ t.mem = s.mem)
  ∧ (∀ (s : State) (op k : Nat) (o : Op) (ps : List Nat), s.acts? op 0x51 = some o →
    s.joins o.fn o.sq (fld o.desc 8 0 48) = k → k ≠ 0 →
    s.guardPages (s.newt o.fn o.ctx 0) ((pagesOf (fld o.desc 0x20 0 55) (fld o.desc 0x28 0 32)).map (· * 4096)) = .ok ps →
    s.guardCount k ps ≤ 65536 →
    ∃ t : State, exec (.sluiceGuard op) s = .next t ∧ t.mem = s.mem ∧ t.work.sluices = s.work.sluices ∧ acted s t op o
      ∧ (t.op? op).map (fun x => (x.done, x.count)) = some (ps.eraseDups, k))
  ∧ (∀ (s : State) (op k : Nat) (o : Op) (e : Sluice), s.acts? op 0x52 = some o →
    s.joins o.fn o.sq (fld o.desc 8 0 48) = k → k ≠ 0 → s.work.sluices.at? k = some e →
    ∃ t : State, exec (.sluiceCommit op) s = .next t
      ∧ t.work.sluices.at? k = some { e with
          state := .closing, commitOp := op,
          deadline := if e.mere ≠ 0 && !e.participant && e.deadline = 0 then s.ns + e.timeoutUs * 1000 else e.deadline }
      ∧ (∀ j, j ≠ k → t.work.sluices.at? j = s.work.sluices.at? j)
      ∧ (t.op? op).map (fun x => (x.phase, x.acted)) = some (if s.readyOp op o then .running else .fetched, true)
      ∧ t.mem = s.mem ∧ t.host = s.host)
  ∧ (∀ (s : State) (op k : Nat) (o : Op) (e : Sluice), s.acts? op 0x53 = some o →
    s.sees o.fn o.sq (fld o.desc 8 0 48) = k → s.work.sluices.at? k = some e →
    (e.state = .committed → exec (.sluiceAbort op) s = .next (s.decide op Status.alreadyCommitted 0))
    ∧ (e.state = .open_ ∨ e.state = .closing ∨ e.state = .holding → ∃ t : State, exec (.sluiceAbort op) s = .next t
        ∧ (t.work.sluices.at? k).map (fun x => (x.state, x.staged, x.guards, x.reason))
            = some (.aborting, [], [], Reason.requested)
        ∧ (t.op? op).map (fun x => x.acted) = some true
        ∧ (s.readyOp op o = true → (t.op? op).map (fun x => x.phase) = some .ended) ∧ t.mem = s.mem))
  ∧ (∀ (s : State) (op : Nat) (o : Op), s.op? op = some o → o.acted = true → s.readyOp op o = true →
    (∀ ext, o.opcode = 0x50 → exec (.sluiceOpen op ext) s = .next (s.succeed op))
    ∧ (o.opcode = 0x51 → exec (.sluiceGuard op) s = .next (s.succeed op))
    ∧ (o.opcode = 0x52 → ∃ t : State, exec (.sluiceCommit op) s = .next t ∧ (t.op? op).map (·.phase) = some .running
        ∧ t.work.sluices = s.work.sluices ∧ t.mem = s.mem)
    ∧ (o.opcode = 0x53 → exec (.sluiceAbort op) s = .next (s.succeed op)))
  ∧ (∀ (s : State) (f id k : Nat) (e : Sluice), s.sluiceNamed f id (fun e => e.state = .closing) = k →
    s.work.sluices.at? k = some e → e.state = .closing → s.work.ops.any (fun p => p.2.sluice = k) = false →
    s.commitRuns e = true → s.commitBlocked k e = false → e.recorded = [] →
    ∃ t : State, exec (.sluiceDrained f id) s = .next t ∧ t.work.sluices.at? k = some { e with state := .holding }
      ∧ t.mem = s.mem ∧ t.work.ops = s.work.ops)
  ∧ (∀ (s : State) (f id k : Nat) (e : Sluice), s.sluiceNamed f id (fun e => e.state = .holding) = k →
    s.work.sluices.at? k = some e →
    (e.mere = 0 → ∃ t : State, exec (.sluiceHoldAcked f id) s = .next t
      ∧ t.work.sluices.at? k = some { e with state := .committed, guards := [] } ∧ t.mem = s.mem ∧ t.work.ops = s.work.ops)
    ∧ (e.mere ≠ 0 → e.participant = true → ∃ t : State, exec (.sluiceHoldAcked f id) s = .next t
      ∧ t.work.sluices.at? k = some { e with state := .prepared } ∧ t.mem = s.mem ∧ t.work.ops = s.work.ops
      ∧ t.work.sent.length = s.work.sent.length + 1))
  ∧ (∀ (s : State) (f id k : Nat) (e : Sluice),
    s.sluiceNamed f id (fun e => e.state = .committed && !e.published) = k → s.work.sluices.at? k = some e →
    e.state = .committed → e.mere = 0 → e.recorded = [] → e.staged = [] →
    ∃ t : State, exec (.sluicePublished f id) s = .next t ∧ t.work.sluices.at? k = none ∧ t.mem = s.mem
      ∧ (∀ o, s.op? e.commitOp = some o → o.phase ≠ .ended →
          (t.op? e.commitOp).map (fun x => (x.phase, x.status)) = some (.ended, 0)))
  ∧ (∀ (s : State) (f id k : Nat) (e : Sluice), s.sluiceNamed f id (fun e => e.state = .aborting) = k →
    s.work.sluices.at? k = some e →
    (∀ p, p ∈ s.work.ops → p.2.sluice ≠ k ∧ p.1 ≠ e.commitOp ∧ p.1 ∉ e.abortOps) →
    ∃ t : State, exec (.sluiceAbortDone f id) s = .next t ∧ t.work.sluices.at? k = none
      ∧ (∀ j, j ≠ k → t.work.sluices.at? j = s.work.sluices.at? j) ∧ t.mem = s.mem)
  ∧ (∀ (s : State) (die : Nat), s.work.sluices = [] → die < 4 →
    (s.mem.stageWritten.get 4 die ≠ s.mem.stageWays.get 4 die →
      ∃ t : State, exec (.stageWaysApply die) s = .next t ∧ t.mem.stageWays.get 4 die = s.mem.stageWritten.get 4 die
        ∧ (∀ d, d ≠ die → t.mem.stageWays.get 4 d = s.mem.stageWays.get 4 d)
        ∧ (∀ l, l ∈ t.mem.loft → l.die = die → s.mem.stageWritten.get 4 die ≤ l.way) ∧ t.mem.hbm = s.mem.hbm)
    ∧ (∃ t : State, exec (.spillRegionApply die) s = .next t
        ∧ t.mem.spill.get (0, 0) die = s.mem.spillWritten.get (0, 0) die ∧ t.mem.hbm = s.mem.hbm))

/-- R262, R264, R271, R275: a write of an operation in a sluice changes no published byte; an aborted sluice's staged writes never
do; at the publish of its one write within a granule that is not poisoned the bytes written are what is read.
The model's own choice here: log 99. -/
def Obligations.StagedWritesAreHiddenTillPublished : Prop :=
  (∀ (s t : State) (a : Agent) (refused : Bool) (hint : Option Hint) (kind va off lh : Nat) (bytes : List Byte),
    s.translate a va = .ok (.local_ off) lh → a.sluice ≠ 0 → s.writePiece a refused hint kind va bytes = .ok t →
    t.mem = s.mem
      ∧ (∀ e, s.work.sluices.at? a.sluice = some e → (t.work.sluices.at? a.sluice).map (·.staged)
          = some (e.staged ++ (if kind = 0 then cutLines off bytes else [(off, bytes)]).map (fun x =>
              { op := a.op, kind := kind, off := x.1, bytes := x.2 }))))
  ∧ (∀ (s : State) (k reason origin : Nat) (e : Sluice), s.work.sluices.at? k = some e → e.state ≠ .committed →
    e.state ≠ .aborting →
    (s.abortSluice k reason origin).mem = s.mem
      ∧ ((s.abortSluice k reason origin).work.sluices.at? k).map (fun x => (x.state, x.staged, x.reason, x.origin))
          = some (.aborting, [], reason, origin)
      ∧ (∀ id o, s.op? id = some o → o.sluice = k → o.phase ≠ .ended →
          ((s.abortSluice k reason origin).op? id).map (fun x => (x.phase, x.status, x.detail))
            = some (.ended, Status.sluiceAborted, reason + origin * 256)))
  ∧ (∀ (s : State) (f id k off opn : Nat) (bytes : List Byte) (e : Sluice) (p : Plot),
    s.sluiceNamed f id (fun e => e.state = .committed && !e.published) = k → s.work.sluices.at? k = some e →
    s.memWf = true → e.recorded = [] → e.staged = [{ op := opn, kind := 0, off := off, bytes := bytes }] → 0 < bytes.length →
    off / 64 = (off + bytes.length - 1) / 64 → s.plotOf off = some p → s.plotLost p = false → s.poisonAt off = false →
    s.hostOwns (off / 64 * 64) 64 = false →
    (∀ q, s.mem.ponds.at? p.owner = some q → (s.fn (q.inst + 1)).bitmap = none) →
    ∃ t : State, exec (.sluicePublished f id) s = .next t ∧ t.readPub off bytes.length = bytes
      ∧ (∀ x, (∀ i, i < bytes.length → s.hbmKey (off + i) ≠ some x) → t.mem.hbm.get x = s.mem.hbm.get x))

/-- R278 to R282: the messages of a sluice across devices: votes, the decision, acknowledgements, a forwarded abort and its
answer, and the coordinator's timeouts. A message for a sluice this device has not opened yet waits.
The model's own choice here: log 119. -/
def Obligations.CrossDeviceSluicesTakeEffect : Prop :=
  (∀ (s : State) (mere id dev reason origin : Nat) (commit : Bool), mere ≠ 0 →
    (s.sluiceOfMere mere id false = 0 → exec (.sluiceVote mere id dev commit reason origin) s
      = .next (s.holdNote mere id (.vote dev commit reason origin)))
    ∧ (s.sluiceOfMere mere id true = 0 → exec (.sluiceDecision mere id commit reason origin) s
      = .next (s.holdNote mere id (.decision commit reason origin))))
  ∧ (∀ (s : State) (mere id dev reason origin k : Nat) (e : Sluice), s.sluiceOfMere mere id false = k → k ≠ 0 →
    s.work.sluices.at? k = some e → mere ≠ 0 → e.state ≠ .committed → e.state ≠ .aborting →
    (exec (.sluiceVote mere id dev false reason origin) s = .next (s.abortSluice k reason origin))
    ∧ (e.state ≠ .prepared → ∃ t : State, exec (.sluiceVote mere id dev true reason origin) s = .next t
        ∧ (t.work.sluices.at? k).any (fun x => x.votes.contains dev && x.state = e.state) = true ∧ t.mem = s.mem
        ∧ t.work.ops = s.work.ops)
    ∧ (e.state = .prepared → (∀ d, d ∈ e.parts → d = dev ∨ d ∈ e.votes) →
        ∃ t : State, exec (.sluiceVote mere id dev true reason origin) s = .next t
          ∧ (t.work.sluices.at? k).map (fun x => (x.state, x.guards)) = some (.committed, []) ∧ t.mem = s.mem
          ∧ t.work.sent.length = s.work.sent.length + (e.parts.filter (· ≠ s.fab.devId)).length))
  ∧ (∀ (s : State) (mere id reason origin k : Nat) (e : Sluice), s.sluiceOfMere mere id true = k → k ≠ 0 →
    s.work.sluices.at? k = some e → mere ≠ 0 →
    exec (.sluiceDecision mere id true reason origin) s = .next (if e.state = .prepared then s.commitPoint k else s)
    ∧ exec (.sluiceDecision mere id false reason origin) s = .next (s.abortSluiceWith false k reason origin))
  ∧ (∀ (s : State) (mere id dev k : Nat) (e : Sluice), s.sluiceOfMere mere id false = k → s.work.sluices.at? k = some e →
    mere ≠ 0 → e.state = .committed → e.participant = false → e.mere ≠ 0 → e.acks.contains dev = false →
    (e.published = false → ∃ t : State, exec (.sluiceAck mere id dev) s = .next t
        ∧ t.work.sluices.at? k = some { e with acks := dev :: e.acks } ∧ t.mem = s.mem ∧ t.work.ops = s.work.ops)
    ∧ (e.published = true → (∀ d, d ∈ e.parts → d = s.fab.devId ∨ d = dev ∨ d ∈ e.acks) →
        ∃ t : State, exec (.sluiceAck mere id dev) s = .next t ∧ t.work.sluices.at? k = none ∧ t.mem = s.mem
          ∧ (∀ o, s.op? e.commitOp = some o → o.phase ≠ .ended →
              (t.op? e.commitOp).map (fun x => (x.phase, x.status)) = some (.ended, 0))))
  ∧ (∀ (s : State) (mere id dev k : Nat), s.sluiceOfMere mere id false = k →
    (k = 0 → s.voteHeld mere id dev = true →
      exec (.sluiceAbortForward mere id dev) s = .next (s.holdNote mere id (.abort dev)))
    ∧ (k = 0 → s.voteHeld mere id dev = false → exec (.sluiceAbortForward mere id dev) s = .next (s.answerAbort mere id dev 1))
    ∧ (∀ e, k ≠ 0 → s.work.sluices.at? k = some e → exec (.sluiceAbortForward mere id dev) s = .next
        (if e.state = .committed then s.answerAbort mere id dev 1
         else (s.abortSluice k Reason.requested dev).answerAbort mere id dev 0)))
  ∧ (∀ (s : State) (mere id : Nat) (committed : Bool),
    ∃ t : State, exec (.sluiceAbortAnswer mere id committed) s = .next t ∧ t.mem = s.mem
      ∧ (∀ op o, s.op? op = some o → o.opcode = 0x53 → o.phase = .running → o.count = mere → fld o.desc 8 0 48 = id →
          (t.op? op).map (fun x => (x.phase, x.status))
            = some (.ended, if committed then Status.alreadyCommitted else 0)))
  ∧ (∀ (s : State) (f id k : Nat) (e : Sluice),
    s.sluiceNamed f id (fun e => e.mere ≠ 0 && !e.participant && e.deadline ≠ 0) = k → s.work.sluices.at? k = some e →
    exec (.sluiceCommitTimeout f id) s = .next (s.abortSluice k Reason.timeout 0xFFFF))
  ∧ (∀ (s : State) (f id k : Nat) (e : Sluice) (o : Op),
    s.sluiceNamed f id (fun e => e.mere ≠ 0 && !e.participant && e.state = .committed && e.published) = k →
    s.work.sluices.at? k = some e → s.op? e.commitOp = some o → o.phase ≠ .ended →
    ∃ t : State, exec (.commitUnconfirmed f id) s = .next t ∧ t.work.sluices.at? k = none ∧ t.mem = s.mem
      ∧ (t.op? e.commitOp).map (fun x => (x.phase, x.status, x.detail)) = some (.ended, Status.commitUnconfirmed,
          (e.parts.filter (fun d => d ≠ s.fab.devId && !e.acks.contains d)).length))

/-- R293 to R306, R318, R674: creating, scheduling, re-binding and destroying ponds, and placing plots outside them. Tiles that
come to a pond or leave it hold zero. The model's own choice here: log 23. -/
def Obligations.PondCommandsTakeEffect : Prop :=
  let zeroTiles (t : State) (ts : List Nat) : Prop :=
    ∀ tile, tile ∈ ts → ∀ i, i < 0x400000 → t.mem.sram.get (tile * 0x400000 + i) = 0
  let succeeded (t : State) (op : Nat) : Prop := (t.op? op).map (fun x => (x.phase, x.status)) = some (.ended, 0)
  (∀ (s : State) (op inst : Nat) (ext : Ext) (o : Op) (b : Binding), s.go? op 0x60 = some o →
    s.mem.ponds.at? (fld o.desc 0x20 0 9) = none → s.readBinding o ext (fld o.desc 0x20 0 9) none = .ok (inst, b) →
    ∃ (t : State) (p : Pond), exec (.pondCreate op ext) s = .next t ∧ t.mem.ponds.at? (fld o.desc 0x20 0 9) = some p
      ∧ p.inst = inst ∧ p.binding = b ∧ p.weight = 16 ∧ p.quantum = 10 ∧ p.running = 0 ∧ p.beats = none
      ∧ t.mem.remap = placeAll s.mem.remap b.plots ∧ zeroTiles t p.tiles ∧ succeeded t op ∧ t.mem.hbm = s.mem.hbm
      ∧ (∀ h, h ≠ fld o.desc 0x20 0 9 → t.mem.ponds.at? h = s.mem.ponds.at? h))
  ∧ (∀ (s : State) (op : Nat) (o : Op) (p : Pond), s.go? op 0x62 = some o →
    s.mem.ponds.at? (fld o.desc 0x20 0 9) = some p → s.pondResident (fld o.desc 0x20 0 9) = false →
    s.work.ops.any (fun x => x.2.pond = fld o.desc 0x20 0 9 && x.2.inExec) = false →
    s.stagesIn (p.binding.plots.map (·.1)) = false → p.rebind = none →
    ∃ t : State, exec (.pondDestroy op) s = .next t ∧ t.mem.ponds.at? (fld o.desc 0x20 0 9) = none
      ∧ (∀ q, q ∈ t.mem.remap → q.2.owner ≠ fld o.desc 0x20 0 9)
      ∧ (∀ m, m ∈ t.fab.meres → m.2.pond ≠ fld o.desc 0x20 0 9) ∧ zeroTiles t p.tiles ∧ succeeded t op)
  ∧ (∀ (s : State) (op : Nat) (o : Op), s.go? op 0x65 = some o → (s.mem.ponds.at? (fld o.desc 0x20 0 9)).isSome = true →
    exec (.pondSched op) s = .next ((s.modPond (fld o.desc 0x20 0 9) (fun p =>
      { p with weight := fld o.desc 0x20 16 8, quantum := fld o.desc 0x24 0 14 })).succeed op))
  ∧ (∀ (s : State) (op n : Nat) (o : Op) (p : Plot), s.go? op 0x66 = some o → fld o.desc 0x60 0 1 = 1 →
    parsePlot (bitsOf o.desc 256 512) 0 = some (n, p) → p.chans.any (s.fenced 4) = false →
    (∀ q, q ∈ s.mem.ponds → ∀ c, c ∈ q.2.binding.chans → c ∉ p.chans) → s.mem.remap.at? n = none →
    (∀ q, q ∈ s.mem.remap → q.2.overlaps p = false) →
    ∃ t : State, exec (.plotMapPlace op) s = .next t ∧ t.mem = { s.mem with remap := s.mem.remap.set n p } ∧ succeeded t op)
  ∧ (∀ (s : State) (op : Nat) (o : Op) (p : Plot), s.go? op 0x66 = some o → fld o.desc 0x60 0 1 = 0 →
    let n := fld (bitsOf o.desc 256 512) 4 0 11
    fld (bitsOf o.desc 256 512) 0 0 4 = 1 → s.mem.remap.at? n = some p → p.owner = 0 → s.plotInUse n = false →
    ∃ t : State, exec (.plotMapRemove op) s = .next t ∧ t.mem.remap.at? n = none
      ∧ (∀ k, k ≠ n → t.mem.remap.at? k = s.mem.remap.at? k) ∧ t.mem.hbm = s.mem.hbm ∧ t.mem.ponds = s.mem.ponds
      ∧ (∀ l, l ∈ t.mem.loft → l.line * 128 / 0x20000000 ≠ n) ∧ succeeded t op)
  ∧ (∀ (s : State) (op inst : Nat) (ext : Ext) (o : Op) (p : Pond) (b : Binding), s.go? op 0x61 = some o →
    s.mem.ponds.at? (fld o.desc 0x20 0 9) = some p → p.rebind = none →
    s.readBinding o ext (fld o.desc 0x20 0 9) (some p) = .ok (inst, b) → s.entriesUsed < 1024 →
    ∃ (t : State) (r : Rebind), exec (.pondRebind op ext) s = .next t
      ∧ t.mem.ponds.at? (fld o.desc 0x20 0 9) = some { p with rebind := some r } ∧ r.op = op ∧ r.binding = b
      ∧ r.moving = movingPlots p.binding b ∧ r.switching = false ∧ r.deadline = s.ns + fld o.desc 0x24 0 32 * 1000
      ∧ (t.op? op).map (·.phase) = some .running ∧ t.mem.hbm = s.mem.hbm ∧ t.mem.remap = s.mem.remap)
  ∧ (∀ (s : State) (h : Nat) (p : Pond) (r : Rebind), s.mem.ponds.at? h = some p → p.rebind = some r →
    (s.work.sluices = [] → ∃ t : State, exec (.rebindCopyPassDone h) s = .next t
        ∧ t.mem.ponds.at? h = some { p with rebind := some { r with
            ready := r.ready || r.dirty.length ≤ 256 * popcount 16 r.engines,
            dirty := if r.dirty.length ≤ 256 * popcount 16 r.engines then r.dirty else [] } }
        ∧ t.mem.hbm = s.mem.hbm)
    ∧ (r.ready = true → r.switching = false → s.rebindPoint h p = true →
        (s.rebindBad h p r = none → ∃ t : State, exec (.rebindPoint h) s = .next t
          ∧ (∀ q, t.mem.ponds.at? h = some q → q.binding = p.binding ∧ q.rebind.any (·.switching) = true)
          ∧ (t.mem.ponds.at? h).isSome = true ∧ t.mem.hbm = s.mem.hbm ∧ t.mem.remap = s.mem.remap
          ∧ (∀ l, l ∈ t.mem.loft → s.crosses r (l.line * 128 / 0x20000000) = false)
          ∧ (∀ e, e ∈ t.mem.snoop → e.owned = true ∨ s.crosses r (e.granule * 64 / 0x20000000) = false))
        ∧ (∀ d, s.rebindBad h p r = some d → exec (.rebindPoint h) s
          = .next (((s.decide r.op Status.badBinding d).modPond h (fun p => { p with rebind := none })).schedule h)))
    ∧ (r.switching = true → s.awaitsRecall r = false →
        (s.rebindBad h p r = none → ∃ t : State, exec (.rebindSwitchDone h) s = .next t
          ∧ (t.mem.ponds.at? h).map (fun q => (q.binding, q.rebind, q.reserved)) = some (r.binding, none, []))
        ∧ (∀ d, s.rebindBad h p r = some d → exec (.rebindSwitchDone h) s
          = .next (((s.decide r.op Status.badBinding d).modPond h (fun p => { p with rebind := none })).schedule h)))
    ∧ (r.switching = false → ∃ t : State, exec (.rebindTimeout h) s = .next t
        ∧ (t.mem.ponds.at? h).map (fun q => (q.binding, q.rebind)) = some (p.binding, none) ∧ t.mem.hbm = s.mem.hbm
        ∧ t.mem.remap = s.mem.remap))

/-- R234, R307 to R313: fencing a unit fences its dependents, a restored unit that passes its test is fenced no longer, a
pond's reserved choices take effect at its re-bind point, and seams fail by replays or by silence. The model's own choices
here: log 106, 122. -/
def Obligations.UnitCommandsTakeEffect : Prop :=
  (∀ (s : State) (op : Nat) (o : Op), s.go? op 0x63 = some o →
    let cls := fld o.desc 0x20 0 4
    let unit := fld o.desc 0x24 0 16
    (s.fenced cls unit = true → exec (.unitFence op) s = .next (s.succeed op))
    ∧ (s.fenced cls unit = false → (∃ p, p ∈ s.mem.ponds ∧ p.2.holds (unitClosure cls unit) = true) →
        exec (.unitFence op) s = .next (s.decide op Status.unitBusy 0))
    ∧ (s.fenced cls unit = false → (∀ p, p ∈ s.mem.ponds → p.2.holds (unitClosure cls unit) = false) →
        ∃ t : State, exec (.unitFence op) s = .next t ∧ (∀ u, u ∈ unitClosure cls unit → u ∈ t.mem.fences)
          ∧ (∀ u, u ∈ s.mem.fences → u ∈ t.mem.fences)))
  ∧ (∀ (s : State) (op : Nat) (passed : List Nat) (o : Op), s.go? op 0x64 = some o →
    let cls := fld o.desc 0x20 0 4
    let unit := fld o.desc 0x24 0 16
    (passed.contains (unitCode cls unit) = false →
      exec (.unitRestore op passed) s = .next (s.decide op Status.unitFailedTest 0))
    ∧ (passed.contains (unitCode cls unit) = true → ∃ t : State, exec (.unitRestore op passed) s = .next t
        ∧ (∀ u, u ∈ unitClosure cls unit → u ∈ passed → (u = unitCode cls unit ∨ u ∉ s.ras.fencedAlone) → u ∉ t.mem.fences)
        ∧ (∀ u, u ∈ s.mem.fences → (u ∉ unitClosure cls unit ∨ u ∉ passed ∨ (u ≠ unitCode cls unit ∧ u ∈ s.ras.fencedAlone)) →
            u ∈ t.mem.fences)
        ∧ (∀ u, u ∉ s.mem.fences → u ∉ t.mem.fences)
        ∧ (t.op? op).map (fun x => (x.phase, x.status)) = some (.ended, 0)))
  ∧ (∀ (s : State) (cls unit : Nat), unit < unitLimit cls →
    ∃ t : State, exec (.unitFailure cls unit) s = .next t ∧ ∀ u, u ∈ unitClosure cls unit → u ∈ t.mem.fences)
  ∧ (∀ (s : State) (h : Nat) (p : Pond), s.mem.ponds.at? h = some p → p.reserved ≠ [] → s.regrowPoint h p = true →
    (∀ r, p.rebind = some r → r.switching = false) →
    ∃ t : State, exec (.regrow h) s = .next t ∧ (t.mem.ponds.at? h).map (fun q => (q.binding, q.reserved))
      = some (((choiceOrder p.reserved).foldl applyChoice (p.binding, [])).1, []))
  ∧ (∀ (s : State) (seam : Nat) (again : Bool), seam < 8 → s.fenced 3 seam = false →
    ∃ t : State, exec (.seamCrcFail seam again) s = .next t
      ∧ t.mem.seamReplays.get 0 seam = (if again then s.mem.seamReplays.get 0 seam else 0) + 1
      ∧ (16 ≤ (if again then s.mem.seamReplays.get 0 seam else 0) + 1 → t.fenced 3 seam = true))
  ∧ (∀ (s : State) (seam : Nat), seam < 8 → s.fenced 3 seam = false →
    ∃ t : State, exec (.seamReplayTimeout seam) s = .next t ∧ t.fenced 3 seam = true)

/-- R315 to R326, R329 to R337: context slots, tile switches and beats. A beat released takes the steps the composer
chooses, and ends when no operation of them is left. The model's own choices here: log 103, 105, 117. -/
def Obligations.SchedulingCommandsTakeEffect : Prop :=
  (∀ (s : State) (op : Nat) (o : Op), s.go? op 0x72 = some o → exec (.ctxSched op) s = .next
    (((s.modCtx o.ctx (fun x => { x with prio := fld o.desc 0x20 0 2 })).succeed op).schedule o.pond))
  ∧ (∀ (s : State) (h : Nat) (p : Pond) (r : Nat × Nat × Nat), (s.stampReady h).mem.ponds.at? h = some p →
    p.maySwitch = true → p.rebindFirst = false → p.running ≠ 0 →
    let x := (s.stampReady h).host.ctxs.at? (p.running - 1)
    let prio := (x.map (·.prio)).getD 2
    let all := (s.stampReady h).readyContexts h
    let others := all.filter (fun x => x.1 ≠ p.running - 1)
    (bestContext (others.filter (fun x => x.2.1 < prio)) = some r
      ∨ ((∀ y, y ∈ others → prio ≤ y.2.1)
        ∧ nextEqual others (p.running - 1) prio ((x.map (fun (y : Ctx) => y.readyAt)).getD 0) = some r)
      ∨ ((∀ y, y ∈ all → prio < y.2.1 ∧ y.1 ≠ p.running - 1) ∧ bestContext others = some r)) →
    ∃ t : State, exec (.quantumExpiry h) s = .next t
      ∧ t.mem.ponds.at? h = some { p with switch := some { dest := r.1, phase := .drain } }
      ∧ t.mem.hbm = s.mem.hbm ∧ t.mem.sram = s.mem.sram)
  ∧ (∀ (s : State) (h record : Nat) (p : Pond) (w : Switch), s.mem.ponds.at? h = some p → p.switch = some w →
    (w.phase = .drain → p.rebindFirst = false →
      s.work.ops.any (fun x => x.2.ctx = p.running - 1 && x.2.inExec && x.2.isTile (s.groupTile x.2.fn)) = false →
      (s.host.ctxs.at? (p.running - 1)).any (·.lost) = false → s.recordOk ((p.running - 1) / 16384) record = true →
      saveNeed p.binding.tilesM.length p.binding.tilesV.length ≤ fld record 0x10 0 64 →
      ∃ t : State, exec (.contextDrainDone h record) s = .next t
        ∧ t.mem.ponds.at? h = some { p with switch := some { w with phase := .save } } ∧ t.mem.hbm = s.mem.hbm)
    ∧ (w.phase = .save → w.dest ≠ noContext → ∀ s1, s.saveTiles h p (p.running - 1) = some s1 →
        exec (.contextSaveDone h) s = .next ((s1.modPond h (fun q =>
          { q with switch := some { w with phase := .restore }, running := 0 })).releaseLost (p.running - 1)))
    ∧ (w.phase = .restore → (s.host.ctxs.at? w.dest).any (fun c => !c.lost && !c.saved) = true →
        s.readyContexts h = [] →
        ∃ t : State, exec (.contextRestoreDone h) s = .next t
          ∧ (t.mem.ponds.at? h).map (fun q => (q.running, q.switch, q.since)) = some (w.dest + 1, none, s.ns)
          ∧ (∀ tile, tile ∈ p.tiles → ∀ i, i < 0x400000 → t.mem.sram.get (tile * 0x400000 + i) = 0)))
  ∧ (∀ (s : State) (i : Nat) (w : Nat × Ctx),
    (List.range 64).find? (fun i => (s.host.slots.at? i).isNone) = some i →
    s.bestWaiter (s.slotWaiters.filter (fun p => !((s.fn (p.1 / 16384)).slotMax ≠ 0
      && (s.fn (p.1 / 16384)).slotMax ≤ s.slotsOf (p.1 / 16384)))) = some w →
    ∃ t : State, exec .slotGrant s = .next t
      ∧ t.host.slots.at? i = some { ctx := w.1, phase := .loading, since := s.ns, idle := false }
      ∧ (∀ j, j ≠ i → t.host.slots.at? j = s.host.slots.at? j) ∧ t.mem = s.mem ∧ t.work = s.work)
  ∧ (∀ (s : State) (slot record : Nat) (x : Slot), s.host.slots.at? slot = some x →
    ((s.fn (x.ctx / 16384)).sqs.any (fun p => p.2.ctx = x.ctx % 16384 && p.2.submitted ≠ 0) = false →
      ∃ t : State, exec (.slotIdleTimeout slot) s = .next t ∧ t.host.slots.at? slot = some { x with idle := true }
        ∧ t.mem = s.mem)
    ∧ (x.phase = .loading → s.recordOk (x.ctx / 16384) record = true →
      (s.host.ctxs.at? x.ctx).any (fun c => c.ctlSaved && !c.lost) = false →
      ∃ t : State, exec (.slotLoadDone slot record) s = .next t
        ∧ t.host.slots.at? slot = some { x with phase := .resident, since := s.ns }
        ∧ (t.host.ctxs.at? x.ctx).map (fun c => (c.saveAddr, c.saveSize, c.evtAddr, c.evtCount))
            = some (fld record 8 0 64, fld record 0x10 0 64, fld record 0x18 0 64, fld record 0x20 0 21) ∧ t.mem = s.mem)
    ∧ (x.phase = .unloading → s.onTiles x.ctx = false → ∀ s0, s.saveControl x.ctx = some s0 →
        ∃ t : State, exec (.slotLoadDone slot record) s = .next t ∧ t.host.slots.at? slot = none
          ∧ (∀ y, y ∈ t.xlat.tlb → y.slot ≠ slot + 1) ∧ t.mem = s0.mem
          ∧ ((s.host.ctxs.at? x.ctx).any (fun c => 0x10000 ≤ c.saveSize && !c.lost) = false → t.mem = s.mem)))
  ∧ (∀ (s : State) (op : Nat) (o : Op) (p : Pond), s.acts? op 0x70 = some o →
    s.mem.ponds.at? (fld o.desc 0x20 0 9) = some p → (o.fn = 0 ∨ p.inst + 1 = o.fn) → fld o.desc 0x20 16 1 = 1 →
    (∀ b, p.beats = some b → b.running = false) →
    ∃ (t : State) (b : Beats), exec (.beatSet op) s = .next t ∧ (t.mem.ponds.at? (fld o.desc 0x20 0 9)).bind (·.beats) = some b
      ∧ b.period = fld o.desc 0x24 0 32 * 1000 ∧ b.catchUp = fld o.desc 0x28 0 8 ∧ b.floor = fld o.desc 0x28 8 8
      ∧ (t.op? op).any (fun x => if s.readyOp op o then x.phase = .ended && x.status = 0 else x.phase = .fetched && x.acted)
      ∧ b.running = false ∧ (fld o.desc 0x24 0 32 ≠ 0 → s.ns ≤ b.grid ∧ b.grid % b.period = b.t0 % b.period))
  ∧ (∀ (s : State) (op : Nat) (o : Op) (p : Pond) (b : Beats) (q : SubmissionQueue), s.acts? op 0x71 = some o →
    s.mem.ponds.at? o.pond = some p → p.beats = some b → (s.fn o.fn).sqs.at? o.sq = some q → o.step = 0 → o.sluice = 0 →
    ∃ (t : State) (x : BeatStep), exec (.beatStep op) s = .next t
      ∧ (t.mem.ponds.at? o.pond).bind (·.beats) = some { b with steps := b.steps ++ [x] } ∧ x.id = s.work.nextStep
      ∧ x.fn = o.fn ∧ x.sq = o.sq ∧ x.left = fld o.desc 0x24 0 13 ∧ x.released = false
      ∧ (t.fn o.fn).sqs.at? o.sq = some { q with stepLeft := fld o.desc 0x24 0 13, stepId := s.work.nextStep }
      ∧ (t.op? op).map (fun y => (y.phase, y.status, y.acted)) = some (
          if b.period < max (fld o.desc 0x28 0 32) (fld o.desc 0x2C 0 32) * 100 then (.ended, Status.stepTooLong, false)
          else if s.readyOp op o then (.ended, 0, true) else (.fetched, o.status, true)))
  ∧ (∀ (s : State) (h : Nat) (p : Pond) (b : Beats), s.mem.ponds.at? h = some p → p.beats = some b →
    (b.running = false → p.switch = none → p.rebindFirst = false → ∃ (t : State) (b' : Beats), exec (.beatStart h) s = .next t
        ∧ (t.mem.ponds.at? h).bind (·.beats) = some b' ∧ b'.running = true ∧ b'.number = b.number ∧ b'.lag = s.ns - b.grid
        ∧ b'.start = s.ns ∧ b'.budget ≤ b.period ∧ b'.steps.length = b.steps.length
        ∧ (∀ x, x ∈ b'.steps → x ∈ b.steps
            ∨ (x.released = true ∧ ∃ y, y ∈ b.steps ∧ y.id = x.id ∧ y.readyAt ≠ 0 ∧ y.tooLong = false)))
    ∧ (b.running = true → s.work.ops.any (fun o => o.2.pond = h && o.2.step ≠ 0
          && ((b.steps.filter (·.released)).map (·.id)).contains o.2.step) = false → b.stopping = false → b.next = none →
        ∃ (t : State) (b' : Beats), exec (.beatEnd h) s = .next t ∧ (t.mem.ponds.at? h).bind (·.beats) = some b'
          ∧ b'.running = false ∧ b'.number = (b.number + 1) % 2 ^ 48 ∧ b'.grid = b.grid + b.period
          ∧ (∀ x, x ∈ b'.steps → x ∈ b.steps))
    ∧ (b.running = true → s.work.ops.any (fun o => o.2.pond = h && o.2.step ≠ 0
          && ((b.steps.filter (·.released)).map (·.id)).contains o.2.step) = false → b.stopping = true →
        ∃ t : State, exec (.beatEnd h) s = .next t ∧ (t.mem.ponds.at? h).map (·.beats) = some none))

/-- R426 to R445: quiescing, resuming, limiting, saving, restoring and resetting instances, and errors of host accesses made
for them. The model's own choices here: log 48, 49, 50, 51, 52, 53. -/
def Obligations.InstanceCommandsTakeEffect : Prop :=
  (∀ (s : State) (op : Nat) (o : Op), s.go? op 0x90 = some o → s.fnExists (o.inst + 1) = true →
    (s.fn (o.inst + 1)).enable = true → (s.fn (o.inst + 1)).state = .active →
    ∃ t : State, exec (.instQuiesce op) s = .next t ∧ t.fn (o.inst + 1) = { s.fn (o.inst + 1) with
        state := .quiescing, quiesceOp := op, quiesceCount := 0, quiesceBy := s.ns + fld o.desc 0x24 0 32 * 1000 }
      ∧ (t.op? op).map (·.phase) = some .running ∧ t.mem = s.mem ∧ (∀ g, g ≠ o.inst + 1 → t.fn g = s.fn g))
  ∧ (∀ (s : State) (inst : Nat), (s.fn (inst + 1)).state = .quiescing → (∀ p, p ∈ s.work.ops → p.2.fn ≠ inst + 1) →
    let F := s.fn (inst + 1)
    exec (.quiesceDrained inst) s = .next (((s.setFn (inst + 1) { F with state := .quiesced, quiesceOp := 0 }).post (inst + 1)
      Event.quiesced (F.quiesceCount % 2 ^ 32)).decide F.quiesceOp 0 (F.quiesceCount % 2 ^ 32)))
  ∧ (∀ (s : State) (inst : Nat), (s.fn (inst + 1)).state = .quiescing →
    ∃ t : State, exec (.quiesceTimeout inst) s = .next t ∧ t.mem = s.mem
      ∧ (t.fn (inst + 1)).quiesceCount = (s.fn (inst + 1)).quiesceCount
          + ((s.liveOps (fun o => o.fn = inst + 1)).filter (fun i => !s.heldBySluiceFate i)).length
      ∧ (∀ id o, s.op? id = some o → o.fn = inst + 1 → o.phase ≠ .ended → s.heldBySluiceFate id = false →
          (t.op? id).map (fun x => (x.phase, x.status)) = some (.ended, Status.cancelled)))
  ∧ (∀ (s : State) (op : Nat) (words : List Nat) (o : Op), s.go? op 0x91 = some o → s.fnExists (o.inst + 1) = true →
    (s.fn (o.inst + 1)).enable = true → (s.fn (o.inst + 1)).state = .quiesced →
    ∃ t : State, exec (.instResume op words) s = .next t ∧ (t.fn (o.inst + 1)).state = .active
      ∧ (t.fn (o.inst + 1)).saved = false ∧ (t.op? op).map (fun x => (x.phase, x.status)) = some (.ended, 0) ∧ t.mem = s.mem)
  ∧ (∀ (s : State) (op : Nat) (o : Op), s.go? op 0x92 = some o →
    let F := s.fn (o.inst + 1)
    exec (.instLimits op) s = .next ((s.setFn (o.inst + 1) { F with
      sluiceMax := fld o.desc 0x30 0 11, groupMax := fld o.desc 0x30 16 9, opsMax := fld o.desc 0x34 0 13,
      slotMax := fld o.desc 0x34 16 7 }).succeed op))
  ∧ (∀ (s : State) (op : Nat) (o : Op), s.go? op 0x95 = some o → s.fnExists (o.inst + 1) = true →
    (s.fn (o.inst + 1)).enable = true →
    exec (.instNotice op) s = .next ((s.post (o.inst + 1) Event.managerNotice (fld o.desc 0x28 0 64)).succeed op))
  ∧ (∀ (s : State) (op : Nat) (records : List Nat) (o : Op), s.go? op 0x93 = some o → s.fnExists (o.inst + 1) = true →
    (s.fn (o.inst + 1)).enable = true → (s.fn (o.inst + 1)).state = .quiesced → s.instHeld (o.inst + 1) = 0 →
    s.imageOk (fld o.desc 0x28 0 43) = true → s.runningPonds (o.inst + 1) = [] →
    s.stalls 0 (fld o.desc 0x28 0 43) 0x24000 true = false →
    let f := o.inst + 1
    let body := s.imageBody f
    let s2 := s.landWrite 0 (fld o.desc 0x28 0 43) (s.imageHeader f body ++ body)
    exec (.instSave op records) s = .next ((s2.setFn f { s2.fn f with saved := true }).succeed op))
  ∧ (∀ (s : State) (op : Nat) (records : List Nat) (o : Op), s.go? op 0x94 = some o → s.fnExists (o.inst + 1) = true →
    (s.fn (o.inst + 1)).enable = true → (s.fn (o.inst + 1)).state = .active → (s.fn (o.inst + 1)).ctxSet = false →
    (s.fn (o.inst + 1)).sqs = [] → (s.fn (o.inst + 1)).cqs = [] → (s.fn (o.inst + 1)).eq = none →
    let at_ := fld o.desc 0x28 0 43
    let h := leNat ((s.readPub at_ 0x24000).take 4096)
    let body := (s.readPub at_ 0x24000).drop 4096
    s.imageOk at_ = true → s.poisonIn at_ 0x24000 = false → imageWell h body = true → fld h 0x38 0 64 = crc64 body →
    fld h 8 0 16 = gsetId % 2 ^ 16 → fld h 8 20 4 = bitsOf gsetId 20 4 → fld h 0x30 0 15 ≤ (s.fn (o.inst + 1)).ctxMax →
    fld h 0x30 16 6 ≤ (s.fn (o.inst + 1)).sqMax → fld h 0x20 0 64 = 0 →
    s.stalls 0 at_ 0x24000 false = false → exec (.instRestore ⟨op, records⟩) s
      = .next ((s.loadImage (o.inst + 1) h body records).succeed op))
  ∧ (∀ (s : State) (inst : Nat), s.fnExists (inst + 1) = true → (s.fn (inst + 1)).state ≠ .resetting →
    ∃ t : State, exec (.forcedInstanceReset inst) s = .next t ∧ t.fn (inst + 1) = (s.fn (inst + 1)).afterReset
      ∧ (∀ p, p ∈ t.work.ops → p.2.fn ≠ inst + 1) ∧ (∀ x, x ∈ t.xlat.tlb → x.fn ≠ inst + 1)
      ∧ (∀ x, x ∈ t.xlat.micro → x.2.fn ≠ inst + 1) ∧ (∀ p, p ∈ t.eng.groups → p.2.fn ≠ inst + 1)
      ∧ t.mem.hbm = s.mem.hbm ∧ t.mem.sram = s.mem.sram)
  ∧ (∀ (s : State) (inst : Nat), (s.fn (inst + 1)).state = .resetting →
    ∃ t : State, exec (.instanceResetDone inst) s = .next t
      ∧ (t.fn (inst + 1)).state = (if (s.fn (inst + 1)).enable && s.fnExists (inst + 1) then .active else .disabled)
      ∧ (∀ p, p ∈ t.host.ctxs → p.1 / 16384 ≠ inst + 1) ∧ (∀ p, p ∈ t.host.slots → p.2.ctx / 16384 ≠ inst + 1)
      ∧ t.mem.hbm = s.mem.hbm)
  ∧ (∀ (s : State) (enable : Bool) (num : Nat),
    ∃ t : State, exec (.vfEnableClear enable num) s = .next t ∧ t.host.vfEnable = enable ∧ t.host.numVfs = min num 512
      ∧ (∀ f F, s.host.fns.at? f = some F → f ≠ 0 → s.fnExists f = true → (enable = false ∨ min num 512 < f) →
          (t.fn f).state = .resetting) ∧ t.mem.hbm = s.mem.hbm)
  ∧ (∀ (s : State) (f target : Nat),
    (∀ q, (s.fn f).sqs.at? target = some q → q.stopped = false →
      ∃ t : State, exec (.hostAccessError f 0 target) s = .next t ∧ (t.fn f).sqs.at? target = some { q with stopped := true }
        ∧ t.host.aerNonFatal.get 0 f = s.host.aerNonFatal.get 0 f + 1 ∧ t.mem = s.mem)
    ∧ (∀ x, s.host.ctxs.at? (f * 16384 + target) = some x → x.lost = false →
      ∃ t : State, exec (.hostAccessError f 1 target) s = .next t
        ∧ (t.host.ctxs.at? (f * 16384 + target)).map (·.lost) = some true
        ∧ t.host.aerNonFatal.get 0 f = s.host.aerNonFatal.get 0 f + 1 ∧ t.mem.hbm = s.mem.hbm ∧ t.mem.sram = s.mem.sram)
    ∧ (∀ o, s.op? target = some o → o.fn = f → o.phase ≠ .ended →
      ∃ t : State, exec (.hostAccessError f 2 target) s = .next t
        ∧ (t.op? target).map (fun x => (x.phase, x.status)) = some (.ended, Status.hostAccessError)
        ∧ t.host.aerNonFatal.get 0 f = s.host.aerNonFatal.get 0 f + 1 ∧ t.mem = s.mem)
    ∧ (∃ t : State, exec (.hostAccessError f 3 target) s = .next t
        ∧ t.host.aerNonFatal.get 0 f = s.host.aerNonFatal.get 0 f + 1 ∧ t.mem = s.mem ∧ t.work = s.work))

/-- R470 to R482: a sub-link trains, comes up, replays, retrains, loses lanes or light, sleeps and is fenced; no such command
touches another sub-link, or memory. The model's own choices here: log 54, 55, 56. -/
def Obligations.LeatCommandsTakeEffect : Prop :=
  let others (n : Nat) (s t : State) : Prop := (∀ m, m ≠ n → t.subLink m = s.subLink m) ∧ t.mem = s.mem ∧ t.xlat = s.xlat
    ∧ t.eng = s.eng ∧ t.work.ops = s.work.ops
  let trains (l l' : SubLink) : Prop := l'.state = .training ∧ l'.step = 1 ∧ l'.gen = 0 ∧ l'.txLanes = 0 ∧ l'.rxLanes = 0
    ∧ l'.attempts = 0 ∧ l'.retryWait = false ∧ getAt 0 l'.counts 5 = getAt 0 l.counts 5 + 1
  let retrains (l l' : SubLink) : Prop := l'.state = .retrain ∧ l'.replays = 0
    ∧ getAt 0 l'.counts 4 = getAt 0 l.counts 4 + 1
  ∀ (s : State) (n : Nat), n < 64 → (s.subLink n).counts.length = 8 →
    let l := s.subLink n
    (l.mayTrain = true → (l.state = .dark ∨ l.state = .down) → l.retryWait = false → ∃ t : State,
      exec (.sublinkTrainStart n) s = .next t ∧ others n s t ∧ trains l (t.subLink n))
    ∧ (∀ lanes, l.mayTrain = true → l.light = false → (l.state = .dark ∨ l.state = .down ∨ l.state = .sleep) →
      ∃ t : State, exec (.lightDetect n lanes) s = .next t ∧ others n s t ∧ trains l (t.subLink n)
        ∧ (t.subLink n).light = true ∧ (t.subLink n).rxLock = lanes % 256)
    ∧ (∀ lanes, l.state = .fenced → l.light = false → exec (.lightDetect n lanes) s
      = .next ((s.modSub n (fun l => { l with light := true, rxLock := lanes % 256 })).post 0 Event.linkLight n))
    ∧ (∀ lanes, l.state = .training → exec (.lightDetect n lanes) s = .next (s.modSub n (fun l =>
        { l with light := true, rxLock := lanes % 256, step := if l.step = 2 then 3 else l.step })))
    ∧ (∀ frame, l.state = .training → l.step = 3 → bitsOf frame 0 4 = 1 →
      let both (g : Nat) : Prop := 1 ≤ g ∧ g ≤ 3 ∧ g ≤ s.fab.genMax ∧ g ≤ l.genCap ∧ bitOf (bitsOf frame 4 5) (g - 1) = true
      let ok (g : Nat) : Prop := both g ∧ (l.tryGen = 0 ∨ g ≤ l.tryGen)
      let tx := l.txLock &&& bitsOf frame 24 8
      let rx := bitsOf frame 16 8 &&& l.rxLock
      ((∀ g, ¬ both g) → ∃ t : State, exec (.capabilityFrame n frame) s = .next t ∧ others n s t
        ∧ (t.subLink n).state = .incompatible ∧ (t.subLink n).cause = 5)
      ∧ ((∃ g, both g) → (∀ g, ¬ ok g) → l.light = false → ∃ t : State, exec (.capabilityFrame n frame) s = .next t
        ∧ others n s t ∧ (t.subLink n).state = .down ∧ (t.subLink n).retryWait = true)
      ∧ (∀ g, ok g → (∀ h, ok h → h ≤ g) → 4 ≤ popcount 8 tx → 4 ≤ popcount 8 rx → ∃ t : State,
        exec (.capabilityFrame n frame) s = .next t ∧ others n s t ∧ t.subLink n = { l with
          nGens := bitsOf frame 4 5, nTx := bitsOf frame 16 8, nRx := bitsOf frame 24 8, nDev := bitsOf frame 32 16,
          nSub := bitsOf frame 48 6, gen := g, txLanes := tx, rxLanes := rx, step := 4 }))
    ∧ (∀ lanes, l.state = .training →
      (l.step = 1 → exec (.trainingStepDone n lanes true) s = .next (s.modSub n (fun l =>
        { l with txLock := lanes % 256, step := if l.light && l.rxLock ≠ 0 then 3 else 2 })))
      ∧ (l.step = 4 → exec (.trainingStepDone n lanes true) s = .next (s.modSub n (fun l => { l with step := 5 })))
      ∧ (l.step = 5 → exec (.trainingStepDone n lanes true) s
        = .next (s.modSub n (fun l => { l with step := 6, fec := l.gen = 3 })))
      ∧ (1 ≤ l.step → l.attempts = 0 → ∃ t : State, exec (.trainingStepDone n lanes false) s = .next t ∧ others n s t
        ∧ (t.subLink n).state = .training ∧ (t.subLink n).attempts = 1 ∧ (t.subLink n).step = 3)
      ∧ (1 ≤ l.step → 1 ≤ l.attempts → l.gen = 1 → l.light = false → ∃ t : State,
        exec (.trainingStepDone n lanes false) s = .next t ∧ others n s t ∧ (t.subLink n).state = .down
          ∧ (t.subLink n).retryWait = true ∧ (t.subLink n).failedRuns = l.failedRuns))
    ∧ (l.state = .training → l.step = 6 →
      (∃ t : State, exec (.linkTestDone n true) s = .next t ∧ others n s t ∧ t.subLink n = { l with
        state := .up, step := 8, attempts := 0, failedRuns := 0, tryGen := 0, held := false, cause := 0 })
      ∧ (l.attempts = 0 → ∃ t : State, exec (.linkTestDone n false) s = .next t ∧ others n s t
        ∧ (t.subLink n).state = .training ∧ (t.subLink n).attempts = 1 ∧ (t.subLink n).step = 3))
    ∧ (l.retryWait = true → l.mayTrain = true → (l.light = false ∨ l.failedRuns < s.fab.fenceAfter) → ∃ t : State,
      exec (.trainingRetryTimer n) s = .next t ∧ others n s t ∧ trains l (t.subLink n))
    ∧ (l.retryWait = true → l.mayTrain = true → l.light = true → s.fab.fenceAfter ≤ l.failedRuns →
      exec (.trainingRetryTimer n) s = .next (s.fence 8 n false))
    ∧ (∀ (fixed : Nat) (uncorr again : Bool), l.state = .up →
      let r := if again then l.replays + 1 else 1
      ∃ t : State, exec (.flitCrcFail n fixed uncorr again) s = .next t ∧ others n s t
        ∧ getAt 0 (t.subLink n).counts 0 = getAt 0 l.counts 0 + BitVec.ofNat 32 fixed
        ∧ getAt 0 (t.subLink n).counts 1 = getAt 0 l.counts 1 + BitVec.ofNat 32 (b2n uncorr)
        ∧ getAt 0 (t.subLink n).counts 2 = getAt 0 l.counts 2 + 1 ∧ getAt 0 (t.subLink n).counts 3 = getAt 0 l.counts 3 + 1
        ∧ (r < 16 → (t.subLink n).state = .up ∧ (t.subLink n).replays = r) ∧ (16 ≤ r → retrains l (t.subLink n)))
    ∧ (l.state = .up → ∃ t : State, exec (.replayAckTimeout n) s = .next t ∧ others n s t ∧ retrains l (t.subLink n))
    ∧ (l.state = .retrain →
      (∃ t : State, exec (.retrainDone n true) s = .next t ∧ others n s t
        ∧ t.subLink n = { l with state := .up, step := 8, retrainFails := 0 })
      ∧ (l.retrainFails < 2 → ∃ t : State, exec (.retrainDone n false) s = .next t ∧ others n s t
        ∧ retrains l (t.subLink n) ∧ (t.subLink n).retrainFails = l.retrainFails + 1)
      ∧ (2 ≤ l.retrainFails → ∃ t : State, exec (.retrainDone n false) s = .next t ∧ others n s t
        ∧ trains l (t.subLink n) ∧ (t.subLink n).held = true ∧ (t.subLink n).cause = 2))
    ∧ (∀ (lane : Nat) (rx : Bool), lane < 8 → l.state = .up → bitOf (if rx then l.rxLanes else l.txLanes) lane = true →
      let outs := if rx then l.txLanes else l.txLanes - 2 ^ lane
      let ins := if rx then l.rxLanes - 2 ^ lane else l.rxLanes
      ∃ t : State, exec (.laneLockLost n ⟨lane, rx⟩) s = .next t ∧ others n s t
        ∧ getAt 0 (t.subLink n).counts 6 = getAt 0 l.counts 6 + 1
        ∧ (4 ≤ popcount 8 outs → 4 ≤ popcount 8 ins →
          retrains l (t.subLink n) ∧ (t.subLink n).txLanes = outs ∧ (t.subLink n).rxLanes = ins)
        ∧ ((popcount 8 outs < 4 ∨ popcount 8 ins < 4) → trains l (t.subLink n) ∧ (t.subLink n).held = true))
    ∧ ((l.state = .up ∨ l.state = .retrain) → ∃ t : State, exec (.lightLoss n) s = .next t ∧ others n s t
      ∧ (t.subLink n).state = .down ∧ (t.subLink n).held = true ∧ (t.subLink n).cause = 1 ∧ (t.subLink n).light = false
      ∧ (t.subLink n).txLanes = 0 ∧ (t.subLink n).rxLanes = 0)
    ∧ (l.state = .training → exec (.lightLoss n) s = .next (s.modSub n (fun l =>
        { l with light := false, rxLock := 0, step := min l.step 2, gen := 0, fec := false })))
    ∧ (∀ ops, l.held = true → l.state ≠ .up → l.state ≠ .fenced → s.fenced 8 n = false →
      exec (.holdExpiry n ops) s = .next ((ops.foldl (fun s i => s.decide i Status.meshFault 0) s).fence 8 n false))
    ∧ (∀ fence : Bool, (l.state = .up ∨ l.state = .retrain) → exec (.neighbourNotice n fence) s
      = .next (s.modSub n (fun l => { l with notice := if fence then 2 else 1 })))
    ∧ ((l.state = .up ∨ l.state = .retrain) → l.notice ≠ 0 → ∃ t : State, exec (.noticeDrainDone n) s = .next t
      ∧ others n s t ∧ (t.subLink n).notice = 0
      ∧ (l.notice = 1 → (t.subLink n).state = .sleep ∧ (t.subLink n).cause = 3
        ∧ (t.subLink n).txLanes = (if l.nSub % 4 = 0 then 1 else 0))
      ∧ (l.notice ≠ 1 → (t.subLink n).state = .down ∧ (t.subLink n).cause = 4 ∧ (t.subLink n).txLanes = 0))
    ∧ (l.mayTrain = true → ∃ t : State, exec (.leatRetrainWrite n) s = .next t ∧ others n s t ∧ trains l (t.subLink n)
      ∧ ((l.state = .up ∨ l.state = .retrain) → (t.subLink n).held = true))
    ∧ (∀ value, value ≤ 3 → l.state ≠ .fenced →
      (value ≠ 0 → l.state ≠ .incompatible →
        exec (.genCapWrite n value) s = .next (s.modSub n (fun l => { l with genCap := value })))
      ∧ (value = 0 → ∃ t : State, exec (.genCapWrite n value) s = .next t ∧ others n s t
        ∧ (t.subLink n).state = .dark ∧ (t.subLink n).genCap = 0 ∧ (t.subLink n).txLanes = 0)
      ∧ (value ≠ 0 → l.state = .incompatible → value ≠ l.genCap → ∃ t : State, exec (.genCapWrite n value) s = .next t
        ∧ others n s t ∧ trains l (t.subLink n) ∧ (t.subLink n).genCap = value))

/-- R220, R411 to R418, R487 to R489, R498 to R504: requests and window accesses of other devices are served at their home,
memberships and windows are set and cleared, and push subscriptions are made, land and end. The model's own choices here:
log 34, 49, 57, 58, 59, 121. -/
def Obligations.MereCommandsTakeEffect : Prop :=
  let ended (t : State) (op : Nat) : Option (OpPhase × Nat × Nat) := (t.op? op).map (fun x => (x.phase, x.status, x.detail))
  let reply (dst tag mere sub : Nat) (kind : FabKind) (args : List Nat) (data : List Byte) : FabMsg :=
    { kind := kind, dst := dst, mere := mere, id := tag, args := args, data := data, sub := sub }
  (∀ (s : State) (src tag mere kind off len slu : Nat) (data : List Byte) (sub : Nat),
    let n := if kind = 0 then len else data.length
    let e := s.keyEntry mere slu
    s.fab.join = .joined → (kind = 3 → ∀ e, s.work.sluices.at? (s.stagingEntry mere slu) = some e → ∃ (t : State) (e' : Sluice),
      exec (.remoteRequest src tag mere kind off len slu data sub) s = .next t ∧ t.mem = s.mem
        ∧ t.work.sluices.at? (s.stagingEntry mere slu) = some e'
        ∧ e'.staged = e.staged.filter (fun a => !(a.dev = src && a.op = len)))
    ∧ (kind ≠ 3 → 0 < n → n ≤ 65536 →
    (s.mereOwns mere off n = false → ∃ t : State, exec (.remoteRequest src tag mere kind off len slu data sub) s = .next t
        ∧ t.work.sent = s.work.sent ++ [reply src tag mere sub .refusal [] []] ∧ t.mem = s.mem ∧ t.work.ops = s.work.ops)
    ∧ (s.mereOwns mere off n = true → kind = 0 → s.stalls e off n false = false →
        ∃ t : State, exec (.remoteRequest src tag mere kind off len slu data sub) s = .next t ∧ t.mem = s.mem
          ∧ t.work.sent = s.work.sent ++ [reply src tag mere sub .reply [b2n (s.poisonFor e off len)] (s.readLocal e off len)]
          ∧ (slu = 0 → e = 0) ∧ (s.work.sluices.at? e = none →
              s.readLocal e off len = s.readPub off len ∧ s.poisonFor e off len = s.poisonIn off len))
    ∧ (s.mereOwns mere off n = true → kind = 1 → slu = 0 → s.stalls 0 off n true = false →
        ∃ t : State, exec (.remoteRequest src tag mere kind off len slu data sub) s = .next t
          ∧ t.mem.hbm = (s.landWrite 0 off data).mem.hbm ∧ t.mem.sram = s.mem.sram
          ∧ t.work.sent = (s.landWrite 0 off data).work.sent ++ [reply src tag mere sub .reply [0] []])
    ∧ (s.mereOwns mere off n = true → kind = 2 → slu = 0 → s.stalls 0 off n true = false → s.poisonIn off n = false →
        ∃ t : State, exec (.remoteRequest src tag mere kind off len slu data sub) s = .next t
          ∧ t.mem.hbm = (s.landWrite 0 off (leBytes 4 (max (leNat (s.readPub off 4)) (leNat data)))).mem.hbm)
    ∧ (s.mereOwns mere off n = true → kind = 1 → slu ≠ 0 → s.stagingEntry mere slu = 0 →
        ∃ t : State, exec (.remoteRequest src tag mere kind off len slu data sub) s = .next t ∧ t.mem = s.mem
          ∧ t.work.sent = s.work.sent ++ [reply src tag mere sub .refusal [] []])))
  ∧ (∀ (s : State) (src tag mere idx kind off : Nat) (data host : List Byte) (poison : Bool) (sub : Nat),
    let n := data.length
    (s.xlat.windows.at? idx = none → ∃ t : State,
      exec (.windowAccess src tag mere idx kind off data host poison sub) s = .next t ∧ t.mem = s.mem
        ∧ t.work.sent = s.work.sent ++ [reply src tag mere sub .refusal [] []])
    ∧ (∀ w, s.xlat.windows.at? idx = some w →
      ((w.req ≠ 0xFFFF ∧ w.req ≠ src) ∨ w.mere ≠ mere ∨ w.pages * 65536 < off + n ∨ w.clearing ≠ 0 →
        ∃ t : State, exec (.windowAccess src tag mere idx kind off data host poison sub) s = .next t ∧ t.mem = s.mem
          ∧ t.work.sent = s.work.sent ++ [reply src tag mere sub .refusal [] []])
      ∧ (0 < n → w.clearing = 0 → off + n ≤ w.pages * 65536 → (w.req = 0xFFFF ∨ w.req = src) → w.mere = mere → mere ≠ 0 →
        (w.base < 0xC000000000 → kind = 0 → w.rd = true → (s.plotOf (w.base + off)).isSome = true →
          (s.plotOf (w.base + off + n - 1)).isSome = true → s.work.sluices.at? 0 = none → s.stalls 0 (w.base + off) n false = false →
          ∃ t : State, exec (.windowAccess src tag mere idx kind off data host poison sub) s = .next t ∧ t.mem = s.mem
            ∧ t.work.sent = s.work.sent ++ [reply src tag mere sub .reply [b2n (s.poisonIn (w.base + off) n)]
                (s.readPub (w.base + off) n)])
        ∧ (0xC000000000 ≤ w.base → kind = 0 → w.rd = true →
          ∃ t : State, exec (.windowAccess src tag mere idx kind off data host poison sub) s = .next t ∧ t.mem = s.mem
            ∧ t.work.sent = s.work.sent ++ [reply src tag mere sub .reply [b2n poison] (host.take n)])
        ∧ (0xC000000000 ≤ w.base → kind = 1 → w.wr = true →
          ∃ t : State, exec (.windowAccess src tag mere idx kind off data host poison sub) s = .next t ∧ t.mem = s.mem
            ∧ t.host.writes = s.host.writes ++ [{ fn := 0, addr := w.base + off - 0x40000000000, bytes := data, relaxed := true }]))))
  ∧ (∀ (s : State) (op : Nat) (o : Op), s.go? op 0xA0 = some o →
    let mere := fld o.desc 0x20 0 32
    let at_ := fld o.desc 0x28 0 43
    let map := maskBits 32768 (leNat (s.readPub at_ 4096))
    (s.fab.join ≠ .joined → exec (.mereBind op) s = .next (s.decide op Status.notJoined 0))
    ∧ (∀ area slot, s.fab.join = .joined → (s.mem.ponds.at? (fld o.desc 0x24 0 9)).isSome = true → s.mereArea = some area →
      s.freePlot at_ = true → s.stalls 0 at_ 4096 false = false → s.stalls 0 (area + 4096 * slot) 4096 true = false →
      s.poisonIn at_ 4096 = false → mere ≠ 0 → s.fab.meres.at? mere = none →
      s.fab.devId ∈ map → (List.range 256).find? (fun i => !(s.fab.meres.map (·.2.slot)).contains i) = some slot →
      ∃ t : State, exec (.mereBind op) s = .next t
        ∧ t.fab.meres.at? mere = some { pond := fld o.desc 0x24 0 9, slot := slot, map := map }
        ∧ (∀ m, m ≠ mere → t.fab.meres.at? m = s.fab.meres.at? m)
        ∧ (s.work.sluices = [] → ended t op = some (.ended, 0, 0))
        ∧ (s.freePlot (area + 4096 * slot) = true →
            t.mem.hbm = (s.landWrite 0 (area + 4096 * slot) (s.readPub at_ 4096)).mem.hbm)))
  ∧ (∀ (s : State) (op : Nat) (o : Op) (m : Membership), s.go? op 0xA1 = some o →
    s.fab.meres.at? (fld o.desc 0x20 0 32) = some m →
    s.work.sluices.any (fun p => p.2.mere = fld o.desc 0x20 0 32) = false →
    s.eng.groups.any (fun p => p.2.mere = fld o.desc 0x20 0 32) = false →
    s.fab.pushIn.any (fun p => p.2.mere = fld o.desc 0x20 0 32) = false →
    s.fab.pushOut.any (fun p => p.mere = fld o.desc 0x20 0 32) = false →
    s.work.ops.any (fun p => s.carries (fld o.desc 0x20 0 32) m.pond p.2) = false →
    ∃ t : State, exec (.mereUnbind op) s = .next t ∧ t.fab.meres.at? (fld o.desc 0x20 0 32) = none
      ∧ (∀ k, k ≠ fld o.desc 0x20 0 32 → t.fab.meres.at? k = s.fab.meres.at? k) ∧ ended t op = some (.ended, 0, 0)
      ∧ t.mem = s.mem)
  ∧ (∀ (s : State) (op : Nat) (o : Op), s.go? op 0xA2 = some o →
    (s.parseWindow (fld o.desc 0x40 0 256) = none → exec (.windowSet op) s = .next (s.decide op Status.badWindow 0))
    ∧ (∀ w i, s.parseWindow (fld o.desc 0x40 0 256) = some w →
      (if fld o.desc 0x20 12 1 = 1 then (List.range 4096).find? (fun i => (s.xlat.windows.at? i).isNone) = some i
       else i = fld o.desc 0x20 0 12) →
      ∃ t : State, exec (.windowSet op) s = .next t ∧ t.xlat.windows.at? i = some w
        ∧ (∀ k, k ≠ i → t.xlat.windows.at? k = s.xlat.windows.at? k) ∧ ended t op = some (.ended, 0, i) ∧ t.mem = s.mem))
  ∧ (∀ (s : State) (op : Nat) (o : Op) (w : Window), s.go? op 0xA3 = some o →
    s.xlat.windows.at? (fld o.desc 0x20 0 12) = some w → w.clearing = 0 → op ≠ 0 →
    ∃ t : State, exec (.windowClear op) s = .next t
      ∧ t.xlat.windows.at? (fld o.desc 0x20 0 12) = some { w with clearing := op }
      ∧ (∀ k, k ≠ fld o.desc 0x20 0 12 → t.xlat.windows.at? k = s.xlat.windows.at? k)
      ∧ (t.op? op).map (·.phase) = some .running ∧ t.mem = s.mem)
  ∧ (∀ (s : State) (idx : Nat) (w : Window) (o : Op), s.xlat.windows.at? idx = some w → w.clearing ≠ 0 →
    s.op? w.clearing = some o → o.phase ≠ .ended →
    ∃ t : State, exec (.windowClearDone idx) s = .next t ∧ t.xlat.windows.at? idx = none
      ∧ (∀ k, k ≠ idx → t.xlat.windows.at? k = s.xlat.windows.at? k) ∧ ended t w.clearing = some (.ended, 0, 0)
      ∧ t.mem = s.mem)
  ∧ (∀ (s : State) (op r : Nat) (o : Op), s.go? op 0xA4 = some o →
    (s.fab.join ≠ .joined → exec (.pushSubscribe op r) s = .next (s.decide op Status.notJoined 0))
    ∧ (∀ dev src dst i, s.fab.join = .joined → s.checkSubscription o = .ok (dev, src, dst) →
      s.pathTo o.pond dev ≠ .refused → (List.range 256).find? (fun i => (s.fab.pushIn.at? i).isNone) = some i →
      ∃ (t : State) (x : PushIn), exec (.pushSubscribe op r) s = .next t ∧ t.fab.pushIn.at? i = some x ∧ x.op = op
        ∧ x.fn = o.fn ∧ x.dev = dev ∧ x.src = src ∧ x.dst = dst ∧ x.len = fld o.desc 0x30 0 32 ∧ x.waiting = []
        ∧ (∀ k, k ≠ i → t.fab.pushIn.at? k = s.fab.pushIn.at? k) ∧ (t.op? op).map (·.phase) = some .running
        ∧ (∃ m, t.work.sent = s.work.sent ++ [m] ∧ m.kind = .pushSubscribe ∧ m.dst = dev ∧ m.id = i
            ∧ m.args = [src, dst, fld o.desc 0x30 0 32]) ∧ t.mem = s.mem))
  ∧ (∀ (s : State) (op i : Nat) (o : Op) (x : PushIn), s.op? op = some o → o.opcode = 0xA4 → o.phase = .running → op ≠ 0 →
    s.fab.pushIn.find? (fun p => p.2.op = op && op ≠ 0) = some (i, x) → s.fab.pushIn.at? i = some x →
    x.waiting = [] →
    (∃ t : State, exec (.pushSubscribe op 1) s = .next t ∧ t.fab.pushIn.at? i = some { x with op := 0 }
        ∧ ended t op = some (.ended, 0, i) ∧ t.mem = s.mem)
    ∧ (∃ t : State, exec (.pushSubscribe op 2) s = .next t ∧ t.fab.pushIn.at? i = none
        ∧ ended t op = some (.ended, Status.badSubscription, 0))
    ∧ (∃ t : State, exec (.pushSubscribe op 3) s = .next t ∧ t.fab.pushIn.at? i = none
        ∧ ended t op = some (.ended, Status.pushTableFull, 0)))
  ∧ (∀ (s : State) (op : Nat) (r : Bool) (o : Op) (x : PushIn), s.go? op 0xA5 = some o →
    s.fab.pushIn.at? (fld o.desc 0x20 0 8) = some x → x.fn = o.fn → x.op = 0 → x.waiting = [] → s.fab.join = .joined →
    ∃ t : State, exec (.pushCancel op r) s = .next t ∧ t.fab.pushIn.at? (fld o.desc 0x20 0 8) = none
      ∧ (∀ k, k ≠ fld o.desc 0x20 0 8 → t.fab.pushIn.at? k = s.fab.pushIn.at? k)
      ∧ (∃ m, t.work.sent = s.work.sent ++ [m] ∧ m.kind = .pushCancel ∧ m.dst = x.dev ∧ m.id = fld o.desc 0x20 0 8)
      ∧ (t.op? op).map (·.phase) = some .running ∧ t.mem = s.mem)
  ∧ (∀ (s : State) (op : Nat) (o : Op), s.op? op = some o → o.opcode = 0xA5 → o.phase = .running →
    exec (.pushCancel op true) s = .next (s.succeed op))
  ∧ (∀ (s : State) (src mere num off dst len : Nat) (sub : Nat), s.fab.join = .joined →
    (∃ t : State, exec (.pushSubscribeAtProducer src mere num off dst len true sub) s = .next t
      ∧ t.fab.pushOut = s.fab.pushOut.filter (fun p => !(p.dev = src && p.num = num)) ∧ t.mem = s.mem
      ∧ t.work.sent = s.work.sent ++ [reply src num mere sub .pushReply [1] []])
    ∧ (∀ m, s.fab.meres.at? mere = some m → 0 < len → off + len ≤ 0xC000000000 →
      (∀ k, off / 0x20000000 ≤ k → k ≤ (off + len - 1) / 0x20000000 → ∃ p, s.mem.remap.at? k = some p ∧ p.owner = m.pond) →
      s.fab.pushOut.length < 256 →
      ∃ t : State, exec (.pushSubscribeAtProducer src mere num off dst len false sub) s = .next t ∧ t.mem = s.mem
        ∧ t.fab.pushOut = s.fab.pushOut ++ [{ dev := src, mere := mere, num := num, src := off, dst := dst, len := len }]
        ∧ t.work.sent = s.work.sent ++ [reply src num mere sub .pushReply [1] []]))
  ∧ (∀ (s : State) (num off : Nat) (data : List Byte) (x : PushIn), s.fab.pushIn.at? num = some x → data ≠ [] →
    x.dst ≤ off → off + data.length ≤ x.dst + x.len → s.stalls 0 off data.length true = false → s.work.sluices = [] →
    ∃ t : State, exec (.pushWriteLand num off data 0) s = .next t ∧ t.mem.hbm = (s.landWrite 0 off data).mem.hbm
      ∧ t.mem.sram = s.mem.sram
      ∧ (∀ w, w ∈ x.waiting → (∃ o, s.op? w.1 = some o ∧ o.phase ≠ .ended ∧ landedAll x (w.2 ++ [(off, data.length)]) o.desc 0
            (copyBytes o.desc) = true) → ∀ y, t.fab.pushIn.at? num = some y → ∀ v, v ∈ y.waiting → v.1 ≠ w.1))
  ∧ (∀ (s : State) (op i : Nat) (x : PushIn) (w : Nat × List (Nat × Nat)) (o : Op),
    s.fab.pushIn.find? (fun p => p.2.waiting.any (fun w => w.1 = op)) = some (i, x) →
    x.waiting.find? (fun w => w.1 = op) = some w → s.op? op = some o → o.phase ≠ .ended →
    ∃ t : State, exec (.pushTimeout op) s = .next t ∧ t.mem = s.mem ∧ (t.op? op).map (·.push) = some false
      ∧ (∀ y, t.fab.pushIn.at? i = some y → ∀ v, v ∈ y.waiting → v.1 ≠ op)
      ∧ (∀ d, (t.op? op).map (·.done) = some d → ∀ g, g ∈ d → landedAll x w.2 o.desc (4096 * g)
          (min 4096 (copyBytes o.desc - 4096 * g)) = true))

/-- R485, R492 to R497, R505 to R512: the join's rounds, route tables, confirmations, reports of groups and faults, unreachable
devices, packets in transit and the exchange of time. None touches memory.
The model's own choices here: log 61, 62, 63, 64. -/
def Obligations.JoinCommandsTakeEffect : Prop :=
  let sends (s t : State) (kind : FabKind) (dst sub : Nat) (args : List Nat) : Prop := ∃ m : FabMsg,
    t.work.sent = s.work.sent ++ [m] ∧ m.kind = kind ∧ m.dst = dst ∧ m.sub = sub ∧ m.args = args
  (∀ s : State, s.fab.join ≠ .off → s.fab.join ≠ .rejected →
    (s.fab.join = .training → ∃ (t : State) (ms : List FabMsg), exec .joinRoundEnd s = .next t ∧ t.fab.join = .discovery
        ∧ t.fab.roundKind = 1 ∧ t.mem = s.mem ∧ t.work.sent = s.work.sent ++ ms ∧ ms.map (·.sub) = s.upSubs
        ∧ ∀ m, m ∈ ms → m.kind = .hello ∧ m.args = [s.fab.devId, 2, b2n s.fab.leaderOk])
    ∧ (s.fab.join ≠ .training → s.fab.roundKind = 1 → ∃ t : State, exec .joinRoundEnd s = .next t ∧ t.fab.join = s.fab.join
        ∧ t.fab.roundKind = 2 ∧ t.fab.rounds = 1 ∧ t.mem = s.mem)
    ∧ (s.fab.join ≠ .training → s.fab.roundKind = 2 → s.pruneRoutes.fab.changed = true → ∃ t : State,
        exec .joinRoundEnd s = .next t ∧ t.fab.join = s.fab.join ∧ t.fab.roundKind = 2 ∧ t.fab.rounds = s.fab.rounds + 1
          ∧ t.fab.changed = false ∧ t.mem = s.mem)
    ∧ (s.fab.join ≠ .training → s.fab.roundKind = 2 → s.pruneRoutes.fab.changed = false → ∃ t : State,
        exec .joinRoundEnd s = .next t ∧ t.fab.join = (if s.fab.join = .discovery then .linking else s.fab.join)
          ∧ t.fab.roundKind = 3 ∧ t.fab.rounds = 1 ∧ t.fab.dM = (s.fab.rounds - 1) % 256 ∧ t.mem = s.mem)
    ∧ (s.fab.join ≠ .training → s.fab.roundKind = 3 → s.pruneRoutes.fab.changed = false → ∃ t : State,
        exec .joinRoundEnd s = .next t ∧ t.fab.join = (if s.fab.join = .linking then .awaitConfirm else s.fab.join)
          ∧ t.fab.roundKind = 0 ∧ t.fab.dG = (s.fab.rounds - 1) % 128 ∧ t.mem = s.mem))
  ∧ (∀ (s : State) (sub dev state : Nat) (ok : Bool), sub < 64 → (s.subLink sub).state = .up → s.fab.join ≠ .off →
    ∃ t : State, exec (.hello sub dev state ok) s = .next t ∧ (t.subLink sub).nDev = dev % 65536
      ∧ t.fab.neighbours.at? sub = some { dev := dev, state := state, leaderOk := ok }
      ∧ (∀ n, n ≠ sub → t.subLink n = s.subLink n ∧ t.fab.neighbours.at? n = s.fab.neighbours.at? n) ∧ t.mem = s.mem
      ∧ (s.fab.neighbours.at? sub = none → (s.fab.join = .linking ∨ s.fab.join = .awaitConfirm ∨ s.fab.join = .joined) →
          s.fab.roundKind ≠ 1 → ∃ code, sends s t .hello (dev % 65536) sub [s.fab.devId, code, b2n s.fab.leaderOk]))
  ∧ (∀ (s : State) (sub : Nat) (group : Bool) (dists links leaders dups : List Nat) (anchor : Nat) (x : Neighbour),
    s.goodNeighbour sub = some x → sub < 64 → (s.subLink sub).state = .up →
    (s.fab.join = .discovery ∨ s.fab.join = .linking ∨ s.fab.join = .awaitConfirm ∨ s.fab.join = .joined) →
    (group = false → x.dev / 256 = s.ownGroup) →
    (s.fab.devId ∈ dups → ∃ t : State, exec (.vectorReceived sub group dists links leaders anchor dups) s = .next t
        ∧ t.fab.join = .rejected ∧ t.fab.cause = 2 ∧ t.fab.leader = false ∧ t.fab.timeRoot = false ∧ t.mem = s.mem)
    ∧ (s.fab.devId ∉ dups → s.fab.routeMode = true →
        ∃ t : State, exec (.vectorReceived sub group dists links leaders anchor dups) s = .next t ∧ t.mem = s.mem
          ∧ t.fab.routeGrp = s.fab.routeGrp ∧ t.fab.routeMbr = s.fab.routeMbr ∧ t.fab.routeSet = s.fab.routeSet
          ∧ t.fab.anchorId = min s.fab.anchorId anchor)
    ∧ (∀ k h j, s.fab.devId ∉ dups → s.fab.routeMode = false → k < (if group then 128 else 256) →
        k ≠ (if group then s.ownGroup else s.ownMember) → (group = false → k ∉ s.fab.rejected) →
        (∀ i d, dists[i]? = some d → i ≠ k → 255 ≤ d) → dists[k]? = some h → h < 254 → links[k]? = some j →
        j ≠ (s.subLink sub).nSub → links.length = dists.length → (∃ i, i < 64 ∧ s.setUsed group k i = false) →
        (∀ i, i ≠ k → bitOf (s.maskOf (s.routeEntry group i)) sub = false) →
        (s.maskOf (s.routeEntry group k) = 0 ∨ h + 1 < bitsOf (s.routeEntry group k) 8 8) →
        ∃ t : State, exec (.vectorReceived sub group dists links leaders anchor dups) s = .next t ∧ t.mem = s.mem
          ∧ bitOf (t.routeEntry group k) 6 = true ∧ bitsOf (t.routeEntry group k) 8 8 = h + 1
          ∧ t.maskOf (t.routeEntry group k) = 2 ^ sub ∧ (∀ i, i ≠ k → t.routeEntry group i = s.routeEntry group i)))
  ∧ (∀ (s : State) (group leader members : Nat) (dup : Bool) (bitmap : Nat), s.fab.anchor = true → group < 128 →
    exec (.groupReport group leader members dup bitmap) s = .next
      ((s.setFab (fun f => { f with reportLeader := f.reportLeader.set group leader })).post 0 Event.groupReport
        (group + leader % 256 * 2 ^ 8 + members % 512 * 2 ^ 16 + b2n dup * 2 ^ 31 + bitmap % 2 ^ 256 * 2 ^ 64)))
  ∧ (∀ s : State, s.fab.leader = true → s.fab.roundKind = 0 → (s.fab.join = .awaitConfirm ∨ s.fab.join = .joined) →
    s.fab.anchor = false → s.fab.anchorId ≠ 0xFFFF → s.fab.anchorId ≠ s.fab.devId → s.fab.rejected = [] → s.fab.reported = [] →
    ∃ (t : State) (m : FabMsg), exec .groupReportResend s = .next t ∧ t.fab.reported = s.reachedMembers
      ∧ t.work.sent = s.work.sent ++ [m] ∧ m.kind = .report ∧ m.dst = s.fab.anchorId ∧ m.id = s.ownGroup
      ∧ m.args = [s.ownMember, s.reachedMembers.length, b2n (s.fab.dups.any (fun d => d / 256 = s.ownGroup)),
          maskFrom s.reachedMembers] ∧ t.mem = s.mem)
  ∧ (∀ (s : State) (bitmap reported : Nat), s.fab.leader = false →
    (s.fab.join = .awaitConfirm → bitOf bitmap s.ownMember = true → ∃ t : State,
      exec (.confirmationReceived s.ownGroup ⟨bitmap, reported⟩) s = .next t ∧ t.fab.join = .joined ∧ t.fab.confirmed = true
        ∧ t.fab.cause = 0 ∧ (∀ m, m < 256 → m ≠ s.ownMember → bitOf bitmap m = false → bitOf reported m = true →
            bitOf (t.fab.routeMbr.get 0 m) 6 = false) ∧ t.mem = s.mem)
    ∧ ((s.fab.join = .awaitConfirm ∨ s.fab.join = .joined) → bitOf bitmap s.ownMember = false → bitOf reported s.ownMember = true →
      ∃ t : State, exec (.confirmationReceived s.ownGroup ⟨bitmap, reported⟩) s = .next t ∧ t.fab.join = .rejected ∧ t.fab.cause = 3
        ∧ t.fab.confirmed = false ∧ t.mem = s.mem))
  ∧ (∀ (s : State) (op : Nat) (o : Op), s.go? op 0xA6 = some o →
    let g := fld o.desc 0x20 0 7
    let at_ := fld o.desc 0x28 0 43
    (s.fab.anchor = false → exec (.fabConfirm op) s = .next (s.decide op Status.notAnchor 0))
    ∧ (∀ leader, s.fab.anchor = true → g ≠ s.ownGroup → bitOf (s.fab.routeGrp.get 0 g) 6 = true →
      (s.plotOf at_).isSome = true → s.stalls 0 at_ 32 false = false → s.poisonIn at_ 32 = false →
      s.fab.reportLeader.at? g = some leader →
      ∃ (t : State) (m : FabMsg), exec (.fabConfirm op) s = .next t ∧ t.work.sent = s.work.sent ++ [m]
        ∧ m.kind = .confirm ∧ m.dst = 256 * g + leader ∧ m.id = g ∧ m.args = [leNat (s.readPub at_ 32)]
        ∧ (t.op? op).map (fun x => (x.phase, x.status)) = some (.ended, 0) ∧ t.mem = s.mem))
  ∧ (∀ (s : State) (kind a b c fp : Nat), s.fingerprint kind a b c = some fp →
    let x := s.fab.faults.get { window := 0, count := 0 } fp
    let w := s.ns / 10000000 + 1
    (x.window = w → exec (.faultReportSend kind a b c) s
      = .next (s.setFab (fun f => { f with faults := f.faults.set fp { x with count := x.count + 1 } })))
    ∧ (x.window ≠ w → s.leaderKnown = true → s.fab.leader = false → ∃ (t : State) (m : FabMsg),
      exec (.faultReportSend kind a b c) s = .next t ∧ t.fab.faults.at? fp = some { window := w, count := 0 }
        ∧ t.work.sent = s.work.sent ++ [m] ∧ m.kind = .faultReport ∧ m.dst = 256 * s.ownGroup + s.fab.leaderMember
        ∧ m.args = [fp, s.fab.devId, x.count + 1] ∧ t.mem = s.mem))
  ∧ (∀ (s : State) (fp dev count : Nat) (m : Merged), s.fab.leader = true → fp < 2 ^ 64 → dev < 65536 →
    s.fab.merged.at? fp = some m → ∃ t : State, exec (.faultReportAtLeader fp dev count) s = .next t
      ∧ t.fab.merged.at? fp = some
          { devices := if m.devices.contains dev then m.devices else m.devices ++ [dev],
            count := (m.count + count) % 2 ^ 32, lowest := min m.lowest dev }
      ∧ (∀ k, k ≠ fp → t.fab.merged.at? k = s.fab.merged.at? k) ∧ t.mem = s.mem ∧ t.work = s.work ∧ t.host = s.host)
  ∧ (∀ s : State, s.fab.leader = true → s.fab.anchor = false → s.fab.anchorId ≠ 0xFFFF → s.fab.anchorId ≠ s.fab.devId →
    ∃ (t : State) (ms : List FabMsg), exec .leaderFaultWindow s = .next t ∧ t.fab.merged = [] ∧ t.mem = s.mem
      ∧ t.work.sent = s.work.sent ++ ms ∧ ms.map (·.args) = s.fab.merged.map (fun p =>
          [p.1, p.2.devices.length, p.2.count, p.2.lowest, s.ownGroup])
      ∧ ∀ m, m ∈ ms → m.kind = .faultReport ∧ m.dst = s.fab.anchorId)
  ∧ (∀ (s : State) (fp devices count lowest group : Nat), s.fab.anchor = true →
    exec (.faultReport fp devices count lowest group) s = .next (s.post 0 Event.faultReport
      (fp % 2 ^ 64 + devices % 2 ^ 32 * 2 ^ 64 + count % 2 ^ 32 * 2 ^ 96 + (lowest % 65536 + group % 128 * 65536) * 2 ^ 128)))
  ∧ (∀ (s : State) (dev : Nat) (ops : List Nat), dev ≠ s.fab.devId → dev < 0x8000 → s.reaches dev = false →
    dev ∉ s.fab.unreachable → ∃ t : State, exec (.unreachTimer dev ops) s = .next t
      ∧ t.fab.unreachable = s.fab.unreachable ++ [dev]
      ∧ (s.work.sluices = [] → s.fab.pushIn = [] → ∀ i o, i ∈ ops → s.op? i = some o → o.phase ≠ .ended →
          (t.op? i).map (fun x => (x.phase, x.status)) = some (.ended, Status.badTarget)))
  ∧ (∀ s : State, s.parentSub < 64 → ∃ t : State, exec .timeExchange s = .next t ∧ t.fab.t1 = s.ns ∧ t.mem = s.mem
    ∧ t.clk = s.clk ∧ sends s t .timeRequest (s.subLink s.parentSub).nDev s.parentSub [s.ns])
  ∧ (∀ (s : State) (sub t1 : Nat), sub < 64 → (s.subLink sub).state = .up → s.fab.join ≠ .off → ∃ t : State,
    exec (.timeRequestReceived sub t1) s = .next t ∧ sends s t .timeReply (s.subLink sub).nDev sub [t1, s.ns, s.ns]
      ∧ t.mem = s.mem ∧ t.fab = s.fab ∧ t.clk = s.clk)
  ∧ (∀ (s : State) (table idx value : Nat), s.fab.routeMode = true → value < 2 ^ 32 →
    let e := value % 128 + bitsOf value 8 8 * 256
    (table = 0 → idx < 128 → ∃ t : State, exec (.routeTableWrite table idx value) s = .next t
      ∧ t.fab.routeGrp.at? idx = some e ∧ (∀ k, k ≠ idx → t.fab.routeGrp.at? k = s.fab.routeGrp.at? k)
      ∧ t.fab.routeMbr = s.fab.routeMbr ∧ t.fab.routeSet = s.fab.routeSet ∧ t.mem = s.mem)
    ∧ (table = 1 → idx < 256 → ∃ t : State, exec (.routeTableWrite table idx value) s = .next t
      ∧ t.fab.routeMbr.at? idx = some e ∧ (∀ k, k ≠ idx → t.fab.routeMbr.at? k = s.fab.routeMbr.at? k)
      ∧ t.fab.routeGrp = s.fab.routeGrp ∧ t.fab.routeSet = s.fab.routeSet ∧ t.mem = s.mem)
    ∧ ((table = 2 ∨ table = 3) → idx < 64 → ∃ t : State, exec (.routeTableWrite table idx value) s = .next t
      ∧ t.fab.routeSet.at? idx = some (setBits (s.fab.routeSet.get 0 idx) (if table = 2 then 0 else 32) 32 value)
      ∧ (∀ k, k ≠ idx → t.fab.routeSet.at? k = s.fab.routeSet.at? k) ∧ t.fab.routeGrp = s.fab.routeGrp
      ∧ t.fab.routeMbr = s.fab.routeMbr ∧ t.mem = s.mem))
  ∧ (∀ (s : State) (src tag dst addr sub : Nat) (sys : Bool) (data : List Byte), dst ≠ s.fab.devId → dst ≠ 0xFFFF →
    (s.fab.join = .joined ∨ (sys = true ∧ s.fab.join ≠ .off ∧ s.fab.join ≠ .rejected)) →
    (∃ t : State, exec (.transitPacket src tag dst addr sub ⟨false, sys⟩ data) s = .next t
      ∧ t.fab.paths.at? (src * 65536 + tag) = some sub
      ∧ sends s t .transit dst (pickSub dst addr (((s.routeSet dst).getD 0) &&& s.upMask)) [src, addr, 0] ∧ t.mem = s.mem)
    ∧ (∀ n, s.fab.paths.at? (src * 65536 + tag) = some n → ∃ t : State,
      exec (.transitPacket src tag dst addr sub ⟨true, sys⟩ data) s = .next t ∧ t.fab.paths.at? (src * 65536 + tag) = none
        ∧ sends s t .transit dst n [src, addr, 1] ∧ t.mem = s.mem))

/-- R512, R592, R595 to R608: the timebase and its sources, and brumation with its entry, its wake events and its wake. That a
step on an empty queue is a tick of the timebase is the model's own (notes/assumptions/1.md).
The model's own choices here: log 1, 60, 76, 77, 78. -/
def Obligations.TimeAndBrumationTakeEffect : Prop :=
  (∀ s : State, s.pending = [] → s.hasRate = false → s.clk.tb + 11 * 2 ^ 32 < 2 ^ 96 → ∃ t : State, step s = .next t
    ∧ t.mem = s.mem ∧ t.host = s.host ∧ t.work = s.work
    ∧ t.clk.tb = s.clk.tb + (if 0 < s.clk.slew then 11 else if s.clk.slew < 0 then 9 else 10) * 2 ^ 32
    ∧ t.clk.slew = (if 0 < s.clk.slew then s.clk.slew - 1 else if s.clk.slew < 0 then s.clk.slew + 1 else 0))
  ∧ (∀ s : State, ∃ t : State, exec .timeLoRead s = .next t ∧ t.host.readData = leBytes 4 (s.ns % 2 ^ 32)
    ∧ t.clk = { s.clk with latch := BitVec.ofNat 32 (s.ns >>> 32) } ∧ t.mem = s.mem ∧ t.work = s.work)
  ∧ (∀ (s : State) (hi : Nat),
    let v := s.clk.setLo.toNat + hi % 2 ^ 32 * 2 ^ 32
    (v < s.ns ∨ (s.fab.timeRoot = false ∧ s.fab.join = .joined) →
      exec (.timeSet hi) s = .next (s.setClk (fun c => { c with setBad := true })))
    ∧ (s.ns ≤ v → (s.fab.timeRoot = true ∨ s.fab.join ≠ .joined) → s.clk.tb < 2 ^ 96 → ∃ t : State,
      exec (.timeSet hi) s = .next t ∧ t.ns = v ∧ t.clk.slew = 0 ∧ t.clk.jumps = (s.clk.jumps + 1) % 65536
        ∧ t.clk.uncertain = (s.clk.uncertain && !s.clk.refPresent) ∧ t.mem.hbm = s.mem.hbm ∧ t.work = s.work
        ∧ (∀ h p b, s.mem.ponds.at? h = some p → p.beats = some b → ∃ q c, t.mem.ponds.at? h = some q
            ∧ q.beats = some c ∧ c.grid = b.grid + (v - s.ns) ∧ c.t0 = b.t0 + (v - s.ns) ∧ c.number = b.number)))
  ∧ (∀ (s : State) (t2 t3 : Nat), s.parentSub < 64 →
    let o : Int := (((t2 : Int) - s.fab.t1) - ((s.ns : Int) - t3)) / 2
    ∃ t : State, exec (.timeReply t2 t3) s = .next t ∧ t.clk.offset = max (-2 ^ 31) (min (2 ^ 31 - 1) o)
      ∧ (o ≤ 1000 → t.clk.slew = o ∧ t.clk.tb = s.clk.tb ∧ t.mem = s.mem)
      ∧ (1000 < o → t.clk.slew = 0 ∧ t.clk.tb = (s.clk.tb + o.toNat * 2 ^ 32) % 2 ^ 96
          ∧ t.clk.jumps = (s.clk.jumps + 1) % 65536 ∧ t.mem.hbm = s.mem.hbm)
      ∧ (s.fab.join = .joined → s.clk.refPresent = true → -50 ≤ o → o ≤ 50 → t.clk.uncertain = false)
      ∧ (o < -50 ∨ 50 < o → t.clk.uncertain = s.clk.uncertain))
  ∧ (∀ s : State, s.clk.refPresent = true → s.pwr.downStep < 2 → (5 ≤ s.pwr.reached ∨ s.clk.wakeStep = 2) → ∃ t : State,
    exec .rootPllLock s = .next t ∧ t.clk = { s.clk with rootLocked := true, src := 0 } ∧ t.mem = s.mem ∧ t.work = s.work)
  ∧ (∀ s : State, s.clk.refPresent = true → ∃ t : State, exec .clkRefLoss s = .next t
    ∧ t.clk = { s.clk with refPresent := false, rootLocked := false, src := 2, uncertain := true } ∧ t.mem = s.mem
    ∧ (s.pwr.pwrOk = true → s.clk.asleep = false → s.ras.fatal = false → t.ras.fatal = true ∧ t.ras.fatalCode = 1
        ∧ t.host.aerFatal = s.host.aerFatal ++ [1])
    ∧ (s.pwr.pwrOk = false ∨ s.clk.asleep = true → t.ras = s.ras))
  ∧ (∀ s : State, s.clk.refPresent = false → ∃ t : State, exec .clkRefReturn s = .next t ∧ t.clk.refPresent = true
    ∧ t.clk.src = 1 ∧ t.clk.tb = s.clk.tb ∧ t.clk.uncertain = s.clk.uncertain ∧ t.mem = s.mem
    ∧ t.clk.wakeStep = (if s.clk.asleep && s.clk.wakeSrc ≠ 0 && s.clk.wakeStep = 0 then 1 else s.clk.wakeStep))
  ∧ (∀ s : State, s.clk.brumEnable = true → s.boot.ready = true → s.mute = false → s.clk.entryStep = 0 →
    s.pwr.downStep = 0 → s.idle = true →
    exec .idleTimerExpiry s = .next (s.setClk (fun c => { c with entryStep := 1, wakeSrc := 0 })))
  ∧ (∀ (s : State) (words : List Nat),
    (s.clk.entryStep = 7 → ∃ t : State, exec (.brumEntryStepDone words) s = .next t ∧ t.clk.asleep = true
      ∧ t.clk.entryStep = 0 ∧ t.clk.rootLocked = false ∧ t.pwr.hbmEn = false ∧ t.mem = s.mem)
    ∧ (1 ≤ s.clk.entryStep → s.clk.entryStep ≤ 6 → s.clk.wakeSrc = 0 → (s.clk.entryStep = 5 → s.boot.mwUp = true) → ∃ t : State,
      exec (.brumEntryStepDone words) s = .next t ∧ t.clk.entryStep = s.clk.entryStep + 1 ∧ t.mem = s.mem
        ∧ (s.clk.entryStep = 3 → t.clk.entries = (s.clk.entries + 1) % 2 ^ 48
            ∧ (s.clk.wordLo.toNat + s.clk.wordHi.toNat * 2 ^ 32 ≠ 0 → t.host.writes = s.host.writes ++
                [{ fn := 0, addr := s.clk.wordLo.toNat + s.clk.wordHi.toNat * 2 ^ 32,
                   bytes := leBytes 8 (1 + 16 + (s.clk.entries + 1) % 2 ^ 48 * 65536) }]))
        ∧ (s.clk.entryStep = 4 → ∀ n, n < 64 → (s.subLink n).state = .up →
            (t.subLink n).state = if n % 4 = 0 then .sleep else .dark)
        ∧ (s.clk.entryStep = 6 → t.host.speed = 1 ∧ t.host.width = 1 ∧ t.clk.linkBefore = (s.host.speed, s.host.width)))
    ∧ (1 ≤ s.clk.entryStep → s.clk.entryStep ≤ 6 → s.clk.wakeSrc ≠ 0 → (s.clk.entryStep = 5 → s.boot.mwUp = true) → ∃ t : State,
      exec (.brumEntryStepDone words) s = .next t ∧ t.clk.entryStep = 0 ∧ t.clk.lastAbort = s.clk.entryStep
        ∧ t.clk.lastSrc = s.clk.wakeSrc ∧ t.clk.wakeSrc = 0 ∧ t.clk.asleep = s.clk.asleep ∧ t.mem = s.mem))
  ∧ (∀ (s : State) (src : Nat), 1 ≤ src → src ≤ 5 → s.pwr.downStep = 0 → s.clk.wakeSrc = 0 →
    (s.clk.entryStep ≠ 0 → exec (.wakeEvent src) s = .next (s.setClk (fun c => { c with wakeSrc := src })))
    ∧ (s.clk.entryStep = 0 → s.clk.asleep = true → src ≠ 5 → s.clk.wakeStep = 0 → s.clk.refPresent = true →
      exec (.wakeEvent src) s = .next (s.setClk (fun c => { c with wakeSrc := src, wakeStep := 1 }))))
  ∧ (∀ (s : State) (on : Bool), ∃ t : State, exec (.brumEnableWrite on) s = .next t ∧ t.clk.brumEnable = on
    ∧ t.mem = s.mem ∧ t.host = s.host ∧ (on = true → t.clk = { s.clk with brumEnable := true })
    ∧ (on = false → s.clk.entryStep ≠ 0 → s.clk.wakeSrc = 0 → s.pwr.downStep = 0 → t.clk.wakeSrc = 5))
  ∧ (∀ (s : State) (dev : Nat), s.fab.join = .joined → ∃ (t : State) (m : FabMsg), exec (.brumWakeWrite dev) s = .next t
    ∧ t.work.sent = s.work.sent ++ [m] ∧ m.kind = .wake ∧ m.dst = dev % 65536 ∧ t.mem = s.mem ∧ t.clk = s.clk)
  ∧ (∀ (s : State) (dst sub : Nat),
    (dst = s.fab.devId → exec (.wakeMessage dst sub) s = exec (.wakeEvent 3) s)
    ∧ (dst ≠ s.fab.devId → s.clk.asleep = false → s.fab.join ≠ .off → s.fab.join ≠ .rejected → sub < 64 → ∃ (t : State) (m : FabMsg),
      exec (.wakeMessage dst sub) s = .next t ∧ t.work.sent = s.work.sent ++ [m] ∧ m.kind = .wake ∧ m.dst = dst
        ∧ (∀ n, n < 64 → (s.subLink n).state = .sleep → (s.subLink n).nDev = dst → (s.subLink n).gen = 1 →
            (s.subLink m.sub).state = .sleep ∧ (s.subLink m.sub).nDev = dst) ∧ t.mem = s.mem ∧ t.clk = s.clk))
  ∧ (∀ s : State,
    (s.pwr.pwrReq = true →
      (s.clk.wakeStep = 1 → ∃ t : State, exec .wakeStepDone s = .next t ∧ t.clk = { s.clk with wakeStep := 2 }
        ∧ t.mem = s.mem)
      ∧ (s.clk.wakeStep = 2 → s.clk.rootLocked = true → s.ras.fatal = false → ∃ t : State,
        exec .wakeStepDone s = .next t ∧ t.clk.wakeStep = 3 ∧ t.clk.tb = s.clk.tb ∧ t.clk.asleep = false
          ∧ t.boot.stage = 1 ∧ t.boot.ready = false ∧ t.boot.cause = 16 + s.clk.wakeSrc * 32 ∧ t.work.ops = [])
      ∧ (s.clk.wakeStep = 3 → ∃ t : State, exec .wakeStepDone s = .next t ∧ t.clk = { s.clk with wakeStep := 4 }
        ∧ (t.host.speed, t.host.width) = s.clk.linkBefore ∧ t.mem = s.mem)
      ∧ (s.clk.wakeStep = 4 → s.boot.ready = true →
        exec .wakeStepDone s = .next (s.setClk (fun c => { c with wakeStep := 5 })))
      ∧ (s.clk.wakeStep = 5 → ∃ t : State, exec .wakeStepDone s = .next t
        ∧ t.clk = { s.clk with wakeStep := 0, wakeSrc := 0 } ∧ t.mem = s.mem))
    ∧ (s.pwr.pwrReq = false → s.clk.wakeStep ≠ 0 → ∃ t : State, exec .wakeStepDone s = .next t ∧ t.clk.wakeStep = 0
      ∧ t.clk.wakeSrc = 0 ∧ t.pwr.downStep = (if s.clk.asleep then 7 else 2) ∧ t.mem = s.mem))

/-- R520 to R535: voltage commands and their completion, the sail controller's windows, furl, droop, the forced state, and
temperatures with their throttling and trip. The model's own choices here: log 9, 65, 66. -/
def Obligations.PowerCommandsTakeEffect : Prop :=
  let rest (s t : State) : Prop := t.mem = s.mem ∧ t.work = s.work ∧ t.xlat = s.xlat ∧ t.eng = s.eng ∧ t.fab = s.fab
  (∀ (s : State) (value : Nat), s.pwr.islSel < 512 →
    let n := s.pwr.islSel
    let i := s.island n
    let code := bitsOf value 0 7
    let div := bitsOf value 8 5
    (80 < code ∨ div < 8 ∨ 16 < div ∨ code < minCode div ∨ s.fenced 1 n = true →
      exec (.voltageCommand value) s = .next (s.modIsland n (fun i => { i with cmdBad := true })))
    ∧ (code ≤ 80 → 8 ≤ div → div ≤ 16 → minCode div ≤ code → s.fenced 1 n = false →
        (i.settled = false ∨ i.target ≠ code → exec (.voltageCommand value) s = .next (s.modIsland n (fun i => { i with
          uv := i.out s.ns, at_ := s.ns, target := code, cmdDiv := div, tag := bitsOf value 16 8, settled := false,
          complete := false, div := max i.div div, raise := div < i.div })))
        ∧ (i.settled = true → i.target = code → (s.forced = false ∨ i.div ≤ div) → ∃ t : State,
          exec (.voltageCommand value) s = .next t ∧ rest s t ∧ (t.island n).div = div ∧ (t.island n).target = code
            ∧ (t.island n).settled = true ∧ (t.island n).raise = false
            ∧ (t.island n).doneTag = bitsOf value 16 8 ∧ (∀ m, m ≠ n → t.island m = s.island m))))
  ∧ (∀ (s : State) (n : Nat), n < 512 → (s.island n).settled = false → (s.island n).at_ + 200 ≤ s.ns →
    (s.island n).out (s.ns - 200) = codeUv (s.island n).target →
    ∃ t : State, exec (.islandSettled n) s = .next t ∧ rest s t ∧ (∀ m, m ≠ n → t.island m = s.island m)
      ∧ (t.island n).settled = true ∧ (t.island n).uv = codeUv (s.island n).target
      ∧ ((s.forced = false ∨ (s.island n).raise = false) → (t.island n).div = (s.island n).cmdDiv
          ∧ (t.island n).raise = false ∧ (t.island n).complete = true)
      ∧ (s.forced = true → (s.island n).raise = true → (t.island n).div = (s.island n).div ∧ (t.island n).raise = true))
  ∧ (∀ (s : State) (d demand : Nat) (ponds : List Nat), d < 4 →
    let x := s.sail d
    ∃ t : State, exec (.sailWindow d demand ponds) s = .next t ∧ rest s t ∧ (∀ e, e ≠ d → t.sail e = s.sail e)
      ∧ (s.forced = true → (t.sail d).spin = [] ∧ (t.sail d).floor = demand
          ∧ (t.sail d).windows = demand :: x.windows.take 4 ∧ (t.sail d).misses = x.misses)
      ∧ (s.forced = false →
          let i := min demand (x.windows.headD 0 + 50 * x.slopeUp)
          let f := min (1000 * x.iCap) (max i (x.floor - 50 * x.slopeDown))
          (t.sail d).floor = f ∧ (t.sail d).windows = (i + 4200 * (t.sail d).spin.length) :: x.windows.take 4
            ∧ (∀ tile, tile ∈ (t.sail d).spin → tile ∈ s.idleArrays d)
            ∧ (x.spinEn = false → (t.sail d).spin = [])
            ∧ (f ≤ i + 4200 * (t.sail d).spin.length → (t.sail d).misses = x.misses)
            ∧ (i + 4200 * (t.sail d).spin.length < f → (t.sail d).misses = x.misses + 1)))
  ∧ (∀ (s : State) (power : Nat), ∃ (t : State) (avg : Nat), exec (.furlUpdate power) s = .next t ∧ rest s t
    ∧ min s.pwr.pAvg power ≤ avg ∧ avg ≤ max s.pwr.pAvg power ∧ t.pwr.pNow = power % 8192 ∧ t.pwr.pAvg = avg % 8192
    ∧ ∀ d, d < 4 →
        let x := s.sail d
        let goal := min x.furlMax
          (x.gain * max (max (excess power s.pwr.pShort) (excess avg s.pwr.pLong)) (excess x.now (1000 * x.iCap)))
        t.sail d = { x with duty := if x.duty ≤ goal then min goal (x.duty + x.slopeDown * 250 * 256 / max 1 x.now)
                                    else max goal (x.duty - x.slopeUp * 250 * 256 / max 1 x.now) })
  ∧ (∀ (s : State) (dom clocks : Nat),
    (dom < 591 → dom ∉ s.clk.stretching → ∃ t : State, exec (.droopCrossing dom) s = .next t ∧ rest s t
      ∧ t.clk = { s.clk with stretching := s.clk.stretching ++ [dom] } ∧ t.pwr = s.pwr)
    ∧ (dom ∈ s.clk.stretching → ∃ t : State, exec (.droopRecover dom clocks) s = .next t ∧ rest s t
      ∧ dom ∉ t.clk.stretching ∧ (∀ e, e ≠ dom → (e ∈ t.clk.stretching ↔ e ∈ s.clk.stretching))
      ∧ (dom < 512 → t.sail (dieOfTile dom) = (s.sail (dieOfTile dom)).count 0 clocks) ∧ (512 ≤ dom → t.pwr = s.pwr)))
  ∧ (∀ s : State, s.pwr.pwrOk = true → s.clk.asleep = false →
    (s.pwr.trip = false → s.pwr.forced = false → ∃ t : State, exec .croakNAssert s = .next t ∧ rest s t
      ∧ t.pwr.forced = true ∧ t.pwr.croakPin = true ∧ t.pwr.forcedSince = s.ns ∧ t.pwr.croaks = (s.pwr.croaks + 1) % 65536
      ∧ t.pwr.islands = s.pwr.islands ∧ (∀ d, d < 4 → (t.sail d).spin = []) ∧ ∀ n, t.divNow n = 16)
    ∧ (s.pwr.trip = false → s.pwr.forced = true → exec .croakNAssert s
        = .next (s.setPwr (fun p => { p with croakPin := true, croaks := (p.croaks + 1) % 65536 })))
    ∧ (s.pwr.trip = true → exec .croakNAssert s = .next (s.setPwr (fun p => { p with croakPin := true }))))
  ∧ (∀ s : State, exec .croakNRelease s = .next (s.setPwr (fun p => { p with croakPin := false })))
  ∧ (∀ s : State, s.pwr.forced = true → s.pwr.croakPin = false → s.boot.mwUp = true → ∃ t : State,
    exec .croakRearm s = .next t ∧ rest s t ∧ t.pwr.forced = false
      ∧ (s.pwr.trip = false → s.ras.fatal = false → s.pwr.downStep < 2 → ∀ n i, s.pwr.islands.at? n = some i →
          i.settled = true → i.raise = true → (t.island n).div = i.cmdDiv ∧ (t.island n).raise = false))
  ∧ (∀ (s : State) (n temp : Nat), n < 512 → s.pwr.pwrOk = true → s.clk.asleep = false → ∃ t : State,
    exec (.tempSample n temp) s = .next t ∧ rest s t ∧ t.island n = { s.island n with temp := temp % 2048 }
      ∧ (∀ m, m ≠ n → t.island m = s.island m)
      ∧ (signedOf 11 temp ≤ 4 * (s.pwr.tTrip : Int) → t.pwr.trip = s.pwr.trip ∧ t.host = s.host)
      ∧ (4 * (s.pwr.tTrip : Int) < signedOf 11 temp → t.pwr.trip = true ∧ ∀ m, t.divNow m = 16))
  ∧ (∀ (s : State) (port temp : Nat), port < 24 → s.pwr.pwrOk = true → s.clk.asleep = false → ∃ t : State,
    exec (.hbmTempRead port temp) s = .next t ∧ rest s t ∧ t.pwr.hbmTemps.at? port = some (temp % 256)
      ∧ (temp ≤ 105 → t.pwr.trip = s.pwr.trip ∧ t.host = s.host) ∧ (105 < temp → t.pwr.trip = true)
      ∧ (105 < temp → s.pwr.trip = false → t.pwr.hbmTrip = true))
  ∧ (∀ (s : State) (n : Nat), n < 512 →
    let i := s.island n
    let temp := signedOf 11 i.temp
    (4 * (s.pwr.tThrottle : Int) < temp → i.steps < 8 → ∃ t : State, exec (.thermalStepTimer n) s = .next t ∧ rest s t
      ∧ t.island n = { i with steps := i.steps + 1 } ∧ (∀ m, m ≠ n → t.island m = s.island m))
    ∧ (temp < 4 * ((s.pwr.tThrottle : Int) - s.pwr.hyst) → i.steps ≠ 0 → ∃ t : State,
      exec (.thermalStepTimer n) s = .next t ∧ rest s t ∧ t.island n = { i with steps := i.steps - 1 }
        ∧ (∀ m, m ≠ n → t.island m = s.island m))
    ∧ (4 * ((s.pwr.tThrottle : Int) - s.pwr.hyst) ≤ temp → temp ≤ 4 * (s.pwr.tThrottle : Int) →
      exec (.thermalStepTimer n) s = .next s))

/-- R610 to R614, R619 to R625: each reset clears and keeps what the spec says and names its cause, and boot runs its steps.
The model's own choices here: log 74, 79, 80. -/
def Obligations.ResetsAndBootTakeEffect : Prop :=
  let resets (s t : State) (cause : Nat) : Prop :=
    t.host.fns = [] ∧ t.host.ctxs = [] ∧ t.host.slots = [] ∧ t.host.setupLock = false ∧ t.work.ops = [] ∧ t.work.sluices = []
      ∧ t.mem.ponds = [] ∧ t.mem.remap = [] ∧ t.mem.hbm = [] ∧ t.mem.sram = [] ∧ t.mem.prog = [] ∧ t.mem.loft = []
      ∧ t.eng.groups = [] ∧ t.eng.runs = [] ∧ t.xlat.windows = [] ∧ t.fab.meres = [] ∧ t.fab.pushIn = [] ∧ t.fab.pushOut = []
      ∧ t.mem.fences = listedFences s.ras.flashFences ∧ t.ras.flashFences = s.ras.flashFences ∧ t.ras.fatal = false
      ∧ t.clk.tb = s.clk.tb ∧ t.clk.uncertain = s.clk.uncertain ∧ t.clk.wordLo = s.clk.wordLo ∧ t.clk.wordHi = s.clk.wordHi
      ∧ t.tally.seq = s.tally.seq ∧ t.tally.hash = s.tally.hash ∧ t.tally.enable = false ∧ t.pwr.trip = s.pwr.trip
      ∧ t.host.writes = s.host.writes ∧ t.sec.lcFuse = s.sec.lcFuse ∧ t.boot.slots = s.boot.slots
      ∧ t.boot.config = s.boot.config ∧ t.boot.ready = false
      ∧ t.boot.cause = cause + (if s.ras.fatal then 1024 + s.ras.fatalCode % 16 * 2048 else 0)
  (∀ s : State,
    (s.pwr.pwrOk = true → ∃ t : State, exec .perstNAssert s = .next t ∧ resets s t 2 ∧ t.boot.perst = true ∧ t.boot.stage = 0)
    ∧ (s.pwr.pwrOk = false → exec .perstNAssert s = .next (s.setBoot (fun b => { b with perst := true })))
    ∧ (s.boot.perst = true → s.pwr.pwrOk = true → ∃ t : State, exec .perstNRelease s = .next t ∧ t.boot.stage = 1
        ∧ t.boot.perst = false ∧ t.boot.ready = false ∧ t.fab.member = s.boot.straps % 256 ∧ t.mem = s.mem ∧ t.host = s.host)
    ∧ (s.resettable = true → ∃ t : State, exec .hotReset s = .next t ∧ resets s t 4 ∧ t.boot.stage = 1)
    ∧ (s.resettable = true → ∃ t : State, exec .pfFlr s = .next t ∧ resets s t 8 ∧ t.boot.stage = 1
        ∧ t.host.cxl = s.host.cxl ∧ t.host.speed = s.host.speed)
    ∧ (s.resettable = true → s.boot.resetDue = true → ∃ t : State, exec .deviceResetDelay s = .next t ∧ resets s t 512
        ∧ t.boot.stage = 1)
    ∧ (∃ t : State, exec .powerOnReset s = .next t ∧ t.clk.tb = 0 ∧ t.clk.uncertain = true ∧ t.tally.seq = 0
        ∧ t.pwr.trip = false ∧ t.mem.hbm = [] ∧ t.work.ops = [] ∧ t.host.fns = [] ∧ t.host.setupLock = false
        ∧ t.sec.lcFuse = s.sec.lcFuse ∧ t.boot.slots = s.boot.slots ∧ t.ras.flashFences = s.ras.flashFences))
  ∧ (∀ (s : State) (mode : Nat) (flit : Bool) (speed width : Nat), s.resettable = true → s.clk.asleep = false →
    s.clk.entryStep ≠ 6 →
    let named : Prop := mode ≤ 2 ∧ 1 ≤ speed ∧ speed ≤ 6 ∧ (width = 1 ∨ width = 2 ∨ width = 4 ∨ width = 8 ∨ width = 16)
      ∧ (speed = 6 → flit = true)
    (named → exec (.hostLinkTrained mode flit speed width) s
      = .next { s with host := { s.host with cxl := mode, flit := flit, speed := speed, width := width } })
    ∧ (¬ named → exec (.hostLinkTrained mode flit speed width) s = .next s))
  ∧ (∀ (s : State) (ok : Bool), s.boot.ready = false → s.boot.perst = false → s.boot.bootFail = false →
    (s.boot.stage = 1 → exec (.bootStepDone ok) s = .next (s.nextStage 2))
    ∧ (s.boot.stage = 2 → ∃ t : State, exec (.bootStepDone ok) s = .next t ∧ t.sec.lcFuse = lcFix s.sec.lcFuse
        ∧ t.boot.stage = 3 ∧ t.mem = s.mem)
    ∧ (s.boot.stage = 3 → s.sec.helper = some helperTag → ok = true → s.lcState ≠ 4 → ∃ t : State,
        exec (.bootStepDone ok) s = .next t ∧ t.sec.hasKey = true ∧ t.boot.stage = 4 ∧ t.mem = s.mem)
    ∧ (s.boot.stage = 3 → s.sec.helper = some helperTag → ok = false → s.lcState ≠ 4 → ∃ t : State,
        exec (.bootStepDone ok) s = .next t ∧ t.sec.pufFails = s.sec.pufFails + 1 ∧ t.sec.hasKey = s.sec.hasKey
          ∧ t.boot.stage = (if s.sec.pufFails + 1 < 3 then 3 else 4) ∧ (2 ≤ s.sec.pufFails → t.sec.keyless = 2))
    ∧ (s.boot.stage = 3 → s.lcState = 4 → ∃ t : State, exec (.bootStepDone ok) s = .next t ∧ t.sec.keyless = 3
        ∧ t.sec.hasKey = s.sec.hasKey ∧ t.boot.stage = 4)
    ∧ (s.boot.stage = 4 → s.bootSlot 0 s.boot.mwActive = none → ∃ t : State, exec (.bootStepDone ok) s = .next t
        ∧ t.boot.bootFail = true ∧ t.boot.stage = 4)
    ∧ (∀ slot i, s.boot.stage = 4 → s.bootSlot 0 s.boot.mwActive = some (slot, i) → ∃ t : State,
        exec (.bootStepDone ok) s = .next t ∧ t.boot.mwUp = true ∧ t.boot.mwSlot = slot ∧ t.boot.stage = 5
          ∧ t.boot.measures.at? 1 = some i.digest ∧ t.boot.fallback = (s.boot.fallback || slot ≠ s.boot.mwActive))
    ∧ (s.boot.stage = 5 →
        let g := bitsOf (leNat (s.boot.config.take 4)) 8 8
        ∃ t : State, exec (.bootStepDone ok) s = .next t ∧ t.boot.stage = (if s.lcState = 4 then 5 else 6) ∧ t.mem = s.mem
          ∧ (configOk s.boot.config = true → g < 128 → t.fab.devId = g * 256 + s.fab.member ∧ t.fab.group = some g)
          ∧ (configOk s.boot.config = true → 128 ≤ g → t.fab.join = .rejected ∧ t.fab.cause = 1)
          ∧ (configOk s.boot.config = false → t.fab.join = .rejected ∧ t.fab.cause = 4 ∧ t.fab.group = none))
    ∧ (s.boot.stage = 6 → s.boot.activating = [] → ∃ t : State, exec (.bootStepDone ok) s = .next t ∧ t.boot.stage = 7
        ∧ ∀ d, d < 4 → (∀ slot i, s.bootSlot 2 (getAt 0 s.boot.newtActive d) = some (slot, i) →
              t.boot.newtRuns.at? d = some i ∧ t.boot.measures.at? (2 + d) = some i.digest)
            ∧ (s.bootSlot 2 (getAt 0 s.boot.newtActive d) = none → t.fenced 10 d = true)
            ∧ (∀ slot i, s.bootSlot 4 (getAt 0 s.boot.xActive d) = some (slot, i) → ∀ k, k < 4 →
                t.boot.portRuns.at? (4 * d + k) = some i))
    ∧ (s.boot.stage = 7 → ∃ t : State, exec (.bootStepDone ok) s = .next t ∧ t.boot.stage = 8 ∧ t.mem = s.mem
        ∧ (∀ n, n < 512 → s.fenced 1 n = false → (t.island n).target = 46 ∧ (t.island n).cmdDiv = 8)
        ∧ (∀ n, n < 64 → s.fenced 8 n = false → (s.subLink n).mayTrain = true → (t.subLink n).state = .training)
        ∧ t.fab.join = (if s.fab.join = .off then .training else s.fab.join))
    ∧ (s.boot.stage = 8 → ∃ t : State, exec (.bootStepDone ok) s = .next t ∧ t.boot.ready = true ∧ t.boot.stage = 8
        ∧ t.mem = s.mem ∧ t.tally.signing = s.sec.hasKey ∧ t.tally.coef.builtin = true))
  ∧ (∀ (s : State) (cls unit : Nat), s.boot.stage = 6 → s.boot.ready = false → unit < unitLimit cls →
    s.fenced cls unit = false → exec (.selfTestDone cls unit false) s = .next (s.fence cls unit false)
      ∧ exec (.selfTestDone cls unit true) s = .next s)
  ∧ (∀ s : State, s.boot.mwUp = false →
    (s.boot.stage = 4 → s.boot.mwFails = 0 → (s.slotImage (1 - s.boot.mwActive)).isSome = true → exec .mwStartTimeout s
      = .next (s.setBoot (fun b => { b with mwActive := 1 - b.mwActive, fallback := true, mwFails := 1 })))
    ∧ (s.boot.stage = 4 → (s.boot.mwFails ≠ 0 ∨ s.slotImage (1 - s.boot.mwActive) = none) →
      exec .mwStartTimeout s = .next (s.setBoot (fun b => { b with bootFail := true })))
    ∧ (5 ≤ s.boot.stage → s.boot.mwFails = 0 → ∃ t : State, exec .mwStartTimeout s = .next t ∧ t.boot.fallback = true
      ∧ t.boot.mwActive = (if s.boot.mwCause = 2 then s.boot.mwPrev else 1 - s.boot.mwActive) ∧ t.mem = s.mem)
    ∧ (5 ≤ s.boot.stage → s.boot.mwFails ≠ 0 → s.ras.fatal = false → ∃ t : State, exec .mwStartTimeout s = .next t
      ∧ t.ras.fatal = true ∧ t.ras.fatalCode = 4 ∧ t.host.aerFatal = s.host.aerFatal ++ [4] ∧ t.mem = s.mem))

/-- R666 to R671: the power sequencer goes up and down step by step, and what a lost supply or good signal does.
The model's own choice here: log 79. -/
def Obligations.PowerSequenceTakesEffect : Prop :=
  let seq (t : State) : Nat × Nat × Nat := (t.pwr.upStep, t.pwr.downStep, t.pwr.reached)
  let goesOn (s : State) : Prop := s.pwr.pwrReq = true ∧ s.pwr.trip = false
  let isOff (t : State) : Prop := t.pwr.reached = 0 ∧ t.pwr.upStep = 0 ∧ t.pwr.downStep = 0 ∧ t.pwr.pwrOk = false
    ∧ t.pwr.xrailEn = false ∧ t.pwr.hbmEn = false ∧ t.clk.rootLocked = false ∧ t.mem.hbm = [] ∧ t.work.ops = []
  (∀ s : State, seq s = (0, 0, 0) → s.pwr.aon = true → s.pwr.vin12 = true → s.pwr.blocked = false → s.pwr.trip = false →
    s.clk.refPresent = true →
    exec .pwrReqHigh s = .next (s.setPwr (fun p => { p with pwrReq := true, upStep := 2, xrailEn := true })))
  ∧ (∀ s : State, s.pwr.upStep = 0 → s.pwr.downStep = 0 → s.clk.wakeStep = 0 →
    (s.clk.asleep = false → s.pwr.reached = 7 → ∃ t : State, exec .pwrReqLow s = .next t ∧ seq t = (0, 2, 7)
      ∧ t.pwr.pwrOk = false ∧ t.pwr.blocked = false ∧ t.clk.entryStep = 0 ∧ t.mem = s.mem ∧ t.host = s.host)
    ∧ (s.clk.asleep = true → ∃ t : State, exec .pwrReqLow s = .next t ∧ t.pwr.downStep = 7 ∧ t.pwr.pwrReq = false
      ∧ t.mem = s.mem))
  ∧ (∀ s : State, s.pwr.upStep = 3 → goesOn s → ∃ t : State, exec .xrailGoodRise s = .next t ∧ t.pwr.xrailGood = true
    ∧ t.pwr.upStep = 4 ∧ t.pwr.reached = 3 ∧ t.mem = s.mem)
  ∧ (∀ s : State, s.pwr.upStep = 5 → goesOn s → ∃ t : State, exec .hbmGoodRise s = .next t ∧ t.pwr.hbmGood = true
    ∧ t.pwr.upStep = 6 ∧ t.pwr.reached = 5 ∧ t.mem = s.mem)
  ∧ (∀ s : State, s.pwr.downStep = 0 → goesOn s →
    (s.pwr.upStep = 2 → ∃ t : State, exec .powerStepDone s = .next t ∧ seq t = (3, 0, 2) ∧ t.pwr.xrailEn = true)
    ∧ (s.pwr.upStep = 4 → ∃ t : State, exec .powerStepDone s = .next t ∧ seq t = (5, 0, 4) ∧ t.pwr.hbmEn = true)
    ∧ (s.pwr.upStep = 6 → s.clk.rootLocked = true → ∃ t : State, exec .powerStepDone s = .next t ∧ seq t = (7, 0, 6))
    ∧ (s.pwr.upStep = 7 → ∃ t : State, exec .powerStepDone s = .next t ∧ seq t = (0, 0, 7) ∧ t.pwr.pwrOk = true
      ∧ t.boot.perst = true ∧ t.boot.cause = (if s.pwr.poweredBefore then 2 else 1)))
  ∧ (∀ s : State, s.pwr.downStep = 0 → (s.pwr.pwrReq = false ∨ s.pwr.trip = true) → s.pwr.upStep = 4 →
    ∃ t : State, exec .powerStepDone s = .next t ∧ seq t = (0, 6, 4) ∧ t.pwr.pwrOk = s.pwr.pwrOk)
  ∧ (∀ s : State,
    (s.pwr.downStep = 2 → ∃ t : State, exec .powerStepDone s = .next t ∧ t.pwr.downStep = (if s.pwr.quick then 4 else 3)
      ∧ t.mem = s.mem)
    ∧ (s.pwr.downStep = 3 → exec .powerStepDone s = .next (s.setPwr (fun p => { p with downStep := 4 })))
    ∧ (s.pwr.downStep = 4 → exec .powerStepDone s
        = .next (s.setPwr (fun p => { p with downStep := 5, reached := 5, hbmEn := false })))
    ∧ (s.pwr.downStep = 5 → ∃ t : State, exec .powerStepDone s = .next t ∧ t.pwr.downStep = 6 ∧ t.pwr.reached = 4
      ∧ t.pwr.hbmEn = false ∧ t.mem = s.mem)
    ∧ (s.pwr.downStep = 6 → exec .powerStepDone s
        = .next (s.setPwr (fun p => { p with downStep := 7, reached := 3, xrailEn := false })))
    ∧ (s.pwr.downStep = 7 → s.pwr.pwrReq = false → ∃ t : State, exec .powerStepDone s = .next t ∧ isOff t
      ∧ t.clk.asleep = false ∧ t.clk.tb = s.clk.tb))
  ∧ (∀ s : State,
    (s.pwr.upStep = 3 → ∃ t : State, exec .powerStepTimeout s = .next t ∧ t.pwr.blocked = true ∧ t.pwr.downStep = 7
      ∧ t.pwr.upStep = 0 ∧ t.mem = s.mem)
    ∧ (s.pwr.upStep = 5 → ∃ t : State, exec .powerStepTimeout s = .next t ∧ t.pwr.blocked = true ∧ t.pwr.downStep = 5
      ∧ t.pwr.upStep = 0 ∧ t.mem = s.mem))
  ∧ (∀ (s : State) (hbm : Bool), s.pwr.downStep = 0 → s.pwr.reached = 7 → s.clk.asleep = false → ∃ t : State,
    exec (.goodSignalLost hbm) s = .next t ∧ t.pwr.blocked = true ∧ t.pwr.quick = true ∧ t.pwr.downStep = 2
      ∧ t.pwr.pwrOk = false ∧ (hbm = true → t.pwr.hbmGood = false) ∧ (hbm = false → t.pwr.xrailGood = false)
      ∧ (∀ n, t.divNow n = 16) ∧ t.mem = s.mem)
  ∧ (∀ s : State, ∃ t : State, exec .vin12Fault s = .next t ∧ isOff t ∧ t.pwr.vin12 = false ∧ t.clk.tb = s.clk.tb)
  ∧ (∀ s : State, ∃ t : State, exec .aonSupplyLost s = .next t ∧ isOff t ∧ t.pwr.aon = false ∧ t.clk.tb = 0
    ∧ t.tally.seq = 0 ∧ t.sec.lcFuse = s.sec.lcFuse)

/-- R540 to R559: meter readings are shared among accounts, windows close into records, coefficient tables come into force,
receipts are written, records are signed, and the backlog drains.
The model's own choices here: log 69, 71, 72, 75, 128. -/
def Obligations.TallyCommandsTakeEffect : Prop :=
  let rest (s t : State) : Prop := t.mem = s.mem ∧ t.work.ops = s.work.ops ∧ t.xlat = s.xlat ∧ t.eng = s.eng ∧ t.clk = s.clk
  let total (a : Acct) : Nat := a.tiles + a.memory + a.fabric + a.uncore + a.filler
  (∀ (s : State) (unit energy : Nat) (loft clocks bytes : List Nat) (fault : Bool), unit < 516 → ∃ t : State,
    exec (.meterRead unit energy loft clocks bytes fault) s = .next t ∧ rest s t ∧ t.host = s.host
      ∧ (s.tally.enable = false → t.tally = s.tally)
      ∧ (s.tally.enable = true → 512 ≤ unit → ((pairsOf clocks).map (·.2)).sum = 0 → bytes = [] →
          (fault = false → (t.tally.accts.at? unownedKey).map total = some (total (s.tally.accts.get (Acct.zero 0) unownedKey)
            + uncoreEnergy (s.coefFor unownedKey) energy))
          ∧ (fault = true → (t.tally.accts.at? unownedKey).map (fun a => bitOf a.flags 4) = some true) ∧ ∀ k, k ≠ unownedKey → t.tally.accts.at? k = s.tally.accts.at? k)
      ∧ (∀ k half, s.tally.enable = true → unit < 512 → fault = false → bytes = [] → loft = [0, 0] → half ≠ 0 →
          clocks = [0, 0, k, half] → s.mem.ponds = [] → s.spender k ≠ unownedKey →
          let old := s.tally.accts.get (Acct.zero 0) (s.spender k)
          (t.tally.accts.at? (s.spender k)).map (fun a => (total a, a.busy)) = some (total old + energy, old.busy + half)))
  ∧ (∀ s : State, s.tally.enable = true → ∃ t : State, exec (.tallyWindowClose 0) s = .next t ∧ rest s t
    ∧ t.tally.period = s.ns ∧ (∀ k, s.onBeats k = false → t.tally.accts.at? k = none))
  ∧ (∀ (s : State) (pond : Nat), s.tally.enable = true → pond ≠ 0 →
    (s.mem.ponds.at? pond).any (fun p => p.beats.isSome) = true → ∃ t : State,
    exec (.tallyWindowClose pond) s = .next t ∧ rest s t ∧ (t.tally.starts.at? pond).map (·.1) = some s.ns
      ∧ (∀ k, keyPond k = pond → keyInst k ≠ 1023 → keyTag k ≠ 0 → t.tally.accts.at? k = none))
  ∧ (∀ (s : State) (op : Nat) (o : Op), s.go? op 0xB0 = some o → s.stalls 0 (fld o.desc 0x20 0 43) 512 false = false →
    let at_ := fld o.desc 0x20 0 43
    let bs := s.readPub at_ 512
    let version := leNat ((bs.drop 4).take 4)
    let good : Prop := (s.plotOf at_).any (fun p => p.owner = 0) = true ∧ s.poisonIn at_ 512 = false ∧ coefOk bs = true
    ∃ t : State, exec (.tallyCoef op) s = .next t
      ∧ (¬good → t = s.decide op Status.badCoefTable 0)
      ∧ (good → version < s.tally.coef.version → t = s.decide op Status.coefRollback 0)
      ∧ (good → s.tally.coef.version ≤ version → t.tally.coef = parseCoef bs false
        ∧ (∀ k, s.tally.pondCoef.at? 512 = none → s.mem.ponds = [] → keyPond k = 0 → t.coefFor k = s.tally.coef)
        ∧ t.mem = s.mem ∧ (t.op? op).map (fun x => (x.phase, x.status)) = some (.ended, 0)))
  ∧ (∀ (s : State) (op : Nat) (o : Op), s.go? op 0xB1 = some o →
    (∀ e, o.sluice ≠ 0 → s.work.sluices.at? o.sluice = some e → ∃ t : State, exec (.tallyClose op) s = .next t
      ∧ (t.work.sluices.at? o.sluice).map (·.recorded)
          = some (e.recorded ++ [.receipt o.acct (fld o.desc 0x20 0 55) o.fn o.ctx o.pond])
      ∧ (t.op? op).map (fun x => (x.phase, x.status)) = some (.ended, 0) ∧ t.mem = s.mem ∧ t.tally = s.tally)
    ∧ (o.sluice = 0 → ∀ s2, (s.finalRec o.acct).1.writeVa ((s.finalRec o.acct).1.agent op o 0 0) false none
          (fld o.desc 0x20 0 55) ((s.finalRec o.acct).2.receipt s.fab.devId) = .ok s2 →
        exec (.tallyClose op) s
          = .next (((s2.charge o.acct (fun _ => Acct.zero s.ns)).emit (s.finalRec o.acct).2).succeed op)))
  ∧ (∀ (s : State) (g : Signing), (if s.tally.due.isSome then s.tally.due else s.tally.last) = some g →
    (s.sec.running = none →
      exec .recordSign s = .next (s.setSec (fun k => { k with running := some (.record g.slot g.hash g.gap) })))
    ∧ (s.sec.running ≠ none → s.sec.tallyQ = [] →
      exec .recordSign s = .next (s.setSec (fun k => { k with tallyQ := [.record g.slot g.hash g.gap] }))))
  ∧ (∀ s : State, s.boot.mwUp = true → s.mute = false → s.sec.hasKey = true → s.tally.hash ≠ [] → ∃ (t : State)
    (c : Checkpoint), exec .tallyCheckpoint s = .next t ∧ t.boot.checkpoint = some c ∧ c.hash = s.tally.hash
      ∧ c.seq = (s.tally.seq + 2 ^ 64 - 1) % 2 ^ 64 ∧ c.time = s.ns ∧ c.state = s.lcState
      ∧ c.mac = hmac384 (ckptKeyOf s.lcState) (checkpointBytes c.seq c.hash s.ns s.lcState) ∧ rest s t ∧ t.tally = s.tally)
  ∧ (∀ (s : State) (head : Nat), ∃ t : State, exec (.tallyBacklogDrain head) s = .next t ∧ rest s t
    ∧ t.tally.head = head % 2 ^ s.tally.log2
    ∧ (s.tally.backlog = [] → s.tally.formed = [] → t.tally.tail = s.tally.tail ∧ t.tally.seq = s.tally.seq)
    ∧ (∀ r, s.tally.backlog = [r] → s.tally.formed = [] → s.mute = false → s.tally.enable = true →
        (s.tally.tail + 1) % 2 ^ s.tally.log2 ≠ head % 2 ^ s.tally.log2 → s.tally.last.any (·.gap) = false →
        t.tally.backlog = [] ∧ t.tally.tail = (s.tally.tail + 1) % 2 ^ s.tally.log2
          ∧ t.tally.seq = (s.tally.seq + 1) % 2 ^ 64 ∧ t.host.writes.length = s.host.writes.length + 2))
  ∧ (∀ (s : State) (value : Nat),
    let p := bitsOf value 1 10
    ∃ t : State, exec (.tallyEnableWrite value) s = .next t ∧ rest s t ∧ t.tally.enable = bitOf value 0
      ∧ t.tally.periodMs = (if 1 ≤ p ∧ p ≤ 1000 then p else s.tally.periodMs)
      ∧ (bitOf value 0 = false → s.tally.enable = true → t.tally.accts = [] ∧ t.tally.gap = some (4, s.ns)
          ∧ t.host = s.host)
      ∧ (bitOf value 0 = true → s.tally.enable = false → t.tally.gap = none ∧ t.tally.period = s.ns ∧ t.tally.accts = []))

/-- R552, R577 to R583: calls of the signing engine queue, run and return in their order, and the hash engine serves its slots
segment by segment. The model's own choice here: log 84. -/
def Obligations.EnginesOfTheSecurityBlockTakeEffect : Prop :=
  (∀ (s : State) (c : EngCall) (i : Instr),
    ((∃ reg, i = .pubkey reg ∧ c = .pubkey reg) ∨ (∃ reg e, i = .sign reg e ∧ c = .sign reg e)
      ∨ (∃ x y e r t, i = .verify x y e r t ∧ c = .verify x y e r t) ∨ (∃ reg x y, i = .ecdh reg x y ∧ c = .ecdh reg x y)) →
    (s.sec.running = none → exec i s = .next (s.setSec (fun k => { k with running := some c })))
    ∧ (s.sec.running ≠ none → exec i s = .next (s.setSec (fun k => { k with otherQ := k.otherQ ++ [c] }))))
  ∧ (∀ (s : State) (head : Nat) (c : EngCall), s.sec.running = some c → (∀ a b g, c ≠ .record a b g) →
    ∃ t : State, exec (.signingCallDone head) s = .next t ∧ t.sec.engCode = (s.engine c).1 ∧ t.sec.engOut = (s.engine c).2
      ∧ t.mem = s.mem ∧ t.tally = s.tally
      ∧ (s.sec.tallyQ = [] → t.sec.running = s.sec.otherQ.head? ∧ t.sec.otherQ = s.sec.otherQ.tail)
      ∧ (∀ g, s.sec.tallyQ ≠ [] → s.tally.due = some g →
          t.sec.running = some (.record g.slot g.hash g.gap) ∧ t.sec.tallyQ = [] ∧ t.sec.otherQ = s.sec.otherQ))
  ∧ (∀ (s : State) (head slot : Nat) (hash : List Byte) (gap : Bool) (d : Nat), s.sec.running = some (.record slot hash gap) →
    s.keyReg 1 = some d → s.mute = false → s.tally.backlog = [] → s.tally.formed = [] →
    (slot + 2 ^ s.tally.log2 - head % 2 ^ s.tally.log2) % 2 ^ s.tally.log2
      < (s.tally.tail + 2 ^ s.tally.log2 - head % 2 ^ s.tally.log2) % 2 ^ s.tally.log2 →
    ∃ t : State, exec (.signingCallDone head) s = .next t ∧ t.host.writes = s.host.writes
        ++ [{ fn := 0, addr := s.tally.base + 256 * slot + 0xA0, bytes := sigBytes (ecdsaSign d (beNat hash)) }]
      ∧ (t.tally.last.any (fun y => y.hash = hash)) = false ∧ (t.tally.due.any (fun y => y.hash = hash)) = false
      ∧ getAt 0 t.tally.counts 1 = getAt 0 (setAt s.tally.counts 1 (getAt 0 s.tally.counts 1 + 1)) 1 ∧ t.mem = s.mem)
  ∧ (∀ (s : State) (caller : Nat) (x : HashSlot), s.sec.slots.at? s.sec.serving = some x →
    ∃ t : State, exec (.hashSegmentDone caller [] false) s = .next t ∧ t.mem = s.mem ∧ t.host = s.host ∧ t.tally = s.tally
      ∧ (x.last = true → x.waiting.length ≤ 4096 → t.sec.digest = sha384 (x.served ++ x.waiting))
      ∧ (4096 < x.waiting.length → t.sec.digest = s.sec.digest ∧ t.sec.slots.at? s.sec.serving
          = some { x with served := x.served ++ x.waiting.take 4096, waiting := x.waiting.drop 4096 })
      ∧ ((t.sec.slots.at? 0).any (fun y => !y.waiting.isEmpty || y.last) = true → t.sec.serving = 0))
  ∧ (∀ (s : State) (caller i : Nat) (x : HashSlot), s.slotOfCaller caller = some i → s.sec.slots.at? i = some x → caller ≠ 0 →
    s.sec.serving ≠ i → s.sec.slotWaits = [] → ∃ t : State, exec (.hashSuspend caller) s = .next t
      ∧ t.sec.slots.at? i = none ∧ t.sec.suspended.at? caller = some x
      ∧ (∀ j, j ≠ i → t.sec.slots.at? j = s.sec.slots.at? j) ∧ t.mem = s.mem)
  ∧ (∀ (s : State) (caller i : Nat) (x : HashSlot), s.sec.suspended.at? caller = some x →
    (slotsFor x.caller).find? (fun i => (s.sec.slots.at? i).isNone) = some i → ∃ t : State,
    exec (.hashResume caller) s = .next t ∧ t.sec.slots.at? i = some x ∧ t.sec.suspended.at? caller = none
      ∧ (∀ j, j ≠ i → t.sec.slots.at? j = s.sec.slots.at? j) ∧ t.mem = s.mem)

/-- R567 to R574, R586 to R589: life-cycle requests and SPDM requests are answered over the transports that may ask.
The model's own choices here: log 82, 83, 84. -/
def Obligations.LifeCycleAndSpdmTakeEffect : Prop :=
  let answers (s t : State) (r : Reply) : Prop := t.boot.replies = s.boot.replies ++ [r] ∧ t.mem = s.mem ∧ t.work.ops = s.work.ops
    ∧ t.host = s.host
  let code (s t : State) (c : Resp) : Prop := answers s t { message := 0x11, code := c, data := [] }
  ∀ (s : State) (tr : Nat), s.boot.mwUp = true → s.pwr.pwrOk = true → s.clk.asleep = false → tr < 3 →
    (∃ (t : State) (n : LcNonce), exec (.lcNonce tr) s = .next t ∧ t.sec.nonce = some n ∧ n.confirmTo = none
      ∧ n.bytes.length = 32 ∧ answers s t { message := 0x10, code := .ok, data := n.bytes })
    ∧ (∀ (dest : Nat) (nonce : List Byte) (x y r q : Nat) (ok : Bool),
      (s.sec.lcTarget.isSome = true ∨ lcAllowed s.lcState dest = false → ∃ t : State,
        exec (.lcRequest tr dest nonce x y r q ok) s = .next t ∧ code s t .lcNotAllowed ∧ t.sec.nonce = none
          ∧ t.sec.lcFuse = s.sec.lcFuse)
      ∧ (s.sec.lcTarget = none → lcAllowed s.lcState dest = true → s.mem.ponds ≠ [] → ∃ t : State,
        exec (.lcRequest tr dest nonce x y r q ok) s = .next t ∧ code s t .lcBusy ∧ t.sec.lcFuse = s.sec.lcFuse)
      ∧ (∀ n, s.sec.lcTarget = none → lcAllowed s.lcState dest = true → s.mem.ponds = [] → s.sec.nonce = some n →
        n.bytes = nonce → n.confirmTo = none → (r ≠ 0 ∨ dest ≠ 4) →
        let good := sha384 (pointBytes (x, y)) = Config.lcKeyDigest
          ∧ ecdsaVerify x y (beNat (sha384 (lcMessage nonce s.lcState dest))) r q = Eng.ok
        ∃ t : State, exec (.lcRequest tr dest nonce x y r q ok) s = .next t ∧ t.sec.nonce = none
          ∧ (good → t.sec.lcTarget = some dest ∧ t.sec.hasKey = false ∧ t.sec.sessions = [] ∧ t.mem = s.mem
            ∧ (t.boot.replies.getLast?).map (·.code) = some (if ok then .lcOk else .lcFuseFail))
          ∧ (¬ good → code s t .lcBadToken ∧ t.sec.lcFuse = s.sec.lcFuse)))
    ∧ ((s.sec.nonce.bind (·.confirmTo)).any (fun e => e ≤ s.ns) = true →
      exec .lcNonceExpiry s = .next (s.setSec (fun k => { k with nonce := none })))
    ∧ (s.sec.lcTarget.isSome = true → s.boot.perst = false → s.ras.fatal = false → ∃ t : State,
      exec .lcTransitionReset s = .next t ∧ t.boot.cause = 256 ∧ t.boot.stage = 1 ∧ t.sec.lcTarget = none
        ∧ t.sec.lcChanged = true ∧ t.work.ops = [])
    ∧ (s.lcState = 1 → s.sec.hasKey = true → ∃ (t : State) (r : Reply), exec (.lcPubkeys tr) s = .next t ∧ answers s t r
      ∧ r.message = 0x12 ∧ r.code = .ok ∧ r.data.take 192 = (pointBytes (pubOf (dakOf 2)) ++ pointBytes (pubOf (ledgerOf 2))).take 192)
    ∧ (∃ t : State, exec (.getVersion tr) s = .next t ∧ answers s t { message := 0x84, code := .spdm, data := [0x12, 0x13] }
      ∧ t.sec.spdmVersion = 0)
    ∧ (∀ v, (v = 0x12 ∨ v = 0x13) → ∃ t : State, exec (.getCapabilities tr v) s = .next t
      ∧ answers s t { message := 0xE1, code := .spdm, data := [] } ∧ t.sec.spdmVersion = v)
    ∧ (∃ t : State, exec (.negotiateAlgorithms tr true) s = .next t
      ∧ answers s t { message := 0xE3, code := .spdm, data := [] } ∧ t.sec.spdmAlgos = true)
    ∧ (s.slotFilled = true → exec (.getDigests tr) s = .next (s.reply 0x81 .spdm (sha384 s.boot.cert))
      ∧ ∀ off len, exec (.getCertificate tr off len) s = .next (s.reply 0x82 .spdm ((s.boot.cert.drop off).take len)))
    ∧ (∀ transcript, s.sec.hasKey = true → exec (.challenge tr transcript) s = .next (s.reply 0x83 .spdm
      (sigBytes (ecdsaSign (dakOf s.lcState) (beNat (sha384 transcript))))))
    ∧ (∀ transcript, s.sec.hasKey = false → exec (.challenge tr transcript) s
      = .next (s.reply 0x83 .spdmError [BitVec.ofNat 8 s.sec.keyless]))
    ∧ (∀ index transcript, index ≠ 0xFF →
      exec (.getMeasurements tr index false transcript) s = .next (s.reply 0xE0 .spdm (s.measurement index)))
    ∧ (∀ id x y transcript, s.sec.hasKey = true → pointOk x y = true → ∃ (t : State) (d : Nat) (r : Reply) (c : Session),
      exec (.keyExchange tr id x y transcript) s = .next t ∧ answers s t r ∧ r.message = 0xE4 ∧ r.code = .spdm
        ∧ 1 ≤ d ∧ d < ecN ∧ t.sec.scalars.at? (2 + id) = some d ∧ t.sec.sessions.at? id = some c ∧ c.established = false
        ∧ c.secret = ((ecMul 384 d (some (x, y))).getD (0, 0)).1)
    ∧ (∀ id c, s.sec.sessions.at? id = some c →
      (∃ t : State, exec (.finish tr id true) s = .next t ∧ answers s t { message := 0xE5, code := .spdm, data := [] }
        ∧ t.sec.sessions.at? id = some { c with established := true })
      ∧ (c.established = true →
        exec (.heartbeat tr id) s = .next (s.reply 0xE8 .spdm [])
        ∧ (∃ t : State, exec (.keyUpdate tr id) s = .next t ∧ answers s t { message := 0xE9, code := .spdm, data := [] }
          ∧ t.sec.sessions.at? id = some { c with updates := c.updates + 1 })
        ∧ (∃ t : State, exec (.endSession tr id) s = .next t ∧ answers s t { message := 0xEC, code := .spdm, data := [] }
          ∧ t.sec.sessions.at? id = none ∧ t.sec.scalars.at? (2 + id) = none)))

/-- R621, R624 to R633: management messages, with the privilege they need, firmware updates and the Millwright's resets.
The model's own choices here: log 81, 82, 92, 93, 95, 96. -/
def Obligations.ManagementTakesEffect : Prop :=
  let answers (s t : State) (msg : Nat) (code : Resp) (data : List Byte) : Prop :=
    t.boot.replies = s.boot.replies ++ [{ message := msg, code := code, data := data }] ∧ t.mem = s.mem ∧ t.work = s.work
  (∀ (s : State) (tr : Nat), s.boot.mwUp = true → s.pwr.pwrOk = true → s.clk.asleep = false → tr < 3 →
    (tr ≠ 0 → s.boot.bmcPriv = false →
      (∀ addr value, exec (.regWrite tr addr value) s = .next (s.reply 4 .notPrivileged []))
      ∧ exec (.setupUnlock tr) s = .next (s.reply 5 .notPrivileged [])
      ∧ exec (.deviceReset tr) s = .next (s.reply 6 .notPrivileged [])
      ∧ (∀ n, exec (.svnCommit tr n) s = .next (s.reply 7 .notPrivileged []))
      ∧ (∀ data, exec (.configWrite tr data) s = .next (s.reply 8 .notPrivileged [])))
    ∧ (tr = 0 ∨ s.boot.bmcPriv = true →
      (∀ addr value, addr % 4 = 0 → 0x2000 ≤ addr → addr < 0x3000 →
        exec (.regWrite tr addr value) s = .next ((s.writePower (addr - 0x2000) value).reply 4 .ok []))
      ∧ (∃ t : State, exec (.setupUnlock tr) s = .next t ∧ t.host.setupLock = false ∧ answers s t 5 .ok [])
      ∧ exec (.deviceReset tr) s = .next ((s.setBoot (fun b => { b with resetDue := true })).reply 6 .ok [])
      ∧ (∀ n, s.sec.svn < n → n ≤ 64 → (∀ i, i ∈ s.runningImages → n ≤ i.svn) → ∃ t : State,
          exec (.svnCommit tr n) s = .next t ∧ t.sec.svn = n ∧ answers s t 7 .ok
            ((s.boot.slots.filter (fun p => p.2.svn < n)).map (fun p => BitVec.ofNat 8 p.1)))
      ∧ (∀ n, (n ≤ s.sec.svn ∨ ∃ i, i ∈ s.runningImages ∧ i.svn < n) →
          exec (.svnCommit tr n) s = .next (s.reply 7 .badRequest []))
      ∧ (∀ data, data.length = 64 →
          exec (.configWrite tr data) s = .next ((s.setBoot (fun b => { b with config := data })).reply 8 .ok [])))
    ∧ exec (.bootLog tr) s = .next (s.reply 1 .ok (leBytes 4 s.resetCause ++ (s.boot.times.map (leBytes 8)).flatten))
    ∧ exec (.fenceList tr) s = .next (s.reply 2 .ok ((s.ras.flashFences.map (leBytes 4)).flatten))
    ∧ (∀ addr, addr % 4 = 0 → ((0x2000 ≤ addr ∧ addr < 0x5000) ∨ (0x8000 ≤ addr ∧ addr < 0x9000)) → ∃ t : State,
        exec (.regRead tr addr) s = .next t ∧ answers s t 3 .ok (leBytes 4 (s.gset addr))
          ∧ t.clk = (if addr = 0x4010 then { s.clk with latch := BitVec.ofNat 32 (s.ns >>> 32) } else s.clk))
    ∧ (∀ eid, exec (.mctpSetEid tr eid) s
        = .next ((s.setBoot (fun b => { b with eids := b.eids.set tr (eid % 256) })).reply Msg.setEid .ok []))
    ∧ (∀ n v, s.sensor n = some v → exec (.pldmSensorRead tr n) s = .next (s.reply Msg.sensor .ok (leBytes 4 v)))
    ∧ (∀ comps data slot i, s.boot.bootFail = false → (kindOf comps).bind s.freeSlot = some slot → parseImage data = some i →
        ∃ t : State, exec (.pldmFwTransfer tr comps data) s = .next t ∧ t.boot.slots.at? slot = some i
          ∧ (∀ k, k ≠ slot → t.boot.slots.at? k = s.boot.slots.at? k)
          ∧ answers s t Msg.transfer (if s.accepts (slotKind slot) i then .ok else .badRequest) [])
    ∧ (∀ i, s.slotImage (1 - s.boot.mwSlot) = some i → ∃ t : State, exec (.activateFirmware tr [1]) s = .next t
        ∧ t.boot.mwUp = false ∧ t.boot.mwCause = 2 ∧ t.boot.mwActive = 1 - s.boot.mwSlot ∧ t.boot.mwPrev = s.boot.mwSlot
        ∧ t.sec.sessions = [] ∧ answers s t Msg.activate .ok [])
    ∧ (∀ c i, 2 ≤ c → c ≤ 5 → s.boot.activating = [] → s.slotImage (s.nextSlot? c) = some i →
        ∃ t : State, exec (.activateFirmware tr [c]) s = .next t ∧ answers s t Msg.activate .ok []
          ∧ (s.fenced 10 (c - 2) = true → t.boot.newtRuns.at? (c - 2) = some i ∧ t.boot.activating = [])
          ∧ (s.fenced 10 (c - 2) = false → t.boot.newtRuns = s.boot.newtRuns ∧ t.boot.activating = [(c, s.nextSlot? c)])))
  ∧ (∀ (s : State) (tr : Nat) (data : List Byte), s.boot.bootFail = true → tr < 3 → s.resettable = true →
    s.ras.fatal = false → ∃ t : State, exec (.pldmFwTransfer tr [1] data) s = .next t
      ∧ t.boot.slots.at? s.boot.mwActive = parseImage data
      ∧ ((parseImage data).any (s.accepts 1) = true → s.boot.mwActive < 2 → t.boot.cause = 0x8000 ∧ t.boot.stage = 1)
      ∧ ((parseImage data).any (s.accepts 1) = false → s.boot.mwActive < 2 → answers s t Msg.transfer .badRequest []))
  ∧ (∀ s : State, s.boot.mwUp = true → s.resettable = true → s.clk.asleep = false →
    (s.sec.lcTarget = none → ∃ t : State, exec .millwrightWatchdog s = .next t ∧ t.boot.mwUp = false ∧ t.boot.mwCause = 1
      ∧ t.sec.sessions = [] ∧ t.sec.scalars = [] ∧ t.mem = s.mem ∧ t.work = s.work
      ∧ ((s.boot.expiries.filter (fun e => s.ns ≤ e + tenMinutes)).length < 2 → t.boot.mwActive = s.boot.mwSlot)
      ∧ (2 ≤ (s.boot.expiries.filter (fun e => s.ns ≤ e + tenMinutes)).length →
          (s.slotImage (1 - s.boot.mwSlot)).isSome = true → t.boot.mwActive = 1 - s.boot.mwSlot ∧ t.boot.fallback = true))
    ∧ (s.sec.lcTarget.isSome = true → s.ras.fatal = false → ∃ t : State, exec .millwrightWatchdog s = .next t
      ∧ t.boot.cause = 256 ∧ t.boot.stage = 1))
  ∧ (∀ (s : State) (i : Image), s.boot.mwUp = false → 5 ≤ s.boot.stage → s.resettable = true →
    s.slotImage s.boot.mwActive = some i → ∃ t : State, exec .mwRestartDone s = .next t ∧ t.boot.mwUp = true
      ∧ t.boot.mwSlot = s.boot.mwActive ∧ t.boot.measures.at? 1 = some i.digest ∧ t.mem = s.mem ∧ t.work = s.work)

/-- R9, R202, R203, R266, R348, R351 to R354: a register write changes what its register holds and no memory; the set-up lock,
once set, stays and holds the fields under it. The model's own choices here: log 20, 89, 100. -/
def Obligations.RegisterWritesTakeEffect : Prop :=
  (∀ (s : State) (value : Nat), s.regsUp 0 = true → ∃ t : State, exec (.setupLockWrite value) s = .next t
    ∧ t = { s with host := { s.host with setupLock := s.host.setupLock || bitOf value 0 } })
  ∧ (∀ (s : State) (value : Nat), s.regsUp 0 = true →
    let f := s.host.instSel + 1
    let others := ((s.host.fns.filter (fun p => p.1 ≠ 0 && p.1 ≠ f)).map (fun p => p.2.ctxMax)).sum
    (s.host.setupLock = false → others + bitsOf value 1 15 ≤ 16128 → bitsOf value 16 7 ≤ 64 → (s.fn f).holdsRing = false →
      ∃ t : State, exec (.instCfgWrite value) s = .next t ∧ (t.fn f).enable = bitOf value 0
        ∧ (t.fn f).ctxMax = bitsOf value 1 15 ∧ (t.fn f).sqMax = bitsOf value 16 7
        ∧ ((s.fn f).state = .disabled → bitOf value 0 = true → (t.fn f).state = .active)
        ∧ ((s.fn f).state ≠ .resetting → bitOf value 0 = false → (t.fn f).state = .disabled)
        ∧ (∀ g, g ≠ f → t.fn g = s.fn g) ∧ t.mem = s.mem ∧ t.work = s.work)
    ∧ (16128 < others + (if s.host.setupLock then (s.fn f).ctxMax else bitsOf value 1 15) →
      exec (.instCfgWrite value) s = .next s))
  ∧ (∀ (s : State) (d value : Nat), s.regsUp 0 = true → s.host.setupLock = false → d < 4 → ∃ t : State,
    exec (.stageWaysWrite d value) s = .next t ∧ t.mem.remoteMask.at? d = some (bitsOf value 16 16)
      ∧ t.mem.stageWays = s.mem.stageWays ∧ (bitsOf value 0 4 ≤ 8 → t.mem.stageWritten.at? d = some (bitsOf value 0 4))
      ∧ (8 < bitsOf value 0 4 → t.mem.stageWritten = s.mem.stageWritten)
      ∧ (∀ k, k ≠ d → t.mem.remoteMask.at? k = s.mem.remoteMask.at? k
          ∧ t.mem.stageWritten.at? k = s.mem.stageWritten.at? k) ∧ t.mem.hbm = s.mem.hbm ∧ t.host = s.host)
  ∧ (∀ (s : State) (d value : Nat), s.regsUp 0 = true → s.host.setupLock = false → d < 4 →
    let others := (([0, 1, 2, 3].filter (· ≠ d)).map (fun k => (s.mem.spillWritten.get (0, 0) k).2)).sum
    (bitsOf value 0 11 + bitsOf value 16 5 ≤ 1536 → others + bitsOf value 16 5 ≤ 16 → ∃ t : State,
      exec (.spillRegionWrite d value) s = .next t
        ∧ t.mem.spillWritten.at? d = some (bitsOf value 0 11, bitsOf value 16 5) ∧ t.mem.spill = s.mem.spill
        ∧ (∀ k, k ≠ d → t.mem.spillWritten.at? k = s.mem.spillWritten.at? k) ∧ t.mem.hbm = s.mem.hbm ∧ t.host = s.host)
    ∧ (1536 < bitsOf value 0 11 + bitsOf value 16 5 ∨ 16 < others + bitsOf value 16 5 →
      exec (.spillRegionWrite d value) s = .next s))
  ∧ (∀ (s : State) (fn off record : Nat) (data : List Byte), s.regsUp fn = true →
    off < (if fn = 0 then 0x40000 else 0x20000) →
    (data.length = 4 → off % 4 = 0 → ∃ t : State, exec (.registerWrite fn off data record) s = .next t
      ∧ t = s.writeBar0 fn off (leNat data) record)
    ∧ (data.length = 8 → off % 8 = 0 → exec (.registerWrite fn off data record) s
      = .next ((s.writeBar0 fn off (leNat (data.take 4)) record).writeBar0 fn (off + 4) (leNat (data.drop 4)) record))
    ∧ ((data.length = 4 ∧ off % 4 ≠ 0) ∨ (data.length = 8 ∧ off % 8 ≠ 0) ∨ (data.length ≠ 4 ∧ data.length ≠ 8) →
      exec (.registerWrite fn off data record) s = .next s)
    ∧ (∀ t, exec (.registerWrite fn off data record) s = .next t → s.host.setupLock = true → t.host.setupLock = true))
  ∧ (∀ (s : State) (f i record : Nat) (data : List Byte), s.regsUp f = true → i < 16 → data.length = 4 → ∃ t : State,
    exec (.registerWrite f ((if f = 0 then 0x10000 else 0) + 0x40 + 4 * i) data record) s = .next t
      ∧ (t.fn f).args.at? i = some (leNat data % 2 ^ 32) ∧ (∀ j, j ≠ i → (t.fn f).args.at? j = (s.fn f).args.at? j)
      ∧ (∀ g, g ≠ f → t.fn g = s.fn g) ∧ sameButFunctions s t)
  ∧ (∀ (s : State) (record : Nat) (data : List Byte), s.regsUp 0 = true → data.length = 4 → s.host.setupLock = true →
    (∀ d, d < 4 → exec (.registerWrite 0 (0x110 + 4 * d) data record) s = .next s)
    ∧ exec (.registerWrite 0 4 data record) s = .next s
    ∧ exec (.registerWrite 0 0xC data record) s = .next s)

/-- R338: a forward jump of the timebase, by a time reply or by a write of GSET_TIME_SET_HI, adds the jump to t0 of every pond with
beats at the same instant, and is never counted as lag: the time since a beat's due start stays as it was. -/
def Obligations.JumpsMoveEveryPondsBeats : Prop :=
  ∀ (s t : State), s.clk.tb < 2 ^ 95 →
    ((∃ hi, s.ns ≤ s.clk.setLo.toNat + hi % 2 ^ 32 * 2 ^ 32 ∧ (s.fab.timeRoot = true ∨ s.fab.join ≠ .joined)
        ∧ exec (.timeSet hi) s = .next t)
      ∨ (∃ t2 t3 : Nat, s.parentSub < 64 ∧ t2 < 2 ^ 62 ∧ t3 < 2 ^ 62
        ∧ 1000 < (((t2 : Int) - s.fab.t1) - ((s.ns : Int) - t3)) / 2 ∧ exec (.timeReply t2 t3) s = .next t)) →
    s.ns ≤ t.ns ∧ ∀ h p b, s.mem.ponds.at? h = some p → p.beats = some b →
      ∃ q c, t.mem.ponds.at? h = some q ∧ q.beats = some c ∧ c.t0 = b.t0 + (t.ns - s.ns)
        ∧ (t.ns : Int) - c.grid = (s.ns : Int) - b.grid ∧ c.lag = b.lag ∧ c.number = b.number

/-- R633: SVN_COMMIT with target t succeeds only when t exceeds the fused SVN and is no greater than the svn of every image that
runs; it then blows the fuse bits up to t and reports every slot whose image now has svn below t and can no longer boot. A request
that breaks either condition is answered BAD_REQUEST and blows nothing. -/
def Obligations.SvnCommitBlowsFusesOrRefuses : Prop :=
  ∀ (s : State) (n : Nat), s.boot.mwUp = true → s.pwr.pwrOk = true → s.clk.asleep = false → n ≤ 64 →
    ∃ (t : State) (r : Reply), exec (.svnCommit 0 n) s = .next t ∧ t.boot.replies = s.boot.replies ++ [r] ∧ r.message = 7
      ∧ (s.sec.svn < n ∧ (∀ i, i ∈ s.runningImages → n ≤ i.svn) →
          r.code = .ok ∧ t.sec.svn = n
            ∧ r.data = (s.boot.slots.filter (fun p => p.2.svn < n)).map (fun p => BitVec.ofNat 8 p.1)
            ∧ ∀ k i, s.boot.slots.at? k = some i → i.svn < n → t.slotImage k = none)
      ∧ (¬ (s.sec.svn < n ∧ ∀ i, i ∈ s.runningImages → n ≤ i.svn) →
          r.code = .badRequest ∧ r.data = [] ∧ t.sec = s.sec)

/-- No command of the table stops the block: from every state a step answers a next state, whatever command is at the front of
the queue, and the queue afterwards is the rest of the queue before.
The model's own choices here: log 1, 3, 107. -/
def Obligations.EveryStepAnswersANextState : Prop :=
  ∀ s : State, ∃ t : State, step s = .next t ∧ t.pending = s.pending.tail

/-- The byte memories of the device keep their canonical form: from every state in which addresses rise strictly and no zero byte
is listed, every step leads to such a state. The model's own choice here: log 16. -/
def Obligations.EveryStepKeepsTheMemoriesCanonical : Prop :=
  ∀ s t : State, s.memWf = true → step s = .next t → t.memWf = true

/-- What reset leaves: R350 to R353, R462, R481, R516, R536, R559, R608 and R648 as registers read them, no ring, context, pond or
operation, every memory in canonical form and reading zero, an empty queue, and TIME_UNCERTAIN set (R597, R600).
The model's own choices here: log 11, 16. -/
def Obligations.ResetLeavesTheSpecifiedValues : Prop :=
  let s := State.reset
  s.memWf = true ∧ s.pending = [] ∧ (∀ k, s.mem.hbm.get k = 0 ∧ s.mem.sram.get k = 0 ∧ s.mem.prog.get k = 0)
    ∧ s.host.fns = [] ∧ s.host.ctxs = [] ∧ s.mem.ponds = [] ∧ s.work.ops = [] ∧ s.work.sluices = [] ∧ s.eng.groups = []
    ∧ s.fab.meres = [] ∧ s.xlat.windows = [] ∧ s.ns = 0 ∧ s.clk.uncertain = true
    ∧ s.gset 0x0000 = 0x00117680 ∧ s.gset 0x0004 = 0 ∧ s.gset 0x0008 = 0 ∧ s.gset 0x0010 = 0 ∧ s.gset 0x0014 = 0
    ∧ s.gset 0x2200 = 0x151812C0 ∧ s.gset 0x2204 = 0x64 ∧ s.gset 0x2300 = 0x00056E5F ∧ s.gset 0x2308 = 0x1E
    ∧ s.gset 0x2100 = 0x00011414 ∧ s.gset 0x2104 = 0xE0080258 ∧ s.gset 0x3000 = 0x001F4014 ∧ s.gset 0x3004 = 8
    ∧ s.gset 0x4040 = 0x001E0001 ∧ s.gset 0x8000 = 0 ∧ s.iset 0 0x0000 = 2 ^ 31 ∧ s.iset 1 0x0200 = 0
    ∧ s.gset 0x8104 = 0x0A40 ∧ s.gset 0x810C = 0x01C8 ∧ s.gset 0x6200 = 3
end

