-- ==== Sys2Proof/Laws/Memory.lean ====
section
/-! SUPPORT. Laws of the two containers: what a table and a byte memory read after each operation, and that every
operation over a memory keeps its canonical form. -/

namespace Sys2Proof

section Tables

variable {α : Type}

@[simp] theorem Tab.at?_nil (k : Nat) : Tab.at? ([] : Tab α) k = none := rfl

theorem Tab.at?_cons (a : Nat) (v : α) (t : Tab α) (k : Nat) :
    Tab.at? ((a, v) :: t) k = if a = k then some v else Tab.at? t k := rfl

@[simp] theorem Tab.at?_set_self (t : Tab α) (k : Nat) (v : α) : (t.set k v).at? k = some v := by
  induction t with
  | nil => simp [Tab.set, Tab.at?]
  | cons p t ih =>
    obtain ⟨a, w⟩ := p
    simp only [Tab.set]
    split
    · simp [Tab.at?]
    · split
      · simp [Tab.at?]
      · have : a ≠ k := fun h => by omega
        simp [Tab.at?, this, ih]

@[simp] theorem Tab.at?_set_ne (t : Tab α) {k j : Nat} (v : α) (h : j ≠ k) : (t.set k v).at? j = t.at? j := by
  induction t with
  | nil => simp [Tab.set, Tab.at?, Ne.symm h]
  | cons p t ih =>
    obtain ⟨a, w⟩ := p
    simp only [Tab.set]
    split
    · simp [Tab.at?, Ne.symm h]
    · split
      · next hk => subst hk; simp [Tab.at?, Ne.symm h]
      · simp [Tab.at?, ih]

@[simp] theorem Tab.at?_erase_self (t : Tab α) (k : Nat) : (t.erase k).at? k = none := by
  induction t with
  | nil => rfl
  | cons p t ih =>
    obtain ⟨a, w⟩ := p
    by_cases h : a = k
    · simpa [Tab.erase, h] using ih
    · simpa [Tab.erase, h, Tab.at?] using ih

@[simp] theorem Tab.at?_erase_ne (t : Tab α) {k j : Nat} (h : j ≠ k) : (t.erase k).at? j = t.at? j := by
  induction t with
  | nil => rfl
  | cons p t ih =>
    obtain ⟨a, w⟩ := p
    by_cases hk : a = k
    · have : a ≠ j := fun e => h (e ▸ hk)
      simpa [Tab.erase, hk, Tab.at?, hk ▸ this] using ih
    · have e : Tab.erase ((a, w) :: t) k = (a, w) :: Tab.erase t k := by simp [Tab.erase, hk]
      rw [e, Tab.at?_cons, Tab.at?_cons, ih]

@[simp] theorem Tab.at?_modify_self (t : Tab α) (k : Nat) (f : α → α) : (t.modify k f).at? k = (t.at? k).map f := by
  induction t with
  | nil => rfl
  | cons p t ih =>
    obtain ⟨a, w⟩ := p
    simp only [Tab.modify, List.map_cons] at ih ⊢
    by_cases h : a = k
    · simp [Tab.at?, h]
    · simp [Tab.at?, h, ih]

@[simp] theorem Tab.at?_modify_ne (t : Tab α) {k j : Nat} (f : α → α) (h : j ≠ k) : (t.modify k f).at? j = t.at? j := by
  induction t with
  | nil => rfl
  | cons p t ih =>
    obtain ⟨a, w⟩ := p
    simp only [Tab.modify, List.map_cons] at ih ⊢
    by_cases hk : a = k
    · have : a ≠ j := fun e => h (e ▸ hk)
      have h2 : ¬ k = j := Ne.symm h
      simp [Tab.at?, hk, h2, ih]
    · by_cases hj : a = j
      · subst hj; simp [Tab.at?, hk]
      · simp [Tab.at?, hk, hj, ih]

@[simp] theorem Tab.get_set_self (d : α) (t : Tab α) (k : Nat) (v : α) : (t.set k v).get d k = v := by simp [Tab.get]

@[simp] theorem Tab.get_set_ne (d : α) (t : Tab α) {k j : Nat} (v : α) (h : j ≠ k) : (t.set k v).get d j = t.get d j := by
  simp [Tab.get, h]

end Tables

namespace Memory

theorem wfFrom_cons (lo a : Nat) (b : Byte) (t : Memory) :
    wfFrom lo ((a, b) :: t) = true ↔ lo ≤ a ∧ b ≠ 0 ∧ wfFrom (a + 1) t = true := by
  simp [wfFrom, and_assoc]

theorem wfFrom_mono {lo hi : Nat} {m : Memory} (h : wfFrom hi m = true) (hl : lo ≤ hi) : wfFrom lo m = true := by
  cases m with
  | nil => rfl
  | cons c t => obtain ⟨a, b⟩ := c; rw [wfFrom_cons] at h ⊢; exact ⟨by omega, h.2⟩

theorem get_eq_zero_of_wfFrom {lo k : Nat} {m : Memory} (h : wfFrom lo m = true) (hk : k < lo) : m.get k = 0 := by
  induction m generalizing lo with
  | nil => rfl
  | cons c t ih =>
    obtain ⟨a, b⟩ := c
    rw [wfFrom_cons] at h
    have : a ≠ k := by omega
    simpa [get, this] using ih h.2.2 (by omega)

theorem wfFrom_put {lo k : Nat} {m : Memory} (v : Byte) (h : wfFrom lo m = true) (hk : lo ≤ k) :
    wfFrom lo (m.put k v) = true := by
  induction m generalizing lo with
  | nil => simp only [put]; split <;> simp_all [wfFrom]
  | cons c t ih =>
    obtain ⟨a, b⟩ := c
    have h0 := h
    rw [wfFrom_cons] at h
    simp only [put]
    split
    · split
      · exact h0
      · exact (wfFrom_cons ..).2 ⟨hk, ‹_›, (wfFrom_cons ..).2 ⟨by omega, h.2⟩⟩
    · split
      · split
        · exact wfFrom_mono h.2.2 (by omega)
        · next hka hv => exact (wfFrom_cons ..).2 ⟨hk, hv, hka ▸ h.2.2⟩
      · exact (wfFrom_cons ..).2 ⟨h.1, h.2.1, ih h.2.2 (by omega)⟩

/-- A put keeps the canonical form. -/
@[simp] theorem wf_put {m : Memory} (k : Nat) (v : Byte) (h : m.wf = true) : (m.put k v).wf = true :=
  wfFrom_put v h (Nat.zero_le k)

theorem wf_write {m : Memory} (a : Nat) (bs : List Byte) (h : m.wf = true) : (m.write a bs).wf = true := by
  induction bs generalizing m a with
  | nil => exact h
  | cons b bs ih => exact ih (a + 1) (wf_put a b h)

theorem wfFrom_filter {lo : Nat} {m : Memory} (q : Host.Cell → Bool) (h : wfFrom lo m = true) :
    wfFrom lo (m.filter q) = true := by
  induction m generalizing lo with
  | nil => rfl
  | cons c t ih =>
    obtain ⟨a, b⟩ := c
    rw [wfFrom_cons] at h
    simp only [List.filter_cons]
    split
    · exact (wfFrom_cons ..).2 ⟨h.1, h.2.1, ih h.2.2⟩
    · exact wfFrom_mono (ih h.2.2) (by omega)

theorem wf_clear {m : Memory} (lo n : Nat) (h : m.wf = true) : (m.clear lo n).wf = true := wfFrom_filter _ h

theorem wf_putCells {m : Memory} (base : Nat) (cs : List Host.Cell) (h : m.wf = true) : (m.putCells base cs).wf = true := by
  induction cs generalizing m with
  | nil => exact h
  | cons c cs ih => exact ih (wf_put _ _ h)

theorem wf_replace {m : Memory} (dst n : Nat) (cs : List Host.Cell) (h : m.wf = true) : (m.replace dst n cs).wf = true :=
  wf_putCells _ _ (wf_clear _ _ h)

theorem wf_foldl {β : Type} {f : Memory → β → Memory} (hf : ∀ (m : Memory) (b : β), m.wf = true → (f m b).wf = true)
    {m : Memory} (l : List β) (h : m.wf = true) : (l.foldl f m).wf = true := by
  induction l generalizing m with
  | nil => exact h
  | cons b l ih => exact ih (hf m b h)

theorem get_put_self {lo k : Nat} {m : Memory} (v : Byte) (h : wfFrom lo m = true) : (m.put k v).get k = v := by
  induction m generalizing lo with
  | nil => simp only [put]; split <;> simp_all [get]
  | cons c t ih =>
    obtain ⟨a, b⟩ := c
    rw [wfFrom_cons] at h
    simp only [put]
    split
    · split
      · next hka hv =>
        have : a ≠ k := by omega
        simp [get, this, hv, get_eq_zero_of_wfFrom h.2.2 (show k < a + 1 by omega)]
      · simp [get]
    · split
      · split
        · next hka hv => simp [hv, get_eq_zero_of_wfFrom h.2.2 (show k < a + 1 by omega)]
        · simp [get]
      · have : a ≠ k := fun e => by omega
        simp [get, this, ih h.2.2]

@[simp] theorem get_put_ne (m : Memory) {k j : Nat} (v : Byte) (h : j ≠ k) : (m.put k v).get j = m.get j := by
  induction m with
  | nil => simp only [put]; split <;> simp [get, Ne.symm h]
  | cons c t ih =>
    obtain ⟨a, b⟩ := c
    simp only [put]
    split
    · split <;> simp [get, Ne.symm h]
    · split
      · next hka =>
        have : ¬ a = j := fun e => h (by omega)
        split <;> simp [get, this, Ne.symm h]
      · simp [get, ih]

/-- A byte put is the byte read. -/
theorem get_put {m : Memory} (k j : Nat) (v : Byte) (h : m.wf = true) :
    (m.put k v).get j = if j = k then v else m.get j := by
  split
  · next e => exact e ▸ get_put_self v h
  · next e => exact get_put_ne m v e

theorem get_write_outside (m : Memory) {a j : Nat} (bs : List Byte) (h : j < a ∨ a + bs.length ≤ j) :
    (m.write a bs).get j = m.get j := by
  induction bs generalizing m a with
  | nil => rfl
  | cons b bs ih =>
    simp only [List.length_cons] at h
    simp only [write]
    rw [ih _ (by omega), get_put_ne _ _ (by omega)]

/-- Bytes written are the bytes read, and every other byte is as it was. -/
theorem get_write {m : Memory} (a j : Nat) (bs : List Byte) (h : m.wf = true) :
    (m.write a bs).get j = if a ≤ j ∧ j < a + bs.length then bs.getD (j - a) 0 else m.get j := by
  induction bs generalizing m a with
  | nil => simp [write, show ¬ (a ≤ j ∧ j < a) by omega]
  | cons b bs ih =>
    simp only [write, List.length_cons]
    rw [ih _ (wf_put a b h), get_put _ _ _ h]
    by_cases hj : j = a
    · subst hj; simp
    · by_cases h1 : a + 1 ≤ j ∧ j < a + 1 + bs.length
      · have : j - a = (j - (a + 1)) + 1 := by omega
        simp [h1, this, show a ≤ j ∧ j < a + (bs.length + 1) by omega]
      · rw [if_neg h1, if_neg hj, if_neg (by omega)]

/-- Reading back what was written. -/
theorem read_write {m : Memory} (a : Nat) (bs : List Byte) (h : m.wf = true) : (m.write a bs).read a bs.length = bs := by
  apply List.ext_getElem
  · simp [read]
  · intro i h1 h2
    simp [read, get_write a (a + i) bs h, h2]

theorem get_clear (m : Memory) (lo n k : Nat) : (m.clear lo n).get k = if lo ≤ k ∧ k < lo + n then 0 else m.get k := by
  induction m with
  | nil => simp [clear, get]
  | cons c t ih =>
    obtain ⟨a, b⟩ := c
    simp only [clear, List.filter_cons] at ih ⊢
    by_cases hin : lo ≤ a ∧ a < lo + n
    · have : (decide (a < lo) || decide (lo + n ≤ a)) = false := by simp; omega
      simp only [this, Bool.false_eq_true, ↓reduceIte]
      rw [ih]
      by_cases hk : a = k
      · subst hk; simp [hin]
      · simp [get, hk]
    · have : (decide (a < lo) || decide (lo + n ≤ a)) = true := by simp; omega
      simp only [this, ↓reduceIte, get]
      rw [ih]
      by_cases hk : a = k
      · subst hk; simp [hin]
      · simp [hk]

theorem wf_nil : Memory.wf [] = true := rfl

end Memory

end Sys2Proof
end

