-- ==== Sys2Proof/Laws/State.lean ====
section
/-! SUPPORT. What each update of the state leaves alone, one lemma for each part of the state, and what the tables
read after it. -/

namespace Sys2Proof.Machine

variable (s : State)

@[simp] theorem State.setFn_mem (f : Nat) (v : Fn) : (s.setFn f v).mem = s.mem := rfl
@[simp] theorem State.setFn_work (f : Nat) (v : Fn) : (s.setFn f v).work = s.work := rfl
@[simp] theorem State.setFn_xlat (f : Nat) (v : Fn) : (s.setFn f v).xlat = s.xlat := rfl
@[simp] theorem State.setFn_eng (f : Nat) (v : Fn) : (s.setFn f v).eng = s.eng := rfl
@[simp] theorem State.setFn_ras (f : Nat) (v : Fn) : (s.setFn f v).ras = s.ras := rfl
@[simp] theorem State.setFn_clk (f : Nat) (v : Fn) : (s.setFn f v).clk = s.clk := rfl
@[simp] theorem State.setFn_fab (f : Nat) (v : Fn) : (s.setFn f v).fab = s.fab := rfl
@[simp] theorem State.setFn_weir (f : Nat) (v : Fn) : (s.setFn f v).weir = s.weir := rfl
@[simp] theorem State.setFn_pwr (f : Nat) (v : Fn) : (s.setFn f v).pwr = s.pwr := rfl
@[simp] theorem State.setFn_tally (f : Nat) (v : Fn) : (s.setFn f v).tally = s.tally := rfl
@[simp] theorem State.setFn_sec (f : Nat) (v : Fn) : (s.setFn f v).sec = s.sec := rfl
@[simp] theorem State.setFn_boot (f : Nat) (v : Fn) : (s.setFn f v).boot = s.boot := rfl
@[simp] theorem State.setFn_pending (f : Nat) (v : Fn) : (s.setFn f v).pending = s.pending := rfl

@[simp] theorem State.setCq_mem (f k : Nat) (q : CompletionQueue) : (s.setCq f k q).mem = s.mem := rfl
@[simp] theorem State.setCq_work (f k : Nat) (q : CompletionQueue) : (s.setCq f k q).work = s.work := rfl
@[simp] theorem State.setCq_xlat (f k : Nat) (q : CompletionQueue) : (s.setCq f k q).xlat = s.xlat := rfl
@[simp] theorem State.setCq_eng (f k : Nat) (q : CompletionQueue) : (s.setCq f k q).eng = s.eng := rfl
@[simp] theorem State.setCq_ras (f k : Nat) (q : CompletionQueue) : (s.setCq f k q).ras = s.ras := rfl
@[simp] theorem State.setCq_clk (f k : Nat) (q : CompletionQueue) : (s.setCq f k q).clk = s.clk := rfl
@[simp] theorem State.setCq_fab (f k : Nat) (q : CompletionQueue) : (s.setCq f k q).fab = s.fab := rfl
@[simp] theorem State.setCq_weir (f k : Nat) (q : CompletionQueue) : (s.setCq f k q).weir = s.weir := rfl
@[simp] theorem State.setCq_pwr (f k : Nat) (q : CompletionQueue) : (s.setCq f k q).pwr = s.pwr := rfl
@[simp] theorem State.setCq_tally (f k : Nat) (q : CompletionQueue) : (s.setCq f k q).tally = s.tally := rfl
@[simp] theorem State.setCq_sec (f k : Nat) (q : CompletionQueue) : (s.setCq f k q).sec = s.sec := rfl
@[simp] theorem State.setCq_boot (f k : Nat) (q : CompletionQueue) : (s.setCq f k q).boot = s.boot := rfl
@[simp] theorem State.setCq_pending (f k : Nat) (q : CompletionQueue) : (s.setCq f k q).pending = s.pending := rfl

@[simp] theorem State.setSq_mem (f k : Nat) (q : SubmissionQueue) : (s.setSq f k q).mem = s.mem := rfl
@[simp] theorem State.setSq_work (f k : Nat) (q : SubmissionQueue) : (s.setSq f k q).work = s.work := rfl
@[simp] theorem State.setSq_xlat (f k : Nat) (q : SubmissionQueue) : (s.setSq f k q).xlat = s.xlat := rfl
@[simp] theorem State.setSq_eng (f k : Nat) (q : SubmissionQueue) : (s.setSq f k q).eng = s.eng := rfl
@[simp] theorem State.setSq_ras (f k : Nat) (q : SubmissionQueue) : (s.setSq f k q).ras = s.ras := rfl
@[simp] theorem State.setSq_clk (f k : Nat) (q : SubmissionQueue) : (s.setSq f k q).clk = s.clk := rfl
@[simp] theorem State.setSq_fab (f k : Nat) (q : SubmissionQueue) : (s.setSq f k q).fab = s.fab := rfl
@[simp] theorem State.setSq_weir (f k : Nat) (q : SubmissionQueue) : (s.setSq f k q).weir = s.weir := rfl
@[simp] theorem State.setSq_pwr (f k : Nat) (q : SubmissionQueue) : (s.setSq f k q).pwr = s.pwr := rfl
@[simp] theorem State.setSq_tally (f k : Nat) (q : SubmissionQueue) : (s.setSq f k q).tally = s.tally := rfl
@[simp] theorem State.setSq_sec (f k : Nat) (q : SubmissionQueue) : (s.setSq f k q).sec = s.sec := rfl
@[simp] theorem State.setSq_boot (f k : Nat) (q : SubmissionQueue) : (s.setSq f k q).boot = s.boot := rfl
@[simp] theorem State.setSq_pending (f k : Nat) (q : SubmissionQueue) : (s.setSq f k q).pending = s.pending := rfl

@[simp] theorem State.withOps_host (t : Tab Op) : (s.withOps t).host = s.host := rfl
@[simp] theorem State.withOps_mem (t : Tab Op) : (s.withOps t).mem = s.mem := rfl
@[simp] theorem State.withOps_xlat (t : Tab Op) : (s.withOps t).xlat = s.xlat := rfl
@[simp] theorem State.withOps_eng (t : Tab Op) : (s.withOps t).eng = s.eng := rfl
@[simp] theorem State.withOps_ras (t : Tab Op) : (s.withOps t).ras = s.ras := rfl
@[simp] theorem State.withOps_clk (t : Tab Op) : (s.withOps t).clk = s.clk := rfl
@[simp] theorem State.withOps_fab (t : Tab Op) : (s.withOps t).fab = s.fab := rfl
@[simp] theorem State.withOps_weir (t : Tab Op) : (s.withOps t).weir = s.weir := rfl
@[simp] theorem State.withOps_pwr (t : Tab Op) : (s.withOps t).pwr = s.pwr := rfl
@[simp] theorem State.withOps_tally (t : Tab Op) : (s.withOps t).tally = s.tally := rfl
@[simp] theorem State.withOps_sec (t : Tab Op) : (s.withOps t).sec = s.sec := rfl
@[simp] theorem State.withOps_boot (t : Tab Op) : (s.withOps t).boot = s.boot := rfl
@[simp] theorem State.withOps_pending (t : Tab Op) : (s.withOps t).pending = s.pending := rfl

@[simp] theorem State.modOp_host (id : Nat) (g : Op → Op) : (s.modOp id g).host = s.host := rfl
@[simp] theorem State.modOp_mem (id : Nat) (g : Op → Op) : (s.modOp id g).mem = s.mem := rfl
@[simp] theorem State.modOp_xlat (id : Nat) (g : Op → Op) : (s.modOp id g).xlat = s.xlat := rfl
@[simp] theorem State.modOp_eng (id : Nat) (g : Op → Op) : (s.modOp id g).eng = s.eng := rfl
@[simp] theorem State.modOp_ras (id : Nat) (g : Op → Op) : (s.modOp id g).ras = s.ras := rfl
@[simp] theorem State.modOp_clk (id : Nat) (g : Op → Op) : (s.modOp id g).clk = s.clk := rfl
@[simp] theorem State.modOp_fab (id : Nat) (g : Op → Op) : (s.modOp id g).fab = s.fab := rfl
@[simp] theorem State.modOp_weir (id : Nat) (g : Op → Op) : (s.modOp id g).weir = s.weir := rfl
@[simp] theorem State.modOp_pwr (id : Nat) (g : Op → Op) : (s.modOp id g).pwr = s.pwr := rfl
@[simp] theorem State.modOp_tally (id : Nat) (g : Op → Op) : (s.modOp id g).tally = s.tally := rfl
@[simp] theorem State.modOp_sec (id : Nat) (g : Op → Op) : (s.modOp id g).sec = s.sec := rfl
@[simp] theorem State.modOp_boot (id : Nat) (g : Op → Op) : (s.modOp id g).boot = s.boot := rfl
@[simp] theorem State.modOp_pending (id : Nat) (g : Op → Op) : (s.modOp id g).pending = s.pending := rfl

@[simp] theorem State.modSluice_host (k : Nat) (g : Sluice → Sluice) : (s.modSluice k g).host = s.host := rfl
@[simp] theorem State.modSluice_mem (k : Nat) (g : Sluice → Sluice) : (s.modSluice k g).mem = s.mem := rfl
@[simp] theorem State.modSluice_xlat (k : Nat) (g : Sluice → Sluice) : (s.modSluice k g).xlat = s.xlat := rfl
@[simp] theorem State.modSluice_eng (k : Nat) (g : Sluice → Sluice) : (s.modSluice k g).eng = s.eng := rfl
@[simp] theorem State.modSluice_ras (k : Nat) (g : Sluice → Sluice) : (s.modSluice k g).ras = s.ras := rfl
@[simp] theorem State.modSluice_clk (k : Nat) (g : Sluice → Sluice) : (s.modSluice k g).clk = s.clk := rfl
@[simp] theorem State.modSluice_fab (k : Nat) (g : Sluice → Sluice) : (s.modSluice k g).fab = s.fab := rfl
@[simp] theorem State.modSluice_weir (k : Nat) (g : Sluice → Sluice) : (s.modSluice k g).weir = s.weir := rfl
@[simp] theorem State.modSluice_pwr (k : Nat) (g : Sluice → Sluice) : (s.modSluice k g).pwr = s.pwr := rfl
@[simp] theorem State.modSluice_tally (k : Nat) (g : Sluice → Sluice) : (s.modSluice k g).tally = s.tally := rfl
@[simp] theorem State.modSluice_sec (k : Nat) (g : Sluice → Sluice) : (s.modSluice k g).sec = s.sec := rfl
@[simp] theorem State.modSluice_boot (k : Nat) (g : Sluice → Sluice) : (s.modSluice k g).boot = s.boot := rfl
@[simp] theorem State.modSluice_pending (k : Nat) (g : Sluice → Sluice) : (s.modSluice k g).pending = s.pending := rfl

@[simp] theorem State.modPond_host (p : Nat) (g : Pond → Pond) : (s.modPond p g).host = s.host := rfl
@[simp] theorem State.modPond_work (p : Nat) (g : Pond → Pond) : (s.modPond p g).work = s.work := rfl
@[simp] theorem State.modPond_xlat (p : Nat) (g : Pond → Pond) : (s.modPond p g).xlat = s.xlat := rfl
@[simp] theorem State.modPond_eng (p : Nat) (g : Pond → Pond) : (s.modPond p g).eng = s.eng := rfl
@[simp] theorem State.modPond_ras (p : Nat) (g : Pond → Pond) : (s.modPond p g).ras = s.ras := rfl
@[simp] theorem State.modPond_clk (p : Nat) (g : Pond → Pond) : (s.modPond p g).clk = s.clk := rfl
@[simp] theorem State.modPond_fab (p : Nat) (g : Pond → Pond) : (s.modPond p g).fab = s.fab := rfl
@[simp] theorem State.modPond_weir (p : Nat) (g : Pond → Pond) : (s.modPond p g).weir = s.weir := rfl
@[simp] theorem State.modPond_pwr (p : Nat) (g : Pond → Pond) : (s.modPond p g).pwr = s.pwr := rfl
@[simp] theorem State.modPond_tally (p : Nat) (g : Pond → Pond) : (s.modPond p g).tally = s.tally := rfl
@[simp] theorem State.modPond_sec (p : Nat) (g : Pond → Pond) : (s.modPond p g).sec = s.sec := rfl
@[simp] theorem State.modPond_boot (p : Nat) (g : Pond → Pond) : (s.modPond p g).boot = s.boot := rfl
@[simp] theorem State.modPond_pending (p : Nat) (g : Pond → Pond) : (s.modPond p g).pending = s.pending := rfl

@[simp] theorem State.modCtx_mem (c : Nat) (g : Ctx → Ctx) : (s.modCtx c g).mem = s.mem := rfl
@[simp] theorem State.modCtx_work (c : Nat) (g : Ctx → Ctx) : (s.modCtx c g).work = s.work := rfl
@[simp] theorem State.modCtx_xlat (c : Nat) (g : Ctx → Ctx) : (s.modCtx c g).xlat = s.xlat := rfl
@[simp] theorem State.modCtx_eng (c : Nat) (g : Ctx → Ctx) : (s.modCtx c g).eng = s.eng := rfl
@[simp] theorem State.modCtx_ras (c : Nat) (g : Ctx → Ctx) : (s.modCtx c g).ras = s.ras := rfl
@[simp] theorem State.modCtx_clk (c : Nat) (g : Ctx → Ctx) : (s.modCtx c g).clk = s.clk := rfl
@[simp] theorem State.modCtx_fab (c : Nat) (g : Ctx → Ctx) : (s.modCtx c g).fab = s.fab := rfl
@[simp] theorem State.modCtx_weir (c : Nat) (g : Ctx → Ctx) : (s.modCtx c g).weir = s.weir := rfl
@[simp] theorem State.modCtx_pwr (c : Nat) (g : Ctx → Ctx) : (s.modCtx c g).pwr = s.pwr := rfl
@[simp] theorem State.modCtx_tally (c : Nat) (g : Ctx → Ctx) : (s.modCtx c g).tally = s.tally := rfl
@[simp] theorem State.modCtx_sec (c : Nat) (g : Ctx → Ctx) : (s.modCtx c g).sec = s.sec := rfl
@[simp] theorem State.modCtx_boot (c : Nat) (g : Ctx → Ctx) : (s.modCtx c g).boot = s.boot := rfl
@[simp] theorem State.modCtx_pending (c : Nat) (g : Ctx → Ctx) : (s.modCtx c g).pending = s.pending := rfl

@[simp] theorem State.send_host (m : FabMsg) : (s.send m).host = s.host := rfl
@[simp] theorem State.send_mem (m : FabMsg) : (s.send m).mem = s.mem := rfl
@[simp] theorem State.send_xlat (m : FabMsg) : (s.send m).xlat = s.xlat := rfl
@[simp] theorem State.send_eng (m : FabMsg) : (s.send m).eng = s.eng := rfl
@[simp] theorem State.send_ras (m : FabMsg) : (s.send m).ras = s.ras := rfl
@[simp] theorem State.send_clk (m : FabMsg) : (s.send m).clk = s.clk := rfl
@[simp] theorem State.send_fab (m : FabMsg) : (s.send m).fab = s.fab := rfl
@[simp] theorem State.send_weir (m : FabMsg) : (s.send m).weir = s.weir := rfl
@[simp] theorem State.send_pwr (m : FabMsg) : (s.send m).pwr = s.pwr := rfl
@[simp] theorem State.send_tally (m : FabMsg) : (s.send m).tally = s.tally := rfl
@[simp] theorem State.send_sec (m : FabMsg) : (s.send m).sec = s.sec := rfl
@[simp] theorem State.send_boot (m : FabMsg) : (s.send m).boot = s.boot := rfl
@[simp] theorem State.send_pending (m : FabMsg) : (s.send m).pending = s.pending := rfl

@[simp] theorem State.sendOn_host (m : FabMsg) (sub : Nat) : (s.sendOn m sub).host = s.host := rfl
@[simp] theorem State.sendOn_mem (m : FabMsg) (sub : Nat) : (s.sendOn m sub).mem = s.mem := rfl
@[simp] theorem State.sendOn_xlat (m : FabMsg) (sub : Nat) : (s.sendOn m sub).xlat = s.xlat := rfl
@[simp] theorem State.sendOn_eng (m : FabMsg) (sub : Nat) : (s.sendOn m sub).eng = s.eng := rfl
@[simp] theorem State.sendOn_ras (m : FabMsg) (sub : Nat) : (s.sendOn m sub).ras = s.ras := rfl
@[simp] theorem State.sendOn_clk (m : FabMsg) (sub : Nat) : (s.sendOn m sub).clk = s.clk := rfl
@[simp] theorem State.sendOn_fab (m : FabMsg) (sub : Nat) : (s.sendOn m sub).fab = s.fab := rfl
@[simp] theorem State.sendOn_weir (m : FabMsg) (sub : Nat) : (s.sendOn m sub).weir = s.weir := rfl
@[simp] theorem State.sendOn_pwr (m : FabMsg) (sub : Nat) : (s.sendOn m sub).pwr = s.pwr := rfl
@[simp] theorem State.sendOn_tally (m : FabMsg) (sub : Nat) : (s.sendOn m sub).tally = s.tally := rfl
@[simp] theorem State.sendOn_sec (m : FabMsg) (sub : Nat) : (s.sendOn m sub).sec = s.sec := rfl
@[simp] theorem State.sendOn_boot (m : FabMsg) (sub : Nat) : (s.sendOn m sub).boot = s.boot := rfl
@[simp] theorem State.sendOn_pending (m : FabMsg) (sub : Nat) : (s.sendOn m sub).pending = s.pending := rfl

@[simp] theorem State.writeHost_mem (fn addr : Nat) (b : List Byte) : (s.writeHost fn addr b).mem = s.mem := rfl
@[simp] theorem State.writeHost_work (fn addr : Nat) (b : List Byte) : (s.writeHost fn addr b).work = s.work := rfl
@[simp] theorem State.writeHost_xlat (fn addr : Nat) (b : List Byte) : (s.writeHost fn addr b).xlat = s.xlat := rfl
@[simp] theorem State.writeHost_eng (fn addr : Nat) (b : List Byte) : (s.writeHost fn addr b).eng = s.eng := rfl
@[simp] theorem State.writeHost_ras (fn addr : Nat) (b : List Byte) : (s.writeHost fn addr b).ras = s.ras := rfl
@[simp] theorem State.writeHost_clk (fn addr : Nat) (b : List Byte) : (s.writeHost fn addr b).clk = s.clk := rfl
@[simp] theorem State.writeHost_fab (fn addr : Nat) (b : List Byte) : (s.writeHost fn addr b).fab = s.fab := rfl
@[simp] theorem State.writeHost_weir (fn addr : Nat) (b : List Byte) : (s.writeHost fn addr b).weir = s.weir := rfl
@[simp] theorem State.writeHost_pwr (fn addr : Nat) (b : List Byte) : (s.writeHost fn addr b).pwr = s.pwr := rfl
@[simp] theorem State.writeHost_tally (fn addr : Nat) (b : List Byte) : (s.writeHost fn addr b).tally = s.tally := rfl
@[simp] theorem State.writeHost_sec (fn addr : Nat) (b : List Byte) : (s.writeHost fn addr b).sec = s.sec := rfl
@[simp] theorem State.writeHost_boot (fn addr : Nat) (b : List Byte) : (s.writeHost fn addr b).boot = s.boot := rfl
@[simp] theorem State.writeHost_pending (fn addr : Nat) (b : List Byte) : (s.writeHost fn addr b).pending = s.pending := rfl

@[simp] theorem State.setClk_host (g : ClockPart → ClockPart) : (s.setClk g).host = s.host := rfl
@[simp] theorem State.setClk_mem (g : ClockPart → ClockPart) : (s.setClk g).mem = s.mem := rfl
@[simp] theorem State.setClk_work (g : ClockPart → ClockPart) : (s.setClk g).work = s.work := rfl
@[simp] theorem State.setClk_xlat (g : ClockPart → ClockPart) : (s.setClk g).xlat = s.xlat := rfl
@[simp] theorem State.setClk_eng (g : ClockPart → ClockPart) : (s.setClk g).eng = s.eng := rfl
@[simp] theorem State.setClk_ras (g : ClockPart → ClockPart) : (s.setClk g).ras = s.ras := rfl
@[simp] theorem State.setClk_fab (g : ClockPart → ClockPart) : (s.setClk g).fab = s.fab := rfl
@[simp] theorem State.setClk_weir (g : ClockPart → ClockPart) : (s.setClk g).weir = s.weir := rfl
@[simp] theorem State.setClk_pwr (g : ClockPart → ClockPart) : (s.setClk g).pwr = s.pwr := rfl
@[simp] theorem State.setClk_tally (g : ClockPart → ClockPart) : (s.setClk g).tally = s.tally := rfl
@[simp] theorem State.setClk_sec (g : ClockPart → ClockPart) : (s.setClk g).sec = s.sec := rfl
@[simp] theorem State.setClk_boot (g : ClockPart → ClockPart) : (s.setClk g).boot = s.boot := rfl
@[simp] theorem State.setClk_pending (g : ClockPart → ClockPart) : (s.setClk g).pending = s.pending := rfl

@[simp] theorem State.setPwr_host (g : PowerPart → PowerPart) : (s.setPwr g).host = s.host := rfl
@[simp] theorem State.setPwr_mem (g : PowerPart → PowerPart) : (s.setPwr g).mem = s.mem := rfl
@[simp] theorem State.setPwr_work (g : PowerPart → PowerPart) : (s.setPwr g).work = s.work := rfl
@[simp] theorem State.setPwr_xlat (g : PowerPart → PowerPart) : (s.setPwr g).xlat = s.xlat := rfl
@[simp] theorem State.setPwr_eng (g : PowerPart → PowerPart) : (s.setPwr g).eng = s.eng := rfl
@[simp] theorem State.setPwr_ras (g : PowerPart → PowerPart) : (s.setPwr g).ras = s.ras := rfl
@[simp] theorem State.setPwr_clk (g : PowerPart → PowerPart) : (s.setPwr g).clk = s.clk := rfl
@[simp] theorem State.setPwr_fab (g : PowerPart → PowerPart) : (s.setPwr g).fab = s.fab := rfl
@[simp] theorem State.setPwr_weir (g : PowerPart → PowerPart) : (s.setPwr g).weir = s.weir := rfl
@[simp] theorem State.setPwr_tally (g : PowerPart → PowerPart) : (s.setPwr g).tally = s.tally := rfl
@[simp] theorem State.setPwr_sec (g : PowerPart → PowerPart) : (s.setPwr g).sec = s.sec := rfl
@[simp] theorem State.setPwr_boot (g : PowerPart → PowerPart) : (s.setPwr g).boot = s.boot := rfl
@[simp] theorem State.setPwr_pending (g : PowerPart → PowerPart) : (s.setPwr g).pending = s.pending := rfl

@[simp] theorem State.setFab_host (g : FabricPart → FabricPart) : (s.setFab g).host = s.host := rfl
@[simp] theorem State.setFab_mem (g : FabricPart → FabricPart) : (s.setFab g).mem = s.mem := rfl
@[simp] theorem State.setFab_work (g : FabricPart → FabricPart) : (s.setFab g).work = s.work := rfl
@[simp] theorem State.setFab_xlat (g : FabricPart → FabricPart) : (s.setFab g).xlat = s.xlat := rfl
@[simp] theorem State.setFab_eng (g : FabricPart → FabricPart) : (s.setFab g).eng = s.eng := rfl
@[simp] theorem State.setFab_ras (g : FabricPart → FabricPart) : (s.setFab g).ras = s.ras := rfl
@[simp] theorem State.setFab_clk (g : FabricPart → FabricPart) : (s.setFab g).clk = s.clk := rfl
@[simp] theorem State.setFab_weir (g : FabricPart → FabricPart) : (s.setFab g).weir = s.weir := rfl
@[simp] theorem State.setFab_pwr (g : FabricPart → FabricPart) : (s.setFab g).pwr = s.pwr := rfl
@[simp] theorem State.setFab_tally (g : FabricPart → FabricPart) : (s.setFab g).tally = s.tally := rfl
@[simp] theorem State.setFab_sec (g : FabricPart → FabricPart) : (s.setFab g).sec = s.sec := rfl
@[simp] theorem State.setFab_boot (g : FabricPart → FabricPart) : (s.setFab g).boot = s.boot := rfl
@[simp] theorem State.setFab_pending (g : FabricPart → FabricPart) : (s.setFab g).pending = s.pending := rfl

@[simp] theorem State.setWeir_host (g : WeirPart → WeirPart) : (s.setWeir g).host = s.host := rfl
@[simp] theorem State.setWeir_mem (g : WeirPart → WeirPart) : (s.setWeir g).mem = s.mem := rfl
@[simp] theorem State.setWeir_work (g : WeirPart → WeirPart) : (s.setWeir g).work = s.work := rfl
@[simp] theorem State.setWeir_xlat (g : WeirPart → WeirPart) : (s.setWeir g).xlat = s.xlat := rfl
@[simp] theorem State.setWeir_eng (g : WeirPart → WeirPart) : (s.setWeir g).eng = s.eng := rfl
@[simp] theorem State.setWeir_ras (g : WeirPart → WeirPart) : (s.setWeir g).ras = s.ras := rfl
@[simp] theorem State.setWeir_clk (g : WeirPart → WeirPart) : (s.setWeir g).clk = s.clk := rfl
@[simp] theorem State.setWeir_fab (g : WeirPart → WeirPart) : (s.setWeir g).fab = s.fab := rfl
@[simp] theorem State.setWeir_pwr (g : WeirPart → WeirPart) : (s.setWeir g).pwr = s.pwr := rfl
@[simp] theorem State.setWeir_tally (g : WeirPart → WeirPart) : (s.setWeir g).tally = s.tally := rfl
@[simp] theorem State.setWeir_sec (g : WeirPart → WeirPart) : (s.setWeir g).sec = s.sec := rfl
@[simp] theorem State.setWeir_boot (g : WeirPart → WeirPart) : (s.setWeir g).boot = s.boot := rfl
@[simp] theorem State.setWeir_pending (g : WeirPart → WeirPart) : (s.setWeir g).pending = s.pending := rfl

@[simp] theorem State.setTally_host (g : TallyPart → TallyPart) : (s.setTally g).host = s.host := rfl
@[simp] theorem State.setTally_mem (g : TallyPart → TallyPart) : (s.setTally g).mem = s.mem := rfl
@[simp] theorem State.setTally_work (g : TallyPart → TallyPart) : (s.setTally g).work = s.work := rfl
@[simp] theorem State.setTally_xlat (g : TallyPart → TallyPart) : (s.setTally g).xlat = s.xlat := rfl
@[simp] theorem State.setTally_eng (g : TallyPart → TallyPart) : (s.setTally g).eng = s.eng := rfl
@[simp] theorem State.setTally_ras (g : TallyPart → TallyPart) : (s.setTally g).ras = s.ras := rfl
@[simp] theorem State.setTally_clk (g : TallyPart → TallyPart) : (s.setTally g).clk = s.clk := rfl
@[simp] theorem State.setTally_fab (g : TallyPart → TallyPart) : (s.setTally g).fab = s.fab := rfl
@[simp] theorem State.setTally_weir (g : TallyPart → TallyPart) : (s.setTally g).weir = s.weir := rfl
@[simp] theorem State.setTally_pwr (g : TallyPart → TallyPart) : (s.setTally g).pwr = s.pwr := rfl
@[simp] theorem State.setTally_sec (g : TallyPart → TallyPart) : (s.setTally g).sec = s.sec := rfl
@[simp] theorem State.setTally_boot (g : TallyPart → TallyPart) : (s.setTally g).boot = s.boot := rfl
@[simp] theorem State.setTally_pending (g : TallyPart → TallyPart) : (s.setTally g).pending = s.pending := rfl

@[simp] theorem State.setSec_host (g : SecPart → SecPart) : (s.setSec g).host = s.host := rfl
@[simp] theorem State.setSec_mem (g : SecPart → SecPart) : (s.setSec g).mem = s.mem := rfl
@[simp] theorem State.setSec_work (g : SecPart → SecPart) : (s.setSec g).work = s.work := rfl
@[simp] theorem State.setSec_xlat (g : SecPart → SecPart) : (s.setSec g).xlat = s.xlat := rfl
@[simp] theorem State.setSec_eng (g : SecPart → SecPart) : (s.setSec g).eng = s.eng := rfl
@[simp] theorem State.setSec_ras (g : SecPart → SecPart) : (s.setSec g).ras = s.ras := rfl
@[simp] theorem State.setSec_clk (g : SecPart → SecPart) : (s.setSec g).clk = s.clk := rfl
@[simp] theorem State.setSec_fab (g : SecPart → SecPart) : (s.setSec g).fab = s.fab := rfl
@[simp] theorem State.setSec_weir (g : SecPart → SecPart) : (s.setSec g).weir = s.weir := rfl
@[simp] theorem State.setSec_pwr (g : SecPart → SecPart) : (s.setSec g).pwr = s.pwr := rfl
@[simp] theorem State.setSec_tally (g : SecPart → SecPart) : (s.setSec g).tally = s.tally := rfl
@[simp] theorem State.setSec_boot (g : SecPart → SecPart) : (s.setSec g).boot = s.boot := rfl
@[simp] theorem State.setSec_pending (g : SecPart → SecPart) : (s.setSec g).pending = s.pending := rfl

@[simp] theorem State.setBoot_host (g : BootPart → BootPart) : (s.setBoot g).host = s.host := rfl
@[simp] theorem State.setBoot_mem (g : BootPart → BootPart) : (s.setBoot g).mem = s.mem := rfl
@[simp] theorem State.setBoot_work (g : BootPart → BootPart) : (s.setBoot g).work = s.work := rfl
@[simp] theorem State.setBoot_xlat (g : BootPart → BootPart) : (s.setBoot g).xlat = s.xlat := rfl
@[simp] theorem State.setBoot_eng (g : BootPart → BootPart) : (s.setBoot g).eng = s.eng := rfl
@[simp] theorem State.setBoot_ras (g : BootPart → BootPart) : (s.setBoot g).ras = s.ras := rfl
@[simp] theorem State.setBoot_clk (g : BootPart → BootPart) : (s.setBoot g).clk = s.clk := rfl
@[simp] theorem State.setBoot_fab (g : BootPart → BootPart) : (s.setBoot g).fab = s.fab := rfl
@[simp] theorem State.setBoot_weir (g : BootPart → BootPart) : (s.setBoot g).weir = s.weir := rfl
@[simp] theorem State.setBoot_pwr (g : BootPart → BootPart) : (s.setBoot g).pwr = s.pwr := rfl
@[simp] theorem State.setBoot_tally (g : BootPart → BootPart) : (s.setBoot g).tally = s.tally := rfl
@[simp] theorem State.setBoot_sec (g : BootPart → BootPart) : (s.setBoot g).sec = s.sec := rfl
@[simp] theorem State.setBoot_pending (g : BootPart → BootPart) : (s.setBoot g).pending = s.pending := rfl

@[simp] theorem State.modSub_host (n : Nat) (g : SubLink → SubLink) : (s.modSub n g).host = s.host := rfl
@[simp] theorem State.modSub_mem (n : Nat) (g : SubLink → SubLink) : (s.modSub n g).mem = s.mem := rfl
@[simp] theorem State.modSub_work (n : Nat) (g : SubLink → SubLink) : (s.modSub n g).work = s.work := rfl
@[simp] theorem State.modSub_xlat (n : Nat) (g : SubLink → SubLink) : (s.modSub n g).xlat = s.xlat := rfl
@[simp] theorem State.modSub_eng (n : Nat) (g : SubLink → SubLink) : (s.modSub n g).eng = s.eng := rfl
@[simp] theorem State.modSub_ras (n : Nat) (g : SubLink → SubLink) : (s.modSub n g).ras = s.ras := rfl
@[simp] theorem State.modSub_clk (n : Nat) (g : SubLink → SubLink) : (s.modSub n g).clk = s.clk := rfl
@[simp] theorem State.modSub_weir (n : Nat) (g : SubLink → SubLink) : (s.modSub n g).weir = s.weir := rfl
@[simp] theorem State.modSub_pwr (n : Nat) (g : SubLink → SubLink) : (s.modSub n g).pwr = s.pwr := rfl
@[simp] theorem State.modSub_tally (n : Nat) (g : SubLink → SubLink) : (s.modSub n g).tally = s.tally := rfl
@[simp] theorem State.modSub_sec (n : Nat) (g : SubLink → SubLink) : (s.modSub n g).sec = s.sec := rfl
@[simp] theorem State.modSub_boot (n : Nat) (g : SubLink → SubLink) : (s.modSub n g).boot = s.boot := rfl
@[simp] theorem State.modSub_pending (n : Nat) (g : SubLink → SubLink) : (s.modSub n g).pending = s.pending := rfl

@[simp] theorem State.modGroup_host (k : Nat) (g : RedGroup → RedGroup) : (s.modGroup k g).host = s.host := rfl
@[simp] theorem State.modGroup_mem (k : Nat) (g : RedGroup → RedGroup) : (s.modGroup k g).mem = s.mem := rfl
@[simp] theorem State.modGroup_work (k : Nat) (g : RedGroup → RedGroup) : (s.modGroup k g).work = s.work := rfl
@[simp] theorem State.modGroup_xlat (k : Nat) (g : RedGroup → RedGroup) : (s.modGroup k g).xlat = s.xlat := rfl
@[simp] theorem State.modGroup_ras (k : Nat) (g : RedGroup → RedGroup) : (s.modGroup k g).ras = s.ras := rfl
@[simp] theorem State.modGroup_clk (k : Nat) (g : RedGroup → RedGroup) : (s.modGroup k g).clk = s.clk := rfl
@[simp] theorem State.modGroup_fab (k : Nat) (g : RedGroup → RedGroup) : (s.modGroup k g).fab = s.fab := rfl
@[simp] theorem State.modGroup_weir (k : Nat) (g : RedGroup → RedGroup) : (s.modGroup k g).weir = s.weir := rfl
@[simp] theorem State.modGroup_pwr (k : Nat) (g : RedGroup → RedGroup) : (s.modGroup k g).pwr = s.pwr := rfl
@[simp] theorem State.modGroup_tally (k : Nat) (g : RedGroup → RedGroup) : (s.modGroup k g).tally = s.tally := rfl
@[simp] theorem State.modGroup_sec (k : Nat) (g : RedGroup → RedGroup) : (s.modGroup k g).sec = s.sec := rfl
@[simp] theorem State.modGroup_boot (k : Nat) (g : RedGroup → RedGroup) : (s.modGroup k g).boot = s.boot := rfl
@[simp] theorem State.modGroup_pending (k : Nat) (g : RedGroup → RedGroup) : (s.modGroup k g).pending = s.pending := rfl

@[simp] theorem State.putSram_host (tile off : Nat) (b : List Byte) : (s.putSram tile off b).host = s.host := rfl
@[simp] theorem State.putSram_work (tile off : Nat) (b : List Byte) : (s.putSram tile off b).work = s.work := rfl
@[simp] theorem State.putSram_xlat (tile off : Nat) (b : List Byte) : (s.putSram tile off b).xlat = s.xlat := rfl
@[simp] theorem State.putSram_eng (tile off : Nat) (b : List Byte) : (s.putSram tile off b).eng = s.eng := rfl
@[simp] theorem State.putSram_ras (tile off : Nat) (b : List Byte) : (s.putSram tile off b).ras = s.ras := rfl
@[simp] theorem State.putSram_clk (tile off : Nat) (b : List Byte) : (s.putSram tile off b).clk = s.clk := rfl
@[simp] theorem State.putSram_fab (tile off : Nat) (b : List Byte) : (s.putSram tile off b).fab = s.fab := rfl
@[simp] theorem State.putSram_weir (tile off : Nat) (b : List Byte) : (s.putSram tile off b).weir = s.weir := rfl
@[simp] theorem State.putSram_pwr (tile off : Nat) (b : List Byte) : (s.putSram tile off b).pwr = s.pwr := rfl
@[simp] theorem State.putSram_tally (tile off : Nat) (b : List Byte) : (s.putSram tile off b).tally = s.tally := rfl
@[simp] theorem State.putSram_sec (tile off : Nat) (b : List Byte) : (s.putSram tile off b).sec = s.sec := rfl
@[simp] theorem State.putSram_boot (tile off : Nat) (b : List Byte) : (s.putSram tile off b).boot = s.boot := rfl
@[simp] theorem State.putSram_pending (tile off : Nat) (b : List Byte) : (s.putSram tile off b).pending = s.pending := rfl

@[simp] theorem State.withPending_host (l : List Instr) : (s.withPending l).host = s.host := rfl
@[simp] theorem State.withPending_mem (l : List Instr) : (s.withPending l).mem = s.mem := rfl
@[simp] theorem State.withPending_work (l : List Instr) : (s.withPending l).work = s.work := rfl
@[simp] theorem State.withPending_xlat (l : List Instr) : (s.withPending l).xlat = s.xlat := rfl
@[simp] theorem State.withPending_eng (l : List Instr) : (s.withPending l).eng = s.eng := rfl
@[simp] theorem State.withPending_ras (l : List Instr) : (s.withPending l).ras = s.ras := rfl
@[simp] theorem State.withPending_clk (l : List Instr) : (s.withPending l).clk = s.clk := rfl
@[simp] theorem State.withPending_fab (l : List Instr) : (s.withPending l).fab = s.fab := rfl
@[simp] theorem State.withPending_weir (l : List Instr) : (s.withPending l).weir = s.weir := rfl
@[simp] theorem State.withPending_pwr (l : List Instr) : (s.withPending l).pwr = s.pwr := rfl
@[simp] theorem State.withPending_tally (l : List Instr) : (s.withPending l).tally = s.tally := rfl
@[simp] theorem State.withPending_sec (l : List Instr) : (s.withPending l).sec = s.sec := rfl
@[simp] theorem State.withPending_boot (l : List Instr) : (s.withPending l).boot = s.boot := rfl

@[simp] theorem State.takeFree_host : s.takeFree.2.host = s.host := rfl
@[simp] theorem State.takeFree_mem : s.takeFree.2.mem = s.mem := rfl
@[simp] theorem State.takeFree_xlat : s.takeFree.2.xlat = s.xlat := rfl
@[simp] theorem State.takeFree_eng : s.takeFree.2.eng = s.eng := rfl
@[simp] theorem State.takeFree_ras : s.takeFree.2.ras = s.ras := rfl
@[simp] theorem State.takeFree_clk : s.takeFree.2.clk = s.clk := rfl
@[simp] theorem State.takeFree_fab : s.takeFree.2.fab = s.fab := rfl
@[simp] theorem State.takeFree_weir : s.takeFree.2.weir = s.weir := rfl
@[simp] theorem State.takeFree_pwr : s.takeFree.2.pwr = s.pwr := rfl
@[simp] theorem State.takeFree_tally : s.takeFree.2.tally = s.tally := rfl
@[simp] theorem State.takeFree_sec : s.takeFree.2.sec = s.sec := rfl
@[simp] theorem State.takeFree_boot : s.takeFree.2.boot = s.boot := rfl
@[simp] theorem State.takeFree_pending : s.takeFree.2.pending = s.pending := rfl

@[simp] theorem State.setFn_fn_self (f : Nat) (v : Fn) : (s.setFn f v).fn f = v := by simp [State.fn, State.setFn]

@[simp] theorem State.setFn_fn_ne {f g : Nat} (v : Fn) (h : g ≠ f) : (s.setFn f v).fn g = s.fn g := by
  simp [State.fn, State.setFn, h]

@[simp] theorem State.modOp_op?_self (id : Nat) (g : Op → Op) : (s.modOp id g).op? id = (s.op? id).map g := by
  simp [State.op?, State.modOp, State.withOps]

@[simp] theorem State.modOp_op?_ne {id j : Nat} (g : Op → Op) (h : j ≠ id) : (s.modOp id g).op? j = s.op? j := by
  simp [State.op?, State.modOp, State.withOps, h]

@[simp] theorem State.modSluice_at?_self (k : Nat) (g : Sluice → Sluice) :
    (s.modSluice k g).work.sluices.at? k = (s.work.sluices.at? k).map g := by simp [State.modSluice]

@[simp] theorem State.modSluice_at?_ne {k j : Nat} (g : Sluice → Sluice) (h : j ≠ k) :
    (s.modSluice k g).work.sluices.at? j = s.work.sluices.at? j := by simp [State.modSluice, h]

@[simp] theorem State.modSluice_op? (k j : Nat) (g : Sluice → Sluice) : (s.modSluice k g).op? j = s.op? j := rfl

@[simp] theorem State.modPond_at?_self (p : Nat) (g : Pond → Pond) :
    (s.modPond p g).mem.ponds.at? p = (s.mem.ponds.at? p).map g := by simp [State.modPond]

@[simp] theorem State.modPond_at?_ne {p j : Nat} (g : Pond → Pond) (h : j ≠ p) :
    (s.modPond p g).mem.ponds.at? j = s.mem.ponds.at? j := by simp [State.modPond, h]

@[simp] theorem State.modPond_hbm (p : Nat) (g : Pond → Pond) : (s.modPond p g).mem.hbm = s.mem.hbm := rfl

@[simp] theorem State.modPond_sram (p : Nat) (g : Pond → Pond) : (s.modPond p g).mem.sram = s.mem.sram := rfl

@[simp] theorem State.modPond_prog (p : Nat) (g : Pond → Pond) : (s.modPond p g).mem.prog = s.mem.prog := rfl

@[simp] theorem State.modCtx_at?_self (c : Nat) (g : Ctx → Ctx) :
    (s.modCtx c g).host.ctxs.at? c = (s.host.ctxs.at? c).map g := by simp [State.modCtx]

@[simp] theorem State.modCtx_fn (c f : Nat) (g : Ctx → Ctx) : (s.modCtx c g).fn f = s.fn f := rfl

@[simp] theorem State.writeHost_fn (fn addr f : Nat) (b : List Byte) : (s.writeHost fn addr b).fn f = s.fn f := rfl

@[simp] theorem State.setFn_op? (f j : Nat) (v : Fn) : (s.setFn f v).op? j = s.op? j := rfl

end Sys2Proof.Machine
end

