-- ==== Sys2Proof/Laws/Ops.lean ====
section
/-! SUPPORT. What each shared operation can do, said once: the relation `Apart` (a state differs at most in the work, the
engines, the host interface and the fabric) for ending, aborting and completing work, and the relation `Keeps` (the
queue stands and memories stay canonical) for operations that write memory. -/

namespace Sys2Proof.Machine

/-- Two states agree on memory, translation, errors, clock, weir, power, tally, security, boot and the queue. -/
structure Apart (s t : State) : Prop where
  mem : t.mem = s.mem
  xlat : t.xlat = s.xlat
  ras : t.ras = s.ras
  clk : t.clk = s.clk
  weir : t.weir = s.weir
  pwr : t.pwr = s.pwr
  tally : t.tally = s.tally
  sec : t.sec = s.sec
  boot : t.boot = s.boot
  pending : t.pending = s.pending

/-- The queue stands, and the memories are canonical if they were. -/
structure Keeps (s t : State) : Prop where
  pending : t.pending = s.pending
  memWf : s.memWf = true → t.memWf = true

@[refl] theorem Apart.refl (s : State) : Apart s s := ⟨rfl, rfl, rfl, rfl, rfl, rfl, rfl, rfl, rfl, rfl⟩

@[trans] theorem Apart.trans {s t u : State} (h : Apart s t) (k : Apart t u) : Apart s u :=
  ⟨k.mem.trans h.mem, k.xlat.trans h.xlat, k.ras.trans h.ras, k.clk.trans h.clk, k.weir.trans h.weir,
    k.pwr.trans h.pwr, k.tally.trans h.tally, k.sec.trans h.sec, k.boot.trans h.boot, k.pending.trans h.pending⟩

theorem Apart.foldl {β : Type} {g : State → β → State} (hg : ∀ s b, Apart s (g s b)) (l : List β) (s : State) :
    Apart s (l.foldl g s) := by
  induction l generalizing s with
  | nil => exact .refl s
  | cons b l ih => exact (hg s b).trans (ih _)

@[refl] theorem Keeps.refl (s : State) : Keeps s s := ⟨rfl, id⟩

@[trans] theorem Keeps.trans {s t u : State} (h : Keeps s t) (k : Keeps t u) : Keeps s u :=
  ⟨k.pending.trans h.pending, k.memWf ∘ h.memWf⟩

theorem Keeps.foldl {β : Type} {g : State → β → State} (hg : ∀ s b, Keeps s (g s b)) (l : List β) (s : State) :
    Keeps s (l.foldl g s) := by
  induction l generalizing s with
  | nil => exact .refl s
  | cons b l ih => exact (hg s b).trans (ih _)

theorem State.memWf_iff (s : State) :
    s.memWf = true ↔ s.mem.hbm.wf = true ∧ s.mem.sram.wf = true ∧ s.mem.prog.wf = true := by
  simp [State.memWf, and_assoc]

/-- Where the three memories and the queue stand, so does everything `Keeps` asks. -/
theorem Keeps.of_eq {s t : State} (hp : t.pending = s.pending) (hh : t.mem.hbm = s.mem.hbm)
    (hs : t.mem.sram = s.mem.sram) (hg : t.mem.prog = s.mem.prog) : Keeps s t :=
  ⟨hp, fun h => by rw [State.memWf_iff] at h ⊢; rwa [hh, hs, hg]⟩

theorem Apart.keeps {s t : State} (h : Apart s t) : Keeps s t :=
  .of_eq h.pending (by rw [h.mem]) (by rw [h.mem]) (by rw [h.mem])

/-- Reset's memories are canonical. -/
theorem reset_memWf : State.reset.memWf = true := by decide

theorem apart_setFn (s : State) (f : Nat) (v : Fn) : Apart s (s.setFn f v) := ⟨rfl, rfl, rfl, rfl, rfl, rfl, rfl, rfl, rfl, rfl⟩

theorem apart_setCq (s : State) (f k : Nat) (q : CompletionQueue) : Apart s (s.setCq f k q) := apart_setFn ..

theorem apart_setSq (s : State) (f k : Nat) (q : SubmissionQueue) : Apart s (s.setSq f k q) := apart_setFn ..

theorem apart_modOp (s : State) (id : Nat) (g : Op → Op) : Apart s (s.modOp id g) := ⟨rfl, rfl, rfl, rfl, rfl, rfl, rfl, rfl, rfl, rfl⟩

theorem apart_modSluice (s : State) (k : Nat) (g : Sluice → Sluice) : Apart s (s.modSluice k g) := ⟨rfl, rfl, rfl, rfl, rfl, rfl, rfl, rfl, rfl, rfl⟩

theorem apart_modCtx (s : State) (c : Nat) (g : Ctx → Ctx) : Apart s (s.modCtx c g) := ⟨rfl, rfl, rfl, rfl, rfl, rfl, rfl, rfl, rfl, rfl⟩

theorem apart_send (s : State) (m : FabMsg) : Apart s (s.send m) := ⟨rfl, rfl, rfl, rfl, rfl, rfl, rfl, rfl, rfl, rfl⟩

theorem apart_sendOn (s : State) (m : FabMsg) (sub : Nat) : Apart s (s.sendOn m sub) := ⟨rfl, rfl, rfl, rfl, rfl, rfl, rfl, rfl, rfl, rfl⟩

theorem apart_writeHost (s : State) (fn addr : Nat) (b : List Byte) : Apart s (s.writeHost fn addr b) := ⟨rfl, rfl, rfl, rfl, rfl, rfl, rfl, rfl, rfl, rfl⟩

theorem apart_dropRun (s : State) (id : Nat) : Apart s (s.dropRun id) := ⟨rfl, rfl, rfl, rfl, rfl, rfl, rfl, rfl, rfl, rfl⟩

/-- An interrupt sent or kept pending. -/
theorem apart_sendMsi (s : State) (f v : Nat) : Apart s (s.sendMsi f v) := by
  unfold State.sendMsi
  split
  · rfl
  · dsimp only
    split
    · exact apart_setFn ..
    · exact ⟨rfl, rfl, rfl, rfl, rfl, rfl, rfl, rfl, rfl, rfl⟩

theorem apart_writeEvent (s : State) (f : Nat) (q : EventQueue) (code payload : Nat) : Apart s (s.writeEvent f q code payload) :=
  (apart_writeHost ..).trans ((apart_setFn ..).trans (apart_sendMsi ..))

/-- An event posted changes the host interface alone. -/
theorem apart_post (s : State) (f code payload : Nat) : Apart s (s.post f code payload) := by
  unfold State.post
  split
  · rfl
  · split
    · rfl
    · split
      · exact apart_setFn ..
      · exact apart_writeEvent ..

theorem apart_redCancels (s : State) (id : Nat) : Apart s (s.redCancels id) := by
  unfold State.redCancels
  split
  · rfl
  · split
    · rfl
    · refine Apart.foldl (fun s p => ?_) _ _
      split
      · exact Apart.foldl (fun _ _ => apart_send ..) _ _
      · rfl

/-- An operation that ends. -/
theorem apart_endOp (s : State) (id status detail : Nat) : Apart s (s.endOp id status detail) := by
  unfold State.endOp
  split
  · rfl
  · split
    · rfl
    · refine Apart.trans ?_ ((apart_modOp ..).trans (apart_dropRun ..))
      split
      · rfl
      · exact apart_redCancels ..

theorem apart_endOps (s : State) (ids : List Nat) (status detail : Nat) : Apart s (s.endOps ids status detail) :=
  Apart.foldl (fun _ _ => apart_endOp ..) _ _

theorem apart_abortNotice (s : State) (e : Sluice) (reason origin : Nat) : Apart s (s.abortNotice e reason origin) := by
  unfold State.abortNotice
  split
  · rfl
  · split
    · split
      · rfl
      · exact apart_send ..
    · exact Apart.foldl (fun _ _ => apart_send ..) _ _

/-- A sluice that aborts: what it staged is dropped and no published byte changes. -/
theorem apart_abortSluiceWith (s : State) (tell : Bool) (k reason origin : Nat) :
    Apart s (s.abortSluiceWith tell k reason origin) := by
  unfold State.abortSluiceWith
  split
  · rfl
  · split
    · rfl
    · refine Apart.trans ?_ ((apart_modSluice ..).trans ((apart_endOps ..).trans ((apart_endOp ..).trans (apart_endOps ..))))
      split
      · exact apart_abortNotice ..
      · rfl

theorem apart_abortSluice (s : State) (k reason origin : Nat) : Apart s (s.abortSluice k reason origin) :=
  apart_abortSluiceWith ..

theorem apart_abortSluicesOf (s : State) (ids : List Nat) (reason : Nat) : Apart s (s.abortSluicesOf ids reason) := by
  refine Apart.trans (Apart.foldl (fun s i => ?_) _ _) (Apart.foldl (fun _ _ => apart_abortSluice ..) _ _)
  split
  · split
    · rfl
    · exact apart_abortSluice ..
  · rfl

theorem apart_abortOpened (s : State) (c : Nat) : Apart s (s.abortOpened c) :=
  Apart.foldl (fun _ _ => apart_abortSluice ..) _ _

/-- A context marked lost. -/
theorem apart_markLost (s : State) (c id : Nat) : Apart s (s.markLost c id) := by
  unfold State.markLost
  split
  · rfl
  · split
    · rfl
    · exact (apart_modCtx ..).trans ((apart_endOps ..).trans ((apart_abortSluicesOf ..).trans (apart_abortOpened ..)))

/-- An operation whose status is decided, with its sluice's abort and its context's loss. -/
theorem apart_decide (s : State) (id status detail : Nat) : Apart s (s.decide id status detail) := by
  unfold State.decide
  split
  · rfl
  · split
    · rfl
    · have h2 : ∀ o : Op, Apart s (if (status = Status.success || o.sluice = 0) = true then s.endOp id status detail
          else (s.endOp id status detail).abortSluice o.sluice (reasonOf status) 0xFFFF) := by
        intro o
        split
        · exact apart_endOp ..
        · exact (apart_endOp ..).trans (apart_abortSluice ..)
      dsimp only
      split
      · exact (h2 _).trans (apart_markLost ..)
      · exact h2 _

theorem apart_succeed (s : State) (id : Nat) : Apart s (s.succeed id) := apart_decide ..

theorem apart_conflicts (s : State) (slu off n : Nat) : Apart s (s.conflicts slu off n) :=
  Apart.foldl (fun _ _ => apart_abortSluice ..) _ _

theorem apart_countEntry (s : State) (f cq : Nat) (counts : Bool) : Apart s (s.countEntry f cq counts) := by
  unfold State.countEntry
  split
  · rfl
  · split
    · rfl
    · split
      · exact (apart_setCq ..).trans (apart_sendMsi ..)
      · exact apart_setCq ..

/-- A completion entry changes the host interface alone. -/
theorem apart_writeCompletion (s : State) (o : Op) (status detail : Nat) : Apart s (s.writeCompletion o status detail) := by
  unfold State.writeCompletion
  dsimp only
  split
  · rfl
  · split
    · exact apart_setCq ..
    · exact (apart_writeHost ..).trans ((apart_setCq ..).trans (apart_countEntry ..))

theorem apart_checkWait (s : State) (id : Nat) : Apart s (s.checkWait id) := by
  unfold State.checkWait
  split
  · rfl
  · split
    · rfl
    · dsimp only
      split
      · exact apart_modOp ..
      · split
        · rfl
        · exact apart_decide ..
        · split
          · exact apart_modOp ..
          · rfl

theorem apart_recheckWaiters (s : State) (f va : Nat) : Apart s (s.recheckWaiters f va) :=
  Apart.foldl (fun _ _ => apart_checkWait ..) _ _

theorem keeps_putGranule (s : State) (off : Nat) (b : List Byte) : Keeps s (s.putGranule off b) := by
  unfold State.putGranule
  split
  · rfl
  · split
    · rfl
    · dsimp only
      split
      · rfl
      · refine ⟨rfl, fun h => ?_⟩
        rw [State.memWf_iff] at h ⊢
        exact ⟨Memory.wf_write _ _ h.1, h.2⟩

theorem keeps_putBytes (s : State) (off : Nat) (b : List Byte) : Keeps s (s.putBytes off b) :=
  Keeps.foldl (fun _ _ => keeps_putGranule ..) _ _

theorem keeps_logDirty (s : State) (off n : Nat) : Keeps s (s.logDirty off n) := by
  unfold State.logDirty
  split
  · rfl
  · split
    · rfl
    · split
      · rfl
      · refine Keeps.foldl (fun s pg => ?_) _ _
        split
        · rfl
        · refine ⟨rfl, fun h => ?_⟩
          rw [State.memWf_iff] at h ⊢
          exact ⟨Memory.wf_put _ _ h.1, h.2⟩

theorem keeps_noteMoving (s : State) (off n : Nat) : Keeps s (s.noteMoving off n) := .of_eq rfl rfl rfl rfl

/-- A write landed at its home keeps the memories canonical. -/
theorem keeps_landWrite (s : State) (slu off : Nat) (b : List Byte) : Keeps s (s.landWrite slu off b) := by
  unfold State.landWrite
  split
  · rfl
  · dsimp only
    refine Keeps.trans ?_ (apart_conflicts ..).keeps
    refine Keeps.trans ?_ (keeps_noteMoving ..)
    refine Keeps.trans ?_ (keeps_logDirty ..)
    refine Keeps.trans ?_ (keeps_putBytes ..)
    exact .of_eq rfl rfl rfl rfl

theorem keeps_putSram (s : State) (tile off : Nat) (b : List Byte) : Keeps s (s.putSram tile off b) := by
  refine ⟨rfl, fun h => ?_⟩
  rw [State.memWf_iff] at h ⊢
  exact ⟨h.1, Memory.wf_write _ _ h.2.1, h.2.2⟩

end Sys2Proof.Machine
end

