-- ==== Sys2Proof/Tests/Slice0.lean ====
section
/-! SUPPORT. The model's own tests: the well-formedness smoke test, single steps whose results the spec gives, and for
every statement for the provers a witness that the hypotheses of each of its clauses can be met together. -/

namespace Sys2Proof.Tests

set_option Elab.async false

open Sys2Proof Sys2Proof.Machine

/-- An operation of pond 1 and context 0, fetched from ring 0 of the physical function, whose wait is met. -/
def mkOp (d : Nat) : Op where
  fn := 0
  sq := 0
  cq := 0
  idx := 0
  ctx := 0
  pond := 1
  desc := d
  phase := .fetched
  waitMet := true
  status := 0
  detail := 0
  nflags := 0
  retried := false
  rerun := false
  noHeader := false
  sluice := 0
  step := 0
  engine := 0
  queuedAt := 0
  deadline := 0
  done := []
  push := false
  count := 0
  awaitsRegrow := false
  coin := 0
  olds := []

/-- A descriptor of opcode `opc` with the given fields: (byte, bit, value). -/
def dsc (opc : Nat) (l : List (Nat × Nat × Nat)) : Nat :=
  l.foldl (fun d x => d + x.2.2 <<< (8 * x.1 + x.2.1)) (1 + opc <<< 8)

def plot0 : Plot := { s := 0, die := 0, base := 0, chans := [0], owner := 1 }
def plot1 : Plot := { s := 0, die := 0, base := 0, chans := [1], owner := 0 }

def pondA : Pond where
  inst := 0
  binding :=
    { tilesM := [some 0, some 1], tilesV := [some 384, some 385], flume := 1, regrow := 0, subl := 1,
      loft := 2 ^ 64 - 1, plots := [(0, plot0)], chans := [0] }
  weight := 16
  quantum := 10
  running := 1
  since := 0
  switch := none
  rebind := none
  reserved := []
  beats := none
  beatCount := 0

def ctxA : Ctx where
  pond := 1
  saveAddr := 0
  saveSize := 0
  evtAddr := 0
  evtCount := 0
  prio := 2
  lost := false
  lossOp := 0
  saved := false
  waitSince := 0
  idleSince := 0
  readyAt := 0

def eqA : EventQueue where
  base := 0x1000
  headAddr := 0x2000
  log2 := 4
  next := 15
  phase := true
  seq := 7
  head := 14
  badRun := false
  discarded := 0

def cqA : CompletionQueue where
  base := 0x3000
  headAddr := 0x4000
  log2 := 4
  irqMode := 1
  irqCount := 1
  irqDelay := 0
  next := 0
  phase := true
  head := 0
  badRun := false
  reserved := 1
  stallSince := 0
  stallPosted := false
  counted := 0
  countedAt := 0

def sqA : SubmissionQueue where
  base := 0x5000
  dbAddr := 0x6008
  log2 := 4
  cq := 0
  ctx := 0
  version := 1
  head := 15
  tail := 3
  stopped := false
  destroying := false
  cluster := 0
  cached := false
  stepLeft := 0
  stepId := 0

/-- The physical function with its rings. -/
def pf : Fn := { Fn.reset with ctxCount := 4, ctxSet := true, eq := some eqA, cqs := [(0, cqA)], sqs := [(0, sqA)] }

/-- Instance 0, enabled and active. -/
def vf : Fn := { Fn.reset with enable := true, ctxMax := 16, sqMax := 4, state := .active }

/-- A device that is powered up and ready, linked to the host, with two functions, one context, one pond and two
plots; virtual addresses below 512 MiB of the physical function lead to plot 0 and the next 512 MiB to plot 1. -/
def up : State :=
  { State.reset with
    host := { HostPart.reset with
      fns := [(0, pf), (1, vf)], ctxs := [(0, ctxA)], slots := [(0, { ctx := 0, phase := .resident, since := 0, idle := false })]
      vfEnable := true, numVfs := 2, speed := 6, width := 16, cxl := 2 }
    mem := { MemPart.reset with remap := [(0, plot0), (1, plot1)], ponds := [(1, pondA)] }
    xlat := { XlatPart.reset with tlb := ((List.range 4).map (fun d => [
      { die := d, fn := 0, slot := 0, span := 29, vpage := 0, pa := 0xFFFF * 2 ^ 43, hint := 0, used := 0 },
      { die := d, fn := 0, slot := 0, span := 29, vpage := 1, pa := 0xFFFF * 2 ^ 43 + 2 ^ 29, hint := 0, used := 0 }])).flatten }
    clk := { ClockPart.reset with tb := 5000000 * 2 ^ 32, rootLocked := true, refPresent := true }
    pwr := { PowerPart.reset with pwrOk := true, pwrReq := true, reached := 7, xrailEn := true, hbmEn := true,
                                  xrailGood := true, hbmGood := true, poweredBefore := true }
    boot := { BootPart.reset with ready := true, perst := false, stage := 8, mwUp := true } }

/-- `up` with operation 1. -/
def upOp (o : Op) : State := up.withOps [(1, o)]

/-- `up` with an operation of the given descriptor that may go on. -/
def world (d : Nat) : State := upOp (mkOp d)

def setPf (s : State) (g : Fn → Fn) : State := s.setFn 0 (g (s.fn 0))

/-- Reads from outside the device answer zeros. -/
def ext0 : Ext := { bytes := [], refused := false, poison := false, lats := [] }

def accGet {α : Type} (d : α) : Acc α → α
  | .ok a => a
  | _ => d

def accGood {α : Type} : Acc α → Bool
  | .ok _ => true
  | _ => false

theorem acc_ok {α : Type} {d : α} {a : Acc α} (h : accGood a = true) : a = .ok (accGet d a) := by
  cases a with
  | ok x => rfl
  | _ => cases h

theorem acc_is {α : Type} {d x : α} {a : Acc α} (h : accGood a = true ∧ accGet d a = x) : a = .ok x := by
  obtain ⟨h, rfl⟩ := h
  exact acc_ok h

def wroteGet (d : State) : Wrote → State
  | .ok s => s
  | _ => d

def wroteGood : Wrote → Bool
  | .ok _ => true
  | _ => false

theorem wrote_ok {d : State} {w : Wrote} (h : wroteGood w = true) : w = .ok (wroteGet d w) := by
  cases w with
  | ok x => rfl
  | _ => cases h

/-- A mill op's run on tile 0. -/
def millA (table : List Nat) (k : MillRank) : MillRun :=
  { order := 1, anchors := [0, 0, 0], raised := [], table, act := [], ranks := [(0, k)], delivered := [], ovf := 0,
    retried := false, amaxBad := false }

def rankA : MillRank :=
  { tile := 0, lane := 0, part := 0, k0 := 0, k1 := 32, done := 0, q := 0, cells := [], landed := [], amax := 0 }

/-- `up` with a mill op running as operation 1. -/
def milling (d : Nat) (m : MillRun) : State :=
  { upOp { mkOp d with phase := .running } with eng := { up.eng with mills := [(1, m)], order := 1 } }

/-- A gemm of one row, one column and 32 k-steps in BF16. -/
def gemmD : Nat := dsc 0x20 [(2, 0, 4), (4, 0, 9), (0x20, 0, 1), (0x24, 0, 1), (0x28, 0, 32), (0x2C, 0, 2), (0x2C, 8, 2),
  (0x2C, 16, 1), (0x34, 0, 1), (0x40, 0, 0x1000), (0x48, 0, 0x2000), (0x50, 0, 0x3000), (0xD0, 10, 1), (0xD4, 0, 2), (0xD4, 10, 1)]

/-- An attend of one sequence of one query and one position. -/
def attendD (split : Nat) : Nat := dsc 0x22 [(2, 0, 3), (4, 0, 9), (0x20, 0, 1), (0x24, 0, 1), (0x24, 16, 1), (0x28, 0, 1),
  (0x2C, 0, 2), (0x2C, 5, 2), (0x2C, 10, 1), (0x2C, 15, 1), (0x38, 0, 1), (0x38, 16, split), (0x40, 0, 0x1000), (0x48, 0, 0x2000),
  (0x50, 0, 0x3000)]

/-- Its sequence record: one position, folio list at 0x100. -/
def seqR : Nat := 1 + 1 * 2 ^ 32 + 0x100 * 2 ^ 64 + 1 * 2 ^ 160

/-- The state with bytes of HBM in channel 0. -/
def withHbm (s : State) (a : Nat) (bs : List Byte) : State := { s with mem := { s.mem with hbm := s.mem.hbm.write a bs } }

/-- A pack of one row of 32 BF16 elements to FP32. -/
def packD : Nat := dsc 0x23 [(2, 0, 2), (4, 0, 9), (0x20, 0, 1), (0x24, 0, 32), (0x28, 0, 2), (0x28, 8, 1), (0x2C, 16, 1),
  (0x30, 0, 0x1000), (0x38, 0, 0x2000), (0x40, 0, 64), (0x44, 0, 128)]

/-- A Vane run of one rank on tile 384. -/
def vaneD : Nat := dsc 0x31 [(2, 0, 4), (4, 0, 9), (0x20, 16, 1)]

/-- Its rank, part-way: every lane of v1 to v31 and s1 to s15 hold differing values, p1 is every other lane, p2 none. -/
def vaneK : VaneRank :=
  { startRank vaneD 0 384 with
    v := (List.range 32).map (fun n => (List.range 64).map (fun i => BitVec.ofNat 32 (n * 0x3F812345 + i * 0x00C10F08)))
    s := [0, 3, 64, 16, 5, 0xFFFFFFFFFFFFFFF0, 4096, 0x8000000000000001, 2, 0x1FFFF0, 1, 100, 8191, 8192, 0, 0]
    p := [0, 0x5555555555555555, 0, 0xFF, 1, 0, 0, 0]
    pc := 100 }

/-- That run, about to issue the instruction word `w`. -/
def vaneUp (k : VaneRank) (w : Nat) : State :=
  { upOp { mkOp vaneD with phase := .running } with
    eng := { up.eng with
      order := 1
      runs := [(1, { order := 1, tiles := [384, 385], load := false, started := true, ranks := [k], ovf := 0, nextTransfer := 1 })] }
    mem := { up.mem with prog := up.mem.prog.write (384 * 0x10000 + 8 * k.pc) (leBytes 8 w) } }

/-- An instruction word (R160). -/
def vw (op d a b c g imm : Nat) : Nat :=
  op <<< 56 + d <<< 51 + a <<< 46 + b <<< 41 + c <<< 36 + g <<< 33 + imm

theorem env_any {s : State} {id r : Nat} {P : VaneEnv → Bool} (h : (s.vaneEnv id r).any P = true) :
    ∃ e, s.vaneEnv id r = some e ∧ P e = true := by
  cases he : s.vaneEnv id r with
  | none => rw [he] at h; cases h
  | some e => rw [he] at h; exact ⟨e, rfl, h⟩

/-- A rank issues instruction word `w`, which its program holds, and the instruction is well formed. -/
def issues (k : VaneRank) (w : Nat) : Bool :=
  ((vaneUp k w).vaneEnv 1 0).any (fun e => e.i.ok && e.k.pc < 8191 && e.i.op = w >>> 56)

theorem none_all {α : Type} {o : Option α} {P : α → Prop} (h : o.isNone = true) : ∀ q, o = some q → P q := by
  rintro q rfl
  cases h

def badGet (d : State) : Wrote → State × Nat × Nat
  | .bad s st x => (s, st, x)
  | _ => (d, 0, 0)

def wroteBad : Wrote → Bool
  | .bad _ _ _ => true
  | _ => false

theorem wrote_bad {d : State} {w : Wrote} (h : wroteBad w = true) :
    w = .bad (badGet d w).1 (badGet d w).2.1 (badGet d w).2.2 := by
  cases w with
  | bad s st x => rfl
  | _ => cases h

/-- A transfer of four bytes of address 0x2000 and offset 64 of tile 384, to rank 1's offset 0x1FFFFC. -/
def moveT (kind : Nat) (landed : Bool) : Transfer :=
  { id := 7, kind, va := 0x2000, off := 64, len := 4, dest := 1, doff := 0x1FFFFC, counter := 3, inc := true
    data := [1, 2, 3, 4], undef := [], landed, pc := 99 }

def moveK (kind : Nat) (landed : Bool) : VaneRank := { vaneK with transfers := [moveT kind landed] }

def moveRun (kind : Nat) (landed : Bool) : VaneRun :=
  { order := 1, tiles := [384, 385], load := false, started := true, ranks := [moveK kind landed], ovf := 0, nextTransfer := 1 }

def moveS (kind : Nat) (landed : Bool) : State := vaneUp (moveK kind landed) 0

def moveO : Op := { mkOp vaneD with phase := .running }

/-- Sluice 77 of the physical function in state `st`, as sluice 3, beside an operation. -/
def sluA (st : SluiceState) : Sluice :=
  { fn := 0, id := 77, mere := 0, participant := false, coord := 0, parts := [], timeoutUs := 0, state := st, home := 0
    opener := 0, visible := true, openSq := 0, staged := [], spilled := [], guards := [5], conflict := false, reason := 0
    origin := 0, commitOp := 0, abortOps := [], votes := [], acks := [], deadline := 0, recorded := [], published := false
    silent := false }

def sluS (e : Sluice) (s : State) : State := { s with work := { s.work with sluices := [(3, e)], nextSluice := 4 } }

/-- Pond 1 of `s` changed. -/
def pondUp (g : Pond → Pond) (s : State) : State := { s with mem := { s.mem with ponds := [(1, g pondA)] } }

/-- A re-bind of pond 1 that moves no plot and takes mill tile 5. -/
def rebA (ready switching : Bool) : Rebind :=
  { op := 1, binding := { pondA.binding with tilesM := [some 5] }, engines := 1, deadline := 0, moving := [], dirty := [3, 4]
    ready, switching }

def stepA : BeatStep :=
  { id := 4, fn := 0, sq := 0, prefill := false, costC := 1, costM := 1, key := 0, last := true, left := 0, readyAt := 1
    released := false, tooLong := false }

def beatA (running : Bool) : Beats :=
  { events := false, period := 1000000, catchUp := 3, floor := 1, t0 := 0, number := 2 ^ 48 - 1, running, grid := 1000000
    start := 1000000, lag := 0, budget := 900000, sumC := 0, sumM := 0, tokens := 0, prefills := 0, left := 0, lagPosted := 0
    next := none, stopping := false, steps := [stepA] }

/-- `up` with sub-link 63 in the given state. -/
def linkUp (l : SubLink) : State := { up with fab := { up.fab with subs := [(63, l)] } }

/-- Instance 0 with nothing of its own, in state `st`, beside an operation of the manager. -/
def instUp (st : InstState) (s : State) : State := s.setFn 1 { vf with state := st }

/-- A joined device 0x102: sub-link 0 is up towards device 0x103, a member of mere 6, of which pond 1 is this device's
part; the functions' third half-gibibyte leads to device 0x103. -/
def fabUp : State :=
  { up with
    fab := { up.fab with
      join := .joined, devId := 0x102, upSeen := 1, meres := [(6, { pond := 1, slot := 0, map := [0x102, 0x103] })]
      subs := [(0, { SubLink.reset with state := .up, nDev := 0x103, nSub := 5 })], neighbours := [(0, { dev := 0x103, state := 5, leaderOk := true })]
      routeMbr := [(3, 0x140)], routeSet := [(0, 1)], leaderMember := 3, areaHi := 0x80000000, areaLo := 0x20100000 }
    xlat := { up.xlat with tlb :=
      { die := 0, fn := 0, slot := 0, span := 29, vpage := 2, pa := 0x103 * 2 ^ 43, hint := 0, used := 0 } :: up.xlat.tlb } }

/-- `fabUp` with an operation. -/
def fabOp (o : Op) : State := fabUp.withOps [(1, o)]

def winA (base : Nat) : Window := { rd := true, wr := true, req := 0x103, mere := 6, base, pages := 1, clearing := 0 }

def winUp (w : Window) : State := { fabUp with xlat := { fabUp.xlat with windows := [(4095, w)] } }

/-- Subscription 4: 128 bytes of device 0x103, landing at local offset 0x100. -/
def pushA (op : Nat) (waiting : List (Nat × List (Nat × Nat))) : PushIn :=
  { fn := 0, dev := 0x103, mere := 6, srcVa := 0x40000000, landVa := 0x100, src := 0, dst := 0x100, len := 128, timeoutUs := 0
    op, waiting }

def pushUp (x : PushIn) (o : Op) : State := { fabOp o with fab := { fabUp.fab with pushIn := [(4, x)] } }

def imgA (kind : Nat) : Image := { kind, key := 0, svn := 0, release := 1, digest := [7], genuine := true }

def outGet (d : State) : Out → State
  | .next s => s
  | _ => d

def outGood : Out → Bool
  | .next _ => true
  | _ => false

theorem out_ok {d : State} {a : Out} (h : outGood a = true) : a = .next (outGet d a) := by
  cases a with
  | next s => rfl
  | _ => cases h

/-! The well-formedness check refuses an operand past its range, one term for each kind of operand. -/

theorem test_wf_func : (Instr.hotReset.wf, (Instr.createEq 512).wf, (Instr.createEq 513).wf) = (true, true, false) := by decide
theorem test_wf_queue : ((Instr.cqStalled 0 63).wf, (Instr.cqStalled 0 64).wf) = (true, false) := by decide
theorem test_wf_die : ((Instr.stageWaysApply 3).wf, (Instr.stageWaysApply 4).wf) = (true, false) := by decide
theorem test_wf_subLink : ((Instr.lightLoss 63).wf, (Instr.lightLoss 64).wf) = (true, false) := by decide
theorem test_wf_island : ((Instr.islandSettled 511).wf, (Instr.islandSettled 512).wf) = (true, false) := by decide
theorem test_wf_transport : ((Instr.bootLog 3).wf, (Instr.bootLog 4).wf) = (true, false) := by decide
theorem test_wf_memPort : ((Instr.weirRecompute 23).wf, (Instr.weirRecompute 24).wf) = (true, false) := by decide
theorem test_wf_seam : ((Instr.seamReplayTimeout 7).wf, (Instr.seamReplayTimeout 8).wf) = (true, false) := by decide
theorem test_wf_domain : ((Instr.droopCrossing 590).wf, (Instr.droopCrossing 591).wf) = (true, false) := by decide
theorem test_wf_pond : ((Instr.rebindPoint 511).wf, (Instr.rebindPoint 512).wf) = (true, false) := by decide
theorem test_wf_inst : ((Instr.quiesceDrained 511).wf, (Instr.quiesceDrained 512).wf) = (true, false) := by decide
theorem test_wf_rank : ((Instr.halt 0 511).wf, (Instr.halt 0 512).wf) = (true, false) := by decide
theorem test_wf_word : ((Instr.voltageCommand 0xFFFFFFFF).wf, (Instr.voltageCommand 0x100000000).wf) = (true, false) := by decide
theorem test_wf_unitClass : ((Instr.unitFailure 10 0).wf, (Instr.unitFailure 11 0).wf) = (true, false) := by decide
theorem test_wf_device : ((Instr.brumWakeWrite 0xFFFF).wf, (Instr.brumWakeWrite 0x10000).wf) = (true, false) := by decide
theorem test_wf_mereHandle : ((Instr.sluiceAck 0xFFFFFFFF 0 0).wf, (Instr.sluiceAck 0x100000000 0 0).wf) = (true, false) := by
  decide

/-! The spec's worked examples. -/

/-- Below R5: Z2.07.11 is tile 254 and Z1.05.09 is tile 430. -/
theorem test_tile_numbers : (tileAtStop 2 (12 * 7 + 11), tileAtStop 1 (12 * 5 + 9)) = (some 254, some 430) := by decide +kernel

/-- Below R211: local offset 0x4_A012_3456 of plot 37 on channels 96 to 103. -/
theorem test_plot_channel : 0x4A0123456 / 0x20000000 = 37
    ∧ ({ s := 3, die := 1, base := 4, chans := (List.range 8).map (96 + ·), owner := 0 } : Plot).chanAddr 0x123456
      = 100 * 0x80000000 + 0x04024456
    ∧ sliceOf 0x4A0123456 = 106 ∧ setOf 0x4A0123456 = 352 ∧ sliceAtStop 1 (12 * 10) = some (128 + 106) := by decide +kernel

/-- Below R55: 349 × 2^-12 to E4M3, by RNE and by RTZ. -/
theorem test_e4m3_rounding : (FloatFmt.e4m3.convert 0 false 0 (.fin false 349 (-12))).1 = 0x1B
    ∧ (FloatFmt.e4m3.convert 1 false 0 (.fin false 349 (-12))).1 = 0x1A := by decide +kernel

/-- 15.5, -5, 0.375 and 0.6875. -/
def mxRow : List Val := [.fin false 31 (-1), .fin true 5 0, .fin false 3 (-3), .fin false 11 (-4)]

/-- Below R57: the row as MXFP4, by RNE: scale 0x80, bytes 0xC7 and 0x10, and overflow. -/
theorem test_mx_rne : (quantise 0x0D 0 mxRow [0, 0, 0, 0]).1 = 0x80
    ∧ packBits 4 (quantise 0x0D 0 mxRow [0, 0, 0, 0]).2.1 = [0xC7, 0x10] ∧ (quantise 0x0D 0 mxRow [0, 0, 0, 0]).2.2 = 4 := by
  decide +kernel

/-- Below R61: the same by SR with the random number 0x4C3A91 at position 2, and position 1 on either side of its
threshold. -/
theorem test_mx_sr : (quantise 0x0D 2 mxRow [0, 8388607, 0x4C3A91, 0xFFFFFF]).2.1.take 3 = [7, 0xD, 1]
    ∧ (quantise 0x0D 2 mxRow [0xFFFFFF, 8388608, 0xFFFFFF, 0xFFFFFF]).2.1.take 2 = [7, 0xC] := by decide +kernel

/-- Below R68: five products at anchor 99 sum to 257 units. -/
theorem test_quern_sum : ([Val.fin false 1 (-4), .fin false 5 (-14), .fin false 1 (-13), .fin false 3 (-13), .fin true 7 (-14)].foldl
    (fun q v => q.add (termOf 99 v)) Quern.zero).n = 257 := by decide +kernel

/-- Below R116: 128 blocks over 12 lanes of four ranks. -/
theorem test_gemm_split :
    let d := dsc 0x20 [(0x20, 0, 1000), (0x24, 0, 2048), (0x34, 16, 4)]
    (millItems d []).length = 128 ∧ millSplit d = 4 ∧ (laneItems (millItems d []) 12 7).length = 11
      ∧ (laneItems (millItems d []) 12 8).length = 10
      ∧ ((millItems d [])[77]?).map (fun i => (i.row0, i.rows, i.col0, i.cols)) = some (512, 128, 1664, 128)
      ∧ ((millItems d [])[127]?).map (fun i => (i.row0, i.rows)) = some (896, 104) := by decide +kernel

/-- Below R147: a decode item is one query row over the heads of one KV head: 8 items. -/
theorem test_attend_items :
    ((millItems (dsc 0x22 [(0x24, 0, 32), (0x24, 16, 8), (0x28, 16, 1)]) [1 <<< 160]).map (fun i => (i.row0, i.rows, i.col0)))
      = (List.range 8).map (fun h => (0, 1, h)) := by decide +kernel

/-- Below R186: QMAC v1, v1, s9 is 0x7100_4290_0000_0000. -/
theorem test_qmac_encoding : vaneFields 0x7100429000000000
    = { op := 0x71, d := 0, a := 1, b := 1, c := 9, g := 0, z := false, imm := 0 } := rfl

/-- A beat step with its costs. -/
def stepOf (id : Nat) (prefill : Bool) (c m : Nat) : BeatStep := { stepA with id, prefill, costC := c, costM := m, last := false }

/-- The ready steps of the beat example: 40 token steps and a long prompt. -/
def beatEx (lag : Nat) : State :=
  { up with
    clk := { up.clk with tb := 20000000 * 2 ^ 32 }
    mem := { up.mem with ponds := [(1, { pondA with beats := some { beatA false with
      period := 10000000, catchUp := 64, floor := 0, grid := 20000000 - lag
      steps := (List.range 40).map (fun i => stepOf (i + 1) false 250 1000)
        ++ (List.range 9).map (fun i => stepOf (i + 100) true 12000 3000) } })] } }

/-- The budget in ns and the prefill units of the beat that starts. -/
def beatOut (lag : Nat) : Option (Nat × Nat × Nat) :=
  match exec (.beatStart 1) (beatEx lag) with
  | .next t => ((t.mem.ponds.at? 1).bind (·.beats)).map (fun b => (b.budget, b.tokens, b.prefills))
  | _ => none

/-- Below R336: beats 7 and 8, on time and 6.0 ms late. -/
theorem test_beat_budget : beatOut 0 = some (10000000, 40, 7) ∧ beatOut 6000000 = some (7500000, 40, 5) := by decide +kernel

/-- The tables of the page-walk example. -/
def walkEx : State :=
  { (up.setFn 5 { vf with root := some 0x20000000 }) with
    mem := { up.mem with
      remap := [(1, { plot1 with owner := 7 }), (37, { s := 3, die := 1, base := 4, chans := (List.range 8).map (96 + ·), owner := 7 })]
      ponds := [(7, { pondA with inst := 4 })]
      hbm := ((Memory.write [] 0x80000240 (leBytes 8 0x17FFF80020010001)).write 0x8001D158 (leBytes 8 0x17FFF80020020001)).write
        0x80023C48 (leBytes 8 0x17FFF804A0120013) } }

/-- Below R422: the walk of 0x0001_2345_6789_ABCD by instance 4. -/
theorem test_page_walk : walkEx.walk 5 0x000123456789ABCD = .leaf 0x07FFF804A0120000 16 0 true 3
    ∧ walkEx.classify 5 0x07FFF804A012ABCD 0 = .ok (.local_ 0x4A012ABCD) 0 := by decide +kernel

/-- Below R459: a class with target 400 ns and floor 6 whose E is 430 ns is clamped to 15. -/
theorem test_weir_priority : { WeirPart.reset with tgt := [(1, 400 + 6 * 2 ^ 16)] }.prio 1 430 = 15 := by decide +kernel

/-- Below R550: 30,000 microjoules of filler over busy clocks in the ratio 1.1 to 2.3. -/
theorem test_filler_shares : (shares (30000 * 1024000000) 34 0 [11, 23]).map toUj = [9706, 20294] := by decide +kernel

/-- Below R580: r equal to n is ERR_SCALAR, and a key with Y = p is ERR_POINT. -/
theorem test_verify_errors : ecdsaVerify ecGx ecGy 1 ecN 1 = Eng.errScalar ∧ ecdsaVerify ecGx ecP 1 1 1 = Eng.errPoint := by
  decide +kernel

/-! Known answers of the functions the spec takes from published standards. -/

/-- R444, R445: CRC-64 (ECMA-182) of "123456789". -/
theorem test_crc64 : crc64 (ascii [0x31, 0x32, 0x33, 0x34, 0x35, 0x36, 0x37, 0x38, 0x39]) = 0x6C40DF5F0B497347 := by decide +kernel

/-- R581: SHA-384 (FIPS 180-4) of "abc". -/
theorem test_sha384 : beNat (sha384 (ascii [0x61, 0x62, 0x63])) =
    0xCB00753F45A35E8BB5A03D699AC65007272C32AB0EDED1631A8B605A43FF5BED8086072BA1E7CC2358BAECA134C825A7 := by decide +kernel

/-! One step of a Vane program. -/

/-- The rank after its instruction. -/
def vaneAfter (i : Instr) (w : Nat) : Option VaneRank :=
  match exec i (vaneUp vaneK w) with
  | .next t => (t.eng.runs.at? 1).bind (·.ranks.head?)
  | _ => none

/-- R167: SADD wraps at 2^64: s5 - 16 and s3 = 16 give 0 in s1. -/
theorem test_sadd_wraps : (vaneAfter (.sadd 1 0) (vw 0x10 1 5 3 0 0 0)).map (fun k => (k.sr 1, k.pc)) = some (0, 101) := by
  decide +kernel

/-- R167: SSRA shifts in the sign: s7 = 0x8000_0000_0000_0001 by s10 = 1. -/
theorem test_ssra_sign : (vaneAfter (.ssra 1 0) (vw 0x18 1 7 10 0 0 0)).map (fun k => k.sr 1) = some 0xC000000000000000 := by
  decide +kernel

/-- R162: a branch with s0 = s0 leads `imm` words on. -/
theorem test_beq_taken : (vaneAfter (.beq 1 0) (vw 0x05 0 0 0 0 0 (2 ^ 32 - 4))).map (fun k => k.pc) = some 96 := by decide +kernel

set_option maxRecDepth 100000 in
/-- The hypotheses of the clauses of `StepRunsFrontCommand` are met. -/
theorem witness_StepRunsFrontCommand :
    (∃ (c : Instr) (rest : List Instr) (s : State), s.pending = c :: rest)
    ∧ (∃ (s : State), s.pending = []) :=
  ⟨⟨.hotReset, [.verify 1 2 3 4 5], { up with pending := [.hotReset, .verify 1 2 3 4 5] }, by decide +kernel⟩,
   ⟨up, by decide +kernel⟩⟩

set_option maxRecDepth 100000 in
/-- The hypotheses of the clauses of `CreationCommandsTakeEffect` are met. -/
theorem witness_CreationCommandsTakeEffect :
    (∃ (s : State) (f : Nat), s.cmdReady f ∧ s.mayCreate f ∧ (s.fn f).argAddr 0 % 4096 = 0
        ∧ (s.fn f).argAddr 2 % 8 = 0 ∧ 4 ≤ bitsOf ((s.fn f).arg 4) 0 5 ∧ bitsOf ((s.fn f).arg 4) 0 5 ≤ 14
        ∧ (s.fn f).eq = none)
    ∧ (∃ (s : State) (f : Nat), s.cmdReady f ∧ s.mayCreate f ∧ (s.fn f).argAddr 0 % 4096 = 0
        ∧ (s.fn f).argAddr 2 % 8 = 0 ∧ 4 ≤ bitsOf ((s.fn f).arg 4) 0 5 ∧ bitsOf ((s.fn f).arg 4) 0 5 ≤ 16
        ∧ bitsOf ((s.fn f).arg 4) 16 2 ≠ 3 ∧ (s.fn f).cqs.at? (bitsOf ((s.fn f).arg 4) 8 6) = none)
    ∧ (∃ (s : State) (f : Nat), s.cmdReady f ∧ (s.fn f).argAddr 0 % 64 = 0 ∧ (s.fn f).sqs = []
        ∧ bitsOf ((s.fn f).arg 2) 0 15 ≤ s.ctxQuota f) :=
  ⟨⟨setPf up (fun F => { F with eq := none, args := [(4, 14)] }), 0, by decide +kernel⟩,
   ⟨setPf up (fun F => { F with args := [(4, 16 + 63 * 256 + 2 * 65536 + 255 * 2 ^ 24)] }), 0, by decide +kernel⟩,
   ⟨setPf up (fun F => { F with sqs := [], args := [(2, 256)] }), 0, by decide +kernel⟩⟩

set_option maxRecDepth 100000 in
/-- The hypotheses of the clauses of `CreateSqMakesAnEmptyRing` are met. -/
theorem witness_CreateSqMakesAnEmptyRing :
    (∃ (s : State) (f r : Nat), let a := (s.fn f).arg 4
      let c := bitsOf ((s.fn f).arg 5) 0 14
      s.cmdReady f ∧ s.mayCreate f ∧ (s.fn f).argAddr 0 % 4096 = 0 ∧ (s.fn f).argAddr 2 % 8 = 0 ∧ 4 ≤ bitsOf a 0 5
        ∧ bitsOf a 0 5 ≤ 16 ∧ bitsOf a 24 4 ≠ 0 ∧ (s.fn f).sqs.at? (bitsOf a 8 6) = none
        ∧ (∀ p ∈ s.host.fns, ∀ q ∈ p.2.sqs, q.2.dbAddr ≠ (s.fn f).argAddr 2
        ∧ (q.2.dbAddr / 64 = (s.fn f).argAddr 2 / 64 → p.1 = f)) ∧ (s.fn f).eq.isSome = true
        ∧ ((s.fn f).cqs.at? (bitsOf a 16 6)).isSome = true ∧ (s.fn f).sqs.length < s.sqQuota f
        ∧ c < (s.fn f).ctxCount ∧ s.recordOk f r = true) :=
  ⟨setPf up (fun F => { F with args := [(2, 0x7000), (4, 4 + 63 * 256 + 2 ^ 24), (5, 3)] }), 0, 1 + 2 ^ 32, by dsimp only; decide +kernel⟩

set_option maxRecDepth 100000 in
/-- The hypotheses of the clauses of `DestroyCommandsTakeEffect` are met. -/
theorem witness_DestroyCommandsTakeEffect :
    (∃ (s : State) (f : Nat), s.cmdReady f ∧ (s.fn f).eq.isSome = true ∧ (s.fn f).sqs = [])
    ∧ (∃ (s : State) (f : Nat), s.cmdReady f ∧ ((s.fn f).cqs.at? (bitsOf ((s.fn f).arg 4) 8 6)).isSome = true
        ∧ (∀ p ∈ (s.fn f).sqs, p.2.cq ≠ bitsOf ((s.fn f).arg 4) 8 6))
    ∧ (∃ (s : State) (f : Nat) (q : SubmissionQueue), s.cmdReady f
        ∧ (s.fn f).sqs.at? (bitsOf ((s.fn f).arg 4) 8 6) = some q)
    ∧ (∃ (s : State) (f : Nat) (q : SubmissionQueue), (s.fn f).busy = true
        ∧ (s.fn f).sqs.at? (s.fn f).cmdSq = some q ∧ q.destroying = true ∧ (∀ p ∈ s.work.ops, ¬(p.2.fn = f
        ∧ p.2.sq = (s.fn f).cmdSq))) :=
  ⟨⟨setPf up (fun F => { F with sqs := [] }), 0, by decide +kernel⟩,
   ⟨setPf up (fun F => { F with sqs := [] }), 0, by decide +kernel⟩,
   ⟨up, 0, sqA, by decide +kernel⟩,
   ⟨setPf up (fun F => { F with busy := true, sqs := [(0, { sqA with destroying := true })] }), 0, { sqA with destroying := true }, by decide +kernel⟩⟩

set_option maxRecDepth 100000 in
/-- The hypotheses of the clauses of `DoorbellReadsSetTails` are met. -/
theorem witness_DoorbellReadsSetTails :
    (∃ (s : State) (line data f k : Nat) (l : DoorbellLine) (q : SubmissionQueue), s.host.lines.at? line = some l ∧ l.cached = true ∧ s.ringsOf line = [(f, k, q.dbAddr % 64 / 8)] ∧ (s.fn f).sqs.at? k = some q ∧ q.stopped = false ∧ q.destroying = false ∧ bitsOf data (64 * (q.dbAddr % 64 / 8)) 64 < 2 ^ q.log2 ∧ q.log2 ≤ 16)
    ∧ (∃ (s : State) (line data f k : Nat) (l : DoorbellLine) (q : SubmissionQueue), s.host.lines.at? line = some l ∧ l.cached = false ∧ s.clk.entryStep = 0 ∧ s.mute = false ∧ s.ringsOf line = [(f, k, q.dbAddr % 64 / 8)] ∧ (s.fn f).sqs.at? k = some q ∧ q.stopped = false ∧ q.destroying = false ∧ bitsOf data (64 * (q.dbAddr % 64 / 8)) 64 < 2 ^ q.log2 ∧ q.log2 ≤ 16)
    ∧ (∃ (s : State) (line data f k : Nat) (l : DoorbellLine) (q : SubmissionQueue), s.host.lines.at? line = some l ∧ l.cached = true ∧ s.ringsOf line = [(f, k, q.dbAddr % 64 / 8)] ∧ (s.fn f).sqs.at? k = some q ∧ q.stopped = false ∧ q.destroying = false ∧ 2 ^ q.log2 ≤ bitsOf data (64 * (q.dbAddr % 64 / 8)) 64) :=
  ⟨⟨{ up with host := { up.host with lines := [(384, { fn := 0, cached := true, interval := 1, foundAt := 0 })] } }, 384, 15 * 2 ^ 64, 0, 0, { fn := 0, cached := true, interval := 1, foundAt := 0 }, sqA, by decide +kernel⟩,
   ⟨{ up with host := { up.host with lines := [(384, { fn := 0, cached := false, interval := 800, foundAt := 0 })] } }, 384, 3 * 2 ^ 64, 0, 0, { fn := 0, cached := false, interval := 800, foundAt := 0 }, sqA, by decide +kernel⟩,
   ⟨{ up with host := { up.host with lines := [(384, { fn := 0, cached := true, interval := 1, foundAt := 0 })] } }, 384, 16 * 2 ^ 64, 0, 0, { fn := 0, cached := true, interval := 1, foundAt := 0 }, sqA, by decide +kernel⟩⟩

set_option maxRecDepth 100000 in
/-- The hypotheses of the clauses of `QueueTimersTakeEffect` are met. -/
theorem witness_QueueTimersTakeEffect :
    (∃ (s : State) (f k w : Nat) (q : CompletionQueue), (s.fn f).cqs.at? k = some q
        ∧ q.room = false ∧ w < 2 ^ q.log2 ∧ q.log2 ≤ 16)
    ∧ (∃ (s : State) (f k : Nat) (q : CompletionQueue), (s.fn f).cqs.at? k = some q ∧ q.room = false
        ∧ q.stallSince ≠ 0 ∧ q.stallPosted = false)
    ∧ (∃ (s : State) (f w : Nat) (q : EventQueue), (s.fn f).eq = some q ∧ q.discarded ≠ 0
        ∧ s.silent f = false ∧ w < 2 ^ q.log2 ∧ q.log2 ≤ 14 ∧ ({ q with head := w } : EventQueue).room = true)
    ∧ (∃ (s : State) (f k : Nat) (q : CompletionQueue), (s.fn f).cqs.at? k = some q ∧ q.counted ≠ 0) :=
  ⟨⟨setPf up (fun F => { F with cqs := [(0, { cqA with reserved := 15 })] }), 0, 0, 15, { cqA with reserved := 15 }, by decide +kernel⟩,
   ⟨setPf up (fun F => { F with cqs := [(0, { cqA with reserved := 15, stallSince := 1 })] }), 0, 0, { cqA with reserved := 15, stallSince := 1 }, by decide +kernel⟩,
   ⟨setPf up (fun F => { F with eq := some { eqA with discarded := 3, head := 0 } }), 0, 14, { eqA with discarded := 3, head := 0 }, by decide +kernel⟩,
   ⟨setPf up (fun F => { F with cqs := [(0, { cqA with counted := 1 })] }), 0, 0, { cqA with counted := 1 }, by decide +kernel⟩⟩

set_option maxRecDepth 100000 in
/-- The hypotheses of the clauses of `DecidingAStatusEndsTheOperation` are met. -/
theorem witness_DecidingAStatusEndsTheOperation :
    (∃ (s : State) (id st : Nat) (o : Op), s.op? id = some o ∧ o.phase ≠ .ended ∧ o.sluice = 0 ∧ st ≠ 0
        ∧ losesContext st = false)
    ∧ (∃ (s : State) (id st : Nat) (o : Op) (x : _), s.op? id = some o ∧ o.phase ≠ .ended ∧ o.sluice = 0
        ∧ st ≠ 0 ∧ losesContext st = true ∧ s.host.ctxs.at? o.ctx = some x ∧ x.lost = false) :=
  ⟨⟨world (dsc 0x01 []), 1, Status.badTarget, mkOp (dsc 0x01 []), by decide +kernel⟩,
   ⟨world (dsc 0x01 []), 1, Status.memoryError, mkOp (dsc 0x01 []), ctxA, by decide +kernel⟩⟩

set_option maxRecDepth 100000 in
/-- The hypotheses of the clauses of `PostedEventIsWritten` are met. -/
theorem witness_PostedEventIsWritten :
    (∃ (s : State) (f : Nat) (q : EventQueue), s.silent f = false ∧ (s.fn f).eq = some q ∧ q.discarded = 0
        ∧ q.room = true)
    ∧ (∃ (s : State) (f : Nat) (q : EventQueue), s.silent f = false ∧ (s.fn f).eq = some q
        ∧ ((q.discarded ≠ 0 ∨ q.room = false))) :=
  ⟨⟨up, 0, eqA, by decide +kernel⟩,
   ⟨setPf up (fun F => { F with eq := some { eqA with head := 0 } }), 0, { eqA with head := 0 }, by decide +kernel⟩⟩

set_option maxRecDepth 100000 in
/-- The hypotheses of the clauses of `DescriptorsAreFetched` are met. -/
theorem witness_DescriptorsAreFetched :
    (∃ (s : State) (f k d : Nat) (q : SubmissionQueue) (cq : CompletionQueue), (s.fn f).sqs.at? k = some q ∧ (s.fn f).cqs.at? q.cq = some cq ∧ fld d 0 0 4 = 1 ∧ s.mayFetch f k q (max 1 (fld d 2 0 3)) = true)
    ∧ (∃ (s : State) (f k d : Nat) (q : SubmissionQueue), (s.fn f).sqs.at? k = some q
        ∧ fld d 0 0 4 ≠ 1 ∧ (∀ x, s.host.ctxs.at? (f * 16384 + q.ctx) = some x → x.lost = false)
        ∧ s.mayFetch f k q 1 = true) :=
  ⟨⟨up, 0, 0, dsc 0x10 [(2, 0, 2), (4, 0, 9), (0x20, 0, 1), (0x24, 0, 1)], sqA, cqA, by decide +kernel⟩,
   ⟨up, 0, 0, 2, sqA, ⟨by decide +kernel, by decide +kernel, by decide +kernel, by decide +kernel⟩⟩⟩

set_option maxRecDepth 100000 in
/-- The hypotheses of the clauses of `EndedOperationCompletes` are met. -/
theorem witness_EndedOperationCompletes :
    (∃ (s : State) (id : Nat) (o : Op) (q : CompletionQueue), s.op? id = some o ∧ o.phase = .ended
        ∧ s.completionWaits id o = false ∧ fld o.desc 0x18 0 20 = 0 ∧ s.silent o.fn = false
        ∧ (s.fn o.fn).cqs.at? o.cq = some q ∧ ((o.noHeader = true ∨ fld o.desc 3 1 1 = 0 ∨ o.status ≠ 0)))
    ∧ (∃ (s : State) (id : Nat) (o : Op), s.go? id 0x01 = some o)
    ∧ (∃ (s : State) (id : Nat) (o : Op), s.op? id = some o ∧ o.phase = .fetched ∧ o.waitMet = false
        ∧ fld o.desc 0x10 0 20 = 0) :=
  ⟨⟨upOp { mkOp (dsc 0x01 [(4, 0, 9)]) with phase := .ended, status := 5 }, 1, { mkOp (dsc 0x01 [(4, 0, 9)]) with phase := .ended, status := 5 }, cqA, by decide +kernel⟩,
   ⟨world (dsc 0x01 []), 1, mkOp (dsc 0x01 []), by decide +kernel⟩,
   ⟨upOp { mkOp (dsc 0x01 []) with waitMet := false }, 1, { mkOp (dsc 0x01 []) with waitMet := false }, by decide +kernel⟩⟩

set_option maxRecDepth 100000 in
/-- The hypotheses of the clauses of `FlumeCopyRunsBySegments` are met. -/
theorem witness_FlumeCopyRunsBySegments :
    (∃ (s : State) (op e : Nat) (o : Op) (p : Pond), s.go? op 0x10 = some o
        ∧ s.mem.ponds.at? o.pond = some p ∧ minBy? s.queuedBytes (s.enginesOf p) = some e
        ∧ (∀ x ∈ s.copiesOn e .queued, x.2.opcode = 0x10))
    ∧ (∃ (s s1 : State) (op seg : Nat) (ext : Ext) (o : Op) (p : Pond), s.op? op = some o
        ∧ o.opcode = 0x10 ∧ s.nextCopy o.engine = none ∧ s.mem.ponds.at? o.pond = some p ∧ o.phase = .running
        ∧ o.push = false ∧ o.done.contains seg = false ∧ seg < copySegments o.desc
        ∧ (s.noteLatencies o.pond ext.lats).copyCutAll op (s.agent op o (o.engine / 4) 0) ext p (copyCuts o.desc seg) = .ok s1 ∧ o.done.length + 1 ≠ copySegments o.desc)
    ∧ (∃ (s s1 : State) (op seg : Nat) (ext : Ext) (o : Op) (p : Pond), s.op? op = some o
        ∧ o.opcode = 0x10 ∧ s.nextCopy o.engine = none ∧ s.mem.ponds.at? o.pond = some p ∧ o.phase = .running
        ∧ o.push = false ∧ o.done.contains seg = false ∧ seg < copySegments o.desc
        ∧ (s.noteLatencies o.pond ext.lats).copyCutAll op (s.agent op o (o.engine / 4) 0) ext p (copyCuts o.desc seg) = .ok s1 ∧ o.done.length + 1 = copySegments o.desc) :=
  ⟨⟨world (dsc 0x10 [(2, 0, 2), (4, 0, 9), (0x20, 0, 4097), (0x24, 0, 1), (0x28, 0, 0x1000), (0x30, 0, 0x4000)]), 1, 0, mkOp (dsc 0x10 [(2, 0, 2), (4, 0, 9), (0x20, 0, 4097), (0x24, 0, 1), (0x28, 0, 0x1000), (0x30, 0, 0x4000)]), pondA, by decide +kernel⟩,
   ⟨(upOp { mkOp (dsc 0x10 [(2, 0, 2), (4, 0, 9), (0x20, 0, 4097), (0x24, 0, 1), (0x28, 0, 0x1000), (0x30, 0, 0x4000)]) with phase := .running, done := [] }), wroteGet up (((upOp { mkOp (dsc 0x10 [(2, 0, 2), (4, 0, 9), (0x20, 0, 4097), (0x24, 0, 1), (0x28, 0, 0x1000), (0x30, 0, 0x4000)]) with phase := .running, done := [] }).noteLatencies 1 []).copyCutAll 1 ((upOp { mkOp (dsc 0x10 [(2, 0, 2), (4, 0, 9), (0x20, 0, 4097), (0x24, 0, 1), (0x28, 0, 0x1000), (0x30, 0, 0x4000)]) with phase := .running, done := [] }).agent 1 { mkOp (dsc 0x10 [(2, 0, 2), (4, 0, 9), (0x20, 0, 4097), (0x24, 0, 1), (0x28, 0, 0x1000), (0x30, 0, 0x4000)]) with phase := .running, done := [] } 0 0) ext0 pondA (copyCuts (dsc 0x10 [(2, 0, 2), (4, 0, 9), (0x20, 0, 4097), (0x24, 0, 1), (0x28, 0, 0x1000), (0x30, 0, 0x4000)]) 1)), 1, 1, ext0, { mkOp (dsc 0x10 [(2, 0, 2), (4, 0, 9), (0x20, 0, 4097), (0x24, 0, 1), (0x28, 0, 0x1000), (0x30, 0, 0x4000)]) with phase := .running, done := [] }, pondA, by and_intros <;> first | exact wrote_ok (by decide +kernel) | decide +kernel⟩,
   ⟨(upOp { mkOp (dsc 0x10 [(2, 0, 2), (4, 0, 9), (0x20, 0, 4097), (0x24, 0, 1), (0x28, 0, 0x1000), (0x30, 0, 0x4000)]) with phase := .running, done := [0] }), wroteGet up (((upOp { mkOp (dsc 0x10 [(2, 0, 2), (4, 0, 9), (0x20, 0, 4097), (0x24, 0, 1), (0x28, 0, 0x1000), (0x30, 0, 0x4000)]) with phase := .running, done := [0] }).noteLatencies 1 []).copyCutAll 1 ((upOp { mkOp (dsc 0x10 [(2, 0, 2), (4, 0, 9), (0x20, 0, 4097), (0x24, 0, 1), (0x28, 0, 0x1000), (0x30, 0, 0x4000)]) with phase := .running, done := [0] }).agent 1 { mkOp (dsc 0x10 [(2, 0, 2), (4, 0, 9), (0x20, 0, 4097), (0x24, 0, 1), (0x28, 0, 0x1000), (0x30, 0, 0x4000)]) with phase := .running, done := [0] } 0 0) ext0 pondA (copyCuts (dsc 0x10 [(2, 0, 2), (4, 0, 9), (0x20, 0, 4097), (0x24, 0, 1), (0x28, 0, 0x1000), (0x30, 0, 0x4000)]) 1)), 1, 1, ext0, { mkOp (dsc 0x10 [(2, 0, 2), (4, 0, 9), (0x20, 0, 4097), (0x24, 0, 1), (0x28, 0, 0x1000), (0x30, 0, 0x4000)]) with phase := .running, done := [0] }, pondA, by and_intros <;> first | exact wrote_ok (by decide +kernel) | decide +kernel⟩⟩

set_option maxRecDepth 100000 in
/-- The hypotheses of the clauses of `TileCopyMovesItsBytes` are met. -/
theorem witness_TileCopyMovesItsBytes :
    (∃ (s : State) (op ts td : Nat) (o : Op) (p : Pond), s.memWf = true ∧ s.op? op = some o
        ∧ o.opcode = 0x10 ∧ s.nextCopy o.engine = none ∧ s.mem.ponds.at? o.pond = some p ∧ o.phase = .running
        ∧ o.push = false ∧ o.done = [] ∧ o.landed = [] ∧ o.sluice = 0 ∧ fld o.desc 0x24 0 32 = 1 ∧ 0 < fld o.desc 0x20 0 32
        ∧ fld o.desc 0x20 0 32 ≤ 4096 ∧ p.copyTile o.desc false = some ts ∧ p.copyTile o.desc true = some td
        ∧ ts ≠ td ∧ fld o.desc 0x28 0 55 + fld o.desc 0x20 0 32 ≤ 0x400000
        ∧ fld o.desc 0x30 0 55 + fld o.desc 0x20 0 32 ≤ 0x400000
        ∧ s.sramPoisoned ts (fld o.desc 0x28 0 55) (fld o.desc 0x20 0 32) = false) :=
  ⟨(upOp { mkOp (dsc 0x10 [(2, 0, 2), (4, 0, 9), (0x20, 0, 4096), (0x24, 0, 1), (0x28, 0, 0x3FF000), (0x30, 0, 0), (0x40, 0, 5), (0x44, 0, 1)]) with phase := .running }).putSram 0 0x3FF000 [1, 2, 3, 4], 1, 0, 1, { mkOp (dsc 0x10 [(2, 0, 2), (4, 0, 9), (0x20, 0, 4096), (0x24, 0, 1), (0x28, 0, 0x3FF000), (0x30, 0, 0), (0x40, 0, 5), (0x44, 0, 1)]) with phase := .running }, pondA, by decide +kernel⟩

/-- A prefetch with hint 1 of two lines, by instance 0. -/
def loftD : Nat := dsc 0x11 [(2, 0, 1), (4, 0, 9), (0x20, 0, 0), (0x28, 0, 129), (0x2C, 0, 0), (0x2C, 2, 1)]

def loftVf : State :=
  { upOp { mkOp loftD with fn := 1 } with xlat := { up.xlat with tlb := up.xlat.tlb.map (fun t => { t with fn := 1 }) } }

set_option maxRecDepth 100000 in
/-- The hypotheses of the clauses of `LoftCommandsTakeEffect` are met. -/
theorem witness_LoftCommandsTakeEffect :
    (∃ (s : State) (op : Nat) (o : Op) (l : List (Nat × Nat)), s.go? op 0x11 = some o ∧ fld o.desc 0x2C 0 2 = 0
        ∧ s.loftOffsets (s.newt o.fn o.ctx 0) (loftLines o.desc) = .ok l)
    ∧ (∃ (s : State) (op : Nat) (o : Op) (l : List (Nat × Nat)) (x : Nat × Nat) (p : Plot), s.go? op 0x11 = some o
        ∧ fld o.desc 0x2C 0 2 = 0 ∧ fld o.desc 0x2C 2 3 = 1 ∧ o.fn ≠ 0 ∧ l.getLast? = some x ∧ s.plotOf x.1 = some p
        ∧ s.leavingDie x.1 = false ∧ s.maskFor o.pond x.1 = 65535 ∧ s.mem.stageWays.get 4 p.die < 16
        ∧ s.loftOffsets (s.newt o.fn o.ctx 0) (loftLines o.desc) = .ok l)
    ∧ (∃ (s : State) (op : Nat) (o : Op) (l : List (Nat × Nat)), s.go? op 0x11 = some o ∧ fld o.desc 0x2C 0 2 = 1
        ∧ s.loftOffsets (s.newt o.fn o.ctx 0) (loftLines o.desc) = .ok l) :=
  ⟨⟨world (dsc 0x11 [(2, 0, 1), (4, 0, 9), (0x20, 0, 0), (0x28, 0, 129), (0x2C, 0, 0), (0x2C, 2, 1)]), 1, mkOp (dsc 0x11 [(2, 0, 1), (4, 0, 9), (0x20, 0, 0), (0x28, 0, 129), (0x2C, 0, 0), (0x2C, 2, 1)]), [(0, 0), (128, 0)], ⟨by decide +kernel, by decide +kernel, acc_is (d := []) (by decide +kernel)⟩⟩,
   ⟨loftVf, 1, { mkOp loftD with fn := 1 }, [(0, 0), (128, 0)], (128, 0), plot0, by and_intros <;> first | exact acc_is (d := []) (by decide +kernel) | decide +kernel⟩,
   ⟨(world (dsc 0x11 [(2, 0, 1), (4, 0, 9), (0x20, 0, 0), (0x28, 0, 129), (0x2C, 0, 1), (0x2C, 2, 0)])).loftTouch 128 .alloc 65535 false, 1, mkOp (dsc 0x11 [(2, 0, 1), (4, 0, 9), (0x20, 0, 0), (0x28, 0, 129), (0x2C, 0, 1), (0x2C, 2, 0)]), [(0, 0), (128, 0)], ⟨by decide +kernel, by decide +kernel, acc_is (d := []) (by decide +kernel)⟩⟩⟩

set_option maxRecDepth 100000 in
/-- The hypotheses of the clauses of `MillOpsEnterTheirTiles` are met. -/
theorem witness_MillOpsEnterTheirTiles :
    (∃ (s : State) (op : Nat) (ext : Ext) (o : Op) (p : Pond) (act : List Nat), s.millGo op 0x20 = some o
        ∧ s.mem.ponds.at? o.pond = some p ∧ p.rankError false (millRanks o.desc).1 (millRanks o.desc).2 = none
        ∧ s.readActTable (s.millAgent op o p) ext o.desc (millRanks o.desc).1 = .ok act)
    ∧ (∃ (s : State) (op : Nat) (ext : Ext) (o : Op) (p : Pond) (act : List Nat) (bs : List Byte), s.millGo op 0x21 = some o ∧ s.mem.ponds.at? o.pond = some p ∧ p.rankError false (millRanks o.desc).1 (millRanks o.desc).2 = none ∧ s.readVa (s.millAgent op o p) ext (fld o.desc 0x48 0 55) (32 * fld o.desc 0xEC 0 13) = .ok bs ∧ badGroupEntry o.desc (entriesOf 32 (fld o.desc 0xEC 0 13) bs) 0 0 = none ∧ groupPlanError o.desc (entriesOf 32 (fld o.desc 0xEC 0 13) bs) = none ∧ s.readActTable (s.millAgent op o p) ext o.desc (millRanks o.desc).1 = .ok act)
    ∧ (∃ (s : State) (op : Nat) (ext : Ext) (o : Op) (p : Pond) (bs : List Byte), s.millGo op 0x22 = some o
        ∧ s.mem.ponds.at? o.pond = some p ∧ p.rankError false (millRanks o.desc).1 (millRanks o.desc).2 = none
        ∧ s.readVa (s.millAgent op o p) ext (fld o.desc 0x40 0 55) (32 * fld o.desc 0x20 0 32) = .ok bs
        ∧ badSequence (entriesOf 32 (fld o.desc 0x20 0 32) bs) 0 = none)
    ∧ (∃ (s : State) (op : Nat) (o : Op) (p : Pond), s.millGo op 0x23 = some o ∧ s.mem.ponds.at? o.pond = some p
        ∧ p.rankError false (millRanks o.desc).1 (millRanks o.desc).2 = none) :=
  ⟨⟨world gemmD, 1, ext0, mkOp gemmD, pondA, [], ⟨by decide +kernel, by decide +kernel, by decide +kernel, acc_is (d := []) (by decide +kernel)⟩⟩,
   ⟨(withHbm (world (dsc 0x21 [(2, 0, 4), (4, 0, 9), (0x20, 0, 1), (0x24, 0, 1), (0x28, 0, 32), (0x2C, 0, 2), (0x2C, 8, 2), (0x2C, 16, 1), (0x34, 0, 1), (0x48, 0, 0x1000), (0xD0, 10, 1), (0xD4, 0, 2), (0xD4, 10, 1), (0xEC, 0, 1)])) 0x1000 (leBytes 32 (1 + 2 ^ 64))), 1, ext0, mkOp (dsc 0x21 [(2, 0, 4), (4, 0, 9), (0x20, 0, 1), (0x24, 0, 1), (0x28, 0, 32), (0x2C, 0, 2), (0x2C, 8, 2), (0x2C, 16, 1), (0x34, 0, 1), (0x48, 0, 0x1000), (0xD0, 10, 1), (0xD4, 0, 2), (0xD4, 10, 1), (0xEC, 0, 1)]), pondA, [], leBytes 32 (1 + 2 ^ 64), ⟨by decide +kernel, by decide +kernel, by decide +kernel, acc_is (d := []) (by decide +kernel), by decide +kernel, by decide +kernel, acc_is (d := []) (by decide +kernel)⟩⟩,
   ⟨(withHbm (world (attendD 1)) 0x1000 (leBytes 32 seqR)), 1, ext0, mkOp (attendD 1), pondA, leBytes 32 seqR, ⟨by decide +kernel, by decide +kernel, by decide +kernel, acc_is (d := []) (by decide +kernel), by decide +kernel⟩⟩,
   ⟨world packD, 1, mkOp packD, pondA, by decide +kernel⟩⟩

def fillItem : MillItem := { grp := 0, row0 := 0, rows := 1, col0 := 0, cols := 1 }

/-- A gemm whose first operand's one number waits at 0x1000. -/
def fillS : State := withHbm (milling gemmD (millA [] rankA)) 0x1000 [0x80, 0x3F]

def fillO : Op := { mkOp gemmD with phase := .running }

def fillRows : List (List Byte × Byte) :=
  accGet [] (fillS.panelRows (fillS.agent 1 fillO 0 1) ext0 gemmD [] rankA false fillItem 0 (List.range 64))

set_option maxRecDepth 100000 in
/-- The hypotheses of the clauses of `LandedFillFillsItsPanel` are met. -/
theorem witness_LandedFillFillsItsPanel :
    (∃ (s : State) (op rank seq half page : Nat) (b : Bool) (ext : Ext) (m : MillRun) (o : Op) (k : MillRank) (i : MillItem) (rows : List (List Byte × Byte)), s.memWf = true ∧ s.eng.mills.at? op = some m ∧ s.op? op = some o ∧ m.ranks.at? rank = some k ∧ o.phase ≠ .ended ∧ ext.ecc = [] ∧ s.feedTurn op k.tile = true ∧ o.opcode = 0x20 ∧ planKeep (planOf o.desc b) = false ∧ planRes (planOf o.desc b) = false ∧ isMx (operandFmt o.desc b) = false ∧ (b, seq, half, page) ∈ k.outstanding o.desc (m.items o.desc k) ∧ (m.items o.desc k)[seq / k.panels]? = some i ∧ s.panelRows (s.agent op o (dieOfTile k.tile) (k.tile + 1)) ext o.desc m.table k b i (seq % k.panels) ((List.range (128 / panelPages (operandFmt o.desc b))).map (half * (128 / panelPages (operandFmt o.desc b)) + ·)) = .ok rows) :=
  ⟨fillS, 1, 0, 0, 0, 0, false, ext0, millA [] rankA, fillO, rankA, fillItem, fillRows, by and_intros <;> first | (unfold fillRows; exact acc_ok (by decide +kernel)) | decide +kernel⟩

theorem some_of_isSome {α : Type} {o : Option α} (d : α) (h : o.isSome = true) : o = some (o.getD d) := by
  cases o with
  | none => cases h
  | some x => rfl

def runningOp (d : Nat) : Op := { mkOp d with phase := .running }

def blockItem (cols : Nat) : MillItem := { grp := 0, row0 := 0, rows := 1, col0 := 0, cols }

def gemmHyp (s0 s : State) (op r : Nat) (ext : Ext) (m : MillRun) (o : Op) (k : MillRank) : Prop :=
  (∃ o1, (s0.findErrors ext).op? op = some o1 ∧ o1.opcode ≤ 0x21) ∧ (s0.findErrors ext).consume op r consumeFuel = s
    ∧ s.eng.mills.at? op = some m ∧ s.op? op = some o ∧ m.ranks.at? r = some k ∧ s.millTurn op k.tile = true

def otherHyp (s0 s : State) (opcode op r : Nat) (ext : Ext) (m : MillRun) (o : Op) (k : MillRank) (i : MillItem) : Prop :=
  s0.findErrors ext = s ∧ s.eng.mills.at? op = some m ∧ s.op? op = some o ∧ o.opcode = opcode ∧ m.ranks.at? r = some k
    ∧ o.phase ≠ .ended ∧ s.millTurn op k.tile = true ∧ (m.items o.desc k)[k.done]? = some i

/-- What an attend part reads for an item, and the state after its maxima. -/
def rowsIn (s : State) (op : Nat) (ext : Ext) (m : MillRun) (o : Op) (k : MillRank) (i : MillItem) : Acc (List AttendRow) :=
  s.attendInputs (s.agent op o (dieOfTile k.tile) (k.tile + 1)) ext o.desc (getAt 0 m.table i.grp) (millSplit o.desc) k.part i

def maxIn (s : State) (op : Nat) (ext : Ext) (m : MillRun) (o : Op) (k : MillRank) (i : MillItem) (rows : List AttendRow) :
    State :=
  s.attendMaxima op (s.agent op o (dieOfTile k.tile) (k.tile + 1)) ext o m k i rows

/-- An attend in progress on a list of ranks, its query and key words in place. -/
def attS (split : Nat) (ks : List (Nat × MillRank)) : State :=
  withHbm (withHbm (milling (attendD split) { millA [seqR] rankA with ranks := ks }) 0x100 [0, 0, 1]) 0x2000 [0x80, 0x3F]

def fullK : MillRank := { rankA with full := some [.q Quern.zero] }

def fullS : State := milling gemmD (millA [] fullK)

def partK : MillRank := { fullK with part := 1 }

def partS : State := milling gemmD (millA [] partK)

def otherK : MillRank := { rankA with part := 1, tile := 1 }

def attRows (s : State) (d : Nat) (m : MillRun) (k : MillRank) : List AttendRow :=
  accGet [] (rowsIn s 1 ext0 m (runningOp d) k (blockItem 0))

def attMax (s : State) (d : Nat) (m : MillRun) (k : MillRank) : State :=
  maxIn s 1 ext0 m (runningOp d) k (blockItem 0) (attRows s d m k)

/-- The mill op's run after the maxima of a part, and the joined maxima. -/
def runAfter (s : State) : MillRun := (s.eng.mills.at? 1).getD (millA [] rankA)

theorem run_ok {s : State} (h : (s.eng.mills.at? 1).isSome = true) : s.eng.mills.at? 1 = some (runAfter s) :=
  some_of_isSome _ h

def joinAfter (m : MillRun) (k : MillRank) (n : Nat) : List (Nat × Bool) := (m.joined k n).getD []

theorem join_ok {m : MillRun} {k : MillRank} {n : Nat} (h : (m.joined k n).isSome = true) :
    m.joined k n = some (joinAfter m k n) :=
  some_of_isSome _ h

def homeRun : MillRun := { millA [seqR] rankA with ranks := [(0, rankA)] }

def bothRun : MillRun := { millA [seqR] rankA with ranks := [(0, rankA), (1, otherK)] }

def otherRun : MillRun := { millA [seqR] rankA with ranks := [(1, otherK)] }

def attS1 : State := attS 1 homeRun.ranks

def attS2 : State := attS 2 otherRun.ranks

def attS3 : State := attS 2 bothRun.ranks

def packIn : List (List (Nat × Nat)) :=
  accGet [] ((milling packD (millA [] rankA)).packSource
    ((milling packD (millA [] rankA)).agent 1 (runningOp packD) (dieOfTile rankA.tile) (rankA.tile + 1)) ext0 (runningOp packD).desc
    (blockItem 32))

def fullSides : Sides :=
  accGet { col := [], row := [], bias := [], res := [] }
    (fullS.readSides (fullS.agent 1 (runningOp gemmD) (dieOfTile fullK.tile) (fullK.tile + 1)) ext0 (runningOp gemmD).desc (blockItem 1))

set_option maxRecDepth 100000 in
/-- The hypotheses of the clauses of `MillBlocksDrain` are met. -/
theorem witness_MillBlocksDrain :
    (∃ (s0 s : State) (op r : Nat) (ext : Ext) (m : MillRun) (o : Op) (k : MillRank) (i : MillItem) (own : List Cell)
        (parts : List (List Cell)) (sd : Sides), gemmHyp s0 s op r ext m o k ∧ (m.items o.desc k)[k.done]? = some i
        ∧ m.deliveries k.lane k.done = some parts ∧ k.full = some own ∧ k.part = 0
        ∧ s.readSides (s.agent op o (dieOfTile k.tile) (k.tile + 1)) ext o.desc i = .ok sd)
    ∧ (∃ (s0 s s1 : State) (op r : Nat) (ext : Ext) (m m1 : MillRun) (o : Op) (k : MillRank) (i : MillItem)
        (rows : List AttendRow) (ms : List (Nat × Bool)) (parts : List (List Cell)),
        otherHyp s0 s 0x22 op r ext m o k i ∧ k.part = 0 ∧ rowsIn s op ext m o k i = .ok rows
        ∧ maxIn s op ext m o k i rows = s1 ∧ s1.eng.mills.at? op = some m1 ∧ m1.joined k rows.length = some ms
        ∧ m1.deliveries k.lane k.done = some parts)
    ∧ (∃ (s0 s : State) (op r : Nat) (ext : Ext) (m : MillRun) (o : Op) (k : MillRank) (i : MillItem)
        (src : List (List (Nat × Nat))), otherHyp s0 s 0x23 op r ext m o k i
        ∧ s.packSource (s.agent op o (dieOfTile k.tile) (k.tile + 1)) ext o.desc i = .ok src)
    ∧ (∃ (s0 s : State) (op r : Nat) (ext : Ext) (m : MillRun) (o : Op) (k : MillRank) (cells : List Cell),
        gemmHyp s0 s op r ext m o k ∧ k.part ≠ 0 ∧ k.full = some cells ∧ k.done < (m.items o.desc k).length)
    ∧ (∃ (s0 s s1 : State) (op r : Nat) (ext : Ext) (m m1 : MillRun) (o : Op) (k : MillRank) (i : MillItem)
        (rows : List AttendRow) (ms : List (Nat × Bool)), otherHyp s0 s 0x22 op r ext m o k i ∧ k.part ≠ 0
        ∧ rowsIn s op ext m o k i = .ok rows ∧ maxIn s op ext m o k i rows = s1 ∧ s1.eng.mills.at? op = some m1
        ∧ m1.joined k rows.length = some ms)
    ∧ (∀ home : Bool, ∃ (s0 s s1 : State) (op r : Nat) (ext : Ext) (m m1 : MillRun) (o : Op) (k : MillRank) (i : MillItem)
        (rows : List AttendRow), otherHyp s0 s 0x22 op r ext m o k i ∧ rowsIn s op ext m o k i = .ok rows
        ∧ maxIn s op ext m o k i rows = s1 ∧ s1.eng.mills.at? op = some m1 ∧ m1.joined k rows.length = none
        ∧ decide (k.part = 0) = home) :=
  ⟨⟨fullS, fullS, 1, 0, ext0, millA [] fullK, runningOp gemmD, fullK, blockItem 1, [.q Quern.zero], [], fullSides,
      ⟨⟨runningOp gemmD, by decide +kernel⟩, by decide +kernel, by decide +kernel⟩, by and_intros <;> first | (unfold fullSides; exact acc_ok (by decide +kernel)) | decide +kernel⟩,
   ⟨attS1, attS1, attMax attS1 (attendD 1) homeRun rankA, 1, 0, ext0, homeRun, runAfter (attMax attS1 (attendD 1) homeRun rankA),
      runningOp (attendD 1), rankA, blockItem 0, attRows attS1 (attendD 1) homeRun rankA,
      joinAfter (runAfter (attMax attS1 (attendD 1) homeRun rankA)) rankA (attRows attS1 (attendD 1) homeRun rankA).length, [],
      by unfold otherHyp; decide +kernel, by decide +kernel, (by unfold attRows; exact acc_ok (by decide +kernel)), rfl,
      run_ok (by decide +kernel), join_ok (by decide +kernel), by decide +kernel⟩,
   ⟨milling packD (millA [] rankA), milling packD (millA [] rankA), 1, 0, ext0, millA [] rankA, runningOp packD, rankA, blockItem 32,
      packIn, by unfold otherHyp; decide +kernel, (by unfold packIn; exact acc_ok (by decide +kernel))⟩,
   ⟨partS, partS, 1, 0, ext0, millA [] partK, runningOp gemmD, partK, [.q Quern.zero],
      ⟨⟨runningOp gemmD, by decide +kernel⟩, by decide +kernel, by decide +kernel⟩, by decide +kernel⟩,
   ⟨attS2, attS2, attMax attS2 (attendD 2) otherRun otherK, 1, 1, ext0, otherRun,
      runAfter (attMax attS2 (attendD 2) otherRun otherK), runningOp (attendD 2), otherK, blockItem 0,
      attRows attS2 (attendD 2) otherRun otherK,
      joinAfter (runAfter (attMax attS2 (attendD 2) otherRun otherK)) otherK (attRows attS2 (attendD 2) otherRun otherK).length,
      by unfold otherHyp; decide +kernel, by decide +kernel, (by unfold attRows; exact acc_ok (by decide +kernel)), rfl,
      run_ok (by decide +kernel), join_ok (by decide +kernel)⟩,
   fun home =>
    ⟨attS3, attS3, attMax attS3 (attendD 2) bothRun (if home then rankA else otherK), 1, if home then 0 else 1, ext0, bothRun,
      runAfter (attMax attS3 (attendD 2) bothRun (if home then rankA else otherK)), runningOp (attendD 2),
      if home then rankA else otherK, blockItem 0, attRows attS3 (attendD 2) bothRun (if home then rankA else otherK),
      (by cases home <;> unfold otherHyp <;> decide +kernel),
      (by unfold attRows; exact acc_ok (by cases home <;> decide +kernel)), rfl, run_ok (by cases home <;> decide +kernel),
      by cases home <;> decide +kernel, by cases home <;> decide +kernel⟩⟩

set_option maxRecDepth 100000 in
/-- The hypotheses of the clauses of `RootsAndInvalidationsTakeEffect` are met. -/
theorem witness_RootsAndInvalidationsTakeEffect :
    (∃ (s : State) (op : Nat) (o : Op), s.go? op 0x80 = some o ∧ fld o.desc 0x28 0 1 = 1
        ∧ s.goodTable (xlatTarget o 0x2C) (0xFFFF * 2 ^ 43 + fld o.desc 0x20 0 43) = true ∧ o.sluice = 0)
    ∧ (∃ (s : State) (op : Nat) (o : Op), s.go? op 0x80 = some o ∧ fld o.desc 0x28 0 1 = 1
        ∧ s.goodTable (xlatTarget o 0x2C) (0xFFFF * 2 ^ 43 + fld o.desc 0x20 0 43) = true ∧ o.sluice ≠ 0)
    ∧ (∃ (s : State) (op : Nat) (o : Op), s.go? op 0x80 = some o ∧ fld o.desc 0x28 0 1 = 0 ∧ o.sluice = 0)
    ∧ (∃ (s : State) (op : Nat) (o : Op), s.go? op 0x80 = some o ∧ fld o.desc 0x28 0 1 = 0 ∧ o.sluice ≠ 0)
    ∧ (∃ (s : State) (op : Nat) (o : Op), s.go? op 0x81 = some o ∧ o.sluice = 0)
    ∧ (∃ (s : State) (op : Nat) (o : Op), s.go? op 0x81 = some o ∧ o.sluice ≠ 0)
    ∧ (∃ (s : State) (op : Nat) (o : Op), s.op? op = some o ∧ (o.opcode = 0x80 ∨ o.opcode = 0x81) ∧ o.phase = .running) :=
  ⟨⟨world (dsc 0x80 [(2, 0, 5), (4, 0, 9), (0x20, 0, 0x10000), (0x28, 0, 1), (0x2C, 9, 1)]), 1, mkOp (dsc 0x80 [(2, 0, 5), (4, 0, 9), (0x20, 0, 0x10000), (0x28, 0, 1), (0x2C, 9, 1)]), by decide +kernel⟩,
   ⟨upOp { mkOp (dsc 0x80 [(2, 0, 5), (4, 0, 9), (0x20, 0, 0x20010000), (0x28, 0, 1)]) with sluice := 3 }, 1, { mkOp (dsc 0x80 [(2, 0, 5), (4, 0, 9), (0x20, 0, 0x20010000), (0x28, 0, 1)]) with sluice := 3 }, by decide +kernel⟩,
   ⟨world (dsc 0x80 [(2, 0, 5), (4, 0, 9)]), 1, mkOp (dsc 0x80 [(2, 0, 5), (4, 0, 9)]), by decide +kernel⟩,
   ⟨upOp { mkOp (dsc 0x80 [(2, 0, 5), (4, 0, 9)]) with sluice := 3 }, 1, { mkOp (dsc 0x80 [(2, 0, 5), (4, 0, 9)]) with sluice := 3 }, by decide +kernel⟩,
   ⟨world (dsc 0x81 [(2, 0, 5), (4, 0, 9), (0x20, 0, 0x10000), (0x28, 0, 0x10000)]), 1, mkOp (dsc 0x81 [(2, 0, 5), (4, 0, 9), (0x20, 0, 0x10000), (0x28, 0, 0x10000)]), by decide +kernel⟩,
   ⟨upOp { mkOp (dsc 0x81 [(2, 0, 5), (4, 0, 9), (0x2C, 0, 2)]) with sluice := 3 }, 1, { mkOp (dsc 0x81 [(2, 0, 5), (4, 0, 9), (0x2C, 0, 2)]) with sluice := 3 }, by decide +kernel⟩,
   ⟨upOp { mkOp (dsc 0x81 [(2, 0, 5), (4, 0, 9), (0x20, 0, 0x10000), (0x28, 0, 0x10000)]) with phase := .running }, 1, { mkOp (dsc 0x81 [(2, 0, 5), (4, 0, 9), (0x20, 0, 0x10000), (0x28, 0, 0x10000)]) with phase := .running }, by decide +kernel⟩⟩

set_option maxRecDepth 100000 in
/-- The hypotheses of the clauses of `DirtyLoggingTakesEffect` are met. -/
theorem witness_DirtyLoggingTakesEffect :
    (∃ (s : State) (op : Nat) (o : Op), s.dirtyGo op 1 = some o ∧ s.bitmapOk (fld o.desc 0x28 0 43) = true
        ∧ s.logged (fld o.desc 0x20 0 9) = false)
    ∧ (∃ (s : State) (op : Nat) (o : Op), s.dirtyGo op 1 = some o ∧ s.bitmapOk (fld o.desc 0x28 0 43) = true
        ∧ s.logged (fld o.desc 0x20 0 9) = true)
    ∧ (∃ (s : State) (op : Nat) (o : Op), s.dirtyGo op 0 = some o ∧ s.logged (fld o.desc 0x20 0 9) = true)
    ∧ (∃ (s : State) (op : Nat) (o : Op), s.dirtyGo op 0 = some o ∧ s.logged (fld o.desc 0x20 0 9) = false)
    ∧ (∃ (s : State) (op : Nat) (o : Op), s.dirtyGo op 2 = some o ∧ s.bitmapOk (fld o.desc 0x28 0 43) = true
        ∧ s.logged (fld o.desc 0x20 0 9) = true ∧ o.sluice = 0)
    ∧ (∃ (s : State) (op : Nat) (o : Op), s.dirtyGo op 2 = some o ∧ s.bitmapOk (fld o.desc 0x28 0 43) = true
        ∧ s.logged (fld o.desc 0x20 0 9) = true ∧ o.sluice ≠ 0)
    ∧ (∃ (s : State) (op : Nat) (o : Op), s.dirtyGo op 2 = some o ∧ s.bitmapOk (fld o.desc 0x28 0 43) = true
        ∧ s.logged (fld o.desc 0x20 0 9) = false) :=
  ⟨⟨world (dsc 0x82 [(2, 0, 5), (4, 0, 9), (0x20, 16, 1), (0x28, 0, 0x20010000)]), 1, mkOp (dsc 0x82 [(2, 0, 5), (4, 0, 9), (0x20, 16, 1), (0x28, 0, 0x20010000)]), by decide +kernel⟩,
   ⟨((world (dsc 0x82 [(2, 0, 5), (4, 0, 9), (0x20, 16, 1), (0x28, 0, 0x20010000)])).setBitmap 0 (some 0x20030000)), 1, mkOp (dsc 0x82 [(2, 0, 5), (4, 0, 9), (0x20, 16, 1), (0x28, 0, 0x20010000)]), by decide +kernel⟩,
   ⟨((world (dsc 0x82 [(2, 0, 5), (4, 0, 9), (0x20, 16, 0), (0x28, 0, 0x20010000)])).setBitmap 0 (some 0x20030000)), 1, mkOp (dsc 0x82 [(2, 0, 5), (4, 0, 9), (0x20, 16, 0), (0x28, 0, 0x20010000)]), by decide +kernel⟩,
   ⟨world (dsc 0x82 [(2, 0, 5), (4, 0, 9), (0x20, 16, 0), (0x28, 0, 0x20010000)]), 1, mkOp (dsc 0x82 [(2, 0, 5), (4, 0, 9), (0x20, 16, 0), (0x28, 0, 0x20010000)]), by decide +kernel⟩,
   ⟨((world (dsc 0x82 [(2, 0, 5), (4, 0, 9), (0x20, 16, 2), (0x28, 0, 0x20010000)])).setBitmap 0 (some 0x20030000)), 1, mkOp (dsc 0x82 [(2, 0, 5), (4, 0, 9), (0x20, 16, 2), (0x28, 0, 0x20010000)]), by decide +kernel⟩,
   ⟨((upOp { mkOp (dsc 0x82 [(2, 0, 5), (4, 0, 9), (0x20, 16, 2), (0x28, 0, 0x20010000)]) with sluice := 3 }).setBitmap 0 (some 0x20030000)), 1, { mkOp (dsc 0x82 [(2, 0, 5), (4, 0, 9), (0x20, 16, 2), (0x28, 0, 0x20010000)]) with sluice := 3 }, by decide +kernel⟩,
   ⟨world (dsc 0x82 [(2, 0, 5), (4, 0, 9), (0x20, 16, 2), (0x28, 0, 0x20010000)]), 1, mkOp (dsc 0x82 [(2, 0, 5), (4, 0, 9), (0x20, 16, 2), (0x28, 0, 0x20010000)]), by decide +kernel⟩⟩

/-- Function 0 with a page table: the first half gibibyte leads to plot 1. -/
def walkS : State :=
  withHbm (withHbm (setPf up (fun F => { F with root := some 0 })) 0 (leBytes 8 (0xFFFF * 2 ^ 43 + 0x10001 + 2 ^ 60))) 0x10000
    (leBytes 8 (0xFFFF * 2 ^ 43 + 0x20000003 + 2 ^ 60))

set_option maxRecDepth 100000 in
/-- The hypotheses of the clauses of `WalksFillTheCaches` are met, for a tile and for the other agents of a die. -/
theorem witness_WalksFillTheCaches :
    (∀ t : Bool, ∃ (s : State) (die f slot va tile pa span hint l : Nat) (g : Bool) (p : Place) (h : Nat) (a : Agent),
        s.walkOn die f va = .leaf pa span hint g l ∧ s.classify f (pa + va % 2 ^ span) hint = .ok p h
        ∧ decide (0 < tile) = t ∧ a.fn = f ∧ a.slot = slot ∧ a.tile = tile ∧ va < 2 ^ 55)
    ∧ (∃ (s : State) (die f va op c l : Nat) (o : Op), s.walkOn die f va = .fault c l ∧ s.op? op = some o ∧ o.fn = f
        ∧ o.phase = .running ∧ o.sluice = 0) :=
  ⟨fun t => ⟨walkS, 0, 0, 1, 0x12345, if t then 1 else 0, 0xFFFF * 2 ^ 43 + 0x20000000, 29, 0, 2, false, Place.local_ 0x20012345, 0,
      { fn := 0, slot := 1, die := 0, tile := if t then 1 else 0, sluice := 0, op := 0, pond := 0 }, by cases t <;> decide +kernel⟩,
   ⟨upOp (runningOp (dsc 0x10 [])), 0, 0, 2 ^ 55, 1, 2, 0, runningOp (dsc 0x10 []), by decide +kernel⟩⟩

/-- A pond's weir registers with a budget of 10, at the third period in a row beyond it. -/
def overPond : WeirPond := { WeirPond.reset with auto := true, budget := 10, reads := 3, peakNow := 11, beyond := 2 }

/-- In push mode, at the sixteenth period in a row at three quarters of its budget. -/
def underPond : WeirPond := { WeirPond.reset with auto := true, budget := 12, reads := 3, peakNow := 9, under := 15, push := true }

/-- A channel whose class 0 has no credit left. -/
def drySt : State := { up with weir := { up.weir with capNow := [(0, 5 + 2 ^ 16)], credit := [(0, 0)], busyNow := 1 } }

set_option maxRecDepth 100000 in
/-- The hypotheses of the clauses of `WeirCommandsTakeEffect` are met. -/
theorem witness_WeirCommandsTakeEffect :
    (∃ (s : State) (off queued ch : Nat), s.chanOf off = some ch ∧ s.weir.aged.contains (off / 128) = false
        ∧ s.weir.holds ch (s.weirClass off) queued = true)
    ∧ (∀ aged : Bool, ∃ (s : State) (off queued ch : Nat), s.chanOf off = some ch ∧ s.weir.aged.contains (off / 128) = aged
        ∧ (aged = true ∨ s.weir.holds ch (s.weirClass off) queued = false))
    ∧ (∃ (port : Nat), port < 24)
    ∧ (∃ (s : State) (off ch : Nat), s.chanOf off = some ch)
    ∧ (∃ (s : State) (c : Nat), c < 8 ∧ (s.weir.target c = 0 ∨ (s.weir.worst c).2 ≤ s.weir.target c))
    ∧ (∃ (s : State) (h : Nat) (p : WeirPond), s.weirPond h = some p ∧ p.auto = true ∧ p.budget ≠ 0
        ∧ p.push = false ∧ p.reads ≠ 0 ∧ p.budget < p.peakNow ∧ p.beyond = 2)
    ∧ (∃ (s : State) (h : Nat) (lats : List Nat) (p0 p : WeirPond), s.weirPond h = some p0 ∧ p0.push = true
        ∧ (s.noteLatencies h lats).weirPond h = some p ∧ p.auto = true ∧ p.budget ≠ 0 ∧ p.reads ≠ 0 ∧ 4 * p.peakNow ≤ 3 * p.budget)
    ∧ (∃ (s : State) (value : Nat) (p : WeirPond), s.weirPond s.weir.pondSel = some p
        ∧ (bitOf value 16 = false ∨ bitsOf value 0 16 = 0)) :=
  ⟨⟨drySt, 0x1234, 1, 0, by decide +kernel⟩,
   fun aged => ⟨{ up with weir := { up.weir with aged := if aged then [0x24] else [] } }, 0x1234, 0, 0, by cases aged <;> decide +kernel⟩,
   ⟨23, by decide +kernel⟩,
   ⟨up, 0x1234, 0, by decide +kernel⟩,
   ⟨up, 7, by decide +kernel⟩,
   ⟨up.setWeirPond 1 overPond, 1, overPond, by decide +kernel⟩,
   ⟨up.setWeirPond 1 underPond, 1, [], underPond, underPond, by decide +kernel⟩,
   ⟨{ up.setWeirPond 1 overPond with weir := { (up.setWeirPond 1 overPond).weir with pondSel := 1 } }, 2 ^ 16, overPond, by decide +kernel⟩⟩

set_option maxRecDepth 100000 in
/-- The hypotheses of the clauses of `LandedWriteIsReadBack` are met. -/
theorem witness_LandedWriteIsReadBack :
    (∃ (s : State) (off : Nat) (bytes : List Byte) (p : Plot), s.memWf = true ∧ s.plotOf off = some p
        ∧ s.plotLost p = false ∧ 0 < bytes.length ∧ off / 64 = (off + bytes.length - 1) / 64
        ∧ (∀ q, s.mem.ponds.at? p.owner = some q → (s.fn (q.inst + 1)).bitmap = none)
        ∧ (s.poisonAt off = false ∨ bytes.length = 64))
    ∧ (∃ (s : State) (off : Nat) (bytes : List Byte) (p : Plot), s.memWf = true ∧ s.plotOf off = some p
        ∧ s.plotLost p = false ∧ 0 < bytes.length ∧ off / 64 = (off + bytes.length - 1) / 64
        ∧ (∀ q, s.mem.ponds.at? p.owner = some q → (s.fn (q.inst + 1)).bitmap = none) ∧ s.poisonAt off = true
        ∧ bytes.length ≠ 64)
    ∧ (∃ (s : State) (off : Nat) (bytes : List Byte) (p : Plot) (k : _), s.memWf = true ∧ s.plotOf off = some p
        ∧ s.plotLost p = false ∧ 0 < bytes.length ∧ off / 64 = (off + bytes.length - 1) / 64
        ∧ (∀ q, s.mem.ponds.at? p.owner = some q → (s.fn (q.inst + 1)).bitmap = none)
        ∧ (∀ i, i < bytes.length → s.hbmKey (off + i) ≠ some k)) :=
  ⟨⟨up, 0x20000020, List.replicate 32 7, plot1, by and_intros <;> first | exact none_all (by decide +kernel) | decide +kernel⟩,
   ⟨(up.poisonGranule 0x20000000 1 4 1), 0x20000000, [7, 8], plot1, by and_intros <;> first | exact none_all (by decide +kernel) | decide +kernel⟩,
   ⟨up, 0x20000000, List.replicate 64 7, plot1, 5, by and_intros <;> first | exact none_all (by decide +kernel) | decide +kernel⟩⟩

/-- Instance 0 with its aperture open on plot 0. -/
def apS : State :=
  { up with
    host := { up.host with fns := up.host.fns.set 1 { vf with apEnable := true } }
    xlat := { up.xlat with
      tlb := [{ die := 0, fn := 1, slot := 0, span := 29, vpage := 0, pa := 0xFFFF * 2 ^ 43, hint := 0, used := 0 }] } }

set_option maxRecDepth 100000 in
/-- The hypotheses of the clauses of `HostAccessesReachMemory` are met. -/
theorem witness_HostAccessesReachMemory :
    (∃ (s : State) (off len : Nat), s.linked = true ∧ s.drowsy = false ∧ s.boot.ready = true
        ∧ off < 2 ^ 40 ∧ off < 0xC000000000 ∧ s.stalls 0 off len false = false
        ∧ (s.plotOf off).isSome = true ∧ (s.plotOf (off + len - 1)).isSome = true ∧ s.poisonIn off len = false)
    ∧ (∃ (s : State) (off len : Nat), s.linked = true ∧ s.drowsy = false ∧ s.boot.ready = true
        ∧ off < 2 ^ 40 ∧ off < 0xC000000000 ∧ s.stalls 0 off len false = false
        ∧ (s.plotOf off = none ∨ s.plotOf (off + len - 1) = none))
    ∧ (∃ (s : State) (off : Nat) (data : List Byte), s.linked = true ∧ s.drowsy = false
        ∧ s.boot.ready = true ∧ off < 2 ^ 40 ∧ off < 0xC000000000 ∧ s.stalls 0 off data.length true = false)
    ∧ (∃ (s : State) (off : Nat), s.linked = true ∧ s.drowsy = false ∧ s.boot.ready = true
        ∧ off < 2 ^ 40 ∧ 0xC000000000 ≤ off)
    ∧ (∃ (s : State) (fn off len : Nat) (bs : List Byte) (ext : Ext), s.linked = true
        ∧ s.drowsy = false ∧ s.boot.ready = true ∧ fn ≠ 0 ∧ s.fnExists fn = true ∧ off < 2 ^ 34 ∧ s.host.cxl ≠ 1
        ∧ (s.fn fn).apEnable = true
        ∧ s.readVa { fn, slot := 0, die := 0, tile := 0, sluice := 0, op := 0, pond := 0 } ext ((s.fn fn).apBase * 2 ^ 34 + off) len = .ok bs)
    ∧ (∀ cxl : Bool, ∃ (s : State) (fn off : Nat), s.linked = true ∧ s.drowsy = false ∧ s.boot.ready = true ∧ fn ≠ 0
        ∧ s.fnExists fn = true ∧ off < 2 ^ 34 ∧ (if cxl then s.host.cxl = 1 else (s.fn fn).apEnable = false))
    ∧ (∃ (s : State) (fn off : Nat), s.linked = true ∧ s.drowsy = true ∧ s.fnExists fn = true ∧ off < 2 ^ 34)
    ∧ (∀ owned : Bool, ∃ (s : State) (g : Nat) (p : Plot), s.linked = true ∧ s.host.cxl = 2 ∧ s.drowsy = false ∧ s.boot.ready = true
        ∧ 64 * g < 0xC000000000 ∧ s.movingPlot (64 * g) = false ∧ (∀ b, s.heldBySluice 0 (64 * g) 64 b = false) ∧ s.memWf = true
        ∧ s.mem.snoop.any (fun e => e.granule = g && e.owned) = owned ∧ s.plotOf (64 * g) = some p ∧ s.plotLost p = false
        ∧ ∀ q, s.mem.ponds.at? p.owner = some q → (s.fn (q.inst + 1)).bitmap = none) :=
  ⟨⟨up, 0x3FFFFFFC, 4, by decide +kernel⟩,
   ⟨up, 0x3FFFFFFC, 8, by decide +kernel⟩,
   ⟨up, 0x20000000, [1, 2, 3], by decide +kernel⟩,
   ⟨up, 0xC000000000, by decide +kernel⟩,
   ⟨apS, 1, 0x40, 4, [0, 0, 0, 0], ext0, by and_intros <;> first | exact acc_is (d := []) (by decide +kernel) | decide +kernel⟩,
   fun cxl => ⟨{ up with host := { up.host with cxl := if cxl then 1 else 2 } }, 1, 2 ^ 34 - 1, by cases cxl <;> decide +kernel⟩,
   ⟨{ up with clk := { up.clk with asleep := true } }, 1, 2 ^ 34 - 1, by decide +kernel⟩,
   fun owned => ⟨{ up with mem := { up.mem with snoop := [{ granule := 0x800000, agent := 0, owned }] } }, 0x800000, plot1,
      by and_intros <;> first | exact none_all (by cases owned <;> decide +kernel) | (cases owned <;> decide +kernel) | decide +kernel⟩⟩

set_option maxRecDepth 100000 in
/-- The hypotheses of the clauses of `PatrolAndBucketsTakeEffect` are met. -/
theorem witness_PatrolAndBucketsTakeEffect :
    (∃ (s : State) (off k : Nat), s.boot.ready = true ∧ s.ras.scrubHours ≠ 0 ∧ s.hbmKey off = some k
        ∧ s.fenced 4 (k / 0x80000000) = false)
    ∧ (∃ (s : State) (off : Nat) (l : LoftLine), s.boot.ready = true ∧ s.ras.scrubLoft ≠ 0
        ∧ s.fenced 5 (s.homeOf off) = false ∧ (s.plotOf off).isSome = true
        ∧ s.mem.loft.find? (fun l => l.line = off / 128) = some l
        ∧ s.work.sluices.any (fun p => p.2.lines.contains (off / 128) && !p.2.spilled.contains (off / 128)) = false
        ∧ l.dirty = true)
    ∧ (∃ (s : State) (off : Nat) (l : LoftLine), s.boot.ready = true ∧ s.ras.scrubLoft ≠ 0
        ∧ s.fenced 5 (s.homeOf off) = false ∧ (s.plotOf off).isSome = true
        ∧ s.mem.loft.find? (fun l => l.line = off / 128) = some l
        ∧ s.work.sluices.any (fun p => p.2.lines.contains (off / 128) && !p.2.spilled.contains (off / 128)) = false
        ∧ l.dirty = false)
    ∧ (∃ (s : State) (cls unit : Nat), 1 ≤ cls ∧ cls ≤ 7 ∧ unit < unitLimit cls ∧ 0 < (s.bucket cls unit).level) :=
  ⟨⟨{ up with ras := { up.ras with scrubHours := 1, scrubLoft := 1 }, mem := { up.mem with loft := [{ line := 2, die := 0, slice := 0, set := 0, way := 0, dirty := true, used := 0 }] } }, 0x20000000, 0x80000000, by decide +kernel⟩,
   ⟨{ up with ras := { up.ras with scrubHours := 1, scrubLoft := 1 }, mem := { up.mem with loft := [{ line := 2, die := 0, slice := 0, set := 0, way := 0, dirty := true, used := 0 }] } }, 256, { line := 2, die := 0, slice := 0, set := 0, way := 0, dirty := true, used := 0 }, by decide +kernel⟩,
   ⟨{ up with ras := { up.ras with scrubHours := 1, scrubLoft := 1 }, mem := { up.mem with loft := [{ line := 2, die := 0, slice := 0, set := 0, way := 0, dirty := false, used := 0 }] } }, 383, { line := 2, die := 0, slice := 0, set := 0, way := 0, dirty := false, used := 0 }, by decide +kernel⟩,
   ⟨{ up with ras := { up.ras with buckets := [(unitCode 4 383, { level := 1, warned := false, corrected := 0, uncorrectable := 0, poisoned := 0 })] } }, 4, 383, by decide +kernel⟩⟩

def loadD : Nat := dsc 0x30 [(2, 0, 3), (4, 0, 9), (0x20, 16, 2), (0x24, 0, 8191), (0x28, 0, 1), (0x30, 0, 0x1000)]

def runD : Nat := dsc 0x31 [(2, 0, 3), (4, 0, 9), (0x20, 0, 0), (0x20, 16, 2), (0x24, 0, 8191)]

/-- A load or a run that waits in the queues of both Vane tiles. -/
def waitRun (load : Bool) : VaneRun :=
  { order := 1, tiles := [384, 385], load, started := false, ranks := [], ovf := 0, nextTransfer := 1 }

def waitS (load : Bool) : State :=
  { upOp { mkOp (if load then loadD else runD) with phase := .queued } with eng := { up.eng with order := 1, runs := [(1, waitRun load)] } }

set_option maxRecDepth 100000 in
/-- An undefined instruction word, and one whose program memory is poisoned. -/
theorem witness_issues_VaneProgramsLoadAndRun :
    ((vaneUp vaneK (vw 0xFF 0 0 0 0 0 0)).vaneEnv 1 0).any (fun e => !e.i.ok) = true
    ∧ (({ vaneUp vaneK 0 with mem := { (vaneUp vaneK 0).mem with progPoison := [384 * 8192 + 100] } } : State).vaneAt 1 0).any
        (fun e => e.poisoned) = true := by
  decide +kernel

set_option maxRecDepth 100000 in
/-- The hypotheses of the clauses of `VaneProgramsLoadAndRun` are met. -/
theorem witness_VaneProgramsLoadAndRun :
    (∃ (s : State) (op : Nat) (o : Op) (p : Pond), s.go? op 0x31 = some o ∧ s.mem.ponds.at? o.pond = some p
        ∧ p.rankError true (vaneRanks o.desc).1 (vaneRanks o.desc).2 = none)
    ∧ (∃ (s : State) (op : Nat) (ext : Ext) (o : Op) (r : VaneRun) (bs : List Byte), ext.ecc = [] ∧ s.go? op 0x30 = none
        ∧ s.eng.runs.at? op = some r ∧ s.op? op = some o ∧ r.load = true ∧ s.vaneTurn op = true
        ∧ s.readVa (s.agent op o (dieOfTile (r.tiles.headD 0)) (r.tiles.headD 0 + 1)) ext (fld o.desc 0x30 0 55) (8 * fld o.desc 0x28 0 14) = .ok bs)
    ∧ (∃ (s : State) (op : Nat) (ext : Ext) (o : Op), ext.ecc = [] ∧ s.go? op 0x30 = some o)
    ∧ (∃ (s : State) (op : Nat) (o : Op) (r : VaneRun), s.eng.runs.at? op = some r ∧ s.op? op = some o
        ∧ r.load = false ∧ r.started = false ∧ o.phase = .queued ∧ s.vaneTurn op = true)
    ∧ (∃ (s : State) (op : Nat) (r : VaneRun), s.eng.runs.at? op = some r ∧ r.load = false ∧ r.started = true
        ∧ r.ranks.all (fun k => k.halted && k.transfers.isEmpty) = true) :=
  ⟨⟨world runD, 1, mkOp runD, pondA, by decide +kernel⟩,
   ⟨waitS true, 1, ext0, { mkOp loadD with phase := .queued }, waitRun true, List.replicate 8 0, by and_intros <;> first | exact acc_is (d := []) (by decide +kernel) | decide +kernel⟩,
   ⟨world loadD, 1, ext0, mkOp loadD, by decide +kernel⟩,
   ⟨waitS false, 1, { mkOp runD with phase := .queued }, waitRun false, by decide +kernel⟩,
   ⟨vaneUp { vaneK with halted := true } 0, 1, { moveRun 0 false with ranks := [{ vaneK with halted := true }] }, by decide +kernel⟩⟩

set_option maxRecDepth 100000 in
/-- The hypotheses of the clauses of `PredicationDecidesTheLanes` are met. -/
theorem witness_PredicationDecidesTheLanes :
    ((vaneUp vaneK (vw 0x40 31 2 3 0 1 0)).vaneEnv 1 0).any (fun e => e.i.d < e.k.v.length) = true := by
  decide +kernel

set_option maxRecDepth 100000 in
/-- The hypotheses of the clauses of `InstructionsChangeTheirRankAlone` are met. -/
theorem witness_InstructionsChangeTheirRankAlone :
    ((vaneUp vaneK (vw 0x40 31 2 3 0 1 0)).vaneEnv 1 0).isSome = true := by
  decide +kernel

set_option maxRecDepth 100000 in
/-- The hypotheses of the clauses of `VaneControlTakesEffect` are met. -/
theorem witness_VaneControlTakesEffect :
    ([vw 0x00 0 0 0 0 0 0, vw 0x01 0 0 0 0 0 0, vw 0x02 0 0 0 0 0 65535, vw 0x03 0 0 0 0 0 0, vw 0x04 0 0 0 0 0 8091, vw 0x05 0 2 3 0 0 (2 ^ 32 - 100), vw 0x06 0 2 3 0 0 (2 ^ 32 - 100), vw 0x07 0 5 3 0 0 (2 ^ 32 - 100), vw 0x08 0 2 3 0 0 8092, vw 0x09 0 5 3 0 0 (2 ^ 32 - 100), vw 0x0A 1 0 0 0 0 8091, vw 0x0B 0 12 0 0 0 0, vw 0x0C 0 3 0 0 0 (2 ^ 32 - 101), vw 0x0D 0 2 0 0 0 7, vw 0x0E 1 0 0 0 0 0, vw 0x0E 1 0 0 0 0 1, vw 0x0E 1 0 0 0 0 2, vw 0x0E 1 0 0 0 0 3, vw 0x0E 1 0 0 0 0 4, vw 0x0E 1 0 0 0 0 5, vw 0x0E 1 0 0 0 0 6, vw 0x0E 1 0 0 0 0 7, vw 0x0F 0 0 0 4 0 0, vw 0x7B 0 0 0 0 0 0].all (issues vaneK)) = true := by
  decide +kernel

set_option maxRecDepth 100000 in
/-- The hypotheses of the clauses of `VaneScalarsTakeEffect` are met. -/
theorem witness_VaneScalarsTakeEffect :
    ([vw 0x10 1 2 3 0 0 0, vw 0x11 1 2 3 0 0 0, vw 0x12 1 2 3 0 0 0, vw 0x13 1 2 3 0 0 0, vw 0x14 1 2 3 0 0 0, vw 0x15 1 2 3 0 0 0, vw 0x16 1 2 3 0 0 0, vw 0x17 1 2 3 0 0 0, vw 0x18 1 2 3 0 0 0, vw 0x19 1 2 0 0 0 (2 ^ 32 - 100), vw 0x1A 1 0 0 0 0 (2 ^ 32 - 100), vw 0x1B 1 0 0 0 0 77, vw 0x1E 1 2 3 0 0 0, vw 0x57 1 2 0 0 0 0, vw 0x5D 1 2 3 0 0 0].all (issues vaneK)) = true := by
  decide +kernel

set_option maxRecDepth 100000 in
/-- The hypotheses of the clauses of `VaneLanesTakeEffect` are met. -/
theorem witness_VaneLanesTakeEffect :
    ([vw 0x40 1 2 3 0 1 0, vw 0x41 1 2 3 0 1 0, vw 0x42 1 2 3 0 1 0, vw 0x43 1 2 3 0 1 0, vw 0x44 1 2 3 0 1 0, vw 0x45 1 2 3 0 1 0, vw 0x46 1 2 3 0 1 0, vw 0x47 1 2 3 0 1 0, vw 0x48 1 2 3 0 1 0, vw 0x49 1 2 3 0 1 0, vw 0x4A 1 2 3 0 1 0, vw 0x51 1 2 3 0 1 2, vw 0x52 1 2 3 0 0 0, vw 0x53 1 2 3 0 0 0, vw 0x54 1 2 3 0 0 0, vw 0x55 1 2 0 0 0 0, vw 0x56 1 2 0 0 0 0, vw 0x58 1 2 3 4 1 0, vw 0x59 1 0 0 0 1 0, vw 0x5A 1 2 0 0 1 0, vw 0x5B 1 0 0 0 1 0, vw 0x5C 1 2 3 0 1 0, vw 0x5E 1 2 3 0 0 0, vw 0x5F 1 2 3 0 1 0, vw 0x64 1 2 3 4 1 0].all (issues vaneK)) = true := by
  decide +kernel

set_option maxRecDepth 100000 in
/-- The hypotheses of the clauses of `VaneFloatsTakeEffect` are met. -/
theorem witness_VaneFloatsTakeEffect :
    ([vw 0x20 1 2 3 0 1 0, vw 0x21 1 2 3 0 1 0, vw 0x22 1 2 3 0 1 0, vw 0x23 1 2 3 4 1 0, vw 0x24 1 2 3 4 1 0, vw 0x25 1 2 3 0 1 0, vw 0x26 1 2 3 0 1 0, vw 0x27 1 2 0 0 1 0, vw 0x28 1 2 0 0 1 0, vw 0x29 1 2 3 0 1 0, vw 0x2A 1 2 0 0 1 0, vw 0x2B 1 2 3 0 1 0, vw 0x2C 1 2 3 0 1 0, vw 0x2D 1 2 3 4 1 0, vw 0x30 1 2 3 0 1 1, vw 0x31 1 2 3 0 1 0, vw 0x32 1 2 3 0 1 0, vw 0x33 1 2 3 4 1 1, vw 0x34 1 2 3 0 1 0, vw 0x35 1 2 3 0 1 0, vw 0x38 1 2 0 0 1 0, vw 0x39 1 2 0 0 1 0, vw 0x3A 1 2 0 0 1 0, vw 0x3B 1 2 0 0 1 0, vw 0x3C 1 2 0 0 1 0, vw 0x3D 1 2 0 0 1 0, vw 0x3E 1 2 0 0 1 0, vw 0x3F 1 2 0 0 1 0].all (issues vaneK)) = true := by
  decide +kernel

set_option maxRecDepth 100000 in
/-- The hypotheses of the clauses of `VaneComparesAndReductions` are met. -/
theorem witness_VaneComparesAndReductions :
    ([vw 0x50 1 2 3 0 1 2, vw 0x60 1 2 0 0 1 0, vw 0x60 1 2 0 0 2 0, vw 0x61 1 2 0 0 1 0, vw 0x62 1 2 0 0 1 0, vw 0x63 1 2 0 0 1 0x0102].all (issues vaneK)) = true := by
  decide +kernel

set_option maxRecDepth 100000 in
/-- The hypotheses of the clauses of `VaneLoadsAndStores` are met. -/
theorem witness_VaneLoadsAndStores :
    ([vw 0x1C 1 2 0 0 0 0, vw 0x1D 1 9 0 0 0 8, vw 0x68 1 2 0 2 1 4, vw 0x69 1 2 3 2 1 0, vw 0x6B 1 2 0 0 1 0, vw 0x6C 1 2 3 1 1 (2 ^ 32 - 4)].all (issues vaneK)) = true
    ∧ ([vw 0x6A 1 2 3 2 1 0, vw 0x6D 1 2 3 2 1 0].all (issues ({ vaneK with v := (List.range 32).map (fun n => (List.range 64).map (fun i => BitVec.ofNat 32 (n * 0x10000 + 4 * i))) }))) = true
    ∧ (vaneUp vaneK 0).sramPoisoned 384 64 8 = false
    ∧ (vaneUp vaneK (vw 0x1D 1 9 0 0 0 8)).memWf = true := by
  decide +kernel

set_option maxRecDepth 100000 in
/-- The hypotheses of the clauses of `VaneQuernsTakeEffect` are met. -/
theorem witness_VaneQuernsTakeEffect :
    ([vw 0x70 0 0 0 0 1 0, vw 0x71 0 2 3 4 1 0, vw 0x72 0 2 0 4 1 0, vw 0x73 0 0 0 0 1 0, vw 0x74 0 2 3 0 2 0, vw 0x74 0 2 3 0 1 0, vw 0x75 0 2 3 0 2 0, vw 0x75 0 2 3 0 1 0].all (issues vaneK)) = true
    ∧ (vaneUp vaneK (vw 0x75 0 2 3 0 1 0)).memWf = true
    ∧ (vaneUp vaneK 0).sramPoisoned 384 16 16 = false
    ∧ ((List.range 64).all (fun i => !(vaneUp vaneK 0).sramPoisoned 384 (64 + 16 * i) 16)) = true
    ∧ (vaneK.acc.length = 64 ∧ (vaneK.pr 1).testBit 0 = true ∧ vaneK.pr 2 = 0 ∧ vaneK.sr 4 = 5) := by
  decide +kernel

set_option maxRecDepth 100000 in
/-- The hypotheses of the clauses of `VaneTransfersTakeEffect` are met. -/
theorem witness_issues_VaneTransfersTakeEffect :
    ([vw 0x78 0 2 9 3 0 0, vw 0x79 0 2 9 3 0 0, vw 0x7A 1 10 3 9 0 0x1F].all (issues vaneK)) = true := by
  decide +kernel

/-- A rank with two transfers of one kind on their way to the same line or the same rank. -/
def twoMoves (kind : Nat) : State :=
  vaneUp { vaneK with transfers := [{ moveT kind false with id := 6 }, moveT kind false] } 0

set_option maxRecDepth 100000 in
/-- The hypotheses of the clauses of `VaneTransfersTakeEffect` are met. -/
theorem witness_VaneTransfersTakeEffect :
    (∃ (s : State) (op rank id : Nat) (o : Op) (r : VaneRun) (k : VaneRank) (t : Transfer), s.eng.orphans = []
        ∧ s.eng.runs.at? op = some r ∧ s.op? op = some o ∧ r.ranks[rank]? = some k
        ∧ k.transfers.find? (fun t => t.id = id) = some t ∧ t.kind = 2 ∧ t.landed = true)
    ∧ (∀ inOrder : Bool, ∃ (s : State) (op rank id : Nat) (o : Op) (r : VaneRun) (k : VaneRank) (t : Transfer), s.eng.orphans = []
        ∧ s.eng.runs.at? op = some r ∧ s.op? op = some o ∧ r.ranks[rank]? = some k
        ∧ k.transfers.find? (fun t => t.id = id) = some t ∧ t.kind ≠ 2
        ∧ s.inLineOrder (s.agent op o (dieOfTile k.tile) (k.tile + 1)) op rank t = inOrder)
    ∧ (∃ (s : State) (op rank id : Nat) (ext : Ext) (o : Op) (r : VaneRun) (k : VaneRank) (t : Transfer) (s1 : State), ext.ecc = []
        ∧ s.eng.orphans = [] ∧ s.eng.runs.at? op = some r ∧ s.op? op = some o ∧ r.ranks[rank]? = some k
        ∧ k.transfers.find? (fun t => t.id = id) = some t ∧ t.kind ≠ 2
        ∧ s.inLineOrder (s.agent op o (dieOfTile k.tile) (k.tile + 1)) op rank t = true
        ∧ s.moveTransfer (s.agent op o (dieOfTile k.tile) (k.tile + 1)) ext k.tile t = .ok s1)
    ∧ (∃ (s : State) (op rank id : Nat) (ext : Ext) (o : Op) (r : VaneRun) (k : VaneRank) (t : Transfer) (s1 : State) (st x : Nat),
        ext.ecc = [] ∧ s.eng.orphans = [] ∧ s.eng.runs.at? op = some r ∧ s.op? op = some o ∧ r.ranks[rank]? = some k
        ∧ k.transfers.find? (fun t => t.id = id) = some t ∧ t.kind ≠ 2
        ∧ s.inLineOrder (s.agent op o (dieOfTile k.tile) (k.tile + 1)) op rank t = true
        ∧ s.moveTransfer (s.agent op o (dieOfTile k.tile) (k.tile + 1)) ext k.tile t = .bad s1 st x)
    ∧ (∃ (s : State) (op rank id : Nat) (r : VaneRun) (k : VaneRank) (t : Transfer), s.memWf = true
        ∧ s.eng.orphans = [] ∧ s.eng.runs.at? op = some r ∧ r.ranks[rank]? = some k ∧ t.undef = []
        ∧ k.transfers.find? (fun t => t.id = id && t.kind = 2 && !t.landed) = some t ∧ s.inSendOrder op rank t = true) :=
  ⟨⟨moveS 2 true, 1, 0, 7, moveO, moveRun 2 true, moveK 2 true, moveT 2 true, by decide +kernel⟩,
   fun inOrder => if h : inOrder = true then
      h ▸ ⟨moveS 0 false, 1, 0, 7, moveO, moveRun 0 false, moveK 0 false, moveT 0 false, by decide +kernel⟩
    else by
      cases inOrder
      · exact ⟨twoMoves 0, 1, 0, 7, moveO, _, _, moveT 0 false, rfl, rfl, by decide +kernel, rfl, rfl, by decide +kernel, by decide +kernel⟩
      · exact absurd rfl h,
   ⟨moveS 0 false, 1, 0, 7, ext0, moveO, moveRun 0 false, moveK 0 false, moveT 0 false,
      wroteGet up ((moveS 0 false).moveTransfer ((moveS 0 false).agent 1 moveO 0 385) ext0 384 (moveT 0 false)),
      by and_intros <;> first | exact wrote_ok (by decide +kernel) | decide +kernel⟩,
   ⟨(moveS 0 false).poisonGranule 0x2000 1 4 0, 1, 0, 7, ext0, moveO, moveRun 0 false, moveK 0 false, moveT 0 false,
      (badGet up (((moveS 0 false).poisonGranule 0x2000 1 4 0).moveTransfer (((moveS 0 false).poisonGranule 0x2000 1 4 0).agent 1 moveO 0 385) ext0 384 (moveT 0 false))).1,
      (badGet up (((moveS 0 false).poisonGranule 0x2000 1 4 0).moveTransfer (((moveS 0 false).poisonGranule 0x2000 1 4 0).agent 1 moveO 0 385) ext0 384 (moveT 0 false))).2.1,
      (badGet up (((moveS 0 false).poisonGranule 0x2000 1 4 0).moveTransfer (((moveS 0 false).poisonGranule 0x2000 1 4 0).agent 1 moveO 0 385) ext0 384 (moveT 0 false))).2.2,
      by and_intros <;> first | exact wrote_bad (by decide +kernel) | decide +kernel⟩,
   ⟨moveS 2 false, 1, 0, 7, moveRun 2 false, moveK 2 false, moveT 2 false, by decide +kernel⟩⟩

/-- A member in the SRAM of mill tile rank 0 of this device, and one of device 3. -/
def redM : RedMember := { loc := 1, dev := 0xFFFF, rank := 0, src := 0, dst := 64, srcTag := 0, dstTag := 0 }

def redM3 : RedMember := { redM with dev := 3 }

def redR : RedRun := { op := 1, gen := 7, stops := [(0, 0)], parts := [], sent := [], flags := 0 }

def redG (kind mere : Nat) (ms : List RedMember) (r : Option RedRun) : RedGroup :=
  { fn := 0, gid := 5, pond := 1, kind, fmt := 1, elements := 2, root := 0, mere, timeoutUs := 0, members := ms, flume := false
    die := 0, slot := 0, ports := 0, crc := 9, run := r }

/-- A state with that group as group 3 and the given operation. -/
def redS (g : RedGroup) (o : Op) : State := { upOp o with eng := { up.eng with groups := [(3, g)], nextGroup := 4 } }

def redO : Op := { mkOp (dsc 0x41 [(2, 0, 3), (4, 0, 9), (0x20, 0, 5), (0x28, 0, 7)]) with phase := .running }

/-- A RED_OPEN of a group of kind SUM in FP32 with one member, whose table is at 0x1000. -/
def openD : Nat :=
  dsc 0x40 [(2, 0, 3), (4, 0, 9), (0x20, 0, 5), (0x28, 0, 1), (0x28, 2, 1), (0x30, 0, 2), (0x34, 0, 1), (0x38, 0, 0x1000)]

/-- A RED_RUN of that group, resolved. -/
def runRed : Op := mkOp (dsc 0x41 [(2, 0, 3), (4, 0, 9), (0x20, 0, 5), (0x28, 0, 7)])

/-- The contributions of two members. -/
def twoParts : List Partial :=
  [{ chunk := 0, mask := 1, cells := [.f (some 0), .f (some 0)] }, { chunk := 0, mask := 2, cells := [.f (some 0x3F800000), .f none] }]

/-- A run on member 0's device with every contribution present. -/
def rootRun : RedRun := { redR with stops := [(0, 0), (1, 1)], parts := twoParts }

def rootG : RedGroup := redG 1 0 [redM, redM] (some rootRun)

def rootS : State := redS rootG redO

def rootCells : List Cell × Nat := (rootRun.total 1 0 2).getD ([], 0)

/-- A run on another device, its own sums sent, whose group's CRCs agree; of a kind that delivers here or not. -/
def leafG (kind : Nat) : RedGroup := redG kind 1 [redM3, redM] (some { redR with stops := [(1, 0)], sent := [0] })

def leafS (kind : Nat) : State :=
  { redS (leafG kind) redO with eng := { (redS (leafG kind) redO).eng with redCrcs := [(0, 5, 3, 9)] } }

/-- Every slot of every die taken, and `n` more groups open in Flume mode. -/
def fullGroups (n : Nat) : State :=
  { redS rootG { runRed with desc := openD } with
    eng := { up.eng with
      groups := ((List.range 256).map (fun i => (i, { rootG with die := i / 64, slot := i % 64, run := none })))
        ++ ((List.range n).map (fun i => (256 + i, { rootG with flume := true, run := none }))) } }

set_option maxRecDepth 100000 in
/-- A group opens, or finds no slot. -/
theorem witness_opens_ReductionCommandsTakeEffect :
    (∃ (s : State) (op : Nat) (ext : Ext) (o : Op) (bs : List Byte) (ms : List RedMember) (x : Nat × Nat), let d := o.desc
      let n := fld d 0x34 0 17
      let table := (List.range n).map (fun i => leNat ((bs.drop (64 * i)).take 64))
      s.go? op 0x40 = some o ∧ fld d 0x40 0 32 = 0
        ∧ s.readVa (s.newt o.fn o.ctx 0) ext (fld d 0x38 0 55) (64 * n) = .ok bs
        ∧ (List.range n).map (fun i => parseMember d i (getAt 0 table i)) = ms.map some
        ∧ (∀ i m, ms[i]? = some m → s.memberOk d o.pond i [] m = true) ∧ s.redGroup? o.fn (fld d 0x20 0 64) = none
        ∧ (s.fn o.fn).groupMax = 0
        ∧ s.groupSlot ((ms.filter s.isLocalMember).filterMap (s.memberDie (s.newt o.fn o.ctx 0) o.pond)) = some x)
    ∧ (∃ (s : State) (op pond : Nat) (o : Op) (ms : List RedMember), s.op? op = some o ∧ o.phase ≠ .ended
        ∧ fld o.desc 0x40 0 32 = 0
        ∧ s.groupSlot ((ms.filter s.isLocalMember).filterMap (s.memberDie (s.newt o.fn o.ctx 0) pond)) = none) :=
  ⟨⟨withHbm (world openD) 0x1000 (leBytes 64 (0xFFFF0011 + 2 ^ 134)), 1, ext0, mkOp openD, leBytes 64 (0xFFFF0011 + 2 ^ 134),
      [{ redM with dst := 64 }], (0, 0), by decide +kernel, by decide +kernel, acc_is (d := []) (by decide +kernel), by decide +kernel,
      by intro i m; cases i with | zero => rintro ⟨⟩; decide +kernel | succ n => intro h; simp at h,
      by decide +kernel, by decide +kernel, by decide +kernel⟩,
   ⟨fullGroups 0, 1, 1, { runRed with desc := openD }, [], by decide +kernel⟩⟩

set_option maxRecDepth 100000 in
/-- The chunk of member 0's device and that of another arrive at their destinations. -/
theorem witness_delivers_ReductionCommandsTakeEffect :
    (∃ (s s1 : State) (op k : Nat) (ext : Ext) (g : RedGroup) (r : RedRun) (o : Op) (cells : List Cell) (fl : Nat),
      s.redGroupOf op = some (k, g, r) ∧ s.op? op = some o ∧ s.crcsMatch g = true ∧ 0 < g.chunks
        ∧ r.out.any (fun x => x.1 = 0) = false ∧ s.isRedRoot g = true ∧ r.complete g = true
        ∧ r.total g.fmt 0 g.members.length = some (cells, fl) ∧ s.deliverRed op k o g r ext 0 cells fl = .ok s1
        ∧ s.otherDevices g = [])
    ∧ (∃ (s s1 : State) (op k : Nat) (data : List Byte) (ext : Ext) (g : RedGroup) (r : RedRun) (o : Op),
      s.redGroupOf op = some (k, g, r) ∧ s.op? op = some o ∧ s.crcsMatch g = true ∧ 0 < g.chunks
        ∧ r.out.any (fun x => x.1 = 0) = false ∧ s.isRedRoot g = false ∧ (List.range g.chunks).all r.sent.contains = true
        ∧ (s.redNeeds g).contains 0 = true ∧ data.length = g.chunkLen 0 * wireSize g.fmt
        ∧ s.deliverRed op k o g r ext 0 (wireCells g.fmt (g.chunkLen 0) data) 0 = .ok s1)
    ∧ (∃ (s : State) (op k : Nat) (g : RedGroup) (r : RedRun) (o : Op),
      s.redGroupOf op = some (k, g, r) ∧ s.op? op = some o ∧ s.crcsMatch g = true ∧ 0 < g.chunks
        ∧ r.out.any (fun x => x.1 = 0) = false ∧ s.isRedRoot g = false ∧ (List.range g.chunks).all r.sent.contains = true
        ∧ s.redNeeds g = [] ∧ s.eng.groups.at? k = some g ∧ g.run = some r ∧ g.flume = false ∧ r.ovf = 0) :=
  ⟨⟨rootS, wroteGet up (rootS.deliverRed 1 3 redO rootG rootRun ext0 0 rootCells.1 rootCells.2), 1, 3, ext0, rootG, rootRun, redO,
      rootCells.1, rootCells.2, by and_intros <;> first | exact wrote_ok (by decide +kernel) | decide +kernel⟩,
   ⟨leafS 1, wroteGet up ((leafS 1).deliverRed 1 3 redO (leafG 1) { redR with stops := [(1, 0)], sent := [0] } ext0 0
        (wireCells 1 2 [0, 0, 0, 0, 1, 2, 3, 4]) 0), 1, 3, [0, 0, 0, 0, 1, 2, 3, 4], ext0, leafG 1,
      { redR with stops := [(1, 0)], sent := [0] }, redO, by and_intros <;> first | exact wrote_ok (by decide +kernel) | decide +kernel⟩,
   ⟨leafS 0, 1, 3, leafG 0, { redR with stops := [(1, 0)], sent := [0] }, redO, by decide +kernel⟩⟩

set_option maxRecDepth 100000 in
/-- The hypotheses of the clauses of `ReductionCommandsTakeEffect` are met. -/
theorem witness_ReductionCommandsTakeEffect :
    (∃ (s : State) (op k : Nat) (o : Op) (g : RedGroup) (stops : List (Nat × Nat)), s.go? op 0x41 = some o
        ∧ s.redGroup? o.fn (fld o.desc 0x20 0 64) = some (k, g) ∧ s.eng.groups.at? k = some g ∧ g.run = none ∧ g.flume = false
        ∧ s.eng.redCrcs = [] ∧ s.eng.redHeld = []
        ∧ (∀ p, p ∈ s.work.ops → p.1 ≠ op → p.2.opcode = 0x41 → p.2.phase ≠ .queued) ∧ s.redStops g = .inr stops)
    ∧ (∃ (s : State) (op k : Nat) (o : Op) (g : RedGroup), s.go? op 0x42 = some o
        ∧ s.redGroup? o.fn (fld o.desc 0x20 0 64) = some (k, g)
        ∧ (∀ p, p ∈ s.work.ops → p.2.opcode = 0x41 → p.2.phase ≠ .queued ∧ p.2.phase ≠ .running))
    ∧ (∃ (s : State) (f gid : Nat), s.redGroup? f gid = none)
    ∧ (∃ (s : State) (f gid dev crc k : Nat) (g : RedGroup) (r : RedRun) (o : Op), s.redGroup? f gid = some (k, g)
        ∧ s.eng.groups.at? k = some g ∧ g.fn = f ∧ g.gid = gid ∧ g.run = some r ∧ s.op? r.op = some o ∧ o.phase ≠ .ended
        ∧ dev ∈ s.otherDevices g ∧ crc ≠ g.crc)
    ∧ (∃ (s : State) (f gid k c i : Nat) (ext : Ext) (g : RedGroup) (m : RedMember) (r : RedRun) (o : Op) (cells : List Cell),
        s.redGroup? f gid = some (k, g) ∧ s.eng.groups.at? k = some g ∧ g.members[i]? = some m ∧ g.run = some r
        ∧ s.isRedRoot g = true ∧ s.isLocalMember m = true ∧ s.op? r.op = some o ∧ c < g.chunks ∧ r.has c i = false
        ∧ s.readMember (s.agent r.op o g.die 0) ext g r o i c m = .ok cells)
    ∧ (∃ (s : State) (f gid k c mask : Nat) (ext : Ext) (g : RedGroup) (m : RedMember) (r : RedRun),
        s.redGroup? f gid = some (k, g) ∧ s.eng.groups.at? k = some g ∧ g.members[lowBit g.members.length mask]? = some m
        ∧ g.run = some r ∧ s.isRedRoot g = true ∧ s.isLocalMember m = false ∧ ext.poison = false ∧ c < g.chunks ∧ mask ≠ 0
        ∧ mask < 2 ^ g.members.length ∧ (g.fmt = 0x10 ∨ isSubtree g.members.length mask = true)
        ∧ r.parts.any (fun x => x.chunk = c && x.mask &&& mask ≠ 0) = false)
    ∧ (∀ lost : Bool, ∃ (s : State) (k : Nat) (g : RedGroup) (r : RedRun), s.eng.groups.at? k = some g ∧ g.run = some r
        ∧ g.flume = false ∧ (s.redNeeds g).all (fun c => r.out.any (fun x => x.1 = c)) = true ∧ decide (r.ovf ≠ 0) = lost)
    ∧ (∃ (s : State) (op k : Nat) (g : RedGroup) (r : RedRun), s.redGroupOf op = some (k, g, r) ∧ r.out = []
        ∧ s.isRedRoot g = false)
    ∧ (∃ (s : State) (op k : Nat) (g : RedGroup) (r : RedRun), s.redGroupOf op = some (k, g, r) ∧ r.out = []
        ∧ s.crcsMatch g = false)
    ∧ (∃ (s : State) (op k : Nat) (g : RedGroup) (r : RedRun), s.redGroupOf op = some (k, g, r) ∧ r.out = []
        ∧ r.complete g = false)
    ∧ (∃ (s : State) (f gid gen id : Nat), s.liveOps (fun o => o.opcode = 0x41 && o.fn = f && fld o.desc 0x20 0 64 = gid
        && fld o.desc 0x28 0 32 = gen && (o.phase = .queued || o.phase = .running)) = [id]) :=
  ⟨⟨redS (redG 1 0 [redM, redM] none) runRed, 1, 3, runRed, redG 1 0 [redM, redM] none, [(0, 0), (1, 0)],
      by and_intros <;> first | rfl | decide +kernel⟩,
   ⟨redS (redG 1 0 [redM, redM] none) (mkOp (dsc 0x42 [(2, 0, 3), (4, 0, 9), (0x20, 0, 5)])), 1, 3,
      mkOp (dsc 0x42 [(2, 0, 3), (4, 0, 9), (0x20, 0, 5)]), redG 1 0 [redM, redM] none, by decide +kernel⟩,
   ⟨up, 0, 5, by decide +kernel⟩,
   ⟨redS (redG 1 1 [redM, redM3] (some redR)) redO, 0, 5, 3, 8, 3, redG 1 1 [redM, redM3] (some redR), redR, redO, by decide +kernel⟩,
   ⟨redS (redG 1 1 [redM, redM3] (some redR)) redO, 0, 5, 3, 0, 0, ext0, redG 1 1 [redM, redM3] (some redR), redM, redR, redO,
      accGet [] ((redS (redG 1 1 [redM, redM3] (some redR)) redO).readMember ((redS (redG 1 1 [redM, redM3] (some redR)) redO).agent 1 redO 0 0)
        ext0 (redG 1 1 [redM, redM3] (some redR)) redR redO 0 0 redM),
      by and_intros <;> first | exact acc_ok (by decide +kernel) | decide +kernel⟩,
   ⟨redS (redG 1 1 [redM, redM3] (some redR)) redO, 0, 5, 3, 0, 2, ext0, redG 1 1 [redM, redM3] (some redR), redM3, redR, by decide +kernel⟩,
   fun lost => ⟨redS { rootG with run := some { rootRun with out := [(0, [])], ovf := if lost then 1 else 0 } } redO, 3,
      { rootG with run := some { rootRun with out := [(0, [])], ovf := if lost then 1 else 0 } },
      { rootRun with out := [(0, [])], ovf := if lost then 1 else 0 }, by cases lost <;> decide +kernel⟩,
   ⟨leafS 1, 1, 3, leafG 1, { redR with stops := [(1, 0)], sent := [0] }, by decide +kernel⟩,
   ⟨redS (redG 1 1 [redM, redM3] (some redR)) redO, 1, 3, redG 1 1 [redM, redM3] (some redR), redR, by decide +kernel⟩,
   ⟨redS (redG 1 0 [redM, redM] (some redR)) redO, 1, 3, redG 1 0 [redM, redM] (some redR), redR, by decide +kernel⟩,
   ⟨upOp redO, 0, 5, 7, 1, by decide +kernel⟩⟩

/-- A run with the contributions of `n` members to chunk 3. -/
def partsOf (n : Nat) : RedRun :=
  { redR with parts := (List.range n).map (fun i => { chunk := 3, mask := 2 ^ i, cells := [.f (some 0x3F800000)] }) }

set_option maxRecDepth 100000 in
/-- The hypotheses of the clauses of `ReductionTreeAddsEveryMember` are met. -/
theorem witness_ReductionTreeAddsEveryMember :
    (∃ (r : RedRun) (c n : Nat), 0 < n ∧ (∀ i, i < n → ∃ p, p ∈ r.parts ∧ p.chunk = c ∧ p.mask = 2 ^ i))
    ∧ (∃ (r : RedRun) (c n i : Nat), i < n ∧ (∀ p, p ∈ r.parts → p.chunk = c → p.mask.testBit i = false))
    ∧ (∃ (r : RedRun) (c : Nat) (a b : List Cell),
        r.parts = [{ chunk := c, mask := 1, cells := a }, { chunk := c, mask := 2, cells := b }])
    ∧ (∃ (r : RedRun) (fmt c n : Nat) (cells : List Cell) (fl v : Nat), fmt ≠ 0x10 ∧ r.total fmt c n = some (cells, fl)
        ∧ Cell.f (some v) ∈ cells ∧ (f32 v).isNan = true) :=
  ⟨⟨partsOf 3, 3, 3, by decide +kernel⟩,
   ⟨partsOf 2, 3, 3, 2, by decide +kernel⟩,
   ⟨partsOf 2, 3, [.f (some 0x3F800000)], [.f (some 0x3F800000)], by decide +kernel⟩,
   ⟨{ redR with parts := [{ chunk := 0, mask := 1, cells := [.f (some 0xFF800001)] }] }, 1, 0, 1, [.f (some 0x7FC00000)], 0, 0x7FC00000,
      by decide +kernel⟩⟩

/-- A descriptor of opcode `opc` for sluice 77, resolved; its wait met or not. -/
def sluO (opc : Nat) (met : Bool) : Op := { mkOp (dsc opc [(2, 0, 5), (4, 0, 9), (8, 0, 77)]) with waitMet := met }

/-- Its effect already taken. -/
def sluActed (opc : Nat) : Op := { sluO opc true with acted := true }

/-- A SLUICE_GUARD of three bytes across a page boundary. -/
def guardO (met : Bool) : Op :=
  { mkOp (dsc 0x51 [(2, 0, 5), (4, 0, 9), (8, 0, 77), (0x20, 0, 0xFFF), (0x28, 0, 2)]) with waitMet := met }

set_option maxRecDepth 100000 in
/-- A sluice descriptor takes its effect whether or not its wait is met, and goes on once it is. -/
theorem witness_descriptors_SluiceCommandsTakeEffect :
    (∀ met : Bool, ∃ (s : State) (op : Nat) (o : Op), s.acts? op 0x50 = some o ∧ s.readyOp op o = met ∧ fld o.desc 0x20 0 32 = 0
        ∧ (∀ p, p ∈ s.work.sluices → ¬(p.2.fn = o.fn ∧ p.2.id = fld o.desc 8 0 48)) ∧ s.layoutPending = false
        ∧ s.entriesUsed < 1024 ∧ (s.fn o.fn).sluiceMax = 0)
    ∧ (∀ met : Bool, ∃ (s : State) (op k : Nat) (o : Op) (ps : List Nat), s.acts? op 0x51 = some o ∧ s.readyOp op o = met
        ∧ s.joins o.fn o.sq (fld o.desc 8 0 48) = k ∧ k ≠ 0
        ∧ s.guardPages (s.newt o.fn o.ctx 0) ((pagesOf (fld o.desc 0x20 0 55) (fld o.desc 0x28 0 32)).map (· * 4096)) = .ok ps
        ∧ s.guardCount k ps ≤ 65536)
    ∧ (∀ met : Bool, ∃ (s : State) (op k : Nat) (o : Op) (e : Sluice), s.acts? op 0x52 = some o ∧ s.readyOp op o = met
        ∧ s.joins o.fn o.sq (fld o.desc 8 0 48) = k ∧ k ≠ 0 ∧ s.work.sluices.at? k = some e)
    ∧ (∃ (s : State) (op k : Nat) (o : Op) (e : Sluice), s.acts? op 0x53 = some o
        ∧ s.sees o.fn o.sq (fld o.desc 8 0 48) = k ∧ s.work.sluices.at? k = some e ∧ e.state = .committed)
    ∧ (∀ met : Bool, ∃ (s : State) (op k : Nat) (o : Op) (e : Sluice), s.acts? op 0x53 = some o ∧ s.readyOp op o = met
        ∧ s.sees o.fn o.sq (fld o.desc 8 0 48) = k ∧ s.work.sluices.at? k = some e ∧ e.state = .holding)
    ∧ (∀ opc, opc ∈ [0x50, 0x51, 0x52, 0x53] → ∃ (s : State) (op : Nat) (o : Op), s.op? op = some o ∧ o.acted = true
        ∧ s.readyOp op o = true ∧ o.opcode = opc) :=
  ⟨fun met => ⟨upOp (sluO 0x50 met), 1, sluO 0x50 met, by cases met <;> decide +kernel⟩,
   fun met => ⟨sluS (sluA .open_) (upOp (guardO met)), 1, 3, guardO met, [0, 1],
      by and_intros <;> first | exact acc_is (d := []) (by cases met <;> decide +kernel) | (cases met <;> decide +kernel) | decide +kernel⟩,
   fun met => ⟨sluS (sluA .open_) (upOp (sluO 0x52 met)), 1, 3, sluO 0x52 met, sluA .open_, by cases met <;> decide +kernel⟩,
   ⟨sluS (sluA .committed) (upOp (sluO 0x53 true)), 1, 3, sluO 0x53 true, sluA .committed, by decide +kernel⟩,
   fun met => ⟨sluS (sluA .holding) (upOp (sluO 0x53 met)), 1, 3, sluO 0x53 met, sluA .holding, by cases met <;> decide +kernel⟩,
   fun opc h => ⟨upOp (sluActed opc), 1, sluActed opc, by
      simp only [List.mem_cons, List.not_mem_nil, or_false] at h
      obtain rfl | rfl | rfl | rfl := h <;> decide +kernel⟩⟩

set_option maxRecDepth 100000 in
/-- The hypotheses of the clauses of `SluiceCommandsTakeEffect` are met. -/
theorem witness_SluiceCommandsTakeEffect :
    (∃ (s : State) (f id k : Nat) (e : Sluice), s.sluiceNamed f id (fun e => e.state = .closing) = k
        ∧ s.work.sluices.at? k = some e ∧ e.state = .closing ∧ s.work.ops.any (fun p => p.2.sluice = k) = false
        ∧ s.commitRuns e = true ∧ s.commitBlocked k e = false ∧ e.recorded = [])
    ∧ (∀ mere : Bool, ∃ (s : State) (f id k : Nat) (e : Sluice), s.sluiceNamed f id (fun e => e.state = .holding) = k
        ∧ s.work.sluices.at? k = some e ∧ decide (e.mere ≠ 0) = mere ∧ e.participant = mere)
    ∧ (∃ (s : State) (f id k : Nat) (e : Sluice) (o : Op),
        s.sluiceNamed f id (fun e => e.state = .committed && !e.published) = k ∧ s.work.sluices.at? k = some e
        ∧ e.state = .committed ∧ e.mere = 0 ∧ e.recorded = [] ∧ e.staged = [] ∧ s.op? e.commitOp = some o ∧ o.phase ≠ .ended)
    ∧ (∃ (s : State) (f id k : Nat) (e : Sluice), s.sluiceNamed f id (fun e => e.state = .aborting) = k
        ∧ s.work.sluices.at? k = some e ∧ (∀ p, p ∈ s.work.ops → p.2.sluice ≠ k ∧ p.1 ≠ e.commitOp ∧ p.1 ∉ e.abortOps))
    ∧ (∃ (s : State) (die : Nat), s.work.sluices = [] ∧ die < 4
        ∧ s.mem.stageWritten.get 4 die ≠ s.mem.stageWays.get 4 die) :=
  ⟨⟨sluS { sluA .closing with commitOp := 1 } (upOp { sluO 0x52 true with phase := .running }), 0, 77, 3,
      { sluA .closing with commitOp := 1 }, by decide +kernel⟩,
   fun mere => ⟨sluS { sluA .holding with mere := if mere then 6 else 0, participant := mere } up, 0, 77, 3,
      { sluA .holding with mere := if mere then 6 else 0, participant := mere }, by cases mere <;> decide +kernel⟩,
   ⟨sluS { sluA .committed with commitOp := 1 } (upOp { sluO 0x52 true with phase := .running }), 0, 77, 3,
      { sluA .committed with commitOp := 1 }, { sluO 0x52 true with phase := .running }, by decide +kernel⟩,
   ⟨sluS (sluA .aborting) (upOp (sluO 0x10 true)), 0, 77, 3, sluA .aborting, by decide +kernel⟩,
   ⟨{ up with mem := { up.mem with stageWritten := [(2, 16)], loft := [{ line := 2, die := 2, slice := 0, set := 0, way := 15, dirty := true, used := 0 }, { line := 3, die := 1, slice := 0, set := 0, way := 15, dirty := true, used := 0 }] } }, 2, by decide +kernel⟩⟩

set_option maxRecDepth 100000 in
/-- The hypotheses of the clauses of `StagedWritesAreHiddenTillPublished` are met. -/
theorem witness_StagedWritesAreHiddenTillPublished :
    (∃ (s t : State) (a : Agent) (refused : Bool) (hint : Option Hint) (kind va off lh : Nat) (bytes : List Byte) (e : Sluice),
        s.translate a va = .ok (.local_ off) lh ∧ a.sluice ≠ 0 ∧ s.writePiece a refused hint kind va bytes = .ok t
        ∧ s.work.sluices.at? a.sluice = some e)
    ∧ (∃ (s : State) (k : Nat) (e : Sluice) (id : Nat) (o : Op), s.work.sluices.at? k = some e ∧ e.state ≠ .committed
        ∧ e.state ≠ .aborting ∧ s.op? id = some o ∧ o.sluice = k ∧ o.phase ≠ .ended)
    ∧ (∃ (s : State) (f id k off opn : Nat) (bytes : List Byte) (e : Sluice) (p : Plot),
        s.sluiceNamed f id (fun e => e.state = .committed && !e.published) = k ∧ s.work.sluices.at? k = some e ∧ s.memWf = true
        ∧ e.recorded = [] ∧ e.staged = [{ op := opn, kind := 0, off := off, bytes := bytes }] ∧ 0 < bytes.length
        ∧ off / 64 = (off + bytes.length - 1) / 64 ∧ s.plotOf off = some p ∧ s.plotLost p = false ∧ s.poisonAt off = false
        ∧ s.hostOwns (off / 64 * 64) 64 = false
        ∧ (∀ q, s.mem.ponds.at? p.owner = some q → (s.fn (q.inst + 1)).bitmap = none)) :=
  ⟨⟨sluS (sluA .open_) up,
      wroteGet up ((sluS (sluA .open_) up).writePiece { fn := 0, slot := 0, die := 0, tile := 0, sluice := 3, op := 9, pond := 1 } false none 0 0x1010 [1, 2, 3]),
      { fn := 0, slot := 0, die := 0, tile := 0, sluice := 3, op := 9, pond := 1 }, false, none, 0, 0x1010, 0x1010, 0, [1, 2, 3], sluA .open_,
      by decide +kernel, by decide +kernel, wrote_ok (by decide +kernel), by decide +kernel⟩,
   ⟨sluS (sluA .holding) (upOp { mkOp (dsc 0x10 []) with sluice := 3, phase := .running }), 3, sluA .holding, 1,
      { mkOp (dsc 0x10 []) with sluice := 3, phase := .running }, by decide +kernel⟩,
   ⟨sluS { sluA .committed with staged := [{ op := 1, kind := 0, off := 0x2000003F, bytes := [9] }] } up, 0, 77, 3, 0x2000003F, 1, [9],
      { sluA .committed with staged := [{ op := 1, kind := 0, off := 0x2000003F, bytes := [9] }] }, plot1,
      by and_intros <;> first | exact none_all (by decide +kernel) | decide +kernel⟩⟩

/-- Sluice 77 of mere 6 over devices 3 and 4, in state `st`, at its coordinator. -/
def sluX (st : SluiceState) : Sluice := { sluA st with mere := 6, parts := [3, 4] }

/-- The vote of device 4 for it waits for its open here. -/
def heldVote : State := up.holdNote 6 77 (.vote 4 true 0 0)

set_option maxRecDepth 100000 in
/-- The hypotheses of the clauses of `CrossDeviceSluicesTakeEffect` are met. -/
theorem witness_CrossDeviceSluicesTakeEffect :
    (∀ part : Bool, ∃ (s : State) (mere id : Nat), mere ≠ 0 ∧ s.sluiceOfMere mere id part = 0)
    ∧ (∃ (s : State) (mere id k : Nat) (e : Sluice), s.sluiceOfMere mere id false = k ∧ k ≠ 0
        ∧ s.work.sluices.at? k = some e ∧ mere ≠ 0 ∧ e.state ≠ .committed ∧ e.state ≠ .aborting ∧ e.state ≠ .prepared)
    ∧ (∃ (s : State) (mere id dev k : Nat) (e : Sluice), s.sluiceOfMere mere id false = k ∧ k ≠ 0
        ∧ s.work.sluices.at? k = some e ∧ mere ≠ 0 ∧ e.state = .prepared ∧ (∀ d, d ∈ e.parts → d = dev ∨ d ∈ e.votes))
    ∧ (∃ (s : State) (mere id k : Nat) (e : Sluice), s.sluiceOfMere mere id true = k ∧ k ≠ 0
        ∧ s.work.sluices.at? k = some e ∧ mere ≠ 0 ∧ e.state = .prepared)
    ∧ (∃ (s : State) (mere id dev k : Nat) (e : Sluice), s.sluiceOfMere mere id false = k
        ∧ s.work.sluices.at? k = some e ∧ mere ≠ 0 ∧ e.state = .committed ∧ e.participant = false ∧ e.mere ≠ 0
        ∧ e.acks.contains dev = false ∧ e.published = false)
    ∧ (∃ (s : State) (mere id dev k : Nat) (e : Sluice) (o : Op), s.sluiceOfMere mere id false = k
        ∧ s.work.sluices.at? k = some e ∧ mere ≠ 0 ∧ e.state = .committed ∧ e.participant = false ∧ e.mere ≠ 0
        ∧ e.acks.contains dev = false ∧ e.published = true
        ∧ (∀ d, d ∈ e.parts → d = s.fab.devId ∨ d = dev ∨ d ∈ e.acks) ∧ s.op? e.commitOp = some o ∧ o.phase ≠ .ended)
    ∧ (∀ held : Bool, ∃ (s : State) (mere id dev : Nat), s.sluiceOfMere mere id false = 0 ∧ s.voteHeld mere id dev = held)
    ∧ (∀ done : Bool, ∃ (s : State) (mere id k : Nat) (e : Sluice), s.sluiceOfMere mere id false = k ∧ k ≠ 0
        ∧ s.work.sluices.at? k = some e ∧ decide (e.state = .committed) = done)
    ∧ (∃ (s : State) (mere id op : Nat) (o : Op), s.op? op = some o ∧ o.opcode = 0x53 ∧ o.phase = .running ∧ o.count = mere
        ∧ fld o.desc 8 0 48 = id)
    ∧ (∃ (s : State) (f id k : Nat) (e : Sluice),
        s.sluiceNamed f id (fun e => e.mere ≠ 0 && !e.participant && e.deadline ≠ 0) = k ∧ s.work.sluices.at? k = some e)
    ∧ (∃ (s : State) (f id k : Nat) (e : Sluice) (o : Op),
        s.sluiceNamed f id (fun e => e.mere ≠ 0 && !e.participant && e.state = .committed && e.published) = k
        ∧ s.work.sluices.at? k = some e ∧ s.op? e.commitOp = some o ∧ o.phase ≠ .ended) :=
  ⟨fun part => ⟨up, 6, 77, by cases part <;> decide +kernel⟩,
   ⟨sluS (sluX .holding) up, 6, 77, 3, sluX .holding, by decide +kernel⟩,
   ⟨sluS { sluX .prepared with votes := [3] } up, 6, 77, 4, 3, { sluX .prepared with votes := [3] }, by decide +kernel⟩,
   ⟨sluS { sluX .prepared with participant := true } up, 6, 77, 3, { sluX .prepared with participant := true }, by decide +kernel⟩,
   ⟨sluS { sluX .committed with acks := [3] } up, 6, 77, 4, 3, { sluX .committed with acks := [3] }, by decide +kernel⟩,
   ⟨sluS { sluX .committed with acks := [3], published := true, commitOp := 1 } (upOp { sluO 0x52 true with phase := .running }), 6, 77, 4, 3,
      { sluX .committed with acks := [3], published := true, commitOp := 1 }, { sluO 0x52 true with phase := .running }, by decide +kernel⟩,
   fun held => ⟨if held then heldVote else up, 6, 77, 4, by cases held <;> decide +kernel⟩,
   fun done => ⟨sluS (if done then sluX .committed else sluX .closing) up, 6, 77, 3, if done then sluX .committed else sluX .closing,
      by cases done <;> decide +kernel⟩,
   ⟨upOp { sluO 0x53 true with phase := .running, count := 6 }, 6, 77, 1, { sluO 0x53 true with phase := .running, count := 6 }, by decide +kernel⟩,
   ⟨sluS { sluX .prepared with deadline := 7 } up, 0, 77, 3, { sluX .prepared with deadline := 7 }, by decide +kernel⟩,
   ⟨sluS { sluX .committed with published := true, commitOp := 1, acks := [3] } (upOp { sluO 0x52 true with phase := .running }), 0, 77, 3,
      { sluX .committed with published := true, commitOp := 1, acks := [3] }, { sluO 0x52 true with phase := .running }, by decide +kernel⟩⟩

/-- A POND_CREATE of pond 2 with mill tile 7 alone, its record at 0x1000, and the binding the record gives. -/
def createO : Op := mkOp (dsc 0x60 [(2, 0, 5), (4, 0, 9), (0x20, 0, 2), (0x28, 0, 0x1000)])

def createS : State := (withHbm (withHbm (upOp createO) 0x1000 (leBytes 64 (1 + 2 ^ 64 + 2 ^ 96 + 0x2000 <<< 320) )) 0x2000 [7, 0])

def createB : Nat × Binding := accGet (0, pondA.binding) (createS.readBinding createO ext0 2 none)

/-- A POND_REBIND of pond 1 to mill tile 7 alone. -/
def rebindO : Op := mkOp (dsc 0x61 [(2, 0, 5), (4, 0, 9), (0x20, 0, 1), (0x24, 0, 7), (0x28, 0, 0x1000)])

def rebindS : State := (withHbm (withHbm (upOp rebindO) 0x1000 (leBytes 64 (1 + 2 ^ 64 + 2 ^ 96 + 0x2000 <<< 320) )) 0x2000 [7, 0])

def rebindB : Nat × Binding := accGet (0, pondA.binding) (rebindS.readBinding rebindO ext0 1 (some pondA))

/-- Pond 1 with a re-bind, beside its POND_REBIND in execution. -/
def rebUp (r : Rebind) : State :=
  pondUp (fun p => { p with rebind := some r }) (upOp { rebindO with phase := .running })

/-- Mill tile 5 fenced. -/
def noTile5 (s : State) : State := { s with mem := { s.mem with fences := [0x10005] } }

set_option maxRecDepth 100000 in
/-- The re-bind point and the switch phase, with a record that still passes and with one that no longer does. -/
theorem witness_rebinds_PondCommandsTakeEffect :
    (∃ (s : State) (h : Nat) (p : Pond) (r : Rebind), s.mem.ponds.at? h = some p ∧ p.rebind = some r ∧ s.work.sluices = [])
    ∧ (∃ (s : State) (h : Nat) (p : Pond) (r : Rebind), s.mem.ponds.at? h = some p ∧ p.rebind = some r ∧ r.ready = true
        ∧ r.switching = false ∧ s.rebindPoint h p = true ∧ s.rebindBad h p r = none)
    ∧ (∃ (s : State) (h : Nat) (p : Pond) (r : Rebind) (d : Nat), s.mem.ponds.at? h = some p ∧ p.rebind = some r ∧ r.ready = true
        ∧ r.switching = false ∧ s.rebindPoint h p = true ∧ s.rebindBad h p r = some d)
    ∧ (∃ (s : State) (h : Nat) (p : Pond) (r : Rebind), s.mem.ponds.at? h = some p ∧ p.rebind = some r ∧ r.switching = true
        ∧ s.awaitsRecall r = false ∧ s.rebindBad h p r = none)
    ∧ (∃ (s : State) (h : Nat) (p : Pond) (r : Rebind) (d : Nat), s.mem.ponds.at? h = some p ∧ p.rebind = some r ∧ r.switching = true
        ∧ s.awaitsRecall r = false ∧ s.rebindBad h p r = some d)
    ∧ (∃ (s : State) (h : Nat) (p : Pond) (r : Rebind), s.mem.ponds.at? h = some p ∧ p.rebind = some r ∧ r.switching = false) :=
  ⟨⟨rebUp (rebA false false), 1, { pondA with rebind := some (rebA false false) }, rebA false false, by decide +kernel⟩,
   ⟨rebUp (rebA true false) |>.withOps [], 1, { pondA with rebind := some (rebA true false) }, rebA true false, by decide +kernel⟩,
   ⟨noTile5 (rebUp (rebA true false)), 1, { pondA with rebind := some (rebA true false) }, rebA true false, 268435456, by decide +kernel⟩,
   ⟨rebUp (rebA true true), 1, { pondA with rebind := some (rebA true true) }, rebA true true, by decide +kernel⟩,
   ⟨noTile5 (rebUp (rebA true true)), 1, { pondA with rebind := some (rebA true true) }, rebA true true, 268435456, by decide +kernel⟩,
   ⟨rebUp (rebA true false), 1, { pondA with rebind := some (rebA true false) }, rebA true false, by decide +kernel⟩⟩

set_option maxRecDepth 100000 in
/-- The hypotheses of the clauses of `PondCommandsTakeEffect` are met. -/
theorem witness_PondCommandsTakeEffect :
    (∃ (s : State) (op inst : Nat) (ext : Ext) (o : Op) (b : Binding), s.go? op 0x60 = some o
        ∧ s.mem.ponds.at? (fld o.desc 0x20 0 9) = none ∧ s.readBinding o ext (fld o.desc 0x20 0 9) none = .ok (inst, b))
    ∧ (∃ (s : State) (op : Nat) (o : Op) (p : Pond), s.go? op 0x62 = some o
        ∧ s.mem.ponds.at? (fld o.desc 0x20 0 9) = some p ∧ s.pondResident (fld o.desc 0x20 0 9) = false
        ∧ s.work.ops.any (fun x => x.2.pond = fld o.desc 0x20 0 9 && x.2.inExec) = false
        ∧ s.stagesIn (p.binding.plots.map (·.1)) = false ∧ p.rebind = none)
    ∧ (∃ (s : State) (op : Nat) (o : Op), s.go? op 0x65 = some o
        ∧ (s.mem.ponds.at? (fld o.desc 0x20 0 9)).isSome = true)
    ∧ (∃ (s : State) (op n : Nat) (o : Op) (p : Plot), s.go? op 0x66 = some o ∧ fld o.desc 0x60 0 1 = 1
        ∧ parsePlot (bitsOf o.desc 256 512) 0 = some (n, p) ∧ p.chans.any (s.fenced 4) = false
        ∧ (∀ q, q ∈ s.mem.ponds → ∀ c, c ∈ q.2.binding.chans → c ∉ p.chans) ∧ s.mem.remap.at? n = none
        ∧ (∀ q, q ∈ s.mem.remap → q.2.overlaps p = false))
    ∧ (∃ (s : State) (op : Nat) (o : Op) (p : Plot), let n := fld (bitsOf o.desc 256 512) 4 0 11
      s.go? op 0x66 = some o ∧ fld o.desc 0x60 0 1 = 0 ∧ fld (bitsOf o.desc 256 512) 0 0 4 = 1
        ∧ s.mem.remap.at? n = some p ∧ p.owner = 0 ∧ s.plotInUse n = false)
    ∧ (∃ (s : State) (op inst : Nat) (ext : Ext) (o : Op) (p : Pond) (b : Binding), s.go? op 0x61 = some o
        ∧ s.mem.ponds.at? (fld o.desc 0x20 0 9) = some p ∧ p.rebind = none
        ∧ s.readBinding o ext (fld o.desc 0x20 0 9) (some p) = .ok (inst, b) ∧ s.entriesUsed < 1024) :=
  ⟨⟨createS, 1, createB.1, ext0, createO, createB.2, by decide +kernel, by decide +kernel, acc_is (d := (0, pondA.binding)) (by decide +kernel)⟩,
   ⟨{ world (dsc 0x62 [(2, 0, 5), (4, 0, 9), (0x20, 0, 1)]) with
        mem := { up.mem with ponds := [(1, pondA), (2, { pondA with running := 1 })] }
        host := { up.host with ctxs := [(0, { ctxA with pond := 2 })] } },
      1, mkOp (dsc 0x62 [(2, 0, 5), (4, 0, 9), (0x20, 0, 1)]), pondA, by decide +kernel⟩,
   ⟨world (dsc 0x65 [(2, 0, 5), (4, 0, 9), (0x20, 0, 1), (0x20, 16, 255), (0x24, 0, 10000)]), 1, mkOp (dsc 0x65 [(2, 0, 5), (4, 0, 9), (0x20, 0, 1), (0x20, 16, 255), (0x24, 0, 10000)]), by decide +kernel⟩,
   ⟨world (dsc 0x66 [(2, 0, 5), (4, 0, 9), (0x60, 0, 1), (0x20, 0, 1), (0x22, 0, 32), (0x24, 0, 1535), (0x40, 0, 95)]), 1, 1535, mkOp (dsc 0x66 [(2, 0, 5), (4, 0, 9), (0x60, 0, 1), (0x20, 0, 1), (0x22, 0, 32), (0x24, 0, 1535), (0x40, 0, 95)]), { s := 0, die := 0, base := 32, chans := [95], owner := 0 }, by decide +kernel⟩,
   ⟨world (dsc 0x66 [(2, 0, 5), (4, 0, 9), (0x20, 0, 1), (0x24, 0, 1)]), 1, mkOp (dsc 0x66 [(2, 0, 5), (4, 0, 9), (0x20, 0, 1), (0x24, 0, 1)]), plot1, by dsimp only; decide +kernel⟩,
   ⟨rebindS, 1, rebindB.1, ext0, rebindO, pondA, rebindB.2, by decide +kernel, by decide +kernel, by decide +kernel,
      acc_is (d := (0, pondA.binding)) (by decide +kernel), by decide +kernel⟩⟩

/-- A UNIT_FENCE or UNIT_RESTORE of a unit. -/
def unitO (opc cls unit : Nat) : Op := mkOp (dsc opc [(2, 0, 5), (4, 0, 9), (0x20, 0, cls), (0x24, 0, unit)])

set_option maxRecDepth 100000 in
/-- The hypotheses of the clauses of `UnitCommandsTakeEffect` are met. -/
theorem witness_UnitCommandsTakeEffect :
    (∃ (s : State) (op : Nat) (o : Op), s.go? op 0x63 = some o ∧ s.fenced (fld o.desc 0x20 0 4) (fld o.desc 0x24 0 16) = true)
    ∧ (∃ (s : State) (op : Nat) (o : Op), s.go? op 0x63 = some o ∧ s.fenced (fld o.desc 0x20 0 4) (fld o.desc 0x24 0 16) = false
        ∧ (∃ p, p ∈ s.mem.ponds ∧ p.2.holds (unitClosure (fld o.desc 0x20 0 4) (fld o.desc 0x24 0 16)) = true))
    ∧ (∃ (s : State) (op : Nat) (o : Op), s.go? op 0x63 = some o ∧ s.fenced (fld o.desc 0x20 0 4) (fld o.desc 0x24 0 16) = false
        ∧ (∀ p, p ∈ s.mem.ponds → p.2.holds (unitClosure (fld o.desc 0x20 0 4) (fld o.desc 0x24 0 16)) = false))
    ∧ (∃ (s : State) (op : Nat) (passed : List Nat) (o : Op), s.go? op 0x64 = some o
        ∧ passed.contains (unitCode (fld o.desc 0x20 0 4) (fld o.desc 0x24 0 16)) = false)
    ∧ (∃ (s : State) (op : Nat) (passed : List Nat) (o : Op), s.go? op 0x64 = some o
        ∧ passed.contains (unitCode (fld o.desc 0x20 0 4) (fld o.desc 0x24 0 16)) = true
        ∧ (∃ u, u ∈ unitClosure (fld o.desc 0x20 0 4) (fld o.desc 0x24 0 16) ∧ u ∈ passed ∧ u ∈ s.mem.fences ∧ u ∉ s.ras.fencedAlone)
        ∧ (∃ u, u ∈ s.mem.fences ∧ u ≠ unitCode (fld o.desc 0x20 0 4) (fld o.desc 0x24 0 16) ∧ u ∈ passed ∧ u ∈ s.ras.fencedAlone))
    ∧ (∃ (cls unit : Nat), unit < unitLimit cls)
    ∧ (∀ rebinds : Bool, ∃ (s : State) (h : Nat) (p : Pond), s.mem.ponds.at? h = some p ∧ p.reserved ≠ []
        ∧ s.regrowPoint h p = true ∧ p.rebind.isSome = rebinds ∧ p.rebind.all (fun r => !r.switching) = true)
    ∧ (∃ (s : State) (seam : Nat), seam < 8 ∧ s.fenced 3 seam = false) :=
  ⟨⟨{ upOp (unitO 0x63 4 383) with mem := { up.mem with fences := [0x4017F] } }, 1, unitO 0x63 4 383, by decide +kernel⟩,
   ⟨upOp (unitO 0x63 1 0), 1, unitO 0x63 1 0, by decide +kernel⟩,
   ⟨upOp (unitO 0x63 2 575), 1, unitO 0x63 2 575, by decide +kernel⟩,
   ⟨upOp (unitO 0x64 10 3), 1, [0x9000F], unitO 0x64 10 3, by decide +kernel⟩,
   ⟨{ upOp (unitO 0x64 9 0) with
        mem := { up.mem with fences := [0x90000, 0x80000, 0x80003, 0x80004] }, ras := { up.ras with fencedAlone := [0x80003] } },
      1, [0x90000, 0x80000, 0x80003], unitO 0x64 9 0, by decide +kernel, by decide +kernel, ⟨0x80000, by decide +kernel⟩, ⟨0x80003, by decide +kernel⟩⟩,
   ⟨10, 3, by decide +kernel⟩,
   fun rebinds => ⟨pondUp (fun p => { p with reserved := [.tile false 1 (some 5) 1], rebind := if rebinds then some (rebA true false) else none }) up, 1,
      { pondA with reserved := [.tile false 1 (some 5) 1], rebind := if rebinds then some (rebA true false) else none },
      by cases rebinds <;> decide +kernel⟩,
   ⟨{ up with mem := { up.mem with seamReplays := [(7, 15)] } }, 7, by decide +kernel⟩⟩

/-- Two contexts, of priorities 2 and `prio`; of the given ones each has a gemm ready. -/
def readyS (prio : Nat) (who : List Nat) : State :=
  { up.withOps ((List.range 2).filterMap (fun c => if who.contains c then some (c + 1, { mkOp gemmD with ctx := c, sq := c }) else none)) with
    host := { up.host with
      ctxs := [(0, ctxA), (1, { ctxA with prio })]
      slots := [(0, { ctx := 0, phase := .resident, since := 0, idle := false }), (1, { ctx := 1, phase := .resident, since := 0, idle := false })] } }

set_option maxRecDepth 100000 in
/-- At the end of the quantum a context of lower value is chosen, else the next of equal value, else one of higher value where the
running one has no work. -/
theorem witness_quanta_SchedulingCommandsTakeEffect :
    (∃ (s : State) (h : Nat) (p : Pond) (r : Nat × Nat × Nat), (s.stampReady h).mem.ponds.at? h = some p ∧ p.maySwitch = true
        ∧ p.rebindFirst = false ∧ p.running ≠ 0
        ∧ bestContext ((((s.stampReady h).readyContexts h).filter (fun x => x.1 ≠ p.running - 1)).filter (fun x =>
            x.2.1 < ((((s.stampReady h).host.ctxs.at? (p.running - 1)).map (·.prio)).getD 2))) = some r)
    ∧ (∃ (s : State) (h : Nat) (p : Pond) (r : Nat × Nat × Nat), (s.stampReady h).mem.ponds.at? h = some p ∧ p.maySwitch = true
        ∧ p.rebindFirst = false ∧ p.running ≠ 0
        ∧ (∀ y, y ∈ ((s.stampReady h).readyContexts h).filter (fun x => x.1 ≠ p.running - 1) →
            (((s.stampReady h).host.ctxs.at? (p.running - 1)).map (·.prio)).getD 2 ≤ y.2.1)
        ∧ nextEqual (((s.stampReady h).readyContexts h).filter (fun x => x.1 ≠ p.running - 1)) (p.running - 1)
            ((((s.stampReady h).host.ctxs.at? (p.running - 1)).map (·.prio)).getD 2)
            ((((s.stampReady h).host.ctxs.at? (p.running - 1)).map (fun (y : Ctx) => y.readyAt)).getD 0) = some r)
    ∧ (∃ (s : State) (h : Nat) (p : Pond) (r : Nat × Nat × Nat), (s.stampReady h).mem.ponds.at? h = some p ∧ p.maySwitch = true
        ∧ p.rebindFirst = false ∧ p.running ≠ 0
        ∧ (∀ y, y ∈ (s.stampReady h).readyContexts h →
            (((s.stampReady h).host.ctxs.at? (p.running - 1)).map (·.prio)).getD 2 < y.2.1 ∧ y.1 ≠ p.running - 1)
        ∧ bestContext (((s.stampReady h).readyContexts h).filter (fun x => x.1 ≠ p.running - 1)) = some r) :=
  ⟨⟨readyS 0 [0, 1], 1, pondA, (1, 0, 2), by decide +kernel⟩,
   ⟨readyS 2 [0, 1], 1, pondA, (1, 2, 2), by decide +kernel⟩,
   ⟨readyS 3 [1], 1, pondA, (1, 3, 1), by decide +kernel⟩⟩

/-- A slot record of pond 1 with a save area of 16 MiB at address 0. -/
def slotRec : Nat := 1 + 1 <<< 32 + 0x1000000 <<< 128

/-- `up` with no ring and its one slot in the given phase, held by a context `c`. -/
def slotS (c : Ctx) (phase : SlotPhase) (running : Nat) : State :=
  { setPf up (fun F => { F with sqs := [] }) with
    host := { (setPf up (fun F => { F with sqs := [] })).host with
      ctxs := [(0, c)], slots := [(0, { ctx := 0, phase, since := 0, idle := false })] }
    mem := { up.mem with ponds := [(1, { pondA with running })] } }

/-- Pond 1 switches its tiles from context 0, whose save area leads nowhere, to context 1. -/
def switchS (phase : SwitchPhase) : State :=
  pondUp (fun p => { p with switch := some { dest := 1, phase } })
    { up with host := { up.host with ctxs := [(0, { ctxA with saveAddr := 2 ^ 54 }), (1, ctxA)] } }

set_option maxRecDepth 100000 in
/-- A switch drains, saves and restores; a slot is granted, grows idle, loads and unloads. -/
theorem witness_switches_SchedulingCommandsTakeEffect :
    (∃ (s : State) (h record : Nat) (p : Pond) (w : Switch), s.mem.ponds.at? h = some p ∧ p.switch = some w ∧ w.phase = .drain
        ∧ p.rebindFirst = false
        ∧ s.work.ops.any (fun x => x.2.ctx = p.running - 1 && x.2.inExec && x.2.isTile (s.groupTile x.2.fn)) = false
        ∧ (s.host.ctxs.at? (p.running - 1)).any (·.lost) = false ∧ s.recordOk ((p.running - 1) / 16384) record = true
        ∧ saveNeed p.binding.tilesM.length p.binding.tilesV.length ≤ fld record 0x10 0 64)
    ∧ (∃ (s s1 : State) (h : Nat) (p : Pond) (w : Switch), s.mem.ponds.at? h = some p ∧ p.switch = some w ∧ w.phase = .save
        ∧ w.dest ≠ noContext ∧ s.saveTiles h p (p.running - 1) = some s1)
    ∧ (∃ (s : State) (h : Nat) (p : Pond) (w : Switch), s.mem.ponds.at? h = some p ∧ p.switch = some w ∧ w.phase = .restore
        ∧ (s.host.ctxs.at? w.dest).any (fun c => !c.lost && !c.saved) = true ∧ s.readyContexts h = [])
    ∧ (∃ (s : State) (i : Nat) (w : Nat × Ctx), (List.range 64).find? (fun i => (s.host.slots.at? i).isNone) = some i
        ∧ s.bestWaiter (s.slotWaiters.filter (fun p => !((s.fn (p.1 / 16384)).slotMax ≠ 0
            && (s.fn (p.1 / 16384)).slotMax ≤ s.slotsOf (p.1 / 16384)))) = some w)
    ∧ (∃ (s : State) (slot : Nat) (x : Slot), s.host.slots.at? slot = some x
        ∧ (s.fn (x.ctx / 16384)).sqs.any (fun p => p.2.ctx = x.ctx % 16384 && p.2.submitted ≠ 0) = false)
    ∧ (∃ (s : State) (slot record : Nat) (x : Slot), s.host.slots.at? slot = some x ∧ x.phase = .loading
        ∧ s.recordOk (x.ctx / 16384) record = true ∧ (s.host.ctxs.at? x.ctx).any (fun c => c.ctlSaved && !c.lost) = false)
    ∧ (∀ small : Bool, ∃ (s s0 : State) (slot : Nat) (x : Slot), s.host.slots.at? slot = some x ∧ x.phase = .unloading
        ∧ s.onTiles x.ctx = false ∧ s.saveControl x.ctx = some s0
        ∧ (s.host.ctxs.at? x.ctx).any (fun c => 0x10000 ≤ c.saveSize && !c.lost) = !small) :=
  ⟨⟨switchS .drain, 1, slotRec, { pondA with switch := some { dest := 1, phase := .drain } }, { dest := 1, phase := .drain }, by decide +kernel⟩,
   ⟨switchS .save, ((switchS .save).saveTiles 1 { pondA with switch := some { dest := 1, phase := .save } } 0).getD up, 1,
      { pondA with switch := some { dest := 1, phase := .save } }, { dest := 1, phase := .save }, by and_intros <;> first | exact some_of_isSome _ (by decide +kernel) | decide +kernel⟩,
   ⟨switchS .restore, 1, { pondA with switch := some { dest := 1, phase := .restore } }, { dest := 1, phase := .restore }, by decide +kernel⟩,
   ⟨{ up with host := { up.host with ctxs := [(0, ctxA), (1, { ctxA with waitSince := 5 })] } }, 1, (1, { ctxA with waitSince := 5 }), by decide +kernel⟩,
   ⟨slotS ctxA .resident 1, 0, { ctx := 0, phase := .resident, since := 0, idle := false }, by decide +kernel⟩,
   ⟨slotS ctxA .loading 1, 0, slotRec, { ctx := 0, phase := .loading, since := 0, idle := false }, by decide +kernel⟩,
   fun small => ⟨slotS { ctxA with saveAddr := 2 ^ 54, saveSize := if small then 0 else 0x10000 } .unloading 0,
      ((slotS { ctxA with saveAddr := 2 ^ 54, saveSize := if small then 0 else 0x10000 } .unloading 0).saveControl 0).getD up, 0,
      { ctx := 0, phase := .unloading, since := 0, idle := false }, by cases small <;> decide +kernel, by decide +kernel,
      by cases small <;> decide +kernel, some_of_isSome _ (by cases small <;> decide +kernel), by cases small <;> decide +kernel⟩⟩

/-- A BEAT_SET that gives pond 1 beats of 1 ms, and a BEAT_STEP of 8,191 descriptors; their waits met or not. -/
def beatSetO (met : Bool) : Op :=
  { mkOp (dsc 0x70 [(2, 0, 5), (4, 0, 9), (0x20, 0, 1), (0x20, 16, 1), (0x24, 0, 1000), (0x28, 0, 3), (0x28, 8, 2)]) with waitMet := met }

def beatStepO (met : Bool) : Op := { mkOp (dsc 0x71 [(2, 0, 5), (4, 0, 9), (0x24, 0, 8191)]) with waitMet := met }

def beatUp (b : Beats) (s : State) : State := pondUp (fun p => { p with beats := some b }) s

set_option maxRecDepth 100000 in
/-- The hypotheses of the clauses of `SchedulingCommandsTakeEffect` are met. -/
theorem witness_SchedulingCommandsTakeEffect :
    (∃ (s : State) (op : Nat) (o : Op), s.go? op 0x72 = some o)
    ∧ (∀ met : Bool, ∃ (s : State) (op : Nat) (o : Op) (p : Pond), s.acts? op 0x70 = some o ∧ s.readyOp op o = met
        ∧ s.mem.ponds.at? (fld o.desc 0x20 0 9) = some p ∧ (o.fn = 0 ∨ p.inst + 1 = o.fn) ∧ fld o.desc 0x20 16 1 = 1
        ∧ (∀ b, p.beats = some b → b.running = false))
    ∧ (∀ met : Bool, ∃ (s : State) (op : Nat) (o : Op) (p : Pond) (b : Beats) (q : SubmissionQueue), s.acts? op 0x71 = some o
        ∧ s.readyOp op o = met ∧ s.mem.ponds.at? o.pond = some p ∧ p.beats = some b ∧ (s.fn o.fn).sqs.at? o.sq = some q
        ∧ o.step = 0 ∧ o.sluice = 0)
    ∧ (∃ (s : State) (h : Nat) (p : Pond) (b : Beats), s.mem.ponds.at? h = some p ∧ p.beats = some b
        ∧ b.running = false ∧ p.switch = none ∧ p.rebindFirst = false)
    ∧ (∃ (s : State) (h : Nat) (p : Pond) (b : Beats), s.mem.ponds.at? h = some p ∧ p.beats = some b ∧ b.running = true
        ∧ s.work.ops.any (fun o => o.2.pond = h && o.2.step ≠ 0
            && ((b.steps.filter (·.released)).map (·.id)).contains o.2.step) = false ∧ b.stopping = false ∧ b.next = none)
    ∧ (∃ (s : State) (h : Nat) (p : Pond) (b : Beats), s.mem.ponds.at? h = some p ∧ p.beats = some b ∧ b.running = true
        ∧ s.work.ops.any (fun o => o.2.pond = h && o.2.step ≠ 0
            && ((b.steps.filter (·.released)).map (·.id)).contains o.2.step) = false ∧ b.stopping = true) :=
  ⟨⟨world (dsc 0x72 [(2, 0, 5), (4, 0, 9), (0x20, 0, 3)]), 1, mkOp (dsc 0x72 [(2, 0, 5), (4, 0, 9), (0x20, 0, 3)]), by decide +kernel⟩,
   fun met => ⟨upOp (beatSetO met), 1, beatSetO met, pondA, by and_intros <;> first | exact none_all (by decide +kernel) | (cases met <;> decide +kernel)⟩,
   fun met => ⟨beatUp (beatA false) (upOp (beatStepO met)), 1, beatStepO met, { pondA with beats := some (beatA false) }, beatA false, sqA,
      by cases met <;> decide +kernel⟩,
   ⟨beatUp (beatA false) up, 1, { pondA with beats := some (beatA false) }, beatA false, by decide +kernel⟩,
   ⟨beatUp (beatA true) up, 1, { pondA with beats := some (beatA true) }, beatA true, by decide +kernel⟩,
   ⟨beatUp { beatA true with stopping := true } up, 1, { pondA with beats := some { beatA true with stopping := true } },
      { beatA true with stopping := true }, by decide +kernel⟩⟩

/-- INST_RESTORE of an image at the first byte of plot 1: version 1, GSET_ID, nothing else but zeros. -/
def restoreD : Nat := dsc 0x94 [(2, 0, 5), (4, 0, 9), (0x28, 0, 0x20000000)]

def restoreS : State :=
  { instUp .active (world restoreD) with
    mem := { up.mem with hbm := [(0x80000000, 1), (0x80000008, 0x80), (0x80000009, 0x76), (0x8000000A, 0x11)] } }

theorem restore_zero (i : Nat) (h1 : 4096 ≤ i) (h2 : i < 0x24000) : restoreS.byteAt (0x20000000 + i) = 0 := by
  have hp : restoreS.plotOf (0x20000000 + i) = some plot1 := by
    have e : (0x20000000 + i) / 0x20000000 = 1 := by omega
    simp only [State.plotOf, e]
    rw [if_pos (by omega)]
    decide +kernel
  have ho : (0x20000000 + i) % 0x20000000 = i := by omega
  simp only [State.byteAt, State.hbmKey, hp, Option.map_some, ho]
  have hk : 0x80000000 + 4096 ≤ plot1.chanAddr i := by
    have h3 : (i >>> 10) <<< 10 ≤ ((i >>> 10) <<< 10 ||| i % 1024) := Nat.left_le_or
    have h4 : 4096 ≤ (i >>> 10) <<< 10 := by rw [Nat.shiftRight_eq_div_pow, Nat.shiftLeft_eq]; omega
    show _ ≤ 1 * 0x80000000 + (0 * 0x1000000 + ((i >>> 10) <<< 10 ||| i % 1024))
    omega
  have hm : restoreS.mem.hbm = [(0x80000000, 1), (0x80000008, 0x80), (0x80000009, 0x76), (0x8000000A, 0x11)] := rfl
  rw [hm]
  simp only [Memory.get]
  repeat rw [if_neg (by omega)]

theorem restore_body : (restoreS.readPub 0x20000000 0x24000).drop 4096 = List.replicate 143360 0 := by
  rw [List.eq_replicate_iff]
  refine ⟨by simp [State.readPub], fun b hb => ?_⟩
  rw [List.mem_iff_getElem] at hb
  obtain ⟨i, hi, rfl⟩ := hb
  simp only [State.readPub, List.length_drop, List.length_map, List.length_range] at hi
  simp only [State.readPub, List.getElem_drop, List.getElem_map, List.getElem_range]
  exact restore_zero _ (by omega) (by omega)

theorem restore_head : leNat ((restoreS.readPub 0x20000000 0x24000).take 4096) = 1 + gsetId * 2 ^ 64 := by
  rw [State.readPub, ← List.map_take, List.take_range]
  decide +kernel

theorem leNat_zeros (n : Nat) : leNat (List.replicate n 0) = 0 := by
  induction n with
  | zero => rfl
  | succ n ih => rw [List.replicate_succ, leNat, ih]; rfl

theorem crc64_zeros (n : Nat) : crc64 (List.replicate n 0) = 0 := by
  induction n with
  | zero => rfl
  | succ n ih => exact ih

theorem restore_well : imageWell (1 + gsetId * 2 ^ 64) (List.replicate 143360 0) = true := by
  have hr (a b : Nat) : leNat (((List.replicate 143360 (0 : Byte)).drop a).take b) = 0 := by
    rw [List.drop_replicate, List.take_replicate, leNat_zeros]
  have hz : ((((List.replicate 143360 (0 : Byte)).drop (8192 + 64)).take 4032).all (fun b => decide (b = 0))) = true := by
    rw [List.drop_replicate, List.take_replicate, List.all_replicate]
    rfl
  unfold imageWell
  simp only [hr, hz, Bool.and_eq_true, List.all_eq_true, decide_eq_true_eq]
  refine ⟨⟨⟨⟨⟨?_, fun _ _ => ?_⟩, fun _ _ => ?_⟩, ?_⟩, trivial⟩, fun _ _ => ?_⟩ <;> decide +kernel

theorem restore_at : fld (mkOp restoreD).desc 0x28 0 43 = 0x20000000 := by decide +kernel

theorem restore_small : restoreS.poisonIn 0x20000000 0x24000 = false := by decide +kernel

set_option maxRecDepth 100000 in
/-- The hypotheses of the clauses of `InstanceCommandsTakeEffect` are met. -/
theorem witness_InstanceCommandsTakeEffect :
    (∃ (s : State) (op : Nat) (o : Op), s.go? op 0x90 = some o ∧ s.fnExists (o.inst + 1) = true
        ∧ (s.fn (o.inst + 1)).enable = true ∧ (s.fn (o.inst + 1)).state = .active)
    ∧ (∃ (s : State) (inst : Nat), (s.fn (inst + 1)).state = .quiescing ∧ (∀ p, p ∈ s.work.ops → p.2.fn ≠ inst + 1))
    ∧ (∃ (s : State) (op : Nat) (o : Op), s.go? op 0x91 = some o ∧ s.fnExists (o.inst + 1) = true
        ∧ (s.fn (o.inst + 1)).enable = true ∧ (s.fn (o.inst + 1)).state = .quiesced)
    ∧ (∃ (s : State) (op : Nat) (o : Op), s.go? op 0x92 = some o)
    ∧ (∃ (s : State) (op : Nat) (o : Op), s.go? op 0x95 = some o ∧ s.fnExists (o.inst + 1) = true
        ∧ (s.fn (o.inst + 1)).enable = true)
    ∧ (∃ (s : State) (op : Nat) (o : Op), s.go? op 0x93 = some o ∧ s.fnExists (o.inst + 1) = true
        ∧ (s.fn (o.inst + 1)).enable = true ∧ (s.fn (o.inst + 1)).state = .quiesced ∧ s.instHeld (o.inst + 1) = 0
        ∧ s.imageOk (fld o.desc 0x28 0 43) = true ∧ s.runningPonds (o.inst + 1) = []
        ∧ s.stalls 0 (fld o.desc 0x28 0 43) 0x24000 true = false)
    ∧ (∃ (s : State) (op : Nat) (o : Op), let at_ := fld o.desc 0x28 0 43
      let h := leNat ((s.readPub at_ 0x24000).take 4096)
      let body := (s.readPub at_ 0x24000).drop 4096
      s.go? op 0x94 = some o ∧ s.fnExists (o.inst + 1) = true ∧ (s.fn (o.inst + 1)).enable = true
        ∧ (s.fn (o.inst + 1)).state = .active ∧ (s.fn (o.inst + 1)).ctxSet = false ∧ (s.fn (o.inst + 1)).sqs = []
        ∧ (s.fn (o.inst + 1)).cqs = [] ∧ (s.fn (o.inst + 1)).eq = none ∧ s.imageOk at_ = true
        ∧ s.poisonIn at_ 0x24000 = false ∧ imageWell h body = true ∧ fld h 0x38 0 64 = crc64 body
        ∧ fld h 8 0 16 = gsetId % 2 ^ 16 ∧ fld h 8 20 4 = bitsOf gsetId 20 4
        ∧ fld h 0x30 0 15 ≤ (s.fn (o.inst + 1)).ctxMax ∧ fld h 0x30 16 6 ≤ (s.fn (o.inst + 1)).sqMax
        ∧ fld h 0x20 0 64 = 0 ∧ s.stalls 0 at_ 0x24000 false = false)
    ∧ (∃ (s : State) (inst : Nat), s.fnExists (inst + 1) = true ∧ (s.fn (inst + 1)).state ≠ .resetting)
    ∧ (∃ (s : State) (inst : Nat), (s.fn (inst + 1)).state = .resetting)
    ∧ (∃ (s : State) (f target : Nat) (q : _), (s.fn f).sqs.at? target = some q ∧ q.stopped = false)
    ∧ (∃ (s : State) (f target : Nat) (x : _), s.host.ctxs.at? (f * 16384 + target) = some x ∧ x.lost = false)
    ∧ (∃ (s : State) (f target : Nat) (o : _), s.op? target = some o ∧ o.fn = f ∧ o.phase ≠ .ended) :=
  ⟨⟨instUp .active (world (dsc 0x90 [(2, 0, 5), (4, 0, 9), (0x24, 0, 1000)])), 1, mkOp (dsc 0x90 [(2, 0, 5), (4, 0, 9), (0x24, 0, 1000)]), by decide +kernel⟩,
   ⟨(instUp .quiescing up).setFn 1 { vf with state := .quiescing, quiesceOp := 5, quiesceCount := 2 }, 0, by decide +kernel⟩,
   ⟨instUp .quiesced (world (dsc 0x91 [(2, 0, 5), (4, 0, 9)])), 1, mkOp (dsc 0x91 [(2, 0, 5), (4, 0, 9)]), by decide +kernel⟩,
   ⟨instUp .active (world (dsc 0x92 [(2, 0, 5), (4, 0, 9), (0x30, 0, 1024), (0x30, 16, 256), (0x34, 0, 4096), (0x34, 16, 64)])), 1, mkOp (dsc 0x92 [(2, 0, 5), (4, 0, 9), (0x30, 0, 1024), (0x30, 16, 256), (0x34, 0, 4096), (0x34, 16, 64)]), by decide +kernel⟩,
   ⟨instUp .active (world (dsc 0x95 [(2, 0, 5), (4, 0, 9), (0x28, 0, 0xFFFFFFFFFFFFFFFF)])), 1, mkOp (dsc 0x95 [(2, 0, 5), (4, 0, 9), (0x28, 0, 0xFFFFFFFFFFFFFFFF)]), by decide +kernel⟩,
   ⟨instUp .quiesced (world (dsc 0x93 [(2, 0, 5), (4, 0, 9), (0x28, 0, 0x20001000)])), 1, mkOp (dsc 0x93 [(2, 0, 5), (4, 0, 9), (0x28, 0, 0x20001000)]), by decide +kernel⟩,
   ⟨restoreS, 1, mkOp restoreD, by
      and_intros <;> first
        | rw [restore_at, restore_small]
        | rw [restore_at, restore_head, restore_body, restore_well]
        | (rw [restore_at, restore_head, restore_body, crc64_zeros]; decide +kernel)
        | (rw [restore_at, restore_head]; decide +kernel)
        | decide +kernel⟩,
   ⟨instUp .active (upOp { mkOp (dsc 0x10 [(2, 0, 2), (4, 0, 9), (0x20, 0, 4097), (0x24, 0, 1), (0x28, 0, 0x1000), (0x30, 0, 0x4000)]) with fn := 1, phase := .running }), 0, by decide +kernel⟩,
   ⟨instUp .resetting (upOp { mkOp (dsc 0x10 [(2, 0, 2), (4, 0, 9), (0x20, 0, 4097), (0x24, 0, 1), (0x28, 0, 0x1000), (0x30, 0, 0x4000)]) with fn := 1 }), 0, by decide +kernel⟩,
   ⟨up, 0, 0, sqA, by decide +kernel⟩,
   ⟨up, 0, 0, ctxA, by decide +kernel⟩,
   ⟨upOp { mkOp (dsc 0x10 [(2, 0, 2), (4, 0, 9), (0x20, 0, 4097), (0x24, 0, 1), (0x28, 0, 0x1000), (0x30, 0, 0x4000)]) with fn := 1, phase := .running }, 1, 1, { mkOp (dsc 0x10 [(2, 0, 2), (4, 0, 9), (0x20, 0, 4097), (0x24, 0, 1), (0x28, 0, 0x1000), (0x30, 0, 0x4000)]) with fn := 1, phase := .running }, by decide +kernel⟩⟩

set_option maxRecDepth 100000 in
/-- The hypotheses of the clauses of `LeatCommandsTakeEffect` are met. -/
theorem witness_LeatCommandsTakeEffect :
    (∃ (s : State) (n : Nat), let l := s.subLink n
      n < 64 ∧ (s.subLink n).counts.length = 8 ∧ l.mayTrain = true ∧ ((l.state = .dark ∨ l.state = .down))
        ∧ l.retryWait = false)
    ∧ (∃ (s : State) (n : Nat), let l := s.subLink n
      n < 64 ∧ (s.subLink n).counts.length = 8 ∧ l.mayTrain = true ∧ l.light = false
        ∧ ((l.state = .dark ∨ l.state = .down ∨ l.state = .sleep)))
    ∧ (∃ (s : State) (n : Nat), let l := s.subLink n
      n < 64 ∧ (s.subLink n).counts.length = 8 ∧ l.state = .fenced ∧ l.light = false)
    ∧ (∃ (s : State) (n frame : Nat), let l := s.subLink n
      let both (g : Nat) : Prop := 1 ≤ g ∧ g ≤ 3 ∧ g ≤ s.fab.genMax ∧ g ≤ l.genCap ∧ bitOf (bitsOf frame 4 5) (g - 1) = true
      n < 64 ∧ (s.subLink n).counts.length = 8 ∧ l.state = .training ∧ l.step = 3 ∧ bitsOf frame 0 4 = 1
        ∧ (∀ g, ¬ both g))
    ∧ (∃ (s : State) (n frame : Nat), let l := s.subLink n
      let both (g : Nat) : Prop := 1 ≤ g ∧ g ≤ 3 ∧ g ≤ s.fab.genMax ∧ g ≤ l.genCap ∧ bitOf (bitsOf frame 4 5) (g - 1) = true
      n < 64 ∧ (s.subLink n).counts.length = 8 ∧ l.state = .training ∧ l.step = 3 ∧ bitsOf frame 0 4 = 1
        ∧ (∃ g, both g) ∧ (∀ g, ¬ (both g ∧ (l.tryGen = 0 ∨ g ≤ l.tryGen))) ∧ l.light = false)
    ∧ (∃ (s : State) (n : Nat) (frame g : _), let l := s.subLink n
      let ok (g : Nat) : Prop := 1 ≤ g ∧ g ≤ 3 ∧ g ≤ s.fab.genMax ∧ g ≤ l.genCap
        ∧ bitOf (bitsOf frame 4 5) (g - 1) = true ∧ (l.tryGen = 0 ∨ g ≤ l.tryGen)
      let tx := l.txLock &&& bitsOf frame 24 8
      let rx := bitsOf frame 16 8 &&& l.rxLock
      n < 64 ∧ (s.subLink n).counts.length = 8 ∧ l.state = .training ∧ l.step = 3 ∧ bitsOf frame 0 4 = 1 ∧ ok g
        ∧ (∀ h, ok h → h ≤ g) ∧ 4 ≤ popcount 8 tx ∧ 4 ≤ popcount 8 rx)
    ∧ (∃ (s : State) (n : Nat), let l := s.subLink n
      n < 64 ∧ (s.subLink n).counts.length = 8 ∧ l.state = .training ∧ l.step = 1)
    ∧ (∃ (s : State) (n : Nat), let l := s.subLink n
      n < 64 ∧ (s.subLink n).counts.length = 8 ∧ l.state = .training ∧ l.step = 4)
    ∧ (∃ (s : State) (n : Nat), let l := s.subLink n
      n < 64 ∧ (s.subLink n).counts.length = 8 ∧ l.state = .training ∧ l.step = 5)
    ∧ (∃ (s : State) (n : Nat), let l := s.subLink n
      n < 64 ∧ (s.subLink n).counts.length = 8 ∧ l.state = .training ∧ 1 ≤ l.step ∧ l.attempts = 0)
    ∧ (∃ (s : State) (n : Nat), let l := s.subLink n
      n < 64 ∧ (s.subLink n).counts.length = 8 ∧ l.state = .training ∧ 1 ≤ l.step ∧ 1 ≤ l.attempts ∧ l.gen = 1
        ∧ l.light = false)
    ∧ (∃ (s : State) (n : Nat), let l := s.subLink n
      n < 64 ∧ (s.subLink n).counts.length = 8 ∧ l.state = .training ∧ l.step = 6 ∧ l.attempts = 0)
    ∧ (∃ (s : State) (n : Nat), let l := s.subLink n
      n < 64 ∧ (s.subLink n).counts.length = 8 ∧ l.retryWait = true ∧ l.mayTrain = true
        ∧ ((l.light = false ∨ l.failedRuns < s.fab.fenceAfter)))
    ∧ (∃ (s : State) (n : Nat), let l := s.subLink n
      n < 64 ∧ (s.subLink n).counts.length = 8 ∧ l.retryWait = true ∧ l.mayTrain = true ∧ l.light = true
        ∧ s.fab.fenceAfter ≤ l.failedRuns)
    ∧ (∃ (s : State) (n : Nat), let l := s.subLink n
      n < 64 ∧ (s.subLink n).counts.length = 8 ∧ l.state = .retrain ∧ l.retrainFails < 2)
    ∧ (∃ (s : State) (n : Nat), let l := s.subLink n
      n < 64 ∧ (s.subLink n).counts.length = 8 ∧ l.state = .retrain ∧ 2 ≤ l.retrainFails)
    ∧ (∀ rx few : Bool, ∃ (s : State) (n lane : Nat), let l := s.subLink n
      let outs := if rx then l.txLanes else l.txLanes - 2 ^ lane
      let ins := if rx then l.rxLanes - 2 ^ lane else l.rxLanes
      n < 64 ∧ (s.subLink n).counts.length = 8 ∧ lane < 8 ∧ l.state = .up
        ∧ bitOf (if rx then l.rxLanes else l.txLanes) lane = true
        ∧ decide (popcount 8 outs < 4 ∨ popcount 8 ins < 4) = few)
    ∧ (∃ (s : State) (n : Nat), let l := s.subLink n
      n < 64 ∧ (s.subLink n).counts.length = 8 ∧ l.held = true ∧ l.state ≠ .up ∧ l.state ≠ .fenced
        ∧ s.fenced 8 n = false)
    ∧ (∃ (s : State) (n : Nat), let l := s.subLink n
      n < 64 ∧ (s.subLink n).counts.length = 8 ∧ ((l.state = .up ∨ l.state = .retrain)) ∧ l.notice ≠ 0)
    ∧ (∃ (s : State) (n : Nat) (value : _), let l := s.subLink n
      n < 64 ∧ (s.subLink n).counts.length = 8 ∧ value ≤ 3 ∧ l.state ≠ .fenced ∧ value ≠ 0 ∧ l.state ≠ .incompatible)
    ∧ (∃ (s : State) (n : Nat) (value : _), let l := s.subLink n
      n < 64 ∧ (s.subLink n).counts.length = 8 ∧ value ≤ 3 ∧ l.state ≠ .fenced ∧ value = 0)
    ∧ (∃ (s : State) (n : Nat) (value : _), let l := s.subLink n
      n < 64 ∧ (s.subLink n).counts.length = 8 ∧ value ≤ 3 ∧ l.state ≠ .fenced ∧ value ≠ 0
        ∧ l.state = .incompatible ∧ value ≠ l.genCap) :=
  ⟨⟨linkUp ({ SubLink.reset with state := .down }), 63, by dsimp only; decide +kernel⟩,
   ⟨linkUp ({ SubLink.reset with state := .sleep }), 63, by dsimp only; decide +kernel⟩,
   ⟨linkUp ({ SubLink.reset with state := .fenced }), 63, by dsimp only; decide +kernel⟩,
   ⟨linkUp ({ SubLink.reset with state := .training, step := 3, genCap := 0 }), 63, 0xFF00000001, by and_intros <;> first | (rintro g ⟨h1, -, -, h4, -⟩; exact absurd (Nat.le_trans h1 h4) (by decide +kernel)) | decide +kernel⟩,
   ⟨linkUp ({ SubLink.reset with state := .training, step := 3, tryGen := 1 }), 63, 0x21, by
      refine ⟨?_, ?_, ?_, ?_, ?_, ⟨2, by decide +kernel⟩, ?_, ?_⟩
      case refine_6 =>
        rintro g ⟨⟨h1, h2, -, -, h5⟩, h6⟩
        have h7 : g ≤ 1 := h6.resolve_left (by decide +kernel)
        obtain rfl : g = 1 := by omega
        exact absurd h5 (by decide +kernel)
      all_goals decide +kernel⟩,
   ⟨linkUp ({ SubLink.reset with state := .training, step := 3, txLock := 255, rxLock := 15 }), 63, 0x0FFF0071, 3, by and_intros <;> first | exact fun h x => x.2.1 | decide +kernel⟩,
   ⟨linkUp ({ SubLink.reset with state := .training, step := 1, light := true, rxLock := 1 }), 63, by dsimp only; decide +kernel⟩,
   ⟨linkUp ({ SubLink.reset with state := .training, step := 4 }), 63, by dsimp only; decide +kernel⟩,
   ⟨linkUp ({ SubLink.reset with state := .training, step := 5, gen := 3 }), 63, by dsimp only; decide +kernel⟩,
   ⟨linkUp ({ SubLink.reset with state := .training, step := 6, light := true }), 63, by dsimp only; decide +kernel⟩,
   ⟨linkUp ({ SubLink.reset with state := .training, step := 1, attempts := 1, gen := 1 }), 63, by dsimp only; decide +kernel⟩,
   ⟨linkUp ({ SubLink.reset with state := .training, step := 6 }), 63, by dsimp only; decide +kernel⟩,
   ⟨linkUp ({ SubLink.reset with state := .down, retryWait := true }), 63, by dsimp only; decide +kernel⟩,
   ⟨linkUp ({ SubLink.reset with state := .down, retryWait := true, light := true, failedRuns := 255 }), 63, by dsimp only; decide +kernel⟩,
   ⟨linkUp ({ SubLink.reset with state := .retrain, retrainFails := 1 }), 63, by dsimp only; decide +kernel⟩,
   ⟨linkUp ({ SubLink.reset with state := .retrain, retrainFails := 2 }), 63, by dsimp only; decide +kernel⟩,
   fun rx few => ⟨linkUp ({ SubLink.reset with state := .up, txLanes := if few then 0xF0 else 0xFF, rxLanes := if few then 0xF0 else 0xFF }),
      63, 7, by cases rx <;> cases few <;> decide +kernel⟩,
   ⟨linkUp ({ SubLink.reset with state := .down, held := true }), 63, by dsimp only; decide +kernel⟩,
   ⟨linkUp ({ SubLink.reset with state := .up, notice := 1, nSub := 4 }), 63, by dsimp only; decide +kernel⟩,
   ⟨linkUp ({ SubLink.reset with state := .dark }), 63, 3, by dsimp only; decide +kernel⟩,
   ⟨linkUp ({ SubLink.reset with state := .up }), 63, 0, by dsimp only; decide +kernel⟩,
   ⟨linkUp ({ SubLink.reset with state := .incompatible, genCap := 3 }), 63, 2, by dsimp only; decide +kernel⟩⟩

set_option maxRecDepth 100000 in
/-- The hypotheses of the clauses of `MereCommandsTakeEffect` are met. -/
theorem witness_MereCommandsTakeEffect :
    (∃ (s : State) (mere slu : Nat) (e : Sluice), s.fab.join = .joined ∧ s.work.sluices.at? (s.stagingEntry mere slu) = some e)
    ∧ (∃ (s : State) (mere kind off len : Nat) (data : List Byte), let n := if kind = 0 then len else data.length
      s.fab.join = .joined ∧ kind ≠ 3 ∧ 0 < n ∧ n ≤ 65536 ∧ s.mereOwns mere off n = false)
    ∧ (∃ (s : State) (mere off len slu : Nat), s.fab.join = .joined ∧ 0 < len ∧ len ≤ 65536 ∧ s.mereOwns mere off len = true
        ∧ s.stalls (s.keyEntry mere slu) off len false = false ∧ (s.work.sluices.at? (s.keyEntry mere slu)).isSome = true)
    ∧ (∃ (s : State) (mere kind off len : Nat) (data : List Byte), let n := if kind = 0 then len else data.length
      s.fab.join = .joined ∧ kind ≠ 3 ∧ 0 < n ∧ n ≤ 65536 ∧ s.mereOwns mere off n = true ∧ kind = 0
        ∧ s.stalls 0 off n false = false)
    ∧ (∃ (s : State) (mere kind off len slu : Nat) (data : List Byte), let n := if kind = 0 then len else data.length
      s.fab.join = .joined ∧ kind ≠ 3 ∧ 0 < n ∧ n ≤ 65536 ∧ s.mereOwns mere off n = true ∧ kind = 1 ∧ slu = 0
        ∧ s.stalls 0 off n true = false)
    ∧ (∃ (s : State) (mere kind off len slu : Nat) (data : List Byte), let n := if kind = 0 then len else data.length
      s.fab.join = .joined ∧ kind ≠ 3 ∧ 0 < n ∧ n ≤ 65536 ∧ s.mereOwns mere off n = true ∧ kind = 2 ∧ slu = 0
        ∧ s.stalls 0 off n true = false ∧ s.poisonIn off n = false)
    ∧ (∃ (s : State) (mere kind off len slu : Nat) (data : List Byte), let n := if kind = 0 then len else data.length
      s.fab.join = .joined ∧ kind ≠ 3 ∧ 0 < n ∧ n ≤ 65536 ∧ s.mereOwns mere off n = true ∧ kind = 1 ∧ slu ≠ 0
        ∧ s.stagingEntry mere slu = 0)
    ∧ (∃ (s : State) (idx : Nat), s.xlat.windows.at? idx = none)
    ∧ (∃ (s : State) (src mere idx off : Nat) (data : List Byte) (w : _), let n := data.length
      s.xlat.windows.at? idx = some w ∧ ((w.req ≠ 0xFFFF
        ∧ w.req ≠ src) ∨ w.mere ≠ mere ∨ w.pages * 65536 < off + n ∨ w.clearing ≠ 0))
    ∧ (∃ (s : State) (src mere idx kind off : Nat) (data : List Byte) (w : _), let n := data.length
      s.xlat.windows.at? idx = some w ∧ 0 < n ∧ w.clearing = 0 ∧ off + n ≤ w.pages * 65536
        ∧ ((w.req = 0xFFFF ∨ w.req = src)) ∧ w.mere = mere ∧ mere ≠ 0 ∧ w.base < 0xC000000000 ∧ kind = 0
        ∧ w.rd = true ∧ (s.plotOf (w.base + off)).isSome = true ∧ (s.plotOf (w.base + off + n - 1)).isSome = true
        ∧ s.work.sluices.at? 0 = none ∧ s.stalls 0 (w.base + off) n false = false)
    ∧ (∃ (s : State) (src mere idx kind off : Nat) (data : List Byte) (w : _), let n := data.length
      s.xlat.windows.at? idx = some w ∧ 0 < n ∧ w.clearing = 0 ∧ off + n ≤ w.pages * 65536
        ∧ ((w.req = 0xFFFF ∨ w.req = src)) ∧ w.mere = mere ∧ mere ≠ 0 ∧ 0xC000000000 ≤ w.base ∧ kind = 0 ∧ w.rd = true)
    ∧ (∃ (s : State) (src mere idx kind off : Nat) (data : List Byte) (w : _), let n := data.length
      s.xlat.windows.at? idx = some w ∧ 0 < n ∧ w.clearing = 0 ∧ off + n ≤ w.pages * 65536
        ∧ ((w.req = 0xFFFF ∨ w.req = src)) ∧ w.mere = mere ∧ mere ≠ 0 ∧ 0xC000000000 ≤ w.base ∧ kind = 1 ∧ w.wr = true)
    ∧ (∃ (s : State) (op : Nat) (o : Op), s.go? op 0xA0 = some o ∧ s.fab.join ≠ .joined)
    ∧ (∃ (s : State) (op : Nat) (o : Op) (area slot : _), let mere := fld o.desc 0x20 0 32
      let at_ := fld o.desc 0x28 0 43
      let map := maskBits 32768 (leNat (s.readPub at_ 4096))
      s.go? op 0xA0 = some o ∧ s.fab.join = .joined ∧ (s.mem.ponds.at? (fld o.desc 0x24 0 9)).isSome = true
        ∧ s.mereArea = some area ∧ s.freePlot at_ = true ∧ s.stalls 0 at_ 4096 false = false
        ∧ s.stalls 0 (area + 4096 * slot) 4096 true = false ∧ s.poisonIn at_ 4096 = false ∧ mere ≠ 0
        ∧ s.fab.meres.at? mere = none ∧ s.fab.devId ∈ map
        ∧ (List.range 256).find? (fun i => !(s.fab.meres.map (·.2.slot)).contains i) = some slot)
    ∧ (∃ (s : State) (op : Nat) (o : Op) (m : Membership), s.go? op 0xA1 = some o
        ∧ s.fab.meres.at? (fld o.desc 0x20 0 32) = some m
        ∧ s.work.sluices.any (fun p => p.2.mere = fld o.desc 0x20 0 32) = false
        ∧ s.eng.groups.any (fun p => p.2.mere = fld o.desc 0x20 0 32) = false
        ∧ s.fab.pushIn.any (fun p => p.2.mere = fld o.desc 0x20 0 32) = false
        ∧ s.fab.pushOut.any (fun p => p.mere = fld o.desc 0x20 0 32) = false
        ∧ s.work.ops.any (fun p => s.carries (fld o.desc 0x20 0 32) m.pond p.2) = false)
    ∧ (∃ (s : State) (op : Nat) (o : Op), s.go? op 0xA2 = some o ∧ s.parseWindow (fld o.desc 0x40 0 256) = none)
    ∧ (∃ (s : State) (op : Nat) (o : Op) (w i : _), s.go? op 0xA2 = some o
        ∧ s.parseWindow (fld o.desc 0x40 0 256) = some w
        ∧ (if fld o.desc 0x20 12 1 = 1 then (List.range 4096).find? (fun i => (s.xlat.windows.at? i).isNone) = some i else i = fld o.desc 0x20 0 12))
    ∧ (∃ (s : State) (op : Nat) (o : Op) (w : Window), s.go? op 0xA3 = some o
        ∧ s.xlat.windows.at? (fld o.desc 0x20 0 12) = some w ∧ w.clearing = 0 ∧ op ≠ 0)
    ∧ (∃ (s : State) (idx : Nat) (w : Window) (o : Op), s.xlat.windows.at? idx = some w ∧ w.clearing ≠ 0
        ∧ s.op? w.clearing = some o ∧ o.phase ≠ .ended)
    ∧ (∃ (s : State) (op : Nat) (o : Op), s.go? op 0xA4 = some o ∧ s.fab.join ≠ .joined)
    ∧ (∃ (s : State) (op : Nat) (o : Op) (dev src dst i : _), s.go? op 0xA4 = some o
        ∧ s.fab.join = .joined ∧ s.checkSubscription o = .ok (dev, src, dst) ∧ s.pathTo o.pond dev ≠ .refused
        ∧ (List.range 256).find? (fun i => (s.fab.pushIn.at? i).isNone) = some i)
    ∧ (∃ (s : State) (op i : Nat) (o : Op) (x : PushIn), s.op? op = some o ∧ o.opcode = 0xA4
        ∧ o.phase = .running ∧ op ≠ 0 ∧ s.fab.pushIn.find? (fun p => p.2.op = op && op ≠ 0) = some (i, x)
        ∧ s.fab.pushIn.at? i = some x ∧ x.waiting = [])
    ∧ (∃ (s : State) (op : Nat) (o : Op) (x : PushIn), s.go? op 0xA5 = some o
        ∧ s.fab.pushIn.at? (fld o.desc 0x20 0 8) = some x ∧ x.fn = o.fn ∧ x.op = 0 ∧ x.waiting = []
        ∧ s.fab.join = .joined)
    ∧ (∃ (s : State) (op : Nat) (o : Op), s.op? op = some o ∧ o.opcode = 0xA5 ∧ o.phase = .running)
    ∧ (∃ (s : State) (mere off len : Nat) (m : _), s.fab.join = .joined
        ∧ s.fab.meres.at? mere = some m ∧ 0 < len ∧ off + len ≤ 0xC000000000
        ∧ (∀ k, off / 0x20000000 ≤ k → k ≤ (off + len - 1) / 0x20000000 → ∃ p, s.mem.remap.at? k = some p
        ∧ p.owner = m.pond) ∧ s.fab.pushOut.length < 256)
    ∧ (∃ (s : State) (num off : Nat) (data : List Byte) (x : PushIn), s.fab.pushIn.at? num = some x
        ∧ data ≠ [] ∧ x.dst ≤ off ∧ off + data.length ≤ x.dst + x.len ∧ s.stalls 0 off data.length true = false
        ∧ s.work.sluices = [])
    ∧ (∃ (s : State) (op i : Nat) (x : PushIn) (w : Nat × List (Nat × Nat)) (o : Op), s.fab.pushIn.find? (fun p => p.2.waiting.any (fun w => w.1 = op)) = some (i, x) ∧ x.waiting.find? (fun w => w.1 = op) = some w ∧ s.op? op = some o ∧ o.phase ≠ .ended) :=
  ⟨⟨sluS (sluX .open_) fabUp, 6, 77, sluX .open_, by decide +kernel⟩,
   ⟨fabUp, 9, 0, 0, 4, [], by dsimp only; decide +kernel⟩,
   ⟨sluS (sluX .open_) fabUp, 6, 0x1FFFFFFC, 4, 77, by decide +kernel⟩,
   ⟨fabUp, 6, 0, 0x1FFFFFFC, 4, [], by dsimp only; decide +kernel⟩,
   ⟨fabUp, 6, 1, 0x1FFFFFFC, 4, 0, [1, 2, 3, 4], by dsimp only; decide +kernel⟩,
   ⟨fabUp, 6, 2, 0x1FFFFFFC, 4, 0, [1, 2, 3, 4], by dsimp only; decide +kernel⟩,
   ⟨fabUp, 6, 1, 0, 0, 3, List.replicate 64 9, by dsimp only; decide +kernel⟩,
   ⟨fabUp, 4095, by decide +kernel⟩,
   ⟨winUp (winA 0), 0x104, 6, 4095, 65535, [1], winA 0, by dsimp only; decide +kernel⟩,
   ⟨winUp (winA 0), 0x103, 6, 4095, 0, 65535, [1], winA 0, by dsimp only; decide +kernel⟩,
   ⟨winUp (winA 0x40000000000), 0x103, 6, 4095, 0, 65535, [1], winA 0x40000000000, by dsimp only; decide +kernel⟩,
   ⟨winUp (winA 0x40000000000), 0x103, 6, 4095, 1, 65535, [1], winA 0x40000000000, by dsimp only; decide +kernel⟩,
   ⟨world (dsc 0xA0 [(2, 0, 5), (4, 0, 9), (0x20, 0, 7), (0x24, 0, 1), (0x28, 0, 0x20000000)]), 1, mkOp (dsc 0xA0 [(2, 0, 5), (4, 0, 9), (0x20, 0, 7), (0x24, 0, 1), (0x28, 0, 0x20000000)]), by decide +kernel⟩,
   ⟨withHbm (fabOp (mkOp (dsc 0xA0 [(2, 0, 5), (4, 0, 9), (0x20, 0, 7), (0x24, 0, 1), (0x28, 0, 0x20000000)]))) 0x80000020 [12], 1, mkOp (dsc 0xA0 [(2, 0, 5), (4, 0, 9), (0x20, 0, 7), (0x24, 0, 1), (0x28, 0, 0x20000000)]), 0x20100000, 1, by dsimp only; decide +kernel⟩,
   ⟨fabOp (mkOp (dsc 0xA1 [(2, 0, 5), (4, 0, 9), (0x20, 0, 6)])), 1, mkOp (dsc 0xA1 [(2, 0, 5), (4, 0, 9), (0x20, 0, 6)]), { pond := 1, slot := 0, map := [0x102, 0x103] }, by decide +kernel⟩,
   ⟨world (dsc 0xA2 [(2, 0, 5), (4, 0, 9)]), 1, mkOp (dsc 0xA2 [(2, 0, 5), (4, 0, 9)]), by decide +kernel⟩,
   ⟨world (dsc 0xA2 [(2, 0, 5), (4, 0, 9), (0x20, 12, 1), (0x40, 0, 0xFFFF0071), (0x48, 0, 0x40000000000), (0x50, 0, 1)]), 1, mkOp (dsc 0xA2 [(2, 0, 5), (4, 0, 9), (0x20, 12, 1), (0x40, 0, 0xFFFF0071), (0x48, 0, 0x40000000000), (0x50, 0, 1)]), { winA 0x40000000000 with req := 0xFFFF, mere := 0 }, 0, by decide +kernel⟩,
   ⟨(winUp (winA 0)).withOps [(1, mkOp (dsc 0xA3 [(2, 0, 5), (4, 0, 9), (0x20, 0, 4095)]))], 1, mkOp (dsc 0xA3 [(2, 0, 5), (4, 0, 9), (0x20, 0, 4095)]), winA 0, by decide +kernel⟩,
   ⟨(winUp ({ winA 0 with clearing := 1 })).withOps [(1, { mkOp (dsc 0xA3 [(2, 0, 5), (4, 0, 9), (0x20, 0, 4095)]) with phase := .running })], 4095, { winA 0 with clearing := 1 }, { mkOp (dsc 0xA3 [(2, 0, 5), (4, 0, 9), (0x20, 0, 4095)]) with phase := .running }, by decide +kernel⟩,
   ⟨world (dsc 0xA4 [(2, 0, 5), (4, 0, 9), (0x20, 0, 0x40000000), (0x28, 0, 0x100), (0x30, 0, 128)]), 1, mkOp (dsc 0xA4 [(2, 0, 5), (4, 0, 9), (0x20, 0, 0x40000000), (0x28, 0, 0x100), (0x30, 0, 128)]), by decide +kernel⟩,
   ⟨fabOp (mkOp (dsc 0xA4 [(2, 0, 5), (4, 0, 9), (0x20, 0, 0x40000000), (0x28, 0, 0x100), (0x30, 0, 128)])), 1, mkOp (dsc 0xA4 [(2, 0, 5), (4, 0, 9), (0x20, 0, 0x40000000), (0x28, 0, 0x100), (0x30, 0, 128)]), 0x103, 0, 0x100, 0, ⟨by decide +kernel, by decide +kernel, acc_is (d := (0, 0, 0)) (by decide +kernel), by decide +kernel, by decide +kernel⟩⟩,
   ⟨pushUp (pushA 1 []) ({ mkOp (dsc 0xA4 [(2, 0, 5), (4, 0, 9), (0x20, 0, 0x40000000), (0x28, 0, 0x100), (0x30, 0, 128)]) with phase := .running }), 1, 4, { mkOp (dsc 0xA4 [(2, 0, 5), (4, 0, 9), (0x20, 0, 0x40000000), (0x28, 0, 0x100), (0x30, 0, 128)]) with phase := .running }, pushA 1 [], by decide +kernel⟩,
   ⟨pushUp (pushA 0 []) (mkOp (dsc 0xA5 [(2, 0, 5), (4, 0, 9), (0x20, 0, 4)])), 1, mkOp (dsc 0xA5 [(2, 0, 5), (4, 0, 9), (0x20, 0, 4)]), pushA 0 [], by decide +kernel⟩,
   ⟨upOp ({ mkOp (dsc 0xA5 [(2, 0, 5), (4, 0, 9), (0x20, 0, 4)]) with phase := .running }), 1, { mkOp (dsc 0xA5 [(2, 0, 5), (4, 0, 9), (0x20, 0, 4)]) with phase := .running }, by decide +kernel⟩,
   ⟨fabUp, 6, 0, 1, ({ pond := 1, slot := 0, map := [0x102, 0x103] } : Membership), ⟨by decide +kernel, by decide +kernel, by decide +kernel, by decide +kernel, (fun k _ h => by have e : k = 0 := (by omega); subst e; exact ⟨plot0, by decide +kernel, by decide +kernel⟩), by decide +kernel⟩⟩,
   ⟨pushUp (pushA 0 [(1, [(0x100, 64)])]) ({ mkOp (dsc 0x10 [(2, 0, 2), (4, 0, 9), (0x20, 0, 8192), (0x24, 0, 1), (0x28, 0, 0x100), (0x30, 0, 0x4000)]) with phase := .running }), 4, 0x178, List.replicate 8 1, pushA 0 [(1, [(0x100, 64)])], by decide +kernel⟩,
   ⟨pushUp (pushA 0 [(1, [(0x100, 64)])]) ({ mkOp (dsc 0x10 [(2, 0, 2), (4, 0, 9), (0x20, 0, 8192), (0x24, 0, 1), (0x28, 0, 0x100), (0x30, 0, 0x4000)]) with phase := .running }), 1, 4, pushA 0 [(1, [(0x100, 64)])], (1, [(0x100, 64)]), { mkOp (dsc 0x10 [(2, 0, 2), (4, 0, 9), (0x20, 0, 8192), (0x24, 0, 1), (0x28, 0, 0x100), (0x30, 0, 0x4000)]) with phase := .running }, by decide +kernel⟩⟩

set_option maxRecDepth 100000 in
/-- The hypotheses of the clauses of `JoinCommandsTakeEffect` are met. -/
theorem witness_JoinCommandsTakeEffect :
    (∃ (s : State), s.fab.join ≠ .off ∧ s.fab.join ≠ .rejected ∧ s.fab.join = .training)
    ∧ (∃ (s : State), s.fab.join ≠ .off ∧ s.fab.join ≠ .rejected ∧ s.fab.join ≠ .training ∧ s.fab.roundKind = 1)
    ∧ (∃ (s : State), s.fab.join ≠ .off ∧ s.fab.join ≠ .rejected ∧ s.fab.join ≠ .training ∧ s.fab.roundKind = 2
        ∧ s.pruneRoutes.fab.changed = true)
    ∧ (∃ (s : State), s.fab.join ≠ .off ∧ s.fab.join ≠ .rejected ∧ s.fab.join ≠ .training ∧ s.fab.roundKind = 2
        ∧ s.pruneRoutes.fab.changed = false)
    ∧ (∃ (s : State), s.fab.join ≠ .off ∧ s.fab.join ≠ .rejected ∧ s.fab.join ≠ .training ∧ s.fab.roundKind = 3
        ∧ s.pruneRoutes.fab.changed = false)
    ∧ (∃ (s : State) (sub : Nat), sub < 64 ∧ (s.subLink sub).state = .up ∧ s.fab.join ≠ .off)
    ∧ (∃ (s : State) (sub : Nat) (group : Bool) (dups : List Nat) (x : Neighbour), s.goodNeighbour sub = some x
        ∧ sub < 64 ∧ (s.subLink sub).state = .up
        ∧ ((s.fab.join = .discovery ∨ s.fab.join = .linking ∨ s.fab.join = .awaitConfirm ∨ s.fab.join = .joined))
        ∧ (group = false → x.dev / 256 = s.ownGroup) ∧ s.fab.devId ∈ dups)
    ∧ (∃ (s : State) (sub : Nat) (group : Bool) (dups : List Nat) (x : Neighbour), s.goodNeighbour sub = some x
        ∧ sub < 64 ∧ (s.subLink sub).state = .up
        ∧ ((s.fab.join = .discovery ∨ s.fab.join = .linking ∨ s.fab.join = .awaitConfirm ∨ s.fab.join = .joined))
        ∧ (group = false → x.dev / 256 = s.ownGroup) ∧ s.fab.devId ∉ dups ∧ s.fab.routeMode = true)
    ∧ (∃ (s : State) (sub : Nat) (group : Bool) (dists links dups : List Nat) (x : Neighbour) (k h j : _), s.goodNeighbour sub = some x ∧ sub < 64 ∧ (s.subLink sub).state = .up ∧ ((s.fab.join = .discovery ∨ s.fab.join = .linking ∨ s.fab.join = .awaitConfirm ∨ s.fab.join = .joined)) ∧ (group = false → x.dev / 256 = s.ownGroup) ∧ s.fab.devId ∉ dups ∧ s.fab.routeMode = false ∧ k < (if group then 128 else 256) ∧ k ≠ (if group then s.ownGroup else s.ownMember) ∧ (group = false → k ∉ s.fab.rejected) ∧ (∀ i d, dists[i]? = some d → i ≠ k → 255 ≤ d) ∧ dists[k]? = some h ∧ h < 254 ∧ links[k]? = some j ∧ j ≠ (s.subLink sub).nSub ∧ links.length = dists.length ∧ (∃ i, i < 64 ∧ s.setUsed group k i = false) ∧ (∀ i, i ≠ k → bitOf (s.maskOf (s.routeEntry group i)) sub = false) ∧ ((s.maskOf (s.routeEntry group k) = 0 ∨ h + 1 < bitsOf (s.routeEntry group k) 8 8)))
    ∧ (∃ (s : State) (group : Nat), s.fab.anchor = true ∧ group < 128)
    ∧ (∃ (s : State), s.fab.leader = true ∧ s.fab.roundKind = 0
        ∧ ((s.fab.join = .awaitConfirm ∨ s.fab.join = .joined)) ∧ s.fab.anchor = false ∧ s.fab.anchorId ≠ 0xFFFF
        ∧ s.fab.anchorId ≠ s.fab.devId ∧ s.fab.rejected = [] ∧ s.fab.reported = [])
    ∧ (∃ (s : State) (bitmap : Nat), s.fab.leader = false ∧ s.fab.join = .awaitConfirm
        ∧ bitOf bitmap s.ownMember = true)
    ∧ (∃ (s : State) (bitmap reported : Nat), s.fab.leader = false ∧ ((s.fab.join = .awaitConfirm ∨ s.fab.join = .joined))
        ∧ bitOf bitmap s.ownMember = false ∧ bitOf reported s.ownMember = true)
    ∧ (∃ (s : State) (op : Nat) (o : Op), s.go? op 0xA6 = some o ∧ s.fab.anchor = false)
    ∧ (∃ (s : State) (op : Nat) (o : Op) (leader : _), let g := fld o.desc 0x20 0 7
      let at_ := fld o.desc 0x28 0 43
      s.go? op 0xA6 = some o ∧ s.fab.anchor = true ∧ g ≠ s.ownGroup ∧ bitOf (s.fab.routeGrp.get 0 g) 6 = true
        ∧ (s.plotOf at_).isSome = true ∧ s.stalls 0 at_ 32 false = false ∧ s.poisonIn at_ 32 = false
        ∧ s.fab.reportLeader.at? g = some leader)
    ∧ (∃ (s : State) (kind a b c fp : Nat), let x := s.fab.faults.get { window := 0, count := 0 } fp
      let w := s.ns / 10000000 + 1
      s.fingerprint kind a b c = some fp ∧ x.window = w)
    ∧ (∃ (s : State) (kind a b c fp : Nat), let x := s.fab.faults.get { window := 0, count := 0 } fp
      let w := s.ns / 10000000 + 1
      s.fingerprint kind a b c = some fp ∧ x.window ≠ w ∧ s.leaderKnown = true ∧ s.fab.leader = false)
    ∧ (∃ (s : State) (fp dev : Nat) (m : Merged), s.fab.leader = true ∧ fp < 2 ^ 64 ∧ dev < 65536
        ∧ s.fab.merged.at? fp = some m)
    ∧ (∃ (s : State) (dev : Nat), dev ≠ s.fab.devId ∧ dev < 0x8000 ∧ s.reaches dev = false ∧ dev ∉ s.fab.unreachable)
    ∧ (∃ (s : State), s.parentSub < 64)
    ∧ (∃ (s : State) (table idx value : Nat), s.fab.routeMode = true ∧ value < 2 ^ 32 ∧ table = 0
        ∧ idx < 128)
    ∧ (∃ (s : State) (table idx value : Nat), s.fab.routeMode = true ∧ value < 2 ^ 32 ∧ table = 1
        ∧ idx < 256)
    ∧ (∃ (s : State) (table idx value : Nat), s.fab.routeMode = true ∧ value < 2 ^ 32
        ∧ ((table = 2 ∨ table = 3)) ∧ idx < 64)
    ∧ (∀ sys : Bool, ∃ (s : State) (src tag dst n : Nat),
        (if sys then s.fab.join ≠ .joined ∧ s.fab.join ≠ .off ∧ s.fab.join ≠ .rejected else s.fab.join = .joined)
        ∧ dst ≠ s.fab.devId ∧ dst ≠ 0xFFFF ∧ s.fab.paths.at? (src * 65536 + tag) = some n) :=
  ⟨⟨{ fabUp with fab := { fabUp.fab with join := .training } }, by decide +kernel⟩,
   ⟨{ fabUp with fab := { fabUp.fab with join := .discovery, roundKind := 1 } }, by decide +kernel⟩,
   ⟨{ fabUp with fab := { fabUp.fab with join := .joined, roundKind := 2, changed := true } }, by decide +kernel⟩,
   ⟨{ fabUp with fab := { fabUp.fab with join := .discovery, roundKind := 2, changed := false, rounds := 1 } }, by decide +kernel⟩,
   ⟨{ fabUp with fab := { fabUp.fab with join := .linking, roundKind := 3, changed := false, rounds := 5 } }, by decide +kernel⟩,
   ⟨{ fabUp with fab := { fabUp.fab with join := .linking, roundKind := 2, neighbours := [] } }, 0, by decide +kernel⟩,
   ⟨fabUp, 0, true, [0x102], { dev := 0x103, state := 5, leaderOk := true }, by decide +kernel⟩,
   ⟨{ fabUp with fab := { fabUp.fab with routeMode := true } }, 0, false, [], { dev := 0x103, state := 5, leaderOk := true }, by decide +kernel⟩,
   ⟨{ fabUp with fab := { fabUp.fab with routeMbr := [] } }, 0, false, [255, 255, 255, 255, 253], [0, 0, 0, 0, 7], [], { dev := 0x103, state := 5, leaderOk := true }, 4, 253, 7, by and_intros <;> first | (intro _; decide +kernel) | ((intro i d h hi; rcases i with _ | _ | _ | _ | _ | i <;> simp at h hi <;> omega)) | exact ⟨0, by decide +kernel, by decide +kernel⟩ | exact fun i _ => (by show bitOf (State.maskOf _ 0) 0 = false; decide +kernel) | decide +kernel⟩,
   ⟨{ fabUp with fab := { fabUp.fab with anchor := true } }, 127, by decide +kernel⟩,
   ⟨{ fabUp with fab := { fabUp.fab with leader := true, roundKind := 0, anchorId := 0x001 } }, by decide +kernel⟩,
   ⟨{ fabUp with fab := { fabUp.fab with join := .awaitConfirm } }, 4, by decide +kernel⟩,
   ⟨{ fabUp with fab := { fabUp.fab with join := .joined } }, 8, 4, by decide +kernel⟩,
   ⟨fabOp (mkOp (dsc 0xA6 [(2, 0, 5), (4, 0, 9), (0x20, 0, 2), (0x28, 0, 0x20000000)])), 1, mkOp (dsc 0xA6 [(2, 0, 5), (4, 0, 9), (0x20, 0, 2), (0x28, 0, 0x20000000)]), by decide +kernel⟩,
   ⟨{ fabOp (mkOp (dsc 0xA6 [(2, 0, 5), (4, 0, 9), (0x20, 0, 2), (0x28, 0, 0x20000000)])) with fab := { fabUp.fab with anchor := true, routeGrp := [(2, 0x140)], reportLeader := [(2, 9)] } }, 1, mkOp (dsc 0xA6 [(2, 0, 5), (4, 0, 9), (0x20, 0, 2), (0x28, 0, 0x20000000)]), 9, by dsimp only; decide +kernel⟩,
   ⟨{ fabUp with fab := { fabUp.fab with faults := [(3 * 2 ^ 60 + 5 + (crc32 (leBytes 8 1 ++ leBytes 4 2)) * 2 ^ 28, { window := 1, count := 4 })] } }, 3, 5, 1, 2, 3 * 2 ^ 60 + 5 + (crc32 (leBytes 8 1 ++ leBytes 4 2)) * 2 ^ 28, by dsimp only; decide +kernel⟩,
   ⟨fabUp, 2, 0x105, 0, 0, 2 * 2 ^ 60 + 0x105, by dsimp only; decide +kernel⟩,
   ⟨{ fabUp with fab := { fabUp.fab with leader := true, merged := [(7, { devices := [3], count := 2 ^ 32 - 1, lowest := 3 })] } }, 7, 2, { devices := [3], count := 2 ^ 32 - 1, lowest := 3 }, by decide +kernel⟩,
   ⟨{ fabOp ({ mkOp (dsc 0x10 [(2, 0, 2), (4, 0, 9), (0x20, 0, 8192), (0x24, 0, 1), (0x28, 0, 0x100), (0x30, 0, 0x4000)]) with phase := .running }) with fab := { fabUp.fab with routeSet := [] } }, 0x103, by decide +kernel⟩,
   ⟨fabUp, by decide +kernel⟩,
   ⟨{ fabUp with fab := { fabUp.fab with routeMode := true } }, 0, 127, 0xFFFF, by decide +kernel⟩,
   ⟨{ fabUp with fab := { fabUp.fab with routeMode := true } }, 1, 255, 0xFFFF, by decide +kernel⟩,
   ⟨{ fabUp with fab := { fabUp.fab with routeMode := true } }, 3, 63, 0xFFFFFFFF, by decide +kernel⟩,
   fun sys => ⟨{ fabUp with fab := { fabUp.fab with join := if sys then .awaitConfirm else .joined, paths := [(0x104 * 65536 + 9, 5)] } },
      0x104, 9, 0x103, 5, by cases sys <;> decide +kernel⟩⟩

set_option maxRecDepth 100000 in
/-- The hypotheses of the clauses of `TimeAndBrumationTakeEffect` are met. -/
theorem witness_TimeAndBrumationTakeEffect :
    (∃ (s : State), s.pending = [] ∧ s.hasRate = false ∧ s.clk.tb + 11 * 2 ^ 32 < 2 ^ 96)
    ∧ (∃ (s : State) (hi : Nat), let v := s.clk.setLo.toNat + hi % 2 ^ 32 * 2 ^ 32
      (v < s.ns ∨ (s.fab.timeRoot = false ∧ s.fab.join = .joined)))
    ∧ (∃ (s : State) (hi : Nat), let v := s.clk.setLo.toNat + hi % 2 ^ 32 * 2 ^ 32
      s.ns ≤ v ∧ ((s.fab.timeRoot = true ∨ s.fab.join ≠ .joined)) ∧ s.clk.tb < 2 ^ 96)
    ∧ (∃ (s : State), s.parentSub < 64)
    ∧ (∃ (s : State), s.clk.refPresent = true ∧ s.pwr.downStep < 2 ∧ ((5 ≤ s.pwr.reached ∨ s.clk.wakeStep = 2)))
    ∧ (∃ (s : State), s.clk.refPresent = false)
    ∧ (∃ (s : State), s.clk.brumEnable = true ∧ s.boot.ready = true ∧ s.mute = false ∧ s.clk.entryStep = 0
        ∧ s.pwr.downStep = 0 ∧ s.idle = true)
    ∧ (∃ (s : State), s.clk.entryStep = 7)
    ∧ (∀ n, 1 ≤ n → n ≤ 6 → ∃ (s : State), s.clk.entryStep = n ∧ s.clk.wakeSrc = 0 ∧ s.boot.mwUp = true)
    ∧ (∃ (s : State), s.clk.entryStep = 6 ∧ s.clk.wakeSrc ≠ 0)
    ∧ (∃ (s : State) (src : Nat), 1 ≤ src ∧ src ≤ 5 ∧ s.pwr.downStep = 0 ∧ s.clk.wakeSrc = 0 ∧ s.clk.entryStep ≠ 0)
    ∧ (∃ (s : State) (src : Nat), 1 ≤ src ∧ src ≤ 5 ∧ s.pwr.downStep = 0 ∧ s.clk.wakeSrc = 0 ∧ s.clk.entryStep = 0
        ∧ s.clk.asleep = true ∧ src ≠ 5 ∧ s.clk.wakeStep = 0 ∧ s.clk.refPresent = true)
    ∧ (∃ (s : State) (dst : Nat), dst = s.fab.devId)
    ∧ (∃ (s : State) (dst sub : Nat), dst ≠ s.fab.devId ∧ s.clk.asleep = false ∧ s.fab.join ≠ .off
        ∧ s.fab.join ≠ .rejected ∧ sub < 64)
    ∧ (∃ (s : State), s.pwr.pwrReq = true ∧ s.clk.wakeStep = 1)
    ∧ (∃ (s : State), s.pwr.pwrReq = true ∧ s.clk.wakeStep = 2 ∧ s.clk.rootLocked = true ∧ s.ras.fatal = false)
    ∧ (∃ (s : State), s.pwr.pwrReq = true ∧ s.clk.wakeStep = 3)
    ∧ (∃ (s : State), s.pwr.pwrReq = true ∧ s.clk.wakeStep = 4 ∧ s.boot.ready = true)
    ∧ (∃ (s : State), s.pwr.pwrReq = true ∧ s.clk.wakeStep = 5)
    ∧ (∃ (s : State), s.pwr.pwrReq = false ∧ s.clk.wakeStep ≠ 0) :=
  ⟨⟨{ up with clk := { up.clk with tb := 2 ^ 96 - 11 * 2 ^ 32 - 1, slew := -1 } }, by decide +kernel⟩,
   ⟨{ up with clk := { up.clk with setLo := 4999999 } }, 2 ^ 32, by dsimp only; decide +kernel⟩,
   ⟨{ up with clk := { up.clk with setLo := 5000000 } }, 2 ^ 32, by dsimp only; decide +kernel⟩,
   ⟨{ fabUp with fab := { fabUp.fab with t1 := 4998000 } }, by decide +kernel⟩,
   ⟨{ up with pwr := { up.pwr with reached := 5 } }, by decide +kernel⟩,
   ⟨{ up with clk := { up.clk with refPresent := false, asleep := true, wakeSrc := 1 } }, by decide +kernel⟩,
   ⟨{ (setPf up (fun F => { F with sqs := [] })) with clk := { (setPf up (fun F => { F with sqs := [] })).clk with brumEnable := true } }, by decide +kernel⟩,
   ⟨{ up with clk := { up.clk with entryStep := 7 } }, by decide +kernel⟩,
   fun n _ _ => ⟨{ up with clk := { up.clk with entryStep := n, wordLo := 0x1000 } }, rfl, rfl, rfl⟩,
   ⟨{ up with clk := { up.clk with entryStep := 6, wakeSrc := 5 } }, by decide +kernel⟩,
   ⟨{ up with clk := { up.clk with entryStep := 7 } }, 5, by decide +kernel⟩,
   ⟨{ up with clk := { up.clk with asleep := true } }, 4, by decide +kernel⟩,
   ⟨fabUp, 0x102, by decide +kernel⟩,
   ⟨{ fabUp with fab := { fabUp.fab with subs := [(0, { SubLink.reset with state := .sleep, nDev := 0x103, gen := 1 })] } }, 0x103, 63, by decide +kernel⟩,
   ⟨{ up with clk := { up.clk with wakeStep := 1 } }, by decide +kernel⟩,
   ⟨{ up with clk := { up.clk with wakeStep := 2, asleep := true, wakeSrc := 4 } }, by decide +kernel⟩,
   ⟨{ up with clk := { up.clk with wakeStep := 3, linkBefore := (6, 16) } }, by decide +kernel⟩,
   ⟨{ up with clk := { up.clk with wakeStep := 4 } }, by decide +kernel⟩,
   ⟨{ up with clk := { up.clk with wakeStep := 5 } }, by decide +kernel⟩,
   ⟨{ up with clk := { up.clk with wakeStep := 2, asleep := true }, pwr := { up.pwr with pwrReq := false } }, by decide +kernel⟩⟩

set_option maxRecDepth 100000 in
/-- The hypotheses of the clauses of `PowerCommandsTakeEffect` are met. -/
theorem witness_PowerCommandsTakeEffect :
    (∃ (s : State) (value : Nat), let n := s.pwr.islSel
      let code := bitsOf value 0 7
      let div := bitsOf value 8 5
      s.pwr.islSel < 512 ∧ (80 < code ∨ div < 8 ∨ 16 < div ∨ code < minCode div ∨ s.fenced 1 n = true))
    ∧ (∃ (s : State) (value : Nat), let n := s.pwr.islSel
      let i := s.island n
      let code := bitsOf value 0 7
      let div := bitsOf value 8 5
      s.pwr.islSel < 512 ∧ code ≤ 80 ∧ 8 ≤ div ∧ div ≤ 16 ∧ minCode div ≤ code ∧ s.fenced 1 n = false
        ∧ (i.settled = false ∨ i.target ≠ code))
    ∧ (∃ (s : State) (value : Nat), let n := s.pwr.islSel
      let i := s.island n
      let code := bitsOf value 0 7
      let div := bitsOf value 8 5
      s.pwr.islSel < 512 ∧ code ≤ 80 ∧ 8 ≤ div ∧ div ≤ 16 ∧ minCode div ≤ code ∧ s.fenced 1 n = false
        ∧ i.settled = true ∧ i.target = code ∧ ((s.forced = false ∨ i.div ≤ div)))
    ∧ (∀ waits : Bool, ∃ (s : State) (n : Nat), n < 512 ∧ (s.island n).settled = false ∧ (s.island n).at_ + 200 ≤ s.ns
        ∧ (s.island n).out (s.ns - 200) = codeUv (s.island n).target ∧ (s.forced && (s.island n).raise) = waits)
    ∧ (∃ (d : Nat), d < 4)
    ∧ (∃ (s : State) (dom : Nat), dom < 591 ∧ dom ∉ s.clk.stretching)
    ∧ (∃ (s : State) (dom : Nat), dom ∈ s.clk.stretching)
    ∧ (∃ (s : State), s.pwr.pwrOk = true ∧ s.clk.asleep = false ∧ s.pwr.trip = false ∧ s.pwr.forced = false)
    ∧ (∃ (s : State), s.pwr.pwrOk = true ∧ s.clk.asleep = false ∧ s.pwr.trip = false ∧ s.pwr.forced = true)
    ∧ (∃ (s : State), s.pwr.pwrOk = true ∧ s.clk.asleep = false ∧ s.pwr.trip = true)
    ∧ (∃ (s : State), s.pwr.forced = true ∧ s.pwr.croakPin = false ∧ s.boot.mwUp = true)
    ∧ (∃ (s : State) (n : Nat), n < 512 ∧ s.pwr.pwrOk = true ∧ s.clk.asleep = false)
    ∧ (∃ (s : State) (port : Nat), port < 24 ∧ s.pwr.pwrOk = true ∧ s.clk.asleep = false)
    ∧ (∃ (s : State) (n : Nat), let i := s.island n
      let temp := signedOf 11 i.temp
      n < 512 ∧ 4 * (s.pwr.tThrottle : Int) < temp ∧ i.steps < 8)
    ∧ (∃ (s : State) (n : Nat), let i := s.island n
      let temp := signedOf 11 i.temp
      n < 512 ∧ temp < 4 * ((s.pwr.tThrottle : Int) - s.pwr.hyst) ∧ i.steps ≠ 0)
    ∧ (∃ (s : State) (n : Nat), let i := s.island n
      let temp := signedOf 11 i.temp
      n < 512 ∧ 4 * ((s.pwr.tThrottle : Int) - s.pwr.hyst) ≤ temp ∧ temp ≤ 4 * (s.pwr.tThrottle : Int)) :=
  ⟨⟨{ up with pwr := { up.pwr with islSel := 511 } }, 11208749, by dsimp only; decide +kernel⟩,
   ⟨{ up with pwr := { up.pwr with islSel := 511, islands := [(511, { Island.reset with div := 16, settled := false })] } }, 11208784, by dsimp only; decide +kernel⟩,
   ⟨{ up with pwr := { up.pwr with islSel := 511, islands := [(511, { Island.reset with div := 16, target := 46 })] } }, 11208750, by dsimp only; decide +kernel⟩,
   fun waits => ⟨{ up with pwr := { up.pwr with forced := waits, islands :=
      [(511, { Island.reset with settled := false, target := 80, at_ := 0, cmdDiv := 8, raise := true })] } }, 511, by cases waits <;> decide +kernel⟩,
   ⟨3, by decide +kernel⟩,
   ⟨up, 590, by decide +kernel⟩,
   ⟨{ up with clk := { up.clk with stretching := [511, 590] } }, 511, by decide +kernel⟩,
   ⟨up, by decide +kernel⟩,
   ⟨{ up with pwr := { up.pwr with forced := true } }, by decide +kernel⟩,
   ⟨{ up with pwr := { up.pwr with trip := true } }, by decide +kernel⟩,
   ⟨{ up with pwr := { up.pwr with forced := true, islands := [(511, { Island.reset with raise := true, cmdDiv := 8 })] }, boot := { up.boot with mwUp := true } }, by decide +kernel⟩,
   ⟨up, 511, by decide +kernel⟩,
   ⟨up, 23, by decide +kernel⟩,
   ⟨{ up with pwr := { up.pwr with tThrottle := 100, islands := [(511, { Island.reset with temp := 401, steps := 7 })] } }, 511, by dsimp only; decide +kernel⟩,
   ⟨{ up with pwr := { up.pwr with tThrottle := 100, hyst := 5, islands := [(511, { Island.reset with temp := 379, steps := 8 })] } }, 511, by dsimp only; decide +kernel⟩,
   ⟨{ up with pwr := { up.pwr with tThrottle := 100, hyst := 5, islands := [(511, { Island.reset with temp := 400, steps := 8 })] } }, 511, by dsimp only; decide +kernel⟩⟩

set_option maxRecDepth 100000 in
/-- The hypotheses of the clauses of `ResetsAndBootTakeEffect` are met. -/
theorem witness_ResetsAndBootTakeEffect :
    (∃ (s : State), s.pwr.pwrOk = false)
    ∧ (∃ (s : State), s.boot.perst = true ∧ s.pwr.pwrOk = true)
    ∧ (∃ (s : State), s.resettable = true ∧ s.boot.resetDue = true)
    ∧ (∃ (s : State), s.resettable = true ∧ s.clk.asleep = false ∧ s.clk.entryStep ≠ 6)
    ∧ (∃ (mode speed width : Nat) (flit : Bool), mode ≤ 2 ∧ 1 ≤ speed ∧ speed ≤ 6
        ∧ (width = 1 ∨ width = 2 ∨ width = 4 ∨ width = 8 ∨ width = 16) ∧ (speed = 6 → flit = true))
    ∧ (∃ (mode speed width : Nat) (flit : Bool), ¬(mode ≤ 2 ∧ 1 ≤ speed ∧ speed ≤ 6
        ∧ (width = 1 ∨ width = 2 ∨ width = 4 ∨ width = 8 ∨ width = 16) ∧ (speed = 6 → flit = true)))
    ∧ (∃ (s : State), s.boot.ready = false ∧ s.boot.perst = false ∧ s.boot.bootFail = false ∧ s.boot.stage = 1)
    ∧ (∃ (s : State), s.boot.ready = false ∧ s.boot.perst = false ∧ s.boot.bootFail = false ∧ s.boot.stage = 2)
    ∧ (∃ (s : State) (ok : Bool), s.boot.ready = false ∧ s.boot.perst = false ∧ s.boot.bootFail = false
        ∧ s.boot.stage = 3 ∧ s.sec.helper = some helperTag ∧ ok = true ∧ s.lcState ≠ 4)
    ∧ (∃ (s : State) (ok : Bool), s.boot.ready = false ∧ s.boot.perst = false ∧ s.boot.bootFail = false
        ∧ s.boot.stage = 3 ∧ s.sec.helper = some helperTag ∧ ok = false ∧ s.lcState ≠ 4)
    ∧ (∃ (s : State), s.boot.ready = false ∧ s.boot.perst = false ∧ s.boot.bootFail = false ∧ s.boot.stage = 3
        ∧ s.lcState = 4)
    ∧ (∃ (s : State), s.boot.ready = false ∧ s.boot.perst = false ∧ s.boot.bootFail = false ∧ s.boot.stage = 4
        ∧ s.bootSlot 0 s.boot.mwActive = none)
    ∧ (∃ (s : State) (slot i : _), s.boot.ready = false ∧ s.boot.perst = false ∧ s.boot.bootFail = false
        ∧ s.boot.stage = 4 ∧ s.bootSlot 0 s.boot.mwActive = some (slot, i))
    ∧ (∃ (s : State), s.boot.ready = false ∧ s.boot.perst = false ∧ s.boot.bootFail = false ∧ s.boot.stage = 5)
    ∧ (∃ (s : State), s.boot.ready = false ∧ s.boot.perst = false ∧ s.boot.bootFail = false ∧ s.boot.stage = 6
        ∧ s.boot.activating = [])
    ∧ (∃ (s : State), s.boot.ready = false ∧ s.boot.perst = false ∧ s.boot.bootFail = false ∧ s.boot.stage = 7)
    ∧ (∃ (s : State), s.boot.ready = false ∧ s.boot.perst = false ∧ s.boot.bootFail = false ∧ s.boot.stage = 8)
    ∧ (∃ (s : State) (cls unit : Nat), s.boot.stage = 6 ∧ s.boot.ready = false ∧ unit < unitLimit cls
        ∧ s.fenced cls unit = false)
    ∧ (∃ (s : State), s.boot.mwUp = false ∧ s.boot.stage = 4 ∧ s.boot.mwFails = 0
        ∧ (s.slotImage (1 - s.boot.mwActive)).isSome = true)
    ∧ (∃ (s : State), s.boot.mwUp = false ∧ s.boot.stage = 4
        ∧ ((s.boot.mwFails ≠ 0 ∨ s.slotImage (1 - s.boot.mwActive) = none)))
    ∧ (∃ (s : State), s.boot.mwUp = false ∧ 5 ≤ s.boot.stage ∧ s.boot.mwFails = 0)
    ∧ (∃ (s : State), s.boot.mwUp = false ∧ 5 ≤ s.boot.stage ∧ s.boot.mwFails ≠ 0 ∧ s.ras.fatal = false) :=
  ⟨⟨{ up with pwr := { up.pwr with pwrOk := false } }, by decide +kernel⟩,
   ⟨{ up with boot := { up.boot with perst := true, straps := 0x1FF } }, by decide +kernel⟩,
   ⟨{ up with boot := { up.boot with resetDue := true } }, by decide +kernel⟩,
   ⟨up, by decide +kernel⟩,
   ⟨2, 6, 16, true, by decide⟩,
   ⟨2, 6, 16, false, by decide⟩,
   ⟨{ up with boot := { up.boot with ready := false, stage := 1 } }, by decide +kernel⟩,
   ⟨{ up with boot := { up.boot with ready := false, stage := 2 }, sec := { up.sec with lcFuse := 0b100111 } }, by decide +kernel⟩,
   ⟨{ up with boot := { up.boot with ready := false, stage := 3 }, sec := { up.sec with helper := some helperTag } }, true, by and_intros <;> first | exact rfl | decide +kernel⟩,
   ⟨{ up with boot := { up.boot with ready := false, stage := 3 }, sec := { up.sec with helper := some helperTag, pufFails := 2 } }, false, by and_intros <;> first | exact rfl | decide +kernel⟩,
   ⟨{ up with boot := { up.boot with ready := false, stage := 3 }, sec := { up.sec with lcFuse := 0xFF } }, by decide +kernel⟩,
   ⟨{ up with boot := { up.boot with ready := false, stage := 4, slots := [] } }, by decide +kernel⟩,
   ⟨{ up with boot := { up.boot with ready := false, stage := 4, slots := [(1, imgA 1)], mwActive := 0 } }, 1, imgA 1, by decide +kernel⟩,
   ⟨{ up with boot := { up.boot with ready := false, stage := 5, config := leBytes 60 (1 + 127 * 256) ++ leBytes 4 (crc32 (leBytes 60 (1 + 127 * 256))) } }, by decide +kernel⟩,
   ⟨{ up with boot := { up.boot with ready := false, stage := 6, activating := [], slots := [(2, imgA 2), (4, imgA 3)] } }, by decide +kernel⟩,
   ⟨{ up with boot := { up.boot with ready := false, stage := 7 } }, by decide +kernel⟩,
   ⟨{ up with boot := { up.boot with ready := false, stage := 8 } }, by decide +kernel⟩,
   ⟨{ up with boot := { up.boot with ready := false, stage := 6 } }, 10, 3, by decide +kernel⟩,
   ⟨{ up with boot := { up.boot with ready := false, stage := 4, mwUp := false, mwFails := 0, slots := [(1, imgA 1)], mwActive := 0 } }, by decide +kernel⟩,
   ⟨{ up with boot := { up.boot with ready := false, stage := 4, mwUp := false, mwFails := 1 } }, by decide +kernel⟩,
   ⟨{ up with boot := { up.boot with ready := false, stage := 5, mwUp := false, mwFails := 0, mwCause := 2, mwPrev := 1 } }, by decide +kernel⟩,
   ⟨{ up with boot := { up.boot with ready := false, stage := 8, mwUp := false, mwFails := 1 } }, by decide +kernel⟩⟩

set_option maxRecDepth 100000 in
/-- The hypotheses of the clauses of `PowerSequenceTakesEffect` are met. -/
theorem witness_PowerSequenceTakesEffect :
    (∃ (s : State), let seq (t : State) : Nat × Nat × Nat := (t.pwr.upStep, t.pwr.downStep, t.pwr.reached)
      seq s = (0, 0, 0) ∧ s.pwr.aon = true ∧ s.pwr.vin12 = true ∧ s.pwr.blocked = false ∧ s.pwr.trip = false
        ∧ s.clk.refPresent = true)
    ∧ (∃ (s : State), s.pwr.upStep = 0 ∧ s.pwr.downStep = 0 ∧ s.clk.wakeStep = 0 ∧ s.clk.asleep = false
        ∧ s.pwr.reached = 7)
    ∧ (∃ (s : State), s.pwr.upStep = 0 ∧ s.pwr.downStep = 0 ∧ s.clk.wakeStep = 0 ∧ s.clk.asleep = true)
    ∧ (∃ (s : State), let goesOn (s : State) : Prop := s.pwr.pwrReq = true ∧ s.pwr.trip = false
      s.pwr.upStep = 3 ∧ goesOn s)
    ∧ (∃ (s : State), let goesOn (s : State) : Prop := s.pwr.pwrReq = true ∧ s.pwr.trip = false
      s.pwr.upStep = 5 ∧ goesOn s)
    ∧ (∃ (s : State), let goesOn (s : State) : Prop := s.pwr.pwrReq = true ∧ s.pwr.trip = false
      s.pwr.downStep = 0 ∧ goesOn s ∧ s.pwr.upStep = 2)
    ∧ (∃ (s : State), let goesOn (s : State) : Prop := s.pwr.pwrReq = true ∧ s.pwr.trip = false
      s.pwr.downStep = 0 ∧ goesOn s ∧ s.pwr.upStep = 4)
    ∧ (∃ (s : State), let goesOn (s : State) : Prop := s.pwr.pwrReq = true ∧ s.pwr.trip = false
      s.pwr.downStep = 0 ∧ goesOn s ∧ s.pwr.upStep = 6 ∧ s.clk.rootLocked = true)
    ∧ (∃ (s : State), let goesOn (s : State) : Prop := s.pwr.pwrReq = true ∧ s.pwr.trip = false
      s.pwr.downStep = 0 ∧ goesOn s ∧ s.pwr.upStep = 7)
    ∧ (∃ (s : State), s.pwr.downStep = 0 ∧ ((s.pwr.pwrReq = false ∨ s.pwr.trip = true)) ∧ s.pwr.upStep = 4)
    ∧ (∃ (s : State), s.pwr.downStep = 2)
    ∧ (∃ (s : State), s.pwr.downStep = 3)
    ∧ (∃ (s : State), s.pwr.downStep = 4)
    ∧ (∃ (s : State), s.pwr.downStep = 5)
    ∧ (∃ (s : State), s.pwr.downStep = 6)
    ∧ (∃ (s : State), s.pwr.downStep = 7 ∧ s.pwr.pwrReq = false) :=
  ⟨⟨{ up with pwr := { up.pwr with upStep := 0, downStep := 0, reached := 0, aon := true, vin12 := true, blocked := false, trip := false } }, by dsimp only; decide +kernel⟩,
   ⟨up, by decide +kernel⟩,
   ⟨{ up with clk := { up.clk with asleep := true } }, by decide +kernel⟩,
   ⟨{ up with pwr := { up.pwr with upStep := 3 } }, by dsimp only; decide +kernel⟩,
   ⟨{ up with pwr := { up.pwr with upStep := 5 } }, by dsimp only; decide +kernel⟩,
   ⟨{ up with pwr := { up.pwr with upStep := 2 } }, by dsimp only; decide +kernel⟩,
   ⟨{ up with pwr := { up.pwr with upStep := 4 } }, by dsimp only; decide +kernel⟩,
   ⟨{ up with pwr := { up.pwr with upStep := 6 } }, by dsimp only; decide +kernel⟩,
   ⟨{ up with pwr := { up.pwr with upStep := 7 } }, by dsimp only; decide +kernel⟩,
   ⟨{ up with pwr := { up.pwr with upStep := 4, reached := 4, pwrReq := false } }, by decide +kernel⟩,
   ⟨{ up with pwr := { up.pwr with downStep := 2, quick := true } }, by decide +kernel⟩,
   ⟨{ up with pwr := { up.pwr with downStep := 3 } }, by decide +kernel⟩,
   ⟨{ up with pwr := { up.pwr with downStep := 4 } }, by decide +kernel⟩,
   ⟨{ up with pwr := { up.pwr with downStep := 5 } }, by decide +kernel⟩,
   ⟨{ up with pwr := { up.pwr with downStep := 6 } }, by decide +kernel⟩,
   ⟨{ up with pwr := { up.pwr with downStep := 7, pwrReq := false } }, by decide +kernel⟩⟩

set_option maxRecDepth 100000 in
/-- The hypotheses of the clauses of `TallyCommandsTakeEffect` are met. -/
theorem witness_TallyCommandsTakeEffect :
    (∃ (s : State) (unit : Nat) (clocks : List Nat), unit < 516 ∧ s.tally.enable = true ∧ 512 ≤ unit
        ∧ ((pairsOf clocks).map (·.2)).sum = 0)
    ∧ (∃ (s : State) (unit k half : Nat), unit < 512 ∧ s.tally.enable = true ∧ half ≠ 0 ∧ s.mem.ponds = [] ∧ s.spender k ≠ unownedKey)
    ∧ (∃ (s : State), s.tally.enable = true)
    ∧ (∃ (s : State) (pond : Nat), s.tally.enable = true ∧ pond ≠ 0
        ∧ (s.mem.ponds.at? pond).any (fun p => p.beats.isSome) = true)
    ∧ (∃ (s : State) (op : Nat) (o : Op), s.go? op 0xB0 = some o ∧ s.stalls 0 (fld o.desc 0x20 0 43) 512 false = false)
    ∧ (∃ (s : State) (op : Nat) (o : Op) (e : _), s.go? op 0xB1 = some o ∧ o.sluice ≠ 0
        ∧ s.work.sluices.at? o.sluice = some e)
    ∧ (∃ (s : State) (op : Nat) (o : Op) (s2 : _), s.go? op 0xB1 = some o ∧ o.sluice = 0
        ∧ (s.finalRec o.acct).1.writeVa ((s.finalRec o.acct).1.agent op o 0 0) false none (fld o.desc 0x20 0 55) ((s.finalRec o.acct).2.receipt s.fab.devId) = .ok s2)
    ∧ (∃ (s : State) (g : Signing), (if s.tally.due.isSome then s.tally.due else s.tally.last) = some g
        ∧ s.sec.running = none)
    ∧ (∃ (s : State) (g : Signing), (if s.tally.due.isSome then s.tally.due else s.tally.last) = some g
        ∧ s.sec.running ≠ none ∧ s.sec.tallyQ = [])
    ∧ (∃ (s : State), s.boot.mwUp = true ∧ s.mute = false ∧ s.sec.hasKey = true ∧ s.tally.hash ≠ [])
    ∧ (∃ (s : State) (head : Nat) (r : EnergyRec), s.tally.backlog = [r] ∧ s.tally.formed = [] ∧ s.mute = false
        ∧ s.tally.enable = true ∧ (s.tally.tail + 1) % 2 ^ s.tally.log2 ≠ head % 2 ^ s.tally.log2
        ∧ s.tally.last.any (·.gap) = false) :=
  ⟨⟨{ up with tally := { up.tally with enable := true } }, 515, [7, 0], by decide +kernel⟩,
   ⟨{ up with tally := { up.tally with enable := true, who := [(9, acctKey 2 1 5)] }, mem := { up.mem with ponds := [] } }, 511, 9, 4,
      by decide +kernel⟩,
   ⟨{ up with tally := { up.tally with enable := true } }, by decide +kernel⟩,
   ⟨{ (pondUp (fun p => { p with beats := some (beatA false) }) (up)) with tally := { (pondUp (fun p => { p with beats := some (beatA false) }) (up)).tally with enable := true } }, 1, by decide +kernel⟩,
   ⟨world (dsc 0xB0 [(2, 0, 5), (4, 0, 9), (0x20, 0, 0x20000000)]), 1, mkOp (dsc 0xB0 [(2, 0, 5), (4, 0, 9), (0x20, 0, 0x20000000)]), by decide +kernel⟩,
   ⟨sluS (sluA .open_) (upOp { mkOp (dsc 0xB1 [(2, 0, 5), (4, 0, 9), (0x20, 0, 0x1000)]) with sluice := 3 }), 1, { mkOp (dsc 0xB1 [(2, 0, 5), (4, 0, 9), (0x20, 0, 0x1000)]) with sluice := 3 }, (sluA .open_), by decide +kernel⟩,
   ⟨(upOp (mkOp (dsc 0xB1 [(2, 0, 5), (4, 0, 9), (0x20, 0, 0x1000)]))), 1, mkOp (dsc 0xB1 [(2, 0, 5), (4, 0, 9), (0x20, 0, 0x1000)]), wroteGet up ((((upOp (mkOp (dsc 0xB1 [(2, 0, 5), (4, 0, 9), (0x20, 0, 0x1000)]))).finalRec (mkOp (dsc 0xB1 [(2, 0, 5), (4, 0, 9), (0x20, 0, 0x1000)])).acct).1.writeVa (((upOp (mkOp (dsc 0xB1 [(2, 0, 5), (4, 0, 9), (0x20, 0, 0x1000)]))).finalRec (mkOp (dsc 0xB1 [(2, 0, 5), (4, 0, 9), (0x20, 0, 0x1000)])).acct).1.agent 1 (mkOp (dsc 0xB1 [(2, 0, 5), (4, 0, 9), (0x20, 0, 0x1000)])) 0 0) false none 0x1000 (((upOp (mkOp (dsc 0xB1 [(2, 0, 5), (4, 0, 9), (0x20, 0, 0x1000)]))).finalRec (mkOp (dsc 0xB1 [(2, 0, 5), (4, 0, 9), (0x20, 0, 0x1000)])).acct).2.receipt (upOp (mkOp (dsc 0xB1 [(2, 0, 5), (4, 0, 9), (0x20, 0, 0x1000)]))).fab.devId))), ⟨by decide +kernel, by decide +kernel, wrote_ok (by decide +kernel)⟩⟩,
   ⟨{ up with tally := { up.tally with due := none, last := some { slot := 3, hash := [1], gap := true } } }, { slot := 3, hash := [1], gap := true }, by decide +kernel⟩,
   ⟨{ up with tally := { up.tally with due := some { slot := 3, hash := [1], gap := true } }, sec := { up.sec with running := some (.pubkey 0), tallyQ := [] } }, { slot := 3, hash := [1], gap := true }, by decide +kernel⟩,
   ⟨{ up with sec := { up.sec with hasKey := true }, tally := { up.tally with hash := [1] }, boot := { up.boot with mwUp := true } }, by decide +kernel⟩,
   ⟨{ up with tally := { up.tally with enable := true, log2 := 4, tail := 14, backlog := [(up.finalRec (acctKey 2 1 5)).2] } }, 0,
      (up.finalRec (acctKey 2 1 5)).2, by decide +kernel⟩⟩

/-- A record's signature runs, three slots before the tail. -/
def ledgerS : State := ({ up with sec := { up.sec with running := some (.record 2 [1] false), hasKey := true }, tally := { up.tally with log2 := 4, tail := 5 } })

set_option maxRecDepth 100000 in
/-- The hypotheses of the clauses of `EnginesOfTheSecurityBlockTakeEffect` are met. -/
theorem witness_EnginesOfTheSecurityBlockTakeEffect :
    (∃ (s : State) (c : EngCall) (i : Instr), (((∃ reg, i = .pubkey reg
        ∧ c = .pubkey reg) ∨ (∃ reg e, i = .sign reg e ∧ c = .sign reg e) ∨ (∃ x y e r t, i = .verify x y e r t
        ∧ c = .verify x y e r t) ∨ (∃ reg x y, i = .ecdh reg x y ∧ c = .ecdh reg x y))) ∧ s.sec.running = none)
    ∧ (∃ (s : State) (c : EngCall) (i : Instr), (((∃ reg, i = .pubkey reg
        ∧ c = .pubkey reg) ∨ (∃ reg e, i = .sign reg e ∧ c = .sign reg e) ∨ (∃ x y e r t, i = .verify x y e r t
        ∧ c = .verify x y e r t) ∨ (∃ reg x y, i = .ecdh reg x y ∧ c = .ecdh reg x y))) ∧ s.sec.running ≠ none)
    ∧ (∃ (s : State) (c : EngCall), s.sec.running = some c ∧ (∀ a b g, c ≠ .record a b g))
    ∧ (∃ (s : State) (head slot : Nat) (hash : List Byte) (gap : Bool) (d : Nat), s.sec.running = some (.record slot hash gap) ∧ s.keyReg 1 = some d ∧ s.mute = false ∧ s.tally.backlog = [] ∧ s.tally.formed = [] ∧ (slot + 2 ^ s.tally.log2 - head % 2 ^ s.tally.log2) % 2 ^ s.tally.log2 < (s.tally.tail + 2 ^ s.tally.log2 - head % 2 ^ s.tally.log2) % 2 ^ s.tally.log2)
    ∧ (∃ (s : State) (x : HashSlot), s.sec.slots.at? s.sec.serving = some x)
    ∧ (∃ (s : State) (caller i : Nat) (x : HashSlot), s.slotOfCaller caller = some i
        ∧ s.sec.slots.at? i = some x ∧ caller ≠ 0 ∧ s.sec.serving ≠ i ∧ s.sec.slotWaits = [])
    ∧ (∃ (s : State) (caller i : Nat) (x : HashSlot), s.sec.suspended.at? caller = some x
        ∧ (slotsFor x.caller).find? (fun i => (s.sec.slots.at? i).isNone) = some i) :=
  ⟨⟨{ up with sec := { up.sec with running := none } }, .verify 1 2 3 4 5, .verify 1 2 3 4 5, ⟨Or.inr (Or.inr (Or.inl ⟨1, 2, 3, 4, 5, rfl, rfl⟩)), by decide +kernel⟩⟩,
   ⟨{ up with sec := { up.sec with running := some (.pubkey 0), otherQ := [.sign 1 2] } }, .ecdh 7 8 9, .ecdh 7 8 9, ⟨Or.inr (Or.inr (Or.inr ⟨7, 8, 9, rfl, rfl⟩)), by decide +kernel⟩⟩,
   ⟨{ up with sec := { up.sec with running := some (.pubkey 9), tallyQ := [], otherQ := [.sign 1 2] } }, .pubkey 9, ⟨by decide +kernel, fun a b g h => by cases h⟩⟩,
   ⟨ledgerS, 2, 2, [1], false, ledgerOf ledgerS.lcState, ⟨by decide +kernel, by rw [State.keyReg, if_neg (by decide), if_pos rfl]; exact if_pos (by decide +kernel), by decide +kernel, by decide +kernel, by decide +kernel, by decide +kernel⟩⟩,
   ⟨{ up with sec := { up.sec with slots := [(1, { caller := 1, served := [1], waiting := [2, 3], last := true })], serving := 1 } }, { caller := 1, served := [1], waiting := [2, 3], last := true }, by decide +kernel⟩,
   ⟨{ up with sec := { up.sec with slots := [(1, { caller := 1, served := [1], waiting := [2, 3], last := true })], serving := 0, slotWaits := [] } }, 1, 1, { caller := 1, served := [1], waiting := [2, 3], last := true }, by decide +kernel⟩,
   ⟨{ up with sec := { up.sec with slots := [], suspended := [(1, { caller := 1, served := [1], waiting := [2, 3], last := true })] } }, 1, 1, { caller := 1, served := [1], waiting := [2, 3], last := true }, by decide +kernel⟩⟩

set_option maxRecDepth 100000 in
/-- The hypotheses of the clauses of `LifeCycleAndSpdmTakeEffect` are met. -/
theorem witness_LifeCycleAndSpdmTakeEffect :
    (∃ (s : State) (tr dest : Nat), s.boot.mwUp = true ∧ s.pwr.pwrOk = true ∧ s.clk.asleep = false ∧ tr < 3
        ∧ (s.sec.lcTarget.isSome = true ∨ lcAllowed s.lcState dest = false))
    ∧ (∃ (s : State) (tr dest : Nat), s.boot.mwUp = true ∧ s.pwr.pwrOk = true ∧ s.clk.asleep = false
        ∧ tr < 3 ∧ s.sec.lcTarget = none ∧ lcAllowed s.lcState dest = true ∧ s.mem.ponds ≠ [])
    ∧ (∃ (s : State) (tr dest : Nat) (nonce : List Byte) (r : Nat) (n : _), s.boot.mwUp = true
        ∧ s.pwr.pwrOk = true ∧ s.clk.asleep = false ∧ tr < 3 ∧ s.sec.lcTarget = none
        ∧ lcAllowed s.lcState dest = true ∧ s.mem.ponds = [] ∧ s.sec.nonce = some n ∧ n.bytes = nonce
        ∧ n.confirmTo = none ∧ ((r ≠ 0 ∨ dest ≠ 4)))
    ∧ (∃ (s : State) (tr : Nat), s.boot.mwUp = true ∧ s.pwr.pwrOk = true ∧ s.clk.asleep = false ∧ tr < 3
        ∧ (s.sec.nonce.bind (·.confirmTo)).any (fun e => e ≤ s.ns) = true)
    ∧ (∃ (s : State) (tr : Nat), s.boot.mwUp = true ∧ s.pwr.pwrOk = true ∧ s.clk.asleep = false ∧ tr < 3
        ∧ s.sec.lcTarget.isSome = true ∧ s.boot.perst = false ∧ s.ras.fatal = false)
    ∧ (∃ (s : State) (tr : Nat), s.boot.mwUp = true ∧ s.pwr.pwrOk = true ∧ s.clk.asleep = false ∧ tr < 3
        ∧ s.lcState = 1 ∧ s.sec.hasKey = true)
    ∧ (∃ (s : State) (tr : Nat) (v : _), s.boot.mwUp = true ∧ s.pwr.pwrOk = true ∧ s.clk.asleep = false ∧ tr < 3
        ∧ ((v = 0x12 ∨ v = 0x13)))
    ∧ (∃ (s : State) (tr : Nat), s.boot.mwUp = true ∧ s.pwr.pwrOk = true ∧ s.clk.asleep = false ∧ tr < 3
        ∧ s.slotFilled = true)
    ∧ (∃ (s : State) (tr : Nat), s.boot.mwUp = true ∧ s.pwr.pwrOk = true ∧ s.clk.asleep = false ∧ tr < 3
        ∧ s.sec.hasKey = false)
    ∧ (∃ (s : State) (tr : Nat) (index : _), s.boot.mwUp = true ∧ s.pwr.pwrOk = true ∧ s.clk.asleep = false
        ∧ tr < 3 ∧ index ≠ 0xFF)
    ∧ (∃ (s : State) (tr : Nat) (x y : _), s.boot.mwUp = true ∧ s.pwr.pwrOk = true ∧ s.clk.asleep = false
        ∧ tr < 3 ∧ s.sec.hasKey = true ∧ pointOk x y = true)
    ∧ (∃ (s : State) (tr : Nat) (id c : _), s.boot.mwUp = true ∧ s.pwr.pwrOk = true ∧ s.clk.asleep = false
        ∧ tr < 3 ∧ s.sec.sessions.at? id = some c ∧ c.established = true) :=
  ⟨⟨up, 2, 0, by decide +kernel⟩,
   ⟨up, 2, 4, by decide +kernel⟩,
   ⟨{ ({ up with mem := { up.mem with ponds := [] } }) with sec := { ({ up with mem := { up.mem with ponds := [] } }).sec with nonce := some { bytes := List.replicate 32 7, confirmTo := none } } }, 2, 1, List.replicate 32 7, 0, { bytes := List.replicate 32 7, confirmTo := none }, by and_intros <;> decide +kernel⟩,
   ⟨{ up with sec := { up.sec with nonce := some { bytes := [], confirmTo := some 5000000 } } }, 2, by decide +kernel⟩,
   ⟨{ up with sec := { up.sec with lcTarget := some 1 } }, 2, by decide +kernel⟩,
   ⟨{ up with sec := { up.sec with lcFuse := 3, hasKey := true } }, 2, by decide +kernel⟩,
   ⟨up, 2, 0x13, by decide +kernel⟩,
   ⟨{ up with sec := { up.sec with hasKey := true }, boot := { up.boot with cert := [1, 2, 3], certKey := pubOf (dakOf up.lcState) } }, 2, by and_intros <;> first | (unfold State.slotFilled; rw [Bool.and_eq_true]; exact ⟨by decide +kernel, decide_eq_true rfl⟩) | decide +kernel⟩,
   ⟨{ up with sec := { up.sec with hasKey := false } }, 2, by decide +kernel⟩,
   ⟨up, 2, 0xFE, by decide +kernel⟩,
   ⟨{ up with sec := { up.sec with hasKey := true } }, 2, ecGx, ecGy, by decide +kernel⟩,
   ⟨{ up with sec := { up.sec with sessions := [(9, ({ secret := 5, established := true, updates := 3 } : Session))], scalars := [(11, 77)] } }, 2, 9, ({ secret := 5, established := true, updates := 3 } : Session), by decide +kernel⟩⟩

/-- The least image: a header of version 0 and one byte. -/
def leastImage : List Byte := List.replicate 8 0 ++ [1, 0, 0, 0] ++ List.replicate 245 0

set_option maxRecDepth 100000 in
/-- The hypotheses of the clauses of `ManagementTakesEffect` are met. -/
theorem witness_ManagementTakesEffect :
    (∃ (s : State) (tr : Nat), s.boot.mwUp = true ∧ s.pwr.pwrOk = true ∧ s.clk.asleep = false ∧ tr < 3 ∧ tr ≠ 0
        ∧ s.boot.bmcPriv = false)
    ∧ (∃ (s : State) (tr : Nat) (addr : _), s.boot.mwUp = true ∧ s.pwr.pwrOk = true ∧ s.clk.asleep = false ∧ tr < 3
        ∧ (tr = 0 ∨ s.boot.bmcPriv = true) ∧ addr % 4 = 0 ∧ 0x2000 ≤ addr ∧ addr < 0x3000)
    ∧ (∃ (s : State) (tr : Nat) (n : _), s.boot.mwUp = true ∧ s.pwr.pwrOk = true ∧ s.clk.asleep = false ∧ tr < 3
        ∧ (tr = 0 ∨ s.boot.bmcPriv = true) ∧ s.sec.svn < n ∧ n ≤ 64 ∧ (∀ i, i ∈ s.runningImages → n ≤ i.svn))
    ∧ (∃ (s : State) (tr : Nat) (n : _), s.boot.mwUp = true ∧ s.pwr.pwrOk = true ∧ s.clk.asleep = false ∧ tr < 3
        ∧ (tr = 0 ∨ s.boot.bmcPriv = true) ∧ ((n ≤ s.sec.svn ∨ ∃ i, i ∈ s.runningImages ∧ i.svn < n)))
    ∧ (∃ (s : State) (tr : Nat) (data : List Byte), s.boot.mwUp = true ∧ s.pwr.pwrOk = true ∧ s.clk.asleep = false
        ∧ tr < 3 ∧ (tr = 0 ∨ s.boot.bmcPriv = true) ∧ data.length = 64)
    ∧ (∃ (s : State) (tr : Nat) (addr : _), s.boot.mwUp = true ∧ s.pwr.pwrOk = true ∧ s.clk.asleep = false ∧ tr < 3
        ∧ addr % 4 = 0 ∧ (((0x2000 ≤ addr ∧ addr < 0x5000) ∨ (0x8000 ≤ addr ∧ addr < 0x9000))))
    ∧ (∃ (s : State) (tr : Nat) (n v : _), s.boot.mwUp = true ∧ s.pwr.pwrOk = true ∧ s.clk.asleep = false
        ∧ tr < 3 ∧ s.sensor n = some v)
    ∧ (∃ (s : State) (tr : Nat) (comps : _) (data : List Byte) (slot i : _), s.boot.mwUp = true
        ∧ s.pwr.pwrOk = true ∧ s.clk.asleep = false ∧ tr < 3 ∧ s.boot.bootFail = false
        ∧ (kindOf comps).bind s.freeSlot = some slot ∧ parseImage data = some i)
    ∧ (∃ (s : State) (tr : Nat) (i : _), s.boot.mwUp = true ∧ s.pwr.pwrOk = true ∧ s.clk.asleep = false ∧ tr < 3
        ∧ s.slotImage (1 - s.boot.mwSlot) = some i)
    ∧ (∃ (s : State) (tr : Nat) (c i : _), s.boot.mwUp = true ∧ s.pwr.pwrOk = true ∧ s.clk.asleep = false
        ∧ tr < 3 ∧ 2 ≤ c ∧ c ≤ 5 ∧ s.boot.activating = [] ∧ s.slotImage (s.nextSlot? c) = some i)
    ∧ (∃ (s : State) (tr : Nat), s.boot.bootFail = true ∧ tr < 3 ∧ s.resettable = true ∧ s.ras.fatal = false)
    ∧ (∃ (s : State), s.boot.mwUp = true ∧ s.resettable = true ∧ s.clk.asleep = false ∧ s.sec.lcTarget = none)
    ∧ (∃ (s : State), s.boot.mwUp = true ∧ s.resettable = true ∧ s.clk.asleep = false
        ∧ s.sec.lcTarget.isSome = true ∧ s.ras.fatal = false)
    ∧ (∃ (s : State) (i : Image), s.boot.mwUp = false ∧ 5 ≤ s.boot.stage ∧ s.resettable = true
        ∧ s.slotImage s.boot.mwActive = some i) :=
  ⟨⟨{ up with boot := { up.boot with bmcPriv := false } }, 2, by decide +kernel⟩,
   ⟨{ up with boot := { up.boot with bmcPriv := true } }, 2, 0x2FFC, by decide +kernel⟩,
   ⟨{ up with boot := { up.boot with slots := [(0, { imgA 1 with svn := 64 }), (1, imgA 1), (2, imgA 2), (3, imgA 2), (5, imgA 3)], bmcPriv := true, mwSlot := 0 } }, 0, 64, by decide +kernel⟩,
   ⟨{ up with boot := { up.boot with slots := [(0, { imgA 1 with svn := 64 }), (1, imgA 1), (2, imgA 2), (3, imgA 2), (5, imgA 3)], bmcPriv := true, mwSlot := 0 } }, 0, 65, by and_intros <;> first | exact Or.inr ⟨{ imgA 1 with svn := 64 }, by decide +kernel, by decide +kernel⟩ | decide +kernel⟩,
   ⟨up, 0, List.replicate 64 0xFF, by decide +kernel⟩,
   ⟨up, 2, 0x8FFC, by decide +kernel⟩,
   ⟨up, 2, 11, 1, by decide +kernel⟩,
   ⟨{ up with boot := { up.boot with slots := [(0, { imgA 1 with svn := 64 }), (1, imgA 1), (2, imgA 2), (3, imgA 2), (5, imgA 3)], mwSlot := 0 } }, 2, [1], leastImage, 1, (parseImage leastImage).getD (imgA 1), by and_intros <;> first | exact some_of_isSome _ (by decide +kernel) | decide +kernel⟩,
   ⟨{ up with boot := { up.boot with slots := [(0, { imgA 1 with svn := 64 }), (1, imgA 1), (2, imgA 2), (3, imgA 2), (5, imgA 3)], mwSlot := 0 } }, 2, imgA 1, by decide +kernel⟩,
   ⟨{ up with boot := { up.boot with slots := [(0, { imgA 1 with svn := 64 }), (1, imgA 1), (2, imgA 2), (3, imgA 2), (5, imgA 3)], newtActive := [0, 0, 0, 0] } }, 2, 5, imgA 2, by decide +kernel⟩,
   ⟨{ up with boot := { up.boot with slots := [(0, { imgA 1 with svn := 64 }), (1, imgA 1), (2, imgA 2), (3, imgA 2), (5, imgA 3)], bootFail := true } }, 2, by decide +kernel⟩,
   ⟨{ up with boot := { up.boot with slots := [(0, { imgA 1 with svn := 64 }), (1, imgA 1), (2, imgA 2), (3, imgA 2), (5, imgA 3)], expiries := [0, 1], mwSlot := 0 } }, by decide +kernel⟩,
   ⟨{ up with sec := { up.sec with lcTarget := some 1 } }, by decide +kernel⟩,
   ⟨{ up with boot := { up.boot with slots := [(0, { imgA 1 with svn := 64 }), (1, imgA 1), (2, imgA 2), (3, imgA 2), (5, imgA 3)], mwUp := false, stage := 5 } }, { imgA 1 with svn := 64 }, by decide +kernel⟩⟩

set_option maxRecDepth 100000 in
/-- The hypotheses of the clauses of `RegisterWritesTakeEffect` are met. -/
theorem witness_RegisterWritesTakeEffect :
    (∃ (s : State) (value : Nat), let f := s.host.instSel + 1
      let others := ((s.host.fns.filter (fun p => p.1 ≠ 0 && p.1 ≠ f)).map (fun p => p.2.ctxMax)).sum
      s.regsUp 0 = true ∧ s.host.setupLock = false ∧ others + bitsOf value 1 15 ≤ 16128 ∧ bitsOf value 16 7 ≤ 64
        ∧ (s.fn f).holdsRing = false)
    ∧ (∃ (s : State) (value : Nat), let f := s.host.instSel + 1
      let others := ((s.host.fns.filter (fun p => p.1 ≠ 0 && p.1 ≠ f)).map (fun p => p.2.ctxMax)).sum
      s.regsUp 0 = true ∧ 16128 < others + (if s.host.setupLock then (s.fn f).ctxMax else bitsOf value 1 15))
    ∧ (∃ (s : State) (d value : Nat), let others := (([0, 1, 2, 3].filter (· ≠ d)).map (fun k => (s.mem.spillWritten.get (0, 0) k).2)).sum
      s.regsUp 0 = true ∧ s.host.setupLock = false ∧ d < 4 ∧ bitsOf value 0 11 + bitsOf value 16 5 ≤ 1536
        ∧ others + bitsOf value 16 5 ≤ 16)
    ∧ (∃ (s : State) (d value : Nat), let others := (([0, 1, 2, 3].filter (· ≠ d)).map (fun k => (s.mem.spillWritten.get (0, 0) k).2)).sum
      s.regsUp 0 = true ∧ s.host.setupLock = false ∧ d < 4
        ∧ (1536 < bitsOf value 0 11 + bitsOf value 16 5 ∨ 16 < others + bitsOf value 16 5))
    ∧ (∃ (s : State) (fn off : Nat) (data : List Byte), s.regsUp fn = true
        ∧ off < (if fn = 0 then 0x40000 else 0x20000) ∧ data.length = 4 ∧ off % 4 = 0)
    ∧ (∃ (s : State) (fn off : Nat) (data : List Byte), s.regsUp fn = true
        ∧ off < (if fn = 0 then 0x40000 else 0x20000) ∧ data.length = 8 ∧ off % 8 = 0)
    ∧ (∃ (s : State) (fn off : Nat) (data : List Byte), s.regsUp fn = true
        ∧ off < (if fn = 0 then 0x40000 else 0x20000) ∧ ((data.length = 4 ∧ off % 4 ≠ 0) ∨ (data.length = 8
        ∧ off % 8 ≠ 0) ∨ (data.length ≠ 4 ∧ data.length ≠ 8)))
    ∧ (∃ (s : State) (fn off record : Nat) (data : List Byte) (t : _), s.regsUp fn = true
        ∧ off < (if fn = 0 then 0x40000 else 0x20000) ∧ exec (.registerWrite fn off data record) s = .next t
        ∧ s.host.setupLock = true)
    ∧ (∃ (s : State) (f i : Nat) (data : List Byte), s.regsUp f = true ∧ i < 16 ∧ data.length = 4)
    ∧ (∃ (s : State) (data : List Byte) (d : _), s.regsUp 0 = true ∧ data.length = 4 ∧ s.host.setupLock = true ∧ d < 4) :=
  ⟨⟨{ up with host := { up.host with instSel := 0 } }, 4226561, by dsimp only; decide +kernel⟩,
   ⟨{ up with host := { up.host with instSel := 0 } }, 32258, by dsimp only; decide +kernel⟩,
   ⟨up, 3, 1050096, by dsimp only; decide +kernel⟩,
   ⟨up, 3, 1050097, by dsimp only; decide +kernel⟩,
   ⟨up, 1, 0x1FFFC, [1, 2, 3, 4], by decide +kernel⟩,
   ⟨up, 0, 0x3FFF8, [1, 2, 3, 4, 5, 6, 7, 8], by decide +kernel⟩,
   ⟨up, 0, 0x3FFFC, [1, 2, 3, 4, 5, 6, 7, 8], by decide +kernel⟩,
   ⟨{ up with host := { up.host with setupLock := true } }, 0, 0x3FFFC, 0, [0, 0, 0, 0], outGet up (exec (.registerWrite 0 0x3FFFC [0, 0, 0, 0] 0) ({ up with host := { up.host with setupLock := true } })), ⟨by decide +kernel, by decide +kernel, out_ok (by decide +kernel), by decide +kernel⟩⟩,
   ⟨up, 0, 15, [0xFF, 0xFF, 0xFF, 0xFF], by decide +kernel⟩,
   ⟨{ up with host := { up.host with setupLock := true } }, [1, 1, 1, 1], 3, by decide +kernel⟩⟩

/-- The other case of `JumpsMoveEveryPondsBeats`: a time reply. -/
theorem witness_jump_by_reply : ∃ (s t : State) (t2 t3 : Nat), s.clk.tb < 2 ^ 95 ∧ s.parentSub < 64 ∧ t2 < 2 ^ 62 ∧ t3 < 2 ^ 62
    ∧ 1000 < (((t2 : Int) - s.fab.t1) - ((s.ns : Int) - t3)) / 2 ∧ exec (.timeReply t2 t3) s = .next t :=
  ⟨{ fabUp with fab := { fabUp.fab with t1 := 4998000 } }, outGet up (exec (.timeReply 5001001 5001001)
    { fabUp with fab := { fabUp.fab with t1 := 4998000 } }), 5001001, 5001001, by and_intros <;> first | exact out_ok (by decide +kernel) | decide +kernel⟩

set_option maxRecDepth 100000 in
/-- The hypotheses of the clauses of `JumpsMoveEveryPondsBeats` are met. -/
theorem witness_JumpsMoveEveryPondsBeats :
    (∃ (s t : State) (h p b : _), s.clk.tb < 2 ^ 95
        ∧ (((∃ hi, s.ns ≤ s.clk.setLo.toNat + hi % 2 ^ 32 * 2 ^ 32 ∧ (s.fab.timeRoot = true ∨ s.fab.join ≠ .joined)
        ∧ exec (.timeSet hi) s = .next t) ∨ (∃ t2 t3 : Nat, s.parentSub < 64 ∧ t2 < 2 ^ 62 ∧ t3 < 2 ^ 62
        ∧ 1000 < (((t2 : Int) - s.fab.t1) - ((s.ns : Int) - t3)) / 2 ∧ exec (.timeReply t2 t3) s = .next t)))
        ∧ s.mem.ponds.at? h = some p ∧ p.beats = some b) :=
  ⟨pondUp (fun p => { p with beats := some (beatA false) }) (up), outGet up (exec (.timeSet 1) (pondUp (fun p => { p with beats := some (beatA false) }) (up))), 1, { pondA with beats := some (beatA false) }, beatA false, ⟨by decide +kernel, (Or.inl ⟨1, by decide +kernel, by decide +kernel, out_ok (by decide +kernel)⟩), by decide +kernel, by decide +kernel⟩⟩

set_option maxRecDepth 100000 in
/-- The hypotheses of the clauses of `SvnCommitBlowsFusesOrRefuses` are met. -/
theorem witness_SvnCommitBlowsFusesOrRefuses :
    (∃ (s : State) (n : Nat), s.boot.mwUp = true ∧ s.pwr.pwrOk = true ∧ s.clk.asleep = false ∧ n ≤ 64) :=
  ⟨up, 64, by decide +kernel⟩

set_option maxRecDepth 100000 in
/-- The hypotheses of the clauses of `EveryStepKeepsTheMemoriesCanonical` are met. -/
theorem witness_EveryStepKeepsTheMemoriesCanonical :
    (∃ (s t : State), s.memWf = true ∧ step s = .next t) :=
  ⟨up, outGet up (step up), ⟨by decide +kernel, out_ok (by decide +kernel)⟩⟩

end Sys2Proof.Tests
end

section
/-! The proof of O56. A forward jump of the timebase by `o` ns is one relation between two states, `JumpedBy`: the time is
`o` later, and so are the times that the beats of every pond hold. `State.jump` makes two states stand in that relation,
what TIME_SET and TIME_REPLY do around it keeps them there, and R338 is read off the relation. -/

namespace Sys2Proof.Machine

/-- The clock after a forward jump by `o` ns (R598). -/
def ClockPart.jumpedBy (o : Nat) (c : ClockPart) : ClockPart :=
  { c with tb := (c.tb + o * 2 ^ 32) % 2 ^ 96, slew := 0, jumps := (c.jumps + 1) % 65536 }

/-- A pond's beats after a forward jump by `o` ns (R338): every time they hold is `o` later, the start of a beat in
progress and the `t0` of settings that wait included. -/
def Beats.jumpedBy (o : Nat) (b : Beats) : Beats :=
  { b with
    t0 := b.t0 + o, grid := b.grid + o, start := if b.running then b.start + o else b.start
    next := b.next.map (fun x => (x.1, x.2.1, x.2.2.1, x.2.2.2.1 + o, x.2.2.2.2)) }

/-- A pond after a forward jump by `o` ns: its beats, if it has any, move, and nothing else does. -/
def Pond.jumpedBy (o : Nat) (p : Pond) : Pond := { p with beats := p.beats.map (Beats.jumpedBy o) }

/-- The timebase and the ponds of `t` are those of `s` after a forward jump by `o` ns (R338, R598). -/
structure JumpedBy (o : Nat) (s t : State) : Prop where
  ns : t.ns = s.ns + o
  pond : ∀ h, t.mem.ponds.at? h = (s.mem.ponds.at? h).map (Pond.jumpedBy o)

/-- A table whose values are all changed by `f` reads the changed values. -/
theorem at?_mapValues {α : Type} (f : α → α) (t : Tab α) (k : Nat) :
    Tab.at? (t.map (fun p => (p.1, f p.2))) k = (t.at? k).map f := by
  induction t with
  | nil => rfl
  | cons p t ih =>
    obtain ⟨a, v⟩ := p
    rw [List.map_cons, Tab.at?_cons, Tab.at?_cons, ih]
    split <;> rfl

theorem State.ns_eq_div (s : State) : s.ns = s.clk.tb / 2 ^ 32 := by
  rw [State.ns, Nat.shiftRight_eq_div_pow]

theorem State.ns_eq_of_tb_eq {s t : State} (h : t.clk.tb = s.clk.tb) : t.ns = s.ns := by
  rw [State.ns, State.ns, h]

theorem State.ns_eq_of_apart {s t : State} (h : Apart s t) : t.ns = s.ns :=
  State.ns_eq_of_tb_eq (by rw [h.clk])

theorem State.setClk_ns (s : State) {f : ClockPart → ClockPart} (hf : ∀ c, (f c).tb = c.tb) : (s.setClk f).ns = s.ns :=
  State.ns_eq_of_tb_eq (hf s.clk)

/-- The timebase has 64 bits of whole nanoseconds; a jump that does not carry out of them adds exactly `o`. -/
theorem State.jump_ns {s : State} {o : Nat} (hfit : s.ns + o < 2 ^ 64) : (s.jump o).ns = s.ns + o := by
  have htb : (s.jump o).clk.tb = (s.clk.tb + o * 2 ^ 32) % 2 ^ 96 := rfl
  rw [State.ns_eq_div] at hfit ⊢
  rw [htb, Nat.mod_eq_of_lt (by omega), Nat.add_mul_div_right _ _ (by decide), State.ns_eq_div]

/-- Stated over the state with the jumped clock first: asked to compare that state with `s`, the kernel would evaluate
the clock's modulus. -/
theorem State.jump_ponds (s : State) (o : Nat) :
    (s.jump o).mem.ponds = s.mem.ponds.map (fun p => (p.1, p.2.jumpedBy o)) := by
  have h : (s.jump o).mem.ponds =
      (s.setClk (ClockPart.jumpedBy o)).mem.ponds.map (fun p => (p.1, p.2.jumpedBy o)) := rfl
  rw [h, State.setClk_mem]

section

variable {o : Nat} {s t u : State}

/-- A jump from a state with the time and the memory of `s`. -/
theorem jumpedBy_jump (hns : u.ns = s.ns) (hmem : u.mem = s.mem) (hfit : s.ns + o < 2 ^ 64) : JumpedBy o s (u.jump o) where
  ns := by rw [State.jump_ns (by rwa [hns]), hns]
  pond h := by rw [State.jump_ponds, at?_mapValues, hmem]

/-- What changes neither the time nor the memory may follow a jump. -/
theorem JumpedBy.congr_right (hj : JumpedBy o s t) (hns : u.ns = t.ns) (hmem : u.mem = t.mem) : JumpedBy o s u where
  ns := hns.trans hj.ns
  pond h := by rw [hmem, hj.pond]

theorem JumpedBy.ite {c : Prop} [Decidable c] (ht : JumpedBy o s t) (hu : JumpedBy o s u) :
    JumpedBy o s (if c then t else u) := by
  split
  · exact ht
  · exact hu

theorem JumpedBy.setClk (hj : JumpedBy o s t) {f : ClockPart → ClockPart} (hf : ∀ c, (f c).tb = c.tb) :
    JumpedBy o s (t.setClk f) :=
  hj.congr_right (t.setClk_ns hf) (t.setClk_mem f)

theorem JumpedBy.setTally (hj : JumpedBy o s t) (f : TallyPart → TallyPart) : JumpedBy o s (t.setTally f) :=
  hj.congr_right (State.ns_eq_of_tb_eq (by rw [t.setTally_clk f])) (t.setTally_mem f)

theorem JumpedBy.postTime (hj : JumpedBy o s t) (jump : Nat) : JumpedBy o s (t.postTime jump) :=
  hj.congr_right (State.ns_eq_of_apart (apart_post ..)) (apart_post ..).mem

/-- The clock's source or flag may change after a jump, with its event TIME_STATUS (R609). -/
theorem JumpedBy.changeClock (hj : JumpedBy o s t) {f : ClockPart → ClockPart} (hf : ∀ c, (f c).tb = c.tb) :
    JumpedBy o s (t.changeClock f) := by
  have hset := JumpedBy.ite (c := (t.clk.uncertain && !(t.setClk f).clk.uncertain) = true)
    ((hj.setClk hf).setTally (fun w => { w with uncertainTo := t.ns })) (hj.setClk hf)
  exact .ite hset (hset.postTime 0)

/-- R338: a jump moves the beats of every pond that has them with the time, so no part of it is lag. -/
theorem JumpedBy.beats (hj : JumpedBy o s t) : s.ns ≤ t.ns ∧
    ∀ h p b, s.mem.ponds.at? h = some p → p.beats = some b →
      ∃ q c, t.mem.ponds.at? h = some q ∧ q.beats = some c ∧ c.t0 = b.t0 + (t.ns - s.ns)
        ∧ (t.ns : Int) - c.grid = (s.ns : Int) - b.grid ∧ c.lag = b.lag ∧ c.number = b.number := by
  have hns := hj.ns
  refine ⟨by omega, fun h p b hp hb => ⟨p.jumpedBy o, b.jumpedBy o, ?_, ?_, ?_, ?_, rfl, rfl⟩⟩
  · rw [hj.pond, hp, Option.map_some]
  · rw [Pond.jumpedBy, hb, Option.map_some]
  · simp only [Beats.jumpedBy]; omega
  · simp only [Beats.jumpedBy]; omega

end

/-- R597, R599: GSET_TIME_SET_HI, written where it may be with a time not yet past, jumps the timebase forward to that time. -/
theorem jumpedBy_of_timeSet {s t : State} {hi : Nat} (hfwd : s.ns ≤ s.clk.setLo.toNat + hi % 2 ^ 32 * 2 ^ 32)
    (hmay : s.fab.timeRoot = true ∨ s.fab.join ≠ .joined) (hexec : exec (.timeSet hi) s = .next t) :
    JumpedBy (s.clk.setLo.toNat + hi % 2 ^ 32 * 2 ^ 32 - s.ns) s t := by
  have hlo := s.clk.setLo.isLt
  have hjump : JumpedBy (s.clk.setLo.toNat + hi % 2 ^ 32 * 2 ^ 32 - s.ns) s _ := jumpedBy_jump rfl rfl (by omega)
  have hguard : (decide (s.clk.setLo.toNat + hi % 2 ^ 32 * 2 ^ 32 < s.ns)
      || !(s.fab.timeRoot || decide (s.fab.join ≠ .joined))) = false := by
    rw [decide_eq_false (Nat.not_lt.2 hfwd)]
    simpa [or_iff_not_imp_left] using hmay
  replace hexec : execTimeSet hi s = .next t := hexec
  simp only [execTimeSet, hguard, Bool.false_eq_true, if_false, Host.Outcome.next.injEq] at hexec
  subst hexec
  have hclear := hjump.setClk (f := fun c => { c with uncertain := false }) fun _ => rfl
  exact .ite (.postTime (.ite (hclear.setTally _) hjump) _) (.ite (hclear.setTally _) hjump)

/-- R598: a time reply that measures an offset above 1,000 ns jumps the timebase forward by the offset. An offset forward
means that the device is behind the parent's times, which therefore bound its own. -/
theorem jumpedBy_of_timeReply {s t : State} {t2 t3 : Nat} (hparent : s.parentSub < 64)
    (ht2 : t2 < 2 ^ 62) (ht3 : t3 < 2 ^ 62) (hbig : 1000 < (((t2 : Int) - s.fab.t1) - ((s.ns : Int) - t3)) / 2)
    (hexec : exec (.timeReply t2 t3) s = .next t) :
    JumpedBy ((((t2 : Int) - s.fab.t1) - ((s.ns : Int) - t3)) / 2).toNat s t := by
  have hfit : s.ns + ((((t2 : Int) - s.fab.t1) - ((s.ns : Int) - t3)) / 2).toNat < 2 ^ 64 := by omega
  have hjump := fun (f : ClockPart → ClockPart) (hf : ∀ c, (f c).tb = c.tb) =>
    jumpedBy_jump ((s.takeFree.2.setClk_ns hf).trans (State.ns_eq_of_tb_eq (by rw [s.takeFree_clk])))
      ((s.takeFree.2.setClk_mem f).trans s.takeFree_mem) hfit
  replace hexec : execTimeReply t2 t3 s = .next t := hexec
  simp only [execTimeReply, Nat.not_le.2 hparent, if_false, hbig, if_true, Host.Outcome.next.injEq] at hexec
  subst hexec
  refine .postTime ?_ _
  refine .ite (.changeClock ?_ ?_) ?_
  · exact hjump _ fun _ => rfl
  · exact fun _ => rfl
  · exact hjump _ fun _ => rfl

/-- Settles O56: both ways of jumping forward stand in `JumpedBy`, from which R338 is read off. -/
theorem jumpsMoveEveryPondsBeats : Obligations.JumpsMoveEveryPondsBeats := by
  rintro s t - (⟨hi, hfwd, hmay, hexec⟩ | ⟨t2, t3, hparent, ht2, ht3, hbig, hexec⟩)
  · exact (jumpedBy_of_timeSet hfwd hmay hexec).beats
  · exact (jumpedBy_of_timeReply hparent ht2 ht3 hbig hexec).beats

end Sys2Proof.Machine
end

section
/-! The proof of O57. From PCIe the request reaches its body, which has one guard: R633's two conditions, within the 64 steps
of the fuse. Where it holds, the fused SVN becomes the target, and a slot boots no image whose svn is below the fused SVN;
where it fails, the device answers and nothing else happens. -/

namespace Sys2Proof.Machine

theorem State.reply_sec (s : State) (message : Nat) (code : Resp) (data : List Byte) :
    (s.reply message code data).sec = s.sec := rfl

theorem State.reply_replies (s : State) (message : Nat) (code : Resp) (data : List Byte) :
    (s.reply message code data).boot.replies = s.boot.replies ++ [{ message := message, code := code, data := data }] := rfl

theorem State.reply_slots (s : State) (message : Nat) (code : Resp) (data : List Byte) :
    (s.reply message code data).boot.slots = s.boot.slots := rfl

/-- R584: a slot whose image has an svn below the fused SVN boots nothing. -/
theorem State.slotImage_eq_none_of_svn_lt {s : State} {slot : Nat} {i : Image} (hslot : s.boot.slots.at? slot = some i)
    (hlt : i.svn < s.sec.svn) : s.slotImage slot = none := by
  have hrefused : s.accepts (slotKind slot) i = false := by
    simp [State.accepts, decide_eq_false (Nat.not_le.2 hlt)]
  rw [State.slotImage, hslot, Option.filter_some, hrefused]
  rfl

/-- R627: a request over PCIe from the physical function has every privilege. -/
theorem State.request_pcie {s : State} (hup : s.boot.mwUp = true) (hpwr : s.pwr.pwrOk = true)
    (hawake : s.clk.asleep = false) (message : Nat) (priv : Bool) (body : State → State) :
    s.request 0 message priv body = .next (body s) := by
  simp [State.request, hup, hpwr, hawake]

/-- The state once the fuses are blown up to `n` (R633), with the event SVN_COMMITTED, before the response. -/
def State.blownTo (s : State) (n : Nat) : State :=
  (s.setSec (fun k => { k with svn := n })).post 0 Event.svnCommitted n

theorem State.blownTo_svn (s : State) (n : Nat) : (s.blownTo n).sec.svn = n := by
  rw [State.blownTo, (apart_post ..).sec]
  rfl

theorem State.blownTo_boot (s : State) (n : Nat) : (s.blownTo n).boot = s.boot := by
  rw [State.blownTo, (apart_post ..).boot, State.setSec_boot]

/-- R633: the slots whose image has an svn below `n`, as the response of SVN_COMMIT names them. -/
def State.slotsBelow (s : State) (n : Nat) : List Byte :=
  (s.boot.slots.filter (fun p => p.2.svn < n)).map (fun p => BitVec.ofNat 8 p.1)

/-- Once the fuses are blown and the response is sent, a slot whose image has an svn below `n` boots nothing. -/
theorem State.blownTo_reply_slotImage {s : State} {n slot : Nat} {i : Image} (hslot : s.boot.slots.at? slot = some i)
    (hlt : i.svn < n) (message : Nat) (code : Resp) (data : List Byte) :
    ((s.blownTo n).reply message code data).slotImage slot = none := by
  refine State.slotImage_eq_none_of_svn_lt (i := i) ?_ ?_
  · rwa [State.reply_slots, State.blownTo_boot]
  · rwa [State.reply_sec, State.blownTo_svn]

/-- What SVN_COMMIT does over PCIe, both ways. Log: 95 (DEDUCED) for targets beyond 64, which the bound leaves out. -/
theorem exec_svnCommit_pcie {s : State} {n : Nat} (hup : s.boot.mwUp = true) (hpwr : s.pwr.pwrOk = true)
    (hawake : s.clk.asleep = false) (hn : n ≤ 64) : exec (.svnCommit 0 n) s = .next
    (if s.sec.svn < n ∧ ∀ i ∈ s.runningImages, n ≤ i.svn then (s.blownTo n).reply 7 .ok (s.slotsBelow n)
      else s.reply 7 .badRequest []) := by
  have hexec : exec (.svnCommit 0 n) s = execSvnCommit 0 n s := rfl
  rw [hexec, execSvnCommit, State.request_pcie hup hpwr hawake]
  refine congrArg Host.Outcome.next (if_congr ?_ rfl rfl)
  simp [hn]

/-- Settles O57: the guard of SVN_COMMIT is R633's two conditions, and each clause reads one of its branches. -/
theorem svnCommitBlowsFusesOrRefuses : Obligations.SvnCommitBlowsFusesOrRefuses := by
  intro s n hup hpwr hawake hn
  have hexec := exec_svnCommit_pcie hup hpwr hawake hn
  by_cases hmay : s.sec.svn < n ∧ ∀ i ∈ s.runningImages, n ≤ i.svn
  · rw [if_pos hmay] at hexec
    refine ⟨_, { message := 7, code := .ok, data := s.slotsBelow n }, hexec, ?_, rfl, fun _ => ⟨rfl, ?_, rfl, ?_⟩,
      absurd hmay⟩
    · rw [State.reply_replies, State.blownTo_boot]
    · rw [State.reply_sec, State.blownTo_svn]
    · exact fun slot i hslot hlt => State.blownTo_reply_slotImage hslot hlt ..
  · rw [if_neg hmay] at hexec
    exact ⟨_, _, hexec, State.reply_replies .., rfl, fun h => absurd h hmay, fun _ => ⟨rfl, rfl, State.reply_sec ..⟩⟩

end Sys2Proof.Machine
end

section
/-! What every command does to the queue and to the byte memories. `Keeps` of Laws/Ops is followed through every operation
of the model, one lemma for each, in the order of their definitions: an operation that updates other parts of the state
keeps them as they are, and one that writes memory writes it by the operations that keep its canonical form. -/

namespace Sys2Proof.Machine

/-- The command answers a next state, with the queue as it was and the memories canonical if they were. -/
def Answers (s : State) (o : Out) : Prop := ∃ t, o = .next t ∧ Keeps s t

/-- The states a write can end in are kept from `s`. -/
def Wrote.Kept (s : State) : Wrote → Prop
  | .ok t | .bad t _ _ => Keeps s t
  | .stall => True

/-- The states an access of another device can end in are kept from `s`. -/
def Served.Kept (s : State) : Served → Prop
  | .ok t _ _ | .refused t => Keeps s t
  | .stall => True

/-- The state a Vane instruction can leave is kept from `s`. -/
def VaneRes.Kept (s : State) : VaneRes → Prop
  | .ok t _ => Keeps s t
  | _ => True

/-- The state an operation may give is kept from `s`. -/
def KeptSome (s : State) : Option State → Prop
  | some t => Keeps s t
  | none => True

section

variable {s t u : State} {c : Prop} [Decidable c]

theorem Keeps.after (h : Keeps t u) (k : Keeps s t) : Keeps s u := k.trans h

theorem Keeps.ite (ht : Keeps s t) (hu : Keeps s u) : Keeps s (if c then t else u) := by
  split <;> assumption

/-- Where each memory stays canonical and the queue stands. -/
theorem Keeps.of_wf (hp : t.pending = s.pending) (hh : s.mem.hbm.wf = true → t.mem.hbm.wf = true)
    (hs : s.mem.sram.wf = true → t.mem.sram.wf = true)
      (hg : s.mem.prog.wf = true → t.mem.prog.wf = true) : Keeps s t where
  pending := hp
  memWf h := by
    rw [State.memWf_iff] at h ⊢
    exact ⟨hh h.1, hs h.2.1, hg h.2.2⟩

section Update

variable {host : HostPart} {work : WorkPart} {xlat : XlatPart} {eng : EnginePart} {ras : RasPart} {clk : ClockPart}
  {fab : FabricPart} {weir : WeirPart} {pwr : PowerPart} {tally : TallyPart} {sec : SecPart} {boot : BootPart}

/-- An update of parts of the state other than memory and the queue. -/
theorem Keeps.update (h : Keeps s t) :
    Keeps s ⟨t.pending, host, t.mem, work, xlat, eng, ras, clk, fab, weir, pwr, tally, sec, boot⟩ :=
  h.trans (.of_eq rfl rfl rfl rfl)

/-- An update of parts of the state, and of memory other than the three byte memories. -/
theorem Keeps.updateMem (h : Keeps s t) {poison sramPoison progPoison : List Nat} {loft : List LoftLine} {loftClock : Nat}
    {snoop : List SnoopEntry} {stageWays stageWritten remoteMask : Tab Nat} {spill spillWritten : Tab (Nat × Nat)}
    {remap : Tab Plot} {ponds : Tab Pond} {fences : List Nat} {seamReplays : Tab Nat} {order : Nat} :
    Keeps s ⟨t.pending, host, ⟨t.mem.hbm, t.mem.sram, t.mem.prog, poison, sramPoison, progPoison, loft, loftClock, snoop,
      stageWays, stageWritten, remoteMask, spill, spillWritten, remap, ponds, fences, seamReplays, order⟩, work, xlat, eng,
      ras, clk, fab, weir, pwr, tally, sec, boot⟩ :=
  h.trans (.of_eq rfl rfl rfl rfl)

end Update

theorem Keeps.fold {β : Type} {g : State → β → State} {l : List β} (hg : ∀ s b, Keeps s (g s b)) : Keeps s
    (l.foldl g s) :=
  .foldl hg l s

/-- A fold over values that hold a state. -/
theorem Keeps.fold_on {α β : Type} (st : α → State) {g : α → β → α} {l : List β} {x : α}
    (hg : ∀ x b, Keeps (st x) (st (g x b))) (h : Keeps s (st x)) : Keeps s (st (l.foldl g x)) := by
  induction l generalizing x with
  | nil => exact h
  | cons b l ih => exact ih (h.trans (hg x b))

theorem Answers.next (h : Keeps s t) : Answers s (.next t) := ⟨t, rfl, h⟩

theorem Answers.of_next {o : Out} (h : Answers s o) (e : o = .next t) : Keeps s t := by
  obtain ⟨u, hu, hk⟩ := h
  rw [hu, Host.Outcome.next.injEq] at e
  exact e ▸ hk

theorem Answers.of_keeps {o : Out} (h : Answers t o) (k : Keeps s t) : Answers s o :=
  let ⟨u, hu, hk⟩ := h
  ⟨u, hu, k.trans hk⟩

theorem Answers.ite {o p : Out} (ho : Answers s o) (hp : Answers s p) : Answers s (if c then o else p) := by
  split <;> assumption

theorem Wrote.Kept.ok (h : Keeps s t) : Wrote.Kept s (.ok t) := h

theorem Wrote.Kept.bad {st d : Nat} (h : Keeps s t) : Wrote.Kept s (.bad t st d) := h

theorem Wrote.Kept.stall : Wrote.Kept s .stall := trivial

theorem Wrote.Kept.of_ok {w : Wrote} (h : w.Kept s) (e : w = .ok t) : Keeps s t := by subst e; exact h

theorem Wrote.Kept.of_bad {w : Wrote} {st d : Nat} (h : w.Kept s) (e : w = .bad t st d) : Keeps s t := by subst e; exact h

theorem Wrote.Kept.of_keeps {w : Wrote} (h : w.Kept t) (k : Keeps s t) : w.Kept s := by
  cases w with
  | ok u => exact k.trans h
  | bad u st d => exact k.trans h
  | stall => trivial

theorem Wrote.Kept.ite {v w : Wrote} (hv : v.Kept s) (hw : w.Kept s) : Wrote.Kept s (if c then v else w) := by
  split <;> assumption

theorem Served.Kept.ok {b : List Byte} {p : Bool} (h : Keeps s t) : Served.Kept s (.ok t b p) := h

theorem Served.Kept.refused (h : Keeps s t) : Served.Kept s (.refused t) := h

theorem Served.Kept.stall : Served.Kept s .stall := trivial

theorem Served.Kept.of_ok {w : Served} {b : List Byte} {p : Bool} (h : w.Kept s) (e : w = .ok t b p) : Keeps s t := by
  subst e; exact h

theorem Served.Kept.of_refused {w : Served} (h : w.Kept s) (e : w = .refused t) : Keeps s t := by subst e; exact h

theorem Served.Kept.of_keeps {w : Served} (h : w.Kept t) (k : Keeps s t) : w.Kept s := by
  cases w with
  | ok u b p => exact k.trans h
  | refused u => exact k.trans h
  | stall => trivial

theorem Served.Kept.ite {v w : Served} (hv : v.Kept s) (hw : w.Kept s) : Served.Kept s (if c then v else w) := by
  split <;> assumption

theorem VaneRes.Kept.ok {run : VaneRun} (h : Keeps s t) : VaneRes.Kept s (.ok t run) := h

theorem KeptSome.none : KeptSome s none := trivial

theorem KeptSome.some (h : Keeps s t) : KeptSome s (some t) := h

theorem KeptSome.of_some {o : Option State} (h : KeptSome s o) (e : o = Option.some t) : Keeps s t := by subst e; exact h

theorem KeptSome.of_keeps {o : Option State} (h : KeptSome t o) (k : Keeps s t) : KeptSome s o := by
  cases o with
  | none => trivial
  | some u => exact k.trans h

end

theorem keeps_noteTurn (s : State) (f sq : Nat) (q : SubmissionQueue) : Keeps s (s.noteTurn f sq q) := by
  unfold State.noteTurn
  exact .update (.refl _)

theorem keeps_modPond (s : State) (p : Nat) (g : Pond → Pond) : Keeps s (s.modPond p g) := by
  unfold State.modPond
  exact .updateMem (.refl _)

theorem keeps_stepFetched (s : State) (pond id : Nat) (drop : Bool) : Keeps s (s.stepFetched pond id drop) := by
  unfold State.stepFetched
  exact .after (keeps_modPond ..) (.updateMem (.refl _))

theorem keeps_noteCtxWork (s : State) (c : Nat) : Keeps s (s.noteCtxWork c) := by
  unfold State.noteCtxWork
  exact .update (apart_modCtx ..).keeps

theorem keeps_refreshBoard (s : State) : Keeps s s.refreshBoard := by
  unfold State.refreshBoard
  exact .update (.refl _)

theorem keeps_withOps (s : State) (t : Tab Op) : Keeps s (s.withOps t) := by
  unfold State.withOps
  exact .update (.refl _)

theorem keeps_formAborts (s : State) (f d status : Nat) : Keeps s (s.formAborts f d status) := by
  unfold State.formAborts
  exact .ite (.ite (.refl _) (apart_abortSluice ..).keeps) (.refl _)

theorem keeps_stampReady (s : State) (pond : Nat) : Keeps s (s.stampReady pond) := by
  unfold State.stampReady
  exact .fold (fun _ _ => .ite (.updateMem (apart_modCtx ..).keeps) (.refl _))

theorem keeps_scrubTile (s : State) (t : Nat) : Keeps s (s.scrubTile t) :=
  .of_wf rfl id (Memory.wf_clear _ _) (Memory.wf_clear _ _)

theorem keeps_scrubTiles (s : State) (ts : List Nat) : Keeps s (s.scrubTiles ts) := by
  unfold State.scrubTiles
  exact .fold (fun _ _ => keeps_scrubTile ..)

theorem keeps_claim (s : State) (pond c : Nat) : Keeps s (s.claim pond c) := by
  unfold State.claim
  split
  · exact .refl _
  · exact .ite (keeps_modPond ..) (.after (keeps_modPond ..) (keeps_scrubTiles ..))

theorem keeps_schedule (s : State) (pond : Nat) : Keeps s (s.schedule pond) := by
  unfold State.schedule
  dsimp only
  split
  · exact keeps_stampReady ..
  · refine .ite (keeps_stampReady ..) ?_
    split
    · exact keeps_stampReady ..
    · refine .ite (.after (keeps_claim ..) (keeps_stampReady ..)) ?_
      exact .ite (.after (keeps_modPond ..) (keeps_stampReady ..)) (keeps_stampReady ..)

theorem answers_descriptorFetch (s : State) (f sq d : Nat) : Answers s (execDescriptorFetch f sq d s) := by
  unfold execDescriptorFetch
  split
  · exact .next (.refl _)
  · refine .ite (.next (.refl _)) ?_
    refine .next ?_
    refine .after (keeps_schedule ..) ?_
    split
    · refine .after (.after (apart_decide ..).keeps (.after (keeps_formAborts ..) (keeps_noteCtxWork ..))) ?_
      refine .ite ?_ ?_
      · refine .after (keeps_stepFetched ..) (.update ?_)
        split
        · exact .after (apart_setCq ..).keeps (.after (apart_setSq ..).keeps (keeps_noteTurn ..))
        · exact .after (apart_setSq ..).keeps (keeps_noteTurn ..)
      · refine .update ?_
        split
        · exact .after (apart_setCq ..).keeps (.after (apart_setSq ..).keeps (keeps_noteTurn ..))
        · exact .after (apart_setSq ..).keeps (keeps_noteTurn ..)
    · refine .after (.after (apart_checkWait ..).keeps (keeps_noteCtxWork ..)) ?_
      refine .ite ?_ ?_
      · refine .after (keeps_stepFetched ..) (.update ?_)
        split
        · exact .after (apart_setCq ..).keeps (.after (apart_setSq ..).keeps (keeps_noteTurn ..))
        · exact .after (apart_setSq ..).keeps (keeps_noteTurn ..)
      · refine .update ?_
        split
        · exact .after (apart_setCq ..).keeps (.after (apart_setSq ..).keeps (keeps_noteTurn ..))
        · exact .after (apart_setSq ..).keeps (keeps_noteTurn ..)

theorem keeps_readDoorbell (s : State) (f sq word : Nat) : Keeps s (s.readDoorbell f sq word) := by
  unfold State.readDoorbell
  split
  · exact .refl _
  · refine .ite (.refl _) ?_
    refine .ite (.after (keeps_noteCtxWork ..) (apart_setSq ..).keeps) ?_
    exact .after (apart_post ..).keeps (apart_setSq ..).keeps

theorem keeps_readLine (s : State) (line data : Nat) : Keeps s (s.readLine line data) := by
  unfold State.readLine
  exact .fold (fun _ _ => keeps_readDoorbell ..)

theorem answers_doorbellSnoop (s : State) (line data : Nat) : Answers s (execDoorbellSnoop line data s) := by
  unfold execDoorbellSnoop
  split
  · exact .ite (.next (keeps_readLine ..)) (.next (.refl _))
  · exact .next (.refl _)

theorem answers_doorbellPoll (s : State) (line data : Nat) : Answers s (execDoorbellPoll line data s) := by
  unfold execDoorbellPoll
  split
  · exact .ite (.next (.refl _)) (.next (.after (keeps_readLine ..) (.update (.refl _))))
  · exact .next (.refl _)

theorem answers_cqRoomPoll (s : State) (f cq word : Nat) : Answers s (execCqRoomPoll f cq word s) := by
  unfold execCqRoomPoll
  split
  · exact .next (.refl _)
  · refine .ite (.next (.refl _)) ?_
    refine .ite (.next (apart_setCq ..).keeps) ?_
    exact .next (.ite (apart_setCq ..).keeps (.after (apart_post ..).keeps (apart_setCq ..).keeps))

theorem answers_cqStalled (s : State) (f cq : Nat) : Answers s (execCqStalled f cq s) := by
  unfold execCqStalled
  split
  · exact .next (.refl _)
  · exact .ite (.next (.refl _)) (.next (.after (apart_post ..).keeps (apart_setCq ..).keeps))

theorem answers_eqHeadPoll (s : State) (f word : Nat) : Answers s (execEqHeadPoll f word s) := by
  unfold execEqHeadPoll
  split
  · exact .next (.refl _)
  · refine .ite (.next (.refl _)) ?_
    refine .ite ?_ ?_
    · refine .ite (.next (.after (apart_writeEvent ..).keeps (apart_setFn ..).keeps)) ?_
      exact .next (apart_setFn ..).keeps
    · exact .next (.ite (apart_setFn ..).keeps (.after (apart_post ..).keeps (apart_setFn ..).keeps))

theorem keeps_loftTouch (s : State) (off : Nat) (hint : Hint) (mask : Nat) (write : Bool) :
    Keeps s (s.loftTouch off hint mask write) := by
  unfold State.loftTouch
  split
  · exact .refl _
  · refine .ite (.updateMem (.refl _)) ?_
    exact .ite (.refl _) (.after (.fold (fun _ _ => keeps_noteMoving ..)) (.updateMem (.refl _)))

theorem kept_signal (s : State) (id : Nat) (o : Op) : KeptSome s ((s.signal id o).map (·.1)) := by
  unfold State.signal
  dsimp only
  split
  · exact .some (.refl _)
  · split
    · exact .none
    · split <;> exact .some (.ite (apart_markLost ..).keeps (.refl _))
    · exact .some ((keeps_landWrite ..).trans ((keeps_loftTouch ..).trans (apart_recheckWaiters ..).keeps))

theorem keeps_sluiceCompletion (s : State) (o : Op) : Keeps s (s.sluiceCompletion o) := by
  unfold State.sluiceCompletion
  exact .ite (.refl _) (.ite (apart_modSluice ..).keeps (.ite (apart_modSluice ..).keeps (.refl _)))

theorem keeps_releaseLost (s : State) (c : Nat) : Keeps s (s.releaseLost c) := by
  unfold State.releaseLost
  exact .ite (.refl _) (.updateMem (.refl _))

theorem keeps_afterCompletion (s : State) (id : Nat) (o : Op) (status : Nat) :
    Keeps s (s.afterCompletion id o status) := by
  unfold State.afterCompletion
  refine .after (keeps_releaseLost ..) ?_
  split
  · refine .ite ?_ ?_
    · exact .after (apart_post ..).keeps (.after (apart_modCtx ..).keeps (keeps_sluiceCompletion ..))
    · exact keeps_sluiceCompletion ..
  · exact keeps_sluiceCompletion ..

theorem keeps_signalAborts (s : State) (o : Op) (status : Nat) : Keeps s (s.signalAborts o status) := by
  unfold State.signalAborts
  exact .ite (apart_abortSluice ..).keeps (.refl _)

theorem answers_opComplete (s : State) (op : Nat) : Answers s (execOpComplete op s) := by
  unfold execOpComplete
  split
  · exact .next (.refl _)
  · refine .ite (.next (.refl _)) ?_
    split
    · exact .next (.refl _)
    · next s1 st det heq =>
      have hsignal : Keeps s s1 := (keeps_withOps ..).trans (KeptSome.of_some (kept_signal ..) (by rw [heq]; rfl))
      exact .next (hsignal.trans ((keeps_signalAborts ..).trans ((apart_writeCompletion ..).keeps.trans
        ((keeps_afterCompletion ..).trans ((keeps_noteCtxWork ..).trans (keeps_schedule ..))))))

theorem answers_irqDelayExpiry (s : State) (f cq : Nat) : Answers s (execIrqDelayExpiry f cq s) := by
  unfold execIrqDelayExpiry
  split
  · exact .next (.refl _)
  · exact .ite (.next (.refl _)) (.next (.after (apart_sendMsi ..).keeps (apart_setCq ..).keeps))

theorem answers_eventWaitRecheck (s : State) (op : Nat) : Answers s (execEventWaitRecheck op s) := by
  unfold execEventWaitRecheck
  split
  · exact .next (.refl _)
  · exact .next (.after (keeps_schedule ..) (apart_checkWait ..).keeps)

theorem keeps_runCmd {body : State → State} (h : ∀ s, Keeps s (body s)) (s : State) (f : Nat) :
    Keeps s (s.runCmd f body) :=
  .ite (.refl _) (.ite (apart_setFn ..).keeps (h _))

theorem keeps_endCmd (s : State) (f status : Nat) : Keeps s (s.endCmd f status) := by
  unfold State.endCmd
  exact (apart_setFn ..).keeps

theorem keeps_cmdWith {body : State → State} (h : ∀ s, Keeps s (body s)) (s : State) (f : Nat) (causes : List
    (Bool × Nat)) :
    Keeps s (s.cmdWith f causes body) :=
  keeps_runCmd (fun _ => .ite ((h _).trans (keeps_endCmd ..)) (keeps_endCmd ..)) ..

theorem keeps_setCtxTable (s : State) (f : Nat) : Keeps s (s.setCtxTable f) := by
  unfold State.setCtxTable
  exact keeps_cmdWith (fun _ => (apart_setFn ..).keeps) ..

theorem answers_setCtxTable (s : State) (f : Nat) : Answers s (execSetCtxTable f s) := by
  unfold execSetCtxTable
  exact .next (keeps_setCtxTable ..)

theorem keeps_securityStatus (s : State) : Keeps s s.securityStatus := by
  unfold State.securityStatus
  exact (apart_post ..).keeps

theorem keeps_createEq (s : State) (f : Nat) : Keeps s (s.createEq f) := by
  unfold State.createEq
  exact keeps_cmdWith (fun _ => .ite (.after (keeps_securityStatus ..) (apart_setFn ..).keeps) (apart_setFn ..).keeps) ..

theorem answers_createEq (s : State) (f : Nat) : Answers s (execCreateEq f s) := by
  unfold execCreateEq
  exact .next (keeps_createEq ..)

theorem keeps_destroyEq (s : State) (f : Nat) : Keeps s (s.destroyEq f) := by
  unfold State.destroyEq
  exact keeps_cmdWith (fun _ => (apart_setFn ..).keeps) ..

theorem answers_destroyEq (s : State) (f : Nat) : Answers s (execDestroyEq f s) := by
  unfold execDestroyEq
  exact .next (keeps_destroyEq ..)

theorem keeps_createCq (s : State) (f : Nat) : Keeps s (s.createCq f) := by
  unfold State.createCq
  exact keeps_cmdWith (fun _ => (apart_setCq ..).keeps) ..

theorem answers_createCq (s : State) (f : Nat) : Answers s (execCreateCq f s) := by
  unfold execCreateCq
  exact .next (keeps_createCq ..)

theorem keeps_destroyCq (s : State) (f : Nat) : Keeps s (s.destroyCq f) := by
  unfold State.destroyCq
  exact keeps_cmdWith (fun _ => (apart_setFn ..).keeps) ..

theorem answers_destroyCq (s : State) (f : Nat) : Answers s (execDestroyCq f s) := by
  unfold execDestroyCq
  exact .next (keeps_destroyCq ..)

theorem keeps_takeLine (s : State) (f addr : Nat) : Keeps s (s.takeLine f addr) := by
  unfold State.takeLine
  exact .update (.refl _)

theorem keeps_loadRecord (s : State) (c r : Nat) : Keeps s (s.loadRecord c r) := by
  unfold State.loadRecord
  exact .update (.refl _)

theorem keeps_createSq (s : State) (f r : Nat) : Keeps s (s.createSq f r) := by
  unfold State.createSq
  exact keeps_cmdWith (fun _ => .after (apart_setFn ..).keeps (.after (apart_setSq ..).keeps (.after (keeps_takeLine ..)
    (keeps_loadRecord ..)))) ..

theorem answers_createSq (s : State) (f record : Nat) : Answers s (execCreateSq f record s) := by
  unfold execCreateSq
  exact .next (keeps_createSq ..)

theorem keeps_destroySq (s : State) (f : Nat) : Keeps s (s.destroySq f) := by
  unfold State.destroySq
  refine keeps_runCmd (fun _ => ?_) ..
  dsimp only
  split
  · exact keeps_endCmd ..
  · exact .after (apart_setFn ..).keeps (apart_setSq ..).keeps

theorem answers_destroySq (s : State) (f : Nat) : Answers s (execDestroySq f s) := by
  unfold execDestroySq
  exact .next (keeps_destroySq ..)

theorem keeps_unloadSlot (s : State) (c : Nat) : Keeps s (s.unloadSlot c) := by
  unfold State.unloadSlot
  exact .updateMem (.refl _)

theorem keeps_lastRingGone (s : State) (c : Nat) : Keeps s (s.lastRingGone c) := by
  unfold State.lastRingGone
  refine .ite (.refl _) ?_
  exact .ite (.update (keeps_unloadSlot ..)) (.after (apart_modCtx ..).keeps (keeps_unloadSlot ..))

theorem answers_destroySqDone (s : State) (f : Nat) : Answers s (execDestroySqDone f s) := by
  unfold execDestroySqDone
  dsimp only
  split
  · exact .next (.refl _)
  · refine .ite (.next (.refl _)) ?_
    refine .next ?_
    refine .after (.after (keeps_endCmd ..) (keeps_lastRingGone ..)) (.updateMem ?_)
    exact .ite (.update (apart_setFn ..).keeps) (apart_setFn ..).keeps

theorem answers_nop (s : State) (op : Nat) : Answers s (execNop op s) := by
  unfold execNop
  split
  · exact .next (apart_succeed ..).keeps
  · exact .next (.refl _)

theorem keeps_asksTiles (s : State) (id : Nat) : Keeps s (s.asksTiles id) := by
  unfold State.asksTiles
  split
  · exact .ite (keeps_schedule ..) (.refl _)
  · exact .refl _

theorem keeps_rejoin (s : State) (e pond : Nat) : Keeps s (s.rejoin e pond) := by
  unfold State.rejoin
  exact .ite (.refl _) (.update (.refl _))

theorem keeps_enqueue (s : State) (id : Nat) : Keeps s (s.enqueue id) := by
  unfold State.enqueue
  exact (apart_modOp ..).keeps

theorem keeps_takeCoins (s : State) (n : Nat) : Keeps s (s.takeCoins n) := by
  unfold State.takeCoins
  exact .update (.refl _)

theorem keeps_start (s : State) (id : Nat) : Keeps s (s.start id) := by
  unfold State.start
  exact (apart_modOp ..).keeps

theorem keeps_modGroup (s : State) (k : Nat) (f : RedGroup → RedGroup) : Keeps s (s.modGroup k f) := by
  unfold State.modGroup
  exact .update (.refl _)

theorem keeps_modRun (s : State) (k : Nat) (f : RedRun → RedRun) : Keeps s (s.modRun k f) := by
  unfold State.modRun
  exact keeps_modGroup ..

theorem keeps_addPart (s : State) (k : Nat) (p : Partial) (flags : Nat) : Keeps s (s.addPart k p flags) := by
  unfold State.addPart
  exact keeps_modRun ..

theorem keeps_takeRemote (s : State) (k : Nat) (x : RedHeld) : Keeps s (s.takeRemote k x) := by
  unfold State.takeRemote
  dsimp only
  split
  · exact .update (.refl _)
  · split
    · exact .update (.refl _)
    · refine .ite (.ite (.refl _) (.ite (keeps_addPart ..) (apart_send ..).keeps)) ?_
      exact .ite (.update (.refl _)) (apart_decide ..).keeps

theorem keeps_takeHeld (s : State) (k f gid : Nat) : Keeps s (s.takeHeld k f gid) := by
  unfold State.takeHeld
  exact .after (.fold (fun _ _ => keeps_takeRemote ..)) (.update (.refl _))

theorem keeps_compareCrcs (s : State) (k : Nat) : Keeps s (s.compareCrcs k) := by
  unfold State.compareCrcs
  split
  · exact .refl _
  · split
    · exact .refl _
    · exact .ite (apart_decide ..).keeps (.refl _)

theorem keeps_startRed (s : State) (id : Nat) (o : Op) (k : Nat) (g : RedGroup) : Keeps s (s.startRed id o k g) := by
  unfold State.startRed
  split
  · exact (apart_decide ..).keeps
  · refine .after (.after (keeps_takeHeld ..) (keeps_compareCrcs ..)) ?_
    refine .ite ?_ ?_
    · refine .after (.fold (fun _ _ => (apart_send ..).keeps)) ?_
      refine .ite ?_ ?_
      · exact .after (.fold (fun _ _ => (apart_send ..).keeps)) (.after (keeps_modGroup ..) (keeps_start ..))
      · exact .after (keeps_modGroup ..) (keeps_start ..)
    · refine .ite ?_ ?_
      · exact .after (.fold (fun _ _ => (apart_send ..).keeps)) (.after (keeps_modGroup ..) (keeps_start ..))
      · exact .after (keeps_modGroup ..) (keeps_start ..)

theorem keeps_launch (s : State) (id : Nat) : Keeps s (s.launch id) := by
  unfold State.launch
  split
  · exact .refl _
  · refine .ite ?_ (keeps_start ..)
    split
    · exact keeps_startRed ..
    · exact (apart_decide ..).keeps

theorem keeps_activate (s : State) (e n : Nat) : Keeps s (s.activate e n) := by
  induction n generalizing s with
  | zero => exact .refl _
  | succ n ih =>
    unfold State.activate
    split
    · exact .refl _
    · exact (keeps_launch ..).trans (ih _)

theorem keeps_placeCopy (s : State) (id : Nat) (o : Op) (p : Pond) (e : Nat) : Keeps s (s.placeCopy id o p e) := by
  unfold State.placeCopy
  dsimp only
  split
  · refine .after (.update (.after (apart_modOp ..).keeps (keeps_start ..))) ?_
    refine .ite ?_ ?_
    · exact .after (keeps_takeCoins ..) (.after (apart_modOp ..).keeps (.after (keeps_enqueue ..) (keeps_rejoin ..)))
    · exact .after (apart_modOp ..).keeps (.after (keeps_enqueue ..) (keeps_rejoin ..))
  · refine .after (keeps_activate ..) ?_
    refine .ite ?_ ?_
    · exact .after (keeps_takeCoins ..) (.after (apart_modOp ..).keeps (.after (keeps_enqueue ..) (keeps_rejoin ..)))
    · exact .after (apart_modOp ..).keeps (.after (keeps_enqueue ..) (keeps_rejoin ..))

theorem answers_flumeCopy (s : State) (op : Nat) : Answers s (execFlumeCopy op s) := by
  unfold execFlumeCopy
  dsimp only
  split
  · exact .next (keeps_asksTiles ..)
  · split
    · exact .next (apart_decide ..).keeps
    · split
      · exact .next (apart_decide ..).keeps
      · exact .next (keeps_placeCopy ..)

theorem keeps_takeFree (s : State) : Keeps s (s.takeFree).2 := by
  unfold State.takeFree
  exact .update (.refl _)

theorem keeps_drawFree (s : State) : Keeps s (s.drawFree).2 := by
  unfold State.drawFree
  exact keeps_takeFree ..

theorem keeps_poisonGranule (s : State) (off cause cls unit : Nat) : Keeps s (s.poisonGranule off cause cls unit) := by
  unfold State.poisonGranule
  split
  · exact .refl _
  · refine .ite (.refl _) ?_
    exact .ite (.update (.updateMem (.refl _))) (.after (apart_post ..).keeps (.update (.updateMem (.refl _))))

theorem keeps_poisonLine (s : State) (line cause cls unit : Nat) : Keeps s (s.poisonLine line cause cls unit) := by
  unfold State.poisonLine
  exact .after (keeps_poisonGranule ..) (keeps_poisonGranule ..)

theorem keeps_poisonHost (s : State) (fn addr n : Nat) : Keeps s (s.poisonHost fn addr n) := by
  unfold State.poisonHost
  exact .update (.refl _)

theorem keeps_copyPoison (s : State) (a : Agent) (o : Op) (p : Pond) (j n : Nat) :
    Keeps s (s.copyPoison a o p j n) := by
  unfold State.copyPoison
  dsimp only
  split
  · exact .updateMem (.refl _)
  · refine .ite (.refl _) ?_
    refine .fold (fun s x => ?_)
    split
    · exact .fold (fun _ _ => .after (keeps_poisonLine ..) (keeps_drawFree ..))
    · exact keeps_poisonHost ..
    · exact .ite (.refl _) (apart_send ..).keeps
    · exact .ite (.refl _) (apart_send ..).keeps
    · exact .refl _

theorem keeps_loftTouchRange (s : State) (off n : Nat) (hint : Hint) (mask : Nat) (write : Bool) :
    Keeps s (s.loftTouchRange off n hint mask write) := by
  unfold State.loftTouchRange
  exact .fold (fun _ _ => keeps_loftTouch ..)

theorem keeps_fillMicro (s : State) (tile : Nat) (t : Translation) : Keeps s (s.fillMicro tile t) := by
  unfold State.fillMicro
  exact .update (.refl _)

theorem keeps_useXlat (s : State) (a : Agent) (va : Nat) : Keeps s (s.useXlat a va) := by
  unfold State.useXlat
  refine .ite (.update (.refl _)) ?_
  split
  · exact .refl _
  · exact .ite (.update (.refl _)) (.after (keeps_fillMicro ..) (.update (.refl _)))

theorem keeps_touchRead (s : State) (a : Agent) (hint : Option Hint) (va n : Nat) :
    Keeps s (s.touchRead a hint va n) := by
  unfold State.touchRead
  refine .fold (fun s x => ?_)
  split
  · exact .after (keeps_loftTouchRange ..) (keeps_useXlat ..)
  · exact keeps_useXlat ..

theorem some_stageLines (s : State) (k op dev kind : Nat) (l : List (Nat × List Byte)) :
    KeptSome s (s.stageLines k op dev kind l) := by
  induction l generalizing s with
  | nil => exact .some (.refl _)
  | cons x l ih =>
    unfold State.stageLines
    split
    · exact .some (.refl _)
    · split
      · exact .none
      · exact (ih _).of_keeps (apart_modSluice ..).keeps

theorem wrote_stage (s : State) (k op dev kind off : Nat) (bytes : List Byte) :
    Wrote.Kept s (s.stage k op dev kind off bytes) := by
  unfold State.stage
  split
  · exact .bad (apart_abortSluice ..).keeps
  · exact .ok ((some_stageLines ..).of_some ‹_›)

theorem keeps_writeHostData (s : State) (fn addr : Nat) (bytes : List Byte) :
    Keeps s (s.writeHostData fn addr bytes) := by
  unfold State.writeHostData
  exact .update (.refl _)

theorem wrote_writePiece (s : State) (a : Agent) (refused : Bool) (hint : Option Hint) (kind va : Nat)
    (bytes : List Byte) :
    Wrote.Kept s (s.writePiece a refused hint kind va bytes) := by
  unfold State.writePiece
  dsimp only
  split
  · exact .bad (.refl _)
  · exact .bad (.refl _)
  · exact .stall
  · split
    · exact .bad (.refl _)
    · refine .ite (.bad (.refl _)) ?_
      refine .ite .stall ?_
      refine .ite (.bad (.refl _)) ?_
      refine .ite (wrote_stage ..) ?_
      refine .ite (.bad (.refl _)) ?_
      exact .ok (.after (keeps_loftTouchRange ..) (keeps_landWrite ..))
    · exact .ite (.bad (.refl _)) (.ok (keeps_writeHostData ..))
    · exact .ite .stall (.ite (.bad (.refl _)) (.ok (apart_send ..).keeps))
    · exact .ite .stall (.ite (.bad (.refl _)) (.ok (apart_send ..).keeps))

theorem wrote_writePieces (s : State) (a : Agent) (refused : Bool) (hint : Option Hint) (base : Nat) (bs : List Byte)
    (l : List (Nat × Nat)) : Wrote.Kept s (s.writePieces a refused hint base bs l) := by
  induction l generalizing s with
  | nil => exact Keeps.refl _
  | cons x l ih =>
    unfold State.writePieces
    split
    · exact (ih _).of_keeps ((wrote_writePiece ..).of_ok ‹_›)
    · exact wrote_writePiece ..

theorem keeps_useXlats (s : State) (a : Agent) (va n : Nat) : Keeps s (s.useXlats a va n) := by
  unfold State.useXlats
  exact .fold (fun _ _ => keeps_useXlat ..)

theorem wrote_writeVa (s : State) (a : Agent) (refused : Bool) (hint : Option Hint) (va : Nat) (bytes : List Byte) :
    Wrote.Kept s (s.writeVa a refused hint va bytes) := by
  unfold State.writeVa
  exact (wrote_writePieces ..).of_keeps (keeps_useXlats ..)

theorem wrote_copyCut (s : State) (id : Nat) (a : Agent) (ext : Ext) (o : Op) (p : Pond) (j n : Nat) :
    Wrote.Kept s (s.copyCut id a ext o p j n) := by
  unfold State.copyCut
  dsimp only
  split
  · exact .stall
  · exact .bad (.ite (keeps_copyPoison ..) (.refl _))
  · split
    · exact .ok (.after (keeps_putSram ..) (.ite (.ite (keeps_touchRead ..) (.refl _)) (.after (apart_modOp ..).keeps
        (.ite (keeps_touchRead ..) (.refl _)))))
    · refine .ite (.bad (.refl _)) ?_
      exact (wrote_writeVa ..).of_keeps (.ite (.ite (keeps_touchRead ..) (.refl _)) (.after (apart_modOp ..).keeps (.ite
        (keeps_touchRead ..) (.refl _))))

theorem wrote_copyCutList (s : State) (id : Nat) (a : Agent) (ext : Ext) (p : Pond) (l : List (Nat × Nat)) :
    Wrote.Kept s (s.copyCutList id a ext p l) := by
  induction l generalizing s with
  | nil => exact Keeps.refl _
  | cons x l ih =>
    unfold State.copyCutList
    split
    · exact Keeps.refl _
    · split
      · exact (ih _).of_keeps ((wrote_copyCut ..).of_ok ‹_›)
      · exact wrote_copyCut ..

theorem wrote_copyCutAll (s : State) (id : Nat) (a : Agent) (ext : Ext) (p : Pond) (l : List (Nat × Nat)) :
    Wrote.Kept s (s.copyCutAll id a ext p l) := by
  unfold State.copyCutAll
  exact wrote_copyCutList ..

theorem keeps_setWeir (s : State) (g : WeirPart → WeirPart) : Keeps s (s.setWeir g) := by
  unfold State.setWeir
  exact .update (.refl _)

theorem keeps_setWeirPond (s : State) (h : Nat) (p : WeirPond) : Keeps s (s.setWeirPond h p) := by
  unfold State.setWeirPond
  exact keeps_setWeir ..

theorem keeps_noteLatency (s : State) (h lat : Nat) : Keeps s (s.noteLatency h lat) := by
  unfold State.noteLatency
  split
  · exact .refl _
  · exact keeps_setWeirPond ..

theorem keeps_noteLatencies (s : State) (h : Nat) (ls : List Nat) : Keeps s (s.noteLatencies h ls) := by
  unfold State.noteLatencies
  exact .fold (fun _ _ => keeps_noteLatency ..)

theorem keeps_serve (s : State) (e pond weight n : Nat) : Keeps s (s.serve e pond weight n) := by
  unfold State.serve
  exact .update (.refl _)

theorem answers_flumeSegmentDone (s : State) (op seg : Nat) (ext : Ext) :
    Answers s (execFlumeSegmentDone op seg ext s) := by
  unfold execFlumeSegmentDone
  split
  · exact .next (.refl _)
  · dsimp only
    split
    · refine .ite (.next (.ite (keeps_activate ..) (.refl _))) ?_
      split
      · exact .next (.ite (keeps_activate ..) (.refl _))
      · refine .next ?_
        refine .after (.after (keeps_activate ..) (.after (apart_decide ..).keeps (.after
          ((wrote_copyCutAll ..).of_bad ‹_›) (keeps_noteLatencies ..)))) ?_
        exact .ite (keeps_activate ..) (.refl _)
      · refine .next ?_
        refine .ite ?_ ?_
        · refine .after (.after (keeps_activate ..) (.after (apart_succeed ..).keeps (.after (apart_modOp ..).keeps
            (.after (keeps_serve ..) (.after ((wrote_copyCutAll ..).of_ok ‹_›) (keeps_noteLatencies ..)))))) ?_
          exact .ite (keeps_activate ..) (.refl _)
        · refine .after (.after (apart_modOp ..).keeps (.after (keeps_serve ..) (.after ((wrote_copyCutAll ..).of_ok ‹_›)
            (keeps_noteLatencies ..)))) ?_
          exact .ite (keeps_activate ..) (.refl _)
    · exact .next (.ite (keeps_activate ..) (.refl _))

theorem keeps_loftRun {body : Op → State → Nat × Nat → State} (h : ∀ o s x, Keeps s (body o s x)) (s : State)
    (op mode : Nat) :
    Keeps s (s.loftRun op mode body) := by
  unfold State.loftRun
  split
  · exact .refl _
  · refine .ite (.refl _) ?_
    split
    · exact (Keeps.fold (h _)).trans (apart_succeed ..).keeps
    · exact (apart_decide ..).keeps
    · exact .refl _

theorem answers_loftPrefetch (s : State) (op : Nat) : Answers s (execLoftPrefetch op s) := by
  unfold execLoftPrefetch
  exact .next (keeps_loftRun (fun _ _ _ => keeps_loftTouch ..) ..)

theorem answers_loftDemote (s : State) (op : Nat) : Answers s (execLoftDemote op s) := by
  unfold execLoftDemote
  exact .next (keeps_loftRun (fun _ _ _ => .updateMem (.refl _)) ..)

theorem keeps_millFails (s : State) (id tile status detail : Nat) : Keeps s (s.millFails id tile status detail) := by
  unfold State.millFails
  exact (apart_decide ..).keeps

theorem keeps_millRefuses (s : State) (id tile st x : Nat) : Keeps s (s.millRefuses id tile st x) := by
  unfold State.millRefuses
  exact .after (keeps_millFails ..) (keeps_enqueue ..)

theorem keeps_stopSpin (s : State) (tiles : List Nat) : Keeps s (s.stopSpin tiles) := by
  unfold State.stopSpin
  exact .update (.refl _)

theorem keeps_millEnter (s : State) (id : Nat) (o : Op) (p : Pond) (anchors : List ℤ) (table act : List Nat) :
    Keeps s (s.millEnter id o p anchors table act) := by
  unfold State.millEnter
  refine .ite (.after (apart_succeed ..).keeps (.update (keeps_enqueue ..))) ?_
  refine .after (.after (keeps_stopSpin ..) (keeps_refreshBoard ..)) ?_
  exact .ite (.after (keeps_start ..) (.update (keeps_enqueue ..))) (.update (keeps_enqueue ..))

theorem keeps_millStart (s : State) (id op : Nat) (anchors : Nat → List ℤ) (read : Op → Agent → Acc
    (List Nat × List Nat)) :
    Keeps s (s.millStart id op anchors read) := by
  unfold State.millStart
  split
  · exact keeps_asksTiles ..
  · split
    · exact (apart_decide ..).keeps
    · dsimp only
      split
      · exact (apart_decide ..).keeps
      · split
        · exact .refl _
        · exact keeps_millRefuses ..
        · exact keeps_millEnter ..

theorem answers_millGemm (s : State) (op : Nat) (ext : Ext) : Answers s (execMillGemm op ext s) := by
  unfold execMillGemm
  exact .next (keeps_millStart ..)

theorem answers_millGgemm (s : State) (op : Nat) (ext : Ext) : Answers s (execMillGgemm op ext s) := by
  unfold execMillGgemm
  exact .next (keeps_millStart ..)

theorem answers_millAttend (s : State) (op : Nat) (ext : Ext) : Answers s (execMillAttend op ext s) := by
  unfold execMillAttend
  exact .next (keeps_millStart ..)

theorem answers_millPack (s : State) (op : Nat) : Answers s (execMillPack op s) := by
  unfold execMillPack
  exact .next (keeps_millStart ..)

theorem keeps_rebindFaults (s : State) (us : List Nat) : Keeps s (s.rebindFaults us) := by
  unfold State.rebindFaults
  refine .fold (fun s x => ?_)
  split
  · exact .after (keeps_modPond ..) (apart_decide ..).keeps
  · exact .refl _

theorem keeps_caught (s : State) (ids : List Nat) : Keeps s (s.caught ids).2 := by
  unfold State.caught
  refine .fold_on Prod.snd ?_ (.refl _)
  exact fun _ _ => keeps_takeFree ..

theorem keeps_struck (s : State) (us : List Nat) : Keeps s (s.struck us).2.2 := by
  unfold State.struck
  exact keeps_caught ..

theorem keeps_unstage (s : State) (slu op : Nat) : Keeps s (s.unstage slu op) := by
  unfold State.unstage
  split
  · exact .refl _
  · exact .after (.fold (fun _ _ => (apart_send ..).keeps)) (apart_modSluice ..).keeps

theorem keeps_strike (s : State) (id status detail : Nat) : Keeps s (s.strike id status detail) := by
  unfold State.strike
  split
  · exact .refl _
  · refine .ite (apart_endOp ..).keeps ?_
    refine .ite (.refl _) ?_
    refine .ite ?_ ?_
    · exact .after (apart_modOp ..).keeps (.after (apart_dropRun ..).keeps (keeps_unstage ..))
    · exact (apart_endOp ..).keeps

theorem keeps_strikeAll (s : State) (l : List (Nat × Nat × Nat)) : Keeps s (s.strikeAll l) := by
  unfold State.strikeAll
  refine .after (.fold (fun s x => ?_)) ?_
  · split
    · exact .ite (apart_abortSluice ..).keeps (.refl _)
    · exact .refl _
  · exact .fold (fun _ _ => keeps_strike ..)

theorem keeps_saveFence (s : State) (u : Nat) : Keeps s (s.saveFence u) := by
  unfold State.saveFence
  exact .ite (.refl _) (.ite (apart_post ..).keeps (.update (.refl _)))

theorem keeps_spilledOnChan (s : State) (c : Nat) : Keeps s (s.spilledOnChan c).2 := by
  unfold State.spilledOnChan
  refine .fold_on Prod.snd ?_ (.refl _)
  exact fun _ _ => keeps_takeFree ..

theorem keeps_loseStaged (s : State) (lost : Nat → Nat → Bool) (cls unit : Nat) : Keeps s
    (s.loseStaged lost cls unit) := by
  unfold State.loseStaged
  refine .fold (fun s x => ?_)
  refine .ite ?_ ?_
  · exact .after (.fold (fun _ _ => keeps_poisonLine ..)) (apart_modSluice ..).keeps
  · exact (apart_abortSluice ..).keeps

theorem keeps_unitGone (s : State) (was : State) (u : Nat) : Keeps s (s.unitGone was u) := by
  unfold State.unitGone
  refine .ite (.update (.refl _)) ?_
  refine .ite (.updateMem (.after (keeps_loseStaged ..) (keeps_spilledOnChan ..))) ?_
  refine .ite ?_ ?_
  · exact .updateMem (.after (.fold (fun _ _ => keeps_poisonLine ..)) (keeps_loseStaged ..))
  · refine .ite (.fold (fun _ _ => .update (.refl _))) ?_
    exact .ite (.fold (fun _ _ => (apart_abortSluice ..).keeps)) (.refl _)

theorem keeps_reserve (s : State) (h : Nat) (c : Option RegrowKind) : Keeps s (s.reserve h c) := by
  unfold State.reserve
  exact keeps_modPond ..

theorem keeps_chosenTile (x : Chosen) (h : Nat) (vane : Bool) (rank t : Nat) : Keeps x.s (x.tile h vane rank t).s := by
  unfold Chosen.tile
  split
  · exact .refl _
  · exact keeps_reserve ..

theorem keeps_chosenSubl (x : Chosen) (h l : Nat) : Keeps x.s (x.subl h l).s := by
  unfold Chosen.subl
  split
  · exact .refl _
  · exact .after (keeps_modPond ..) (keeps_reserve ..)

theorem keeps_chosenEngine (x : Chosen) (h e : Nat) : Keeps x.s (x.engine h e).s := by
  unfold Chosen.engine
  split
  · exact .refl _
  · exact .after (keeps_modPond ..) (keeps_reserve ..)

theorem keeps_chosenAgain (x : Chosen) (h : Nat) (r : RegrowKind) :
    Keeps x.s (x.again h r).s := by
  unfold Chosen.again
  split
  · exact keeps_chosenTile ..
  · exact keeps_chosenSubl ..
  · exact keeps_chosenEngine ..
  · exact .refl _

theorem keeps_postLost (s : State) (f cls action unit pond : Nat) (holes : List (Nat × Bool × Nat)) :
    Keeps s (s.postLost f cls action unit pond holes) := by
  unfold State.postLost
  exact .fold (fun _ _ => (apart_post ..).keeps)

theorem keeps_pondLoses (s : State) (h cls unit : Nat) (us : List Nat) (planned : Bool) :
    Keeps s (s.pondLoses h cls unit us planned) := by
  unfold State.pondLoses
  split
  · exact .refl _
  · refine .ite ?_ ?_
    · refine .fold_on Chosen.s ?_ ?_
      · exact fun _ _ => keeps_chosenEngine ..
      · refine .fold_on Chosen.s ?_ ?_
        · exact fun _ _ => keeps_chosenSubl ..
        · refine .fold_on Chosen.s ?_ ?_
          · exact fun _ _ => keeps_chosenTile ..
          · refine .fold_on Chosen.s ?_ ?_
            · exact fun _ _ => keeps_chosenTile ..
            · refine .fold_on Chosen.s ?_ ?_
              · exact fun _ _ => keeps_chosenAgain ..
              · exact keeps_modPond ..
    · refine .after (.after (keeps_postLost ..) (keeps_postLost ..)) ?_
      refine .fold_on Chosen.s ?_ ?_
      · exact fun _ _ => keeps_chosenEngine ..
      · refine .fold_on Chosen.s ?_ ?_
        · exact fun _ _ => keeps_chosenSubl ..
        · refine .fold_on Chosen.s ?_ ?_
          · exact fun _ _ => keeps_chosenTile ..
          · refine .fold_on Chosen.s ?_ ?_
            · exact fun _ _ => keeps_chosenTile ..
            · refine .fold_on Chosen.s ?_ ?_
              · exact fun _ _ => keeps_chosenAgain ..
              · exact keeps_modPond ..

theorem keeps_releaseReruns (s : State) (ids : List Nat) : Keeps s (s.releaseReruns ids) := by
  unfold State.releaseReruns
  refine .fold (fun s x => ?_)
  split
  · split
    · exact .ite (apart_modOp ..).keeps (.refl _)
    · exact .refl _
  · exact .refl _

theorem keeps_fenceUnits (s : State) (cls unit : Nat) (us : List Nat) (planned : Bool) :
    Keeps s (s.fenceUnits cls unit us planned) := by
  unfold State.fenceUnits
  refine .ite (.refl _) ?_
  refine .after (keeps_releaseReruns ..) ?_
  refine .ite ?_ ?_
  · exact .after (keeps_postLost ..) (.after (.fold (fun _ _ => keeps_pondLoses ..)) (.update (.after (.fold
      (fun _ _ => keeps_unitGone ..)) (.after (keeps_strikeAll ..) (.after (.fold (fun _ _ => keeps_saveFence ..))
      (.updateMem (.after (keeps_struck ..) (keeps_rebindFaults ..))))))))
  · refine .ite ?_ ?_
    · exact .after (keeps_postLost ..) (.after (.fold (fun _ _ => keeps_pondLoses ..)) (.update (.after (.fold
        (fun _ _ => keeps_unitGone ..)) (.after (keeps_strikeAll ..) (.after (.fold (fun _ _ => keeps_saveFence ..))
        (.updateMem (.after (keeps_struck ..) (keeps_rebindFaults ..))))))))
    · refine .after (.fold (fun s x => ?_)) ?_
      · split
        · exact .after (keeps_postLost ..) (keeps_postLost ..)
        · exact .refl _
      · exact .after (.fold (fun _ _ => keeps_pondLoses ..)) (.update (.after (.fold (fun _ _ => keeps_unitGone ..))
          (.after (keeps_strikeAll ..) (.after (.fold (fun _ _ => keeps_saveFence ..)) (.updateMem (.after
          (keeps_struck ..) (keeps_rebindFaults ..)))))))

theorem keeps_fatalError (s : State) (code : Nat) : Keeps s (s.fatalError code) := by
  unfold State.fatalError
  exact .ite (.refl _) (.update (.refl _))

theorem keeps_fwActivated (s : State) (comp slot release : Nat) : Keeps s (s.fwActivated comp slot release) := by
  unfold State.fwActivated
  exact (apart_post ..).keeps

theorem keeps_setBoot (s : State) (f : BootPart → BootPart) : Keeps s (s.setBoot f) := by
  unfold State.setBoot
  exact .update (.refl _)

theorem keeps_loadNewt (s : State) (d slot : Nat) (i : Image) : Keeps s (s.loadNewt d slot i) := by
  unfold State.loadNewt
  exact .after (keeps_fwActivated ..) (keeps_setBoot ..)

theorem keeps_loadPort (s : State) (port slot : Nat) (i : Image) : Keeps s (s.loadPort port slot i) := by
  unfold State.loadPort
  exact .ite (.after (keeps_fwActivated ..) (keeps_setBoot ..)) (keeps_setBoot ..)

theorem keeps_tryActivate (s : State) (comp slot : Nat) : Keeps s (s.tryActivate comp slot).1 := by
  unfold State.tryActivate
  split
  · exact .refl _
  · split
    · split
      · exact keeps_loadNewt ..
      · exact .refl _
    · exact .fold (fun _ _ => keeps_loadPort ..)

theorem keeps_loadPending (s : State) : Keeps s s.loadPending := by
  unfold State.loadPending
  exact .fold (fun _ _ => .ite (.after (keeps_setBoot ..) (keeps_tryActivate ..)) (keeps_tryActivate ..))

theorem keeps_fence (s : State) (cls unit : Nat) (planned : Bool) : Keeps s (s.fence cls unit planned) := by
  unfold State.fence
  refine .ite ?_ ?_
  · exact .after (keeps_fatalError ..) (.after (.fold (fun _ _ => keeps_fenceUnits ..)) (keeps_fenceUnits ..))
  · exact .after (keeps_loadPending ..) (.after (.fold (fun _ _ => keeps_fenceUnits ..)) (keeps_fenceUnits ..))

theorem keeps_raiseBucket (s : State) (cls unit n : Nat) (corrected : Bool) :
    Keeps s (s.raiseBucket cls unit n corrected) := by
  unfold State.raiseBucket
  refine .ite ?_ ?_
  · exact .after (keeps_fence ..) (.ite (.after (apart_post ..).keeps (.update (.refl _))) (.update (.refl _)))
  · exact .ite (.after (apart_post ..).keeps (.update (.refl _))) (.update (.refl _))

theorem keeps_corrected (s : State) (cls unit : Nat) : Keeps s (s.corrected cls unit) := by
  unfold State.corrected
  exact keeps_raiseBucket ..

theorem keeps_uncorrectable (s : State) (cls unit : Nat) : Keeps s (s.uncorrectable cls unit) := by
  unfold State.uncorrectable
  exact keeps_raiseBucket ..

theorem keeps_findErrors (s : State) (ext : Ext) : Keeps s (s.findErrors ext) := by
  unfold State.findErrors
  refine .fold (fun s x => ?_)
  exact .ite (.refl _) (.ite (keeps_corrected ..) (.after (keeps_uncorrectable ..) (.updateMem (.refl _))))

theorem keeps_modRank (s : State) (id r : Nat) (g : MillRank → MillRank) : Keeps s (s.modRank id r g) := by
  unfold State.modRank
  exact .update (.refl _)

theorem keeps_touchReads (s : State) (a : Agent) (l : List (Nat × Nat)) : Keeps s (s.touchReads a l) := by
  unfold State.touchReads
  exact .fold (fun _ _ => keeps_touchRead ..)

theorem keeps_addFlags (s : State) (id f : Nat) : Keeps s (s.addFlags id f) := by
  unfold State.addFlags
  exact (apart_modOp ..).keeps

theorem keeps_consume (s : State) (id r n : Nat) : Keeps s (s.consume id r n) := by
  induction n generalizing s with
  | zero => exact .refl _
  | succ n ih =>
    unfold State.consume
    split
    · split
      · exact .refl _
      · dsimp only
        split
        · exact .refl _
        · refine .ite (.ite (keeps_millFails ..) ?_) (.refl _)
          exact (keeps_modRank ..).trans ((keeps_addFlags ..).trans ((keeps_refreshBoard ..).trans (ih _)))
    · exact .refl _

theorem answers_fillLanded (s0 : State) (op rank : Nat) (b : Bool) (seq half : Nat) (ext : Ext) :
    Answers s0 (execFillLanded op rank b seq half ext s0) := by
  unfold execFillLanded
  dsimp only
  split
  · split
    · exact .next (keeps_findErrors ..)
    · refine .ite (.next (keeps_findErrors ..)) ?_
      refine .ite ?_ ?_
      · refine .ite (.next (keeps_findErrors ..)) ?_
        refine .next ?_
        exact .after (keeps_refreshBoard ..) (.after (keeps_modRank ..) (.after (keeps_noteLatencies ..) (.after
          (keeps_putSram ..) (.after (keeps_start ..) (.after (keeps_drawFree ..) (keeps_findErrors ..))))))
      · refine .ite (.next (keeps_findErrors ..)) ?_
        refine .ite (.next (keeps_findErrors ..)) ?_
        split
        · exact .next (keeps_findErrors ..)
        · split
          · exact .next (keeps_findErrors ..)
          · refine .next ?_
            exact .after (keeps_millFails ..) (.after (keeps_touchReads ..) (.after (keeps_noteLatencies ..)
              (keeps_findErrors ..)))
          · refine .next ?_
            refine .after (.after (keeps_consume ..) (.after (keeps_refreshBoard ..) (.after (keeps_modRank ..)
              (keeps_start ..)))) ?_
            refine .ite ?_ ?_
            · exact .after (keeps_putSram ..) (.after (keeps_putSram ..) (.after (keeps_touchReads ..) (.after
                (keeps_noteLatencies ..) (keeps_findErrors ..))))
            · exact .after (keeps_putSram ..) (.after (keeps_touchReads ..) (.after (keeps_noteLatencies ..)
                (keeps_findErrors ..)))
  · exact .next (keeps_findErrors ..)

theorem keeps_modMill (s : State) (id : Nat) (g : MillRun → MillRun) : Keeps s (s.modMill id g) := by
  unfold State.modMill
  exact .update (.refl _)

theorem keeps_attendMaxima (s : State) (id : Nat) (a : Agent) (ext : Ext) (o : Op) (m : MillRun) (k : MillRank)
    (i : MillItem) (rows : List AttendRow) :
    Keeps s (s.attendMaxima id a ext o m k i rows) := by
  unfold State.attendMaxima
  refine .ite (.refl _) ?_
  exact .after (keeps_modMill ..) (.after (keeps_addFlags ..) (.after (keeps_touchReads ..) (.after
    (keeps_noteLatencies ..) (keeps_start ..))))

theorem keeps_attendPasses {pass2 : State → Op → MillRun → MillRank → MillItem → List
    (Nat × Bool) → List AttendRow → State}
    (h : ∀ s o m k i ms rows, Keeps s (pass2 s o m k i ms rows)) (s : State) (id r : Nat) (ext : Ext) (home : Bool) :
    Keeps s (s.attendPasses id r ext home pass2) := by
  unfold State.attendPasses
  split
  · split
    · exact .refl _
    · split
      · exact .refl _
      · refine .ite (.refl _) ?_
        dsimp only
        split
        · exact .refl _
        · exact keeps_millFails ..
        · split
          · exact keeps_attendMaxima ..
          · split
            · exact keeps_attendMaxima ..
            · exact (keeps_attendMaxima ..).trans ((keeps_touchReads ..).trans (h ..))
  · exact .refl _

theorem keeps_attendDeliver (s : State) (id r : Nat) (ext : Ext) : Keeps s (s.attendDeliver id r ext) := by
  unfold State.attendDeliver
  exact keeps_attendPasses (fun _ _ _ _ _ _ _ => .after (keeps_refreshBoard ..) (.after (keeps_modRank ..) (.after
    (keeps_modMill ..) (keeps_addFlags ..)))) ..

theorem keeps_gemmDeliver (s : State) (id r : Nat) : Keeps s (s.gemmDeliver id r) := by
  unfold State.gemmDeliver
  dsimp only
  split
  · split
    · exact keeps_consume ..
    · split
      · exact keeps_consume ..
      · refine .ite (keeps_consume ..) ?_
        exact .after (keeps_refreshBoard ..) (.after (keeps_modRank ..) (.after (keeps_modMill ..) (keeps_consume ..)))
  · exact keeps_consume ..

theorem answers_ksplitDelivery (s0 : State) (op rank : Nat) (ext : Ext) :
    Answers s0 (execKsplitDelivery op rank ext s0) := by
  unfold execKsplitDelivery
  dsimp only
  split
  · exact .next (keeps_findErrors ..)
  · refine .ite (.next (.after (keeps_attendDeliver ..) (keeps_findErrors ..))) ?_
    exact .ite (.next (.after (keeps_gemmDeliver ..) (keeps_findErrors ..))) (.next (keeps_findErrors ..))

theorem keeps_pushOut (s : State) (a : Agent) (off : Nat) (bytes : List Byte) :
    Keeps s (s.pushOut a off bytes) := by
  unfold State.pushOut
  exact .fold (fun _ _ => .ite (apart_send ..).keeps (.refl _))

theorem wrote_epiWrite (s : State) (a : Agent) (ext : Ext) (va : Nat) (bytes : List Byte) :
    Wrote.Kept s (s.epiWrite a ext va bytes) := by
  unfold State.epiWrite
  refine .ite (.ok (.refl _)) ?_
  split
  · exact wrote_writeVa ..
  · refine .ite (.bad (.refl _)) ?_
    split
    · exact .ok (.after (keeps_pushOut ..) ((wrote_writeVa ..).of_ok ‹_›))
    · exact wrote_writeVa ..

theorem wrote_epiWrites (s : State) (a : Agent) (ext : Ext) (l : List (Nat × List Byte)) :
    Wrote.Kept s (s.epiWrites a ext l) := by
  induction l generalizing s with
  | nil => exact Keeps.refl _
  | cons x l ih =>
    unfold State.epiWrites
    split
    · exact (ih _).of_keeps ((wrote_epiWrite ..).of_ok ‹_›)
    · exact wrote_epiWrite ..

theorem wrote_drainWrites (s : State) (a : Agent) (ext : Ext) (tile : Nat) (w : Drain) :
    Wrote.Kept s (s.drainWrites a ext tile w) := by
  unfold State.drainWrites
  split
  · exact .ok (.after (.fold (fun _ _ => keeps_putSram ..)) ((wrote_epiWrites ..).of_ok ‹_›))
  · exact wrote_epiWrites ..

theorem wrote_amaxAtomic (s : State) (id : Nat) (a : Agent) (ext : Ext) (d v : Nat) :
    Wrote.Kept s (s.amaxAtomic id a ext d v) := by
  unfold State.amaxAtomic
  dsimp only
  split
  · exact .ok (keeps_modMill ..)
  · exact wrote_writePiece ..

theorem keeps_millRetry (s : State) (id : Nat) (o : Op) : Keeps s (s.millRetry id o) := by
  unfold State.millRetry
  exact .after (keeps_refreshBoard ..) (.after (keeps_modMill ..) (.after (apart_modOp ..).keeps (keeps_unstage ..)))

theorem keeps_millEnd (s : State) (id : Nat) (o : Op) (m : MillRun) : Keeps s (s.millEnd id o m) := by
  unfold State.millEnd
  refine .ite (keeps_millRetry ..) ?_
  refine .ite ?_ ?_
  · exact .after (apart_decide ..).keeps (.ite (apart_modOp ..).keeps (.refl _))
  · refine .ite ?_ ?_ <;> exact .after (apart_decide ..).keeps (.ite (apart_modOp ..).keeps (.refl _))

/-- A block drained: its writes, the maxima of its last item, and the rank's next item. -/
theorem keeps_drainItem (s : State) (id r : Nat) (o : Op) (m : MillRun) (k : MillRank) (items : List MillItem) (ext : Ext)
    (w : Drain) (stages : List Nat) : Keeps s (s.drainItem id r o m k items ext w stages) := by
  have hwrites : ∀ (c : Prop) [Decidable c] (a : Agent),
      Wrote.Kept s (if c then .ok s else s.drainWrites a ext k.tile w) :=
    fun _ _ _ => .ite (Keeps.refl _) (wrote_drainWrites ..)
  have hmaxima : ∀ (c : Prop) [Decidable c] (t : State) (a : Agent) (x : Nat),
      Wrote.Kept t (if c then t.amaxAtomic id a ext o.desc x else .ok t) :=
    fun _ _ _ _ _ => .ite (wrote_amaxAtomic ..) (Keeps.refl _)
  unfold State.drainItem
  dsimp only
  split
  · exact .refl _
  · next s1 st x h1 => exact .after (keeps_millFails ..) ((hwrites ..).of_bad h1)
  · next s1 h1 =>
    have hk1 : Keeps s s1 := (hwrites ..).of_ok h1
    split
    · exact .refl _
    · next s2 st x h2 => exact .after (keeps_millFails ..) (hk1.trans ((hmaxima ..).of_bad h2))
    · next s2 h2 =>
      have hk3 := fun g h => (hk1.trans ((hmaxima ..).of_ok h2)).trans (((keeps_addFlags s2 id w.flags).trans
        (keeps_modRank _ id r g)).trans (keeps_modMill _ id h))
      split
      · exact hk3 ..
      · exact .ite (.after (keeps_millEnd ..) (hk3 ..)) (.after (keeps_refreshBoard ..) (hk3 ..))

theorem keeps_attendBlock (s : State) (id r : Nat) (ext : Ext) : Keeps s (s.attendBlock id r ext) := by
  unfold State.attendBlock
  refine keeps_attendPasses (fun _ _ _ _ _ _ _ => ?_) ..
  dsimp only
  split
  · exact .refl _
  · exact .after (keeps_drainItem ..) (keeps_modRank ..)

theorem keeps_packBlock (s : State) (id r : Nat) (ext : Ext) : Keeps s (s.packBlock id r ext) := by
  unfold State.packBlock
  split
  · split
    · exact .refl _
    · dsimp only
      split
      · exact .refl _
      · refine .ite (.refl _) ?_
        split
        · exact .refl _
        · exact keeps_millFails ..
        · exact .after (keeps_drainItem ..) (.after (keeps_touchReads ..) (.after (keeps_noteLatencies ..)
            (keeps_start ..)))
  · exact .refl _

theorem keeps_gemmBlock (s : State) (id r : Nat) (ext : Ext) : Keeps s (s.gemmBlock id r ext) := by
  unfold State.gemmBlock
  dsimp only
  split
  · split
    · exact keeps_consume ..
    · split
      · refine .ite (keeps_consume ..) ?_
        split
        · exact keeps_consume ..
        · exact .after (keeps_millFails ..) (keeps_consume ..)
        · exact .after (keeps_drainItem ..) (.after (keeps_touchReads ..) (keeps_consume ..))
      · exact keeps_consume ..
  · exact keeps_consume ..

theorem answers_millBlockDone (s0 : State) (op rank : Nat) (ext : Ext) :
    Answers s0 (execMillBlockDone op rank ext s0) := by
  unfold execMillBlockDone
  dsimp only
  split
  · exact .next (keeps_findErrors ..)
  · refine .ite (.next (.after (keeps_attendBlock ..) (keeps_findErrors ..))) ?_
    refine .ite (.next (.after (keeps_packBlock ..) (keeps_findErrors ..))) ?_
    exact .ite (.next (.after (keeps_gemmBlock ..) (keeps_findErrors ..))) (.next (keeps_findErrors ..))

theorem keeps_walkTouch (s : State) (die f va pond : Nat) : Keeps s (s.walkTouch die f va pond) := by
  unfold State.walkTouch
  exact .fold (fun _ _ => keeps_loftTouch ..)

theorem keeps_fillWalkCache (s : State) (die f va : Nat) : Keeps s (s.fillWalkCache die f va) := by
  unfold State.fillWalkCache
  exact .update (.refl _)

theorem keeps_fillTlb (s : State) (t : Translation) : Keeps s (s.fillTlb t) := by
  unfold State.fillTlb
  exact .update (.refl _)

theorem answers_walkDone (s : State) (die f slot va tile op : Nat) :
    Answers s (execWalkDone die f slot va tile op s) := by
  unfold execWalkDone
  dsimp only
  split
  · exact .next (.refl _)
  · refine .next ?_
    split
    · exact .ite (.after (apart_decide ..).keeps (.update (.refl _))) (.update (.refl _))
    · exact .update (.refl _)
  · refine .next ?_
    split
    · exact .ite (.after (apart_decide ..).keeps (.update (.update (.refl _)))) (.update (.update (.refl _)))
    · exact .update (.update (.refl _))
  · split
    · refine .next ?_
      split
      · exact .ite (.after (apart_decide ..).keeps (.update (.update (.refl _)))) (.update (.update (.refl _)))
      · exact .update (.update (.refl _))
    · refine .next ?_
      split
      · exact .ite (.after (apart_decide ..).keeps (.update (.refl _))) (.update (.refl _))
      · exact .update (.refl _)
    · exact .next (.refl _)
    · refine .next ?_
      refine .ite ?_ ?_
      · exact .after (keeps_walkTouch ..) (.after (keeps_fillWalkCache ..) (.after (keeps_fillTlb ..) (.update (.update
          (.refl _)))))
      · exact .after (keeps_fillMicro ..) (.after (keeps_walkTouch ..) (.after (keeps_fillWalkCache ..) (.after
          (keeps_fillTlb ..) (.update (.update (.refl _))))))

theorem keeps_vaneEnter (s : State) (id : Nat) (o : Op) (load : Bool) : Keeps s (s.vaneEnter id o load) := by
  unfold State.vaneEnter
  split
  · exact (apart_decide ..).keeps
  · dsimp only
    split
    · exact (apart_decide ..).keeps
    · exact .update (keeps_enqueue ..)

theorem keeps_putProg (s : State) (tile i : Nat) (bs : List Byte) : Keeps s (s.putProg tile i bs) :=
  .of_wf rfl id id (Memory.wf_write _ _)

theorem keeps_halfLoad (s : State) (a : Agent) (ext : Ext) (d : Nat) (tiles : List Nat) :
    Keeps s (s.halfLoad a ext d tiles) := by
  unfold State.halfLoad
  refine .fold (fun s x => ?_)
  refine .fold (fun s x => ?_)
  dsimp only
  split
  · exact .ite (keeps_drawFree ..) (.after (keeps_putProg ..) (keeps_drawFree ..))
  · exact .refl _

theorem answers_vaneLoad (s1 : State) (op : Nat) (ext : Ext) : Answers s1 (execVaneLoad op ext s1) := by
  unfold execVaneLoad
  dsimp only
  split
  · refine .ite ?_ ?_
    · refine .next ?_
      split
      · exact .after (keeps_vaneEnter ..) (keeps_findErrors ..)
      · exact keeps_findErrors ..
    · split
      · refine .next ?_
        split
        · exact .after (keeps_vaneEnter ..) (keeps_findErrors ..)
        · exact keeps_findErrors ..
      · refine .next ?_
        refine .after (.after (apart_decide ..).keeps (keeps_halfLoad ..)) ?_
        split
        · exact .after (keeps_vaneEnter ..) (keeps_findErrors ..)
        · exact keeps_findErrors ..
      · refine .next ?_
        refine .after (.after (apart_succeed ..).keeps (.after (.fold (fun _ _ => keeps_putProg ..)) (.after
          (keeps_touchRead ..) (.after (keeps_noteLatencies ..) (keeps_start ..))))) ?_
        split
        · exact .after (keeps_vaneEnter ..) (keeps_findErrors ..)
        · exact keeps_findErrors ..
  · refine .next ?_
    refine .after (keeps_asksTiles ..) ?_
    split
    · exact .after (keeps_vaneEnter ..) (keeps_findErrors ..)
    · exact keeps_findErrors ..

theorem answers_vaneRun (s : State) (op : Nat) : Answers s (execVaneRun op s) := by
  unfold execVaneRun
  split
  · exact .next (keeps_asksTiles ..)
  · exact .next (keeps_vaneEnter ..)

theorem answers_vaneRunStart (s : State) (op : Nat) : Answers s (execVaneRunStart op s) := by
  unfold execVaneRunStart
  split
  · exact .ite (.next (.refl _)) (.next (.after (keeps_start ..) (.update (.refl _))))
  · exact .next (.refl _)

theorem answers_vaneRunComplete (s : State) (op : Nat) : Answers s (execVaneRunComplete op s) := by
  unfold execVaneRunComplete
  split
  · exact .next (.refl _)
  · exact .ite (.next (.refl _)) (.ite (.next (apart_decide ..).keeps) (.next (apart_succeed ..).keeps))

theorem vaneAt_s {s : State} {id r : Nat} {e : VaneEnv} (h : s.vaneAt id r = some e) : e.s = s := by
  unfold State.vaneAt at h
  split at h
  · split at h
    · cases h
    · split at h
      · cases h
      · exact (Option.some.inj h) ▸ rfl
  · cases h

theorem keeps_vaneRaise (s : State) (id rank pc status trap : Nat) : Keeps s (s.vaneRaise id rank pc status trap) := by
  unfold State.vaneRaise
  exact (apart_decide ..).keeps

theorem answers_vaneTimeout (s : State) (op rank : Nat) : Answers s (execVaneTimeout op rank s) := by
  unfold execVaneTimeout
  split
  · exact .next (.refl _)
  · exact .next (keeps_vaneRaise ..)

theorem keeps_freeBytes (s : State) (n : Nat) : Keeps s (s.freeBytes n).2 := by
  unfold State.freeBytes
  exact .update (.refl _)

theorem keeps_transferBytes (s : State) (t : Transfer) (bytes : List Byte) :
    Keeps s (s.transferBytes t bytes).2 := by
  unfold State.transferBytes
  split
  · exact .refl _
  · exact keeps_freeBytes ..

theorem wrote_moveTransfer (s : State) (a : Agent) (ext : Ext) (tile : Nat) (t : Transfer) :
    Wrote.Kept s (s.moveTransfer a ext tile t) := by
  unfold State.moveTransfer
  refine .ite ?_ ((wrote_writeVa ..).of_keeps (keeps_transferBytes ..))
  split
  · dsimp only
    exact .ok (.after (keeps_putSram ..) (.after (keeps_noteLatencies ..) (.after (keeps_touchRead ..)
      (keeps_transferBytes ..))))
  · exact .bad (.refl _)
  · exact .stall

theorem keeps_dropTransfer (s : State) (id r tid : Nat) : Keeps s (s.dropTransfer id r tid) := by
  unfold State.dropTransfer
  exact .update (.refl _)

theorem answers_transferDone (s0 : State) (op rank id : Nat) (ext : Ext) :
    Answers s0 (execTransferDone op rank id ext s0) := by
  unfold execTransferDone
  dsimp only
  split
  · refine .ite (.next (.ite (.update (keeps_findErrors ..)) (keeps_findErrors ..))) ?_
    refine .ite (.next (keeps_findErrors ..)) ?_
    split
    · exact .next (.update (.after ((wrote_moveTransfer ..).of_ok ‹_›) (keeps_findErrors ..)))
    · exact .next (.update (.after ((wrote_moveTransfer ..).of_bad ‹_›) (keeps_findErrors ..)))
    · exact .next (keeps_findErrors ..)
  · split
    · split
      · exact .next (keeps_findErrors ..)
      · split
        · exact .next (keeps_findErrors ..)
        · refine .ite ?_ ?_
          · exact .next (.ite (.after (keeps_dropTransfer ..) (keeps_findErrors ..)) (keeps_findErrors ..))
          · refine .ite (.next (keeps_findErrors ..)) ?_
            split
            · exact .next (.after (keeps_dropTransfer ..) (.after ((wrote_moveTransfer ..).of_ok ‹_›)
                (keeps_findErrors ..)))
            · refine .next ?_
              refine .after (.after (keeps_vaneRaise ..) (keeps_dropTransfer ..)) ?_
              exact .ite (.after ((wrote_moveTransfer ..).of_bad ‹_›) (keeps_findErrors ..)) (keeps_findErrors ..)
            · exact .next (keeps_findErrors ..)
    · exact .next (keeps_findErrors ..)

theorem answers_msendLanded (s : State) (op rank id : Nat) : Answers s (execMsendLanded op rank id s) := by
  unfold execMsendLanded
  split
  · exact .ite (.next (.refl _)) (.next (.update (.after (keeps_putSram ..) (keeps_transferBytes ..))))
  · split
    · exact .next (.refl _)
    · split
      · exact .next (.refl _)
      · exact .ite (.next (.refl _)) (.next (.update (.after (keeps_putSram ..) (keeps_transferBytes ..))))

theorem vaneEnv_s {s : State} {id r : Nat} {e : VaneEnv} (h : s.vaneEnv id r = some e) : e.s = s :=
  vaneAt_s (Option.filter_eq_some_iff.1 h).1

theorem keeps_vaneNoFetch (s : State) (id r : Nat) : Keeps s (s.vaneNoFetch id r) := by
  unfold State.vaneNoFetch
  split
  · exact .refl _
  · exact keeps_vaneRaise ..

theorem keeps_vaneCommit (s : State) (id r : Nat) (run : VaneRun) : Keeps s (s.vaneCommit id r run) := by
  unfold State.vaneCommit
  exact .after (keeps_addFlags ..) (.update (.refl _))

theorem keeps_vaneApply {s : State} {e : VaneEnv} {res : VaneRes} (h : res.Kept s) : Keeps s (s.vaneApply e res) := by
  have hrange := keeps_vaneRaise s e.id e.r e.k.pc Status.vanePcRange 0
  unfold State.vaneApply
  cases res with
  | ok s1 run => exact .ite hrange (Keeps.trans h (keeps_vaneCommit ..))
  | jump run t => exact .ite hrange (keeps_vaneCommit ..)
  | halt => exact keeps_vaneCommit ..
  | trap c => exact keeps_vaneRaise ..
  | bad st => exact .ite hrange (keeps_vaneRaise ..)
  | wait => exact .ite hrange (.refl _)

theorem keeps_vaneExec {body : VaneEnv → VaneRes} (h : ∀ e, (body e).Kept e.s) (s : State) (id r op : Nat) :
    Keeps s (vaneExec s id r op body) := by
  unfold vaneExec
  split
  · exact keeps_vaneNoFetch ..
  · next e he => exact .ite (.refl _) (.ite (keeps_vaneRaise ..) (keeps_vaneApply (vaneEnv_s he ▸ h e)))

theorem vaneRes_vaneEnvDone (e : VaneEnv) (k : VaneRank) : VaneRes.Kept e.s (e.done k) := by
  unfold VaneEnv.done
  exact .ok (.refl _)

theorem answers_vaneNop (s : State) (op rank : Nat) : Answers s (execVaneNop op rank s) := by
  unfold execVaneNop
  exact .next (keeps_vaneExec (fun _ => vaneRes_vaneEnvDone ..) ..)

theorem answers_halt (s : State) (op rank : Nat) : Answers s (execHalt op rank s) := by
  unfold execHalt
  exact .next (keeps_vaneExec (fun _ => by trivial) ..)

theorem answers_trap (s : State) (op rank : Nat) : Answers s (execTrap op rank s) := by
  unfold execTrap
  exact .next (keeps_vaneExec (fun _ => by trivial) ..)

theorem answers_fence (s : State) (op rank : Nat) : Answers s (execFence op rank s) := by
  unfold execFence
  refine .next ?_
  refine keeps_vaneExec (fun _ => ?_) ..
  split
  · exact vaneRes_vaneEnvDone ..
  · exact trivial

theorem vaneRes_vaneEnvBranch (e : VaneEnv) (c : Bool) : VaneRes.Kept e.s (e.branch c) := by
  unfold VaneEnv.branch
  split
  · exact trivial
  · exact vaneRes_vaneEnvDone ..

theorem answers_br (s : State) (op rank : Nat) : Answers s (execBr op rank s) := by
  unfold execBr
  exact .next (keeps_vaneExec (fun _ => vaneRes_vaneEnvBranch ..) ..)

theorem answers_beq (s : State) (op rank : Nat) : Answers s (execBeq op rank s) := by
  unfold execBeq
  exact .next (keeps_vaneExec (fun _ => vaneRes_vaneEnvBranch ..) ..)

theorem answers_bne (s : State) (op rank : Nat) : Answers s (execBne op rank s) := by
  unfold execBne
  exact .next (keeps_vaneExec (fun _ => vaneRes_vaneEnvBranch ..) ..)

theorem answers_blt (s : State) (op rank : Nat) : Answers s (execBlt op rank s) := by
  unfold execBlt
  exact .next (keeps_vaneExec (fun _ => vaneRes_vaneEnvBranch ..) ..)

theorem answers_bge (s : State) (op rank : Nat) : Answers s (execBge op rank s) := by
  unfold execBge
  exact .next (keeps_vaneExec (fun _ => vaneRes_vaneEnvBranch ..) ..)

theorem answers_bltu (s : State) (op rank : Nat) : Answers s (execBltu op rank s) := by
  unfold execBltu
  exact .next (keeps_vaneExec (fun _ => vaneRes_vaneEnvBranch ..) ..)

theorem answers_jal (s : State) (op rank : Nat) : Answers s (execJal op rank s) := by
  unfold execJal
  exact .next (keeps_vaneExec (fun _ => by trivial) ..)

theorem answers_jr (s : State) (op rank : Nat) : Answers s (execJr op rank s) := by
  unfold execJr
  exact .next (keeps_vaneExec (fun _ => by trivial) ..)

theorem answers_bany (s : State) (op rank : Nat) : Answers s (execBany op rank s) := by
  unfold execBany
  exact .next (keeps_vaneExec (fun _ => vaneRes_vaneEnvBranch ..) ..)

theorem answers_bnone (s : State) (op rank : Nat) : Answers s (execBnone op rank s) := by
  unfold execBnone
  exact .next (keeps_vaneExec (fun _ => vaneRes_vaneEnvBranch ..) ..)

theorem vaneRes_srdBody (e : VaneEnv) : VaneRes.Kept e.s (srdBody e) := by
  unfold srdBody
  dsimp only
  split
  · exact .ok (keeps_drawFree ..)
  · exact vaneRes_vaneEnvDone ..
  · exact vaneRes_vaneEnvDone ..
  · exact vaneRes_vaneEnvDone ..
  · exact vaneRes_vaneEnvDone ..
  · exact vaneRes_vaneEnvDone ..
  · exact vaneRes_vaneEnvDone ..
  · exact vaneRes_vaneEnvDone ..

theorem answers_srd (s : State) (op rank : Nat) : Answers s (execSrd op rank s) := by
  unfold execSrd
  exact .next (keeps_vaneExec (fun _ => vaneRes_srdBody ..) ..)

theorem vaneRes_waitcBody (e : VaneEnv) : VaneRes.Kept e.s (waitcBody e) := by
  unfold waitcBody
  dsimp only
  split
  · exact vaneRes_vaneEnvDone ..
  · exact trivial

theorem answers_waitc (s : State) (op rank : Nat) : Answers s (execWaitc op rank s) := by
  unfold execWaitc
  exact .next (keeps_vaneExec (fun _ => vaneRes_waitcBody ..) ..)

theorem vaneRes_vaneEnvScalar (e : VaneEnv) (v : ℤ) : VaneRes.Kept e.s (e.scalar v) := by
  unfold VaneEnv.scalar
  exact vaneRes_vaneEnvDone ..

theorem answers_sadd (s : State) (op rank : Nat) : Answers s (execSadd op rank s) := by
  unfold execSadd
  exact .next (keeps_vaneExec (fun _ => vaneRes_vaneEnvScalar ..) ..)

theorem answers_ssub (s : State) (op rank : Nat) : Answers s (execSsub op rank s) := by
  unfold execSsub
  exact .next (keeps_vaneExec (fun _ => vaneRes_vaneEnvScalar ..) ..)

theorem answers_smul (s : State) (op rank : Nat) : Answers s (execSmul op rank s) := by
  unfold execSmul
  exact .next (keeps_vaneExec (fun _ => vaneRes_vaneEnvScalar ..) ..)

theorem answers_sand (s : State) (op rank : Nat) : Answers s (execSand op rank s) := by
  unfold execSand
  exact .next (keeps_vaneExec (fun _ => vaneRes_vaneEnvScalar ..) ..)

theorem answers_sor (s : State) (op rank : Nat) : Answers s (execSor op rank s) := by
  unfold execSor
  exact .next (keeps_vaneExec (fun _ => vaneRes_vaneEnvScalar ..) ..)

theorem answers_sxor (s : State) (op rank : Nat) : Answers s (execSxor op rank s) := by
  unfold execSxor
  exact .next (keeps_vaneExec (fun _ => vaneRes_vaneEnvScalar ..) ..)

theorem answers_sshl (s : State) (op rank : Nat) : Answers s (execSshl op rank s) := by
  unfold execSshl
  exact .next (keeps_vaneExec (fun _ => vaneRes_vaneEnvScalar ..) ..)

theorem answers_sshr (s : State) (op rank : Nat) : Answers s (execSshr op rank s) := by
  unfold execSshr
  exact .next (keeps_vaneExec (fun _ => vaneRes_vaneEnvScalar ..) ..)

theorem answers_ssra (s : State) (op rank : Nat) : Answers s (execSsra op rank s) := by
  unfold execSsra
  exact .next (keeps_vaneExec (fun _ => vaneRes_vaneEnvScalar ..) ..)

theorem answers_saddi (s : State) (op rank : Nat) : Answers s (execSaddi op rank s) := by
  unfold execSaddi
  exact .next (keeps_vaneExec (fun _ => vaneRes_vaneEnvScalar ..) ..)

theorem answers_smovi (s : State) (op rank : Nat) : Answers s (execSmovi op rank s) := by
  unfold execSmovi
  exact .next (keeps_vaneExec (fun _ => vaneRes_vaneEnvScalar ..) ..)

theorem answers_smovhi (s : State) (op rank : Nat) : Answers s (execSmovhi op rank s) := by
  unfold execSmovhi
  exact .next (keeps_vaneExec (fun _ => vaneRes_vaneEnvScalar ..) ..)

theorem keeps_vaneEnvLoad (s : State) (e : VaneEnv) (off n : Nat) : Keeps s (e.load s off n).2 := by
  unfold VaneEnv.load
  dsimp only
  split
  · exact .refl _
  · exact keeps_freeBytes ..

theorem vaneRes_sldBody (e : VaneEnv) : VaneRes.Kept e.s (sldBody e) := by
  unfold sldBody
  split
  · exact trivial
  · split
    · exact trivial
    · dsimp only
      exact .ok (keeps_vaneEnvLoad ..)

theorem answers_sld (s : State) (op rank : Nat) : Answers s (execSld op rank s) := by
  unfold execSld
  exact .next (keeps_vaneExec (fun _ => vaneRes_sldBody ..) ..)

theorem keeps_vaneEnvStore (e : VaneEnv) (x : State × VaneRun) (off : Nat) (bytes : List Byte) :
    Keeps x.1 (e.store x off bytes).1 := by
  unfold VaneEnv.store
  exact keeps_putSram ..

theorem vaneRes_sstBody (e : VaneEnv) : VaneRes.Kept e.s (sstBody e) := by
  unfold sstBody
  split
  · trivial
  · exact keeps_vaneEnvStore e (e.s, e.run) ..

theorem answers_sst (s : State) (op rank : Nat) : Answers s (execSst op rank s) := by
  unfold execSst
  exact .next (keeps_vaneExec (fun _ => vaneRes_sstBody ..) ..)

theorem answers_sslt (s : State) (op rank : Nat) : Answers s (execSslt op rank s) := by
  unfold execSslt
  exact .next (keeps_vaneExec (fun _ => vaneRes_vaneEnvScalar ..) ..)

theorem vaneRes_vaneEnvVec (e : VaneEnv) (f : Nat → Nat × Nat) : VaneRes.Kept e.s (e.vec f) := by
  unfold VaneEnv.vec
  exact vaneRes_vaneEnvDone ..

theorem vaneRes_vaneEnvFp (e : VaneEnv) (g : Nat → Nat → Nat × Nat) : VaneRes.Kept e.s (e.fp g) := by
  unfold VaneEnv.fp
  exact vaneRes_vaneEnvVec ..

theorem answers_vadd (s : State) (op rank : Nat) : Answers s (execVadd op rank s) := by
  unfold execVadd
  exact .next (keeps_vaneExec (fun _ => vaneRes_vaneEnvFp ..) ..)

theorem answers_vsub (s : State) (op rank : Nat) : Answers s (execVsub op rank s) := by
  unfold execVsub
  exact .next (keeps_vaneExec (fun _ => vaneRes_vaneEnvFp ..) ..)

theorem answers_vmul (s : State) (op rank : Nat) : Answers s (execVmul op rank s) := by
  unfold execVmul
  exact .next (keeps_vaneExec (fun _ => vaneRes_vaneEnvFp ..) ..)

theorem answers_vfma (s : State) (op rank : Nat) : Answers s (execVfma op rank s) := by
  unfold execVfma
  exact .next (keeps_vaneExec (fun _ => vaneRes_vaneEnvVec ..) ..)

theorem answers_vfms (s : State) (op rank : Nat) : Answers s (execVfms op rank s) := by
  unfold execVfms
  exact .next (keeps_vaneExec (fun _ => vaneRes_vaneEnvVec ..) ..)

theorem answers_vmin (s : State) (op rank : Nat) : Answers s (execVmin op rank s) := by
  unfold execVmin
  exact .next (keeps_vaneExec (fun _ => vaneRes_vaneEnvFp ..) ..)

theorem answers_vmax (s : State) (op rank : Nat) : Answers s (execVmax op rank s) := by
  unfold execVmax
  exact .next (keeps_vaneExec (fun _ => vaneRes_vaneEnvFp ..) ..)

theorem answers_vabs (s : State) (op rank : Nat) : Answers s (execVabs op rank s) := by
  unfold execVabs
  exact .next (keeps_vaneExec (fun _ => vaneRes_vaneEnvVec ..) ..)

theorem answers_vneg (s : State) (op rank : Nat) : Answers s (execVneg op rank s) := by
  unfold execVneg
  exact .next (keeps_vaneExec (fun _ => vaneRes_vaneEnvVec ..) ..)

theorem answers_vdiv (s : State) (op rank : Nat) : Answers s (execVdiv op rank s) := by
  unfold execVdiv
  exact .next (keeps_vaneExec (fun _ => vaneRes_vaneEnvFp ..) ..)

theorem answers_vsqrt (s : State) (op rank : Nat) : Answers s (execVsqrt op rank s) := by
  unfold execVsqrt
  exact .next (keeps_vaneExec (fun _ => vaneRes_vaneEnvVec ..) ..)

theorem answers_vadds (s : State) (op rank : Nat) : Answers s (execVadds op rank s) := by
  unfold execVadds
  exact .next (keeps_vaneExec (fun _ => vaneRes_vaneEnvVec ..) ..)

theorem answers_vmuls (s : State) (op rank : Nat) : Answers s (execVmuls op rank s) := by
  unfold execVmuls
  exact .next (keeps_vaneExec (fun _ => vaneRes_vaneEnvVec ..) ..)

theorem answers_vfmas (s : State) (op rank : Nat) : Answers s (execVfmas op rank s) := by
  unfold execVfmas
  exact .next (keeps_vaneExec (fun _ => vaneRes_vaneEnvVec ..) ..)

theorem vaneRes_vaneEnvPacked (e : VaneEnv) (g : Nat → Nat → Nat → Nat × Nat) : VaneRes.Kept e.s (e.packed g) := by
  unfold VaneEnv.packed
  exact vaneRes_vaneEnvVec ..

theorem answers_hadd (s : State) (op rank : Nat) : Answers s (execHadd op rank s) := by
  unfold execHadd
  exact .next (keeps_vaneExec (fun _ => vaneRes_vaneEnvPacked ..) ..)

theorem answers_hsub (s : State) (op rank : Nat) : Answers s (execHsub op rank s) := by
  unfold execHsub
  exact .next (keeps_vaneExec (fun _ => vaneRes_vaneEnvPacked ..) ..)

theorem answers_hmul (s : State) (op rank : Nat) : Answers s (execHmul op rank s) := by
  unfold execHmul
  exact .next (keeps_vaneExec (fun _ => vaneRes_vaneEnvPacked ..) ..)

theorem answers_hfma (s : State) (op rank : Nat) : Answers s (execHfma op rank s) := by
  unfold execHfma
  exact .next (keeps_vaneExec (fun _ => vaneRes_vaneEnvPacked ..) ..)

theorem answers_hmin (s : State) (op rank : Nat) : Answers s (execHmin op rank s) := by
  unfold execHmin
  exact .next (keeps_vaneExec (fun _ => vaneRes_vaneEnvPacked ..) ..)

theorem answers_hmax (s : State) (op rank : Nat) : Answers s (execHmax op rank s) := by
  unfold execHmax
  exact .next (keeps_vaneExec (fun _ => vaneRes_vaneEnvPacked ..) ..)

theorem vaneRes_vaneEnvTrans (e : VaneEnv) : VaneRes.Kept e.s e.trans := by
  unfold VaneEnv.trans
  exact vaneRes_vaneEnvVec ..

theorem answers_vexp (s : State) (op rank : Nat) : Answers s (execVexp op rank s) := by
  unfold execVexp
  exact .next (keeps_vaneExec (fun _ => vaneRes_vaneEnvTrans ..) ..)

theorem answers_vlog (s : State) (op rank : Nat) : Answers s (execVlog op rank s) := by
  unfold execVlog
  exact .next (keeps_vaneExec (fun _ => vaneRes_vaneEnvTrans ..) ..)

theorem answers_vrcp (s : State) (op rank : Nat) : Answers s (execVrcp op rank s) := by
  unfold execVrcp
  exact .next (keeps_vaneExec (fun _ => vaneRes_vaneEnvTrans ..) ..)

theorem answers_vrsqrt (s : State) (op rank : Nat) : Answers s (execVrsqrt op rank s) := by
  unfold execVrsqrt
  exact .next (keeps_vaneExec (fun _ => vaneRes_vaneEnvTrans ..) ..)

theorem answers_vsin (s : State) (op rank : Nat) : Answers s (execVsin op rank s) := by
  unfold execVsin
  exact .next (keeps_vaneExec (fun _ => vaneRes_vaneEnvTrans ..) ..)

theorem answers_vcos (s : State) (op rank : Nat) : Answers s (execVcos op rank s) := by
  unfold execVcos
  exact .next (keeps_vaneExec (fun _ => vaneRes_vaneEnvTrans ..) ..)

theorem answers_vtanh (s : State) (op rank : Nat) : Answers s (execVtanh op rank s) := by
  unfold execVtanh
  exact .next (keeps_vaneExec (fun _ => vaneRes_vaneEnvTrans ..) ..)

theorem answers_verf (s : State) (op rank : Nat) : Answers s (execVerf op rank s) := by
  unfold execVerf
  exact .next (keeps_vaneExec (fun _ => vaneRes_vaneEnvTrans ..) ..)

theorem vaneRes_vaneEnvInt (e : VaneEnv) (f : Nat → Nat → ℤ) : VaneRes.Kept e.s (e.int f) := by
  unfold VaneEnv.int
  exact vaneRes_vaneEnvVec ..

theorem answers_viadd (s : State) (op rank : Nat) : Answers s (execViadd op rank s) := by
  unfold execViadd
  exact .next (keeps_vaneExec (fun _ => vaneRes_vaneEnvInt ..) ..)

theorem answers_visub (s : State) (op rank : Nat) : Answers s (execVisub op rank s) := by
  unfold execVisub
  exact .next (keeps_vaneExec (fun _ => vaneRes_vaneEnvInt ..) ..)

theorem answers_vimul (s : State) (op rank : Nat) : Answers s (execVimul op rank s) := by
  unfold execVimul
  exact .next (keeps_vaneExec (fun _ => vaneRes_vaneEnvInt ..) ..)

theorem answers_vand (s : State) (op rank : Nat) : Answers s (execVand op rank s) := by
  unfold execVand
  exact .next (keeps_vaneExec (fun _ => vaneRes_vaneEnvInt ..) ..)

theorem answers_vor (s : State) (op rank : Nat) : Answers s (execVor op rank s) := by
  unfold execVor
  exact .next (keeps_vaneExec (fun _ => vaneRes_vaneEnvInt ..) ..)

theorem answers_vxor (s : State) (op rank : Nat) : Answers s (execVxor op rank s) := by
  unfold execVxor
  exact .next (keeps_vaneExec (fun _ => vaneRes_vaneEnvInt ..) ..)

theorem answers_vshl (s : State) (op rank : Nat) : Answers s (execVshl op rank s) := by
  unfold execVshl
  exact .next (keeps_vaneExec (fun _ => vaneRes_vaneEnvInt ..) ..)

theorem answers_vshr (s : State) (op rank : Nat) : Answers s (execVshr op rank s) := by
  unfold execVshr
  exact .next (keeps_vaneExec (fun _ => vaneRes_vaneEnvInt ..) ..)

theorem answers_vsra (s : State) (op rank : Nat) : Answers s (execVsra op rank s) := by
  unfold execVsra
  exact .next (keeps_vaneExec (fun _ => vaneRes_vaneEnvInt ..) ..)

theorem answers_vimin (s : State) (op rank : Nat) : Answers s (execVimin op rank s) := by
  unfold execVimin
  exact .next (keeps_vaneExec (fun _ => vaneRes_vaneEnvInt ..) ..)

theorem answers_vimax (s : State) (op rank : Nat) : Answers s (execVimax op rank s) := by
  unfold execVimax
  exact .next (keeps_vaneExec (fun _ => vaneRes_vaneEnvInt ..) ..)

theorem vaneRes_vaneEnvCompare (e : VaneEnv) (f : Nat → Bool × Nat) : VaneRes.Kept e.s (e.compare f) := by
  unfold VaneEnv.compare
  exact vaneRes_vaneEnvDone ..

theorem answers_vcmp (s : State) (op rank : Nat) : Answers s (execVcmp op rank s) := by
  unfold execVcmp
  exact .next (keeps_vaneExec (fun _ => vaneRes_vaneEnvCompare ..) ..)

theorem answers_vicmp (s : State) (op rank : Nat) : Answers s (execVicmp op rank s) := by
  unfold execVicmp
  exact .next (keeps_vaneExec (fun _ => vaneRes_vaneEnvCompare ..) ..)

theorem answers_pand (s : State) (op rank : Nat) : Answers s (execPand op rank s) := by
  unfold execPand
  exact .next (keeps_vaneExec (fun _ => vaneRes_vaneEnvDone ..) ..)

theorem answers_por (s : State) (op rank : Nat) : Answers s (execPor op rank s) := by
  unfold execPor
  exact .next (keeps_vaneExec (fun _ => vaneRes_vaneEnvDone ..) ..)

theorem answers_pxor (s : State) (op rank : Nat) : Answers s (execPxor op rank s) := by
  unfold execPxor
  exact .next (keeps_vaneExec (fun _ => vaneRes_vaneEnvDone ..) ..)

theorem answers_pnot (s : State) (op rank : Nat) : Answers s (execPnot op rank s) := by
  unfold execPnot
  exact .next (keeps_vaneExec (fun _ => vaneRes_vaneEnvDone ..) ..)

theorem answers_pset (s : State) (op rank : Nat) : Answers s (execPset op rank s) := by
  unfold execPset
  exact .next (keeps_vaneExec (fun _ => vaneRes_vaneEnvDone ..) ..)

theorem answers_pget (s : State) (op rank : Nat) : Answers s (execPget op rank s) := by
  unfold execPget
  exact .next (keeps_vaneExec (fun _ => vaneRes_vaneEnvScalar ..) ..)

theorem answers_vsel (s : State) (op rank : Nat) : Answers s (execVsel op rank s) := by
  unfold execVsel
  exact .next (keeps_vaneExec (fun _ => vaneRes_vaneEnvVec ..) ..)

theorem answers_vmovi (s : State) (op rank : Nat) : Answers s (execVmovi op rank s) := by
  unfold execVmovi
  exact .next (keeps_vaneExec (fun _ => vaneRes_vaneEnvVec ..) ..)

theorem answers_vbcast (s : State) (op rank : Nat) : Answers s (execVbcast op rank s) := by
  unfold execVbcast
  exact .next (keeps_vaneExec (fun _ => vaneRes_vaneEnvVec ..) ..)

theorem answers_vlane (s : State) (op rank : Nat) : Answers s (execVlane op rank s) := by
  unfold execVlane
  exact .next (keeps_vaneExec (fun _ => vaneRes_vaneEnvVec ..) ..)

theorem answers_vshuf (s : State) (op rank : Nat) : Answers s (execVshuf op rank s) := by
  unfold execVshuf
  exact .next (keeps_vaneExec (fun _ => vaneRes_vaneEnvVec ..) ..)

theorem answers_vextr (s : State) (op rank : Nat) : Answers s (execVextr op rank s) := by
  unfold execVextr
  exact .next (keeps_vaneExec (fun _ => vaneRes_vaneEnvScalar ..) ..)

theorem answers_vins (s : State) (op rank : Nat) : Answers s (execVins op rank s) := by
  unfold execVins
  exact .next (keeps_vaneExec (fun _ => vaneRes_vaneEnvDone ..) ..)

theorem answers_vpk2 (s : State) (op rank : Nat) : Answers s (execVpk2 op rank s) := by
  unfold execVpk2
  exact .next (keeps_vaneExec (fun _ => vaneRes_vaneEnvVec ..) ..)

theorem vaneRes_vrsumBody (e : VaneEnv) : VaneRes.Kept e.s (vrsumBody e) := by
  unfold vrsumBody
  exact vaneRes_vaneEnvDone ..

theorem answers_vrsum (s : State) (op rank : Nat) : Answers s (execVrsum op rank s) := by
  unfold execVrsum
  exact .next (keeps_vaneExec (fun _ => vaneRes_vrsumBody ..) ..)

theorem vaneRes_extremeBody (low : Bool) (e : VaneEnv) : VaneRes.Kept e.s (extremeBody low e) := by
  unfold extremeBody
  exact vaneRes_vaneEnvDone ..

theorem answers_vrmax (s : State) (op rank : Nat) : Answers s (execVrmax op rank s) := by
  unfold execVrmax
  exact .next (keeps_vaneExec (fun _ => vaneRes_extremeBody ..) ..)

theorem answers_vrmin (s : State) (op rank : Nat) : Answers s (execVrmin op rank s) := by
  unfold execVrmin
  exact .next (keeps_vaneExec (fun _ => vaneRes_extremeBody ..) ..)

theorem answers_vcvt (s : State) (op rank : Nat) : Answers s (execVcvt op rank s) := by
  unfold execVcvt
  exact .next (keeps_vaneExec (fun _ => vaneRes_vaneEnvVec ..) ..)

theorem answers_vpk4 (s : State) (op rank : Nat) : Answers s (execVpk4 op rank s) := by
  unfold execVpk4
  exact .next (keeps_vaneExec (fun _ => vaneRes_vaneEnvVec ..) ..)

theorem vaneRes_vaneEnvVload (e : VaneEnv) (addr : Nat → Nat) : VaneRes.Kept e.s (e.vload addr) := by
  unfold VaneEnv.vload
  dsimp only
  split
  · exact trivial
  · split
    · exact trivial
    · refine .ok ?_
      refine .fold_on Prod.snd ?_ (.refl _)
      exact fun _ _ => keeps_vaneEnvLoad ..

theorem answers_vld (s : State) (op rank : Nat) : Answers s (execVld op rank s) := by
  unfold execVld
  exact .next (keeps_vaneExec (fun _ => vaneRes_vaneEnvVload ..) ..)

theorem answers_vlds (s : State) (op rank : Nat) : Answers s (execVlds op rank s) := by
  unfold execVlds
  exact .next (keeps_vaneExec (fun _ => vaneRes_vaneEnvVload ..) ..)

theorem answers_vgath (s : State) (op rank : Nat) : Answers s (execVgath op rank s) := by
  unfold execVgath
  exact .next (keeps_vaneExec (fun _ => vaneRes_vaneEnvVload ..) ..)

theorem vaneRes_vaneEnvVstore (e : VaneEnv) (addr : Nat → Nat) : VaneRes.Kept e.s (e.vstore addr) := by
  unfold VaneEnv.vstore
  dsimp only
  split
  · exact trivial
  · refine .ok ?_
    refine .fold_on Prod.fst ?_ (.refl _)
    exact fun _ _ => keeps_vaneEnvStore ..

theorem answers_vst (s : State) (op rank : Nat) : Answers s (execVst op rank s) := by
  unfold execVst
  exact .next (keeps_vaneExec (fun _ => vaneRes_vaneEnvVstore ..) ..)

theorem answers_vsts (s : State) (op rank : Nat) : Answers s (execVsts op rank s) := by
  unfold execVsts
  exact .next (keeps_vaneExec (fun _ => vaneRes_vaneEnvVstore ..) ..)

theorem answers_vscat (s : State) (op rank : Nat) : Answers s (execVscat op rank s) := by
  unfold execVscat
  exact .next (keeps_vaneExec (fun _ => vaneRes_vaneEnvVstore ..) ..)

theorem answers_qclr (s : State) (op rank : Nat) : Answers s (execQclr op rank s) := by
  unfold execQclr
  exact .next (keeps_vaneExec (fun _ => vaneRes_vaneEnvDone ..) ..)

theorem vaneRes_qmacBody (e : VaneEnv) : VaneRes.Kept e.s (qmacBody e) := by
  unfold qmacBody
  split
  · exact trivial
  · exact vaneRes_vaneEnvDone ..

theorem answers_qmac (s : State) (op rank : Nat) : Answers s (execQmac op rank s) := by
  unfold execQmac
  exact .next (keeps_vaneExec (fun _ => vaneRes_qmacBody ..) ..)

theorem vaneRes_qaddvBody (e : VaneEnv) : VaneRes.Kept e.s (qaddvBody e) := by
  unfold qaddvBody
  split
  · exact trivial
  · exact vaneRes_vaneEnvDone ..

theorem answers_qaddv (s : State) (op rank : Nat) : Answers s (execQaddv op rank s) := by
  unfold execQaddv
  exact .next (keeps_vaneExec (fun _ => vaneRes_qaddvBody ..) ..)

theorem vaneRes_qsumBody (e : VaneEnv) : VaneRes.Kept e.s (qsumBody e) := by
  unfold qsumBody
  split
  · exact trivial
  · exact vaneRes_vaneEnvDone ..

theorem answers_qsum (s : State) (op rank : Nat) : Answers s (execQsum op rank s) := by
  unfold execQsum
  exact .next (keeps_vaneExec (fun _ => vaneRes_qsumBody ..) ..)

theorem vaneRes_qldBody (e : VaneEnv) : VaneRes.Kept e.s (qldBody e) := by
  unfold qldBody
  split
  · exact vaneRes_vaneEnvDone ..
  · split
    · exact trivial
    · split
      · exact trivial
      · refine .ok ?_
        refine .fold_on Prod.snd ?_ ?_
        · exact fun _ _ => keeps_vaneEnvLoad ..
        · exact keeps_vaneEnvLoad ..

theorem answers_qld (s : State) (op rank : Nat) : Answers s (execQld op rank s) := by
  unfold execQld
  exact .next (keeps_vaneExec (fun _ => vaneRes_qldBody ..) ..)

theorem vaneRes_qstBody (e : VaneEnv) : VaneRes.Kept e.s (qstBody e) := by
  unfold qstBody
  split
  · exact vaneRes_vaneEnvDone ..
  · split
    · exact trivial
    · dsimp only
      split
      · exact trivial
      · refine .ok ?_
        refine .fold_on Prod.fst ?_ ?_
        · exact fun _ _ => keeps_vaneEnvStore ..
        · refine .fold_on Prod.fst ?_ (.refl _)
          exact fun _ _ => keeps_vaneEnvStore ..

theorem answers_qst (s : State) (op rank : Nat) : Answers s (execQst op rank s) := by
  unfold execQst
  exact .next (keeps_vaneExec (fun _ => vaneRes_qstBody ..) ..)

theorem vaneRes_vaneEnvIssue (e : VaneEnv) (t : Transfer) : VaneRes.Kept e.s (e.issue t) := by
  unfold VaneEnv.issue
  split
  · exact trivial
  · dsimp only
    exact .ok (.refl _)

theorem vaneRes_moveBody (put : Bool) (e : VaneEnv) : VaneRes.Kept e.s (moveBody put e) := by
  unfold moveBody
  split
  · exact trivial
  · split
    · exact trivial
    · exact vaneRes_vaneEnvIssue ..

theorem answers_mget (s : State) (op rank : Nat) : Answers s (execMget op rank s) := by
  unfold execMget
  exact .next (keeps_vaneExec (fun _ => vaneRes_moveBody ..) ..)

theorem answers_mput (s : State) (op rank : Nat) : Answers s (execMput op rank s) := by
  unfold execMput
  exact .next (keeps_vaneExec (fun _ => vaneRes_moveBody ..) ..)

theorem vaneRes_msendBody (e : VaneEnv) : VaneRes.Kept e.s (msendBody e) := by
  unfold msendBody
  dsimp only
  split
  · exact trivial
  · split
    · exact trivial
    · exact vaneRes_vaneEnvIssue ..

theorem answers_msend (s : State) (op rank : Nat) : Answers s (execMsend op rank s) := by
  unfold execMsend
  exact .next (keeps_vaneExec (fun _ => vaneRes_msendBody ..) ..)

theorem answers_mwait (s : State) (op rank : Nat) : Answers s (execMwait op rank s) := by
  unfold execMwait
  refine .next ?_
  refine keeps_vaneExec (fun _ => ?_) ..
  split
  · exact vaneRes_vaneEnvDone ..
  · exact trivial

theorem answers_vaneUndefinedInstr (s : State) (op rank : Nat) : Answers s (execVaneUndefinedInstr op rank s) := by
  unfold execVaneUndefinedInstr
  split
  · exact .next (keeps_vaneNoFetch ..)
  · exact .ite (.next (.refl _)) (.next (keeps_vaneRaise ..))

theorem keeps_openGroup (s : State) (id : Nat) (o : Op) (pond : Nat) (table : List Nat) (ms : List RedMember) :
    Keeps s (s.openGroup id o pond table ms) := by
  unfold State.openGroup
  refine .ite (apart_decide ..).keeps ?_
  exact .ite (apart_decide ..).keeps (.after (apart_decide ..).keeps (.update (.refl _)))

theorem answers_redOpen (s : State) (op : Nat) (ext : Ext) : Answers s (execRedOpen op ext s) := by
  unfold execRedOpen
  split
  · exact .next (.refl _)
  · dsimp only
    split
    · exact .next (.refl _)
    · exact .next (apart_decide ..).keeps
    · split
      · exact .next (apart_decide ..).keeps
      · exact .ite (.next (apart_decide ..).keeps) (.next (keeps_openGroup ..))

theorem keeps_headRun (s : State) (id : Nat) (o : Op) (k : Nat) (g : RedGroup) : Keeps s (s.headRun id o k g) := by
  unfold State.headRun
  refine .ite (keeps_startRed ..) ?_
  refine .ite (keeps_activate ..) ?_
  split
  · exact (apart_decide ..).keeps
  · exact .after (keeps_activate ..) (.after (apart_modOp ..).keeps (keeps_rejoin ..))

theorem answers_redRun (s : State) (op : Nat) : Answers s (execRedRun op s) := by
  unfold execRedRun
  dsimp only
  split
  · exact .next (keeps_asksTiles ..)
  · split
    · exact .next (apart_decide ..).keeps
    · refine .ite (.next (.ite (keeps_enqueue ..) (.refl _))) ?_
      exact .next (.after (keeps_headRun ..) (.ite (keeps_enqueue ..) (.refl _)))

theorem answers_redClose (s : State) (op : Nat) : Answers s (execRedClose op s) := by
  unfold execRedClose
  split
  · exact .next (.refl _)
  · split
    · exact .next (apart_decide ..).keeps
    · exact .ite (.next (.refl _)) (.next (.after (apart_succeed ..).keeps (.update (.refl _))))

theorem answers_redTableCrc (s : State) (f gid dev crc : Nat) : Answers s (execRedTableCrc f gid dev crc s) := by
  unfold execRedTableCrc
  dsimp only
  split
  · exact .next (.update (.refl _))
  · exact .next (.after (keeps_compareCrcs ..) (.update (.refl _)))

theorem keeps_forwardRed (s : State) (k c : Nat) : Keeps s (s.forwardRed k c) := by
  unfold State.forwardRed
  split
  · exact .refl _
  · split
    · exact .refl _
    · exact .ite (.refl _) (.after (keeps_modRun ..) (.fold (fun _ _ => (apart_send ..).keeps)))

theorem answers_redContribution (s : State) (f gid gen chunk mask : Nat) (data : RedData) (ext : Ext) :
    Answers s (execRedContribution f gid gen chunk mask data ext s) := by
  unfold execRedContribution
  dsimp only
  split
  · exact .next (.update (.refl _))
  · split
    · exact .next (.refl _)
    · refine .ite ?_ ?_
      · split
        · exact .ite (.next (.after (apart_decide ..).keeps (keeps_drawFree ..))) (.next (keeps_takeRemote ..))
        · exact .next (keeps_takeRemote ..)
      · split
        · exact .next (.refl _)
        · split
          · exact .next (.refl _)
          · refine .ite (.next (.refl _)) ?_
            split
            · exact .next (.refl _)
            · exact .next (apart_decide ..).keeps
            · refine .next ?_
              refine .after (keeps_forwardRed ..) ?_
              refine .ite ?_ ?_
              · refine .after (.after (keeps_serve ..) (.after (keeps_addPart ..) (keeps_noteLatencies ..))) ?_
                exact .ite (keeps_touchReads ..) (.refl _)
              · exact .after (keeps_addPart ..) (.after (keeps_noteLatencies ..) (.ite (keeps_touchReads ..) (.refl _)))

theorem keeps_settleRed (s : State) (id k : Nat) : Keeps s (s.settleRed id k) := by
  unfold State.settleRed
  split
  · exact .refl _
  · split
    · exact .refl _
    · refine .ite ?_ ?_
      · refine .ite ?_ ?_
        · refine .after (keeps_activate ..) ?_
          refine .ite (.after (apart_decide ..).keeps (keeps_addFlags ..)) ?_
          exact .after (apart_succeed ..).keeps (keeps_addFlags ..)
        · refine .ite (.after (apart_decide ..).keeps (keeps_addFlags ..)) ?_
          exact .after (apart_succeed ..).keeps (keeps_addFlags ..)
      · exact .refl _

theorem wrote_redWrite (s : State) (a : Agent) (ext : Ext) (m : RedMember) (tile : Option Nat) (addr : Nat)
    (bytes : List Byte) :
    Wrote.Kept s (s.redWrite a ext m tile addr bytes) := by
  unfold State.redWrite
  refine .ite (.ok (.refl _)) ?_
  refine .ite (wrote_writeVa ..) ?_
  split
  · exact .ok (keeps_putSram ..)
  · exact .bad (.refl _)

theorem wrote_redWrites (s : State) (a : Agent) (ext : Ext) (g : RedGroup) (r : RedRun) (o : Op) (c : Nat)
    (cells : List Cell)
    (l : List (Nat × RedMember)) : Wrote.Kept s (s.redWrites a ext g r o c cells l) := by
  induction l generalizing s with
  | nil => exact Keeps.refl _
  | cons x l ih =>
    have hdraw : Keeps s s.drawFree.2 := keeps_drawFree s
    unfold State.redWrites
    generalize s.drawFree = d at hdraw
    obtain ⟨pad, s0⟩ := d
    refine .ite (ih _) ?_
    dsimp only
    split
    · next s1 h1 =>
      have hfirst : Keeps s s1 := hdraw.trans ((wrote_redWrite ..).of_ok h1)
      split
      · exact (ih _).of_keeps (hfirst.trans ((wrote_redWrite ..).of_ok ‹_›))
      · exact (wrote_redWrite ..).of_keeps hfirst
    · exact (wrote_redWrite ..).of_keeps hdraw

theorem wrote_deliverRed (s : State) (id k : Nat) (o : Op) (g : RedGroup) (r : RedRun) (ext : Ext) (c : Nat)
    (cells : List Cell) (flags : Nat) :
    Wrote.Kept s (s.deliverRed id k o g r ext c cells flags) := by
  unfold State.deliverRed
  dsimp only
  split
  · exact .ok (.after (keeps_modRun ..) ((wrote_redWrites ..).of_ok ‹_›))
  · exact wrote_redWrites ..

theorem answers_redRunDone (s : State) (op : Nat) (part : RedChunk) (ext : Ext) :
    Answers s (execRedRunDone op part ext s) := by
  unfold execRedRunDone
  dsimp only
  split
  · refine .ite (.next (.refl _)) ?_
    refine .ite (.next (.refl _)) ?_
    refine .ite (.next (keeps_settleRed ..)) ?_
    split
    · exact .next (.refl _)
    · split
      · exact .next (.refl _)
      · exact .next (.after (apart_decide ..).keeps ((wrote_deliverRed ..).of_bad ‹_›))
      · refine .next ?_
        exact .after (keeps_settleRed ..) (.after (.fold (fun _ _ => (apart_send ..).keeps))
          ((wrote_deliverRed ..).of_ok ‹_›))
  · exact .next (.refl _)

theorem answers_redTimeout (s : State) (op : Nat) : Answers s (execRedTimeout op s) := by
  unfold execRedTimeout
  split
  · exact .next (.refl _)
  · exact .ite (.next (.refl _)) (.next (apart_decide ..).keeps)

theorem answers_redCancel (s : State) (f gid gen : Nat) : Answers s (execRedCancel f gid gen s) := by
  unfold execRedCancel
  exact .next (.fold (fun _ _ => (apart_decide ..).keeps))

theorem keeps_goOn (s : State) (id op : Nat) : Keeps s (s.goOn id op) := by
  unfold State.goOn
  split
  · exact .ite (apart_succeed ..).keeps (.refl _)
  · exact .refl _

theorem keeps_actDone (s : State) (id op : Nat) : Keeps s (s.actDone id op) := by
  unfold State.actDone
  exact .after (keeps_goOn ..) (apart_modOp ..).keeps

theorem keeps_commitPoint (s : State) (k : Nat) : Keeps s (s.commitPoint k) := by
  unfold State.commitPoint
  exact (apart_modSluice ..).keeps

theorem keeps_tryDecide (s : State) (k : Nat) : Keeps s (s.tryDecide k) := by
  unfold State.tryDecide
  split
  · exact .refl _
  · exact .ite (.after (.fold (fun _ _ => (apart_send ..).keeps)) (keeps_commitPoint ..)) (.refl _)

theorem keeps_takeVote (s : State) (k dev : Nat) (commit : Bool) (reason origin : Nat) :
    Keeps s (s.takeVote k dev commit reason origin) := by
  unfold State.takeVote
  split
  · exact .refl _
  · refine .ite (.refl _) ?_
    exact .ite (.after (keeps_tryDecide ..) (apart_modSluice ..).keeps) (apart_abortSluice ..).keeps

theorem keeps_takeDecision (s : State) (k : Nat) (commit : Bool) (reason origin : Nat) :
    Keeps s (s.takeDecision k commit reason origin) := by
  unfold State.takeDecision
  split
  · exact .refl _
  · exact .ite (.ite (apart_modSluice ..).keeps (.refl _)) (apart_abortSluiceWith ..).keeps

theorem keeps_answerAbort (s : State) (mere id dev done : Nat) : Keeps s (s.answerAbort mere id dev done) := by
  unfold State.answerAbort
  exact (apart_send ..).keeps

theorem keeps_takeAbort (s : State) (k mere id dev : Nat) : Keeps s (s.takeAbort k mere id dev) := by
  unfold State.takeAbort
  split
  · exact .refl _
  · exact .ite (keeps_answerAbort ..) (.after (keeps_answerAbort ..) (apart_abortSluice ..).keeps)

theorem keeps_takeNote (s : State) (k mere id : Nat) (r : SluiceNote) :
    Keeps s (s.takeNote k mere id r) := by
  unfold State.takeNote
  split
  · exact keeps_takeVote ..
  · exact keeps_takeDecision ..
  · exact keeps_takeAbort ..

theorem keeps_deliverNotes (s : State) (k mere id : Nat) : Keeps s (s.deliverNotes k mere id) := by
  unfold State.deliverNotes
  exact .after (.fold (fun _ _ => keeps_takeNote ..)) (.update (.refl _))

theorem keeps_openSluice (s : State) (id : Nat) (o : Op) (parts : List Nat) : Keeps s (s.openSluice id o parts) := by
  unfold State.openSluice
  refine .ite ?_ ?_
  · exact .after (keeps_actDone ..) (.after (apart_modOp ..).keeps (.update (.refl _)))
  · exact .after (keeps_deliverNotes ..) (.after (keeps_actDone ..) (.after (apart_modOp ..).keeps (.update (.refl _))))

theorem answers_sluiceOpen (s : State) (op : Nat) (ext : Ext) : Answers s (execSluiceOpen op ext s) := by
  unfold execSluiceOpen
  split
  · exact .next (keeps_goOn ..)
  · refine .ite (.next (apart_decide ..).keeps) ?_
    refine .ite (.next (.refl _)) ?_
    refine .ite (.next (apart_decide ..).keeps) ?_
    refine .ite (.next (keeps_openSluice ..)) ?_
    dsimp only
    split
    · exact .next (.refl _)
    · exact .next (apart_decide ..).keeps
    · split
      · exact .next (apart_decide ..).keeps
      · exact .ite (.next (keeps_openSluice ..)) (.next (.after (apart_decide ..).keeps (keeps_takeFree ..)))

theorem answers_sluiceGuard (s : State) (op : Nat) : Answers s (execSluiceGuard op s) := by
  unfold execSluiceGuard
  split
  · exact .next (keeps_goOn ..)
  · refine .ite (.next (apart_decide ..).keeps) ?_
    split
    · exact .next (.refl _)
    · exact .next (.ite (apart_decide ..).keeps (.after (apart_abortSluice ..).keeps (apart_decide ..).keeps))
    · refine .ite ?_ ?_
      · exact .next (.after (apart_decide ..).keeps (apart_abortSluice ..).keeps)
      · exact .next (.after (keeps_actDone ..) (apart_modOp ..).keeps)

theorem keeps_startCommit (s : State) (op : Nat) : Keeps s (s.startCommit op) := by
  unfold State.startCommit
  split
  · exact .ite (.after (keeps_start ..) (keeps_enqueue ..)) (.refl _)
  · exact .refl _

theorem answers_sluiceCommit (s : State) (op : Nat) : Answers s (execSluiceCommit op s) := by
  unfold execSluiceCommit
  split
  · exact .next (keeps_startCommit ..)
  · refine .ite (.next (apart_decide ..).keeps) ?_
    exact .next (.after (keeps_startCommit ..) (.after (apart_modOp ..).keeps (apart_modSluice ..).keeps))

theorem answers_sluiceAbort (s : State) (op : Nat) : Answers s (execSluiceAbort op s) := by
  unfold execSluiceAbort
  split
  · exact .next (keeps_goOn ..)
  · dsimp only
    split
    · exact .next (apart_decide ..).keeps
    · refine .ite (.next (apart_decide ..).keeps) ?_
      refine .ite (.next (keeps_actDone ..)) ?_
      refine .ite ?_ ?_
      · refine .next ?_
        exact .after (apart_send ..).keeps (.after (keeps_start ..) (.after (keeps_enqueue ..) (.after
          (apart_modOp ..).keeps (apart_modSluice ..).keeps)))
      · exact .next (.after (keeps_actDone ..) (.after (apart_modSluice ..).keeps (apart_abortSluice ..).keeps))

theorem keeps_setTally (s : State) (f : TallyPart → TallyPart) : Keeps s (s.setTally f) := by
  unfold State.setTally
  exact .update (.refl _)

theorem keeps_charge (s : State) (k : Nat) (f : Acct → Acct) : Keeps s (s.charge k f) := by
  unfold State.charge
  exact .ite (.refl _) (keeps_setTally ..)

theorem keeps_spreadFiller (s : State) (pond : Nat) : Keeps s (s.spreadFiller pond) := by
  unfold State.spreadFiller
  refine .ite (keeps_setTally ..) ?_
  refine .ite (.after (keeps_charge ..) (keeps_setTally ..)) ?_
  exact .after (.fold (fun _ _ => keeps_charge ..)) (keeps_setTally ..)

theorem keeps_finalRec (s : State) (k : Nat) : Keeps s (s.finalRec k).1 := by
  unfold State.finalRec
  exact keeps_spreadFiller ..

theorem some_cutReceipts (s : State) (k : Nat) (l : List Recorded) : KeptSome s (s.cutReceipts k l) := by
  induction l generalizing s with
  | nil => exact .some (.refl _)
  | cons x l ih =>
    cases x with
    | receipt key va fn ctx pond =>
      have hfinal : Keeps s (s.finalRec key).1 := keeps_finalRec ..
      unfold State.cutReceipts
      dsimp only
      split
      · exact .none
      · next s1 st d heq =>
        refine .some ((hfinal.trans ((wrote_writeVa ..).of_bad heq)).trans ?_)
        exact .ite ((apart_abortSluice ..).keeps.trans ((apart_markLost ..).keeps.trans (apart_post ..).keeps))
          (apart_abortSluice ..).keeps
      · next s1 heq =>
        exact (ih _).of_keeps ((hfinal.trans ((wrote_writeVa ..).of_ok heq)).trans (apart_modSluice ..).keeps)
    | _ => exact ih _

theorem answers_sluiceDrained (s : State) (f id : Nat) : Answers s (execSluiceDrained f id s) := by
  unfold execSluiceDrained
  dsimp only
  split
  · exact .next (.refl _)
  · refine .ite (.next (.refl _)) ?_
    split
    · exact .next (.refl _)
    · exact .next (.after (apart_modSluice ..).keeps ((some_cutReceipts ..).of_some ‹_›))

theorem answers_sluiceHoldAcked (s : State) (f id : Nat) : Answers s (execSluiceHoldAcked f id s) := by
  unfold execSluiceHoldAcked
  dsimp only
  split
  · exact .next (.refl _)
  · refine .ite (.next (keeps_commitPoint ..)) ?_
    refine .ite (.next (.after (apart_send ..).keeps (apart_modSluice ..).keeps)) ?_
    exact .next (.after (keeps_tryDecide ..) (apart_modSluice ..).keeps)

theorem keeps_dropXlat (s : State) (f : Nat) (sel : Translation → Bool) : Keeps s (s.dropXlat f sel) := by
  unfold State.dropXlat
  exact .update (.refl _)

theorem keeps_invalidate (s : State) (f scope addr pages : Nat) : Keeps s (s.invalidate f scope addr pages) := by
  unfold State.invalidate
  exact keeps_dropXlat ..

theorem keeps_setRoot (s : State) (f : Nat) (root : Option Nat) : Keeps s (s.setRoot f root) := by
  unfold State.setRoot
  exact .after (keeps_invalidate ..) (apart_setFn ..).keeps

theorem keeps_setBitmap (s : State) (inst : Nat) (bm : Option Nat) : Keeps s (s.setBitmap inst bm) := by
  unfold State.setBitmap
  exact (apart_setFn ..).keeps

theorem keeps_writeRec (s : State) (r : EnergyRec) : Keeps s (s.writeRec r) := by
  unfold State.writeRec
  exact .after (keeps_setTally ..) (.after (apart_writeHost ..).keeps (apart_writeHost ..).keeps)

theorem keeps_emit (s : State) (r : EnergyRec) : Keeps s (s.emit r) := by
  unfold State.emit
  refine .ite (.refl _) ?_
  refine .ite (keeps_writeRec ..) ?_
  refine .ite ?_ ?_
  · exact .ite (.after (apart_post ..).keeps (keeps_setTally ..)) (keeps_setTally ..)
  · exact .ite (keeps_setTally ..) (keeps_setTally ..)

theorem keeps_perform (s : State) (r : Recorded) : Keeps s (s.perform r) := by
  unfold State.perform
  split
  · exact keeps_setRoot ..
  · exact keeps_invalidate ..
  · exact keeps_setBitmap ..
  · exact .refl _
  · exact .after (keeps_emit ..) (keeps_charge ..)

theorem keeps_publish (s : State) (k : Nat) (e : Sluice) : Keeps s (s.publish k e) := by
  unfold State.publish
  exact .fold (fun _ _ => .ite (.refl _) (keeps_landWrite ..))

theorem keeps_idleCheck (s : State) (f : Nat) : Keeps s (s.idleCheck f) := by
  unfold State.idleCheck
  exact .ite (.after (apart_post ..).keeps (apart_setFn ..).keeps) (.refl _)

theorem keeps_freeSluice (s : State) (k : Nat) : Keeps s (s.freeSluice k) := by
  unfold State.freeSluice
  split
  · exact .refl _
  · exact .after (keeps_idleCheck ..) (.update (.refl _))

theorem keeps_tryFinish (s : State) (k : Nat) : Keeps s (s.tryFinish k) := by
  unfold State.tryFinish
  split
  · exact .refl _
  · exact .ite (.after (keeps_freeSluice ..) (apart_endOp ..).keeps) (.refl _)

theorem answers_sluicePublished (s : State) (f id : Nat) : Answers s (execSluicePublished f id s) := by
  unfold execSluicePublished
  dsimp only
  split
  · exact .next (.refl _)
  · refine .ite (.next (.refl _)) ?_
    refine .next ?_
    refine .after (keeps_tryFinish ..) ?_
    refine .ite ?_ ?_
    · exact .after (apart_send ..).keeps (.after (apart_modSluice ..).keeps (.after (.fold (fun _ _ => keeps_perform ..))
        (.after (keeps_publish ..) (.fold (fun _ _ => keeps_perform ..)))))
    · exact .after (apart_modSluice ..).keeps (.after (.fold (fun _ _ => keeps_perform ..)) (.after (keeps_publish ..)
        (.fold (fun _ _ => keeps_perform ..))))

theorem answers_sluiceAbortDone (s : State) (f id : Nat) : Answers s (execSluiceAbortDone f id s) := by
  unfold execSluiceAbortDone
  dsimp only
  split
  · exact .next (.refl _)
  · exact .ite (.next (.refl _)) (.next (keeps_freeSluice ..))

theorem keeps_holdNote (s : State) (mere id : Nat) (note : SluiceNote) : Keeps s (s.holdNote mere id note) := by
  unfold State.holdNote
  exact .update (.refl _)

theorem answers_sluiceVote (s : State) (mere id dev : Nat) (commit : Bool) (reason origin : Nat) :
    Answers s (execSluiceVote mere id dev commit reason origin s) := by
  unfold execSluiceVote
  exact .ite (.next (.refl _)) (.ite (.next (keeps_holdNote ..)) (.next (keeps_takeVote ..)))

theorem answers_sluiceDecision (s : State) (mere id : Nat) (commit : Bool) (reason origin : Nat) :
    Answers s (execSluiceDecision mere id commit reason origin s) := by
  unfold execSluiceDecision
  exact .ite (.next (.refl _)) (.ite (.next (keeps_holdNote ..)) (.next (keeps_takeDecision ..)))

theorem answers_sluiceAck (s : State) (mere id dev : Nat) : Answers s (execSluiceAck mere id dev s) := by
  unfold execSluiceAck
  dsimp only
  split
  · exact .next (.refl _)
  · exact .ite (.next (.refl _)) (.next (.after (keeps_tryFinish ..) (apart_modSluice ..).keeps))

theorem answers_sluiceAbortForward (s : State) (mere id dev : Nat) :
    Answers s (execSluiceAbortForward mere id dev s) := by
  unfold execSluiceAbortForward
  exact .ite (.next (keeps_takeAbort ..)) (.ite (.next (keeps_holdNote ..)) (.next (keeps_answerAbort ..)))

theorem answers_sluiceCommitTimeout (s : State) (f id : Nat) : Answers s (execSluiceCommitTimeout f id s) := by
  unfold execSluiceCommitTimeout
  dsimp only
  split
  · exact .next (.refl _)
  · exact .next (apart_abortSluice ..).keeps

theorem answers_commitUnconfirmed (s : State) (f id : Nat) : Answers s (execCommitUnconfirmed f id s) := by
  unfold execCommitUnconfirmed
  dsimp only
  split
  · exact .next (.refl _)
  · exact .next (.after (keeps_freeSluice ..) (apart_endOp ..).keeps)

theorem answers_stageWaysApply (s : State) (die : Nat) : Answers s (execStageWaysApply die s) := by
  unfold execStageWaysApply
  exact .ite (.next (.refl _)) (.next (.updateMem (.refl _)))

theorem answers_spillRegionApply (s : State) (die : Nat) : Answers s (execSpillRegionApply die s) := by
  unfold execSpillRegionApply
  exact .ite (.next (.refl _)) (.next (.updateMem (.refl _)))

theorem answers_pondCreate (s : State) (op : Nat) (ext : Ext) : Answers s (execPondCreate op ext s) := by
  unfold execPondCreate
  split
  · exact .next (.refl _)
  · refine .ite (.next (apart_decide ..).keeps) ?_
    split
    · exact .next (.refl _)
    · exact .next (apart_decide ..).keeps
    · exact .next (.after (apart_succeed ..).keeps (.after (keeps_scrubTiles ..) (.updateMem (.refl _))))

theorem keeps_writeBackMoving (s : State) (r : Rebind) : Keeps s (s.writeBackMoving r) := by
  unfold State.writeBackMoving
  exact .updateMem (.fold (fun _ _ => keeps_noteMoving ..))

theorem answers_pondRebind (s : State) (op : Nat) (ext : Ext) : Answers s (execPondRebind op ext s) := by
  unfold execPondRebind
  split
  · exact .next (.refl _)
  · dsimp only
    split
    · exact .next (apart_decide ..).keeps
    · refine .ite (.next (apart_decide ..).keeps) ?_
      split
      · exact .next (.refl _)
      · exact .next (apart_decide ..).keeps
      · refine .ite (.next (apart_decide ..).keeps) ?_
        refine .next ?_
        exact .after (keeps_start ..) (.after (keeps_enqueue ..) (.after (keeps_writeBackMoving ..) (keeps_modPond ..)))

theorem keeps_dropLoft (s : State) (plots : List Nat) : Keeps s (s.dropLoft plots) := by
  unfold State.dropLoft
  exact .updateMem (.refl _)

theorem keeps_dropPlotXlat (s : State) (f : Nat) (plots : List Nat) : Keeps s (s.dropPlotXlat f plots) := by
  unfold State.dropPlotXlat
  exact keeps_dropXlat ..

theorem keeps_closeKeys (s : State) (ks : List Nat) (flags : Nat) : Keeps s (s.closeKeys ks flags) := by
  unfold State.closeKeys
  refine .fold (fun s x => ?_)
  dsimp only
  split
  · exact .refl _
  · exact .ite (.after (keeps_emit ..) (keeps_setTally ..)) (keeps_setTally ..)

theorem keeps_closePondWindows (s : State) (pond : Nat) : Keeps s (s.closePondWindows pond) := by
  unfold State.closePondWindows
  exact .after (keeps_setTally ..) (.after (keeps_closeKeys ..) (keeps_spreadFiller ..))

theorem answers_pondDestroy (s : State) (op : Nat) : Answers s (execPondDestroy op s) := by
  unfold execPondDestroy
  split
  · exact .next (.refl _)
  · dsimp only
    split
    · exact .next (apart_decide ..).keeps
    · refine .ite (.next (apart_decide ..).keeps) ?_
      refine .next ?_
      exact .after (apart_succeed ..).keeps (.after (keeps_scrubTiles ..) (.updateMem (.after (keeps_dropLoft ..) (.after
        (keeps_dropPlotXlat ..) (keeps_closePondWindows ..)))))

theorem answers_pondSched (s : State) (op : Nat) : Answers s (execPondSched op s) := by
  unfold execPondSched
  split
  · exact .next (.refl _)
  · exact .ite (.next (apart_decide ..).keeps) (.next (.after (apart_succeed ..).keeps (keeps_modPond ..)))

theorem answers_plotMapPlace (s : State) (op : Nat) : Answers s (execPlotMapPlace op s) := by
  unfold execPlotMapPlace
  split
  · exact .next (.refl _)
  · refine .ite (.next (.refl _)) ?_
    split
    · exact .next (apart_decide ..).keeps
    · exact .ite (.next (apart_decide ..).keeps) (.next (.after (apart_succeed ..).keeps (.updateMem (.refl _))))

theorem answers_plotMapRemove (s : State) (op : Nat) : Answers s (execPlotMapRemove op s) := by
  unfold execPlotMapRemove
  split
  · exact .next (.refl _)
  · refine .ite (.next (.refl _)) ?_
    refine .ite (.next (apart_decide ..).keeps) ?_
    refine .ite (.next (apart_decide ..).keeps) ?_
    exact .next (.after (apart_succeed ..).keeps (.updateMem (.after (keeps_dropPlotXlat ..) (keeps_dropLoft ..))))

theorem answers_rebindCopyPassDone (s : State) (h : Nat) : Answers s (execRebindCopyPassDone h s) := by
  unfold execRebindCopyPassDone
  split
  · exact .next (.refl _)
  · split
    · exact .next (.refl _)
    · exact .next (keeps_modPond ..)

theorem keeps_recallMoving (s : State) (r : Rebind) : Keeps s (s.recallMoving r) := by
  unfold State.recallMoving
  exact .updateMem (keeps_writeBackMoving ..)

theorem answers_rebindPoint (s : State) (h : Nat) : Answers s (execRebindPoint h s) := by
  unfold execRebindPoint
  split
  · exact .next (.refl _)
  · split
    · exact .next (.refl _)
    · refine .ite (.next (.refl _)) ?_
      split
      · exact .next (.after (keeps_schedule ..) (.after (keeps_modPond ..) (apart_decide ..).keeps))
      · exact .next (.after (keeps_modPond ..) (keeps_recallMoving ..))

theorem keeps_resumeReruns (s : State) (h : Nat) : Keeps s (s.resumeReruns h) := by
  unfold State.resumeReruns
  refine .fold (fun s x => ?_)
  dsimp only
  split
  · exact .ite (apart_abortSluice ..).keeps (.ite (.refl _) (apart_modOp ..).keeps)
  · exact .refl _

theorem keeps_putTileImage (s : State) (t : Nat) (x : TileImage) : Keeps s (s.putTileImage t x) :=
  (keeps_scrubTile ..).trans (.of_wf rfl id (Memory.wf_putCells _ _) (Memory.wf_putCells _ _))

theorem keeps_zeroPlot (s : State) (p : Plot) : Keeps s (s.zeroPlot p) :=
  .of_wf rfl (Memory.wf_foldl (fun _ _ => Memory.wf_clear _ _) _) id id

theorem keeps_putPlot (s : State) (p : Plot) (x : List (Nat × Byte) × List Nat) : Keeps s (s.putPlot p x) :=
  (keeps_zeroPlot ..).trans (.of_wf rfl (Memory.wf_foldl (fun _ _ => Memory.wf_put _ _) _) id id)

theorem keeps_commitRebind (s : State) (h : Nat) (p : Pond) (r : Rebind) : Keeps s (s.commitRebind h p r) := by
  unfold State.commitRebind
  refine .ite ?_ ?_
  · refine .after (.after (apart_post ..).keeps (.after (keeps_modPond ..) (.updateMem (.after (keeps_dropLoft ..)
      (.after (keeps_dropPlotXlat ..) (.fold (fun _ _ => keeps_putPlot ..))))))) ?_
    refine .after (.fold (fun s x => ?_)) ?_
    · split
      · exact keeps_putTileImage ..
      · exact keeps_scrubTile ..
    · exact .after (keeps_scrubTiles ..) (keeps_dropLoft ..)
  · refine .after (.after (keeps_modPond ..) (.updateMem (.after (keeps_dropLoft ..) (.after (keeps_dropPlotXlat ..)
      (.fold (fun _ _ => keeps_putPlot ..)))))) ?_
    refine .after (.fold (fun s x => ?_)) ?_
    · split
      · exact keeps_putTileImage ..
      · exact keeps_scrubTile ..
    · exact .after (keeps_scrubTiles ..) (keeps_dropLoft ..)

theorem answers_rebindSwitchDone (s : State) (h : Nat) : Answers s (execRebindSwitchDone h s) := by
  unfold execRebindSwitchDone
  split
  · exact .next (.refl _)
  · split
    · exact .next (.refl _)
    · refine .ite (.next (.refl _)) ?_
      split
      · exact .next (.after (keeps_schedule ..) (.after (keeps_modPond ..) (apart_decide ..).keeps))
      · refine .next ?_
        exact .after (keeps_schedule ..) (.after (apart_succeed ..).keeps (.after (keeps_resumeReruns ..)
          (keeps_commitRebind ..)))

theorem answers_rebindTimeout (s : State) (h : Nat) : Answers s (execRebindTimeout h s) := by
  unfold execRebindTimeout
  split
  · exact .next (.refl _)
  · split
    · exact .next (.refl _)
    · refine .ite (.next (.refl _)) ?_
      exact .next (.after (keeps_schedule ..) (.after (keeps_modPond ..) (apart_decide ..).keeps))

theorem keeps_sendNotices (s : State) (kind : Nat) (l : List Nat) : Keeps s (s.sendNotices kind l) := by
  unfold State.sendNotices
  exact .fold (fun _ _ => (apart_sendOn ..).keeps)

theorem answers_unitFence (s : State) (op : Nat) : Answers s (execUnitFence op s) := by
  unfold execUnitFence
  split
  · exact .next (.refl _)
  · refine .ite (.next (apart_succeed ..).keeps) ?_
    refine .ite (.next (apart_decide ..).keeps) ?_
    exact .next (.after (apart_succeed ..).keeps (.after (keeps_fence ..) (keeps_sendNotices ..)))

/-- A unit tested anew: a channel's bytes are cleared, and a tile's (R310). -/
theorem keeps_renewUnit (s : State) (u : Nat) : Keeps s (s.renewUnit u) := by
  have hhbm : ∀ m : Memory, m.wf = true →
      (if u / 65536 = 4 then m.clear (u % 65536 * 0x80000000) 0x80000000 else m).wf = true := fun m h => by
    split
    · exact Memory.wf_clear _ _ h
    · exact h
  unfold State.renewUnit
  dsimp only
  refine .ite (Keeps.trans ?_ (keeps_scrubTile ..)) (.ite ?_ (.ite ?_ ?_)) <;> exact .of_wf rfl (hhbm _) id id

theorem answers_unitRestore (s : State) (op : Nat) (passed : List Nat) : Answers s (execUnitRestore op passed s) := by
  unfold execUnitRestore
  split
  · exact .next (.refl _)
  · refine .ite (.next (apart_decide ..).keeps) ?_
    exact .next (.after (apart_succeed ..).keeps (.fold (fun _ _ => keeps_renewUnit ..)))

theorem answers_unitFailure (s : State) (cls unit : Nat) : Answers s (execUnitFailure cls unit s) := by
  unfold execUnitFailure
  exact .ite (.next (.refl _)) (.next (keeps_fence ..))

theorem answers_regrow (s : State) (h : Nat) : Answers s (execRegrow h s) := by
  unfold execRegrow
  split
  · exact .next (.refl _)
  · refine .ite (.next (.refl _)) ?_
    refine .next ?_
    refine .after (.after (keeps_schedule ..) (keeps_resumeReruns ..)) ?_
    refine .ite ?_ ?_ <;> exact .after (apart_post ..).keeps (.after (keeps_scrubTiles ..) (keeps_modPond ..))

theorem answers_seamCrcFail (s : State) (seam : Nat) (again : Bool) : Answers s (execSeamCrcFail seam again s) := by
  unfold execSeamCrcFail
  refine .ite (.next (.refl _)) ?_
  refine .next ?_
  refine .ite ?_ ?_
  · exact .after (keeps_fence ..) (.after (keeps_corrected ..) (.updateMem (.refl _)))
  · exact .after (keeps_corrected ..) (.updateMem (.refl _))

theorem answers_seamReplayTimeout (s : State) (seam : Nat) : Answers s (execSeamReplayTimeout seam s) := by
  unfold execSeamReplayTimeout
  exact .ite (.next (.refl _)) (.next (keeps_fence ..))

theorem answers_ctxSched (s : State) (op : Nat) : Answers s (execCtxSched op s) := by
  unfold execCtxSched
  split
  · exact .next (.refl _)
  · exact .next (.after (keeps_schedule ..) (.after (apart_succeed ..).keeps (apart_modCtx ..).keeps))

theorem answers_quantumExpiry (s : State) (h : Nat) : Answers s (execQuantumExpiry h s) := by
  unfold execQuantumExpiry
  dsimp only
  split
  · exact .next (keeps_stampReady ..)
  · refine .ite (.next (keeps_stampReady ..)) ?_
    split
    · exact .next (keeps_stampReady ..)
    · exact .next (.after (keeps_modPond ..) (keeps_stampReady ..))

theorem keeps_loseContext (s : State) (c status : Nat) : Keeps s (s.loseContext c status) := by
  unfold State.loseContext
  exact .ite (.refl _) (.after (keeps_releaseLost ..) (.after (apart_post ..).keeps (apart_markLost ..).keeps))

theorem keeps_recordFails (s : State) (c : Nat) : Keeps s (s.recordFails c) := by
  unfold State.recordFails
  exact keeps_loseContext ..

theorem answers_contextDrainDone (s : State) (h record : Nat) : Answers s (execContextDrainDone h record s) := by
  unfold execContextDrainDone
  split
  · exact .next (.refl _)
  · split
    · exact .next (.refl _)
    · refine .ite (.next (.refl _)) ?_
      refine .ite (.next (.after (keeps_releaseLost ..) (keeps_modPond ..))) ?_
      refine .ite (.next (.after (keeps_recordFails ..) (keeps_modPond ..))) ?_
      refine .ite ?_ ?_
      · exact .next (.after (apart_post ..).keeps (.after (keeps_modPond ..) (keeps_loadRecord ..)))
      · exact .next (.after (keeps_modPond ..) (keeps_loadRecord ..))

theorem wrote_writeAll (s : State) (a : Agent) (base : Nat) (l : List (Nat × List Byte)) :
    Wrote.Kept s (s.writeAll a base l) := by
  induction l generalizing s with
  | nil => exact Keeps.refl _
  | cons x l ih =>
    unfold State.writeAll
    split
    · exact (ih _).of_keeps ((wrote_writeVa ..).of_ok ‹_›)
    · exact wrote_writeVa ..

theorem keeps_poisonVa (s : State) (a : Agent) (va : Nat) : Keeps s (s.poisonVa a va) := by
  unfold State.poisonVa
  split
  · split
    · exact .updateMem (.refl _)
    · exact .refl _
  · exact .refl _

theorem some_saveTiles (s : State) (h : Nat) (p : Pond) (c : Nat) : KeptSome s (s.saveTiles h p c) := by
  unfold State.saveTiles
  split
  · exact .some (.refl _)
  · dsimp only
    split
    · exact .some (.after (apart_modCtx ..).keeps (.after (.fold (fun _ _ => keeps_poisonVa ..)) (.after
        ((wrote_writeAll ..).of_ok ‹_›) (keeps_takeFree ..))))
    · exact .some (.after (keeps_loseContext ..) (.after ((wrote_writeAll ..).of_bad ‹_›) (keeps_takeFree ..)))
    · exact .none

theorem answers_contextSaveDone (s : State) (h : Nat) : Answers s (execContextSaveDone h s) := by
  unfold execContextSaveDone
  split
  · exact .next (.refl _)
  · split
    · exact .next (.refl _)
    · refine .ite (.next (.refl _)) ?_
      split
      · exact .next (.refl _)
      · exact .next (.after (keeps_releaseLost ..) (.after (keeps_modPond ..) ((some_saveTiles ..).of_some ‹_›)))

theorem kept_restoreRanks {s t : State} {a : Agent} {base size : Nat} {vane : Bool} {l : List (Option Nat × Nat)}
    (h : s.restoreRanks a base size vane l = .ok t) : Keeps s t := by
  induction l generalizing s with
  | nil => exact Acc.ok.inj h ▸ .refl _
  | cons x l ih =>
    obtain ⟨_ | tile, r⟩ := x
    · exact ih h
    · unfold State.restoreRanks at h
      dsimp only at h
      split at h
      · refine Keeps.trans ?_ (ih h)
        exact .of_wf rfl id (Memory.wf_write _ _) (Memory.wf_write _ _)
      · cases h
      · cases h

theorem some_restoreTiles (s : State) (h : Nat) (p : Pond) (c : Nat) : KeptSome s (s.restoreTiles h p c) := by
  unfold State.restoreTiles
  split
  · exact .some (.refl _)
  · split
    · exact .some (.refl _)
    · dsimp only
      split
      · exact .some (keeps_loseContext ..)
      · exact .none
      · split
        · exact .none
        · exact .some ((keeps_scrubTiles ..).trans (keeps_loseContext ..))
        · next s1 h1 =>
          split
          · exact .none
          · exact .some ((keeps_scrubTiles ..).trans (keeps_loseContext ..))
          · next s2 h2 => exact .some ((kept_restoreRanks h1).trans (kept_restoreRanks h2))

theorem keeps_prefetchWarm (s : State) (h : Nat) (p : Pond) (c : Nat) : Keeps s (s.prefetchWarm h p c) := by
  unfold State.prefetchWarm
  split
  · exact .refl _
  · refine .fold (fun s x => ?_)
    split
    · exact .fold (fun _ _ => keeps_loftTouch ..)
    · exact keeps_loseContext ..
    · exact .refl _

theorem answers_contextRestoreDone (s : State) (h : Nat) : Answers s (execContextRestoreDone h s) := by
  unfold execContextRestoreDone
  split
  · exact .next (.refl _)
  · split
    · exact .next (.refl _)
    · refine .ite (.next (.refl _)) ?_
      split
      · exact .next (.refl _)
      · refine .next ?_
        refine .after (.after (keeps_schedule ..) (keeps_releaseLost ..)) ?_
        refine .ite ?_ ?_
        · exact .after (keeps_prefetchWarm ..) (.after (keeps_modPond ..) (.after (apart_modCtx ..).keeps (.after
            ((some_restoreTiles ..).of_some ‹_›) (keeps_scrubTiles ..))))
        · exact .after (keeps_modPond ..) (.after (apart_modCtx ..).keeps (.after ((some_restoreTiles ..).of_some ‹_›)
            (keeps_scrubTiles ..)))

theorem answers_slotGrant (s : State) : Answers s (execSlotGrant s) := by
  unfold execSlotGrant
  dsimp only
  split
  · exact .next (.after (apart_modCtx ..).keeps (.update (.refl _)))
  · split
    · exact .next (.refl _)
    · refine .ite (.next (.refl _)) ?_
      split
      · exact .next (.refl _)
      · exact .next (keeps_unloadSlot ..)

theorem answers_slotIdleTimeout (s : State) (slot : Nat) : Answers s (execSlotIdleTimeout slot s) := by
  unfold execSlotIdleTimeout
  split
  · exact .next (.refl _)
  · exact .ite (.next (.refl _)) (.next (.update (.refl _)))

theorem some_saveControl (s : State) (c : Nat) : KeptSome s (s.saveControl c) := by
  unfold State.saveControl
  split
  · exact .some (.refl _)
  · split
    · exact .some (.refl _)
    · dsimp only
      split
      · exact .some (.after (apart_modCtx ..).keeps (.after ((wrote_writeVa ..).of_ok ‹_›) (keeps_takeFree ..)))
      · exact .some (.after (keeps_loseContext ..) (.after ((wrote_writeVa ..).of_bad ‹_›) (keeps_takeFree ..)))
      · exact .none

theorem keeps_dropSlotXlat (s : State) (slot : Nat) : Keeps s (s.dropSlotXlat slot) := by
  unfold State.dropSlotXlat
  exact .update (.refl _)

theorem keeps_loadControl (s : State) (c : Nat) : Keeps s (s.loadControl c) := by
  unfold State.loadControl
  split
  · exact .refl _
  · refine .ite (.refl _) ?_
    split
    · exact keeps_loseContext ..
    · exact (apart_modCtx ..).keeps

theorem answers_slotLoadDone (s : State) (slot record : Nat) : Answers s (execSlotLoadDone slot record s) := by
  unfold execSlotLoadDone
  split
  · exact .next (.refl _)
  · split
    · exact .next (.refl _)
    · refine .ite (.next (keeps_unloadSlot ..)) ?_
      split
      · exact .next (.refl _)
      · refine .next ?_
        exact .after (keeps_noteCtxWork ..) (.update (.after (keeps_dropSlotXlat ..) ((some_saveControl ..).of_some ‹_›)))
    · refine .ite ?_ ?_
      · exact .next (.after (keeps_loadControl ..) (.update (.after (keeps_loadRecord ..) (.update (.refl _)))))
      · exact .next (.after (keeps_recordFails ..) (.update (.refl _)))

theorem keeps_setBeats (s : State) (h : Nat) (p : Pond) (b : Option Beats) (n : Nat) : Keeps s (s.setBeats h p b n) := by
  unfold State.setBeats
  exact .after (keeps_modPond ..) (.ite (.refl _) (keeps_closePondWindows ..))

theorem answers_beatSet (s : State) (op : Nat) : Answers s (execBeatSet op s) := by
  unfold execBeatSet
  split
  · exact .next (keeps_goOn ..)
  · dsimp only
    split
    · exact .next (apart_decide ..).keeps
    · refine .ite (.next (apart_decide ..).keeps) ?_
      exact .next (.after (keeps_schedule ..) (.after (keeps_actDone ..) (keeps_setBeats ..)))

theorem answers_beatStep (s : State) (op : Nat) : Answers s (execBeatStep op s) := by
  unfold execBeatStep
  split
  · exact .next (keeps_goOn ..)
  · split
    · refine .next ?_
      refine .ite ?_ ?_
      · exact .after (apart_decide ..).keeps (.after (apart_setSq ..).keeps (.after (keeps_modPond ..) (.update
          (.refl _))))
      · exact .after (keeps_actDone ..) (.after (apart_setSq ..).keeps (.after (keeps_modPond ..) (.update (.refl _))))
    · exact .next (keeps_actDone ..)

theorem keeps_beatLag (s : State) (h inst : Nat) (b : Beats) (lag : Nat) : Keeps s (s.beatLag h inst b lag).1 := by
  unfold State.beatLag
  exact .ite (apart_post ..).keeps (.refl _)

theorem answers_beatStart (s : State) (h : Nat) : Answers s (execBeatStart h s) := by
  unfold execBeatStart
  split
  · exact .next (.refl _)
  · split
    · exact .next (.refl _)
    · exact .ite (.next (.refl _)) (.next (.after (keeps_schedule ..) (.after (keeps_modPond ..) (keeps_beatLag ..))))

theorem answers_beatEnd (s : State) (h : Nat) : Answers s (execBeatEnd h s) := by
  unfold execBeatEnd
  split
  · exact .next (.refl _)
  · split
    · exact .next (.refl _)
    · refine .ite (.next (.refl _)) ?_
      exact .next (.after (keeps_schedule ..) (.after (keeps_setBeats ..) (.ite (apart_post ..).keeps (.refl _))))

theorem keeps_nowOrRecord {now : State → State} (h : ∀ s, Keeps s (now s)) (s : State) (id : Nat) (o : Op)
    (r : Recorded) :
    Keeps s (s.nowOrRecord id o r now) :=
  .ite ((h _).trans (keeps_start ..)) ((apart_modSluice ..).keeps.trans (apart_succeed ..).keeps)

theorem answers_xlatRoot (s : State) (op : Nat) : Answers s (execXlatRoot op s) := by
  unfold execXlatRoot
  split
  · exact .next (.refl _)
  · refine .ite (.next (.refl _)) ?_
    exact .ite (.next (apart_decide ..).keeps) (.next (keeps_nowOrRecord (fun _ => keeps_setRoot ..) ..))

theorem answers_xlatRootRemove (s : State) (op : Nat) : Answers s (execXlatRootRemove op s) := by
  unfold execXlatRootRemove
  split
  · exact .next (.refl _)
  · exact .ite (.next (.refl _)) (.next (keeps_nowOrRecord (fun _ => keeps_setRoot ..) ..))

theorem answers_xlatInval (s : State) (op : Nat) : Answers s (execXlatInval op s) := by
  unfold execXlatInval
  split
  · exact .next (.refl _)
  · exact .next (keeps_nowOrRecord (fun _ => keeps_invalidate ..) ..)

theorem answers_xlatInvalDone (s : State) (op : Nat) : Answers s (execXlatInvalDone op s) := by
  unfold execXlatInvalDone
  split
  · exact .next (.refl _)
  · exact .ite (.next (apart_succeed ..).keeps) (.next (.refl _))

theorem answers_xlatDirtyStart (s : State) (op : Nat) : Answers s (execXlatDirtyStart op s) := by
  unfold execXlatDirtyStart
  split
  · exact .next (.refl _)
  · refine .ite (.next (apart_decide ..).keeps) ?_
    exact .ite (.next (apart_decide ..).keeps) (.next (.after (apart_succeed ..).keeps (keeps_setBitmap ..)))

theorem answers_xlatDirtyStop (s : State) (op : Nat) : Answers s (execXlatDirtyStop op s) := by
  unfold execXlatDirtyStop
  split
  · exact .next (.refl _)
  · exact .ite (.next (apart_decide ..).keeps) (.next (.after (apart_succeed ..).keeps (keeps_setBitmap ..)))

theorem answers_xlatDirtySwap (s : State) (op : Nat) : Answers s (execXlatDirtySwap op s) := by
  unfold execXlatDirtySwap
  split
  · exact .next (.refl _)
  · refine .ite (.next (apart_decide ..).keeps) ?_
    refine .ite (.next (apart_decide ..).keeps) ?_
    refine .ite (.next (.after (apart_succeed ..).keeps (keeps_setBitmap ..))) ?_
    exact .next (.after (apart_succeed ..).keeps (apart_modSluice ..).keeps)

theorem keeps_instOp {body : Op → Nat → State → State} (h : ∀ o f s, Keeps s (body o f s)) (s : State) (op code : Nat) :
    Keeps s (s.instOp op code body) := by
  unfold State.instOp
  split
  · exact .refl _
  · exact .ite (apart_decide ..).keeps (h ..)

theorem answers_instQuiesce (s : State) (op : Nat) : Answers s (execInstQuiesce op s) := by
  unfold execInstQuiesce
  refine .next ?_
  exact keeps_instOp (fun _ _ _ => .ite (apart_decide ..).keeps (.after (keeps_start ..) (.after (keeps_enqueue ..)
    (apart_setFn ..).keeps))) ..

theorem answers_quiesceDrained (s : State) (inst : Nat) : Answers s (execQuiesceDrained inst s) := by
  unfold execQuiesceDrained
  refine .ite (.next (.refl _)) ?_
  exact .next (.after (apart_decide ..).keeps (.after (apart_post ..).keeps (apart_setFn ..).keeps))

theorem answers_quiesceTimeout (s : State) (inst : Nat) : Answers s (execQuiesceTimeout inst s) := by
  unfold execQuiesceTimeout
  refine .ite (.next (.refl _)) ?_
  refine .next ?_
  exact .after (keeps_refreshBoard ..) (.after (apart_setFn ..).keeps (.after (.fold (fun _ _ =>
    (apart_abortSluice ..).keeps)) (apart_endOps ..).keeps))

theorem answers_instResume (s : State) (op : Nat) (words : List Nat) : Answers s (execInstResume op words s) := by
  unfold execInstResume
  refine .next ?_
  exact keeps_instOp (fun _ _ _ => .ite (apart_decide ..).keeps (.after (apart_succeed ..).keeps (.after (.fold
    (fun _ _ => keeps_readDoorbell ..)) (apart_setFn ..).keeps))) ..

theorem answers_instLimits (s : State) (op : Nat) : Answers s (execInstLimits op s) := by
  unfold execInstLimits
  split
  · exact .next (.refl _)
  · exact .next (.after (apart_succeed ..).keeps (apart_setFn ..).keeps)

theorem some_saveRunning (s : State) (h : Nat) (p : Pond) (record : Nat) : KeptSome s (s.saveRunning h p record) := by
  have hsaved : ∀ o, KeptSome s o → KeptSome s (o.map fun s => s.modPond h fun p => { p with running := 0 }) := by
    rintro (_ | u) hu
    · exact .none
    · exact .some (Keeps.trans hu (keeps_modPond ..))
  unfold State.saveRunning
  refine hsaved _ ?_
  split
  · exact .some (.refl _)
  · split
    · exact .some (keeps_recordFails ..)
    · exact (some_saveTiles ..).of_keeps (keeps_loadRecord ..)

theorem some_saveAllRunning (s : State) (l : List ((Nat × Pond) × Nat)) : KeptSome s (s.saveAllRunning l) := by
  induction l generalizing s with
  | nil => exact .some (.refl _)
  | cons x l ih =>
    unfold State.saveAllRunning
    cases hs : s.saveRunning x.1.1 x.1.2 x.2 with
    | none => exact .none
    | some u => exact (ih u).of_keeps ((some_saveRunning ..).of_some hs)

theorem answers_instSave (s : State) (op : Nat) (records : List Nat) : Answers s (execInstSave op records s) := by
  unfold execInstSave
  refine .next ?_
  refine keeps_instOp (fun _ _ _ => ?_) ..
  refine .ite (apart_decide ..).keeps ?_
  refine .ite (apart_decide ..).keeps ?_
  refine .ite (apart_decide ..).keeps ?_
  refine .ite (.refl _) ?_
  split
  · exact (apart_decide ..).keeps
  · split
    · exact .refl _
    · exact .after (apart_succeed ..).keeps (.after (apart_setFn ..).keeps (.after (keeps_landWrite ..)
        ((some_saveAllRunning ..).of_some ‹_›)))

theorem keeps_loadImage (s : State) (f h : Nat) (body : List Byte) (records : List Nat) :
    Keeps s (s.loadImage f h body records) := by
  unfold State.loadImage
  exact .after (.fold (fun _ _ => .after (apart_setSq ..).keeps (keeps_takeLine ..))) (.after (.fold (fun _ _ => .ite
    (keeps_loadRecord ..) (.refl _))) (.after (.fold (fun _ _ => .update (.refl _))) (apart_setFn ..).keeps))

theorem answers_instRestore (s : State) (x : RecordsFor) : Answers s (execInstRestore x s) := by
  unfold execInstRestore
  refine .next ?_
  exact keeps_instOp (fun _ _ _ => .ite (apart_decide ..).keeps (.ite (apart_decide ..).keeps (.ite (.refl _) (.ite
    (apart_decide ..).keeps (.ite (apart_decide ..).keeps (.ite (apart_decide ..).keeps (.after (apart_succeed ..).keeps
    (keeps_loadImage ..)))))))) ..

theorem answers_instNotice (s : State) (op : Nat) : Answers s (execInstNotice op s) := by
  unfold execInstNotice
  exact .next (keeps_instOp (fun _ _ _ => .after (apart_succeed ..).keeps (apart_post ..).keeps) ..)

theorem keeps_setInstState (s : State) (f : Nat) (st : InstState) : Keeps s (s.setInstState f st) := by
  unfold State.setInstState
  exact (apart_setFn ..).keeps

theorem keeps_settleSluices (s : State) (f : Nat) : Keeps s (s.settleSluices f) := by
  unfold State.settleSluices
  exact .update (.fold (fun _ _ => (apart_abortSluice ..).keeps))

theorem keeps_dropPushes (s : State) (f : Nat) : Keeps s (s.dropPushes f) := by
  unfold State.dropPushes
  exact .fold (fun _ _ => .after (apart_send ..).keeps (.update (.refl _)))

theorem keeps_endMoves (s : State) (inst : Nat) : Keeps s (s.endMoves inst) := by
  unfold State.endMoves
  refine .fold (fun s x => ?_)
  refine .after (keeps_modPond ..) ?_
  split
  · exact (apart_decide ..).keeps
  · exact .refl _

theorem keeps_dropWork (s : State) (f : Nat) : Keeps s (s.dropWork f) := by
  unfold State.dropWork
  exact .after (keeps_refreshBoard ..) (.updateMem (.fold (fun _ _ => (apart_redCancels ..).keeps)))

theorem keeps_forcedReset (s : State) (inst : Nat) : Keeps s (s.forcedReset inst) := by
  unfold State.forcedReset
  refine .ite (.refl _) ?_
  exact .after (apart_setFn ..).keeps (.after (keeps_dropXlat ..) (.after (keeps_dropPushes ..) (.after
    (keeps_endMoves ..) (.after (keeps_dropWork ..) (.after (keeps_settleSluices ..) (.after (apart_decide ..).keeps
    (keeps_setInstState ..)))))))

theorem answers_forcedInstanceReset (s : State) (inst : Nat) : Answers s (execForcedInstanceReset inst s) := by
  unfold execForcedInstanceReset
  exact .ite (.next (keeps_forcedReset ..)) (.next (.refl _))

theorem answers_instanceResetDone (s : State) (inst : Nat) : Answers s (execInstanceResetDone inst s) := by
  unfold execInstanceResetDone
  refine .ite (.next (.refl _)) ?_
  refine .next ?_
  exact .after (.fold (fun _ _ => keeps_schedule ..)) (.after (keeps_idleCheck ..) (.after (keeps_setInstState ..)
    (.after (.fold (fun _ _ => .after (keeps_modPond ..) (keeps_scrubTiles ..))) (.update (.fold
    (fun _ _ => keeps_dropSlotXlat ..))))))

theorem answers_vfEnableClear (s : State) (enable : Bool) (num : Nat) : Answers s (execVfEnableClear enable num s) := by
  unfold execVfEnableClear
  refine .next ?_
  exact .update (.after (.fold (fun _ _ => keeps_setInstState ..)) (.fold (fun _ _ => keeps_forcedReset ..)))

theorem answers_hostAccessError (s : State) (f kind target : Nat) :
    Answers s (execHostAccessError f kind target s) := by
  unfold execHostAccessError
  dsimp only
  split
  · split
    · exact .next (.update (.refl _))
    · refine .next ?_
      refine .ite (.update (.refl _)) ?_
      exact .after (apart_post ..).keeps (.after (apart_setSq ..).keeps (.after (keeps_takeFree ..) (.update (.refl _))))
  · exact .ite (.next (.after (keeps_recordFails ..) (.update (.refl _)))) (.next (.update (.refl _)))
  · split
    · refine .ite ?_ ?_
      · exact .next (.after (apart_decide ..).keeps (.after (keeps_takeFree ..) (.update (.refl _))))
      · exact .next (.update (.refl _))
    · exact .next (.update (.refl _))
  · exact .next (.update (.refl _))

theorem keeps_setClk (s : State) (f : ClockPart → ClockPart) : Keeps s (s.setClk f) := by
  unfold State.setClk
  exact .update (.refl _)

theorem keeps_startWake (s : State) : Keeps s s.startWake := by
  unfold State.startWake
  exact .ite (keeps_setClk ..) (.refl _)

theorem keeps_wakeEvent (s : State) (src : Nat) : Keeps s (s.wakeEvent src) := by
  unfold State.wakeEvent
  exact .ite (.refl _) (.ite (keeps_setClk ..) (.ite (.after (keeps_startWake ..) (keeps_setClk ..)) (.refl _)))

theorem keeps_hostReads (s : State) (data : List Byte) (poison : Bool) :
    Keeps s (s.hostReads data poison) := by
  unfold State.hostReads
  exact .update (.refl _)

theorem keeps_hostStore (s : State) (off : Nat) (data : List Byte) : Keeps s (s.hostStore off data) := by
  unfold State.hostStore
  exact .after (keeps_loftTouchRange ..) (.fold (fun _ _ => keeps_landWrite ..))

theorem keeps_hostLoad (s : State) (off n : Nat) : Keeps s (s.hostLoad off n) := by
  unfold State.hostLoad
  exact .ite (keeps_hostReads ..) (.ite (keeps_hostReads ..) (keeps_hostReads ..))

theorem keeps_bar2Pf (s : State) (off : Nat) (write : Bool) (len : Nat) (data : List Byte) :
    Keeps s (s.bar2Pf off write len data) := by
  unfold State.bar2Pf
  refine .ite (.ite (.refl _) (keeps_hostReads ..)) ?_
  exact .ite (.refl _) (.ite (keeps_hostReads ..) (.ite (keeps_hostStore ..) (keeps_hostLoad ..)))

theorem keeps_apertureFault (s : State) (fn off : Nat) (write : Bool) : Keeps s (s.apertureFault fn off write) := by
  unfold State.apertureFault
  exact (apart_post ..).keeps

theorem keeps_bar2Vf (s : State) (fn off : Nat) (write : Bool) (len : Nat) (data : List Byte) (ext : Ext) :
    Keeps s (s.bar2Vf fn off write len data ext) := by
  unfold State.bar2Vf
  refine .ite (.ite (.refl _) (keeps_hostReads ..)) ?_
  refine .ite ?_ ?_
  · split
    · exact (wrote_writeVa ..).of_ok ‹_›
    · exact .ite (.after (keeps_apertureFault ..) ((wrote_writeVa ..).of_bad ‹_›)) ((wrote_writeVa ..).of_bad ‹_›)
    · exact .refl _
  · split
    · exact keeps_hostReads ..
    · refine .ite (keeps_hostReads ..) ?_
      refine .ite (.after (keeps_apertureFault ..) (.ite (.refl _) (keeps_hostReads ..))) ?_
      exact .ite (.refl _) (keeps_hostReads ..)
    · exact .refl _

theorem answers_bar2Access (s : State) (fn off : Nat) (write : Bool) (len : Nat) (data : List Byte) (ext : Ext) :
    Answers s (execBar2Access fn off write len data ext s) := by
  unfold execBar2Access
  refine .ite (.next (.refl _)) ?_
  refine .ite ?_ ?_
  · exact .next (.after (keeps_wakeEvent ..) (.ite (.refl _) (keeps_hostReads ..)))
  · refine .ite ?_ ?_
    · exact .ite (.next (.refl _)) (.next (.after (keeps_hostReads ..) (keeps_takeFree ..)))
    · exact .ite (.next (keeps_bar2Pf ..)) (.next (keeps_bar2Vf ..))

theorem keeps_track (s : State) (granule : Nat) (owned : Bool) (recalled : List Byte) :
    Keeps s (s.track granule owned recalled) := by
  unfold State.track
  refine .ite (.updateMem (.refl _)) ?_
  dsimp only
  split
  · refine .ite (.updateMem (.refl _)) ?_
    exact .updateMem (.ite (.after (keeps_hostStore ..) (.updateMem (.refl _))) (.updateMem (.refl _)))
  · exact .updateMem (.refl _)

theorem keeps_giveUp (s : State) (granule : Nat) (data : List Byte) : Keeps s (s.giveUp granule data) := by
  unfold State.giveUp
  exact .ite (.after (keeps_hostStore ..) (.updateMem (.refl _))) (.updateMem (.refl _))

theorem answers_cxlMemAccess (s : State) (kind off : Nat) (data recalled : List Byte) :
    Answers s (execCxlMemAccess kind off data recalled s) := by
  unfold execCxlMemAccess
  refine .ite (.next (.refl _)) ?_
  refine .ite ?_ ?_
  · exact .next (.after (keeps_wakeEvent ..) (.ite (keeps_hostReads ..) (.refl _)))
  · refine .ite ?_ ?_
    · exact .ite (.next (.refl _)) (.next (.after (keeps_hostReads ..) (keeps_takeFree ..)))
    · refine .ite (.next (.refl _)) ?_
      split
      · exact .next (keeps_hostLoad ..)
      · exact .next (.after (keeps_track ..) (keeps_hostLoad ..))
      · exact .next (.after (keeps_track ..) (keeps_hostLoad ..))
      · exact .next (keeps_giveUp ..)
      · exact .next (keeps_giveUp ..)
      · exact .next (keeps_hostStore ..)
      · exact .next (.refl _)

theorem keeps_spendCredit (s : State) (chan cls : Nat) : Keeps s (s.spendCredit chan cls) := by
  unfold State.spendCredit
  exact keeps_setWeir ..

theorem answers_hbmReadDone (s : State) (off lat : Nat) (ret : ReadReturn) :
    Answers s (execHbmReadDone off lat ret s) := by
  unfold execHbmReadDone
  split
  · exact .next (.refl _)
  · refine .ite (.next (.refl _)) ?_
    refine .next ?_
    refine .ite ?_ ?_
    · exact .after (keeps_corrected ..) (.after (keeps_setWeir ..) (.ite (keeps_setWeir ..) (keeps_spendCredit ..)))
    · refine .ite ?_ ?_
      · refine .after (.after (keeps_uncorrectable ..) (.after (keeps_poisonGranule ..) (keeps_setWeir ..))) ?_
        exact .ite (keeps_setWeir ..) (keeps_spendCredit ..)
      · exact .after (keeps_setWeir ..) (.ite (keeps_setWeir ..) (keeps_spendCredit ..))

theorem answers_weirRecompute (s : State) (port : Nat) : Answers s (execWeirRecompute port s) := by
  unfold execWeirRecompute
  exact .ite (.next (.refl _)) (.next (keeps_setWeir ..))

theorem answers_weirCreditPeriod (s : State) : Answers s (execWeirCreditPeriod s) := by
  unfold execWeirCreditPeriod
  exact .next (keeps_setWeir ..)

theorem answers_requestAgeTimeout (s : State) (req : AgedRequest) :
    Answers s (execRequestAgeTimeout req s) := by
  unfold execRequestAgeTimeout
  split
  · exact .next (.refl _)
  · exact .next (.ite (keeps_spendCredit ..) (.after (keeps_setWeir ..) (keeps_spendCredit ..)))

theorem keeps_judgeWindow (s : State) (c : Nat) : Keeps s (s.judgeWindow c) := by
  unfold State.judgeWindow
  refine .ite (.after (keeps_setWeir ..) (keeps_setWeir ..)) ?_
  refine .ite (keeps_setWeir ..) ?_
  refine .ite (.after (keeps_setWeir ..) (keeps_setWeir ..)) ?_
  exact .after (apart_post ..).keeps (.after (keeps_setWeir ..) (keeps_setWeir ..))

theorem answers_weirWindowEnd (s : State) : Answers s (execWeirWindowEnd s) := by
  unfold execWeirWindowEnd
  exact .next (.fold (fun _ _ => keeps_judgeWindow ..))

theorem keeps_probe (s : State) (h : Nat) : Keeps s (s.probe h) := by
  unfold State.probe
  exact .fold (fun _ _ => (apart_send ..).keeps)

theorem keeps_postMode (s : State) (h : Nat) (p : WeirPond) (peak : Nat) : Keeps s (s.postMode h p peak) := by
  unfold State.postMode
  split
  · exact .refl _
  · exact (apart_post ..).keeps

theorem keeps_evalPeriod (s : State) (h : Nat) : Keeps s (s.evalPeriod h) := by
  unfold State.evalPeriod
  split
  · exact .refl _
  · refine .ite (keeps_setWeirPond ..) ?_
    refine .ite ?_ ?_
    · refine .ite (keeps_setWeirPond ..) ?_
      refine .ite ?_ ?_
      · exact .ite (.after (keeps_probe ..) (.after (keeps_postMode ..) (keeps_setWeirPond ..))) (keeps_setWeirPond ..)
      · exact keeps_setWeirPond ..
    · refine .ite (.after (keeps_probe ..) (keeps_setWeirPond ..)) ?_
      refine .ite ?_ ?_
      · exact .ite (.after (keeps_postMode ..) (keeps_setWeirPond ..)) (.after (keeps_probe ..) (keeps_setWeirPond ..))
      · exact .ite (.after (keeps_probe ..) (keeps_setWeirPond ..)) (.after (keeps_probe ..) (keeps_setWeirPond ..))

theorem answers_weirEvalPeriod (s : State) (x : ProbePeriod) : Answers s (execWeirEvalPeriod x s) := by
  unfold execWeirEvalPeriod
  exact .next (.after (keeps_evalPeriod ..) (.ite (keeps_noteLatencies ..) (.refl _)))

theorem keeps_patrolLoft (s : State) (off err : Nat) : Keeps s (s.patrolLoft off err) := by
  unfold State.patrolLoft
  refine .ite (.refl _) ?_
  refine .ite (keeps_corrected ..) ?_
  refine .ite (.refl _) ?_
  refine .ite (.after (keeps_uncorrectable ..) (keeps_loseStaged ..)) ?_
  split
  · exact .refl _
  · refine .ite (.after (keeps_uncorrectable ..) (keeps_poisonGranule ..)) ?_
    exact .after (keeps_corrected ..) (.updateMem (.refl _))

theorem keeps_patrolHbm (s : State) (off err : Nat) : Keeps s (s.patrolHbm off err) := by
  unfold State.patrolHbm
  split
  · exact .refl _
  · refine .ite (.refl _) ?_
    exact .ite (keeps_corrected ..) (.ite (.after (keeps_uncorrectable ..) (keeps_poisonGranule ..)) (.refl _))

theorem answers_patrolRead (s : State) (off : Nat) (loft : Bool) (err : Nat) :
    Answers s (execPatrolRead off loft err s) := by
  unfold execPatrolRead
  exact .ite (.next (.refl _)) (.next (.ite (keeps_patrolLoft ..) (keeps_patrolHbm ..)))

theorem answers_bucketLeak (s : State) (cls unit : Nat) : Answers s (execBucketLeak cls unit s) := by
  unfold execBucketLeak
  exact .ite (.next (.refl _)) (.ite (.next (.refl _)) (.next (.update (.refl _))))

theorem keeps_modSub (s : State) (n : Nat) (f : SubLink → SubLink) : Keeps s (s.modSub n f) := by
  unfold State.modSub
  exact .update (.refl _)

theorem keeps_startTraining (s : State) (n : Nat) : Keeps s (s.startTraining n) := by
  unfold State.startTraining
  exact keeps_modSub ..

theorem answers_sublinkTrainStart (s : State) (n : Nat) : Answers s (execSublinkTrainStart n s) := by
  unfold execSublinkTrainStart
  exact .ite (.next (keeps_startTraining ..)) (.next (.refl _))

theorem answers_lightDetect (s : State) (n lanes : Nat) : Answers s (execLightDetect n lanes s) := by
  unfold execLightDetect
  refine .ite (.next (.refl _)) ?_
  dsimp only
  split
  · exact .next (.ite (keeps_modSub ..) (.after (apart_post ..).keeps (keeps_modSub ..)))
  · exact .next (.after (keeps_modSub ..) (keeps_modSub ..))
  · exact .next (.ite (.after (keeps_startTraining ..) (keeps_modSub ..)) (keeps_modSub ..))
  · exact .ite (.next (keeps_modSub ..)) (.next (.after (keeps_startTraining ..) (keeps_modSub ..)))
  · exact .ite (.next (keeps_modSub ..)) (.next (.after (keeps_startTraining ..) (keeps_modSub ..)))
  · exact .next (keeps_modSub ..)

theorem keeps_postLeat (s : State) (n code payload : Nat) : Keeps s (s.postLeat n code payload) := by
  unfold State.postLeat
  split
  · exact .after (apart_post ..).keeps (apart_post ..).keeps
  · exact (apart_post ..).keeps

theorem keeps_linkDown (s : State) (n cause : Nat) : Keeps s (s.linkDown n cause) := by
  unfold State.linkDown
  dsimp only
  split
  · exact .after (keeps_postLeat ..) (keeps_modSub ..)
  · exact .after (keeps_postLeat ..) (.after (keeps_takeFree ..) (keeps_modSub ..))

theorem keeps_runFails (s : State) (n : Nat) : Keeps s (s.runFails n) := by
  unfold State.runFails
  exact .ite (.after (keeps_fence ..) (keeps_modSub ..)) (keeps_modSub ..)

theorem keeps_attemptFails (s : State) (n : Nat) : Keeps s (s.attemptFails n) := by
  unfold State.attemptFails
  refine .ite (keeps_modSub ..) ?_
  split
  · exact keeps_modSub ..
  · exact keeps_runFails ..

theorem answers_capabilityFrame (s : State) (n frame : Nat) : Answers s (execCapabilityFrame n frame s) := by
  unfold execCapabilityFrame
  refine .ite (.next (.refl _)) ?_
  dsimp only
  split
  · refine .ite (.next (.after (keeps_linkDown ..) (keeps_modSub ..))) ?_
    exact .next (.after (keeps_runFails ..) (keeps_modSub ..))
  · exact .ite (.next (.after (keeps_attemptFails ..) (keeps_modSub ..))) (.next (keeps_modSub ..))

theorem answers_trainingStepDone (s : State) (n lanes : Nat) (ok : Bool) :
    Answers s (execTrainingStepDone n lanes ok s) := by
  unfold execTrainingStepDone
  refine .ite (.next (.refl _)) ?_
  refine .ite (.next (.ite (keeps_attemptFails ..) (.refl _))) ?_
  split
  · exact .next (keeps_modSub ..)
  · exact .next (keeps_modSub ..)
  · exact .next (keeps_modSub ..)
  · exact .next (.refl _)

theorem keeps_postUp (s : State) (n : Nat) (l : SubLink) : Keeps s (s.postUp n l) := by
  unfold State.postUp
  exact keeps_postLeat ..

theorem keeps_setFab (s : State) (f : FabricPart → FabricPart) : Keeps s (s.setFab f) := by
  unfold State.setFab
  exact .update (.refl _)

theorem keeps_reachCheck (s : State) : Keeps s s.reachCheck := by
  unfold State.reachCheck
  exact .after (.fold (fun _ _ => (apart_post ..).keeps)) (keeps_setFab ..)

theorem keeps_postDegraded (s : State) (n : Nat) (l : SubLink) : Keeps s (s.postDegraded n l) := by
  unfold State.postDegraded
  exact keeps_postLeat ..

theorem answers_linkTestDone (s : State) (n : Nat) (pass : Bool) : Answers s (execLinkTestDone n pass s) := by
  unfold execLinkTestDone
  refine .ite (.next (.refl _)) ?_
  refine .ite (.next (keeps_attemptFails ..)) ?_
  refine .next ?_
  refine .after (keeps_reachCheck ..) ?_
  refine .ite ?_ ?_
  · exact .after (keeps_postDegraded ..) (.after (keeps_postUp ..) (keeps_modSub ..))
  · exact .after (keeps_postUp ..) (keeps_modSub ..)

theorem answers_trainingRetryTimer (s : State) (n : Nat) : Answers s (execTrainingRetryTimer n s) := by
  unfold execTrainingRetryTimer
  exact .ite (.next (.refl _)) (.ite (.next (keeps_fence ..)) (.next (keeps_startTraining ..)))

theorem keeps_startRetrain (s : State) (n : Nat) : Keeps s (s.startRetrain n) := by
  unfold State.startRetrain
  exact keeps_modSub ..

theorem answers_flitCrcFail (s : State) (n fixed : Nat) (uncorr again : Bool) :
    Answers s (execFlitCrcFail n fixed uncorr again s) := by
  unfold execFlitCrcFail
  exact .ite (.next (.refl _)) (.next (.ite (.after (keeps_startRetrain ..) (keeps_modSub ..)) (keeps_modSub ..)))

theorem answers_replayAckTimeout (s : State) (n : Nat) : Answers s (execReplayAckTimeout n s) := by
  unfold execReplayAckTimeout
  exact .ite (.next (keeps_startRetrain ..)) (.next (.refl _))

theorem keeps_beginHold (s : State) (n cause : Nat) : Keeps s (s.beginHold n cause) := by
  unfold State.beginHold
  exact .after (keeps_linkDown ..) (keeps_modSub ..)

theorem keeps_retrainLost (s : State) (n : Nat) : Keeps s (s.retrainLost n) := by
  unfold State.retrainLost
  exact .after (keeps_startTraining ..) (keeps_beginHold ..)

theorem answers_retrainDone (s : State) (n : Nat) (pass : Bool) : Answers s (execRetrainDone n pass s) := by
  unfold execRetrainDone
  refine .ite (.next (.refl _)) ?_
  refine .ite (.next (.after (keeps_reachCheck ..) (keeps_modSub ..))) ?_
  exact .ite (.next (.after (keeps_startRetrain ..) (keeps_modSub ..))) (.next (keeps_retrainLost ..))

theorem answers_laneLockLost (s : State) (n : Nat) (x : LaneEnd) : Answers s (execLaneLockLost n x s) := by
  unfold execLaneLockLost
  refine .ite (.next (.refl _)) ?_
  refine .next ?_
  refine .ite ?_ ?_
  · exact .after (keeps_retrainLost ..) (.after (keeps_postDegraded ..) (keeps_modSub ..))
  · exact .after (keeps_startRetrain ..) (.after (keeps_postDegraded ..) (keeps_modSub ..))

theorem answers_lightLoss (s : State) (n : Nat) : Answers s (execLightLoss n s) := by
  unfold execLightLoss
  refine .ite (.next (.refl _)) ?_
  dsimp only
  split
  · exact .next (.after (keeps_beginHold ..) (.after (keeps_modSub ..) (keeps_modSub ..)))
  · exact .next (.after (keeps_beginHold ..) (.after (keeps_modSub ..) (keeps_modSub ..)))
  · exact .next (.after (keeps_modSub ..) (keeps_modSub ..))
  · exact .next (keeps_modSub ..)

theorem answers_holdExpiry (s : State) (n : Nat) (ops : List Nat) : Answers s (execHoldExpiry n ops s) := by
  unfold execHoldExpiry
  refine .ite (.next (.refl _)) ?_
  exact .next (.after (keeps_releaseReruns ..) (.after (keeps_fence ..) (keeps_strikeAll ..)))

theorem answers_neighbourNotice (s : State) (n : Nat) (fence : Bool) : Answers s (execNeighbourNotice n fence s) := by
  unfold execNeighbourNotice
  exact .ite (.next (keeps_modSub ..)) (.next (.refl _))

theorem answers_noticeDrainDone (s : State) (n : Nat) : Answers s (execNoticeDrainDone n s) := by
  unfold execNoticeDrainDone
  exact .ite (.next (.refl _)) (.next (.after (keeps_linkDown ..) (keeps_modSub ..)))

theorem keeps_unstageFor (s : State) (mere id src op : Nat) : Keeps s (s.unstageFor mere id src op) := by
  unfold State.unstageFor
  exact (apart_modSluice ..).keeps

theorem keeps_answer {s : State} {w : Served} (h : w.Kept s) (src tag mere sub : Nat) :
    Keeps s (s.answer src tag mere sub w) := by
  cases w with
  | ok s1 bs p => exact Keeps.trans h (apart_sendOn ..).keeps
  | refused s1 => exact Keeps.trans h (apart_sendOn ..).keeps
  | stall => exact .refl _

theorem served_serveRead (s : State) (k off n : Nat) : Served.Kept s (s.serveRead k off n) := by
  unfold State.serveRead
  exact .ite .stall (.ok (.refl _))

theorem served_serveStaged (s : State) (mere slu src op kind off : Nat) (data : List Byte) :
    Served.Kept s (s.serveStaged mere slu src op kind off data) := by
  unfold State.serveStaged
  refine .ite (.refused (.refl _)) ?_
  split
  · exact .ok ((wrote_stage ..).of_ok ‹_›)
  · exact .refused ((wrote_stage ..).of_bad ‹_›)
  · exact .stall

theorem keeps_poisonFrom (s : State) (off n : Nat) : Keeps s (s.poisonFrom off n) := by
  unfold State.poisonFrom
  exact .fold (fun _ _ => .after (keeps_poisonLine ..) (keeps_drawFree ..))

theorem served_serveWrite (s : State) (kind off : Nat) (data : List Byte) :
    Served.Kept s (s.serveWrite kind off data) := by
  unfold State.serveWrite
  refine .ite .stall ?_
  refine .ite (.ok (keeps_poisonFrom ..)) ?_
  refine .ite (.ok (.refl _)) ?_
  dsimp only
  exact .ok (.after (keeps_loftTouchRange ..) (keeps_landWrite ..))

theorem answers_remoteRequest (s : State) (src tag mere kind off len slu : Nat) (data : List Byte) (sub : Nat) :
    Answers s (execRemoteRequest src tag mere kind off len slu data sub s) := by
  unfold execRemoteRequest
  refine .ite (.next (.refl _)) ?_
  refine .ite (.next (keeps_unstageFor ..)) ?_
  refine .ite (.next (.refl _)) ?_
  refine .ite (.next (keeps_answer (Served.Kept.refused (.refl _)) ..)) ?_
  refine .ite (.next (keeps_answer (served_serveRead ..) ..)) ?_
  exact .ite (.next (keeps_answer (served_serveStaged ..) ..)) (.next (keeps_answer (served_serveWrite ..) ..))

theorem answers_windowAccess (s : State) (src tag mere idx kind off : Nat) (data host : List Byte) (poison : Bool)
    (sub : Nat) :
    Answers s (execWindowAccess src tag mere idx kind off data host poison sub s) := by
  unfold execWindowAccess
  dsimp only
  split
  · exact .next (keeps_answer (Served.Kept.refused (.refl _)) ..)
  · refine .ite (.next (keeps_answer (Served.Kept.refused (.refl _)) ..)) ?_
    refine .ite ?_ ?_
    · refine .ite (.next (keeps_answer (Served.Kept.refused (.refl _)) ..)) ?_
      exact .next (keeps_answer (Served.Kept.ite (served_serveWrite ..) (served_serveRead ..)) ..)
    · refine .ite (.next (keeps_answer (Served.Kept.ok (.refl _)) ..)) ?_
      refine .ite (.next (keeps_answer (Served.Kept.ok (keeps_writeHostData ..)) ..)) ?_
      refine .ite (.next (keeps_answer (Served.Kept.ok (keeps_poisonHost ..)) ..)) ?_
      exact .next (keeps_answer (Served.Kept.refused (.refl _)) ..)

theorem answers_mereBind (s : State) (op : Nat) : Answers s (execMereBind op s) := by
  unfold execMereBind
  split
  · exact .next (.refl _)
  · dsimp only
    split
    · refine .ite (.next (apart_decide ..).keeps) ?_
      exact .ite (.next (apart_decide ..).keeps) (.next (apart_decide ..).keeps)
    · refine .ite (.next (apart_decide ..).keeps) ?_
      refine .ite (.next (apart_decide ..).keeps) ?_
      refine .ite (.next (apart_decide ..).keeps) ?_
      refine .ite (.next (.refl _)) ?_
      refine .ite (.next (apart_decide ..).keeps) ?_
      refine .ite (.next (apart_decide ..).keeps) ?_
      split
      · exact .next (apart_decide ..).keeps
      · refine .ite (.next (.refl _)) ?_
        exact .next (.after (apart_succeed ..).keeps (.update (.ite (keeps_landWrite ..) (.refl _))))

theorem answers_mereUnbind (s : State) (op : Nat) : Answers s (execMereUnbind op s) := by
  unfold execMereUnbind
  split
  · exact .next (.refl _)
  · dsimp only
    split
    · exact .next (apart_decide ..).keeps
    · exact .ite (.next (apart_decide ..).keeps) (.next (.after (apart_succeed ..).keeps (.update (.refl _))))

theorem answers_windowSet (s : State) (op : Nat) : Answers s (execWindowSet op s) := by
  unfold execWindowSet
  split
  · exact .next (.refl _)
  · split
    · exact .next (apart_decide ..).keeps
    · dsimp only
      split
      · exact .next (apart_decide ..).keeps
      · exact .next (.after (apart_decide ..).keeps (.update (.refl _)))

theorem answers_windowClear (s : State) (op : Nat) : Answers s (execWindowClear op s) := by
  unfold execWindowClear
  split
  · exact .next (.refl _)
  · dsimp only
    split
    · exact .next (apart_decide ..).keeps
    · refine .ite (.next (apart_decide ..).keeps) ?_
      exact .next (.after (keeps_start ..) (.after (keeps_enqueue ..) (.update (.refl _))))

theorem answers_windowClearDone (s : State) (idx : Nat) : Answers s (execWindowClearDone idx s) := by
  unfold execWindowClearDone
  split
  · exact .next (.refl _)
  · exact .ite (.next (.refl _)) (.next (.after (apart_succeed ..).keeps (.update (.refl _))))

theorem answers_pushSubscribe (s : State) (op reply : Nat) : Answers s (execPushSubscribe op reply s) := by
  unfold execPushSubscribe
  split
  · refine .ite (.next (apart_decide ..).keeps) ?_
    split
    · exact .next (.refl _)
    · exact .next (apart_decide ..).keeps
    · refine .ite (.next (apart_decide ..).keeps) ?_
      split
      · exact .next (apart_decide ..).keeps
      · refine .next ?_
        exact .after (keeps_start ..) (.after (keeps_enqueue ..) (.after (apart_send ..).keeps (.update (.refl _))))
  · split
    · refine .ite (.next (.refl _)) ?_
      refine .ite (.next (.after (apart_decide ..).keeps (.update (.refl _)))) ?_
      exact .next (.after (apart_decide ..).keeps (.update (.refl _)))
    · exact .next (.refl _)

theorem keeps_pullCopy (s : State) (x : PushIn) (id : Nat) (landed : List (Nat × Nat)) :
    Keeps s (s.pullCopy x id landed) := by
  unfold State.pullCopy
  split
  · exact .refl _
  · refine .ite (.after (apart_succeed ..).keeps (apart_modOp ..).keeps) ?_
    exact .after (keeps_activate ..) (apart_modOp ..).keeps

theorem keeps_endPush (s : State) (i cause : Nat) : Keeps s (s.endPush i cause) := by
  unfold State.endPush
  split
  · exact .refl _
  · exact .after (apart_post ..).keeps (.after (.fold (fun _ _ => keeps_pullCopy ..)) (.update (.refl _)))

theorem answers_pushCancel (s : State) (op : Nat) (reply : Bool) : Answers s (execPushCancel op reply s) := by
  unfold execPushCancel
  split
  · dsimp only
    split
    · exact .next (apart_decide ..).keeps
    · refine .ite (.next (apart_decide ..).keeps) ?_
      refine .ite (.next (apart_decide ..).keeps) ?_
      refine .next ?_
      exact .after (keeps_start ..) (.after (keeps_enqueue ..) (.after (apart_send ..).keeps (keeps_endPush ..)))
  · split
    · exact .ite (.next (apart_succeed ..).keeps) (.next (.refl _))
    · exact .next (.refl _)

theorem keeps_finishPushed (s : State) (i : Nat) : Keeps s (s.finishPushed i) := by
  unfold State.finishPushed
  split
  · exact .refl _
  · exact .after (.fold (fun _ _ => (apart_succeed ..).keeps)) (.update (.refl _))

theorem answers_pushWriteLand (s : State) (num off : Nat) (data : List Byte) (slu : Nat) :
    Answers s (execPushWriteLand num off data slu s) := by
  have hserved : ∀ (c d : Prop) [Decidable c] [Decidable d] (mere dev mask : Nat),
      Served.Kept s (if c then s.serveStaged mere slu dev 0 1 off data else if d then .stall
        else .ok ((s.landWrite 0 off data).loftTouchRange off data.length .alloc mask true) [] false) :=
    fun _ _ _ _ _ _ _ => .ite (served_serveStaged ..) (.ite trivial (Keeps.after (keeps_loftTouchRange ..)
      (keeps_landWrite ..)))
  unfold execPushWriteLand
  split
  · exact .next (.refl _)
  · refine .ite (.next (.refl _)) ?_
    dsimp only
    split
    · exact .next (.refl _)
    · next h1 => exact .next ((hserved ..).of_refused h1)
    · next h1 => exact .next (.after (keeps_finishPushed ..) (.update ((hserved ..).of_ok h1)))

theorem answers_pushTimeout (s : State) (op : Nat) : Answers s (execPushTimeout op s) := by
  unfold execPushTimeout
  split
  · exact .next (.refl _)
  · split
    · exact .next (.refl _)
    · exact .next (.after (keeps_pullCopy ..) (.update (.refl _)))

theorem keeps_setRoute (s : State) (group : Bool) (k w : Nat) : Keeps s (s.setRoute group k w) := by
  unfold State.setRoute
  exact keeps_setFab ..

theorem keeps_updateRoot (s : State) : Keeps s s.updateRoot := by
  unfold State.updateRoot
  exact .ite (.update (keeps_setFab ..)) (keeps_setFab ..)

theorem keeps_reject (s : State) (cause : Nat) : Keeps s (s.reject cause) := by
  unfold State.reject
  exact .after (apart_post ..).keeps (.update (keeps_setFab ..))

theorem keeps_applyConfirm (s : State) (bitmap reported : Nat) : Keeps s (s.applyConfirm bitmap reported) := by
  unfold State.applyConfirm
  refine .ite ?_ ?_
  · refine .ite ?_ ?_
    · exact .after (keeps_updateRoot ..) (.after (keeps_setFab ..) (.fold (fun _ _ => keeps_setRoute ..)))
    · refine .ite ?_ ?_
      · exact .after (apart_post ..).keeps (.after (keeps_updateRoot ..) (.after (keeps_setFab ..) (.after
          (keeps_setFab ..) (.fold (fun _ _ => keeps_setRoute ..)))))
      · exact .after (keeps_setFab ..) (.fold (fun _ _ => keeps_setRoute ..))
  · refine .ite ?_ ?_
    · exact .after (keeps_reject ..) (.after (keeps_setFab ..) (.fold (fun _ _ => keeps_setRoute ..)))
    · exact .after (keeps_setFab ..) (.fold (fun _ _ => keeps_setRoute ..))

theorem keeps_floodConfirm (s : State) (bitmap : Nat) : Keeps s (s.floodConfirm bitmap) := by
  unfold State.floodConfirm
  exact .after (keeps_applyConfirm ..) (.fold (fun _ _ => (apart_send ..).keeps))

theorem answers_fabConfirm (s : State) (op : Nat) : Answers s (execFabConfirm op s) := by
  unfold execFabConfirm
  split
  · exact .next (.refl _)
  · refine .ite (.next (apart_decide ..).keeps) ?_
    refine .ite (.next (apart_decide ..).keeps) ?_
    refine .ite (.next (apart_decide ..).keeps) ?_
    refine .ite (.next (.refl _)) ?_
    refine .ite (.next (apart_decide ..).keeps) ?_
    refine .ite (.next (.after (apart_succeed ..).keeps (keeps_floodConfirm ..))) ?_
    exact .next (.after (apart_succeed ..).keeps (.after (apart_send ..).keeps (keeps_takeFree ..)))

theorem keeps_sendHello (s : State) (sub : Nat) : Keeps s (s.sendHello sub) := by
  unfold State.sendHello
  exact (apart_sendOn ..).keeps

theorem answers_hello (s : State) (sub dev state : Nat) (leaderOk : Bool) :
    Answers s (execHello sub dev state leaderOk s) := by
  unfold execHello
  refine .ite (.next (.refl _)) ?_
  refine .ite (.next (.after (keeps_setFab ..) (keeps_modSub ..))) ?_
  exact .next (.after (keeps_setFab ..) (.after (keeps_sendHello ..) (.after (keeps_setFab ..) (keeps_modSub ..))))

theorem keeps_putRoute (s : State) (group : Bool) (k mask hops : Nat) : Keeps s (s.putRoute group k mask hops) := by
  unfold State.putRoute
  refine .ite (keeps_setRoute ..) ?_
  split
  · exact .refl _
  · exact .after (keeps_setRoute ..) (keeps_setFab ..)

theorem keeps_mergeRoute (s : State) (group : Bool) (sub k hops : Nat) : Keeps s (s.mergeRoute group sub k hops) := by
  unfold State.mergeRoute
  refine .ite (.ite (keeps_putRoute ..) (.refl _)) ?_
  refine .ite (keeps_putRoute ..) ?_
  exact .ite (.ite (.refl _) (keeps_putRoute ..)) (.ite (.ite (keeps_putRoute ..) (keeps_putRoute ..)) (.refl _))

theorem answers_vectorReceived (s : State) (sub : Nat) (group : Bool) (dists links leaders : List Nat) (anchor : Nat)
    (dups : List Nat) :
    Answers s (execVectorReceived sub group dists links leaders anchor dups s) := by
  unfold execVectorReceived
  dsimp only
  split
  · exact .next (.refl _)
  · refine .ite (.next (.refl _)) ?_
    refine .ite (.next (keeps_reject ..)) ?_
    refine .next ?_
    refine .after (.after (keeps_reachCheck ..) (keeps_setFab ..)) ?_
    exact .ite (.refl _) (.fold (fun _ _ => keeps_mergeRoute ..))

theorem keeps_pruneRoutes (s0 : State) : Keeps s0 (s0.pruneRoutes) := by
  unfold State.pruneRoutes
  refine .ite (.refl _) ?_
  exact .after (.fold (fun _ _ => keeps_setRoute ..)) (.after (.fold (fun _ _ => keeps_setRoute ..)) (keeps_setFab ..))

theorem keeps_addDirect (s : State) (group : Bool) : Keeps s (s.addDirect group) := by
  unfold State.addDirect
  refine .ite (.refl _) ?_
  refine .fold (fun s x => ?_)
  dsimp only
  split
  · exact .refl _
  · refine .ite (keeps_mergeRoute ..) ?_
    exact .ite (.ite (.after (keeps_setFab ..) (keeps_mergeRoute ..)) (keeps_mergeRoute ..)) (.refl _)

theorem keeps_sendVectors (s : State) (group : Bool) : Keeps s (s.sendVectors group) := by
  unfold State.sendVectors
  exact .fold (fun _ _ => (apart_sendOn ..).keeps)

theorem keeps_beginRounds (s : State) (kind : Nat) : Keeps s (s.beginRounds kind) := by
  unfold State.beginRounds
  exact .after (keeps_sendVectors ..) (.after (keeps_setFab ..) (keeps_addDirect ..))

theorem keeps_elect (s : State) : Keeps s s.elect := by
  unfold State.elect
  dsimp only
  split <;> exact .after (keeps_updateRoot ..) (keeps_setFab ..)

theorem keeps_postReport (s : State) (group leader members : Nat) (dup : Bool) (bitmap : Nat) :
    Keeps s (s.postReport group leader members dup bitmap) := by
  unfold State.postReport
  exact .after (apart_post ..).keeps (keeps_setFab ..)

theorem keeps_sendReport (s : State) : Keeps s s.sendReport := by
  unfold State.sendReport
  refine .ite (.refl _) ?_
  exact .ite (.after (keeps_postReport ..) (keeps_setFab ..)) (.after (apart_send ..).keeps (keeps_setFab ..))

theorem answers_joinRoundEnd (s0 : State) : Answers s0 (execJoinRoundEnd s0) := by
  unfold execJoinRoundEnd
  dsimp only
  split
  · exact .next (.refl _)
  · exact .next (.refl _)
  · exact .next (.after (.fold (fun _ _ => keeps_sendHello ..)) (.after (keeps_setFab ..) (keeps_pruneRoutes ..)))
  · split
    · exact .next (.after (keeps_beginRounds ..) (keeps_pruneRoutes ..))
    · refine .ite ?_ ?_
      · exact .next (.after (keeps_sendVectors ..) (.after (keeps_setFab ..) (keeps_pruneRoutes ..)))
      · refine .next ?_
        exact .after (keeps_beginRounds ..) (.after (keeps_elect ..) (.after (keeps_setFab ..) (keeps_pruneRoutes ..)))
    · refine .ite ?_ ?_
      · exact .next (.after (keeps_sendVectors ..) (.after (keeps_setFab ..) (keeps_pruneRoutes ..)))
      · refine .next ?_
        exact .after (keeps_sendReport ..) (.after (keeps_updateRoot ..) (.after (keeps_setFab ..)
          (keeps_pruneRoutes ..)))
    · refine .ite (.next (keeps_pruneRoutes ..)) ?_
      refine .ite (.next (.after (keeps_beginRounds ..) (keeps_pruneRoutes ..))) ?_
      exact .next (.after (.fold (fun _ _ => keeps_sendHello ..)) (.after (keeps_setFab ..) (keeps_pruneRoutes ..)))

theorem answers_groupReport (s : State) (group leader members : Nat) (dup : Bool) (bitmap : Nat) :
    Answers s (execGroupReport group leader members dup bitmap s) := by
  unfold execGroupReport
  exact .ite (.next (keeps_postReport ..)) (.next (.refl _))

theorem answers_groupReportResend (s : State) : Answers s (execGroupReportResend s) := by
  unfold execGroupReportResend
  exact .ite (.next (keeps_sendReport ..)) (.next (.refl _))

theorem answers_confirmationReceived (s : State) (group : Nat) (conf : Confirmation) :
    Answers s (execConfirmationReceived group conf s) := by
  unfold execConfirmationReceived
  exact .ite (.next (.refl _)) (.next (.ite (keeps_floodConfirm ..) (keeps_applyConfirm ..)))

theorem keeps_mergeReport (s : State) (fp dev count : Nat) : Keeps s (s.mergeReport fp dev count) := by
  unfold State.mergeReport
  exact keeps_setFab ..

theorem answers_faultReportSend (s : State) (kind a b c : Nat) : Answers s (execFaultReportSend kind a b c s) := by
  unfold execFaultReportSend
  split
  · exact .next (.refl _)
  · refine .ite (.next (keeps_setFab ..)) ?_
    refine .ite (.next (.after (keeps_mergeReport ..) (keeps_setFab ..))) ?_
    exact .next (.after (apart_send ..).keeps (keeps_setFab ..))

theorem keeps_postFault (s : State) (fp devices count lowest group : Nat) :
    Keeps s (s.postFault fp devices count lowest group) := by
  unfold State.postFault
  exact (apart_post ..).keeps

theorem answers_leaderFaultWindow (s : State) : Answers s (execLeaderFaultWindow s) := by
  unfold execLeaderFaultWindow
  refine .ite (.next (.refl _)) ?_
  exact .next (.after (.fold (fun _ _ => .ite (keeps_postFault ..) (apart_send ..).keeps)) (keeps_setFab ..))

theorem answers_faultReport (s : State) (fp devices count lowest group : Nat) :
    Answers s (execFaultReport fp devices count lowest group s) := by
  unfold execFaultReport
  exact .ite (.next (keeps_postFault ..)) (.next (.refl _))

theorem keeps_coordinatorLost (s : State) (dev : Nat) : Keeps s (s.coordinatorLost dev) := by
  unfold State.coordinatorLost
  refine .fold (fun s x => ?_)
  refine .ite ?_ ?_
  · exact .after (keeps_freeSluice ..) (.after (apart_endOps ..).keeps (apart_endOp ..).keeps)
  · exact .after (apart_abortSluiceWith ..).keeps (.after (apart_endOps ..).keeps (apart_endOp ..).keeps)

theorem answers_unreachTimer (s : State) (dev : Nat) (ops : List Nat) : Answers s (execUnreachTimer dev ops s) := by
  unfold execUnreachTimer
  refine .ite (.next (.refl _)) ?_
  refine .next ?_
  exact .after (.fold (fun _ _ => keeps_endPush ..)) (.after (keeps_coordinatorLost ..) (.after (.fold (fun _ _ =>
    (apart_decide ..).keeps)) (.after (apart_post ..).keeps (keeps_setFab ..))))

theorem answers_timeExchange (s : State) : Answers s (execTimeExchange s) := by
  unfold execTimeExchange
  exact .ite (.next (.refl _)) (.next (.after (apart_sendOn ..).keeps (keeps_setFab ..)))

theorem answers_timeRequestReceived (s : State) (sub t1 : Nat) : Answers s (execTimeRequestReceived sub t1 s) := by
  unfold execTimeRequestReceived
  exact .ite (.next (.refl _)) (.next (apart_sendOn ..).keeps)

theorem keeps_jump (s : State) (o : Nat) : Keeps s (s.jump o) := by
  unfold State.jump
  exact .updateMem (keeps_setClk ..)

theorem keeps_postTime (s : State) (jump : Nat) : Keeps s (s.postTime jump) := by
  unfold State.postTime
  exact (apart_post ..).keeps

theorem keeps_changeClock (s : State) (f : ClockPart → ClockPart) : Keeps s (s.changeClock f) := by
  unfold State.changeClock
  refine .ite (.ite (.after (keeps_setTally ..) (keeps_setClk ..)) (keeps_setClk ..)) ?_
  exact .after (keeps_postTime ..) (.ite (.after (keeps_setTally ..) (keeps_setClk ..)) (keeps_setClk ..))

theorem answers_timeReply (s : State) (t2 t3 : Nat) : Answers s (execTimeReply t2 t3 s) := by
  unfold execTimeReply
  refine .ite (.next (.refl _)) ?_
  refine .next ?_
  refine .ite ?_ ?_
  · refine .after (keeps_postTime ..) ?_
    refine .ite ?_ ?_
    · refine .after (keeps_changeClock ..) ?_
      refine .ite (.after (keeps_jump ..) (.after (keeps_setClk ..) (keeps_takeFree ..))) ?_
      exact .after (keeps_setClk ..) (.after (keeps_setClk ..) (keeps_takeFree ..))
    · refine .ite (.after (keeps_jump ..) (.after (keeps_setClk ..) (keeps_takeFree ..))) ?_
      exact .after (keeps_setClk ..) (.after (keeps_setClk ..) (keeps_takeFree ..))
  · refine .ite ?_ ?_
    · refine .after (keeps_changeClock ..) ?_
      refine .ite (.after (keeps_jump ..) (.after (keeps_setClk ..) (keeps_takeFree ..))) ?_
      exact .after (keeps_setClk ..) (.after (keeps_setClk ..) (keeps_takeFree ..))
    · refine .ite (.after (keeps_jump ..) (.after (keeps_setClk ..) (keeps_takeFree ..))) ?_
      exact .after (keeps_setClk ..) (.after (keeps_setClk ..) (keeps_takeFree ..))

theorem answers_wakeMessage (s : State) (dst sub : Nat) : Answers s (execWakeMessage dst sub s) := by
  unfold execWakeMessage
  refine .ite (.next (keeps_wakeEvent ..)) ?_
  refine .ite (.next (.refl _)) ?_
  split
  · exact .next (apart_sendOn ..).keeps
  · exact .next (apart_send ..).keeps

theorem keeps_setPwr (s : State) (f : PowerPart → PowerPart) : Keeps s (s.setPwr f) := by
  unfold State.setPwr
  exact .update (.refl _)

theorem keeps_tryPowerUp (s : State) : Keeps s s.tryPowerUp := by
  unfold State.tryPowerUp
  exact .ite (keeps_setPwr ..) (.refl _)

theorem answers_pwrReqHigh (s : State) : Answers s (execPwrReqHigh s) := by
  unfold execPwrReqHigh
  exact .next (.after (keeps_tryPowerUp ..) (keeps_setPwr ..))

theorem keeps_modSail (s : State) (d : Nat) (f : Sail → Sail) : Keeps s (s.modSail d f) := by
  unfold State.modSail
  exact keeps_setPwr ..

theorem keeps_stopFiller (s : State) : Keeps s s.stopFiller := by
  unfold State.stopFiller
  exact .fold (fun _ _ => keeps_modSail ..)

theorem keeps_beginDown (s : State) (step : Nat) : Keeps s (s.beginDown step) := by
  unfold State.beginDown
  exact .after (keeps_stopFiller ..) (.after (keeps_setClk ..) (keeps_setPwr ..))

theorem answers_pwrReqLow (s : State) : Answers s (execPwrReqLow s) := by
  unfold execPwrReqLow
  refine .ite (.next (keeps_setPwr ..)) ?_
  refine .ite (.next (.after (keeps_beginDown ..) (keeps_setPwr ..))) ?_
  exact .ite (.next (.after (keeps_beginDown ..) (keeps_setPwr ..))) (.next (keeps_setPwr ..))

theorem keeps_upDone (s : State) (k : Nat) : Keeps s (s.upDone k) := by
  unfold State.upDone
  refine .ite ?_ ?_
  · exact .after (keeps_beginDown ..) (.after (keeps_setPwr ..) (keeps_setPwr ..))
  · split
    · exact .after (keeps_setPwr ..) (keeps_setPwr ..)
    · exact .after (keeps_setBoot ..) (.after (keeps_setPwr ..) (keeps_setPwr ..))
    · exact .after (keeps_setPwr ..) (keeps_setPwr ..)

theorem answers_xrailGoodRise (s : State) : Answers s (execXrailGoodRise s) := by
  unfold execXrailGoodRise
  exact .ite (.next (.after (keeps_upDone ..) (keeps_setPwr ..))) (.next (keeps_setPwr ..))

theorem answers_hbmGoodRise (s : State) : Answers s (execHbmGoodRise s) := by
  unfold execHbmGoodRise
  exact .ite (.next (.after (keeps_upDone ..) (keeps_setPwr ..))) (.next (keeps_setPwr ..))

theorem keeps_writeCheckpoint (s : State) (k : Nat) : Keeps s (s.writeCheckpoint k) := by
  unfold State.writeCheckpoint
  exact .ite (.refl _) (.update (.refl _))

theorem keeps_sayGoodbye (s : State) : Keeps s s.sayGoodbye := by
  unfold State.sayGoodbye
  exact .ite (.after (keeps_writeCheckpoint ..) (keeps_sendNotices ..)) (keeps_sendNotices ..)

/-- A reset of the device leaves the queue, and memories that are canonical. -/
theorem keeps_keepOutside_reset (s : State) : Keeps s (s.keepOutside State.reset) := ⟨rfl, fun _ => reset_memWf⟩

theorem keeps_deviceReset (s : State) (cause : Nat) : Keeps s (s.deviceReset cause) := by
  unfold State.deviceReset
  exact .update (keeps_keepOutside_reset ..)

theorem keeps_off (s : State) : Keeps s s.off := by
  unfold State.off
  exact .after (keeps_setClk ..) (.after (keeps_setPwr ..) (keeps_deviceReset ..))

theorem keeps_downDone (s : State) (k : Nat) : Keeps s (s.downDone k) := by
  unfold State.downDone
  split
  · exact .ite (keeps_setPwr ..) (.after (keeps_sayGoodbye ..) (keeps_setPwr ..))
  · exact keeps_setPwr ..
  · exact keeps_setPwr ..
  · exact keeps_setPwr ..
  · exact keeps_setPwr ..
  · exact .after (keeps_tryPowerUp ..) (keeps_off ..)

theorem answers_powerStepDone (s : State) : Answers s (execPowerStepDone s) := by
  unfold execPowerStepDone
  refine .ite (.next (keeps_downDone ..)) ?_
  split
  · exact .next (.after (keeps_upDone ..) (keeps_setPwr ..))
  · exact .next (keeps_upDone ..)
  · exact .ite (.next (keeps_upDone ..)) (.next (.refl _))
  · exact .next (keeps_upDone ..)
  · exact .next (.refl _)

theorem answers_powerStepTimeout (s : State) : Answers s (execPowerStepTimeout s) := by
  unfold execPowerStepTimeout
  refine .ite (.next (.after (keeps_beginDown ..) (keeps_setPwr ..))) ?_
  exact .ite (.next (.after (keeps_beginDown ..) (keeps_setPwr ..))) (.next (.refl _))

theorem answers_goodSignalLost (s : State) (hbm : Bool) : Answers s (execGoodSignalLost hbm s) := by
  unfold execGoodSignalLost
  refine .ite (.next (keeps_setPwr ..)) ?_
  exact .next (.after (keeps_beginDown ..) (.after (keeps_setPwr ..) (keeps_setPwr ..)))

theorem answers_vin12Fault (s : State) : Answers s (execVin12Fault s) := by
  unfold execVin12Fault
  exact .next (.after (keeps_setPwr ..) (keeps_off ..))

theorem keeps_powerOnReset (s : State) : Keeps s s.powerOnReset := by
  unfold State.powerOnReset
  exact keeps_keepOutside_reset ..

theorem answers_aonSupplyLost (s : State) : Answers s (execAonSupplyLost s) := by
  unfold execAonSupplyLost
  exact .next (.after (keeps_setPwr ..) (keeps_powerOnReset ..))

theorem answers_powerOnReset (s : State) : Answers s (execPowerOnReset s) := by
  unfold execPowerOnReset
  exact .next (.after (keeps_tryPowerUp ..) (keeps_powerOnReset ..))

theorem keeps_modIsland (s : State) (n : Nat) (f : Island → Island) : Keeps s (s.modIsland n f) := by
  unfold State.modIsland
  exact keeps_setPwr ..

theorem keeps_settle (s : State) (n : Nat) : Keeps s (s.settle n) := by
  unfold State.settle
  exact keeps_modIsland ..

theorem keeps_voltageCommand (s : State) (n code div tag : Nat) : Keeps s (s.voltageCommand n code div tag) := by
  unfold State.voltageCommand
  refine .ite (.refl _) ?_
  exact .ite (keeps_modIsland ..) (.ite (.after (keeps_settle ..) (keeps_modIsland ..)) (keeps_modIsland ..))

theorem answers_voltageCommand (s : State) (value : Nat) : Answers s (execVoltageCommand value s) := by
  unfold execVoltageCommand
  exact .next (keeps_voltageCommand ..)

theorem answers_islandSettled (s : State) (n : Nat) : Answers s (execIslandSettled n s) := by
  unfold execIslandSettled
  exact .ite (.next (.refl _)) (.next (keeps_settle ..))

theorem keeps_slopeMiss (s : State) (d short : Nat) : Keeps s (s.slopeMiss d short) := by
  unfold State.slopeMiss
  exact .ite (.after (apart_post ..).keeps (keeps_modSail ..)) (keeps_modSail ..)

theorem answers_sailWindow (s : State) (d demand : Nat) (ponds : List Nat) :
    Answers s (execSailWindow d demand ponds s) := by
  unfold execSailWindow
  exact .ite (.next (.refl _)) (.next (.ite (keeps_modSail ..) (.after (keeps_slopeMiss ..) (keeps_modSail ..))))

theorem keeps_chargeBytes (s : State) (x : Nat × Nat × Nat) : Keeps s (s.chargeBytes x) := by
  unfold State.chargeBytes
  exact keeps_charge ..

theorem keeps_chargeFiller (s : State) (d e : Nat) (fault : Bool) : Keeps s (s.chargeFiller d e fault) := by
  unfold State.chargeFiller
  exact .ite (.after (keeps_charge ..) (keeps_modSail ..)) (.ite (.refl _) (.fold (fun _ _ => keeps_setTally ..)))

theorem answers_meterRead (s : State) (unit energy : Nat) (loft clocks bytes : List Nat) (fault : Bool) :
    Answers s (execMeterRead unit energy loft clocks bytes fault s) := by
  have hbytes : Keeps s ((triplesOf bytes).foldl State.chargeBytes s) := .fold (fun _ _ => keeps_chargeBytes ..)
  have hdraw : ∀ t : State, Keeps t (if fault = true then t.takeFree else (0, t)).2 := fun t => by
    split
    · exact keeps_takeFree _
    · exact .refl _
  unfold execMeterRead
  refine .ite (.next ?_) (.ite (.ite (.next ?_) (.next ?_)) (.next (.refl _)))
  · exact .after (keeps_charge ..) (.after (keeps_chargeFiller ..) (.after (.fold (fun _ _ => keeps_charge ..)) hbytes))
  · exact .after (keeps_charge ..) (.after (hdraw _) hbytes)
  · exact .after (.fold (fun _ _ => keeps_charge ..)) (.after (hdraw _) hbytes)

theorem answers_furlUpdate (s : State) (power : Nat) : Answers s (execFurlUpdate power s) := by
  unfold execFurlUpdate
  exact .next (.after (.fold (fun _ _ => keeps_modSail ..)) (keeps_setPwr ..))

theorem answers_droopCrossing (s : State) (dom : Nat) : Answers s (execDroopCrossing dom s) := by
  unfold execDroopCrossing
  exact .ite (.next (.refl _)) (.next (.update (.refl _)))

theorem answers_droopRecover (s : State) (dom clocks : Nat) : Answers s (execDroopRecover dom clocks s) := by
  unfold execDroopRecover
  exact .ite (.next (.refl _)) (.next (.ite (.after (keeps_modSail ..) (.update (.refl _))) (.update (.refl _))))

theorem answers_croakNAssert (s : State) : Answers s (execCroakNAssert s) := by
  unfold execCroakNAssert
  refine .ite (.next (.refl _)) ?_
  refine .ite (.next (keeps_setPwr ..)) ?_
  refine .ite (.next (.after (keeps_setPwr ..) (keeps_setPwr ..))) ?_
  refine .next ?_
  exact .after (apart_post ..).keeps (.after (keeps_stopFiller ..) (.after (keeps_setPwr ..) (keeps_setPwr ..)))

theorem keeps_resumeRaises (s : State) : Keeps s s.resumeRaises := by
  unfold State.resumeRaises
  exact .ite (.refl _) (.fold (fun _ _ => keeps_settle ..))

theorem answers_croakRearm (s : State) : Answers s (execCroakRearm s) := by
  unfold execCroakRearm
  refine .ite (.next (.refl _)) ?_
  exact .next (.after (apart_post ..).keeps (.after (keeps_resumeRaises ..) (keeps_setPwr ..)))

theorem keeps_tripAt (s : State) (hbm : Bool) (unit temp : Nat) : Keeps s (s.tripAt hbm unit temp) := by
  unfold State.tripAt
  exact .ite (.refl _) (.after (apart_post ..).keeps (.after (keeps_stopFiller ..) (keeps_setPwr ..)))

theorem answers_tempSample (s : State) (n temp : Nat) : Answers s (execTempSample n temp s) := by
  unfold execTempSample
  exact .ite (.next (.refl _)) (.next (.ite (.after (keeps_tripAt ..) (keeps_modIsland ..)) (keeps_modIsland ..)))

theorem answers_hbmTempRead (s : State) (port temp : Nat) : Answers s (execHbmTempRead port temp s) := by
  unfold execHbmTempRead
  exact .ite (.next (.refl _)) (.next (.ite (.after (keeps_tripAt ..) (keeps_setPwr ..)) (keeps_setPwr ..)))

theorem answers_thermalStepTimer (s : State) (n : Nat) : Answers s (execThermalStepTimer n s) := by
  unfold execThermalStepTimer
  refine .ite (.next (.refl _)) ?_
  refine .ite ?_ ?_
  · refine .ite (.next (.refl _)) ?_
    exact .next (.ite (.after (apart_post ..).keeps (keeps_modIsland ..)) (keeps_modIsland ..))
  · refine .ite ?_ ?_
    · refine .ite (.next (.refl _)) ?_
      exact .next (.ite (.after (apart_post ..).keeps (keeps_modIsland ..)) (keeps_modIsland ..))
    · exact .next (.refl _)

theorem answers_tallyCoef (s : State) (op : Nat) : Answers s (execTallyCoef op s) := by
  unfold execTallyCoef
  split
  · exact .next (.refl _)
  · refine .ite (.next (.refl _)) ?_
    refine .ite (.next (apart_decide ..).keeps) ?_
    refine .ite (.next (apart_decide ..).keeps) ?_
    exact .next (.after (apart_succeed ..).keeps (.after (apart_post ..).keeps (keeps_setTally ..)))

theorem answers_tallyClose (s : State) (op : Nat) : Answers s (execTallyClose op s) := by
  unfold execTallyClose
  split
  · exact .next (.refl _)
  · refine .ite ?_ ?_
    · exact .next (.after (apart_succeed ..).keeps (apart_modSluice ..).keeps)
    · dsimp only
      split
      · exact .next (.refl _)
      · exact .next (.after (apart_decide ..).keeps (.after ((wrote_writeVa ..).of_bad ‹_›) (keeps_finalRec ..)))
      · refine .next ?_
        exact .after (apart_succeed ..).keeps (.after (keeps_emit ..) (.after (keeps_charge ..) (.after
          ((wrote_writeVa ..).of_ok ‹_›) (keeps_finalRec ..))))

theorem keeps_closePeriod (s : State) (flags : Nat) : Keeps s (s.closePeriod flags) := by
  unfold State.closePeriod
  exact .after (keeps_setTally ..) (.after (.fold (fun _ _ => (apart_post ..).keeps)) (.after (keeps_closeKeys ..)
    (.after (.fold (fun _ _ => keeps_closeKeys ..)) (.fold (fun _ _ => keeps_spreadFiller ..)))))

theorem keeps_closeBeatWindow (s : State) (pond flags : Nat) : Keeps s (s.closeBeatWindow pond flags) := by
  unfold State.closeBeatWindow
  exact .after (keeps_setTally ..) (.after (keeps_closeKeys ..) (keeps_spreadFiller ..))

theorem answers_tallyWindowClose (s : State) (pond : Nat) : Answers s (execTallyWindowClose pond s) := by
  unfold execTallyWindowClose
  refine .ite (.next (.refl _)) ?_
  exact .ite (.next (keeps_closePeriod ..)) (.ite (.next (keeps_closeBeatWindow ..)) (.next (.refl _)))

theorem keeps_setSec (s : State) (f : SecPart → SecPart) : Keeps s (s.setSec f) := by
  unfold State.setSec
  exact .update (.refl _)

theorem answers_recordSign (s : State) : Answers s (execRecordSign s) := by
  unfold execRecordSign
  split
  · exact .next (.refl _)
  · exact .ite (.next (keeps_setSec ..)) (.ite (.next (keeps_setSec ..)) (.next (.refl _)))

theorem answers_tallyCheckpoint (s : State) : Answers s (execTallyCheckpoint s) := by
  unfold execTallyCheckpoint
  exact .ite (.next (.refl _)) (.ite (.next (keeps_writeCheckpoint ..)) (.next (keeps_setTally ..)))

theorem keeps_callEngine (s : State) (c : EngCall) : Keeps s (s.callEngine c) := by
  unfold State.callEngine
  exact .ite (keeps_setSec ..) (keeps_setSec ..)

theorem answers_pubkey (s : State) (reg : Nat) : Answers s (execPubkey reg s) := by
  unfold execPubkey
  exact .next (keeps_callEngine ..)

theorem answers_sign (s : State) (reg e : Nat) : Answers s (execSign reg e s) := by
  unfold execSign
  exact .next (keeps_callEngine ..)

theorem answers_verify (s : State) (x y e r t : Nat) : Answers s (execVerify x y e r t s) := by
  unfold execVerify
  exact .next (keeps_callEngine ..)

theorem answers_ecdh (s : State) (reg x y : Nat) : Answers s (execEcdh reg x y s) := by
  unfold execEcdh
  exact .next (keeps_callEngine ..)

theorem keeps_placeSignature (s : State) (slot : Nat) (hash sig : List Byte) :
    Keeps s (s.placeSignature slot hash sig) := by
  unfold State.placeSignature
  exact .after (keeps_setTally ..) (.ite (apart_writeHost ..).keeps (.refl _))

theorem keeps_nextCall (s : State) (wasTally : Bool) : Keeps s (s.nextCall wasTally) := by
  unfold State.nextCall
  refine .ite ?_ ?_
  · dsimp only
    split <;> exact keeps_setSec ..
  · split
    · exact keeps_setSec ..
    · exact .refl _

theorem keeps_refill (s : State) : Keeps s s.refill := by
  unfold State.refill
  exact keeps_setTally ..

theorem keeps_drain (s : State) (l : List EnergyRec) : Keeps s (s.drain l) := by
  induction l generalizing s with
  | nil => exact .refl _
  | cons x l ih =>
    unfold State.drain
    exact .ite ((keeps_writeRec ..).trans (ih _)) (.update (.refl _))

theorem keeps_drainAll (s : State) : Keeps s s.drainAll := by
  unfold State.drainAll
  exact .after (keeps_drain ..) (.after (keeps_setTally ..) (.after (keeps_refill ..) (.after (keeps_drain ..)
    (keeps_setTally ..))))

theorem answers_signingCallDone (s : State) (head : Nat) : Answers s (execSigningCallDone head s) := by
  unfold execSigningCallDone
  split
  · exact .next (.refl _)
  · dsimp only
    split
    · refine .next ?_
      refine .after (.after (keeps_nextCall ..) (keeps_drainAll ..)) ?_
      refine .ite ?_ ?_
      · exact .after (keeps_placeSignature ..) (.after (keeps_setTally ..) (keeps_setSec ..))
      · exact .after (keeps_setTally ..) (keeps_setSec ..)
    · exact .next (.after (keeps_nextCall ..) (.after (keeps_setSec ..) (keeps_setSec ..)))

theorem keeps_nextSlot (s : State) : Keeps s s.nextSlot := by
  unfold State.nextSlot
  refine .ite (keeps_setSec ..) ?_
  split <;> exact keeps_setSec ..

theorem keeps_placeHash (s : State) (x : HashSlot) : Keeps s (s.placeHash x) := by
  unfold State.placeHash
  split <;> exact keeps_setSec ..

theorem keeps_feed (s : State) (caller : Nat) (data : List Byte) (last : Bool) :
    Keeps s (s.feed caller data last) := by
  unfold State.feed
  refine .ite (.refl _) ?_
  split
  · exact keeps_setSec ..
  · exact .ite (keeps_setSec ..) (keeps_placeHash ..)

theorem keeps_placeWaits (s : State) : Keeps s s.placeWaits := by
  unfold State.placeWaits
  exact .after (.fold (fun _ _ => keeps_placeHash ..)) (keeps_setSec ..)

theorem keeps_endSegment (s : State) : Keeps s s.endSegment := by
  unfold State.endSegment
  split
  · exact .refl _
  · exact .ite (.after (keeps_placeWaits ..) (keeps_setSec ..)) (keeps_setSec ..)

theorem answers_hashSegmentDone (s : State) (caller : Nat) (data : List Byte) (last : Bool) :
    Answers s (execHashSegmentDone caller data last s) := by
  unfold execHashSegmentDone
  exact .next (.after (keeps_nextSlot ..) (.after (keeps_feed ..) (keeps_endSegment ..)))

theorem answers_hashSuspend (s : State) (caller : Nat) : Answers s (execHashSuspend caller s) := by
  unfold execHashSuspend
  split
  · exact .next (.refl _)
  · refine .ite (.next (.refl _)) ?_
    split
    · exact .next (.refl _)
    · exact .next (.after (keeps_placeWaits ..) (keeps_setSec ..))

theorem answers_hashResume (s : State) (caller : Nat) : Answers s (execHashResume caller s) := by
  unfold execHashResume
  split
  · exact .next (.refl _)
  · exact .next (.after (keeps_placeHash ..) (keeps_setSec ..))

theorem keeps_reply (s : State) (message : Nat) (code : Resp) (data : List Byte) :
    Keeps s (s.reply message code data) := by
  unfold State.reply
  exact keeps_setBoot ..

theorem answers_request {body : State → State} (h : ∀ s, Keeps s (body s)) (s : State) (tr message : Nat) (priv : Bool) :
    Answers s (s.request tr message priv body) :=
  .ite (.next (.refl _)) (.ite (.next (keeps_reply ..)) (.next (h _)))

theorem answers_lcNonce (s : State) (tr : Nat) : Answers s (execLcNonce tr s) := by
  unfold execLcNonce
  exact answers_request (fun _ => .after (keeps_reply ..) (.after (keeps_setSec ..) (keeps_takeFree ..))) ..

theorem keeps_signLatest (s : State) : Keeps s s.signLatest := by
  unfold State.signLatest
  split
  · exact .refl _
  · exact .ite (keeps_placeSignature ..) (.refl _)

theorem keeps_closeAll (s : State) : Keeps s s.closeAll := by
  unfold State.closeAll
  exact .after (keeps_closePeriod ..) (.fold (fun _ _ => keeps_closeBeatWindow ..))

theorem keeps_transition (s : State) (dest : Nat) (fuseOk : Bool) : Keeps s (s.transition dest fuseOk) := by
  unfold State.transition
  exact .after (keeps_reply ..) (.after (keeps_setSec ..) (.after (keeps_writeCheckpoint ..) (.after
    (keeps_signLatest ..) (keeps_closeAll ..))))

theorem answers_lcRequest (s : State) (tr dest : Nat) (nonce : List Byte) (x y r t : Nat) (fuseOk : Bool) :
    Answers s (execLcRequest tr dest nonce x y r t fuseOk s) := by
  unfold execLcRequest
  refine answers_request (fun _ => ?_) ..
  refine .ite (.after (keeps_reply ..) (keeps_setSec ..)) ?_
  refine .ite (.after (keeps_reply ..) (keeps_setSec ..)) ?_
  split
  · exact keeps_reply ..
  · refine .ite (.after (keeps_reply ..) (keeps_setSec ..)) ?_
    refine .ite ?_ ?_
    · split
      · exact .after (keeps_reply ..) (keeps_setSec ..)
      · exact .ite (.after (keeps_transition ..) (keeps_setSec ..)) (.after (keeps_reply ..) (keeps_setSec ..))
    · refine .ite (.after (keeps_reply ..) (keeps_setSec ..)) ?_
      exact .ite (.after (keeps_transition ..) (keeps_setSec ..)) (.after (keeps_reply ..) (keeps_setSec ..))

theorem answers_lcNonceExpiry (s : State) : Answers s (execLcNonceExpiry s) := by
  unfold execLcNonceExpiry
  exact .ite (.next (keeps_setSec ..)) (.next (.refl _))

theorem keeps_startBoot (s : State) : Keeps s s.startBoot := by
  unfold State.startBoot
  exact .after (keeps_setFab ..) (keeps_setBoot ..)

theorem keeps_resetAndBoot (s : State) (cause : Nat) : Keeps s (s.resetAndBoot cause) := by
  unfold State.resetAndBoot
  exact .after (keeps_startBoot ..) (keeps_deviceReset ..)

theorem answers_lcTransitionReset (s : State) : Answers s (execLcTransitionReset s) := by
  unfold execLcTransitionReset
  exact .ite (.next (keeps_resetAndBoot ..)) (.next (.refl _))

theorem answers_lcPubkeys (s : State) (tr : Nat) : Answers s (execLcPubkeys tr s) := by
  unfold execLcPubkeys
  exact answers_request (fun _ => .ite (keeps_reply ..) (keeps_reply ..)) ..

theorem answers_getVersion (s : State) (tr : Nat) : Answers s (execGetVersion tr s) := by
  unfold execGetVersion
  exact answers_request (fun _ => .after (keeps_reply ..) (keeps_setSec ..)) ..

theorem answers_getCapabilities (s : State) (tr version : Nat) : Answers s (execGetCapabilities tr version s) := by
  unfold execGetCapabilities
  exact answers_request (fun _ => .ite (keeps_reply ..) (.after (keeps_reply ..) (keeps_setSec ..))) ..

theorem answers_negotiateAlgorithms (s : State) (tr : Nat) (ok : Bool) :
    Answers s (execNegotiateAlgorithms tr ok s) := by
  unfold execNegotiateAlgorithms
  exact answers_request (fun _ => .ite (.after (keeps_reply ..) (keeps_setSec ..)) (keeps_reply ..)) ..

theorem answers_getDigests (s : State) (tr : Nat) : Answers s (execGetDigests tr s) := by
  unfold execGetDigests
  exact answers_request (fun _ => keeps_reply ..) ..

theorem answers_getCertificate (s : State) (tr off len : Nat) : Answers s (execGetCertificate tr off len s) := by
  unfold execGetCertificate
  exact answers_request (fun _ => keeps_reply ..) ..

theorem keeps_keyed {body : State → State} (h : ∀ s, Keeps s (body s)) (s : State) (msg : Nat) :
    Keeps s (s.keyed msg body) :=
  .ite (h _) (keeps_reply ..)

theorem answers_challenge (s : State) (tr : Nat) (transcript : List Byte) :
    Answers s (execChallenge tr transcript s) := by
  unfold execChallenge
  exact answers_request (fun _ => keeps_keyed (fun _ => keeps_reply ..) ..) ..

theorem answers_getMeasurements (s : State) (tr index : Nat) (signed : Bool) (transcript : List Byte) :
    Answers s (execGetMeasurements tr index signed transcript s) := by
  unfold execGetMeasurements
  exact answers_request (fun _ => .ite (keeps_keyed (fun _ => keeps_reply ..) ..) (keeps_reply ..)) ..

theorem answers_keyExchange (s : State) (tr id x y : Nat) (transcript : List Byte) :
    Answers s (execKeyExchange tr id x y transcript s) := by
  unfold execKeyExchange
  exact answers_request (fun _ => keeps_keyed (fun _ => .ite (keeps_reply ..) (.after (keeps_reply ..) (.after
    (keeps_setSec ..) (keeps_takeFree ..)))) ..) ..

theorem answers_finish (s : State) (tr id : Nat) (ok : Bool) : Answers s (execFinish tr id ok s) := by
  unfold execFinish
  exact answers_request (fun _ => .ite (.after (keeps_reply ..) (keeps_setSec ..)) (keeps_reply ..)) ..

theorem keeps_inSession {body : State → State} (h : ∀ s, Keeps s (body s)) (s : State) (id msg : Nat) :
    Keeps s (s.inSession id msg body) :=
  .ite ((h _).trans (keeps_reply ..)) (keeps_reply ..)

theorem answers_heartbeat (s : State) (tr id : Nat) : Answers s (execHeartbeat tr id s) := by
  unfold execHeartbeat
  exact answers_request (fun _ => keeps_inSession (fun _ => .refl _) ..) ..

theorem answers_keyUpdate (s : State) (tr id : Nat) : Answers s (execKeyUpdate tr id s) := by
  unfold execKeyUpdate
  exact answers_request (fun _ => keeps_inSession (fun _ => keeps_setSec ..) ..) ..

theorem answers_endSession (s : State) (tr id : Nat) : Answers s (execEndSession tr id s) := by
  unfold execEndSession
  exact answers_request (fun _ => keeps_inSession (fun _ => keeps_setSec ..) ..) ..

theorem answers_bootLog (s : State) (tr : Nat) : Answers s (execBootLog tr s) := by
  unfold execBootLog
  exact answers_request (fun _ => keeps_reply ..) ..

theorem answers_fenceList (s : State) (tr : Nat) : Answers s (execFenceList tr s) := by
  unfold execFenceList
  exact answers_request (fun _ => keeps_reply ..) ..

theorem answers_regRead (s : State) (tr addr : Nat) : Answers s (execRegRead tr addr s) := by
  unfold execRegRead
  exact answers_request (fun _ => .ite (.after (keeps_reply ..) (.ite (keeps_setClk ..) (.refl _))) (keeps_reply ..)) ..

theorem keeps_ranTo {s : State} {o : Out} (h : Answers s o) : Keeps s (ranTo s o) := by
  obtain ⟨t, rfl, ht⟩ := h
  exact ht

theorem keeps_writePower (s : State) (o v : Nat) : Keeps s (s.writePower o v) := by
  unfold State.writePower
  refine .ite (keeps_setPwr ..) ?_
  refine .ite (keeps_ranTo (answers_voltageCommand ..) ..) ?_
  refine .ite (.ite (keeps_modIsland ..) (.refl _)) ?_
  refine .ite (.ite (keeps_modSail ..) (.ite (keeps_modSail ..) (.refl _))) ?_
  exact .ite (keeps_setPwr ..) (.ite (keeps_setPwr ..) (.ite (keeps_setPwr ..) (.ite (keeps_setPwr ..) (.refl _))))

theorem answers_regWrite (s : State) (tr addr value : Nat) : Answers s (execRegWrite tr addr value s) := by
  unfold execRegWrite
  exact answers_request (fun _ => .ite (.after (keeps_reply ..) (keeps_writePower ..)) (keeps_reply ..)) ..

theorem answers_setupUnlock (s : State) (tr : Nat) : Answers s (execSetupUnlock tr s) := by
  unfold execSetupUnlock
  exact answers_request (fun _ => .after (keeps_reply ..) (.after (apart_post ..).keeps (.update (.refl _)))) ..

theorem answers_deviceReset (s : State) (tr : Nat) : Answers s (execDeviceReset tr s) := by
  unfold execDeviceReset
  exact answers_request (fun _ => .after (keeps_reply ..) (keeps_setBoot ..)) ..

theorem answers_deviceResetDelay (s : State) : Answers s (execDeviceResetDelay s) := by
  unfold execDeviceResetDelay
  exact .ite (.next (keeps_resetAndBoot ..)) (.next (.refl _))

theorem answers_svnCommit (s : State) (tr t : Nat) : Answers s (execSvnCommit tr t s) := by
  unfold execSvnCommit
  exact answers_request (fun _ => .ite (.after (keeps_reply ..) (.after (apart_post ..).keeps (keeps_setSec ..)))
    (keeps_reply ..)) ..

theorem answers_configWrite (s : State) (tr : Nat) (data : List Byte) :
    Answers s (execConfigWrite tr data s) := by
  unfold execConfigWrite
  exact answers_request (fun _ => .ite (.after (keeps_reply ..) (keeps_setBoot ..)) (keeps_reply ..)) ..

theorem answers_mctpSetEid (s : State) (tr eid : Nat) : Answers s (execMctpSetEid tr eid s) := by
  unfold execMctpSetEid
  exact answers_request (fun _ => .after (keeps_reply ..) (keeps_setBoot ..)) ..

theorem answers_pldmSensorRead (s : State) (tr n : Nat) : Answers s (execPldmSensorRead tr n s) := by
  unfold execPldmSensorRead
  refine answers_request (fun _ => ?_) ..
  split <;> exact keeps_reply ..

theorem keeps_writeSlot (s : State) (slot : Nat) (data : List Byte) : Keeps s (s.writeSlot slot data).1 := by
  unfold State.writeSlot
  split <;> (dsimp only; exact keeps_setBoot ..)

theorem answers_pldmFwTransfer (s : State) (tr : Nat) (comps : List Nat) (data : List Byte) :
    Answers s (execPldmFwTransfer tr comps data s) := by
  unfold execPldmFwTransfer
  refine .ite ?_ ?_
  · refine .ite (.next (.refl _)) ?_
    refine .ite ?_ ?_
    · exact .next (.after (keeps_resetAndBoot ..) (.after (keeps_reply ..) (keeps_writeSlot ..)))
    · exact .next (.after (keeps_reply ..) (keeps_writeSlot ..))
  · refine answers_request (fun _ => ?_) ..
    dsimp only
    split
    · exact keeps_reply ..
    · exact .after (keeps_reply ..) (keeps_writeSlot ..)

theorem keeps_stopMillwright (s : State) (cause : Nat) : Keeps s (s.stopMillwright cause) := by
  unfold State.stopMillwright
  exact .after (keeps_setBoot ..) (keeps_setSec ..)

theorem keeps_activateFw (s : State) (comp : Nat) : Keeps s (s.activateFw comp) := by
  unfold State.activateFw
  refine .ite (.after (keeps_setBoot ..) (keeps_stopMillwright ..)) ?_
  exact .ite (.refl _) (.after (keeps_loadPending ..) (keeps_setBoot ..))

theorem answers_activateFirmware (s : State) (tr : Nat) (comps : List Nat) :
    Answers s (execActivateFirmware tr comps s) := by
  unfold execActivateFirmware
  exact answers_request (fun _ => .ite (keeps_reply ..) (.after (.fold (fun _ _ => keeps_activateFw ..))
    (keeps_reply ..))) ..

theorem answers_millwrightWatchdog (s : State) : Answers s (execMillwrightWatchdog s) := by
  unfold execMillwrightWatchdog
  refine .ite (.next (.refl _)) ?_
  exact .ite (.next (keeps_resetAndBoot ..)) (.next (.after (keeps_setBoot ..) (keeps_stopMillwright ..)))

theorem keeps_lateCheckpoint (s : State) : Keeps s s.lateCheckpoint := by
  unfold State.lateCheckpoint
  exact .ite (.after (keeps_setTally ..) (keeps_writeCheckpoint ..)) (.refl _)

theorem answers_mwRestartDone (s : State) : Answers s (execMwRestartDone s) := by
  unfold execMwRestartDone
  refine .ite (.next (.refl _)) ?_
  split
  · exact .next (.refl _)
  · refine .next ?_
    refine .ite ?_ ?_
    · exact .after (keeps_fwActivated ..) (.after (apart_post ..).keeps (.after (keeps_lateCheckpoint ..)
        (keeps_setBoot ..)))
    · exact .after (apart_post ..).keeps (.after (keeps_lateCheckpoint ..) (keeps_setBoot ..))

theorem answers_mwStartTimeout (s : State) : Answers s (execMwStartTimeout s) := by
  unfold execMwStartTimeout
  refine .ite (.next (.refl _)) ?_
  refine .ite (.ite (.next (keeps_setBoot ..)) (.next (keeps_setBoot ..))) ?_
  refine .ite ?_ ?_
  · exact .ite (.next (keeps_setBoot ..)) (.next (.after (keeps_fatalError ..) (keeps_stopFiller ..)))
  · exact .next (.refl _)

theorem answers_perstNAssert (s : State) : Answers s (execPerstNAssert s) := by
  unfold execPerstNAssert
  exact .next (.after (keeps_setBoot ..) (.ite (keeps_deviceReset ..) (.refl _)))

theorem answers_perstNRelease (s : State) : Answers s (execPerstNRelease s) := by
  unfold execPerstNRelease
  refine .ite (.next (.refl _)) ?_
  exact .ite (.next (keeps_startBoot ..)) (.next (.after (keeps_setFab ..) (keeps_setBoot ..)))

theorem answers_hotReset (s : State) : Answers s (execHotReset s) := by
  unfold execHotReset
  exact .ite (.next (keeps_resetAndBoot ..)) (.next (.refl _))

theorem answers_pfFlr (s : State) : Answers s (execPfFlr s) := by
  unfold execPfFlr
  exact .ite (.next (keeps_resetAndBoot ..)) (.next (.refl _))

theorem answers_hostLinkTrained (s : State) (mode : Nat) (flit : Bool) (speed width : Nat) :
    Answers s (execHostLinkTrained mode flit speed width s) := by
  unfold execHostLinkTrained
  exact .ite (.next (.refl _)) (.next (.update (.refl _)))

theorem keeps_nextStage (s : State) (k : Nat) : Keeps s (s.nextStage k) := by
  unfold State.nextStage
  exact keeps_setBoot ..

theorem keeps_pufAttempt (s : State) (ok : Bool) : Keeps s (s.pufAttempt ok) := by
  unfold State.pufAttempt
  refine .ite (.after (keeps_nextStage ..) (keeps_setSec ..)) ?_
  split
  · refine .ite (.ite (.after (keeps_nextStage ..) (keeps_setSec ..)) (.refl _)) ?_
    exact .after (keeps_nextStage ..) (keeps_setSec ..)
  · refine .ite (.after (keeps_nextStage ..) (keeps_setSec ..)) ?_
    exact .ite (keeps_setSec ..) (.after (keeps_nextStage ..) (keeps_setSec ..))

theorem keeps_startMillwright (s : State) : Keeps s s.startMillwright := by
  unfold State.startMillwright
  split
  · exact keeps_setBoot ..
  · exact .after (keeps_nextStage ..) (keeps_setBoot ..)

theorem keeps_readConfig (s : State) : Keeps s s.readConfig := by
  unfold State.readConfig
  refine .ite (.after (keeps_reject ..) (keeps_setFab ..)) ?_
  refine .ite (.after (keeps_setBoot ..) (keeps_setFab ..)) ?_
  exact .after (keeps_reject ..) (.after (keeps_setBoot ..) (keeps_setFab ..))

theorem keeps_bootNewt (s : State) (d : Nat) : Keeps s (s.bootNewt d) := by
  unfold State.bootNewt
  dsimp only
  split
  · exact keeps_fence ..
  · exact keeps_setBoot ..

theorem keeps_bootXdie (s : State) (d : Nat) : Keeps s (s.bootXdie d) := by
  unfold State.bootXdie
  dsimp only
  split
  · exact .fold (fun _ _ => keeps_fence ..)
  · exact keeps_setBoot ..

theorem keeps_bootIslands (s : State) : Keeps s s.bootIslands := by
  unfold State.bootIslands
  refine .after (.fold (fun _ _ => keeps_startTraining ..)) ?_
  refine .ite (.after (keeps_setFab ..) (.fold (fun _ _ => keeps_voltageCommand ..))) ?_
  exact .fold (fun _ _ => keeps_voltageCommand ..)

theorem keeps_resumeTally (s : State) : Keeps s s.resumeTally := by
  unfold State.resumeTally
  refine .ite (.after (keeps_setTally ..) (keeps_takeFree ..)) ?_
  refine .ite ?_ ?_
  · exact .after (keeps_setTally ..) (.after (keeps_setTally ..) (keeps_takeFree ..))
  · refine .ite ?_ ?_
    · split <;> exact .after (keeps_setTally ..) (.after (keeps_setTally ..) (keeps_takeFree ..))
    · exact .after (keeps_setTally ..) (.after (keeps_setTally ..) (keeps_takeFree ..))

theorem answers_bootStepDone (s : State) (ok : Bool) : Answers s (execBootStepDone ok s) := by
  unfold execBootStepDone
  refine .ite (.next (.refl _)) ?_
  split
  · exact .next (keeps_nextStage ..)
  · exact .next (.after (keeps_nextStage ..) (keeps_setSec ..))
  · exact .next (keeps_pufAttempt ..)
  · exact .next (keeps_startMillwright ..)
  · exact .ite (.next (keeps_readConfig ..)) (.next (.after (keeps_nextStage ..) (keeps_readConfig ..)))
  · refine .next ?_
    exact .after (keeps_nextStage ..) (.after (.fold (fun _ _ => keeps_bootXdie ..)) (.fold
      (fun _ _ => keeps_bootNewt ..)))
  · exact .next (.after (keeps_nextStage ..) (keeps_bootIslands ..))
  · exact .next (.after (keeps_setBoot ..) (.after (keeps_nextStage ..) (keeps_resumeTally ..)))
  · exact .next (.refl _)

theorem answers_selfTestDone (s : State) (cls unit : Nat) (pass : Bool) :
    Answers s (execSelfTestDone cls unit pass s) := by
  unfold execSelfTestDone
  exact .ite (.next (.refl _)) (.next (keeps_fence ..))

theorem answers_rootPllLock (s : State) : Answers s (execRootPllLock s) := by
  unfold execRootPllLock
  exact .ite (.next (.refl _)) (.next (keeps_changeClock ..))

theorem answers_clkRefLoss (s : State) : Answers s (execClkRefLoss s) := by
  unfold execClkRefLoss
  refine .ite (.next (.refl _)) ?_
  exact .next (.after (keeps_changeClock ..) (.ite (.after (keeps_fatalError ..) (keeps_stopFiller ..)) (.refl _)))

theorem answers_clkRefReturn (s : State) : Answers s (execClkRefReturn s) := by
  unfold execClkRefReturn
  exact .ite (.next (.refl _)) (.next (.after (keeps_startWake ..) (keeps_changeClock ..)))

theorem answers_timeLoRead (s : State) : Answers s (execTimeLoRead s) := by
  unfold execTimeLoRead
  exact .next (.update (keeps_setClk ..))

theorem answers_timeSet (s : State) (hi : Nat) : Answers s (execTimeSet hi s) := by
  unfold execTimeSet
  refine .ite (.next (keeps_setClk ..)) ?_
  refine .next ?_
  refine .ite ?_ ?_
  · refine .after (keeps_postTime ..) ?_
    exact .ite (.after (keeps_setTally ..) (.after (keeps_setClk ..) (keeps_jump ..))) (keeps_jump ..)
  · exact .ite (.after (keeps_setTally ..) (.after (keeps_setClk ..) (keeps_jump ..))) (keeps_jump ..)

theorem answers_idleTimerExpiry (s : State) : Answers s (execIdleTimerExpiry s) := by
  unfold execIdleTimerExpiry
  exact .ite (.next (keeps_setClk ..)) (.next (.refl _))

theorem keeps_writeWord (s : State) (st : Nat) : Keeps s (s.writeWord st) := by
  unfold State.writeWord
  exact .ite (.refl _) (apart_writeHost ..).keeps

theorem keeps_entryDo (s : State) (k : Nat) : Keeps s (s.entryDo k) := by
  unfold State.entryDo
  split
  · dsimp only
    split
    · exact .after ((answers_recordSign ..).of_next ‹_›) (keeps_closeAll ..)
    · exact keeps_closeAll ..
  · exact .update (.after (keeps_writeWord ..) (keeps_setClk ..))
  · exact .after (.fold (fun _ _ => keeps_modSub ..)) (keeps_sendNotices ..)
  · exact keeps_writeCheckpoint ..
  · exact .update (keeps_setClk ..)
  · exact .update (keeps_setClk ..)
  · exact .refl _

theorem keeps_reacquire (s : State) : Keeps s s.reacquire := by
  unfold State.reacquire
  exact .ite (.refl _) (.update (.refl _))

theorem keeps_readAllWords (s : State) (words : List Nat) : Keeps s (s.readAllWords words) := by
  unfold State.readAllWords
  exact .fold (fun _ _ => keeps_readDoorbell ..)

theorem keeps_abandon (s : State) (k : Nat) (words : List Nat) : Keeps s (s.abandon k words) := by
  unfold State.abandon
  refine .after (.after (apart_post ..).keeps (.after (keeps_readAllWords ..) (keeps_setClk ..))) ?_
  refine .ite ?_ ?_
  · refine .after (.after (keeps_reacquire ..) (keeps_writeWord ..)) ?_
    refine .ite ?_ ?_
    · exact .after (.fold (fun _ _ => keeps_startTraining ..)) (.ite (.update (.refl _)) (.refl _))
    · exact .ite (.update (.refl _)) (.refl _)
  · refine .ite ?_ ?_
    · exact .after (.fold (fun _ _ => keeps_startTraining ..)) (.ite (.update (.refl _)) (.refl _))
    · exact .ite (.update (.refl _)) (.refl _)

theorem answers_brumEntryStepDone (s : State) (words : List Nat) : Answers s (execBrumEntryStepDone words s) := by
  unfold execBrumEntryStepDone
  refine .ite (.next (.refl _)) ?_
  refine .ite (.next (.after (keeps_startWake ..) (keeps_entryDo ..))) ?_
  refine .ite (.next (.after (keeps_abandon ..) (keeps_entryDo ..))) ?_
  exact .next (.after (keeps_setClk ..) (keeps_entryDo ..))

theorem answers_wakeEvent (s : State) (src : Nat) : Answers s (execWakeEvent src s) := by
  unfold execWakeEvent
  exact .next (keeps_wakeEvent ..)

theorem answers_wakeStepDone (s : State) : Answers s (execWakeStepDone s) := by
  unfold execWakeStepDone
  refine .ite (.next (.after (keeps_beginDown ..) (keeps_setClk ..))) ?_
  split
  · exact .next (.after (keeps_setClk ..) (keeps_writeWord ..))
  · exact .ite (.next (.after (keeps_resetAndBoot ..) (keeps_setClk ..))) (.next (.refl _))
  · exact .next (.update (keeps_setClk ..))
  · exact .ite (.next (keeps_setClk ..)) (.next (.refl _))
  · exact .next (.after (keeps_setClk ..) (keeps_writeWord ..))
  · exact .next (.refl _)

theorem keeps_writeLock (s : State) (value : Nat) : Keeps s (s.writeLock value) := by
  unfold State.writeLock
  exact .update (.refl _)

theorem answers_setupLockWrite (s : State) (value : Nat) : Answers s (execSetupLockWrite value s) := by
  unfold execSetupLockWrite
  exact .ite (.next (keeps_writeLock ..)) (.next (.refl _))

theorem keeps_writeInstCfg (s : State) (value : Nat) : Keeps s (s.writeInstCfg value) := by
  unfold State.writeInstCfg
  exact .ite (.refl _) (.ite (.refl _) (apart_setFn ..).keeps)

theorem answers_instCfgWrite (s : State) (value : Nat) : Answers s (execInstCfgWrite value s) := by
  unfold execInstCfgWrite
  exact .ite (.next (keeps_writeInstCfg ..)) (.next (.refl _))

theorem keeps_writeLoftCfg (s : State) (d value : Nat) : Keeps s (s.writeLoftCfg d value) := by
  unfold State.writeLoftCfg
  exact .ite (.refl _) (.updateMem (.refl _))

theorem answers_stageWaysWrite (s : State) (die value : Nat) : Answers s (execStageWaysWrite die value s) := by
  unfold execStageWaysWrite
  exact .ite (.next (keeps_writeLoftCfg ..)) (.next (.refl _))

theorem keeps_writeSpill (s : State) (d value : Nat) : Keeps s (s.writeSpill d value) := by
  unfold State.writeSpill
  exact .ite (.refl _) (.updateMem (.refl _))

theorem answers_spillRegionWrite (s : State) (die value : Nat) : Answers s (execSpillRegionWrite die value s) := by
  unfold execSpillRegionWrite
  exact .ite (.next (keeps_writeSpill ..)) (.next (.refl _))

theorem answers_brumEnableWrite (s : State) (on : Bool) : Answers s (execBrumEnableWrite on s) := by
  unfold execBrumEnableWrite
  exact .next (.ite (keeps_setClk ..) (.after (keeps_wakeEvent ..) (keeps_setClk ..)))

theorem answers_brumWakeWrite (s : State) (dev : Nat) : Answers s (execBrumWakeWrite dev s) := by
  unfold execBrumWakeWrite
  exact .ite (.next (.refl _)) (.next (apart_send ..).keeps)

theorem answers_leatRetrainWrite (s : State) (n : Nat) : Answers s (execLeatRetrainWrite n s) := by
  unfold execLeatRetrainWrite
  refine .ite (.next (.refl _)) ?_
  exact .ite (.next (.after (keeps_startTraining ..) (keeps_modSub ..))) (.next (keeps_startTraining ..))

theorem answers_genCapWrite (s : State) (n value : Nat) : Answers s (execGenCapWrite n value s) := by
  unfold execGenCapWrite
  refine .ite (.next (.refl _)) ?_
  refine .ite ?_ ?_
  · refine .next ?_
    refine .ite ?_ ?_
    · exact .after (keeps_beginHold ..) (.after (keeps_modSub ..) (keeps_modSub ..))
    · exact .after (keeps_modSub ..) (keeps_modSub ..)
  · exact .ite (.next (.after (keeps_startTraining ..) (keeps_modSub ..))) (.next (keeps_modSub ..))

theorem answers_routeTableWrite (s : State) (table idx value : Nat) :
    Answers s (execRouteTableWrite table idx value s) := by
  unfold execRouteTableWrite
  refine .ite (.next (.refl _)) ?_
  split
  · exact .ite (.next (.after (keeps_reachCheck ..) (keeps_setFab ..))) (.next (.refl _))
  · exact .ite (.next (.after (keeps_reachCheck ..) (keeps_setFab ..))) (.next (.refl _))
  · exact .ite (.next (.after (keeps_reachCheck ..) (keeps_setFab ..))) (.next (.refl _))
  · exact .ite (.next (.after (keeps_reachCheck ..) (keeps_setFab ..))) (.next (.refl _))
  · exact .next (.refl _)

theorem answers_weirPondCfgWrite (s : State) (value : Nat) : Answers s (execWeirPondCfgWrite value s) := by
  unfold execWeirPondCfgWrite
  dsimp only
  split
  · exact .next (.refl _)
  · refine .ite (.next (keeps_setWeirPond ..)) ?_
    exact .next (.ite (.after (keeps_postMode ..) (keeps_setWeirPond ..)) (keeps_setWeirPond ..))

theorem answers_tallyEnableWrite (s : State) (value : Nat) : Answers s (execTallyEnableWrite value s) := by
  unfold execTallyEnableWrite
  refine .ite ?_ ?_
  · refine .next ?_
    refine .ite ?_ ?_
    · split
      · exact .after (keeps_emit ..) (.after (keeps_setTally ..) (keeps_setTally ..))
      · exact .after (keeps_setTally ..) (keeps_setTally ..)
    · refine .after (apart_post ..).keeps ?_
      split
      · exact .after (keeps_emit ..) (.after (keeps_setTally ..) (keeps_setTally ..))
      · exact .after (keeps_setTally ..) (keeps_setTally ..)
  · exact .ite (.next (.after (keeps_setTally ..) (keeps_setTally ..))) (.next (keeps_setTally ..))

theorem keeps_writeGlobal (s : State) (o v : Nat) : Keeps s (s.writeGlobal o v) := by
  unfold State.writeGlobal
  refine .ite (keeps_writeLock ..) ?_
  refine .ite (.update (.refl _)) ?_
  exact .ite (keeps_writeInstCfg ..) (.ite (keeps_writeLoftCfg ..) (.ite (keeps_writeSpill ..) (.refl _)))

theorem keeps_writeWeir (s : State) (o v : Nat) : Keeps s (s.writeWeir o v) := by
  unfold State.writeWeir
  refine .ite (.ite (keeps_setWeir ..) (keeps_setWeir ..)) ?_
  refine .ite (.ite (keeps_setWeir ..) (.ite (keeps_setWeir ..) (.refl _))) ?_
  refine .ite (keeps_setWeir ..) ?_
  exact .ite (keeps_setWeir ..) (.ite (keeps_ranTo (answers_weirPondCfgWrite ..) ..) (.refl _))

theorem keeps_writeTally (s : State) (o v : Nat) : Keeps s (s.writeTally o v) := by
  unfold State.writeTally
  refine .ite (keeps_ranTo (answers_tallyEnableWrite ..) ..) ?_
  refine .ite (.refl _) ?_
  refine .ite (keeps_setTally ..) ?_
  refine .ite (keeps_setTally ..) ?_
  exact .ite (keeps_setTally ..) (.ite (keeps_setTally ..) (.ite (keeps_setTally ..) (.refl _)))

theorem keeps_writeClock (s : State) (o v : Nat) : Keeps s (s.writeClock o v) := by
  unfold State.writeClock
  refine .ite (keeps_setClk ..) ?_
  refine .ite (keeps_ranTo (answers_timeSet ..) ..) ?_
  refine .ite (.ite (keeps_setClk ..) (.refl _)) ?_
  refine .ite ?_ ?_
  · exact .after (keeps_setClk ..) (keeps_ranTo (answers_brumEnableWrite ..) ..)
  · refine .ite (keeps_setClk ..) ?_
    refine .ite (keeps_setClk ..) ?_
    exact .ite (keeps_ranTo (answers_brumWakeWrite ..) ..) (.ite (keeps_setClk ..) (.refl _))

theorem keeps_retryIncompatible (s : State) : Keeps s s.retryIncompatible := by
  unfold State.retryIncompatible
  exact .fold (fun _ _ => keeps_startTraining ..)

theorem keeps_writeLeat (s : State) (o v : Nat) : Keeps s (s.writeLeat o v) := by
  unfold State.writeLeat
  refine .ite ?_ ?_
  · exact .ite (keeps_setFab ..) (.after (keeps_retryIncompatible ..) (keeps_setFab ..))
  · refine .ite ?_ ?_
    · refine .ite ?_ ?_
      · exact .after (keeps_ranTo (answers_leatRetrainWrite ..) ..) (keeps_ranTo (answers_genCapWrite ..) ..)
      · exact keeps_ranTo (answers_genCapWrite ..) ..
    · exact .refl _

theorem keeps_writeMere (s : State) (o v : Nat) : Keeps s (s.writeMere o v) := by
  unfold State.writeMere
  refine .ite (keeps_setFab ..) ?_
  refine .ite (.ite (.refl _) (keeps_setFab ..)) ?_
  refine .ite (.ite (.refl _) (keeps_setFab ..)) ?_
  refine .ite (keeps_ranTo (answers_routeTableWrite ..) ..) ?_
  refine .ite (keeps_ranTo (answers_routeTableWrite ..) ..) ?_
  exact .ite (keeps_ranTo (answers_routeTableWrite ..) ..) (.refl _)

theorem keeps_writeErr (s : State) (o v : Nat) : Keeps s (s.writeErr o v) := by
  unfold State.writeErr
  exact .ite (.update (.refl _)) (.ite (.refl _) (.ite (.update (.refl _)) (.ite (.update (.refl _)) (.refl _))))

theorem keeps_writeGset (s : State) (off v : Nat) : Keeps s (s.writeGset off v) := by
  unfold State.writeGset
  dsimp only
  split
  · exact keeps_writeGlobal ..
  · exact keeps_writeWeir ..
  · exact keeps_writePower ..
  · exact keeps_writeTally ..
  · exact keeps_writeClock ..
  · exact keeps_writeLeat ..
  · exact keeps_writeMere ..
  · exact keeps_writeErr ..
  · exact .refl _

theorem keeps_writeCmd (s : State) (f op record : Nat) : Keeps s (s.writeCmd f op record) := by
  unfold State.writeCmd
  split
  · exact keeps_setCtxTable ..
  · exact keeps_createEq ..
  · exact keeps_destroyEq ..
  · exact keeps_createCq ..
  · exact keeps_destroyCq ..
  · exact keeps_createSq ..
  · exact keeps_destroySq ..
  · exact keeps_cmdWith (fun _ => .refl _) ..

theorem keeps_writeIset (s : State) (f o v record : Nat) : Keeps s (s.writeIset f o v record) := by
  unfold State.writeIset
  refine .ite (keeps_writeCmd ..) ?_
  refine .ite (.ite (apart_setFn ..).keeps (.refl _)) ?_
  exact .ite (apart_setFn ..).keeps (.ite (apart_setFn ..).keeps (.refl _))

theorem keeps_writeMsix (s : State) (f o v : Nat) : Keeps s (s.writeMsix f o v) := by
  unfold State.writeMsix
  refine .ite (.refl _) ?_
  refine .ite (apart_setFn ..).keeps ?_
  refine .ite (apart_setFn ..).keeps ?_
  refine .ite (apart_setFn ..).keeps ?_
  exact .ite (.after (apart_sendMsi ..).keeps (apart_setFn ..).keeps) (apart_setFn ..).keeps

theorem keeps_writeBar0 (s : State) (f off v record : Nat) : Keeps s (s.writeBar0 f off v record) := by
  unfold State.writeBar0
  refine .ite ?_ ?_
  · exact .ite (keeps_writeGset ..) (.ite (keeps_writeIset ..) (keeps_writeMsix ..))
  · exact .ite (keeps_writeIset ..) (keeps_writeMsix ..)

theorem answers_registerWrite (s : State) (fn off : Nat) (data : List Byte) (record : Nat) :
    Answers s (execRegisterWrite fn off data record s) := by
  unfold execRegisterWrite
  refine .ite (.next (.refl _)) ?_
  refine .ite (.next (keeps_writeBar0 ..)) ?_
  exact .ite (.next (.after (keeps_writeBar0 ..) (keeps_writeBar0 ..))) (.next (.refl _))

theorem answers_croakNRelease (s : State) : Answers s (execCroakNRelease s) := by
  unfold execCroakNRelease
  exact .next (keeps_setPwr ..)

theorem answers_transitPacket (s : State) (src tag dst addr sub : Nat) (cls : PacketClass) (data : List Byte) :
    Answers s (execTransitPacket src tag dst addr sub cls data s) := by
  unfold execTransitPacket
  refine .ite (.next (.refl _)) ?_
  refine .ite ?_ (.next (.after (apart_sendOn ..).keeps (keeps_setFab ..)))
  split
  · exact .next (.refl _)
  · exact .next (.after (apart_sendOn ..).keeps (keeps_setFab ..))

theorem answers_faultReportAtLeader (s : State) (fp dev count : Nat) :
    Answers s (execFaultReportAtLeader fp dev count s) := by
  unfold execFaultReportAtLeader
  exact .ite (.next (keeps_mergeReport ..)) (.next (.refl _))

theorem answers_sluiceAbortAnswer (s : State) (mere id : Nat) (committed : Bool) :
    Answers s (execSluiceAbortAnswer mere id committed s) := by
  unfold execSluiceAbortAnswer
  exact .next (.after (apart_modSluice ..).keeps (apart_endOps ..).keeps)

theorem answers_pushSubscribeAtProducer (s : State) (src mere num off dst len : Nat) (cancel : Bool) (sub : Nat) :
    Answers s (execPushSubscribeAtProducer src mere num off dst len cancel sub s) := by
  unfold execPushSubscribeAtProducer
  refine .ite (.next (.refl _)) ?_
  refine .ite (.next (.after (apart_sendOn ..).keeps (.update (.refl _)))) ?_
  refine .ite (.next (apart_sendOn ..).keeps) ?_
  exact .ite (.next (apart_sendOn ..).keeps) (.next (.after (apart_sendOn ..).keeps (.update (.refl _))))

theorem answers_tallyBacklogDrain (s : State) (head : Nat) : Answers s (execTallyBacklogDrain head s) := by
  unfold execTallyBacklogDrain
  exact .next (.after (keeps_drainAll ..) (keeps_setTally ..))

theorem keeps_tick (s : State) : Keeps s s.tick := by
  unfold State.tick
  exact keeps_setClk ..

/-- Every command answers a next state: its own lemma, command by command. -/
theorem answers_exec : ∀ (c : Instr) (s : State), Answers s (exec c s)
  | .descriptorFetch .., _ => answers_descriptorFetch ..
  | .doorbellSnoop .., _ => answers_doorbellSnoop ..
  | .doorbellPoll .., _ => answers_doorbellPoll ..
  | .cqRoomPoll .., _ => answers_cqRoomPoll ..
  | .cqStalled .., _ => answers_cqStalled ..
  | .eqHeadPoll .., _ => answers_eqHeadPoll ..
  | .opComplete .., _ => answers_opComplete ..
  | .irqDelayExpiry .., _ => answers_irqDelayExpiry ..
  | .eventWaitRecheck .., _ => answers_eventWaitRecheck ..
  | .setCtxTable .., _ => answers_setCtxTable ..
  | .createEq .., _ => answers_createEq ..
  | .destroyEq .., _ => answers_destroyEq ..
  | .createCq .., _ => answers_createCq ..
  | .destroyCq .., _ => answers_destroyCq ..
  | .createSq .., _ => answers_createSq ..
  | .destroySq .., _ => answers_destroySq ..
  | .destroySqDone .., _ => answers_destroySqDone ..
  | .nop .., _ => answers_nop ..
  | .flumeCopy .., _ => answers_flumeCopy ..
  | .flumeSegmentDone .., _ => answers_flumeSegmentDone ..
  | .loftPrefetch .., _ => answers_loftPrefetch ..
  | .loftDemote .., _ => answers_loftDemote ..
  | .millGemm .., _ => answers_millGemm ..
  | .millGgemm .., _ => answers_millGgemm ..
  | .millAttend .., _ => answers_millAttend ..
  | .millPack .., _ => answers_millPack ..
  | .fillLanded .., _ => answers_fillLanded ..
  | .ksplitDelivery .., _ => answers_ksplitDelivery ..
  | .millBlockDone .., _ => answers_millBlockDone ..
  | .walkDone .., _ => answers_walkDone ..
  | .vaneLoad .., _ => answers_vaneLoad ..
  | .vaneRun .., _ => answers_vaneRun ..
  | .vaneRunStart .., _ => answers_vaneRunStart ..
  | .vaneRunComplete .., _ => answers_vaneRunComplete ..
  | .vaneTimeout .., _ => answers_vaneTimeout ..
  | .transferDone .., _ => answers_transferDone ..
  | .msendLanded .., _ => answers_msendLanded ..
  | .vaneNop .., _ => answers_vaneNop ..
  | .halt .., _ => answers_halt ..
  | .trap .., _ => answers_trap ..
  | .fence .., _ => answers_fence ..
  | .br .., _ => answers_br ..
  | .beq .., _ => answers_beq ..
  | .bne .., _ => answers_bne ..
  | .blt .., _ => answers_blt ..
  | .bge .., _ => answers_bge ..
  | .bltu .., _ => answers_bltu ..
  | .jal .., _ => answers_jal ..
  | .jr .., _ => answers_jr ..
  | .bany .., _ => answers_bany ..
  | .bnone .., _ => answers_bnone ..
  | .srd .., _ => answers_srd ..
  | .waitc .., _ => answers_waitc ..
  | .sadd .., _ => answers_sadd ..
  | .ssub .., _ => answers_ssub ..
  | .smul .., _ => answers_smul ..
  | .sand .., _ => answers_sand ..
  | .sor .., _ => answers_sor ..
  | .sxor .., _ => answers_sxor ..
  | .sshl .., _ => answers_sshl ..
  | .sshr .., _ => answers_sshr ..
  | .ssra .., _ => answers_ssra ..
  | .saddi .., _ => answers_saddi ..
  | .smovi .., _ => answers_smovi ..
  | .smovhi .., _ => answers_smovhi ..
  | .sld .., _ => answers_sld ..
  | .sst .., _ => answers_sst ..
  | .sslt .., _ => answers_sslt ..
  | .vadd .., _ => answers_vadd ..
  | .vsub .., _ => answers_vsub ..
  | .vmul .., _ => answers_vmul ..
  | .vfma .., _ => answers_vfma ..
  | .vfms .., _ => answers_vfms ..
  | .vmin .., _ => answers_vmin ..
  | .vmax .., _ => answers_vmax ..
  | .vabs .., _ => answers_vabs ..
  | .vneg .., _ => answers_vneg ..
  | .vdiv .., _ => answers_vdiv ..
  | .vsqrt .., _ => answers_vsqrt ..
  | .vadds .., _ => answers_vadds ..
  | .vmuls .., _ => answers_vmuls ..
  | .vfmas .., _ => answers_vfmas ..
  | .hadd .., _ => answers_hadd ..
  | .hsub .., _ => answers_hsub ..
  | .hmul .., _ => answers_hmul ..
  | .hfma .., _ => answers_hfma ..
  | .hmin .., _ => answers_hmin ..
  | .hmax .., _ => answers_hmax ..
  | .vexp .., _ => answers_vexp ..
  | .vlog .., _ => answers_vlog ..
  | .vrcp .., _ => answers_vrcp ..
  | .vrsqrt .., _ => answers_vrsqrt ..
  | .vsin .., _ => answers_vsin ..
  | .vcos .., _ => answers_vcos ..
  | .vtanh .., _ => answers_vtanh ..
  | .verf .., _ => answers_verf ..
  | .viadd .., _ => answers_viadd ..
  | .visub .., _ => answers_visub ..
  | .vimul .., _ => answers_vimul ..
  | .vand .., _ => answers_vand ..
  | .vor .., _ => answers_vor ..
  | .vxor .., _ => answers_vxor ..
  | .vshl .., _ => answers_vshl ..
  | .vshr .., _ => answers_vshr ..
  | .vsra .., _ => answers_vsra ..
  | .vimin .., _ => answers_vimin ..
  | .vimax .., _ => answers_vimax ..
  | .vcmp .., _ => answers_vcmp ..
  | .vicmp .., _ => answers_vicmp ..
  | .pand .., _ => answers_pand ..
  | .por .., _ => answers_por ..
  | .pxor .., _ => answers_pxor ..
  | .pnot .., _ => answers_pnot ..
  | .pset .., _ => answers_pset ..
  | .pget .., _ => answers_pget ..
  | .vsel .., _ => answers_vsel ..
  | .vmovi .., _ => answers_vmovi ..
  | .vbcast .., _ => answers_vbcast ..
  | .vlane .., _ => answers_vlane ..
  | .vshuf .., _ => answers_vshuf ..
  | .vextr .., _ => answers_vextr ..
  | .vins .., _ => answers_vins ..
  | .vpk2 .., _ => answers_vpk2 ..
  | .vrsum .., _ => answers_vrsum ..
  | .vrmax .., _ => answers_vrmax ..
  | .vrmin .., _ => answers_vrmin ..
  | .vcvt .., _ => answers_vcvt ..
  | .vpk4 .., _ => answers_vpk4 ..
  | .vld .., _ => answers_vld ..
  | .vlds .., _ => answers_vlds ..
  | .vgath .., _ => answers_vgath ..
  | .vst .., _ => answers_vst ..
  | .vsts .., _ => answers_vsts ..
  | .vscat .., _ => answers_vscat ..
  | .qclr .., _ => answers_qclr ..
  | .qmac .., _ => answers_qmac ..
  | .qaddv .., _ => answers_qaddv ..
  | .qsum .., _ => answers_qsum ..
  | .qld .., _ => answers_qld ..
  | .qst .., _ => answers_qst ..
  | .mget .., _ => answers_mget ..
  | .mput .., _ => answers_mput ..
  | .msend .., _ => answers_msend ..
  | .mwait .., _ => answers_mwait ..
  | .vaneUndefinedInstr .., _ => answers_vaneUndefinedInstr ..
  | .redOpen .., _ => answers_redOpen ..
  | .redRun .., _ => answers_redRun ..
  | .redClose .., _ => answers_redClose ..
  | .redTableCrc .., _ => answers_redTableCrc ..
  | .redContribution .., _ => answers_redContribution ..
  | .redRunDone .., _ => answers_redRunDone ..
  | .redTimeout .., _ => answers_redTimeout ..
  | .redCancel .., _ => answers_redCancel ..
  | .sluiceOpen .., _ => answers_sluiceOpen ..
  | .sluiceGuard .., _ => answers_sluiceGuard ..
  | .sluiceCommit .., _ => answers_sluiceCommit ..
  | .sluiceAbort .., _ => answers_sluiceAbort ..
  | .sluiceDrained .., _ => answers_sluiceDrained ..
  | .sluiceHoldAcked .., _ => answers_sluiceHoldAcked ..
  | .sluicePublished .., _ => answers_sluicePublished ..
  | .sluiceAbortDone .., _ => answers_sluiceAbortDone ..
  | .sluiceVote .., _ => answers_sluiceVote ..
  | .sluiceDecision .., _ => answers_sluiceDecision ..
  | .sluiceAck .., _ => answers_sluiceAck ..
  | .sluiceAbortForward .., _ => answers_sluiceAbortForward ..
  | .sluiceCommitTimeout .., _ => answers_sluiceCommitTimeout ..
  | .commitUnconfirmed .., _ => answers_commitUnconfirmed ..
  | .stageWaysApply .., _ => answers_stageWaysApply ..
  | .spillRegionApply .., _ => answers_spillRegionApply ..
  | .pondCreate .., _ => answers_pondCreate ..
  | .pondRebind .., _ => answers_pondRebind ..
  | .pondDestroy .., _ => answers_pondDestroy ..
  | .pondSched .., _ => answers_pondSched ..
  | .plotMapPlace .., _ => answers_plotMapPlace ..
  | .plotMapRemove .., _ => answers_plotMapRemove ..
  | .rebindCopyPassDone .., _ => answers_rebindCopyPassDone ..
  | .rebindPoint .., _ => answers_rebindPoint ..
  | .rebindSwitchDone .., _ => answers_rebindSwitchDone ..
  | .rebindTimeout .., _ => answers_rebindTimeout ..
  | .unitFence .., _ => answers_unitFence ..
  | .unitRestore .., _ => answers_unitRestore ..
  | .unitFailure .., _ => answers_unitFailure ..
  | .regrow .., _ => answers_regrow ..
  | .seamCrcFail .., _ => answers_seamCrcFail ..
  | .seamReplayTimeout .., _ => answers_seamReplayTimeout ..
  | .ctxSched .., _ => answers_ctxSched ..
  | .quantumExpiry .., _ => answers_quantumExpiry ..
  | .contextDrainDone .., _ => answers_contextDrainDone ..
  | .contextSaveDone .., _ => answers_contextSaveDone ..
  | .contextRestoreDone .., _ => answers_contextRestoreDone ..
  | .slotGrant, _ => answers_slotGrant ..
  | .slotIdleTimeout .., _ => answers_slotIdleTimeout ..
  | .slotLoadDone .., _ => answers_slotLoadDone ..
  | .beatSet .., _ => answers_beatSet ..
  | .beatStep .., _ => answers_beatStep ..
  | .beatStart .., _ => answers_beatStart ..
  | .beatEnd .., _ => answers_beatEnd ..
  | .xlatRoot .., _ => answers_xlatRoot ..
  | .xlatRootRemove .., _ => answers_xlatRootRemove ..
  | .xlatInval .., _ => answers_xlatInval ..
  | .xlatInvalDone .., _ => answers_xlatInvalDone ..
  | .xlatDirtyStart .., _ => answers_xlatDirtyStart ..
  | .xlatDirtyStop .., _ => answers_xlatDirtyStop ..
  | .xlatDirtySwap .., _ => answers_xlatDirtySwap ..
  | .instQuiesce .., _ => answers_instQuiesce ..
  | .quiesceDrained .., _ => answers_quiesceDrained ..
  | .quiesceTimeout .., _ => answers_quiesceTimeout ..
  | .instResume .., _ => answers_instResume ..
  | .instLimits .., _ => answers_instLimits ..
  | .instSave .., _ => answers_instSave ..
  | .instRestore .., _ => answers_instRestore ..
  | .instNotice .., _ => answers_instNotice ..
  | .forcedInstanceReset .., _ => answers_forcedInstanceReset ..
  | .instanceResetDone .., _ => answers_instanceResetDone ..
  | .vfEnableClear .., _ => answers_vfEnableClear ..
  | .hostAccessError .., _ => answers_hostAccessError ..
  | .bar2Access .., _ => answers_bar2Access ..
  | .cxlMemAccess .., _ => answers_cxlMemAccess ..
  | .hbmReadDone .., _ => answers_hbmReadDone ..
  | .weirRecompute .., _ => answers_weirRecompute ..
  | .weirCreditPeriod, _ => answers_weirCreditPeriod ..
  | .requestAgeTimeout .., _ => answers_requestAgeTimeout ..
  | .weirWindowEnd, _ => answers_weirWindowEnd ..
  | .weirEvalPeriod .., _ => answers_weirEvalPeriod ..
  | .patrolRead .., _ => answers_patrolRead ..
  | .bucketLeak .., _ => answers_bucketLeak ..
  | .sublinkTrainStart .., _ => answers_sublinkTrainStart ..
  | .lightDetect .., _ => answers_lightDetect ..
  | .capabilityFrame .., _ => answers_capabilityFrame ..
  | .trainingStepDone .., _ => answers_trainingStepDone ..
  | .linkTestDone .., _ => answers_linkTestDone ..
  | .trainingRetryTimer .., _ => answers_trainingRetryTimer ..
  | .flitCrcFail .., _ => answers_flitCrcFail ..
  | .replayAckTimeout .., _ => answers_replayAckTimeout ..
  | .retrainDone .., _ => answers_retrainDone ..
  | .laneLockLost .., _ => answers_laneLockLost ..
  | .lightLoss .., _ => answers_lightLoss ..
  | .holdExpiry .., _ => answers_holdExpiry ..
  | .neighbourNotice .., _ => answers_neighbourNotice ..
  | .noticeDrainDone .., _ => answers_noticeDrainDone ..
  | .remoteRequest .., _ => answers_remoteRequest ..
  | .windowAccess .., _ => answers_windowAccess ..
  | .mereBind .., _ => answers_mereBind ..
  | .mereUnbind .., _ => answers_mereUnbind ..
  | .windowSet .., _ => answers_windowSet ..
  | .windowClear .., _ => answers_windowClear ..
  | .windowClearDone .., _ => answers_windowClearDone ..
  | .pushSubscribe .., _ => answers_pushSubscribe ..
  | .pushCancel .., _ => answers_pushCancel ..
  | .pushWriteLand .., _ => answers_pushWriteLand ..
  | .pushTimeout .., _ => answers_pushTimeout ..
  | .fabConfirm .., _ => answers_fabConfirm ..
  | .hello .., _ => answers_hello ..
  | .vectorReceived .., _ => answers_vectorReceived ..
  | .joinRoundEnd, _ => answers_joinRoundEnd ..
  | .groupReport .., _ => answers_groupReport ..
  | .groupReportResend, _ => answers_groupReportResend ..
  | .confirmationReceived .., _ => answers_confirmationReceived ..
  | .faultReportSend .., _ => answers_faultReportSend ..
  | .leaderFaultWindow, _ => answers_leaderFaultWindow ..
  | .faultReport .., _ => answers_faultReport ..
  | .unreachTimer .., _ => answers_unreachTimer ..
  | .timeExchange, _ => answers_timeExchange ..
  | .timeRequestReceived .., _ => answers_timeRequestReceived ..
  | .timeReply .., _ => answers_timeReply ..
  | .wakeMessage .., _ => answers_wakeMessage ..
  | .pwrReqHigh, _ => answers_pwrReqHigh ..
  | .pwrReqLow, _ => answers_pwrReqLow ..
  | .xrailGoodRise, _ => answers_xrailGoodRise ..
  | .hbmGoodRise, _ => answers_hbmGoodRise ..
  | .powerStepDone, _ => answers_powerStepDone ..
  | .powerStepTimeout, _ => answers_powerStepTimeout ..
  | .goodSignalLost .., _ => answers_goodSignalLost ..
  | .vin12Fault, _ => answers_vin12Fault ..
  | .aonSupplyLost, _ => answers_aonSupplyLost ..
  | .powerOnReset, _ => answers_powerOnReset ..
  | .voltageCommand .., _ => answers_voltageCommand ..
  | .islandSettled .., _ => answers_islandSettled ..
  | .sailWindow .., _ => answers_sailWindow ..
  | .meterRead .., _ => answers_meterRead ..
  | .furlUpdate .., _ => answers_furlUpdate ..
  | .droopCrossing .., _ => answers_droopCrossing ..
  | .droopRecover .., _ => answers_droopRecover ..
  | .croakNAssert, _ => answers_croakNAssert ..
  | .croakRearm, _ => answers_croakRearm ..
  | .tempSample .., _ => answers_tempSample ..
  | .hbmTempRead .., _ => answers_hbmTempRead ..
  | .thermalStepTimer .., _ => answers_thermalStepTimer ..
  | .tallyCoef .., _ => answers_tallyCoef ..
  | .tallyClose .., _ => answers_tallyClose ..
  | .tallyWindowClose .., _ => answers_tallyWindowClose ..
  | .recordSign, _ => answers_recordSign ..
  | .tallyCheckpoint, _ => answers_tallyCheckpoint ..
  | .pubkey .., _ => answers_pubkey ..
  | .sign .., _ => answers_sign ..
  | .verify .., _ => answers_verify ..
  | .ecdh .., _ => answers_ecdh ..
  | .signingCallDone .., _ => answers_signingCallDone ..
  | .hashSegmentDone .., _ => answers_hashSegmentDone ..
  | .hashSuspend .., _ => answers_hashSuspend ..
  | .hashResume .., _ => answers_hashResume ..
  | .lcNonce .., _ => answers_lcNonce ..
  | .lcRequest .., _ => answers_lcRequest ..
  | .lcNonceExpiry, _ => answers_lcNonceExpiry ..
  | .lcTransitionReset, _ => answers_lcTransitionReset ..
  | .lcPubkeys .., _ => answers_lcPubkeys ..
  | .getVersion .., _ => answers_getVersion ..
  | .getCapabilities .., _ => answers_getCapabilities ..
  | .negotiateAlgorithms .., _ => answers_negotiateAlgorithms ..
  | .getDigests .., _ => answers_getDigests ..
  | .getCertificate .., _ => answers_getCertificate ..
  | .challenge .., _ => answers_challenge ..
  | .getMeasurements .., _ => answers_getMeasurements ..
  | .keyExchange .., _ => answers_keyExchange ..
  | .finish .., _ => answers_finish ..
  | .heartbeat .., _ => answers_heartbeat ..
  | .keyUpdate .., _ => answers_keyUpdate ..
  | .endSession .., _ => answers_endSession ..
  | .bootLog .., _ => answers_bootLog ..
  | .fenceList .., _ => answers_fenceList ..
  | .regRead .., _ => answers_regRead ..
  | .regWrite .., _ => answers_regWrite ..
  | .setupUnlock .., _ => answers_setupUnlock ..
  | .deviceReset .., _ => answers_deviceReset ..
  | .deviceResetDelay, _ => answers_deviceResetDelay ..
  | .svnCommit .., _ => answers_svnCommit ..
  | .configWrite .., _ => answers_configWrite ..
  | .mctpSetEid .., _ => answers_mctpSetEid ..
  | .pldmSensorRead .., _ => answers_pldmSensorRead ..
  | .pldmFwTransfer .., _ => answers_pldmFwTransfer ..
  | .activateFirmware .., _ => answers_activateFirmware ..
  | .millwrightWatchdog, _ => answers_millwrightWatchdog ..
  | .mwRestartDone, _ => answers_mwRestartDone ..
  | .mwStartTimeout, _ => answers_mwStartTimeout ..
  | .perstNAssert, _ => answers_perstNAssert ..
  | .perstNRelease, _ => answers_perstNRelease ..
  | .hotReset, _ => answers_hotReset ..
  | .pfFlr, _ => answers_pfFlr ..
  | .hostLinkTrained .., _ => answers_hostLinkTrained ..
  | .bootStepDone .., _ => answers_bootStepDone ..
  | .selfTestDone .., _ => answers_selfTestDone ..
  | .rootPllLock, _ => answers_rootPllLock ..
  | .clkRefLoss, _ => answers_clkRefLoss ..
  | .clkRefReturn, _ => answers_clkRefReturn ..
  | .timeLoRead, _ => answers_timeLoRead ..
  | .timeSet .., _ => answers_timeSet ..
  | .idleTimerExpiry, _ => answers_idleTimerExpiry ..
  | .brumEntryStepDone .., _ => answers_brumEntryStepDone ..
  | .wakeEvent .., _ => answers_wakeEvent ..
  | .wakeStepDone, _ => answers_wakeStepDone ..
  | .setupLockWrite .., _ => answers_setupLockWrite ..
  | .instCfgWrite .., _ => answers_instCfgWrite ..
  | .stageWaysWrite .., _ => answers_stageWaysWrite ..
  | .spillRegionWrite .., _ => answers_spillRegionWrite ..
  | .brumEnableWrite .., _ => answers_brumEnableWrite ..
  | .brumWakeWrite .., _ => answers_brumWakeWrite ..
  | .leatRetrainWrite .., _ => answers_leatRetrainWrite ..
  | .genCapWrite .., _ => answers_genCapWrite ..
  | .routeTableWrite .., _ => answers_routeTableWrite ..
  | .weirPondCfgWrite .., _ => answers_weirPondCfgWrite ..
  | .tallyEnableWrite .., _ => answers_tallyEnableWrite ..
  | .registerWrite .., _ => answers_registerWrite ..
  | .croakNRelease, _ => answers_croakNRelease ..
  | .transitPacket .., _ => answers_transitPacket ..
  | .faultReportAtLeader .., _ => answers_faultReportAtLeader ..
  | .sluiceAbortAnswer .., _ => answers_sluiceAbortAnswer ..
  | .pushSubscribeAtProducer .., _ => answers_pushSubscribeAtProducer ..
  | .tallyBacklogDrain .., _ => answers_tallyBacklogDrain ..

/-- A step takes the front command off the queue and keeps the memories canonical; a tick does so on an empty queue. -/
theorem step_next (s : State) : ∃ t, step s = .next t ∧ t.pending = s.pending.tail ∧
    (s.memWf = true → t.memWf = true) := by
  unfold step
  split
  · next c rest hqueue =>
    obtain ⟨t, hexec, hkeeps⟩ := answers_exec c (s.withPending rest)
    exact ⟨t, hexec, by rw [hkeeps.pending, hqueue]; rfl, hkeeps.memWf⟩
  · next hqueue => exact ⟨_, rfl, by rw [(keeps_tick s).pending, hqueue]; rfl, (keeps_tick s).memWf⟩

/-- Settles O58: each command answers a next state, and a step has taken the front command from the queue. -/
theorem everyStepAnswersANextState : Obligations.EveryStepAnswersANextState := fun s =>
  let ⟨t, hstep, hqueue, _⟩ := step_next s
  ⟨t, hstep, hqueue⟩

/-- Settles O59: the step answers one state, and that state's memories are canonical. -/
theorem everyStepKeepsTheMemoriesCanonical : Obligations.EveryStepKeepsTheMemoriesCanonical := by
  intro s t hwf hstep
  obtain ⟨u, hnext, _, hmem⟩ := step_next s
  rw [hnext, Host.Outcome.next.injEq] at hstep
  exact hstep ▸ hmem hwf

end Sys2Proof.Machine
end

section
/-! How an instruction of a Vane rank takes effect: what `vaneEnv` reads, what an issued body comes to, and the rules of the
rank's registers. The statements about Vane instructions are read off these. -/

namespace Sys2Proof.Machine

/-- What rank `r` of run `op` is issued in. -/
structure IssuedIn (s : State) (op r : Nat) (e : VaneEnv) : Prop where
  state : e.s = s
  id : e.id = op
  rank : e.r = r
  runAt : s.eng.runs.at? op = some e.run
  opAt : s.op? op = some e.o
  rankAt : e.run.ranks[r]? = some e.k

theorem vaneAt_issuedIn {s : State} {op r : Nat} {e : VaneEnv} (h : s.vaneAt op r = some e) : IssuedIn s op r e := by
  unfold State.vaneAt at h
  split at h
  · next run o hrun ho =>
    split at h
    · cases h
    · next k hk =>
      split at h
      · cases h
      · cases h
        exact ⟨rfl, rfl, rfl, hrun, ho, hk⟩
  · cases h

theorem vaneEnv_issuedIn {s : State} {op r : Nat} {e : VaneEnv} (h : s.vaneEnv op r = some e) : IssuedIn s op r e :=
  vaneAt_issuedIn (Option.filter_eq_some_iff.1 h).1

/-- A well-formed instruction of the opcode named is issued with its body. -/
theorem vaneExec_issue {s : State} {op r c : Nat} {e : VaneEnv} {body : VaneEnv → VaneRes} (h : s.vaneEnv op r = some e)
    (hop : e.i.op = c) (hok : e.i.ok = true) : vaneExec s op r c body = s.vaneApply e (body e) := by
  simp [vaneExec, h, hop, hok]

section Apply

variable {s : State} {e : VaneEnv} (hpc : e.k.pc < 8191)

include hpc

theorem vaneApply_ok (t : State) (run : VaneRun) :
    s.vaneApply e (.ok t run) = t.vaneCommit e.id e.r (run.setPc e.r (e.k.pc + 1)) := by
  simp [State.vaneApply, hpc.ne]

theorem vaneApply_done (k : VaneRank) : s.vaneApply e (e.done k) = e.next k := vaneApply_ok hpc ..

theorem vaneApply_wait : s.vaneApply e .wait = s := by simp [State.vaneApply, hpc.ne]

end Apply

/-- An instruction whose body changes its rank's registers alone. -/
theorem vaneExec_done {s : State} {op r c : Nat} {e : VaneEnv} {body : VaneEnv → VaneRes} {k : VaneRank}
    (h : s.vaneEnv op r = some e) (hok : e.i.ok = true) (hpc : e.k.pc < 8191) (hop : e.i.op = c)
    (hbody : body e = e.done k) : Host.Outcome.next (vaneExec s op r c body) = (.next (e.next k) : Out) := by
  rw [vaneExec_issue h hop hok, hbody, vaneApply_done hpc]

theorem VaneRank.sr_lt (k : VaneRank) (n : Nat) : k.sr n < 2 ^ 64 := by
  unfold VaneRank.sr
  split
  · decide
  · exact BitVec.isLt _

theorem VaneRank.pr_lt (k : VaneRank) (n : Nat) : k.pr n < 2 ^ 64 := by
  unfold VaneRank.pr
  split
  · decide
  · exact BitVec.isLt _

theorem VaneRank.vr_lt (k : VaneRank) (n i : Nat) : k.vr n i < 2 ^ 32 := BitVec.isLt _

@[simp] theorem VaneRank.toNat_ofNat_sr (k : VaneRank) (n : Nat) : (BitVec.ofNat 64 (k.sr n)).toNat = k.sr n :=
  Nat.mod_eq_of_lt (k.sr_lt n)

@[simp] theorem VaneRank.toNat_ofNat_pr (k : VaneRank) (n : Nat) : (BitVec.ofNat 64 (k.pr n)).toNat = k.pr n :=
  Nat.mod_eq_of_lt (k.pr_lt n)

@[simp] theorem VaneRank.toNat_ofNat_vr (k : VaneRank) (n i : Nat) : (BitVec.ofNat 32 (k.vr n i)).toNat = k.vr n i :=
  Nat.mod_eq_of_lt (k.vr_lt n i)

/-- A scalar register takes a value modulo 2^64. -/
theorem VaneRank.setS_congr (k : VaneRank) (n : Nat) {v w : Nat} (h : v % 2 ^ 64 = w % 2 ^ 64) : k.setS n v = k.setS n w := by
  have : BitVec.ofNat 64 v = BitVec.ofNat 64 w := BitVec.eq_of_toNat_eq (by simpa using h)
  simp only [VaneRank.setS, this]

theorem VaneRank.setP_congr (k : VaneRank) (n : Nat) {v w : Nat} (h : v % 2 ^ 64 = w % 2 ^ 64) : k.setP n v = k.setP n w := by
  have : BitVec.ofNat 64 v = BitVec.ofNat 64 w := BitVec.eq_of_toNat_eq (by simpa using h)
  simp only [VaneRank.setP, this]

/-- Two's complement of the model (R8) and of Lean's words agree. -/
theorem signedOf_toNat {w : Nat} (x : BitVec w) : signedOf w x.toNat = x.toInt := by
  rcases Nat.eq_zero_or_pos w with rfl | hw
  · simp [BitVec.of_length_zero, signedOf, Nat.mod_one]
  · have hpow : 2 ^ w = 2 * 2 ^ (w - 1) := by rw [← Nat.pow_succ', Nat.succ_eq_add_one, Nat.sub_add_cancel hw]
    simp only [signedOf, Nat.mod_eq_of_lt x.isLt, BitVec.toInt_eq_toNat_cond]
    split <;> split <;> (push_cast; omega)

theorem signedOf_eq_toInt (w v : Nat) : signedOf w v = (BitVec.ofNat w v).toInt := by
  rw [← signedOf_toNat]
  simp [signedOf]

theorem unsignedOf_eq_toNat (w : Nat) (v : Int) : unsignedOf w v = (BitVec.ofInt w v).toNat := by
  simp [unsignedOf]

end Sys2Proof.Machine
end

section
namespace Sys2Proof.Machine

/-- An instruction that writes s[d] with the value `v`, whatever integer the model computes it by. -/
theorem vaneExec_scalar {s : State} {op r c : Nat} {e : VaneEnv} {body : VaneEnv → VaneRes} {x : Int} {v : BitVec 64}
    (h : s.vaneEnv op r = some e) (hok : e.i.ok = true) (hpc : e.k.pc < 8191) (hop : e.i.op = c)
    (hbody : body e = e.scalar x) (hv : BitVec.ofInt 64 x = v) :
    Host.Outcome.next (vaneExec s op r c body) = (.next (e.next (e.k.setS e.i.d v.toNat)) : Out) :=
  vaneExec_done h hok hpc hop (by rw [hbody, VaneEnv.scalar, unsignedOf_eq_toNat, hv])

section Words

variable {w : Nat} (a b n : Nat)

theorem ofInt_sub_natCast : BitVec.ofInt w ((a : Int) - b) = BitVec.ofNat w a - BitVec.ofNat w b := by
  rw [sub_eq_add_neg, BitVec.ofInt_add, BitVec.ofInt_neg, BitVec.ofInt_natCast, BitVec.ofInt_natCast, BitVec.sub_eq_add_neg]

theorem ofInt_mul_natCast : BitVec.ofInt w ((a : Int) * b) = BitVec.ofNat w a * BitVec.ofNat w b := by
  rw [BitVec.ofInt_mul, BitVec.ofInt_natCast, BitVec.ofInt_natCast]

theorem ofInt_add_natCast : BitVec.ofInt w ((a : Int) + b) = BitVec.ofNat w a + BitVec.ofNat w b := by
  rw [BitVec.ofInt_add, BitVec.ofInt_natCast, BitVec.ofInt_natCast]

theorem ofInt_and : BitVec.ofInt w ((a &&& b : Nat) : Int) = BitVec.ofNat w a &&& BitVec.ofNat w b := by
  rw [BitVec.ofInt_natCast, BitVec.ofNat_and]

theorem ofInt_or : BitVec.ofInt w ((a ||| b : Nat) : Int) = BitVec.ofNat w a ||| BitVec.ofNat w b := by
  rw [BitVec.ofInt_natCast, BitVec.ofNat_or]

theorem ofInt_xor : BitVec.ofInt w ((a ^^^ b : Nat) : Int) = BitVec.ofNat w a ^^^ BitVec.ofNat w b := by
  rw [BitVec.ofInt_natCast, BitVec.ofNat_xor]

theorem ofInt_shiftLeft : BitVec.ofInt w ((a <<< n : Nat) : Int) = BitVec.ofNat w a <<< n := by
  rw [BitVec.ofInt_natCast]
  exact BitVec.eq_of_toNat_eq (by simp [Nat.shiftLeft_eq])

theorem ofInt_shiftRight {a : Nat} (ha : a < 2 ^ w) : BitVec.ofInt w ((a >>> n : Nat) : Int) = BitVec.ofNat w a >>> n := by
  have : a >>> n < 2 ^ w := Nat.lt_of_le_of_lt (Nat.shiftRight_le a n) ha
  rw [BitVec.ofInt_natCast]
  exact BitVec.eq_of_toNat_eq (by simp [Nat.mod_eq_of_lt this, Nat.mod_eq_of_lt ha])

theorem ofInt_arithShiftRight :
    BitVec.ofInt w (signedOf w a / (2 ^ n : Int)) = (BitVec.ofNat w a).sshiftRight n := by
  rw [signedOf_eq_toInt, BitVec.sshiftRight, Int.shiftRight_eq_div_pow]
  simp

theorem ofInt_slt (a b : BitVec w) (x y : Int) :
    BitVec.ofInt w (if a.toInt < b.toInt then x else y) = if a.slt b then BitVec.ofInt w x else BitVec.ofInt w y := by
  simp only [BitVec.slt_iff_toInt_lt, apply_ite (BitVec.ofInt w)]

theorem ofNat_highLow : BitVec.ofNat 64 (a * 2 ^ 32 + b % 2 ^ 32) = BitVec.ofNat 32 a ++ BitVec.ofNat 32 b := by
  refine BitVec.eq_of_toNat_eq ?_
  rw [BitVec.toNat_append, ← Nat.shiftLeft_add_eq_or_of_lt (BitVec.isLt _), Nat.shiftLeft_eq]
  simp only [BitVec.toNat_ofNat]
  omega

end Words

/-- Settles O28: each body hands `VaneEnv.scalar` an integer that stands for the word named. -/
theorem vaneScalarsTakeEffect : Obligations.VaneScalarsTakeEffect := by
  intro s op r e h hok hpc a b n simm writes
  have signed (x : Nat) : BitVec.ofInt 64 (signedOf 32 x) = (BitVec.ofNat 32 x).signExtend 64 := by
    rw [signedOf_eq_toInt, BitVec.signExtend]
  have slt : BitVec.ofInt 64 (if e.sai < e.sbi then 1 else 0) = if a.slt b then (1 : BitVec 64) else 0 := by
    rw [VaneEnv.sai, VaneEnv.sbi, signedOf_eq_toInt, signedOf_eq_toInt]
    exact ofInt_slt a b 1 0
  have addi : BitVec.ofInt 64 (e.sa + e.simm) = a + simm := by
    rw [BitVec.ofInt_add, BitVec.ofInt_natCast, VaneEnv.simm, signed]
    rfl
  exact ⟨(vaneExec_scalar h hok hpc · rfl (ofInt_add_natCast ..)),
    (vaneExec_scalar h hok hpc · rfl (ofInt_sub_natCast ..)),
    (vaneExec_scalar h hok hpc · rfl (ofInt_mul_natCast ..)),
    (vaneExec_scalar h hok hpc · rfl (ofInt_and ..)),
    (vaneExec_scalar h hok hpc · rfl (ofInt_or ..)),
    (vaneExec_scalar h hok hpc · rfl (ofInt_xor ..)),
    (vaneExec_scalar h hok hpc · rfl (ofInt_shiftLeft ..)),
    (vaneExec_scalar h hok hpc · rfl (ofInt_shiftRight _ (e.k.sr_lt _))),
    (vaneExec_scalar h hok hpc · rfl (ofInt_arithShiftRight ..)),
    (vaneExec_scalar h hok hpc · rfl addi),
    (vaneExec_scalar h hok hpc · rfl (signed _)),
    (vaneExec_scalar h hok hpc · rfl ((BitVec.ofInt_natCast ..).trans (ofNat_highLow ..))),
    (vaneExec_scalar h hok hpc · rfl slt),
    (vaneExec_scalar h hok hpc · rfl (BitVec.ofInt_natCast ..)),
    (vaneExec_scalar h hok hpc · rfl (BitVec.ofInt_natCast ..))⟩

end Sys2Proof.Machine
end

section
namespace Sys2Proof.Machine

theorem setAt_eq_set {α : Type} (l : List α) (i : Nat) (v : α) : setAt l i v = l.set i v := by
  induction l generalizing i with
  | nil => rfl
  | cons a l ih =>
    cases i with
    | zero => rfl
    | succ i => exact congrArg (a :: ·) (ih i)

/-- A list of lanes' results with its flags gathered. -/
theorem foldl_or_snd {α : Type} (l : List (α × Nat)) (n : Nat) :
    l.foldl (fun g x => g ||| x.2) n = (l.map Prod.snd).foldl (· ||| ·) n := (List.foldl_map ..).symm

/-- A vector instruction's destination is decided by its active lanes' values modulo 2^32 and their flags. -/
theorem VaneEnv.vector_congr (e : VaneEnv) {f g : Nat → Nat × Nat}
    (hv : ∀ i, i < 64 → e.active i = true → BitVec.ofNat 32 (f i).1 = BitVec.ofNat 32 (g i).1)
    (hf : ∀ i, i < 64 → e.active i = true → (f i).2 = (g i).2) : e.vector f = e.vector g := by
  have hw : ∀ i ∈ List.range 64,
      BitVec.ofNat 32 (if e.active i then f i else (if e.i.z then 0 else e.k.vr e.i.d i, 0)).1
        = BitVec.ofNat 32 (if e.active i then g i else (if e.i.z then 0 else e.k.vr e.i.d i, 0)).1 := fun i hi => by
    split
    · next ha => exact hv i (List.mem_range.1 hi) ha
    · rfl
  have hg : ∀ i ∈ List.range 64, (if e.active i then f i else (if e.i.z then 0 else e.k.vr e.i.d i, 0)).2
      = (if e.active i then g i else (if e.i.z then 0 else e.k.vr e.i.d i, 0)).2 := fun i hi => by
    split
    · next ha => exact hf i (List.mem_range.1 hi) ha
    · rfl
  simp only [VaneEnv.vector, foldl_or_snd, List.map_map, Function.comp_def, List.map_congr_left hw, List.map_congr_left hg]

section Issued

variable {s : State} {op r c : Nat} {e : VaneEnv} {body : VaneEnv → VaneRes}
  (h : s.vaneEnv op r = some e) (hok : e.i.ok = true) (hpc : e.k.pc < 8191)

include h hok hpc

/-- A vector instruction that writes the words `g` into the active lanes and sets no flag. -/
theorem vaneExec_lanes (hop : e.i.op = c) {f : Nat → Nat} {g : Nat → BitVec 32} (hbody : body e = e.vec (fun i => (f i, 0)))
    (hg : ∀ i, BitVec.ofNat 32 (f i) = g i) :
    Host.Outcome.next (vaneExec s op r c body) = (.next (e.next (e.vector (fun i => ((g i).toNat, 0)))) : Out) :=
  vaneExec_done h hok hpc hop (by
    rw [hbody, VaneEnv.vec, e.vector_congr (f := fun i => (f i, 0)) (g := fun i => ((g i).toNat, 0))
      (fun i _ _ => by simp [hg]) (fun _ _ _ => rfl)])

/-- A lane-by-lane integer operation. -/
theorem vaneExec_int (hop : e.i.op = c) {f : Nat → Nat → Int} {g : Nat → BitVec 32} (hbody : body e = e.int f)
    (hg : ∀ i, BitVec.ofInt 32 (f (e.va i) (e.vb i)) = g i) :
    Host.Outcome.next (vaneExec s op r c body) = (.next (e.next (e.vector (fun i => ((g i).toNat, 0)))) : Out) :=
  vaneExec_lanes h hok hpc hop hbody (fun i => by rw [unsignedOf_eq_toNat, hg]; simp)

/-- An instruction that writes a predicate with the word `v`. -/
theorem vaneExec_pred (hop : e.i.op = c) {x : Nat} {v : BitVec 64} (hbody : body e = e.done (e.k.setP e.i.d x))
    (hv : BitVec.ofNat 64 x = v) :
    Host.Outcome.next (vaneExec s op r c body) = (.next (e.next (e.k.setP e.i.d v.toNat)) : Out) :=
  vaneExec_done h hok hpc hop (hbody.trans (congrArg _ (VaneRank.setP_congr _ _ (by simp [← hv]))))

end Issued

@[simp] theorem VaneRank.flag_zero (k : VaneRank) : k.flag 0 = k := by simp [VaneRank.flag]

/-- A sum of the powers of two of the numbers below `n` that meet `c`. -/
def powers (c : Nat → Bool) (n : Nat) : Nat := (List.range n).foldl (fun m i => if c i then m + 2 ^ i else m) 0

theorem powers_succ (c : Nat → Bool) (n : Nat) : powers c (n + 1) = if c n then powers c n + 2 ^ n else powers c n := by
  simp [powers, List.range_succ]

theorem powers_lt (c : Nat → Bool) (n : Nat) : powers c n < 2 ^ n := by
  induction n with
  | zero => exact Nat.zero_lt_one
  | succ n ih => rw [powers_succ]; split <;> omega

theorem testBit_powers (c : Nat → Bool) {n i : Nat} (hi : i < n) : (powers c n).testBit i = c i := by
  induction n with
  | zero => omega
  | succ n ih =>
    have hlt := powers_lt c n
    rw [powers_succ]
    rcases Nat.lt_succ_iff_lt_or_eq.1 hi with h | rfl
    · split
      · rw [Nat.add_comm, Nat.testBit_two_pow_add_gt h, ih h]
      · exact ih h
    · split
      · next hc => rw [Nat.add_comm, Nat.testBit_two_pow_add_eq, Nat.testBit_lt_two_pow hlt, hc]; rfl
      · next hc => rw [Nat.testBit_lt_two_pow hlt]; simpa using hc

/-- What a compare puts in p[d] (R163). -/
theorem VaneEnv.lanes_foldl_powers (e : VaneEnv) (c : Nat → Bool) :
    e.lanes.foldl (fun m i => if c i then m + 2 ^ i else m) 0 = powers (fun i => e.active i && c i) 64 := by
  rw [VaneEnv.lanes, List.foldl_filter, powers]
  congr 1
  funext m i
  cases e.active i <;> rfl

theorem VaneEnv.compare_eq (e : VaneEnv) (f : Nat → Bool × Nat) :
    e.compare f = e.done ((e.k.setP e.i.d (powers (fun i => e.active i && (f i).1) 64)).flag
      (e.lanes.foldl (fun g i => g ||| (f i).2) 0)) := by
  rw [VaneEnv.compare, VaneEnv.lanes_foldl_powers]

theorem foldl_or_zero {α : Type} (l : List α) (n : Nat) : l.foldl (fun g _ => g ||| 0) n = n := by
  induction l <;> simp_all

theorem toNat_append_eq_add {n m : Nat} (x : BitVec n) (y : BitVec m) : (x ++ y).toNat = x.toNat * 2 ^ m + y.toNat := by
  rw [BitVec.toNat_append, ← Nat.shiftLeft_add_eq_or_of_lt y.isLt, Nat.shiftLeft_eq]

theorem ofNat_pack2 (a b : Nat) : BitVec.ofNat 32 (b % 65536 * 65536 + a % 65536)
    = (BitVec.ofNat 32 b).extractLsb' 0 16 ++ (BitVec.ofNat 32 a).extractLsb' 0 16 := by
  refine BitVec.eq_of_toNat_eq ?_
  simp only [toNat_append_eq_add, BitVec.toNat_ofNat, BitVec.extractLsb'_toNat, Nat.shiftRight_zero]
  omega

theorem ofNat_pack4 (d c b a : Nat) :
    BitVec.ofNat 32 (d % 256 * 2 ^ 24 + c % 256 * 2 ^ 16 + b % 256 * 2 ^ 8 + a % 256)
      = (BitVec.ofNat 8 d ++ (BitVec.ofNat 32 c).extractLsb' 0 8)
        ++ ((BitVec.ofNat 32 b).extractLsb' 0 8 ++ (BitVec.ofNat 32 a).extractLsb' 0 8) := by
  refine BitVec.eq_of_toNat_eq ?_
  simp only [toNat_append_eq_add, BitVec.toNat_ofNat, BitVec.extractLsb'_toNat, Nat.shiftRight_zero]
  omega

theorem xor_ones (a : Nat) : BitVec.ofNat 64 (a ^^^ (2 ^ 64 - 1)) = ~~~BitVec.ofNat 64 a := by
  rw [← BitVec.xor_allOnes, BitVec.ofNat_xor]
  rfl

theorem toInt_min (a b : BitVec 32) : BitVec.ofInt 32 (min a.toInt b.toInt) = if a.slt b then a else b := by
  simp only [BitVec.slt_iff_toInt_lt]
  rcases Int.lt_or_le a.toInt b.toInt with h | h
  · rw [Int.min_eq_left (Int.le_of_lt h), if_pos h, BitVec.ofInt_toInt]
  · rw [Int.min_eq_right h, if_neg (Int.not_lt.2 h), BitVec.ofInt_toInt]

theorem toInt_max (a b : BitVec 32) : BitVec.ofInt 32 (max a.toInt b.toInt) = if a.slt b then b else a := by
  simp only [BitVec.slt_iff_toInt_lt]
  rcases Int.lt_or_le a.toInt b.toInt with h | h
  · rw [Int.max_eq_right (Int.le_of_lt h), if_pos h, BitVec.ofInt_toInt]
  · rw [Int.max_eq_left h, if_neg (Int.not_lt.2 h), BitVec.ofInt_toInt]

/-- Settles O29: a lane's integer, or a predicate's number, stands for the word named. -/
theorem vaneLanesTakeEffect : Obligations.VaneLanesTakeEffect := by
  intro s op r e h hok hpc a b c n lanes pred pa pb
  refine ⟨(vaneExec_int h hok hpc · rfl (fun _ => ofInt_add_natCast ..)),
    (vaneExec_int h hok hpc · rfl (fun _ => ofInt_sub_natCast ..)),
    (vaneExec_int h hok hpc · rfl (fun _ => ofInt_mul_natCast ..)),
    (vaneExec_int h hok hpc · rfl (fun _ => ofInt_and ..)),
    (vaneExec_int h hok hpc · rfl (fun _ => ofInt_or ..)),
    (vaneExec_int h hok hpc · rfl (fun _ => ofInt_xor ..)),
    (vaneExec_int h hok hpc · rfl (fun _ => ofInt_shiftLeft ..)),
    (vaneExec_int h hok hpc · rfl (fun _ => ofInt_shiftRight _ (e.k.vr_lt ..))),
    (vaneExec_int h hok hpc · rfl (fun _ => ofInt_arithShiftRight ..)),
    (vaneExec_int h hok hpc · rfl (fun i => ?min)),
    (vaneExec_int h hok hpc · rfl (fun i => ?max)),
    fun hop => ⟨_, vaneExec_done h hok hpc hop ?vicmp, fun i hi => testBit_powers _ hi⟩,
    (vaneExec_pred h hok hpc · rfl (BitVec.ofNat_and ..)),
    (vaneExec_pred h hok hpc · rfl (BitVec.ofNat_or ..)),
    (vaneExec_pred h hok hpc · rfl (BitVec.ofNat_xor ..)),
    (vaneExec_pred h hok hpc · rfl (xor_ones _)),
    (vaneExec_pred h hok hpc · rfl rfl),
    (vaneExec_lanes h hok hpc · rfl (fun i => apply_ite (BitVec.ofNat 32) ..)),
    (vaneExec_lanes h hok hpc · rfl (fun _ => rfl)),
    (vaneExec_lanes h hok hpc · rfl (fun _ => ?bcast)),
    (vaneExec_lanes h hok hpc · rfl (fun _ => rfl)),
    (vaneExec_lanes h hok hpc · rfl (fun _ => rfl)),
    (vaneExec_done h hok hpc · rfl),
    (vaneExec_lanes h hok hpc · rfl (fun _ => ofNat_pack2 ..)),
    (vaneExec_lanes h hok hpc · rfl (fun _ => ofNat_pack4 ..))⟩
  case min => rw [signedOf_eq_toInt, signedOf_eq_toInt]; exact toInt_min ..
  case max => rw [signedOf_eq_toInt, signedOf_eq_toInt]; exact toInt_max ..
  case vicmp => rw [VaneEnv.compare_eq, foldl_or_zero, VaneRank.flag_zero]; rfl
  case bcast => exact BitVec.eq_of_toNat_eq (by simp [VaneEnv.sa])

end Sys2Proof.Machine
end

section
namespace Sys2Proof.Machine

/-- A well-formed instruction's immediate holds no bit its form does not name (R161). -/
theorem VaneIns.ok_imm {i : VaneIns} {f : VaneForm} (h : i.ok = true) (hf : vaneFormOf i.op = some f) :
    i.imm &&& f.imm = i.imm := by
  simp only [VaneIns.ok, hf, Bool.and_eq_true, decide_eq_true_eq] at h
  obtain ⟨⟨⟨-, himm⟩, -⟩, -⟩ := h
  exact himm

/-- The format of a packed instruction whose form takes one bit of immediate. -/
theorem VaneEnv.half_eq {e : VaneEnv} {c : Nat} {f : VaneForm} (hok : e.i.ok = true) (hop : e.i.op = c)
    (hf : vaneFormOf c = some f) (h1 : f.imm = 1) : e.half = if e.i.imm = 1 then .fp16 else .bf16 := by
  have himm := VaneIns.ok_imm hok (hop ▸ hf)
  rw [h1, Nat.and_one_is_mod] at himm
  rw [VaneEnv.half, ← himm]
  rcases Nat.mod_two_eq_zero_or_one e.i.imm with h | h <;> rw [h] <;> rfl

section Floats

variable {s : State} {op r c : Nat} {e : VaneEnv} {body : VaneEnv → VaneRes}
  (h : s.vaneEnv op r = some e) (hok : e.i.ok = true) (hpc : e.k.pc < 8191)

include h hok hpc

/-- A packed operation in the format its immediate names. -/
theorem vaneExec_packed (hop : e.i.op = c) (g : FloatFmt → Nat → Nat → Nat → Nat × Nat) {f : VaneForm}
    (hbody : body e = e.packed (g e.half)) (hf : vaneFormOf c = some f) (h1 : f.imm = 1) :
    Host.Outcome.next (vaneExec s op r c body) = (.next (e.next (e.vector (fun i =>
      ((g (if e.i.imm = 1 then .fp16 else .bf16) (e.va i / 65536) (e.vb i / 65536) (e.vc i / 65536)).1 * 65536
          + (g (if e.i.imm = 1 then .fp16 else .bf16) (e.va i % 65536) (e.vb i % 65536) (e.vc i % 65536)).1,
        (g (if e.i.imm = 1 then .fp16 else .bf16) (e.va i % 65536) (e.vb i % 65536) (e.vc i % 65536)).2
          ||| (g (if e.i.imm = 1 then .fp16 else .bf16) (e.va i / 65536) (e.vb i / 65536) (e.vc i / 65536)).2)))) : Out) :=
  vaneExec_done h hok hpc hop (by rw [hbody, VaneEnv.half_eq hok hop hf h1]; rfl)

theorem vaneExec_trans (hop : e.i.op = c) : Host.Outcome.next (vaneExec s op r c VaneEnv.trans)
    = (.next (e.next (e.vector (fun i => transcend c (e.va i)))) : Out) :=
  vaneExec_done h hok hpc hop (by rw [VaneEnv.trans, hop]; rfl)

end Floats

/-- Settles O30: each body is the lane function named; a packed one's format is read off its one-bit immediate. -/
theorem vaneFloatsTakeEffect : Obligations.VaneFloatsTakeEffect := by
  intro s op r e h hok hpc a b c x half lanes halves
  exact ⟨(vaneExec_done h hok hpc · rfl), (vaneExec_done h hok hpc · rfl), (vaneExec_done h hok hpc · rfl),
    (vaneExec_done h hok hpc · rfl), (vaneExec_done h hok hpc · rfl), (vaneExec_done h hok hpc · rfl),
    (vaneExec_done h hok hpc · rfl), (vaneExec_done h hok hpc · rfl), (vaneExec_done h hok hpc · rfl),
    (vaneExec_done h hok hpc · rfl), (vaneExec_done h hok hpc · rfl), (vaneExec_done h hok hpc · rfl),
    (vaneExec_done h hok hpc · rfl), (vaneExec_done h hok hpc · rfl),
    (vaneExec_packed h hok hpc · (fun f u v _ => fp2 f Val.add u v) rfl rfl rfl),
    (vaneExec_packed h hok hpc · (fun f u v _ => fp2 f valSub u v) rfl rfl rfl),
    (vaneExec_packed h hok hpc · (fun f u v _ => fp2 f Val.mul u v) rfl rfl rfl),
    (vaneExec_packed h hok hpc · (fun f => fma f false) rfl rfl rfl),
    (vaneExec_packed h hok hpc · (fun f u v _ => minMax f true u v) rfl rfl rfl),
    (vaneExec_packed h hok hpc · (fun f u v _ => minMax f false u v) rfl rfl rfl),
    vaneExec_trans h hok hpc, vaneExec_trans h hok hpc, vaneExec_trans h hok hpc, vaneExec_trans h hok hpc,
    vaneExec_trans h hok hpc, vaneExec_trans h hok hpc, vaneExec_trans h hok hpc, vaneExec_trans h hok hpc⟩

/-- The tree over absent values alone is absent, and sets no flag. -/
theorem treeOpt_none {c : List (Option Nat)} (h : ∀ i, getAt none c i = none) (k lo : Nat) : treeOpt c k lo = (none, 0) := by
  induction k generalizing lo with
  | zero => rw [treeOpt, h]
  | succ k ih => simp [treeOpt, ih]

theorem VaneEnv.active_of_no_lane {e : VaneEnv} (h : e.lanes = []) {i : Nat} (hi : i < 64) : e.active i = false := by
  have := List.filter_eq_nil_iff.1 h i (List.mem_range.2 hi)
  simpa using this

/-- Settles O31: a compare's predicate is the sum of the powers of its lanes; a reduction with no active lane is of absent
values alone. -/
theorem vaneComparesAndReductions : Obligations.VaneComparesAndReductions := by
  intro s op r e h hok hpc a nan
  refine ⟨fun hop => ⟨_, _, vaneExec_done h hok hpc hop (VaneEnv.compare_eq ..), rfl, fun i hi => testBit_powers _ hi⟩,
    (vaneExec_done h hok hpc · rfl), fun hop hl => vaneExec_done h hok hpc hop ?none, (vaneExec_done h hok hpc · rfl),
    (vaneExec_done h hok hpc · rfl), (vaneExec_done h hok hpc · rfl)⟩
  case none =>
    have hnone : ∀ i, getAt none ((List.range 64).map (fun i => if e.active i then some (e.va i) else none)) i = none := by
      intro i
      rcases Nat.lt_or_ge i 64 with hi | hi
      · simp [getAt, hi, VaneEnv.active_of_no_lane hl hi]
      · simp [getAt, Nat.not_lt.2 hi]
    have hzero : f32Canon ((none : Option Nat).getD 0) = 0 := by decide
    have hflag : (0 ||| nanIn ([].map (fun i => f32 (e.va i)))) = 0 := by simp [nanIn]
    simp only [vrsumBody, treeOpt_none hnone, VaneEnv.laneNan, hl, hzero, hflag, VaneRank.flag_zero]

end Sys2Proof.Machine
end

section
namespace Sys2Proof.Machine

/-- The issuing rank put back as it was. -/
theorem VaneEnv.put_self {e : VaneEnv} (h : e.run.ranks[e.r]? = some e.k) : e.put e.k = e.run := by
  obtain ⟨hlt, heq⟩ := List.getElem?_eq_some_iff.1 h
  rw [VaneEnv.put, setAt_eq_set, ← heq, List.set_getElem_self]

theorem srEq_beq (k : VaneRank) (m n : Nat) : decide (k.sr m = k.sr n) = (BitVec.ofNat 64 (k.sr m) == BitVec.ofNat 64 (k.sr n)) := by
  rw [Bool.eq_iff_iff, decide_eq_true_iff, beq_iff_eq, ← BitVec.toNat_inj, k.toNat_ofNat_sr, k.toNat_ofNat_sr]

section Control

variable {s : State} {op r c : Nat} {e : VaneEnv} {body : VaneEnv → VaneRes}
  (h : s.vaneEnv op r = some e) (hok : e.i.ok = true) (hpc : e.k.pc < 8191)

include h hok

/-- A jump inside program memory (R165). -/
theorem vaneExec_jump (hop : e.i.op = c) {k : VaneRank} {t : Int} (hbody : body e = .jump (e.put k) t) (h0 : 0 ≤ t)
    (h1 : t ≤ 8191) : Host.Outcome.next (vaneExec s op r c body) = (.next (e.goto k t.toNat) : Out) := by
  have hi := vaneEnv_issuedIn h
  rw [vaneExec_issue h hop hok, hbody, VaneEnv.goto, hi.state]
  simp [State.vaneApply, Int.not_lt.2 h0, Int.not_lt.2 h1]

/-- A jump out of program memory (R165, R195). -/
theorem vaneExec_jump_out (hop : e.i.op = c) {run : VaneRun} {t : Int} (hbody : body e = .jump run t)
    (ht : t < 0 ∨ 8191 < t) : Host.Outcome.next (vaneExec s op r c body)
      = (.next (s.decide op Status.vanePcRange (vaneDetail e.k.pc r 0)) : Out) := by
  have hi := vaneEnv_issuedIn h
  rw [vaneExec_issue h hop hok, hbody]
  simp [State.vaneApply, ht, State.vaneRaise, hi.id, hi.rank]

include hpc

/-- A branch: taken inside program memory, taken out of it, and not taken. -/
theorem vaneExec_branch {c' : Bool} (hop : e.i.op = c) (hbody : body e = e.branch c') :
    (c' = true → 0 ≤ (e.k.pc : Int) + e.simm → (e.k.pc : Int) + e.simm ≤ 8191 →
      Host.Outcome.next (vaneExec s op r c body) = (.next (e.goto e.k (e.k.pc + e.simm).toNat) : Out))
    ∧ (c' = true → (e.k.pc : Int) + e.simm < 0 ∨ 8191 < (e.k.pc : Int) + e.simm →
      Host.Outcome.next (vaneExec s op r c body)
        = (.next (s.decide op Status.vanePcRange (vaneDetail e.k.pc r 0)) : Out))
    ∧ (c' = false → Host.Outcome.next (vaneExec s op r c body) = (.next (e.next e.k) : Out)) := by
  have hi := vaneEnv_issuedIn h
  have hself := VaneEnv.put_self (hi.rank.symm ▸ hi.rankAt)
  refine ⟨fun hc => vaneExec_jump h hok hop ?_, fun hc => vaneExec_jump_out h hok hop (run := e.run) ?_,
    fun hc => vaneExec_done h hok hpc hop ?_⟩
  · rw [hbody, hc, hself]; rfl
  · rw [hbody, hc]; rfl
  · rw [hbody, hc]; rfl

/-- An instruction that goes on once `c'` holds, and waits till then. -/
theorem vaneExec_unless_wait {c' : Prop} [Decidable c'] {k : VaneRank} (hop : e.i.op = c)
    (hbody : body e = if c' then e.done k else .wait) :
    Host.Outcome.next (vaneExec s op r c body) = (.next (if c' then e.next k else s) : Out) := by
  rw [vaneExec_issue h hop hok, hbody]
  split
  · rw [vaneApply_done hpc]
  · rw [vaneApply_wait hpc]

end Control

/-- Settles O27: each body is a branch, a jump, a register write or a wait. -/
theorem vaneControlTakesEffect : Obligations.VaneControlTakesEffect := by
  intro s op r e h hok hpc a b branch
  have hi := vaneEnv_issuedIn h
  have hself := VaneEnv.put_self (hi.rank.symm ▸ hi.rankAt)
  have srd (n : Nat) {k : VaneRank} (hop : e.i.op = 0x0E) (hn : e.i.imm = n) (hbody : e.i.imm = n → srdBody e = e.done k) :
      exec (.srd op r) s = .next (e.next k) := vaneExec_done h hok hpc hop (hbody hn)
  refine ⟨(vaneExec_done h hok hpc · rfl), fun hop => ?halt, fun hop => ?trap, fun hop => ?fence,
    (vaneExec_branch h hok hpc · rfl), fun hop => vaneExec_branch h hok hpc hop ?beq,
    fun hop => vaneExec_branch h hok hpc hop ?bne, fun hop => vaneExec_branch h hok hpc hop ?blt,
    fun hop => vaneExec_branch h hok hpc hop ?bge, fun hop => vaneExec_branch h hok hpc hop ?bltu,
    (vaneExec_jump h hok · rfl), fun hop hr => vaneExec_jump h hok hop ?jr (Int.natCast_nonneg _) (Int.ofNat_le.2 hr),
    fun hop => vaneExec_branch h hok hpc hop ?bany, fun hop => vaneExec_branch h hok hpc hop ?bnone,
    fun hop hn => ?clocks, fun hop hn => srd 1 hop hn ?ns, fun hop hn => srd 2 hop hn ?first, fun hop hn => srd 3 hop hn ?rank,
    fun hop hn => srd 4 hop hn ?count, fun hop hn p hp => srd 5 hop hn ?tiles, fun hop hn => srd 6 hop hn ?flags,
    fun hop hn => srd 7 hop hn ?transfers, (vaneExec_unless_wait h hok hpc · rfl),
    (vaneExec_unless_wait h hok hpc · rfl)⟩
  case halt =>
    show Host.Outcome.next (vaneExec s op r 0x01 _) = _
    rw [vaneExec_issue h hop hok, State.vaneApply, hi.id, hi.rank]
  case trap =>
    show Host.Outcome.next (vaneExec s op r 0x02 _) = _
    rw [vaneExec_issue h hop hok, State.vaneApply, hi.id, hi.rank, State.vaneRaise]
  case fence => exact vaneExec_unless_wait h hok hpc hop (by simp [List.isEmpty_iff])
  case beq => exact congrArg _ (srEq_beq ..)
  case bne =>
    rw [bne, ← srEq_beq, ← decide_not]
    rfl
  case blt =>
    rw [VaneEnv.sai, VaneEnv.sbi, signedOf_eq_toInt, signedOf_eq_toInt]
    rfl
  case bge =>
    rw [VaneEnv.sai, VaneEnv.sbi, signedOf_eq_toInt, signedOf_eq_toInt, BitVec.slt, ← decide_not]
    exact congrArg _ (decide_eq_decide.2 Int.not_lt.symm)
  case bltu =>
    rw [BitVec.ult, e.k.toNat_ofNat_sr, e.k.toNat_ofNat_sr]
    rfl
  case jr => rw [hself]; rfl
  case bany => exact congrArg _ (decide_not ..)
  case bnone => rfl
  case clocks =>
    refine ⟨Config.freeNat s.work.free, ?_⟩
    show Host.Outcome.next (vaneExec s op r 0x0E _) = _
    rw [vaneExec_issue h hop hok]
    simp only [srdBody, hn]
    rw [vaneApply_ok hpc, hi.id, hi.rank, hi.state]
    rfl
  case ns => intro hn; simp only [srdBody, hn, hi.state]
  case first => intro hn; simp only [srdBody, hn, vaneRanks, hi.rank]
  case rank => intro hn; simp only [srdBody, hn, hi.rank]
  case count => intro hn; simp only [srdBody, hn, vaneRanks]
  case tiles => intro hn; simp [srdBody, hn, hi.state, hp]
  case flags => intro hn; simp only [srdBody, hn]
  case transfers => intro hn; simp only [srdBody, hn]

/-- The issuing rank of a run put back with its next pc; every other rank as it was. -/
theorem VaneEnv.ranks_setPc {e : VaneEnv} (h : e.run.ranks[e.r]? = some e.k) (k : VaneRank) (n : Nat) :
    ((e.put k).setPc e.r n).ranks = e.run.ranks.set e.r { k with pc := n } := by
  obtain ⟨hlt, -⟩ := List.getElem?_eq_some_iff.1 h
  simp [VaneRun.setPc, VaneEnv.put, setAt_eq_set, hlt]

theorem VaneEnv.rank_setPc {e : VaneEnv} (h : e.run.ranks[e.r]? = some e.k) (k : VaneRank) (n : Nat) :
    ((e.put k).setPc e.r n).ranks[e.r]? = some { k with pc := n } := by
  obtain ⟨hlt, -⟩ := List.getElem?_eq_some_iff.1 h
  simp [e.ranks_setPc h, hlt]

/-! What a commit leaves (R172): the run in its place, its operation's flags, and nothing else. -/

section Commit

variable (s : State) (id r : Nat) (run : VaneRun)

@[simp] theorem State.vaneCommit_mem : (s.vaneCommit id r run).mem = s.mem := rfl
@[simp] theorem State.vaneCommit_host : (s.vaneCommit id r run).host = s.host := rfl
@[simp] theorem State.vaneCommit_sluices : (s.vaneCommit id r run).work.sluices = s.work.sluices := rfl
@[simp] theorem State.vaneCommit_runs : (s.vaneCommit id r run).eng.runs = s.eng.runs.set id run := rfl

theorem State.vaneCommit_op? {j : Nat} (h : j ≠ id) : (s.vaneCommit id r run).op? j = s.op? j :=
  State.modOp_op?_ne _ _ h

end Commit

/-- Settles O26: a commit changes the run and its operation's flags alone. -/
theorem instructionsChangeTheirRankAlone : Obligations.InstructionsChangeTheirRankAlone := by
  intro s op r e k n h
  obtain ⟨hs, rfl, rfl, -, -, hrank⟩ := vaneEnv_issuedIn h
  refine ⟨⟨(e.put k).setPc e.r n, ?_, e.rank_setPc hrank k n, fun j hj => ?_, rfl⟩, fun j hj => ?_, ?_, ?_, ?_, fun j hj => ?_,
    rfl, rfl, rfl, rfl, rfl⟩
  · simp [VaneEnv.goto]
  · rw [e.ranks_setPc hrank, List.getElem?_set_ne (Ne.symm hj)]
  · simp [VaneEnv.goto, hj, hs]
  · simp [VaneEnv.goto, hs]
  · simp [VaneEnv.goto, hs]
  · simp [VaneEnv.goto, hs]
  · rw [← hs]; exact State.vaneCommit_op? _ _ _ _ hj

/-- Which bits the flags gathered over lanes hold. -/
theorem testBit_foldl_or {α : Type} (l : List α) (f : α → Nat) (n b : Nat) :
    (l.foldl (fun g x => g ||| f x) n).testBit b = (n.testBit b || l.any (fun x => (f x).testBit b)) := by
  induction l generalizing n with
  | nil => simp
  | cons x l ih => simp [ih, Nat.testBit_or, Bool.or_assoc]

/-- Settles O25: v[d] is a map over the lanes, and no other field but the flags is written. -/
theorem predicationDecidesTheLanes : Obligations.PredicationDecidesTheLanes := by
  intro e f hd
  have hv : (e.vector f).v = e.k.v.set e.i.d ((List.range 64).map (fun i =>
      BitVec.ofNat 32 (if e.active i then f i else (if e.i.z then 0 else e.k.vr e.i.d i, 0)).1)) := by
    simp [VaneEnv.vector, VaneRank.flag, setAt_eq_set, Function.comp_def]
  refine ⟨fun i hi => ?_, fun n hn => ?_, rfl, rfl, rfl, rfl, rfl, rfl, fun b => ?_⟩
  · rw [VaneRank.vr, hv]
    have hvr := Nat.mod_eq_of_lt (e.k.vr_lt e.i.d i)
    simp only [getAt, List.getElem?_set_self hd, Option.getD_some, List.getElem?_map, List.getElem?_range hi, Option.map_some,
      BitVec.toNat_ofNat]
    split
    · rfl
    · split
      · rfl
      · exact hvr
  · rw [hv, List.getElem?_set_ne (Ne.symm hn)]
  · simp only [VaneEnv.vector, VaneRank.flag, Nat.testBit_or, testBit_foldl_or, List.any_map, Nat.zero_testBit, Bool.false_or]
    congr 2
    funext i
    cases h : e.active i <;> simp [h]

end Sys2Proof.Machine
end

section
/-! Loads and stores of a Vane rank with no transfer outstanding (R173, R174). -/

namespace Sys2Proof.Machine

theorem VaneEnv.base_eq (e : VaneEnv) :
    e.base = (BitVec.ofNat 64 (e.k.sr e.i.a) + (BitVec.ofNat 32 e.i.imm).signExtend 64).toNat := by
  rw [VaneEnv.base, unsignedOf_eq_toNat, BitVec.ofInt_add, BitVec.ofInt_natCast, VaneEnv.simm, signedOf_eq_toInt,
    BitVec.signExtend]
  rfl

theorem sramCheck_none {l : List Nat} {w : Nat} (h : ∀ a ∈ l, a % w = 0 ∧ a + w ≤ 0x200000) : sramCheck l w = none := by
  have h0 : l.any (fun a => decide (a % w ≠ 0)) = false := by
    simpa using fun a ha => (h a ha).1
  have h1 : l.any (fun a => decide (0x200000 < a + w)) = false := by
    simpa using fun a ha => (h a ha).2
  rw [sramCheck, h0, h1]
  rfl

theorem VaneEnv.mem_lanes {e : VaneEnv} {i : Nat} : i ∈ e.lanes ↔ i < 64 ∧ e.active i = true := by
  rw [VaneEnv.lanes, List.mem_filter, List.mem_range]

/-- The addresses of the active lanes pass the checks of R173. -/
theorem VaneEnv.sramCheck_lanes {e : VaneEnv} {addr : Nat → Nat} {w : Nat}
    (h : ∀ i, i < 64 → e.active i = true → addr i % w = 0 ∧ addr i + w ≤ 0x200000) : sramCheck (e.lanes.map addr) w = none := by
  refine sramCheck_none (fun a ha => ?_)
  obtain ⟨i, hi, rfl⟩ := List.mem_map.1 ha
  obtain ⟨hi, ha⟩ := VaneEnv.mem_lanes.1 hi
  exact h i hi ha

/-- Values recorded one after another, read back. -/
theorem Tab.at?_foldl_set (f : Nat → Nat) (l : List Nat) (t : Tab Nat) (i : Nat) :
    (l.foldl (fun t i => t.set i (f i)) t).at? i = if i ∈ l then some (f i) else t.at? i := by
  induction l generalizing t with
  | nil => rfl
  | cons j l ih =>
    rw [List.foldl_cons, ih]
    by_cases hl : i ∈ l
    · simp [hl]
    · by_cases hj : i = j
      · simp [hj]
      · simp [hl, hj]

/-- A store marks no transfer where none is outstanding. -/
theorem VaneRun.stored_of_no_transfers {run : VaneRun} (h : run.ranks.all (fun k => k.transfers.isEmpty) = true)
    (r off n : Nat) : run.stored r off n = run := by
  have hk : ∀ x ∈ run.ranks.zip (List.range run.ranks.length), { x.1 with transfers := x.1.transfers.map (fun t =>
      let t1 := if x.2 = r then t.storedOwn off n else t
      if t.dest = r then t1.storedDest off n else t1) } = x.1 := by
    intro x hx
    have := List.isEmpty_iff.1 (List.all_eq_true.1 h _ (List.of_mem_zip hx).1)
    simp only [this, List.map_nil]
    rw [← this]
  rw [VaneRun.stored, List.map_congr_left hk, ← List.unzip_fst, List.unzip_zip (by simp)]

/-- Bytes put one range after another into a tile's SRAM change its bytes and their poison alone. -/
theorem State.foldl_putSram_eq (s : State) (tile : Nat) (addr : Nat → Nat) (bs : Nat → List Byte) (l : List Nat) :
    ∃ p, l.foldl (fun s i => s.putSram tile (addr i) (bs i)) s = { s with mem := { s.mem with
      sram := l.foldl (fun m i => m.write (tile * 0x400000 + addr i) (bs i)) s.mem.sram, sramPoison := p } } := by
  induction l generalizing s with
  | nil => exact ⟨_, rfl⟩
  | cons i l ih =>
    obtain ⟨p, hp⟩ := ih (s.putSram tile (addr i) (bs i))
    exact ⟨p, hp⟩

/-- A byte outside every range written keeps its value. -/
theorem Memory.get_foldl_write_outside (addr : Nat → Nat) (bs : Nat → List Byte) (l : List Nat) (m : Memory) {x : Nat}
    (h : ∀ i ∈ l, ¬(addr i ≤ x ∧ x < addr i + (bs i).length)) :
    (l.foldl (fun m i => m.write (addr i) (bs i)) m).get x = m.get x := by
  induction l generalizing m with
  | nil => rfl
  | cons i l ih =>
    have hi := h i (.head _)
    rw [List.foldl_cons, ih _ (fun j hj => h j (.tail _ hj)), Memory.get_write_outside _ _ (by omega)]

@[simp] theorem length_leBytes (n w : Nat) : (leBytes n w).length = n := by
  induction n generalizing w with
  | zero => rfl
  | succ n ih => simp [leBytes, ih]

/-- The values a vector access reads, lane by lane. -/
theorem foldl_readSram_eq (tile : Nat) (s : State) (addr : Nat → Nat) (w : Nat) (l : List Nat) (t : Tab Nat) :
    l.foldl (fun (x : Tab Nat × State) i => (x.1.set i (leNat (x.2.readSram tile (addr i) w)), x.2)) (t, s)
      = (l.foldl (fun t i => t.set i (leNat (s.readSram tile (addr i) w))) t, s) := by
  induction l generalizing t with
  | nil => rfl
  | cons i l ih => exact ih _

section NoTransfers

variable {e : VaneEnv} (hno : e.run.ranks.all (fun k => k.transfers.isEmpty) = true)

include hno

theorem VaneEnv.load_eq (s : State) (off n : Nat) : e.load s off n = (s.readSram e.k.tile off n, s) := by
  simp [VaneEnv.load, hno]

theorem VaneEnv.store_eq (s : State) (off : Nat) (bs : List Byte) :
    e.store (s, e.run) off bs = (s.putSram e.k.tile off bs, e.run) := by
  rw [VaneEnv.store, VaneRun.stored_of_no_transfers hno]

theorem VaneEnv.foldl_store_eq (s : State) (addr : Nat → Nat) (bs : Nat → List Byte) (l : List Nat) :
    l.foldl (fun x i => e.store x (addr i) (bs i)) (s, e.run)
      = (l.foldl (fun s i => s.putSram e.k.tile (addr i) (bs i)) s, e.run) := by
  induction l generalizing s with
  | nil => rfl
  | cons i l ih => rw [List.foldl_cons, VaneEnv.store_eq hno, ih]; rfl

/-- A vector load whose addresses are good and hold no poison. -/
theorem VaneEnv.vload_eq {addr : Nat → Nat} (hgood : ∀ i, i < 64 → e.active i = true →
      addr i % e.width = 0 ∧ addr i + e.width ≤ 0x200000)
    (hclean : ∀ i, i < 64 → e.active i = true → e.s.sramPoisoned e.k.tile (addr i) e.width = false) :
    e.vload addr = e.done (e.vector (fun i => (leNat (e.s.readSram e.k.tile (addr i) e.width), 0))) := by
  have hany : e.lanes.any (fun i => e.s.sramPoisoned e.k.tile (addr i) e.width) = false :=
    List.any_eq_false.2 (fun i hi => by simp [hclean i (VaneEnv.mem_lanes.1 hi).1 (VaneEnv.mem_lanes.1 hi).2])
  simp only [VaneEnv.vload, VaneEnv.sramCheck_lanes hgood, hany, VaneEnv.load_eq hno, foldl_readSram_eq, VaneEnv.done]
  rw [if_neg Bool.false_ne_true]
  refine congrArg _ (congrArg _ (e.vector_congr (fun i hi ha => ?_) (fun _ _ _ => rfl)))
  rw [Tab.get, Tab.at?_foldl_set, if_pos (VaneEnv.mem_lanes.2 ⟨hi, ha⟩)]
  rfl

/-- A vector store whose addresses are good. -/
theorem VaneEnv.vstore_eq {addr : Nat → Nat} (hgood : ∀ i, i < 64 → e.active i = true →
      addr i % e.width = 0 ∧ addr i + e.width ≤ 0x200000) :
    e.vstore addr = .ok (e.lanes.foldl (fun s i => s.putSram e.k.tile (addr i) (leBytes e.width (e.k.vr e.i.d i))) e.s)
      e.run := by
  simp only [VaneEnv.vstore, VaneEnv.sramCheck_lanes hgood, VaneEnv.foldl_store_eq hno]

end NoTransfers

section Issued

variable {s : State} {op r c : Nat} {e : VaneEnv} {body : VaneEnv → VaneRes} (h : s.vaneEnv op r = some e) (hok : e.i.ok = true)
  (hpc : e.k.pc < 8191)

include h

/-- The issuing rank of a run left as it was but for its pc. -/
theorem issued_rank_setPc (n : Nat) : (e.run.setPc r n).ranks[r]? = some { e.k with pc := n } := by
  obtain ⟨-, -, rfl, -, -, hrank⟩ := vaneEnv_issuedIn h
  have := e.rank_setPc hrank e.k n
  rwa [VaneEnv.put_self hrank] at this

include hok hpc

/-- An instruction whose body leaves the state `t` and the run `run` goes on. -/
theorem vaneExec_ok (hop : e.i.op = c) {t : State} {run : VaneRun} (hbody : body e = .ok t run) :
    Host.Outcome.next (vaneExec s op r c body) = (.next (t.vaneCommit op r (run.setPc r (e.k.pc + 1))) : Out) := by
  obtain ⟨-, rfl, rfl, -, -, -⟩ := vaneEnv_issuedIn h
  rw [vaneExec_issue h hop hok, hbody, vaneApply_ok hpc]

variable (hno : e.run.ranks.all (fun k => k.transfers.isEmpty) = true)

include hno

/-- A vector load of well-formed, unpoisoned addresses. -/
theorem vaneExec_vload (hop : e.i.op = c) {addr : Nat → Nat} (hbody : body e = e.vload addr)
    (hgood : ∀ i, i < 64 → e.active i = true → (addr i % e.width = 0 ∧ addr i + e.width ≤ 0x200000)
      ∧ s.sramPoisoned e.k.tile (addr i) e.width = false) :
    Host.Outcome.next (vaneExec s op r c body)
      = (.next (e.next (e.vector (fun i => (leNat (s.readSram e.k.tile (addr i) e.width), 0)))) : Out) := by
  obtain ⟨rfl, -, -, -, -, -⟩ := vaneEnv_issuedIn h
  exact vaneExec_done h hok hpc hop (hbody.trans
    (VaneEnv.vload_eq hno (fun i hi ha => (hgood i hi ha).1) (fun i hi ha => (hgood i hi ha).2)))

/-- A vector store to well-formed addresses. -/
theorem vaneExec_vstore (hop : e.i.op = c) {addr : Nat → Nat} (hbody : body e = e.vstore addr)
    (hgood : ∀ i, i < 64 → e.active i = true → addr i % e.width = 0 ∧ addr i + e.width ≤ 0x200000) :
    ∃ (t : State) (run : VaneRun), Host.Outcome.next (vaneExec s op r c body) = (.next t : Out)
      ∧ t.eng.runs.at? op = some run ∧ run.ranks[r]? = some { e.k with pc := e.k.pc + 1 }
      ∧ t.mem.sram = e.lanes.foldl (fun m i => m.write (e.k.tile * 0x400000 + addr i)
          (leBytes e.width (e.k.vr e.i.d i))) s.mem.sram
      ∧ (∀ x, (∀ i, i < 64 → e.active i = true → ¬(e.k.tile * 0x400000 + addr i ≤ x
          ∧ x < e.k.tile * 0x400000 + addr i + e.width)) → t.mem.sram.get x = s.mem.sram.get x)
      ∧ t.mem.hbm = s.mem.hbm ∧ t.mem.prog = s.mem.prog ∧ t.host = s.host := by
  obtain ⟨hs, -, -, -, -, -⟩ := vaneEnv_issuedIn h
  obtain ⟨p, hp⟩ := e.s.foldl_putSram_eq e.k.tile addr (fun i => leBytes e.width (e.k.vr e.i.d i)) e.lanes
  refine ⟨_, _, vaneExec_ok h hok hpc hop (hbody.trans (VaneEnv.vstore_eq hno hgood)), Tab.at?_set_self ..,
    issued_rank_setPc h _, ?_, fun x hx => ?_, ?_, ?_, ?_⟩ <;> rw [hp, hs]
  · rfl
  · exact Memory.get_foldl_write_outside (fun i => e.k.tile * 0x400000 + addr i) _ _ _ (fun i hi => by
      rw [length_leBytes]
      exact hx i (VaneEnv.mem_lanes.1 hi).1 (VaneEnv.mem_lanes.1 hi).2)
  · rfl
  · rfl
  · rfl

end Issued

/-- Settles O32: with no transfer outstanding a load reads the SRAM as it stands, and a store writes one lane after another. -/
theorem vaneLoadsAndStores : Obligations.VaneLoadsAndStores := by
  intro s op r e h hok hpc hno base w good loads stores
  obtain ⟨hs, -, -, -, -, -⟩ := vaneEnv_issuedIn h
  have hcheck (hb : good 8 base) : sramCheck [e.base] 8 = none :=
    sramCheck_none (fun a ha => by rw [List.mem_singleton.1 ha, e.base_eq]; exact hb)
  have hcontig : e.contig = fun i => (base + i * w) % 2 ^ 64 := funext fun i => by rw [VaneEnv.contig, e.base_eq]; rfl
  have hstrided : e.strided = fun i => (base + i * e.k.sr e.i.b) % 2 ^ 64 :=
    funext fun i => by rw [VaneEnv.strided, e.base_eq]; rfl
  have hgathered : e.gathered = fun i => (base + e.k.vr e.i.b i) % 2 ^ 64 :=
    funext fun i => by rw [VaneEnv.gathered, e.base_eq]; rfl
  refine ⟨fun hop hb hclean => vaneExec_done h hok hpc hop ?sld, fun hop hwf hb => ?sst,
    (vaneExec_vload h hok hpc hno · (congrArg e.vload hcontig)), (vaneExec_vload h hok hpc hno · (congrArg e.vload hstrided)),
    (vaneExec_vload h hok hpc hno · (congrArg e.vload hgathered)),
    (vaneExec_vstore h hok hpc hno · (congrArg e.vstore hcontig)),
    (vaneExec_vstore h hok hpc hno · (congrArg e.vstore hstrided)),
    (vaneExec_vstore h hok hpc hno · (congrArg e.vstore hgathered))⟩
  case sld =>
    have hclean' : e.s.sramPoisoned e.k.tile e.base 8 = false := by rw [hs, e.base_eq]; exact hclean
    simp only [sldBody, hcheck hb, hclean', VaneEnv.load_eq hno, if_neg Bool.false_ne_true]
    rw [VaneEnv.done, hs, e.base_eq]
  case sst =>
    have hbody : sstBody e = .ok (s.putSram e.k.tile base (leBytes 8 (e.k.sr e.i.d))) e.run := by
      simp only [sstBody, hcheck hb, VaneEnv.store_eq hno]
      rw [hs, e.base_eq]
    have hsram := ((State.memWf_iff s).1 hwf).2.1
    refine ⟨_, _, vaneExec_ok h hok hpc hop hbody, ?_, Tab.at?_set_self .., issued_rank_setPc h _, fun x hx => ?_, rfl, rfl⟩
    · have hread := Memory.read_write (e.k.tile * 0x400000 + base) (leBytes 8 (e.k.sr e.i.d)) hsram
      rwa [length_leBytes] at hread
    · exact Memory.get_write_outside _ _ (by rw [length_leBytes]; omega)

end Sys2Proof.Machine
end

section
/-! Quern accumulators of a Vane rank (R182 to R185): the bits of the tag word, and ranges of SRAM read back after stores. -/

namespace Sys2Proof.Machine

theorem testBit_bitsOf (w lo len k : Nat) : (bitsOf w lo len).testBit k = (decide (k < len) && w.testBit (lo + k)) := by
  rw [bitsOf, Nat.testBit_mod_two_pow, Nat.testBit_shiftRight]

/-- A word is what lies above a field, the field and what lies below it; `setBits` replaces the field. -/
theorem setBits_eq (w lo len v : Nat) :
    setBits w lo len v = 2 ^ lo * (2 ^ len * (w / 2 ^ lo / 2 ^ len) + v % 2 ^ len) + w % 2 ^ lo := by
  have hlow := Nat.div_add_mod w (2 ^ lo)
  have hhigh := Nat.div_add_mod (w / 2 ^ lo) (2 ^ len)
  have hw : w = 2 ^ lo * (2 ^ len * (w / 2 ^ lo / 2 ^ len)) + 2 ^ lo * (w / 2 ^ lo % 2 ^ len) + w % 2 ^ lo := by
    rw [← Nat.mul_add, hhigh, hlow]
  rw [setBits, bitsOf, Nat.shiftRight_eq_div_pow, Nat.shiftLeft_eq, Nat.shiftLeft_eq, Nat.mul_add, Nat.mul_comm _ (2 ^ lo),
    Nat.mul_comm _ (2 ^ lo)]
  omega

theorem testBit_setBits (w lo len v k : Nat) : (setBits w lo len v).testBit k
    = if lo ≤ k ∧ k < lo + len then v.testBit (k - lo) else w.testBit k := by
  have hlt : w % 2 ^ lo < 2 ^ lo := Nat.mod_lt _ (Nat.two_pow_pos lo)
  have hv : v % 2 ^ len < 2 ^ len := Nat.mod_lt _ (Nat.two_pow_pos len)
  rw [setBits_eq, Nat.testBit_two_pow_mul_add _ hlt, Nat.testBit_two_pow_mul_add _ hv, Nat.testBit_mod_two_pow,
    Nat.testBit_mod_two_pow, Nat.testBit_div_two_pow, Nat.testBit_div_two_pow]
  by_cases h1 : k < lo
  · rw [if_pos h1, if_neg (by omega), decide_eq_true h1, Bool.true_and]
  · rw [if_neg h1]
    by_cases h2 : k - lo < len
    · rw [if_pos h2, if_pos (by omega), decide_eq_true h2, Bool.true_and]
    · rw [if_neg h2, if_neg (by omega)]
      congr 1
      omega

/-- Fields of other numbers set leave a bit of field `i` as it was. -/
theorem testBit_foldl_setBits_of_notMem (v : Nat → Nat) {l : List Nat} (w : Nat) {i k : Nat} (hk : k < 2) (hi : i ∉ l) :
    (l.foldl (fun w i => setBits w (2 * i) 2 (v i)) w).testBit (2 * i + k) = w.testBit (2 * i + k) := by
  induction l generalizing w with
  | nil => rfl
  | cons j l ih =>
    rw [List.mem_cons, not_or] at hi
    rw [List.foldl_cons, ih _ hi.2, testBit_setBits, if_neg (by omega)]

/-- A field set for each number of a list holds the bits set for it. -/
theorem testBit_foldl_setBits_of_mem (v : Nat → Nat) {l : List Nat} (w : Nat) {i k : Nat} (hk : k < 2) (hi : i ∈ l) :
    (l.foldl (fun w i => setBits w (2 * i) 2 (v i)) w).testBit (2 * i + k) = (v i).testBit k := by
  induction l generalizing w with
  | nil => cases hi
  | cons j l ih =>
    rw [List.foldl_cons]
    by_cases hl : i ∈ l
    · exact ih _ hl
    · obtain rfl | h := List.mem_cons.1 hi
      · rw [testBit_foldl_setBits_of_notMem v _ hk hl, testBit_setBits, if_pos (by omega), Nat.add_sub_cancel_left]
      · exact absurd h hl

theorem bitsOf_foldl_setBits (v : Nat → Nat) (l : List Nat) (w : Nat) {i : Nat} (hi : i ∈ l) :
    bitsOf (l.foldl (fun w i => setBits w (2 * i) 2 (v i)) w) (2 * i) 2 = v i % 4 := by
  refine Nat.eq_of_testBit_eq (fun k => ?_)
  rw [testBit_bitsOf, show 4 = 2 ^ 2 from rfl, Nat.testBit_mod_two_pow]
  by_cases hk : k < 2
  · rw [testBit_foldl_setBits_of_mem v w hk hi]
  · simp [hk]

theorem testBit_leNat (bs : List Byte) (b : Nat) : (leNat bs).testBit b = (bs.getD (b / 8) 0).toNat.testBit (b % 8) := by
  induction bs generalizing b with
  | nil => simp [leNat]
  | cons x bs ih =>
    rw [leNat, Nat.add_comm, show 256 = 2 ^ 8 from rfl, Nat.testBit_two_pow_mul_add _ x.isLt]
    split
    · next h => rw [Nat.div_eq_of_lt h, Nat.mod_eq_of_lt h]; rfl
    · next h =>
      have hdiv : b / 8 = (b - 8) / 8 + 1 := by omega
      have hmod : b % 8 = (b - 8) % 8 := by omega
      rw [ih, hdiv, hmod]
      rfl

/-- Two bits of a little-endian word lie in one of its bytes. -/
theorem bitsOf_leNat (bs : List Byte) (i : Nat) :
    bitsOf (leNat bs) (2 * i) 2 = bitsOf (bs.getD (i / 4) 0).toNat (2 * (i % 4)) 2 := by
  refine Nat.eq_of_testBit_eq (fun k => ?_)
  rw [testBit_bitsOf, testBit_bitsOf, testBit_leNat]
  by_cases hk : k < 2
  · rw [show (2 * i + k) / 8 = i / 4 by omega, show (2 * i + k) % 8 = 2 * (i % 4) + k by omega]
  · simp [hk]

theorem bitsOf_bitsOf_byte (w i : Nat) : bitsOf (bitsOf w (8 * (i / 4)) 8) (2 * (i % 4)) 2 = bitsOf w (2 * i) 2 := by
  refine Nat.eq_of_testBit_eq (fun k => ?_)
  rw [testBit_bitsOf, testBit_bitsOf, testBit_bitsOf]
  by_cases hk : k < 2
  · rw [show 8 * (i / 4) + (2 * (i % 4) + k) = 2 * i + k by omega, decide_eq_true (show 2 * (i % 4) + k < 8 by omega),
      Bool.true_and]
  · simp [hk]

theorem Memory.read_congr {m m' : Memory} {a n : Nat} (h : ∀ x, a ≤ x → x < a + n → m.get x = m'.get x) :
    m.read a n = m'.read a n :=
  List.map_congr_left (fun _ hi => h _ (Nat.le_add_right ..) (Nat.add_lt_add_left (List.mem_range.1 hi) a))

/-- Of ranges written one after another, one that meets no other is read back. -/
theorem Memory.read_foldl_write (addr : Nat → Nat) (bs : Nat → List Byte) (l : List Nat) {m : Memory} (hwf : m.wf = true)
    {i : Nat} (hi : i ∈ l)
    (hapart : ∀ j ∈ l, j ≠ i → addr i + (bs i).length ≤ addr j ∨ addr j + (bs j).length ≤ addr i) :
    (l.foldl (fun m i => m.write (addr i) (bs i)) m).read (addr i) (bs i).length = bs i := by
  induction l generalizing m with
  | nil => cases hi
  | cons j l ih =>
    rw [List.foldl_cons]
    by_cases hl : i ∈ l
    · exact ih (Memory.wf_write _ _ hwf) hl (fun j hj => hapart j (.tail _ hj))
    · obtain rfl | h := List.mem_cons.1 hi
      · rw [Memory.read_congr (m' := m.write (addr i) (bs i)), Memory.read_write _ _ hwf]
        intro x h1 h2
        refine Memory.get_foldl_write_outside _ _ _ _ (fun j hj => ?_)
        have := hapart j (.tail _ hj) (fun e => hl (e ▸ hj))
        omega
      · exact absurd h hl

theorem Memory.wf_foldl_write (addr : Nat → Nat) (bs : Nat → List Byte) (l : List Nat) {m : Memory} (hwf : m.wf = true) :
    (l.foldl (fun m i => m.write (addr i) (bs i)) m).wf = true :=
  Memory.wf_foldl (fun _ _ h => Memory.wf_write _ _ h) l hwf

/-- What an accumulator holds after an instruction on the active lanes. -/
theorem VaneEnv.accs_acc (e : VaneEnv) (f : Nat → Quern → Quern × Nat) {i : Nat} {q : Quern} (hq : e.k.acc[i]? = some q)
    (hi : i < 64) : (e.accs f).acc[i]? = some (if e.active i then (f i q).1 else q) := by
  have hzip : (e.k.acc.zip (List.range 64))[i]? = some (q, i) := by
    rw [List.getElem?_zip_eq_some]
    exact ⟨hq, by rw [List.getElem?_range hi]⟩
  simp only [VaneEnv.accs, VaneRank.flag, List.getElem?_map, hzip, Option.map_some]
  split <;> rfl

theorem VaneEnv.accs_congr (e : VaneEnv) {f g : Nat → Quern → Quern × Nat}
    (h : ∀ i, i < 64 → e.active i = true → f i = g i) : e.accs f = e.accs g := by
  have hl : (e.k.acc.zip (List.range 64)).map (fun x => if e.active x.2 then f x.2 x.1 else (x.1, 0))
      = (e.k.acc.zip (List.range 64)).map (fun x => if e.active x.2 then g x.2 x.1 else (x.1, 0)) := by
    refine List.map_congr_left (fun x hx => ?_)
    split
    · next ha => rw [h x.2 (List.mem_range.1 (List.of_mem_zip hx).2) ha]
    · rfl
  simp only [VaneEnv.accs, hl]

theorem VaneEnv.anchor_eq {e : VaneEnv} (h0 : -512 ≤ (BitVec.ofNat 64 (e.k.sr e.i.c)).toInt)
    (h1 : (BitVec.ofNat 64 (e.k.sr e.i.c)).toInt ≤ 511) : e.anchor = some (BitVec.ofNat 64 (e.k.sr e.i.c)).toInt := by
  simp [VaneEnv.anchor, signedOf_eq_toInt, h0, h1]

theorem VaneEnv.q128At_eq (e : VaneEnv) (i : Nat) : e.q128At i
    = ((BitVec.ofNat 64 (e.k.sr e.i.a) + (BitVec.ofNat 32 e.i.imm).signExtend 64).toNat + 16 * i) % 2 ^ 64 := by
  rw [VaneEnv.q128At, e.base_eq]

/-- The checks of QLD and QST pass (R184). -/
theorem VaneEnv.q128Check_none {e : VaneEnv} (htag : e.sb % 16 = 0 ∧ e.sb + 16 ≤ 0x200000)
    (hat : ∀ i, i < 64 → e.active i = true → e.q128At i % 16 = 0 ∧ e.q128At i + 16 ≤ 0x200000) : e.q128Check = none := by
  have hcheck : sramCheck (e.sb :: e.lanes.map e.q128At) 16 = none := by
    refine sramCheck_none (fun a ha => ?_)
    obtain rfl | ha := List.mem_cons.1 ha
    · exact htag
    · obtain ⟨i, hi, rfl⟩ := List.mem_map.1 ha
      exact hat i (VaneEnv.mem_lanes.1 hi).1 (VaneEnv.mem_lanes.1 hi).2
  rw [VaneEnv.q128Check, hcheck, ite_self]

theorem VaneEnv.qldBody_eq {e : VaneEnv} (hno : e.run.ranks.all (fun k => k.transfers.isEmpty) = true) (hne : e.lanes ≠ [])
    (hcheck : e.q128Check = none) (htag : e.s.sramPoisoned e.k.tile e.sb 16 = false)
    (hclean : ∀ i, i < 64 → e.active i = true → e.s.sramPoisoned e.k.tile (e.q128At i) 16 = false) :
    qldBody e = e.done (e.accs (fun i _ => (quernOf (leNat (e.s.readSram e.k.tile (e.q128At i) 16))
      (bitsOf (leNat (e.s.readSram e.k.tile e.sb 16)) (2 * i) 2), 0))) := by
  have hany : e.lanes.any (fun i => e.s.sramPoisoned e.k.tile (e.q128At i) 16) = false :=
    List.any_eq_false.2 (fun i hi => by simp [hclean i (VaneEnv.mem_lanes.1 hi).1 (VaneEnv.mem_lanes.1 hi).2])
  have hemp : e.lanes.isEmpty = false := by simpa using hne
  simp only [qldBody, hemp, hcheck, htag, hany, Bool.or_self, if_neg Bool.false_ne_true, VaneEnv.load_eq hno,
    foldl_readSram_eq, VaneEnv.done]
  refine congrArg _ (congrArg _ (e.accs_congr (fun i hi ha => ?_)))
  rw [Tab.get, Tab.at?_foldl_set, if_pos (VaneEnv.mem_lanes.2 ⟨hi, ha⟩)]
  rfl

/-- The tag word a QST leaves: the word there with the tags of the active lanes set. -/
def VaneEnv.qstTags (e : VaneEnv) (old : Nat) : Nat :=
  e.lanes.foldl (fun w i => setBits w (2 * i) 2 (getAt Quern.zero e.k.acc i).q128.2) old

/-- The bytes of the tag word that hold an active lane's tag. -/
def VaneEnv.tagBytes (e : VaneEnv) : List Nat := (List.range 16).filter (fun j => e.lanes.any (fun i => i / 4 = j))

/-- The SRAM after the accumulators of the active lanes are put. -/
def VaneEnv.qstSram (e : VaneEnv) : Memory :=
  e.lanes.foldl (fun m i => m.write (e.k.tile * 0x400000 + e.q128At i) (leBytes 16 (getAt Quern.zero e.k.acc i).q128.1))
    e.s.mem.sram

/-- How many active lanes have overflowed. -/
def VaneEnv.overflows (e : VaneEnv) : Nat := (e.lanes.filter (fun i => (getAt Quern.zero e.k.acc i).overflowed)).length

theorem VaneEnv.qstBody_eq {e : VaneEnv} (hno : e.run.ranks.all (fun k => k.transfers.isEmpty) = true) (hne : e.lanes ≠ [])
    (hcheck : e.q128Check = none)
    (hovf : e.o.sluice = 0 ∨ ∀ i, e.active i = true → (getAt Quern.zero e.k.acc i).overflowed = false) :
    ∃ old p, qstBody e = .ok { e.s with mem := { e.s.mem with
      sram := e.tagBytes.foldl (fun m j => m.write (e.k.tile * 0x400000 + (e.sb + j))
        [BitVec.ofNat 8 (bitsOf (e.qstTags old) (8 * j) 8)]) e.qstSram, sramPoison := p } }
      { e.run with ovf := e.run.ovf + e.overflows } := by
  have hemp : e.lanes.isEmpty = false := by simpa using hne
  have hgo : (e.overflows ≠ 0 && e.o.sluice ≠ 0) = false := by
    rcases hovf with h | h
    · simp [h]
    · have : e.lanes.filter (fun i => (getAt Quern.zero e.k.acc i).overflowed) = [] :=
        List.filter_eq_nil_iff.2 (fun i hi => by simp [h i (VaneEnv.mem_lanes.1 hi).2])
      simp [VaneEnv.overflows, this]
  obtain ⟨p1, h1⟩ := e.s.foldl_putSram_eq e.k.tile e.q128At
    (fun i => leBytes 16 (getAt Quern.zero e.k.acc i).q128.1) e.lanes
  rw [VaneEnv.overflows] at hgo
  simp only [qstBody, hemp, hcheck, hgo, if_neg Bool.false_ne_true, VaneEnv.foldl_store_eq hno, h1]
  obtain ⟨p2, h2⟩ := State.foldl_putSram_eq { e.s with mem := { e.s.mem with sram := e.qstSram, sramPoison := p1 } }
    e.k.tile (e.sb + ·) (fun j => [BitVec.ofNat 8 (bitsOf (e.qstTags (leNat
      (State.readSram { e.s with mem := { e.s.mem with sram := e.qstSram, sramPoison := p1 } } e.k.tile e.sb 16))) (8 * j) 8)])
    e.tagBytes
  exact ⟨_, p2, congrArg (VaneRes.ok · _) h2⟩

/-- An active lane's tag lies in one of the bytes a QST writes. -/
theorem VaneEnv.mem_tagBytes {e : VaneEnv} {i : Nat} (hi : i < 64) (ha : e.active i = true) : i / 4 ∈ e.tagBytes := by
  rw [VaneEnv.tagBytes, List.mem_filter, List.mem_range, List.any_eq_true]
  exact ⟨by omega, i, VaneEnv.mem_lanes.2 ⟨hi, ha⟩, by simp⟩

theorem VaneEnv.tagBytes_lt {e : VaneEnv} {j : Nat} (hj : j ∈ e.tagBytes) : j < 16 :=
  List.mem_range.1 (List.mem_filter.1 hj).1

/-- The SRAM a QST leaves, with `old` for the tag word there before. -/
def VaneEnv.qstMem (e : VaneEnv) (old : Nat) : Memory :=
  e.tagBytes.foldl (fun m j => m.write (e.k.tile * 0x400000 + (e.sb + j))
    [BitVec.ofNat 8 (bitsOf (e.qstTags old) (8 * j) 8)]) e.qstSram

section Stored

variable {e : VaneEnv} (hwf : e.s.mem.sram.wf = true) (old : Nat)

include hwf

theorem VaneEnv.qstSram_wf : e.qstSram.wf = true := Memory.wf_foldl_write _ _ _ hwf

/-- The tag of an active lane is read back. -/
theorem VaneEnv.tag_qstMem {i : Nat} (hi : i < 64) (ha : e.active i = true) :
    bitsOf (leNat ((e.qstMem old).read (e.k.tile * 0x400000 + e.sb) 16)) (2 * i) 2
      = (getAt Quern.zero e.k.acc i).q128.2 % 4 := by
  have hread := Memory.read_foldl_write (fun j => e.k.tile * 0x400000 + (e.sb + j))
    (fun j => [BitVec.ofNat 8 (bitsOf (e.qstTags old) (8 * j) 8)]) e.tagBytes (VaneEnv.qstSram_wf hwf)
    (VaneEnv.mem_tagBytes hi ha) (fun j _ hj => by simp only [List.length_singleton]; omega)
  have hbyte : (e.qstMem old).get (e.k.tile * 0x400000 + e.sb + i / 4)
      = BitVec.ofNat 8 (bitsOf (e.qstTags old) (8 * (i / 4)) 8) := by
    simpa [Memory.read, VaneEnv.qstMem, Nat.add_assoc] using hread
  have hlt : bitsOf (e.qstTags old) (8 * (i / 4)) 8 < 2 ^ 8 := Nat.mod_lt _ (by decide)
  have hget : ((e.qstMem old).read (e.k.tile * 0x400000 + e.sb) 16).getD (i / 4) 0
      = BitVec.ofNat 8 (bitsOf (e.qstTags old) (8 * (i / 4)) 8) := by
    rw [← hbyte, Memory.read, List.getD_eq_getElem?_getD, List.getElem?_map, List.getElem?_range (by omega)]
    rfl
  rw [bitsOf_leNat, hget, BitVec.toNat_ofNat, Nat.mod_eq_of_lt hlt, bitsOf_bitsOf_byte]
  exact bitsOf_foldl_setBits (fun i => (getAt Quern.zero e.k.acc i).q128.2) e.lanes old (VaneEnv.mem_lanes.2 ⟨hi, ha⟩)

/-- The integer of an active lane whose place meets no other place written is read back. -/
theorem VaneEnv.read_qstMem {i : Nat} (hi : i < 64) (ha : e.active i = true)
    (htag : e.q128At i + 16 ≤ e.sb ∨ e.sb + 16 ≤ e.q128At i)
    (hlane : ∀ j, j < 64 → e.active j = true → j ≠ i → e.q128At i + 16 ≤ e.q128At j ∨ e.q128At j + 16 ≤ e.q128At i) :
    (e.qstMem old).read (e.k.tile * 0x400000 + e.q128At i) 16 = leBytes 16 (getAt Quern.zero e.k.acc i).q128.1 := by
  have hread := Memory.read_foldl_write (fun i => e.k.tile * 0x400000 + e.q128At i)
    (fun i => leBytes 16 (getAt Quern.zero e.k.acc i).q128.1) e.lanes hwf (VaneEnv.mem_lanes.2 ⟨hi, ha⟩)
    (fun j hj hne => by
      obtain ⟨hj, haj⟩ := VaneEnv.mem_lanes.1 hj
      have := hlane j hj haj hne
      simp only [length_leBytes]
      omega)
  rw [length_leBytes] at hread
  rw [← hread]
  refine Memory.read_congr (fun x h0 h1 => Memory.get_foldl_write_outside (fun j => e.k.tile * 0x400000 + (e.sb + j)) _ _ _
    (fun j hj => ?_))
  have := VaneEnv.tagBytes_lt hj
  simp only [List.length_singleton]
  omega

end Stored

theorem qmacBody_eq {e : VaneEnv} {a : Int} (h : e.anchor = some a) : qmacBody e = e.done (e.accs (fun i q =>
    (q.add (termOf a ((f32 (e.va i)).mul (f32 (e.vb i))).1), ((f32 (e.va i)).mul (f32 (e.vb i))).2
      ||| (q.add (termOf a ((f32 (e.va i)).mul (f32 (e.vb i))).1)).flags ||| nanIn [f32 (e.va i), f32 (e.vb i)]))) := by
  rw [qmacBody, h]

theorem qaddvBody_eq {e : VaneEnv} {a : Int} (h : e.anchor = some a) : qaddvBody e = e.done (e.accs (fun i q =>
    (q.add (termOf a (f32 (e.va i))), (q.add (termOf a (f32 (e.va i)))).flags ||| nanIn [f32 (e.va i)]))) := by
  rw [qaddvBody, h]

/-- The sum of the active lanes' accumulators (R183). -/
def VaneEnv.quernSum (e : VaneEnv) : Quern :=
  e.lanes.foldl (fun q i => q.add (getAt Quern.zero e.k.acc i)) Quern.zero

theorem qsumBody_eq {e : VaneEnv} (h : e.active 0 = true) : qsumBody e
    = e.done (e.accs (fun i _ => if i = 0 then (e.quernSum, e.quernSum.flags) else (Quern.zero, 0))) := by
  rw [qsumBody, h]
  rfl

/-- Settles O33: QLD and QST move accumulators lane by lane, and a QST's tag bytes come after its integers. -/
theorem vaneQuernsTakeEffect : Obligations.VaneQuernsTakeEffect := by
  intro s op r e h hok hpc hno anchor base at_ tagAt acc inside
  obtain ⟨rfl, -, -, -, -, -⟩ := vaneEnv_issuedIn h
  have hat (i : Nat) : e.q128At i = at_ i := e.q128At_eq i
  have hcheck (hin : inside) : e.q128Check = none := by
    obtain ⟨htag, hend, hlanes⟩ := hin
    exact VaneEnv.q128Check_none ⟨htag, hend⟩ (fun i hi ha => by rw [hat]; exact hlanes i hi ha)
  have hnone (hl : e.lanes = []) : e.lanes.isEmpty = true := by simp [hl]
  refine ⟨(vaneExec_done h hok hpc · rfl),
    fun hop h0 h1 => ⟨_, vaneExec_done h hok hpc hop (qmacBody_eq (VaneEnv.anchor_eq h0 h1)), rfl, rfl, rfl,
      fun i q hq hi => e.accs_acc _ hq hi⟩,
    fun hop h0 h1 => ⟨_, vaneExec_done h hok hpc hop (qaddvBody_eq (VaneEnv.anchor_eq h0 h1)), rfl, rfl, rfl,
      fun i q hq hi => e.accs_acc _ hq hi⟩,
    fun hop h0 hlen => ⟨_, vaneExec_done h hok hpc hop (qsumBody_eq h0), ?sum, fun i hi hi' => ?others⟩,
    fun hop hl => vaneExec_done h hok hpc hop ?qld0, fun hop hne hin htag hclean => vaneExec_done h hok hpc hop ?qld,
    fun hop hl => vaneExec_done h hok hpc hop ?qst0, fun hop hwf hne hin hovf => ?qst⟩
  case sum =>
    rw [e.accs_acc _ (List.getElem?_eq_getElem (show 0 < e.k.acc.length by omega)) (by decide), h0]
    rfl
  case others =>
    have hq : e.k.acc[i]? = some (acc i) := by
      have := List.getElem?_eq_getElem (show i < e.k.acc.length by omega)
      simp [acc, getAt, this]
    rw [e.accs_acc _ hq hi']
    simp only [if_neg (Nat.ne_of_gt hi)]
  case qld0 => rw [qldBody, if_pos (hnone hl)]
  case qst0 => rw [qstBody, if_pos (hnone hl)]
  case qld =>
    rw [VaneEnv.qldBody_eq hno hne (hcheck hin) htag (fun i hi ha => by rw [hat]; exact hclean i hi ha)]
    simp only [hat]
    rfl
  case qst =>
    obtain ⟨-, hsram, -⟩ := (State.memWf_iff e.s).1 hwf
    obtain ⟨old, p, hbody⟩ := VaneEnv.qstBody_eq hno hne (hcheck hin) hovf
    refine ⟨_, _, vaneExec_ok h hok hpc hop hbody, Tab.at?_set_self .., issued_rank_setPc h _, rfl,
      fun i ha hi htag hlane => ?_, fun i ha hi => VaneEnv.tag_qstMem hsram old hi ha, rfl, rfl⟩
    rw [← hat] at htag ⊢
    exact VaneEnv.read_qstMem hsram old hi ha htag (fun j hj haj hne => by rw [hat, hat]; exact hlane j hj haj hne)

end Sys2Proof.Machine
end

section
/-! Transfers of a Vane rank (R176 to R181). -/

namespace Sys2Proof.Machine

@[simp] theorem State.findErrors_of_ecc_nil {ext : Ext} (h : ext.ecc = []) (s : State) : s.findErrors ext = s := by
  rw [State.findErrors, h]; rfl

/-- A transfer as a rank issues it, under the next number of its run. -/
def VaneEnv.issued (e : VaneEnv) (t : Transfer) : VaneRun :=
  { e.put { e.k with transfers := e.k.transfers ++ [{ t with id := e.run.nextTransfer, pc := e.k.pc }] } with
    nextTransfer := e.run.nextTransfer + 1 }

/-- An instruction that issues a transfer waits while 16 are outstanding (R181). -/
theorem vaneExec_transfer {s : State} {op r c : Nat} {e : VaneEnv} {body : VaneEnv → VaneRes} (h : s.vaneEnv op r = some e)
    (hok : e.i.ok = true) (hpc : e.k.pc < 8191) (hop : e.i.op = c) {t : Transfer} (hbody : body e = e.issue t) :
    (16 ≤ e.k.transfers.length → Host.Outcome.next (vaneExec s op r c body) = (.next s : Out))
    ∧ (e.k.transfers.length < 16 → ∃ (u : State) (run : VaneRun),
        Host.Outcome.next (vaneExec s op r c body) = (.next u : Out) ∧ u.eng.runs.at? op = some run
          ∧ run.ranks[r]? = some { e.k with
              transfers := e.k.transfers ++ [{ t with id := e.run.nextTransfer, pc := e.k.pc }], pc := e.k.pc + 1 }
          ∧ run.nextTransfer = e.run.nextTransfer + 1 ∧ u.mem = s.mem) := by
  refine ⟨fun hfull => ?_, fun hroom => ?_⟩
  · rw [vaneExec_issue h hop hok, hbody, VaneEnv.issue, if_pos hfull, vaneApply_wait hpc]
  · obtain ⟨hs, -, rfl, -, -, hrank⟩ := vaneEnv_issuedIn h
    have hissue : body e = .ok e.s (e.issued t) := by rw [hbody, VaneEnv.issue, if_neg (by omega)]; rfl
    refine ⟨_, _, vaneExec_ok h hok hpc hop hissue, Tab.at?_set_self .., e.rank_setPc hrank _ _, rfl, ?_⟩
    rw [State.vaneCommit_mem, hs]

/-- What a command about a transfer of a rank finds, where none outlived its run. -/
theorem execTransferDone_eq {s : State} {op rank id : Nat} {ext : Ext} {o : Op} {r : VaneRun} {k : VaneRank} {t : Transfer}
    (hecc : ext.ecc = []) (horph : s.eng.orphans = []) (hrun : s.eng.runs.at? op = some r) (hop : s.op? op = some o)
    (hrank : r.ranks[rank]? = some k) (ht : k.transfers.find? (fun t => t.id = id) = some t) :
    execTransferDone op rank id ext s =
      if t.kind = 2 then .next (if t.landed then s.dropTransfer op rank id else s)
      else
        if !s.inLineOrder (s.agent op o (dieOfTile k.tile) (k.tile + 1)) op rank t then .next s
        else match s.moveTransfer (s.agent op o (dieOfTile k.tile) (k.tile + 1)) ext k.tile t with
          | .ok s1 => .next (s1.dropTransfer op rank id)
          | .bad s1 st _ =>
            .next (((if st = Status.sluiceAborted then s1 else s).dropTransfer op rank id).vaneRaise op rank t.pc st 0)
          | .stall => .next s := by
  simp only [execTransferDone, State.findErrors_of_ecc_nil hecc, horph, List.find?_nil, hrun, hop, hrank, ht] <;> rfl

theorem State.transferBytes_of_defined {t : Transfer} (h : t.undef = []) (s : State) (bs : List Byte) :
    s.transferBytes t bs = (bs, s) := by
  rw [State.transferBytes, h]; rfl

theorem State.readSram_putSram {s : State} (hwf : s.memWf = true) (tile off : Nat) (bs : List Byte) :
    (s.putSram tile off bs).readSram tile off bs.length = bs :=
  Memory.read_write _ _ ((State.memWf_iff s).1 hwf).2.1

theorem VaneEnv.moveOk_of {e : VaneEnv} (ha : e.sa < 2 ^ 55) (hc : 1 ≤ e.scv) (hbc : e.sb + e.scv ≤ 0x200000) :
    e.moveOk = true := by
  have : e.scv ≤ 0x200000 := by omega
  simp only [VaneEnv.moveOk, ha, hc, hbc, this, decide_true, Bool.and_self]

theorem moveBody_eq {e : VaneEnv} {put : Bool} (hok : e.moveOk = true)
    (hclean : (put && e.s.sramPoisoned e.k.tile e.sb e.scv) = false) : moveBody put e = e.issue
      { id := 0, kind := if put then 1 else 0, va := e.sa, off := e.sb, len := e.scv, dest := 0, doff := 0, counter := 0,
        inc := false, data := if put then e.s.readSram e.k.tile e.sb e.scv else [], undef := [], landed := false, pc := 0 } := by
  rw [moveBody, hok, hclean]
  rfl

theorem msendBody_eq {e : VaneEnv} (hdest : e.sa < e.run.tiles.length) (hn : 1 ≤ e.k.sr e.i.d)
    (hsrc : e.scv + e.k.sr e.i.d ≤ 0x200000) (hdst : e.sb + e.k.sr e.i.d ≤ 0x200000)
    (hclean : e.s.sramPoisoned e.k.tile e.scv (e.k.sr e.i.d) = false) : msendBody e = e.issue
      { id := 0, kind := 2, va := 0, off := e.scv, len := e.k.sr e.i.d, dest := e.sa, doff := e.sb,
        counter := e.i.imm % 16, inc := e.i.imm.testBit 4, data := e.s.readSram e.k.tile e.scv (e.k.sr e.i.d), undef := [],
        landed := false, pc := 0 } := by
  have hbad : (decide (e.run.tiles.length ≤ e.sa) || decide (e.k.sr e.i.d = 0) || decide (0x200000 < e.k.sr e.i.d)
      || decide (0x200000 < e.scv + e.k.sr e.i.d) || decide (0x200000 < e.sb + e.k.sr e.i.d)) = false := by
    simp only [Bool.or_eq_false_iff, decide_eq_false_iff_not]
    omega
  rw [msendBody, hbad, hclean]
  rfl

/-- Settles O34: each body issues its transfer; what has landed or completed is found where no transfer outlived its run. -/
theorem vaneTransfersTakeEffect : Obligations.VaneTransfersTakeEffect := by
  refine ⟨fun s op r e h hok hpc => ?issue, fun s op rank id ext o r k t hecc horph hrun hop hrank ht => ?done,
    fun s op rank id r k t hwf horph hrun hrank hundef ht horder => ?land⟩
  case issue =>
    obtain ⟨rfl, -, -, -, -, -⟩ := vaneEnv_issuedIn h
    exact ⟨fun hop ha hc hbc => vaneExec_transfer h hok hpc hop (moveBody_eq (VaneEnv.moveOk_of ha hc hbc) rfl),
      fun hop ha hc hbc hclean => vaneExec_transfer h hok hpc hop (moveBody_eq (VaneEnv.moveOk_of ha hc hbc) hclean),
      fun hop ha hn hcn hbn hclean => vaneExec_transfer h hok hpc hop (msendBody_eq ha hn hcn hbn hclean)⟩
  case done =>
    refine ⟨fun hk hl => ?_, fun hk ho => ?_, fun hk ho s1 hs1 => ?_, fun hk ho s1 st x hs1 => ?_⟩ <;>
      refine (execTransferDone_eq hecc horph hrun hop hrank ht).trans ?_
    · rw [if_pos hk, if_pos hl]
    · rw [if_neg hk, ho]; rfl
    · rw [if_neg hk, ho, hs1]; rfl
    · rw [if_neg hk, ho, hs1]; rfl
  case land =>
    have hnone (p : Orphan → Bool) : s.eng.orphans.find? p = none := by rw [horph]; rfl
    have hexec : exec (.msendLanded op rank id) s = .next { s.putSram (getAt 0 r.tiles t.dest) t.doff t.data with eng :=
        { s.eng with runs := s.eng.runs.set op (if t.inc then (r.landed rank id).bump t.dest t.counter else r.landed rank id) } } := by
      show execMsendLanded op rank id s = _
      simp only [execMsendLanded, hnone, hrun, hrank, Option.bind_some, ht, horder, State.transferBytes_of_defined hundef]
      rfl
    exact ⟨_, hexec, State.readSram_putSram hwf _ _ _, fun x hx => Memory.get_write_outside _ _ (by omega),
      Tab.at?_set_self .., rfl, rfl⟩

end Sys2Proof.Machine
end


section
/-! The sum of a chunk over a group's members (R68, R80, R245): what is present in it, and what its cells are. -/

namespace Sys2Proof.Machine

theorem testBit_full (n i : Nat) : (2 ^ n - 1).testBit i = decide (i < n) := Nat.testBit_two_pow_sub_one n i

theorem testBit_spanMask (lo m i : Nat) : (spanMask lo m).testBit i = decide (lo ≤ i ∧ i < lo + m) := by
  rw [spanMask, Nat.mul_comm, Nat.testBit_two_pow_mul, testBit_full]
  by_cases h : lo ≤ i
  · simp [h, show i - lo < m ↔ i < lo + m by omega]
  · simp [h]

/-- The masks of a list gathered. -/
theorem testBit_gathered (l : List Partial) (m i : Nat) :
    (l.foldl (fun m p => m ||| p.mask) m).testBit i = (m.testBit i || l.any (fun p => p.mask.testBit i)) :=
  testBit_foldl_or l Partial.mask m i

theorem le_two_pow_treeLevels (n : Nat) : n ≤ 2 ^ treeLevels n := by
  unfold treeLevels
  split
  · next h => exact h
  · next h =>
    have := Nat.lt_log2_self (n := n - 1)
    omega

section Present

variable {r : RedRun} {c n : Nat}

/-- A subtree whose members' contributions are all present has a sum. -/
theorem RedRun.node_isSome (h : ∀ i, i < n → ∃ p, p ∈ r.parts ∧ p.chunk = c ∧ p.mask = 2 ^ i) (k lo : Nat) (hlo : lo < n) :
    (r.node c n k lo).isSome = true := by
  induction k generalizing lo with
  | zero =>
    obtain ⟨p, hp, hc, hm⟩ := h lo hlo
    rw [RedRun.node, Option.isSome_map, List.find?_isSome]
    exact ⟨p, hp, by simp [hc, hm]⟩
  | succ k ih =>
    rw [RedRun.node]
    split
    · rfl
    · split
      · exact ih lo hlo
      · next hhi =>
        obtain ⟨a, ha⟩ := Option.isSome_iff_exists.1 (ih lo hlo)
        obtain ⟨b, hb⟩ := Option.isSome_iff_exists.1 (ih (lo + 2 ^ k) (Nat.lt_of_not_le hhi))
        rw [ha, hb]
        rfl

/-- A subtree with a member missing from every part has none. -/
theorem RedRun.node_eq_none {i : Nat} (h : ∀ p, p ∈ r.parts → p.chunk = c → p.mask.testBit i = false) (hi : i < n)
    (k lo : Nat) (h0 : lo ≤ i) (h1 : i < lo + 2 ^ k) : r.node c n k lo = none := by
  have hnone (m : Nat) (hm : m.testBit i = true) : r.parts.find? (fun p => p.chunk = c && p.mask = m) = none := by
    refine List.find?_eq_none.2 (fun p hp hpm => ?_)
    simp only [Bool.and_eq_true, decide_eq_true_eq] at hpm
    obtain ⟨hc, rfl⟩ := hpm
    rw [h p hp hc] at hm
    exact absurd hm Bool.false_ne_true
  induction k generalizing lo with
  | zero =>
    obtain rfl : lo = i := by rw [Nat.pow_zero] at h1; omega
    rw [RedRun.node, hnone _ Nat.testBit_two_pow_self, Option.map_none]
  | succ k ih =>
    have hspan : (spanMask lo (min (2 ^ (k + 1)) (n - lo))).testBit i = true := by
      rw [testBit_spanMask, decide_eq_true_eq]
      omega
    simp only [RedRun.node, hnone _ hspan]
    split
    · exact ih lo h0 (by omega)
    · by_cases hhalf : i < lo + 2 ^ k
      · rw [ih lo h0 hhalf]
      · rw [ih (lo + 2 ^ k) (Nat.le_of_not_lt hhalf) (by rw [Nat.pow_succ] at h1; omega)]
        split <;> simp_all

/-- The sum in whatever order exists where every member's contribution is present. -/
theorem RedRun.gather_isSome (hn : 0 < n) (h : ∀ i, i < n → ∃ p, p ∈ r.parts ∧ p.chunk = c ∧ p.mask = 2 ^ i) :
    (r.gather c (2 ^ n - 1)).isSome = true := by
  have hsub (i : Nat) (hi : i < n) : 2 ^ i &&& (2 ^ n - 1) = 2 ^ i := by
    refine Nat.eq_of_testBit_eq (fun j => ?_)
    rw [Nat.testBit_and, testBit_full, Nat.testBit_two_pow]
    by_cases hj : i = j
    · simp [hj, hj ▸ hi]
    · simp [hj]
  have hmem (i : Nat) (hi : i < n) : ∃ p ∈ r.parts.filter (fun p => p.chunk = c && p.mask &&& (2 ^ n - 1) = p.mask),
      p.mask = 2 ^ i := by
    obtain ⟨p, hp, hc, hm⟩ := h i hi
    exact ⟨p, List.mem_filter.2 ⟨hp, by simp [hc, hm, hsub i hi]⟩, hm⟩
  have hall : (r.parts.filter (fun p => p.chunk = c && p.mask &&& (2 ^ n - 1) = p.mask)).foldl (fun m p => m ||| p.mask) 0
      = 2 ^ n - 1 := by
    refine Nat.eq_of_testBit_eq (fun i => ?_)
    rw [testBit_gathered, Nat.zero_testBit, Bool.false_or, testBit_full, Bool.eq_iff_iff, List.any_eq_true, decide_eq_true_eq]
    constructor
    · rintro ⟨p, hp, hbit⟩
      have hin := (List.mem_filter.1 hp).2
      simp only [Bool.and_eq_true, decide_eq_true_eq] at hin
      rw [← hin.2, Nat.testBit_and, testBit_full, Bool.and_eq_true, decide_eq_true_eq] at hbit
      exact hbit.2
    · intro hi
      obtain ⟨p, hp, hm⟩ := hmem i hi
      exact ⟨p, hp, by rw [hm]; exact Nat.testBit_two_pow_self⟩
  obtain ⟨p, hp, -⟩ := hmem 0 hn
  simp only [RedRun.gather]
  split
  · next hl => rw [hl] at hp; cases hp
  · rw [hall]; simp

/-- The sum in whatever order does not exist with a member missing. -/
theorem RedRun.gather_eq_none {i : Nat} (h : ∀ p, p ∈ r.parts → p.chunk = c → p.mask.testBit i = false) (hi : i < n) :
    r.gather c (2 ^ n - 1) = none := by
  have hne : (r.parts.filter (fun p => p.chunk = c && p.mask &&& (2 ^ n - 1) = p.mask)).foldl (fun m p => m ||| p.mask) 0
      ≠ 2 ^ n - 1 := by
    intro heq
    have hbit := congrArg (Nat.testBit · i) heq
    simp only [testBit_gathered, testBit_full, hi, Nat.zero_testBit, Bool.false_or, decide_true, List.any_eq_true] at hbit
    obtain ⟨p, hp, hbit⟩ := hbit
    obtain ⟨hp, hin⟩ := List.mem_filter.1 hp
    simp only [Bool.and_eq_true, decide_eq_true_eq] at hin
    rw [h p hp hin.1] at hbit
    exact absurd hbit Bool.false_ne_true
  simp only [RedRun.gather]
  split
  · rfl
  · rw [if_pos hne]

end Present

theorem f32Canon_of_nan {w : Nat} (h : (f32 (f32Canon w)).isNan = true) : f32Canon w = 0x7FC00000 := by
  unfold f32Canon at h ⊢
  by_cases hw : (f32 w).isNan = true
  · rw [if_pos hw]; rfl
  · rw [if_neg hw] at h; exact absurd h hw

/-- Settles O36: a part is looked up by its chunk and mask, so a member's bit decides whether the sum over it exists. -/
theorem reductionTreeAddsEveryMember : Obligations.ReductionTreeAddsEveryMember := by
  refine ⟨fun r fmt c n hn h => ?_, fun r fmt c n i hi h => ?_, fun r fmt c a b hparts => ?_,
    fun r fmt c n cells fl hfmt h v hv hnan => ?_⟩
  · unfold RedRun.total
    split
    · exact RedRun.gather_isSome hn h
    · rw [Option.isSome_map]
      exact RedRun.node_isSome h _ 0 hn
  · unfold RedRun.total
    split
    · exact RedRun.gather_eq_none h hi
    · rw [RedRun.node_eq_none h hi _ 0 (Nat.zero_le i) (by have := le_two_pow_treeLevels n; omega), Option.map_none]
  · unfold RedRun.total
    split
    · simp [RedRun.gather, hparts]
    · have hlevels : treeLevels 2 = 1 := by decide
      simp [RedRun.node, hparts, hlevels, spanMask]
  · rw [RedRun.total, if_neg hfmt, Option.map_eq_some_iff] at h
    obtain ⟨x, -, hx⟩ := h
    obtain ⟨cell, -, hcell⟩ := List.mem_map.1 ((Prod.mk.inj hx).1 ▸ hv)
    cases cell with
    | q a => cases hcell
    | f w =>
      obtain ⟨u, -, rfl⟩ := Option.map_eq_some_iff.1 (Cell.f.inj hcell)
      exact f32Canon_of_nan hnan

end Sys2Proof.Machine
end

section
/-! Ending operations (R256, R274, R386): what an end leaves of the operation, and that everything which ends work leaves
the host interface, the ended operations and what `Apart` names as they are. -/

namespace Sys2Proof.Machine

/-- A step that ends work: beside what `Apart` names it leaves the host interface and every ended operation. -/
structure EndsWork (s t : State) : Prop where
  apart : Apart s t
  host : t.host = s.host
  ended : ∀ j o, s.op? j = some o → o.phase = .ended → t.op? j = some o

@[refl] theorem EndsWork.refl (s : State) : EndsWork s s := ⟨.refl s, rfl, fun _ _ h _ => h⟩

theorem EndsWork.trans {s t u : State} (h : EndsWork s t) (k : EndsWork t u) : EndsWork s u :=
  ⟨h.apart.trans k.apart, k.host.trans h.host, fun j o ho he => k.ended j o (h.ended j o ho he) he⟩

theorem EndsWork.foldl {β : Type} {g : State → β → State} (hg : ∀ s b, EndsWork s (g s b)) (l : List β) (s : State) :
    EndsWork s (l.foldl g s) := by
  induction l generalizing s with
  | nil => exact .refl s
  | cons b l ih => exact (hg s b).trans (ih _)

/-- A state with other messages sent. -/
def State.withSent (s : State) (l : List FabMsg) : State := { s with work := { s.work with sent := l } }

theorem State.send_eq (s : State) (m : FabMsg) : ∃ l, s.send m = s.withSent l := ⟨_, rfl⟩

theorem State.foldl_withSent {β : Type} {g : State → β → State} (hg : ∀ s b, ∃ l, g s b = s.withSent l) (l : List β)
    (s : State) : ∃ m, l.foldl g s = s.withSent m := by
  induction l generalizing s with
  | nil => exact ⟨s.work.sent, rfl⟩
  | cons b l ih =>
    obtain ⟨m, hm⟩ := hg s b
    obtain ⟨m', hm'⟩ := ih (g s b)
    exact ⟨m', by rw [List.foldl_cons, hm', hm]; rfl⟩

theorem State.redCancels_eq (s : State) (id : Nat) : ∃ l, s.redCancels id = s.withSent l := by
  unfold State.redCancels
  split
  · exact ⟨_, rfl⟩
  · split
    · exact ⟨_, rfl⟩
    · refine State.foldl_withSent (fun s p => ?_) _ _
      split
      · exact State.foldl_withSent (fun s _ => s.send_eq _) _ _
      · exact ⟨_, rfl⟩

theorem State.abortNotice_eq (s : State) (e : Sluice) (reason origin : Nat) : ∃ l, s.abortNotice e reason origin = s.withSent l := by
  unfold State.abortNotice
  split
  · exact ⟨_, rfl⟩
  · split
    · split
      · exact ⟨_, rfl⟩
      · exact s.send_eq _
    · exact State.foldl_withSent (fun s _ => s.send_eq _) _ _

/-- What an operation becomes when it ends. -/
def Op.endedWith (o : Op) (status detail : Nat) : Op :=
  { o with phase := .ended, status := status, detail := detail, awaitsRegrow := false }

/-- An operation that has not ended, ended. -/
theorem State.endOp_eq {s : State} {id : Nat} {o : Op} (status detail : Nat) (ho : s.op? id = some o) (hl : o.phase ≠ .ended) :
    s.endOp id status detail = ((if status = Status.success then s else s.redCancels id).modOp id
      (fun o => o.endedWith status detail)).dropRun id := by
  rw [State.endOp, ho]
  simp only [if_neg hl]
  rfl

theorem State.endOp_of_ended {s : State} {id : Nat} {o : Op} (status detail : Nat) (ho : s.op? id = some o)
    (he : o.phase = .ended) : s.endOp id status detail = s := by
  rw [State.endOp, ho]
  simp only [if_pos he]

theorem State.endOp_of_none {s : State} {id : Nat} (status detail : Nat) (ho : s.op? id = none) :
    s.endOp id status detail = s := by
  rw [State.endOp, ho]

/-- The work after an end: the operation's entry, and messages sent. -/
theorem State.endOp_work {s : State} {id : Nat} {o : Op} (status detail : Nat) (ho : s.op? id = some o) (hl : o.phase ≠ .ended) :
    ∃ l, (s.endOp id status detail).work
        = { s.work with ops := s.work.ops.modify id (fun o => o.endedWith status detail), sent := l }
      ∧ (status = Status.success → l = s.work.sent) := by
  rw [State.endOp_eq status detail ho hl]
  split
  · exact ⟨_, rfl, fun _ => rfl⟩
  · next hst =>
    obtain ⟨l, h⟩ := s.redCancels_eq id
    exact ⟨l, by rw [h]; rfl, fun h => absurd h hst⟩

theorem State.endOp_op?_self {s : State} {id : Nat} {o : Op} (status detail : Nat) (ho : s.op? id = some o)
    (hl : o.phase ≠ .ended) : (s.endOp id status detail).op? id = some (o.endedWith status detail) := by
  obtain ⟨l, h, -⟩ := State.endOp_work status detail ho hl
  rw [State.op?] at ho
  rw [State.op?, h, Tab.at?_modify_self, ho, Option.map_some]

theorem State.endOp_op?_ne {s : State} {id j : Nat} (status detail : Nat) (h : j ≠ id) :
    (s.endOp id status detail).op? j = s.op? j := by
  rcases ho : s.op? id with _ | o
  · rw [State.endOp_of_none _ _ ho]
  · by_cases hl : o.phase = .ended
    · rw [State.endOp_of_ended _ _ ho hl]
    · obtain ⟨l, hw, -⟩ := State.endOp_work status detail ho hl
      rw [State.op?, hw, Tab.at?_modify_ne _ _ h, State.op?]

@[simp] theorem State.endOp_sluices (s : State) (id status detail : Nat) :
    (s.endOp id status detail).work.sluices = s.work.sluices := by
  rcases ho : s.op? id with _ | o
  · rw [State.endOp_of_none _ _ ho]
  · by_cases hl : o.phase = .ended
    · rw [State.endOp_of_ended _ _ ho hl]
    · obtain ⟨l, hw, -⟩ := State.endOp_work status detail ho hl
      rw [hw]

@[simp] theorem State.endOp_host (s : State) (id status detail : Nat) : (s.endOp id status detail).host = s.host := by
  rcases ho : s.op? id with _ | o
  · rw [State.endOp_of_none _ _ ho]
  · by_cases hl : o.phase = .ended
    · rw [State.endOp_of_ended _ _ ho hl]
    · rw [State.endOp_eq _ _ ho hl]
      split
      · rfl
      · obtain ⟨l, h⟩ := s.redCancels_eq id
        rw [h]
        rfl

theorem endsWork_endOp (s : State) (id status detail : Nat) : EndsWork s (s.endOp id status detail) := by
  refine ⟨apart_endOp .., s.endOp_host .., fun j o ho he => ?_⟩
  by_cases hj : j = id
  · subst hj
    rw [State.endOp_of_ended _ _ ho he, ho]
  · rw [State.endOp_op?_ne _ _ hj, ho]

theorem endsWork_endOps (s : State) (ids : List Nat) (status detail : Nat) : EndsWork s (s.endOps ids status detail) :=
  EndsWork.foldl (fun _ _ => endsWork_endOp ..) _ _

@[simp] theorem State.endOps_sluices (s : State) (ids : List Nat) (status detail : Nat) :
    (s.endOps ids status detail).work.sluices = s.work.sluices := by
  induction ids generalizing s with
  | nil => rfl
  | cons i ids ih => exact (ih _).trans (s.endOp_sluices ..)

/-- An operation of a list that has not ended, ended with the list. -/
theorem State.endOps_op?_of_mem {s : State} {ids : List Nat} {id : Nat} {o : Op} (status detail : Nat) (hid : id ∈ ids)
    (ho : s.op? id = some o) (hl : o.phase ≠ .ended) :
    (s.endOps ids status detail).op? id = some (o.endedWith status detail) := by
  induction ids generalizing s with
  | nil => cases hid
  | cons i ids ih =>
    by_cases hi : id = i
    · subst hi
      exact (endsWork_endOps _ ids status detail).ended _ _ (State.endOp_op?_self _ _ ho hl) rfl
    · exact ih ((List.mem_cons.1 hid).resolve_left hi) (by rw [State.endOp_op?_ne _ _ hi, ho])

theorem Tab.mem_of_at? {α : Type} {t : Tab α} {k : Nat} {v : α} (h : t.at? k = some v) : (k, v) ∈ t := by
  induction t with
  | nil => cases h
  | cons p t ih =>
    obtain ⟨a, w⟩ := p
    rw [Tab.at?_cons] at h
    split at h
    · next ha => rw [ha, Option.some.inj h]; exact .head _
    · exact .tail _ (ih h)

theorem State.mem_liveOps {s : State} {q : Op → Bool} {id : Nat} {o : Op} (ho : s.op? id = some o) (hl : o.phase ≠ .ended)
    (hq : q o = true) : id ∈ s.liveOps q :=
  List.mem_map.2 ⟨(id, o), List.mem_filter.2 ⟨Tab.mem_of_at? ho, by simp [Op.live, hl, hq]⟩, rfl⟩

theorem endsWork_withSent (s : State) (l : List FabMsg) : EndsWork s (s.withSent l) :=
  ⟨⟨rfl, rfl, rfl, rfl, rfl, rfl, rfl, rfl, rfl, rfl⟩, rfl, fun _ _ h _ => h⟩

theorem endsWork_modSluice (s : State) (k : Nat) (g : Sluice → Sluice) : EndsWork s (s.modSluice k g) :=
  ⟨apart_modSluice .., rfl, fun _ _ h _ => h⟩

theorem endsWork_abortNotice (s : State) (e : Sluice) (reason origin : Nat) : EndsWork s (s.abortNotice e reason origin) := by
  obtain ⟨l, h⟩ := s.abortNotice_eq e reason origin
  rw [h]
  exact endsWork_withSent ..

theorem endsWork_abortSluiceWith (s : State) (tell : Bool) (k reason origin : Nat) :
    EndsWork s (s.abortSluiceWith tell k reason origin) := by
  unfold State.abortSluiceWith
  split
  · rfl
  · split
    · rfl
    · refine EndsWork.trans ?_ ((endsWork_modSluice ..).trans ((endsWork_endOps ..).trans
        ((endsWork_endOp ..).trans (endsWork_endOps ..))))
      split
      · exact endsWork_abortNotice ..
      · rfl

theorem endsWork_abortSluice (s : State) (k reason origin : Nat) : EndsWork s (s.abortSluice k reason origin) :=
  endsWork_abortSluiceWith ..

theorem endsWork_abortSluicesOf (s : State) (ids : List Nat) (reason : Nat) : EndsWork s (s.abortSluicesOf ids reason) := by
  refine EndsWork.trans (EndsWork.foldl (fun s i => ?_) _ _) (EndsWork.foldl (fun _ _ => endsWork_abortSluice ..) _ _)
  split
  · split
    · rfl
    · exact endsWork_abortSluice ..
  · rfl

theorem endsWork_abortOpened (s : State) (c : Nat) : EndsWork s (s.abortOpened c) :=
  EndsWork.foldl (fun _ _ => endsWork_abortSluice ..) _ _

theorem endsWork_conflicts (s : State) (slu off n : Nat) : EndsWork s (s.conflicts slu off n) :=
  EndsWork.foldl (fun _ _ => endsWork_abortSluice ..) _ _

/-- What a sluice's entry becomes when it aborts. -/
def Sluice.aborted (reason origin : Nat) (e : Sluice) : Sluice :=
  { e with state := .aborting, reason, origin, staged := [], spilled := [], guards := [], recorded := [] }

/-- The abort of a sluice that has neither committed nor begun to abort (R274, R275). -/
theorem State.abortSluice_eq {s : State} {k : Nat} {e : Sluice} (reason origin : Nat) (he : s.work.sluices.at? k = some e)
    (hc : e.state ≠ .committed) (ha : e.state ≠ .aborting) :
    s.abortSluice k reason origin =
      let s2 := (s.abortNotice e reason origin).modSluice k (Sluice.aborted reason origin)
      ((s2.endOps (s2.liveOps (fun o => o.sluice = k)) Status.sluiceAborted (abortDetail reason origin)).endOp e.commitOp
        Status.sluiceAborted (abortDetail reason origin)).endOps e.abortOps Status.success 0 := by
  simp only [State.abortSluice, State.abortSluiceWith, he, hc, ha, decide_false, Bool.or_self, if_neg Bool.false_ne_true]
  rfl

/-- A context marked lost once (R386): beside work that ends, its record alone changes. -/
theorem State.markLost_eq {s : State} {c : Nat} {x : Ctx} (id : Nat) (hc : s.host.ctxs.at? c = some x) (hx : x.lost = false) :
    ∃ ids, s.markLost c id = (((s.modCtx c (fun x => { x with lost := true, lossOp := id })).endOps ids Status.contextLost
      0).abortSluicesOf ids Reason.opFailed).abortOpened c := by
  rw [State.markLost, hc]
  simp only [hx, if_neg Bool.false_ne_true]
  exact ⟨_, rfl⟩

theorem markLost_ended (s : State) (c id : Nat) {j : Nat} {o : Op} (ho : s.op? j = some o) (he : o.phase = .ended) :
    (s.markLost c id).op? j = some o := by
  unfold State.markLost
  split
  · exact ho
  · split
    · exact ho
    · exact ((endsWork_endOps ..).trans ((endsWork_abortSluicesOf ..).trans (endsWork_abortOpened ..))).ended _ _ ho he

/-- Deciding the status of an operation outside a sluice. -/
theorem State.decide_of_no_sluice {s : State} {id : Nat} {o : Op} (st d : Nat) (ho : s.op? id = some o) (hl : o.phase ≠ .ended)
    (hs : o.sluice = 0) : s.decide id st d
      = if losesContext st then (s.endOp id st d).markLost o.ctx id else s.endOp id st d := by
  rw [State.decide, ho]
  simp [hl, hs]

/-- An operation that succeeds ends, in a sluice too. -/
theorem State.succeed_eq (s : State) (id : Nat) : s.succeed id = s.endOp id 0 0 := by
  rcases ho : s.op? id with _ | o
  · rw [State.endOp_of_none _ _ ho, State.succeed, State.decide, ho]
  · rw [State.succeed, State.decide, ho]
    by_cases hl : o.phase = .ended
    · rw [State.endOp_of_ended 0 0 ho hl]
      simp [hl]
    · simp [hl, Status.success, losesContext, Status.translationFault, Status.memoryError, Status.hostAccessError]

/-- An operation decided has ended with its status and detail, whatever else ends with it. -/
theorem State.decide_op?_self {s : State} {id : Nat} {o : Op} (st d : Nat) (ho : s.op? id = some o) (hl : o.phase ≠ .ended) :
    (s.decide id st d).op? id = some (o.endedWith st d) := by
  have h1 := State.endOp_op?_self st d ho hl
  rw [State.decide, ho]
  simp only [if_neg hl]
  have h2 : (if (st = Status.success || o.sluice = 0) = true then s.endOp id st d
    else (s.endOp id st d).abortSluice o.sluice (reasonOf st) 0xFFFF).op? id = some (o.endedWith st d) := by
    split
    · exact h1
    · exact (endsWork_abortSluice ..).ended _ _ h1 rfl
  split
  · exact markLost_ended _ _ _ h2 rfl
  · exact h2

/-- Settles O7: SUCCESS is an end alone; another status outside a sluice ends work beyond it only where it loses the context. -/
theorem decidingAStatusEndsTheOperation : Obligations.DecidingAStatusEndsTheOperation := by
  refine ⟨fun s id o ho hl => ?_, fun s id st d o ho hl hs hst => ⟨?_, fun hst => ?_, fun x hst hx hlost => ?_,
    (apart_decide ..).mem⟩⟩
  · rw [State.succeed_eq]
    have hapart := apart_endOp s id 0 0
    obtain ⟨l, hwork, hsent⟩ := State.endOp_work 0 0 ho hl
    refine ⟨State.endOp_op?_self 0 0 ho hl, fun j hj => State.endOp_op?_ne 0 0 hj, State.endOp_sluices .., ?_,
      State.endOp_host .., hapart.mem, hapart.xlat, ?_, hapart.tally, hapart.pending⟩
    · rw [hwork, hsent rfl]
    · rw [State.endOp_eq 0 0 ho hl]
      rfl
  · rw [State.decide_op?_self st d ho hl]
    rfl
  · rw [State.decide_of_no_sluice st d ho hl hs, hst]
    exact State.endOp_host ..
  · rw [State.decide_of_no_sluice st d ho hl hs, hst, if_pos rfl]
    obtain ⟨ids, h⟩ := State.markLost_eq (s := s.endOp id st d) id (by rw [State.endOp_host]; exact hx) hlost
    rw [h, ((endsWork_endOps ..).trans ((endsWork_abortSluicesOf ..).trans (endsWork_abortOpened ..))).host,
      State.modCtx_at?_self, State.endOp_host, hx]
    rfl

end Sys2Proof.Machine
end

section
/-! Writes within one 64-byte granule of a placed plot (R201, R211, R641). -/

namespace Sys2Proof.Machine

/-- Offsets of one granule lie side by side on one channel (R211). -/
theorem Plot.chanAddr_add (p : Plot) (o i : Nat) (h : o / 64 = (o + i) / 64) : p.chanAddr (o + i) = p.chanAddr o + i := by
  have hhi : (o + i) >>> 10 = o >>> 10 := by
    rw [Nat.shiftRight_eq_div_pow, Nat.shiftRight_eq_div_pow]
    omega
  have hhi' (n : Nat) : (o + i) >>> (10 + n) = o >>> (10 + n) := by rw [Nat.shiftRight_add, hhi, ← Nat.shiftRight_add]
  have hlow : (o + i) % 1024 = o % 1024 + i := by omega
  have hor (n x : Nat) : ((n <<< 10) ||| (x % 1024)) = n * 1024 + x % 1024 := by
    rw [← Nat.shiftLeft_add_eq_or_of_lt (by omega), Nat.shiftLeft_eq]
  simp only [Plot.chanAddr, hhi, hhi', show (o + i) >>> 20 = o >>> 20 from hhi' 10, hor]
  rw [hlow]
  omega

theorem State.plotOf_eq_of_granule (s : State) {off x : Nat} (h : off / 64 = x / 64) : s.plotOf x = s.plotOf off := by
  have hplot : x / 0x20000000 = off / 0x20000000 := by omega
  have hlt : x < 0xC000000000 ↔ off < 0xC000000000 := by omega
  simp only [State.plotOf, hplot, hlt]

/-- The channel byte of an offset in the granule of one of a placed plot. -/
theorem State.hbmKey_of_granule {s : State} {off i : Nat} {p : Plot} (hp : s.plotOf off = some p) (h : off / 64 = (off + i) / 64) :
    s.hbmKey (off + i) = some (p.chanAddr (off % 0x20000000) + i) := by
  have hmod : (off + i) % 0x20000000 = off % 0x20000000 + i := by omega
  rw [State.hbmKey, s.plotOf_eq_of_granule h, hp, Option.map_some, hmod, p.chanAddr_add _ _ (by omega)]

/-- A granule's poison is kept by its channel address (R639). -/
theorem Plot.chanAddr_granule (p : Plot) {o x : Nat} (h : o / 64 = x / 64) : p.chanAddr x / 64 = p.chanAddr o / 64 := by
  have h0 := p.chanAddr_add (o / 64 * 64) (o % 64) (by omega)
  have h1 := p.chanAddr_add (o / 64 * 64) (x % 64) (by omega)
  rw [show o / 64 * 64 + o % 64 = o by omega] at h0
  rw [show o / 64 * 64 + x % 64 = x by omega] at h1
  have hal : p.chanAddr (o / 64 * 64) % 64 = 0 := by
    have hor (n x : Nat) : ((n <<< 10) ||| (x % 1024)) = n * 1024 + x % 1024 := by
      rw [← Nat.shiftLeft_add_eq_or_of_lt (by omega), Nat.shiftLeft_eq]
    rw [Plot.chanAddr, hor]
    omega
  omega

theorem cutGranules_of_granule {off : Nat} {bytes : List Byte} (hn : 0 < bytes.length)
    (h : off / 64 = (off + bytes.length - 1) / 64) : cutGranules off bytes = [(off, bytes)] := by
  have hgran : granules off bytes.length = [off / 64 * 64] := by
    rw [granules, if_neg (by omega), ← h, Nat.sub_self]
    rfl
  have hmax : max (off / 64 * 64) off = off := by omega
  have htake : min (off / 64 * 64 + 64) (off + bytes.length) - off = bytes.length := by omega
  simp only [cutGranules, hgran, List.map_cons, List.map_nil, hmax, Nat.sub_self, List.drop_zero, htake, List.take_length]

/-- What a write within a granule leaves of memory: the granule put, and the tables of copies and of moving pages. -/
theorem State.landWrite_of_granule {s : State} {off : Nat} {bytes : List Byte} {p : Plot} (slu : Nat)
    (hp : s.plotOf off = some p) (hn : 0 < bytes.length) (h : off / 64 = (off + bytes.length - 1) / 64)
    (hlog : ∀ q, s.mem.ponds.at? p.owner = some q → (s.fn (q.inst + 1)).bitmap = none) :
    ∃ snoop ponds, (s.landWrite slu off bytes).mem = { (s.putGranule off bytes).mem with snoop, ponds } := by
  have hgo : (bytes.isEmpty || (s.plotOf off).isNone) = false := by
    rw [hp, List.isEmpty_eq_false_iff.2 (List.length_pos_iff.1 hn)]
    rfl
  have hput : ∀ snoop, ∃ u : State, State.putGranule { s with mem := { s.mem with snoop } } off bytes = u
      ∧ u.mem = { (s.putGranule off bytes).mem with snoop } ∧ u.plotOf off = some p ∧ u.host = s.host := by
    intro snoop
    refine ⟨_, rfl, ?_⟩
    have hp' : State.plotOf { s with mem := { s.mem with snoop } } off = some p := hp
    simp only [State.putGranule, hp, hp', show State.plotLost { s with mem := { s.mem with snoop } } p = s.plotLost p from rfl]
    split
    · exact ⟨rfl, hp, rfl⟩
    · split
      · exact ⟨rfl, hp, rfl⟩
      · exact ⟨rfl, hp, rfl⟩
  rw [State.landWrite, if_neg (by rw [hgo]; exact Bool.false_ne_true)]
  simp only [(apart_conflicts ..).mem, State.putBytes, cutGranules_of_granule hn h, List.foldl_cons, List.foldl_nil]
  obtain ⟨u, hu, hmem, hplot, hhost⟩ := hput (s.mem.snoop.filter
    (fun e => !((granules off bytes.length).map (· / 64)).contains e.granule))
  have hponds : u.mem.ponds = s.mem.ponds := by
    rw [hmem]
    unfold State.putGranule
    split
    · rfl
    · split
      · rfl
      · dsimp only
        split <;> rfl
  have hlogged : u.logDirty off bytes.length = u := by
    rw [State.logDirty, hplot]
    simp only [hponds]
    rcases hq : s.mem.ponds.at? p.owner with _ | q
    · rfl
    · have : (u.fn (q.inst + 1)).bitmap = none := by rw [State.fn, hhost]; exact hlog q hq
      simp only [this]
  rw [hu, hlogged, State.noteMoving, hmem]
  exact ⟨_, _, rfl⟩

section Landed

variable {s : State} {off : Nat} {bytes : List Byte} {p : Plot} (slu : Nat) (hp : s.plotOf off = some p)
  (hlost : s.plotLost p = false) (hn : 0 < bytes.length) (h : off / 64 = (off + bytes.length - 1) / 64)
  (hlog : ∀ q, s.mem.ponds.at? p.owner = some q → (s.fn (q.inst + 1)).bitmap = none)

include hp hlost

theorem State.poisonAt_eq : s.poisonAt off = s.mem.poison.contains (p.chanAddr (off % 0x20000000) / 64) := by
  rw [State.poisonAt, hp]
  simp only [hlost, Bool.false_or]

include hn h hlog

/-- A write within a granule that may take it: bytes put and poison cleared. -/
theorem State.landWrite_taken (htake : s.poisonAt off = false ∨ bytes.length = 64) :
    ∃ snoop ponds, (s.landWrite slu off bytes).mem = { s.mem with
      hbm := s.mem.hbm.write (p.chanAddr (off % 0x20000000)) bytes
      poison := s.mem.poison.filter (· ≠ p.chanAddr (off % 0x20000000) / 64), snoop, ponds } := by
  obtain ⟨snoop, ponds, hmem⟩ := State.landWrite_of_granule slu hp hn h hlog
  have hgo : (s.mem.poison.contains (p.chanAddr (off % 0x20000000) / 64) && bytes.length ≠ 64) = false := by
    rw [State.poisonAt_eq hp hlost] at htake
    rcases htake with h | h
    · rw [h, Bool.false_and]
    · simp [h]
  refine ⟨snoop, ponds, ?_⟩
  rw [hmem, State.putGranule, hp]
  simp only [hlost, hgo, if_neg Bool.false_ne_true]

/-- A write of part of a poisoned granule. -/
theorem State.landWrite_refused (hpois : s.poisonAt off = true) (hlen : bytes.length ≠ 64) :
    ∃ snoop ponds, (s.landWrite slu off bytes).mem = { s.mem with snoop, ponds } := by
  obtain ⟨snoop, ponds, hmem⟩ := State.landWrite_of_granule slu hp hn h hlog
  rw [State.poisonAt_eq hp hlost] at hpois
  have hgo : (s.mem.poison.contains (p.chanAddr (off % 0x20000000) / 64) && bytes.length ≠ 64) = true := by
    rw [hpois]; simpa using hlen
  refine ⟨snoop, ponds, ?_⟩
  rw [hmem, State.putGranule, hp]
  simp only [hlost, hgo, if_neg Bool.false_ne_true, if_pos]

end Landed

theorem Memory.get_write_ne {m : Memory} {k x : Nat} {bytes : List Byte} (h : ∀ i, i < bytes.length → x ≠ k + i) :
    (m.write k bytes).get x = m.get x := by
  refine Memory.get_write_outside m bytes ?_
  by_contra hin
  exact h (x - k) (by omega) (by omega)

/-- The plots' places and the fences decide where an offset leads and whether it is lost. -/
theorem State.plotOf_congr {s t : State} (h : t.mem.remap = s.mem.remap) (off : Nat) : t.plotOf off = s.plotOf off := by
  rw [State.plotOf, State.plotOf, h]

theorem State.plotLost_congr {s t : State} (h : t.mem.fences = s.mem.fences) (p : Plot) : t.plotLost p = s.plotLost p := by
  simp only [State.plotLost, State.fenced, h]

/-- The published bytes of a granule, read by their channel addresses. -/
theorem State.readPub_of_granule {s : State} {off n : Nat} {p : Plot} (hp : s.plotOf off = some p)
    (h : ∀ i, i < n → off / 64 = (off + i) / 64) : s.readPub off n = s.mem.hbm.read (p.chanAddr (off % 0x20000000)) n := by
  refine List.map_congr_left (fun i hi => ?_)
  rw [State.byteAt, State.hbmKey_of_granule hp (h i (List.mem_range.1 hi))]

/-- Settles O21: the granule's bytes lie side by side, so they are one write of HBM. -/
theorem landedWriteIsReadBack : Obligations.LandedWriteIsReadBack := by
  intro s slu off bytes p hwf hp hlost hn h hlog
  have hgran : ∀ i, i < bytes.length → off / 64 = (off + i) / 64 := fun i hi => by omega
  obtain ⟨hhbm, -, -⟩ := (State.memWf_iff s).1 hwf
  have taken := State.landWrite_taken slu hp hlost hn h hlog
  have refused := State.landWrite_refused slu hp hlost hn h hlog
  have hcase : (s.poisonAt off = false ∨ bytes.length = 64) ∨ s.poisonAt off = true ∧ bytes.length ≠ 64 := by
    rcases Bool.eq_false_or_eq_true (s.poisonAt off) with h | h
    · by_cases hl : bytes.length = 64
      · exact .inl (.inr hl)
      · exact .inr ⟨h, hl⟩
    · exact .inl (.inl h)
  refine ⟨fun htake => ?_, fun hpois hlen => ?_, fun k hk => ?_, ?_⟩
  · obtain ⟨snoop, ponds, hmem⟩ := taken htake
    have hp' : (s.landWrite slu off bytes).plotOf off = some p := by rw [State.plotOf_congr (s := s) (by rw [hmem]), hp]
    have hlost' : (s.landWrite slu off bytes).plotLost p = false := by
      rw [State.plotLost_congr (s := s) (by rw [hmem]), hlost]
    refine ⟨?_, ?_⟩
    · rw [State.readPub_of_granule hp' hgran, hmem]
      exact Memory.read_write _ _ hhbm
    · rw [State.poisonAt_eq hp' hlost', hmem]
      simp
  · obtain ⟨snoop, ponds, hmem⟩ := refused hpois hlen
    have hp' : (s.landWrite slu off bytes).plotOf off = some p := by rw [State.plotOf_congr (s := s) (by rw [hmem]), hp]
    have hlost' : (s.landWrite slu off bytes).plotLost p = false := by
      rw [State.plotLost_congr (s := s) (by rw [hmem]), hlost]
    rw [State.poisonAt_eq hp' hlost', hmem, ← State.poisonAt_eq hp hlost]
    exact ⟨rfl, hpois⟩
  · rcases hcase with htake | ⟨hpois, hlen⟩
    · obtain ⟨snoop, ponds, hmem⟩ := taken htake
      rw [hmem]
      refine Memory.get_write_ne (fun i hi e => hk i hi ?_)
      rw [State.hbmKey_of_granule hp (hgran i hi), e]
    · obtain ⟨snoop, ponds, hmem⟩ := refused hpois hlen
      rw [hmem]
  · rcases hcase with htake | ⟨hpois, hlen⟩
    · obtain ⟨snoop, ponds, hmem⟩ := taken htake
      rw [hmem]
      exact ⟨rfl, rfl⟩
    · obtain ⟨snoop, ponds, hmem⟩ := refused hpois hlen
      rw [hmem]
      exact ⟨rfl, rfl⟩

end Sys2Proof.Machine
end

section
/-! Staged writes (R262, R264): hidden until publication, dropped by an abort. -/

namespace Sys2Proof.Machine

/-- Lines staged one after another (R262, R268). -/
theorem State.stageLines_some {s t : State} {k op dev kind : Nat} {l : List (Nat × List Byte)}
    (h : s.stageLines k op dev kind l = some t) :
    t.mem = s.mem ∧ ∀ e, s.work.sluices.at? k = some e → (t.work.sluices.at? k).map (·.staged)
      = some (e.staged ++ l.map (fun x => { op, kind, off := x.1, bytes := x.2, dev })) := by
  induction l generalizing s with
  | nil =>
    cases h
    exact ⟨rfl, fun e he => by simp [he]⟩
  | cons x l ih =>
    obtain ⟨off, bs⟩ := x
    rw [State.stageLines] at h
    split at h
    · next hnone =>
      cases h
      exact ⟨rfl, fun e he => by rw [hnone] at he; cases he⟩
    · next e' he' =>
      split at h
      · cases h
      · obtain ⟨hmem, hstaged⟩ := ih h
        refine ⟨hmem, fun e he => ?_⟩
        cases he'.symm.trans he
        rw [hstaged _ (by rw [State.modSluice_at?_self, he']; rfl)]
        simp

theorem State.writePiece_staged {s t : State} {a : Agent} {refused : Bool} {hint : Option Hint} {kind va off lh : Nat}
    {bytes : List Byte} (ht : s.translate a va = .ok (.local_ off) lh) (ha : a.sluice ≠ 0)
    (h : s.writePiece a refused hint kind va bytes = .ok t) :
    s.stageLines a.sluice a.op 0xFFFF kind (if kind = 0 then cutLines off bytes else [(off, bytes)]) = some t := by
  have hplace : s.resolvePlace (.local_ off) bytes.length true = some (.local_ off) := rfl
  simp only [State.writePiece, ht, hplace] at h
  split at h
  · cases h
  · split at h
    · cases h
    · rw [if_neg (by simp)] at h
      unfold State.stage at h
      split at h
      · cases h
      · next s1 hs1 => cases h; exact hs1

theorem apart_freeSluice (s : State) (k : Nat) : Apart s (s.freeSluice k) := by
  unfold State.freeSluice
  split
  · rfl
  · refine Apart.trans (t := { s with work := { s.work with sluices := s.work.sluices.erase k } })
      ⟨rfl, rfl, rfl, rfl, rfl, rfl, rfl, rfl, rfl, rfl⟩ ?_
    unfold State.idleCheck
    split
    · exact (apart_setFn ..).trans (apart_post ..)
    · rfl

theorem apart_tryFinish (s : State) (k : Nat) : Apart s (s.tryFinish k) := by
  unfold State.tryFinish
  split
  · rfl
  · split
    · exact (apart_endOp ..).trans (apart_freeSluice ..)
    · rfl

theorem Memory.getD_read (m : Memory) (a n i : Nat) (hi : i < n) : (m.read a n).getD i 0 = m.get (a + i) := by
  simp [Memory.read, List.getD_eq_getElem?_getD, hi]

@[simp] theorem Memory.length_read (m : Memory) (a n : Nat) : (m.read a n).length = n := by simp [Memory.read]

/-- The bytes of granule `g` with `bytes` put over them at `off`. -/
def State.granuleOver (s : State) (g off : Nat) (bytes : List Byte) : List Byte :=
  ((Memory.write [] g (s.readPub g 64)).write off bytes).read g 64

theorem State.getD_granuleOver (s : State) (g off : Nat) (bytes : List Byte) {j : Nat} (hj : j < 64) :
    (s.granuleOver g off bytes).getD j 0
      = if off ≤ g + j ∧ g + j < off + bytes.length then bytes.getD (g + j - off) 0 else s.byteAt (g + j) := by
  have hlen : (s.readPub g 64).length = 64 := by simp [State.readPub]
  rw [State.granuleOver, Memory.getD_read _ _ _ _ hj, Memory.get_write _ _ _ (Memory.wf_write _ _ Memory.wf_nil),
    Memory.get_write _ _ _ Memory.wf_nil, hlen, if_pos (show g ≤ g + j ∧ g + j < g + 64 by omega), Nat.add_sub_cancel_left]
  congr 1
  simp [State.readPub, List.getD_eq_getElem?_getD, hj]

theorem State.readPub_congr {s t : State} (h : t.mem = s.mem) (off n : Nat) : t.readPub off n = s.readPub off n := by
  have hbyte (x : Nat) : t.byteAt x = s.byteAt x := by simp only [State.byteAt, State.hbmKey, State.plotOf, h]
  simp only [State.readPub, hbyte]

section Publish

variable {s : State} {off k : Nat} {bytes : List Byte} {p : Plot} (hwf : s.memWf = true) (hp : s.plotOf off = some p)
  (hn : 0 < bytes.length) (h : off / 64 = (off + bytes.length - 1) / 64)

include hn h in
theorem granulesOf_one {e : Sluice} {opn : Nat} (he : e.staged = [{ op := opn, kind := 0, off := off, bytes := bytes }]) :
    e.granulesOf = [off / 64 * 64] := by
  have hgran : granules off bytes.length = [off / 64 * 64] := by
    rw [granules, if_neg (by omega), ← h, Nat.sub_self]
    rfl
  rw [Sluice.granulesOf, he, List.map_singleton, hgran]
  rfl

include hp

theorem State.poisonAt_granule {x : Nat} (hx : off / 64 = x / 64) : s.poisonAt x = s.poisonAt off := by
  rw [State.poisonAt, State.poisonAt, s.plotOf_eq_of_granule hx, hp]
  simp only [p.chanAddr_granule (show off % 0x20000000 / 64 = x % 0x20000000 / 64 by omega)]

include hn h

/-- The publish of one write within a granule that is not poisoned. -/
theorem State.publish_one {e : Sluice} {opn : Nat}
    (he : e.staged = [{ op := opn, kind := 0, off := off, bytes := bytes }]) (hpois : s.poisonAt off = false) :
    s.publish k e = s.landWrite k (off / 64 * 64) (s.granuleOver (off / 64 * 64) off bytes) := by
  have hpois' : s.poisonAt (off / 64 * 64) = false := (State.poisonAt_granule hp (by omega)).trans hpois
  have htouch : e.staged.filter (·.touches (off / 64 * 64) (off / 64 * 64 + 64)) = e.staged := by
    rw [he, List.filter_eq_self]
    intro a ha
    rw [List.mem_singleton.1 ha, Staged.touches, Bool.and_eq_true, decide_eq_true_eq, decide_eq_true_eq]
    exact ⟨by show off < off / 64 * 64 + 64; omega, by show off / 64 * 64 < off + bytes.length; omega⟩
  simp only [State.publish, granulesOf_one hn h he, List.foldl_cons, List.foldl_nil, hpois', Bool.false_and,
    if_neg Bool.false_ne_true, htouch]
  rw [he]
  rfl

include hwf

/-- A granule put with `bytes` over it: the bytes are read there, and every other byte is as it was. -/
theorem State.landWrite_granuleOver {g : Nat} (hg : g = off / 64 * 64) (hlost : s.plotLost p = false)
    (hlog : ∀ q, s.mem.ponds.at? p.owner = some q → (s.fn (q.inst + 1)).bitmap = none) :
    (s.landWrite k g (s.granuleOver g off bytes)).readPub off bytes.length = bytes
      ∧ ∀ x, (∀ i, i < bytes.length → s.hbmKey (off + i) ≠ some x) →
        (s.landWrite k g (s.granuleOver g off bytes)).mem.hbm.get x = s.mem.hbm.get x := by
  obtain ⟨hhbm, -, -⟩ := (State.memWf_iff s).1 hwf
  have hp' : s.plotOf g = some p := (s.plotOf_eq_of_granule (show off / 64 = g / 64 by omega)).trans hp
  have hlen : (s.granuleOver g off bytes).length = 64 := Memory.length_read ..
  obtain ⟨snoop, ponds, hmem⟩ := State.landWrite_taken k hp' hlost (by omega) (by omega) hlog (.inr hlen)
  have hkey (j : Nat) (hj : j < 64) : s.hbmKey (g + j) = some (p.chanAddr (g % 0x20000000) + j) :=
    State.hbmKey_of_granule hp' (by omega)
  generalize p.chanAddr (g % 0x20000000) = key at hmem hkey
  have hget (x : Nat) : (s.landWrite k g (s.granuleOver g off bytes)).mem.hbm.get x
      = if key ≤ x ∧ x < key + 64 then (s.granuleOver g off bytes).getD (x - key) 0 else s.mem.hbm.get x := by
    have hwrite := Memory.get_write key x (s.granuleOver g off bytes) hhbm
    rw [hlen] at hwrite
    rw [hmem]
    dsimp only
    exact hwrite
  refine ⟨?_, fun x hx => ?_⟩
  · refine List.ext_getElem (by simp [State.readPub]) (fun i hi hi' => ?_)
    have hkey' : (s.landWrite k g (s.granuleOver g off bytes)).hbmKey (off + i) = some (key + (off + i - g)) := by
      rw [← hkey _ (by omega), State.hbmKey, State.plotOf_congr (s := s) (by rw [hmem]), State.hbmKey,
        show g + (off + i - g) = off + i by omega]
    simp only [State.readPub, List.getElem_map, List.getElem_range, State.byteAt, hkey', hget]
    rw [if_pos (by omega), Nat.add_sub_cancel_left, State.getD_granuleOver _ _ _ _ (by omega), if_pos (by omega),
      show g + (off + i - g) - off = i by omega, List.getD_eq_getElem _ _ hi']
  · rw [hget]
    split
    · next hin =>
      have hx' : key + (x - key) = x := by omega
      rw [State.getD_granuleOver _ _ _ _ (by omega), if_neg, State.byteAt, hkey _ (by omega), hx']
      intro hover
      refine hx (g + (x - key) - off) (by omega) ?_
      rw [show off + (g + (x - key) - off) = g + (x - key) by omega, hkey _ (by omega), hx']
    · rfl

end Publish

/-- Settles O38: a staged write changes the sluice's entry alone; its publish is one write of its granule. -/
theorem stagedWritesAreHiddenTillPublished : Obligations.StagedWritesAreHiddenTillPublished := by
  refine ⟨fun s t a refused hint kind va off lh bytes ht ha hw => State.stageLines_some (State.writePiece_staged ht ha hw),
    fun s k reason origin e he hc hab => ⟨(apart_abortSluice ..).mem, ?_, fun id o ho hs hl => ?_⟩,
    fun s f id k off opn bytes e p hk he hwf hrec hst hn h hp hlost hpois howns hlog => ?_⟩
  · rw [State.abortSluice_eq reason origin he hc hab]
    obtain ⟨l, hnotice⟩ := s.abortNotice_eq e reason origin
    have he' : (s.withSent l).work.sluices.at? k = some e := he
    simp only [State.endOps_sluices, State.endOp_sluices, State.modSluice_at?_self, hnotice, he', Option.map_some, Sluice.aborted]
  · rw [State.abortSluice_eq reason origin he hc hab]
    obtain ⟨l, hnotice⟩ := s.abortNotice_eq e reason origin
    have hended (u : State) (hu : u.op? id = some o) := State.endOps_op?_of_mem Status.sluiceAborted (abortDetail reason origin)
      (State.mem_liveOps (q := fun o => o.sluice = k) hu hl (by simpa using hs)) hu hl
    rw [hnotice]
    dsimp only
    rw [((endsWork_endOp ..).trans (endsWork_endOps ..)).ended _ _ (hended ((s.withSent l).modSluice k (Sluice.aborted reason origin)) ho) rfl]
    rfl
  · obtain ⟨hread, hkeep⟩ := State.landWrite_granuleOver (k := k) hwf hp hn h rfl hlost hlog
    rw [← State.publish_one hp hn h hst hpois] at hread
    simp only [← State.publish_one hp hn h hst hpois] at hkeep
    have hno : e.granulesOf.any (fun g => s.hostOwns g 64) = false := by
      rw [granulesOf_one hn h hst, List.any_cons, howns]
      rfl
    obtain ⟨t, hexec, hmem⟩ : ∃ t, exec (.sluicePublished f id) s = .next t ∧ t.mem = (s.publish k e).mem := by
      show ∃ t, execSluicePublished f id s = .next t ∧ _
      simp only [execSluicePublished, hk, he, hno, if_neg Bool.false_ne_true, hrec, List.filter_nil, List.foldl_nil]
      refine ⟨_, rfl, (apart_tryFinish ..).mem.trans ?_⟩
      split
      · exact (apart_send ..).mem
      · rfl
    refine ⟨t, hexec, ?_, fun x hx => by rw [hmem]; exact hkeep x hx⟩
    rw [State.readPub_congr hmem]
    exact hread

end Sys2Proof.Machine
end

section
/-! What ends or starts work keeps the memory and the operations that have ended (R386), and a copy between tiles (R216). -/

namespace Sys2Proof.Machine

/-- Operation `j` has ended: every entry of the table under its number. -/
def State.AllEnded (s : State) (j : Nat) : Prop := ∀ p ∈ s.work.ops, p.1 = j → p.2.phase = .ended

/-- A step of the work: memory stands, and an operation that has ended stays as it is. -/
structure WorksOn (s t : State) : Prop where
  mem : t.mem = s.mem
  ended : ∀ j, s.AllEnded j → t.AllEnded j ∧ t.op? j = s.op? j

@[refl] theorem WorksOn.refl (s : State) : WorksOn s s := ⟨rfl, fun _ h => ⟨h, rfl⟩⟩

theorem WorksOn.trans {s t u : State} (h : WorksOn s t) (k : WorksOn t u) : WorksOn s u :=
  ⟨k.mem.trans h.mem, fun j hj => by
    obtain ⟨ht, ho⟩ := h.ended j hj
    obtain ⟨hu, ho'⟩ := k.ended j ht
    exact ⟨hu, ho'.trans ho⟩⟩

theorem WorksOn.foldl {β : Type} {g : State → β → State} (hg : ∀ s b, WorksOn s (g s b)) (l : List β) (s : State) :
    WorksOn s (l.foldl g s) := by
  induction l generalizing s with
  | nil => exact .refl s
  | cons b l ih => exact (hg s b).trans (ih _)

/-- A step that leaves memory and the operations. -/
theorem WorksOn.of_ops {s t : State} (hm : t.mem = s.mem) (ho : t.work.ops = s.work.ops) : WorksOn s t :=
  ⟨hm, fun j hj => ⟨by rw [State.AllEnded, ho]; exact hj, by rw [State.op?, ho]; rfl⟩⟩

theorem State.phase_of_allEnded {s : State} {j : Nat} {o : Op} (h : s.AllEnded j) (ho : s.op? j = some o) : o.phase = .ended :=
  h _ (Tab.mem_of_at? ho) rfl

theorem Tab.mem_modify {α : Type} {t : Tab α} {k : Nat} {f : α → α} {p : Nat × α} (h : p ∈ t.modify k f) :
    ∃ q ∈ t, q.1 = p.1 ∧ p.2 = if q.1 = k then f q.2 else q.2 := by
  obtain ⟨q, hq, rfl⟩ := List.mem_map.1 h
  refine ⟨q, hq, ?_⟩
  split <;> exact ⟨rfl, rfl⟩

/-- Another operation changed. -/
theorem worksOn_modOp {s : State} {id : Nat} (g : Op → Op) (h : ¬ s.AllEnded id) : WorksOn s (s.modOp id g) := by
  refine ⟨rfl, fun j hj => ?_⟩
  have hne : j ≠ id := fun e => h (e ▸ hj)
  refine ⟨fun p hp hpj => ?_, State.modOp_op?_ne _ _ hne⟩
  obtain ⟨q, hq, hq1, hq2⟩ := Tab.mem_modify hp
  rw [hq2, if_neg (by rw [hq1, hpj]; exact hne)]
  exact hj q hq (hq1.trans hpj)

/-- An operation that ends has ended under every entry of its number. -/
theorem State.allEnded_endOp {s : State} {id : Nat} {o : Op} (status detail : Nat) (ho : s.op? id = some o)
    (hl : o.phase ≠ .ended) : (s.endOp id status detail).AllEnded id := by
  obtain ⟨l, hw, -⟩ := State.endOp_work status detail ho hl
  intro p hp hpj
  rw [hw] at hp
  dsimp only at hp
  obtain ⟨q, -, hq1, hq2⟩ := Tab.mem_modify hp
  rw [hq2, if_pos (hq1.trans hpj)]
  rfl

theorem worksOn_endOp (s : State) (id status detail : Nat) : WorksOn s (s.endOp id status detail) := by
  rcases ho : s.op? id with _ | o
  · rw [State.endOp_of_none _ _ ho]
  · by_cases hl : o.phase = .ended
    · rw [State.endOp_of_ended _ _ ho hl]
    · have hid : ¬ s.AllEnded id := fun h => hl (State.phase_of_allEnded h ho)
      obtain ⟨l, hw, -⟩ := State.endOp_work status detail ho hl
      exact (worksOn_modOp (fun o => o.endedWith status detail) hid).trans
        (.of_ops (apart_endOp ..).mem (by rw [hw]; rfl))

theorem worksOn_endOps (s : State) (ids : List Nat) (status detail : Nat) : WorksOn s (s.endOps ids status detail) :=
  WorksOn.foldl (fun _ _ => worksOn_endOp ..) _ _

theorem worksOn_abortSluice (s : State) (k reason origin : Nat) : WorksOn s (s.abortSluice k reason origin) := by
  unfold State.abortSluice State.abortSluiceWith
  split
  · rfl
  · split
    · rfl
    · refine WorksOn.trans ?_ ((worksOn_endOps ..).trans ((worksOn_endOp ..).trans (worksOn_endOps ..)))
      obtain ⟨l, h⟩ := s.abortNotice_eq _ reason origin
      exact .of_ops (by rw [if_pos rfl, h]; rfl) (by rw [if_pos rfl, h]; rfl)

theorem worksOn_abortSluicesOf (s : State) (ids : List Nat) (reason : Nat) : WorksOn s (s.abortSluicesOf ids reason) := by
  refine WorksOn.trans (WorksOn.foldl (fun s i => ?_) _ _) (WorksOn.foldl (fun _ _ => worksOn_abortSluice ..) _ _)
  split
  · split
    · rfl
    · exact worksOn_abortSluice ..
  · rfl

theorem worksOn_abortOpened (s : State) (c : Nat) : WorksOn s (s.abortOpened c) :=
  WorksOn.foldl (fun _ _ => worksOn_abortSluice ..) _ _

theorem worksOn_markLost (s : State) (c id : Nat) : WorksOn s (s.markLost c id) := by
  unfold State.markLost
  split
  · rfl
  · split
    · rfl
    · exact (WorksOn.of_ops (s := s) (t := s.modCtx c (fun x => { x with lost := true, lossOp := id })) rfl rfl).trans
        ((worksOn_endOps ..).trans ((worksOn_abortSluicesOf ..).trans (worksOn_abortOpened ..)))

theorem worksOn_decide (s : State) (id status detail : Nat) : WorksOn s (s.decide id status detail) := by
  unfold State.decide
  split
  · rfl
  · next o ho =>
    split
    · rfl
    · have h : WorksOn s (if (status = Status.success || o.sluice = 0) = true then s.endOp id status detail
          else (s.endOp id status detail).abortSluice o.sluice (reasonOf status) 0xFFFF) := by
        split
        · exact worksOn_endOp ..
        · exact (worksOn_endOp ..).trans (worksOn_abortSluice ..)
      dsimp only
      split
      · exact h.trans (worksOn_markLost ..)
      · exact h

theorem worksOn_sends {β : Type} (m : β → FabMsg) (l : List β) (s : State) : WorksOn s (l.foldl (fun s d => s.send (m d)) s) :=
  WorksOn.foldl (fun s d => .of_ops (t := s.send (m d)) rfl rfl) _ _

theorem worksOn_takeRemote (s : State) (k : Nat) (x : RedHeld) : WorksOn s (s.takeRemote k x) := by
  unfold State.takeRemote
  dsimp only
  split
  · exact .of_ops rfl rfl
  · split
    · exact .of_ops rfl rfl
    · split
      · split
        · rfl
        · split <;> exact .of_ops rfl rfl
      · split
        · exact .of_ops rfl rfl
        · exact worksOn_decide ..

theorem worksOn_compareCrcs (s : State) (k : Nat) : WorksOn s (s.compareCrcs k) := by
  unfold State.compareCrcs
  split
  · rfl
  · split
    · rfl
    · split
      · exact worksOn_decide ..
      · rfl

theorem worksOn_takeHeld (s : State) (k f gid : Nat) : WorksOn s (s.takeHeld k f gid) := by
  unfold State.takeHeld
  refine WorksOn.trans ?_ (WorksOn.foldl (fun _ _ => worksOn_takeRemote ..) _ _)
  exact .of_ops rfl rfl

/-- A reduction run started for an operation that has not ended. -/
theorem worksOn_startRed {s : State} {id : Nat} (o : Op) (k : Nat) (g : RedGroup) (h : ¬ s.AllEnded id) :
    WorksOn s (s.startRed id o k g) := by
  unfold State.startRed
  split
  · exact worksOn_decide ..
  · refine WorksOn.trans ?_ ((worksOn_compareCrcs ..).trans (worksOn_takeHeld ..))
    have hstart (f : RedGroup → RedGroup) : WorksOn s ((s.start id).modGroup k f) :=
      (worksOn_modOp _ h).trans (.of_ops rfl rfl)
    dsimp only
    split <;> split
    · exact ((hstart _).trans (worksOn_sends ..)).trans (worksOn_sends ..)
    · exact (hstart _).trans (worksOn_sends ..)
    · exact (hstart _).trans (worksOn_sends ..)
    · exact hstart _

theorem worksOn_launch {s : State} {id : Nat} (h : ¬ s.AllEnded id) : WorksOn s (s.launch id) := by
  unfold State.launch
  split
  · rfl
  · split
    · split
      · exact worksOn_startRed _ _ _ h
      · exact worksOn_decide ..
    · exact worksOn_modOp _ h

theorem minBy?_mem {α : Type} {key : α → Nat} {l : List α} {a : α} (h : minBy? key l = some a) : a ∈ l := by
  induction l with
  | nil => cases h
  | cons b l ih =>
    rw [minBy?] at h
    split at h
    · cases h; exact .head _
    · next c hc =>
      split at h
      · cases h; exact .head _
      · cases h; exact .tail _ (ih hc)

/-- The next copy of an engine is one that waits. -/
theorem State.nextCopy_queued {s : State} {e id : Nat} (h : s.nextCopy e = some id) : ¬ s.AllEnded id := by
  intro hall
  simp only [State.nextCopy] at h
  split at h
  · cases h
  · split at h
    · cases h
    · obtain ⟨p, hp, rfl⟩ := Option.map_eq_some_iff.1 h
      obtain ⟨hops, hwait⟩ := List.mem_filter.1 (List.mem_filter.1 (minBy?_mem hp)).1
      simp only [Bool.and_eq_true, decide_eq_true_eq] at hwait
      obtain ⟨⟨⟨-, hq⟩, -⟩, -⟩ := hwait
      rw [hall p hops rfl] at hq
      cases hq

theorem worksOn_activate (s : State) (e n : Nat) : WorksOn s (s.activate e n) := by
  induction n generalizing s with
  | zero => rfl
  | succ n ih =>
    rw [State.activate]
    split
    · rfl
    · next id hid => exact (worksOn_launch (State.nextCopy_queued hid)).trans (ih _)

end Sys2Proof.Machine
end

section
/-! A copy of one row between two tiles (R216): its cuts follow one another, so together they are one write. -/

namespace Sys2Proof.Machine

/-- Ranges that follow one another from each number of a list to the next, the last up to `n`. -/
def steps (l : List Nat) (n : Nat) : List (Nat × Nat) := (l.zip (l.drop 1 ++ [n])).map (fun x => (x.1, x.2 - x.1))

theorem steps_singleton (a n : Nat) : steps [a] n = [(a, n - a)] := rfl

theorem steps_cons (a b : Nat) (l : List Nat) (n : Nat) : steps (a :: b :: l) n = (a, b - a) :: steps (b :: l) n := by
  simp [steps]

theorem Memory.write_append (m : Memory) (a : Nat) (bs cs : List Byte) :
    m.write a (bs ++ cs) = (m.write a bs).write (a + bs.length) cs := by
  induction bs generalizing m a with
  | nil => rfl
  | cons b bs ih =>
    rw [List.cons_append, Memory.write, ih, Memory.write, List.length_cons, Nat.add_right_comm, Nat.add_assoc]

theorem Memory.read_append (m : Memory) (a n k : Nat) : m.read a (n + k) = m.read a n ++ m.read (a + n) k := by
  simp [Memory.read, List.range_add, List.map_append, Nat.add_assoc]

theorem State.sramPoisoned_mono {s t : State} {tile off n off' n' : Nat} (h : s.sramPoisoned tile off n = false)
    (hsub : ∀ w ∈ t.mem.sramPoison, w ∈ s.mem.sramPoison) (h0 : off ≤ off') (h1 : off' + n' ≤ off + n) (hn : 0 < n') :
    t.sramPoisoned tile off' n' = false := by
  have hn0 : 0 < n := by omega
  simp only [State.sramPoisoned, hn0, hn, decide_true, Bool.true_and, List.any_eq_false] at h ⊢
  intro w hw hin
  refine h w (hsub w hw) ?_
  simp only [Bool.and_eq_true, decide_eq_true_eq] at hin ⊢
  omega

/-- A copy of one row of `n` bytes at most one segment long, from tile `ts` to another tile `td`. -/
structure RowCopy (o : Op) (p : Pond) (ts td n : Nat) : Prop where
  rows : fld o.desc 0x24 0 32 = 1
  bytes : fld o.desc 0x20 0 32 = n
  pos : 0 < n
  le : n ≤ 4096
  src : p.copyTile o.desc false = some ts
  dst : p.copyTile o.desc true = some td
  ne : ts ≠ td
  srcEnd : fld o.desc 0x28 0 55 + n ≤ 0x400000
  dstEnd : fld o.desc 0x30 0 55 + n ≤ 0x400000

namespace RowCopy

variable {o : Op} {p : Pond} {ts td n : Nat} (h : RowCopy o p ts td n)

include h

theorem copyBytes_eq : copyBytes o.desc = n := by rw [copyBytes, h.rows, h.bytes, Nat.mul_one]

theorem copySegments_eq : copySegments o.desc = 1 := by
  have := h.pos
  have := h.le
  rw [copySegments, h.copyBytes_eq]
  omega

theorem copyAddr_eq {j : Nat} (dst : Bool) (hj : j < n) :
    copyAddr o.desc dst j = fld o.desc (if dst then 0x30 else 0x28) 0 55 + j := by
  have hmax : max 1 n = n := Nat.max_eq_right h.pos
  rw [copyAddr, h.bytes]
  simp only [hmax, Nat.div_eq_of_lt hj, Nat.mod_eq_of_lt hj, Nat.zero_mul, Nat.add_zero]

theorem not_overlaps : p.copyOverlaps o.desc = false := by
  simp [Pond.copyOverlaps, h.src, h.dst, h.ne]

theorem loc_ne_zero : copyLoc o.desc false ≠ 0 := by
  intro hz
  have := h.src
  rw [Pond.copyTile, if_pos hz] at this
  cases this

/-- The cuts of the one segment. -/
theorem copyCuts_eq : ∃ l, copyCuts o.desc 0 = steps (0 :: l) n ∧ (0 :: l).Pairwise (· < ·) ∧ ∀ a ∈ 0 :: l, a < n := by
  have hpos := h.pos
  have hle := h.le
  have hmin : min (0 * 4096 + 4096) (copyBytes o.desc) - 0 * 4096 = n := by rw [h.copyBytes_eq]; omega
  have hhead (q : Nat → Bool) (h0 : q 0 = true) :
      ∃ l, (List.range n).filter q = 0 :: l := by
    obtain ⟨m, rfl⟩ : ∃ m, n = m + 1 := ⟨n - 1, by omega⟩
    exact ⟨_, by rw [List.range_succ_eq_map, List.filter_cons_of_pos h0]⟩
  obtain ⟨l, hl⟩ := hhead (fun i => i = 0 || (0 * 4096 + i) % max 1 (fld o.desc 0x20 0 32) = 0
    || copyAddr o.desc false (0 * 4096 + i) % 64 = 0) (by simp)
  refine ⟨l, ?_, ?_, fun a ha => ?_⟩
  · simp only [copyCuts, hmin, hl, steps]
    simp only [Nat.zero_mul, Nat.zero_add]
  · rw [← hl]
    exact List.pairwise_lt_range.filter _
  · rw [← hl] at ha
    exact List.mem_range.1 (List.mem_filter.1 ha).1

/-- One cut copied. -/
theorem copyCut_eq {s : State} {id : Nat} (a : Agent) (ext : Ext) {j k : Nat} (hk : 0 < k) (hj : j + k ≤ n)
    (hclean : s.sramPoisoned ts (fld o.desc 0x28 0 55) n = false) :
    s.copyCut id a ext o p j k = .ok (s.putSram td (fld o.desc 0x30 0 55 + j) (s.readSram ts (fld o.desc 0x28 0 55 + j) k)) := by
  have hread : s.copyRead a ext o.desc (some ts) (fld o.desc 0x28 0 55 + j) k
      = .ok (s.readSram ts (fld o.desc 0x28 0 55 + j) k) := by
    have hpart : s.sramPoisoned ts (fld o.desc 0x28 0 55 + j) k = false :=
      State.sramPoisoned_mono (n := n) hclean (fun w hw => hw) (Nat.le_add_right _ j) (by omega) hk
    rw [State.copyRead, if_neg h.loc_ne_zero]
    simp only [hpart, if_neg Bool.false_ne_true]
  simp only [State.copyCut, h.src, h.dst, h.not_overlaps, h.copyAddr_eq false (show j < n by omega),
    h.copyAddr_eq true (show j < n by omega), if_neg Bool.false_ne_true, hread, if_neg h.loc_ne_zero]
  rfl

/-- Every cut from `j` on copied: one write of the rest of the row. -/
theorem copyCutList_eq {id : Nat} (a : Agent) (ext : Ext) {j : Nat} {l : List Nat} (hsort : (j :: l).Pairwise (· < ·))
    (hlt : ∀ a ∈ j :: l, a < n) {s : State} (ho : s.op? id = some o)
    (hclean : s.sramPoisoned ts (fld o.desc 0x28 0 55) n = false) :
    ∃ poison, s.copyCutList id a ext p (steps (j :: l) n) = .ok { s with mem := { s.mem with
      sram := s.mem.sram.write (td * 0x400000 + (fld o.desc 0x30 0 55 + j)) (s.readSram ts (fld o.desc 0x28 0 55 + j) (n - j))
      sramPoison := poison } } := by
  have hsrc := h.srcEnd
  have hdst := h.dstEnd
  have hne := h.ne
  induction l generalizing j s with
  | nil =>
    have hj := hlt j (.head _)
    rw [steps_singleton, State.copyCutList, ho]
    simp only [h.copyCut_eq a ext (show 0 < n - j by omega) (show j + (n - j) ≤ n by omega) hclean, State.copyCutList]
    exact ⟨_, rfl⟩
  | cons b l ih =>
    have hjb : j < b := (List.pairwise_cons.1 hsort).1 b (.head _)
    have hb : b < n := hlt b (.tail _ (.head _))
    rw [steps_cons, State.copyCutList, ho]
    simp only [h.copyCut_eq a ext (show 0 < b - j by omega) (show j + (b - j) ≤ n by omega) hclean]
    obtain ⟨poison, hrest⟩ := ih (List.pairwise_cons.1 hsort).2 (fun a ha => hlt a (.tail _ ha))
      (s := s.putSram td (fld o.desc 0x30 0 55 + j) (s.readSram ts (fld o.desc 0x28 0 55 + j) (b - j))) ho
      (State.sramPoisoned_mono hclean (fun w hw => (List.mem_filter.1 hw).1) (Nat.le_refl _) (Nat.le_refl _) h.pos)
    refine ⟨poison, hrest.trans ?_⟩
    have hkeep : (s.putSram td (fld o.desc 0x30 0 55 + j) (s.readSram ts (fld o.desc 0x28 0 55 + j) (b - j))).readSram ts
        (fld o.desc 0x28 0 55 + b) (n - b) = s.readSram ts (fld o.desc 0x28 0 55 + b) (n - b) := by
      refine Memory.read_congr (fun x h0 h1 => Memory.get_write_outside _ _ ?_)
      simp only [State.readSram, Memory.length_read]
      omega
    have hrow : s.readSram ts (fld o.desc 0x28 0 55 + j) (n - j)
        = s.readSram ts (fld o.desc 0x28 0 55 + j) (b - j) ++ s.readSram ts (fld o.desc 0x28 0 55 + b) (n - b) := by
      rw [show n - j = (b - j) + (n - b) by omega, State.readSram, Memory.read_append,
        show ts * 0x400000 + (fld o.desc 0x28 0 55 + j) + (b - j) = ts * 0x400000 + (fld o.desc 0x28 0 55 + b) by omega]
      rfl
    rw [hkeep, hrow, Memory.write_append, State.readSram, Memory.length_read,
      show td * 0x400000 + (fld o.desc 0x30 0 55 + j) + (b - j) = td * 0x400000 + (fld o.desc 0x30 0 55 + b) by omega]
    rfl

end RowCopy

theorem State.noteLatencies_eq (s : State) (h : Nat) (ls : List Nat) : ∃ w, s.noteLatencies h ls = { s with weir := w } := by
  induction ls generalizing s with
  | nil => exact ⟨_, rfl⟩
  | cons l ls ih =>
    have hone : ∃ w, s.noteLatency h l = { s with weir := w } := by
      unfold State.noteLatency
      split
      · exact ⟨_, rfl⟩
      · exact ⟨_, rfl⟩
    obtain ⟨w, hw⟩ := hone
    obtain ⟨w', hw'⟩ := ih (s.noteLatency h l)
    exact ⟨w', hw'.trans (by rw [hw])⟩

theorem State.activate_of_none {s : State} {e : Nat} (h : s.nextCopy e = none) (n : Nat) : s.activate e n = s := by
  cases n with
  | zero => rfl
  | succ n => rw [State.activate, h]

/-- With nothing landed no cut is shortened (R221). -/
theorem Op.flatten_unlanded (o : Op) (h : o.landed = []) (l : List (Nat × Nat)) : (l.map o.unlanded).flatten = l := by
  induction l with
  | nil => rfl
  | cons x l ih =>
    have hx : o.unlanded x = [x] := by rw [Op.unlanded, h]; rfl
    rw [List.map_cons, List.flatten_cons, ih, hx]
    rfl

/-- Settles O12: the cuts of the row are one write, and what ends and starts after it leaves memory and the ended copy. -/
theorem tileCopyMovesItsBytes : Obligations.TileCopyMovesItsBytes := by
  intro s op ts td ext o p hwf ho hcode hnext hp hphase hpush hdone hlanded hslu hrows hpos hle hts htd hne hsrc hdst hclean
  have hrow : RowCopy o p ts td (fld o.desc 0x20 0 32) := ⟨hrows, rfl, hpos, hle, hts, htd, hne, hsrc, hdst⟩
  obtain ⟨l, hcuts, hsort, hlt⟩ := hrow.copyCuts_eq
  obtain ⟨w, hw⟩ := s.noteLatencies_eq o.pond ext.lats
  obtain ⟨poison, hcopy⟩ := hrow.copyCutList_eq (id := op) (s.agent op o (o.engine / 4) 0) ext hsort hlt
    (s := { s with weir := w }) ho hclean
  have hall : ({ s with weir := w } : State).copyCutAll op (s.agent op o (o.engine / 4) 0) ext p (copyCuts o.desc 0)
      = ({ s with weir := w } : State).copyCutList op (s.agent op o (o.engine / 4) 0) ext p (steps (0 :: l) (fld o.desc 0x20 0 32)) := by
    have ho' : ({ s with weir := w } : State).op? op = some o := ho
    simp only [State.copyCutAll, ho', hcuts, o.flatten_unlanded hlanded]
  have hexec : ∃ u : State, u.op? op = some { o with done := [0] } ∧ u.mem = { s.mem with
        sram := s.mem.sram.write (td * 0x400000 + (fld o.desc 0x30 0 55 + 0))
          (s.readSram ts (fld o.desc 0x28 0 55 + 0) (fld o.desc 0x20 0 32 - 0))
        sramPoison := poison } ∧ exec (.flumeSegmentDone op 0 ext) s = .next ((u.succeed op).activate o.engine 16) := by
    show ∃ u : State, _ ∧ _ ∧ execFlumeSegmentDone op 0 ext s = _
    simp only [execFlumeSegmentDone, ho, hcode, if_true, State.activate_of_none hnext, hp, hphase, hpush, hdone,
      hrow.copySegments_eq, hw, hall, hcopy]
    refine ⟨_, ?_, ?_, rfl⟩
    · rw [State.modOp_op?_self]
      show (s.op? op).map _ = _
      rw [ho, Option.map_some, hdone, hphase, hpush]
    · rfl
  obtain ⟨u, huo, hmem, hexec⟩ := hexec
  obtain ⟨-, hsram, -⟩ := (State.memWf_iff s).1 hwf
  have hlive : ({ o with done := [0] } : Op).phase ≠ .ended := by rw [hphase]; decide
  have hact := worksOn_activate (u.succeed op) o.engine 16
  have hmem' : ((u.succeed op).activate o.engine 16).mem = u.mem := hact.mem.trans (apart_succeed ..).mem
  have hlen : (s.readSram ts (fld o.desc 0x28 0 55) (fld o.desc 0x20 0 32)).length = fld o.desc 0x20 0 32 := Memory.length_read ..
  rw [Nat.add_zero, Nat.add_zero, Nat.sub_zero] at hmem
  refine ⟨_, hexec, ?_, fun a ha => ?_, ?_, ?_⟩
  · have hread := Memory.read_write (td * 0x400000 + fld o.desc 0x30 0 55)
      (s.readSram ts (fld o.desc 0x28 0 55) (fld o.desc 0x20 0 32)) hsram
    rw [hlen] at hread
    rw [State.readSram, hmem', hmem]
    exact hread
  · rw [hmem', hmem]
    exact Memory.get_write_outside _ _ (by rw [hlen]; omega)
  · rw [hmem', hmem]
  · have hended : (u.succeed op).AllEnded op := by
      rw [State.succeed_eq]
      exact State.allEnded_endOp 0 0 huo hlive
    rw [(hact.ended op hended).2, State.succeed_eq, State.endOp_op?_self 0 0 huo hlive]
    rfl

end Sys2Proof.Machine
end

section
/-! What leaves every byte of HBM, SRAM and program memory as it is, and a fill that lands (R92, R123). -/

namespace Sys2Proof.Machine

/-- Two states hold the same bytes of HBM, tile SRAM and program memory. -/
structure SameBytes (s t : State) : Prop where
  hbm : t.mem.hbm = s.mem.hbm
  sram : t.mem.sram = s.mem.sram
  prog : t.mem.prog = s.mem.prog

@[refl] theorem SameBytes.refl (s : State) : SameBytes s s := ⟨rfl, rfl, rfl⟩

theorem SameBytes.trans {s t u : State} (h : SameBytes s t) (k : SameBytes t u) : SameBytes s u :=
  ⟨k.hbm.trans h.hbm, k.sram.trans h.sram, k.prog.trans h.prog⟩

theorem SameBytes.foldl {β : Type} {g : State → β → State} (hg : ∀ s b, SameBytes s (g s b)) (l : List β) (s : State) :
    SameBytes s (l.foldl g s) := by
  induction l generalizing s with
  | nil => exact .refl s
  | cons b l ih => exact (hg s b).trans (ih _)

theorem SameBytes.of_mem {s t : State} (h : t.mem = s.mem) : SameBytes s t := ⟨by rw [h], by rw [h], by rw [h]⟩

theorem Apart.sameBytes {s t : State} (h : Apart s t) : SameBytes s t := .of_mem h.mem

theorem SameBytes.ite {s t u : State} {c : Prop} [Decidable c] (ht : SameBytes s t) (hu : SameBytes s u) :
    SameBytes s (if c then t else u) := by
  split
  · exact ht
  · exact hu

theorem sameBytes_noteMoving (s : State) (off n : Nat) : SameBytes s (s.noteMoving off n) := ⟨rfl, rfl, rfl⟩

theorem sameBytes_loftTouch (s : State) (off : Nat) (hint : Hint) (mask : Nat) (write : Bool) :
    SameBytes s (s.loftTouch off hint mask write) := by
  unfold State.loftTouch
  split
  · rfl
  · refine .ite ⟨rfl, rfl, rfl⟩ (.ite (.refl _) (SameBytes.trans ?_ (SameBytes.foldl (fun _ _ => sameBytes_noteMoving ..) _ _)))
    exact ⟨rfl, rfl, rfl⟩

theorem sameBytes_loftTouchRange (s : State) (off n : Nat) (hint : Hint) (mask : Nat) (write : Bool) :
    SameBytes s (s.loftTouchRange off n hint mask write) :=
  SameBytes.foldl (fun _ _ => sameBytes_loftTouch ..) _ _

theorem State.useXlat_eq (s : State) (a : Agent) (va : Nat) : ∃ x, s.useXlat a va = { s with xlat := x } := by
  unfold State.useXlat
  dsimp only
  split
  · exact ⟨_, rfl⟩
  · split
    · exact ⟨_, rfl⟩
    · split
      · exact ⟨_, rfl⟩
      · exact ⟨_, rfl⟩

theorem sameBytes_useXlat (s : State) (a : Agent) (va : Nat) : SameBytes s (s.useXlat a va) := by
  obtain ⟨x, h⟩ := s.useXlat_eq a va
  rw [h]
  exact ⟨rfl, rfl, rfl⟩

theorem sameBytes_touchRead (s : State) (a : Agent) (hint : Option Hint) (va n : Nat) : SameBytes s (s.touchRead a hint va n) := by
  refine SameBytes.foldl (fun s p => ?_) _ _
  split
  · exact (sameBytes_useXlat ..).trans (sameBytes_loftTouchRange ..)
  · exact sameBytes_useXlat ..

theorem sameBytes_touchReads (s : State) (a : Agent) (l : List (Nat × Nat)) : SameBytes s (s.touchReads a l) :=
  SameBytes.foldl (fun _ _ => sameBytes_touchRead ..) _ _

theorem sameBytes_noteLatencies (s : State) (h : Nat) (ls : List Nat) : SameBytes s (s.noteLatencies h ls) := by
  obtain ⟨w, hw⟩ := s.noteLatencies_eq h ls
  rw [hw]
  exact ⟨rfl, rfl, rfl⟩

theorem sameBytes_consume (s : State) (id r n : Nat) : SameBytes s (s.consume id r n) := by
  induction n generalizing s with
  | zero => exact .refl _
  | succ n ih =>
    unfold State.consume
    split
    · split
      · rfl
      · dsimp only
        split
        · rfl
        · split
          · split
            · exact (apart_decide ..).sameBytes
            · refine SameBytes.trans ?_ (ih _)
              exact ⟨rfl, rfl, rfl⟩
          · rfl
    · rfl

/-- Settles O15: beside the panel's bytes a landed fill touches the loft, the caches and the run. -/
theorem landedFillFillsItsPanel : Obligations.LandedFillFillsItsPanel := by
  intro s op rank seq half page b ext m o k i rows hwf hm ho hk hphase hecc hturn hcode hkeep hres hmx hout hitem hrows at_ bytes
  obtain ⟨-, hsram, -⟩ := (State.memWf_iff s).1 hwf
  have hany : (k.outstanding o.desc (m.items o.desc k)).any (fun x => x.1 = b && x.2.1 = seq && x.2.2.1 = half) = true :=
    List.any_eq_true.2 ⟨_, hout, by simp⟩
  have hpos : panelPos o.desc b seq = seq % max 1 (planRing (planOf o.desc b)) := by simp [panelPos, hkeep, hres]
  obtain ⟨t, u, hexec, hbytes, hread⟩ : ∃ t u : State, exec (.fillLanded op rank b seq half ext) s = .next t ∧ SameBytes s u
      ∧ SameBytes (u.putSram k.tile at_ bytes) t := by
    show ∃ t u : State, execFillLanded op rank b seq half ext s = _ ∧ _
    simp only [execFillLanded, State.findErrors_of_ecc_nil hecc, hm, ho, hk, hphase, hturn, hcode, hany, hkeep, hitem, hrows, hmx,
      hpos, decide_false, Bool.not_true, Bool.or_self, Bool.false_eq_true, Nat.reduceEqDiff, Nat.reduceLT, ↓reduceIte]
    let a := s.agent op o (dieOfTile k.tile) (k.tile + 1)
    let pages := (List.range (128 / panelPages (operandFmt o.desc b))).map (half * (128 / panelPages (operandFmt o.desc b)) + ·)
    refine ⟨_, (s.noteLatencies o.pond ext.lats).touchReads a (s.panelReads a ext o.desc m.table k b i (seq % k.panels) pages), rfl,
      (sameBytes_noteLatencies ..).trans (sameBytes_touchReads ..), ?_⟩
    refine .trans ?_ (sameBytes_consume ..)
    exact ⟨rfl, rfl, rfl⟩
  have hu : (u.putSram k.tile at_ bytes).mem.sram = s.mem.sram.write (k.tile * 0x400000 + at_) bytes := by
    rw [← hbytes.sram]
    rfl
  refine ⟨t, hexec, ?_, fun a ha => ?_, hread.hbm.trans hbytes.hbm, hread.prog.trans hbytes.prog⟩
  · rw [State.readSram, hread.sram, hu]
    exact Memory.read_write _ _ hsram
  · rw [hread.sram, hu]
    exact Memory.get_write_outside _ _ (by omega)

end Sys2Proof.Machine
end

section
/-! The loft's touches leave everything but the loft and the record of moving lines (R203, R204), and what a walk leaves in
the caches (R401 to R405). -/

namespace Sys2Proof.Machine

/-- A pond without its re-binding, whose list of written lines a touch of the loft may lengthen. -/
def Pond.still (p : Pond) : Pond := { p with rebind := none }

/-- A step that touches the loft: the lines, their clock and the moving lines of ponds alone. -/
structure LoftTouched (s t : State) : Prop where
  eq : ∃ l c ps, t = { s with mem := { s.mem with loft := l, loftClock := c, ponds := ps } }
  ponds : ∀ k, (t.mem.ponds.at? k).map Pond.still = (s.mem.ponds.at? k).map Pond.still

@[refl] theorem LoftTouched.refl (s : State) : LoftTouched s s := ⟨⟨_, _, _, rfl⟩, fun _ => rfl⟩

theorem LoftTouched.trans {s t u : State} (h : LoftTouched s t) (k : LoftTouched t u) : LoftTouched s u := by
  obtain ⟨⟨l, c, ps, rfl⟩, hp⟩ := h
  obtain ⟨⟨l', c', ps', rfl⟩, hp'⟩ := k
  exact ⟨⟨l', c', ps', rfl⟩, fun k => (hp' k).trans (hp k)⟩

theorem LoftTouched.foldl {β : Type} {g : State → β → State} (hg : ∀ s b, LoftTouched s (g s b)) (l : List β) (s : State) :
    LoftTouched s (l.foldl g s) := by
  induction l generalizing s with
  | nil => exact .refl s
  | cons b l ih => exact (hg s b).trans (ih _)

theorem LoftTouched.ite {c : Prop} [Decidable c] {s t u : State} (ht : LoftTouched s t) (hu : LoftTouched s u) :
    LoftTouched s (if c then t else u) := by
  split
  · exact ht
  · exact hu

/-- A table whose every value is changed. -/
theorem Tab.at?_map {α : Type} (t : Tab α) (g : Nat × α → Nat × α) (hg : ∀ p, (g p).1 = p.1) (k : Nat) :
    Tab.at? (t.map g) k = (t.at? k).map (fun v => (g (k, v)).2) := by
  induction t with
  | nil => rfl
  | cons p t ih =>
    obtain ⟨a, v⟩ := p
    have hga := hg (a, v)
    rw [List.map_cons, ← Prod.mk.eta (p := g (a, v)), hga, Tab.at?_cons, Tab.at?_cons, ih]
    split
    · next h =>
      have hk : a = k := h
      rw [hk, Option.map_some]
    · rfl

theorem loftTouched_noteMoving (s : State) (off n : Nat) : LoftTouched s (s.noteMoving off n) := by
  refine ⟨⟨_, _, _, rfl⟩, fun k => ?_⟩
  rw [State.noteMoving, Tab.at?_map _ _ (fun p => ?_), Option.map_map]
  · congr 1
    funext p
    dsimp only [Function.comp]
    split
    · split
      · rfl
      · rfl
    · rfl
  · split
    · split
      · rfl
      · rfl
    · rfl

theorem loftTouched_loftTouch (s : State) (off : Nat) (hint : Hint) (mask : Nat) (write : Bool) :
    LoftTouched s (s.loftTouch off hint mask write) := by
  unfold State.loftTouch
  split
  · rfl
  · refine .ite ⟨⟨_, _, _, rfl⟩, fun _ => rfl⟩ (.ite (.refl _) (LoftTouched.trans ?_
      (LoftTouched.foldl (fun _ _ => loftTouched_noteMoving ..) _ _)))
    exact ⟨⟨_, _, _, rfl⟩, fun _ => rfl⟩

theorem loftTouched_walkTouch (s : State) (die f va pond : Nat) : LoftTouched s (s.walkTouch die f va pond) :=
  LoftTouched.foldl (fun _ _ => loftTouched_loftTouch ..) _ _

/-- The pond of an offset is the same for every step that leaves the plots and the ponds' instances. -/
theorem State.ownedBy_congr {s t : State} (hr : t.mem.remap = s.mem.remap)
    (hp : ∀ k, (t.mem.ponds.at? k).map Pond.still = (s.mem.ponds.at? k).map Pond.still) (off i : Nat) :
    t.ownedBy off i = s.ownedBy off i := by
  rw [State.ownedBy, State.ownedBy, State.plotOf, State.plotOf, hr]
  split
  · next p _ =>
    have h := hp p.owner
    rcases hs : s.mem.ponds.at? p.owner with _ | q <;> rcases ht : t.mem.ponds.at? p.owner with _ | q' <;>
      rw [hs, ht] at h <;> simp only [Option.map_some, Option.map_none, Option.some.injEq, reduceCtorEq] at h ⊢
    have hi : q'.inst = q.inst := show q'.still.inst = q.still.inst by rw [h]
    rw [hi]
  · rfl

theorem State.classify_congr {s t : State} (hr : t.mem.remap = s.mem.remap) (hf : t.fab = s.fab)
    (hp : ∀ k, (t.mem.ponds.at? k).map Pond.still = (s.mem.ponds.at? k).map Pond.still) (fn pa hint : Nat) :
    t.classify fn pa hint = s.classify fn pa hint := by
  simp only [State.classify, State.ownedBy_congr hr hp, State.plotOf, hr, hf] <;> rfl

/-- The translation a walk leaves. -/
def leafOf (s : State) (die f slot va pa span hint : Nat) (g : Bool) : Translation :=
  { die, fn := f, slot := if g then 0 else slot, span, vpage := va >>> span, pa, hint, used := s.xlat.clock + 1 }

theorem leafOf_hits (s : State) (die f slot va pa span hint : Nat) (g : Bool) :
    (leafOf s die f slot va pa span hint g).hits f slot va = true := by
  cases g <;> simp [leafOf, Translation.hits]

/-- A walk counted. -/
def State.walked (s : State) (die : Nat) : State :=
  { s with xlat := { s.xlat with walks := s.xlat.walks.set die (s.xlat.walks.get 0 die + 1) } }

/-- A walk that faults counted. -/
def State.walkFaulted (s : State) (die : Nat) : State :=
  { s.walked die with xlat := { (s.walked die).xlat with faults := s.xlat.faults.set die (s.xlat.faults.get 0 die + 1) } }

theorem State.cachedXlat_of_micro {s : State} {a : Agent} {va tile : Nat} {x : Translation}
    (hm : s.xlat.micro.head? = some (tile - 1, x)) (ht : a.tile = tile) (h0 : 0 < tile) (hx : x.hits a.fn a.slot va = true) :
    s.cachedXlat a va = some x := by
  obtain ⟨rest, hrest⟩ := List.head?_eq_some_iff.1 hm
  have : tile - 1 + 1 = tile := by omega
  rw [State.cachedXlat, hrest, List.find?_cons]
  simp [this, ht, hx]

theorem execWalkDone_leaf {s : State} {die f slot va pa span hint l h : Nat} {g : Bool} {p : Place} (tile op : Nat)
    (hw : s.walkOn die f va = .leaf pa span hint g l) (hc : s.classify f (pa + va % 2 ^ span) hint = .ok p h) :
    ∃ t u : State, execWalkDone die f slot va tile op s = .next t
      ∧ LoftTouched ((({ s.walked die with xlat := { (s.walked die).xlat with clock := s.xlat.clock + 1 } } : State).fillTlb
          (leafOf s die f slot va pa span hint g)).fillWalkCache die f va) u
      ∧ t = if tile = 0 then u else u.fillMicro (tile - 1) (leafOf s die f slot va pa span hint g) := by
  simp only [execWalkDone, hw, hc, Xlat.atLevel]
  exact ⟨_, _, rfl, loftTouched_walkTouch .., rfl⟩

theorem execWalkDone_fault {s : State} {die f va c l : Nat} (slot tile op : Nat) (hw : s.walkOn die f va = .fault c l) :
    execWalkDone die f slot va tile op s = .next
      (match s.op? op with
       | some o => if o.fn = f && (o.phase = .queued || o.phase = .running) then
          (s.walkFaulted die).decide op Status.translationFault (xlatDetail va c l) else s.walkFaulted die
       | none => s.walkFaulted die) := by
  simp only [execWalkDone, hw]
  rfl

/-- Settles O19: the leaf is at the head of the TLB and of the tile's own cache, where the next access finds it first. -/
theorem walksFillTheCaches : Obligations.WalksFillTheCaches := by
  refine ⟨fun s die f slot va tile op pa span hint l g p h hw hc => ?_, fun s die f slot va tile op c l hw => ?_⟩
  · obtain ⟨t, u, hexec, ⟨⟨lf, lc, ps, rfl⟩, hponds⟩, ht⟩ := execWalkDone_leaf (slot := slot) tile op hw hc
    have hfacts : t.xlat.tlb.head? = some (leafOf s die f slot va pa span hint g)
        ∧ (0 < tile → t.xlat.micro.head? = some (tile - 1, leafOf s die f slot va pa span hint g))
        ∧ (tile = 0 → t.xlat.micro = s.xlat.micro)
        ∧ t.mem = { s.mem with loft := lf, loftClock := lc, ponds := ps } ∧ t.host = s.host ∧ t.work = s.work ∧ t.fab = s.fab := by
      rw [ht]
      split
      · next h0 => exact ⟨rfl, fun h => by omega, fun _ => rfl, rfl, rfl, rfl, rfl⟩
      · next h0 => exact ⟨rfl, fun _ => rfl, fun h => absurd h h0, rfl, rfl, rfl, rfl⟩
    obtain ⟨htlb, hmicro, hnone, hmem, hhost, hwork, hfab⟩ := hfacts
    refine ⟨t, hexec, ⟨leafOf s die f slot va pa span hint g, hmicro, hnone, htlb, rfl, rfl, rfl, rfl, rfl, rfl, rfl⟩,
      fun a hf hs hti h0 hva => ?_, by rw [hmem], by rw [hmem], by rw [hmem], by rw [hmem], hhost, hwork⟩
    have hcache := State.cachedXlat_of_micro (a := a) (va := va) (hmicro h0) hti h0 (by rw [hf, hs]; exact leafOf_hits ..)
    have hclass := State.classify_congr (s := s) (t := t) (by rw [hmem]) hfab (fun k => by rw [hmem]; exact hponds k) f
      (pa + va % 2 ^ span) hint
    have hlt : ¬ 2 ^ 55 ≤ va := by omega
    rw [State.translate, if_neg hlt, hcache, hf]
    show (t.classify f (pa + va % 2 ^ span) hint).atLevel _ = _
    rw [hclass, hc, Xlat.atLevel]
    exact fun _ _ h => nomatch h
  · have happly : ∀ t : State, Apart (s.walkFaulted die) t → t.xlat.tlb = s.xlat.tlb ∧ t.xlat.micro = s.xlat.micro
        ∧ t.xlat.faults.get 0 die = s.xlat.faults.get 0 die + 1 ∧ t.xlat.walks.get 0 die = s.xlat.walks.get 0 die + 1
        ∧ t.mem = s.mem := by
      intro t ha
      rw [ha.xlat, ha.mem]
      exact ⟨rfl, rfl, Tab.get_set_self .., Tab.get_set_self .., rfl⟩
    have hap : Apart (s.walkFaulted die) (match s.op? op with
        | some o => if o.fn = f && (o.phase = .queued || o.phase = .running) then
          (s.walkFaulted die).decide op Status.translationFault (xlatDetail va c l) else s.walkFaulted die
        | none => s.walkFaulted die) := by
      split
      · split
        · exact apart_decide ..
        · rfl
      · rfl
    obtain ⟨h1, h2, h3, h4, h5⟩ := happly _ hap
    refine ⟨_, execWalkDone_fault slot tile op hw, h1, h2, h3, h4, h5, fun o ho hf hp hs => ?_⟩
    have hd := State.decide_op?_self (s := s.walkFaulted die) Status.translationFault (xlatDetail va c l) ho (by simp [hp])
    simp only [ho, hf, hp, decide_true, Bool.or_true, Bool.and_self, ↓reduceIte, hd, Option.map_some]
    rfl

end Sys2Proof.Machine
end

section
/-! Events and interrupts (R362, R364, R368, R373): what a posted event can change. -/

namespace Sys2Proof.Machine

theorem Tab.set_set {α : Type} (t : Tab α) (k : Nat) (u v : α) : (t.set k u).set k v = t.set k v := by
  induction t with
  | nil => simp [Tab.set]
  | cons p t ih =>
    obtain ⟨a, w⟩ := p
    by_cases h1 : k < a
    · simp [Tab.set, h1]
    · by_cases h2 : k = a
      · simp [Tab.set, h2]
      · simp [Tab.set, h1, h2, ih]

@[simp] theorem State.setFn_setFn (s : State) (f : Nat) (u v : Fn) : (s.setFn f u).setFn f v = s.setFn f v := by
  rw [State.setFn, State.setFn, State.setFn]
  dsimp only
  rw [Tab.set_set]

/-- Where an event queue lies in host memory. -/
def EventQueue.place (q : EventQueue) : Nat × Nat × Nat := (q.base, q.headAddr, q.log2)

/-- A step that writes events, completions and interrupts: of the functions it changes event queues and vectors alone. -/
structure Told (s t : State) : Prop where
  eq : ∃ fs ws ms, t = { s with host := { s.host with fns := fs, writes := ws, msis := ms } }
  fns : ∀ g, ∃ e m, t.fn g = { s.fn g with eq := e, msix := m } ∧ e.map EventQueue.place = (s.fn g).eq.map EventQueue.place

@[refl] theorem Told.refl (s : State) : Told s s := ⟨⟨_, _, _, rfl⟩, fun g => ⟨(s.fn g).eq, (s.fn g).msix, rfl, rfl⟩⟩

theorem Told.trans {s t u : State} (h : Told s t) (k : Told t u) : Told s u := by
  obtain ⟨⟨fs, ws, ms, rfl⟩, hf⟩ := h
  obtain ⟨⟨fs', ws', ms', rfl⟩, hf'⟩ := k
  refine ⟨⟨fs', ws', ms', rfl⟩, fun g => ?_⟩
  obtain ⟨e, m, hg, hp⟩ := hf g
  obtain ⟨e', m', hg', hp'⟩ := hf' g
  exact ⟨e', m', by rw [hg', hg], by rw [hp', hg, hp]⟩

/-- A function's event queue and vectors changed. -/
theorem told_setFn (s : State) (f : Nat) (e : Option EventQueue) (m : Tab MsixVector)
    (h : e.map EventQueue.place = (s.fn f).eq.map EventQueue.place) : Told s (s.setFn f { s.fn f with eq := e, msix := m }) := by
  refine ⟨⟨_, _, _, rfl⟩, fun g => ?_⟩
  by_cases hg : g = f
  · rw [hg, State.setFn_fn_self]
    exact ⟨e, m, rfl, h⟩
  · rw [State.setFn_fn_ne _ _ hg]
    exact ⟨(s.fn g).eq, (s.fn g).msix, rfl, rfl⟩

theorem told_sendMsi (s : State) (f v : Nat) : Told s (s.sendMsi f v) := by
  unfold State.sendMsi
  split
  · rfl
  · dsimp only
    split
    · exact told_setFn s f (s.fn f).eq _ rfl
    · exact ⟨⟨_, _, _, rfl⟩, fun g => ⟨(s.fn g).eq, (s.fn g).msix, rfl, rfl⟩⟩

theorem told_writeHost (s : State) (f addr : Nat) (b : List Byte) : Told s (s.writeHost f addr b) :=
  ⟨⟨_, _, _, rfl⟩, fun g => ⟨(s.fn g).eq, (s.fn g).msix, rfl, rfl⟩⟩

theorem told_writeEvent (s : State) (f : Nat) (q : EventQueue) (code payload : Nat)
    (h : (s.fn f).eq.map EventQueue.place = some q.place) : Told s (s.writeEvent f q code payload) :=
  (told_writeHost ..).trans ((told_setFn _ f (some q.advance) _ (by rw [State.writeHost_fn, h]; rfl)).trans (told_sendMsi ..))

theorem told_post (s : State) (f code payload : Nat) : Told s (s.post f code payload) := by
  unfold State.post
  split
  · rfl
  · split
    · rfl
    · next q hq =>
      split
      · exact told_setFn s f _ _ (by rw [hq]; rfl)
      · exact told_writeEvent _ _ _ _ _ (by rw [hq]; rfl)

@[simp] theorem State.sendMsi_fn_ne (s : State) {f g : Nat} (v : Nat) (h : g ≠ f) : (s.sendMsi f v).fn g = s.fn g := by
  unfold State.sendMsi
  split
  · rfl
  · dsimp only
    split
    · exact State.setFn_fn_ne _ _ h
    · rfl

@[simp] theorem State.sendMsi_writes (s : State) (f v : Nat) : (s.sendMsi f v).host.writes = s.host.writes := by
  unfold State.sendMsi
  split
  · rfl
  · dsimp only
    split
    · rfl
    · rfl

@[simp] theorem State.sendMsi_fn_eq (s : State) (f v g : Nat) : ((s.sendMsi f v).fn g).eq = (s.fn g).eq := by
  unfold State.sendMsi
  split
  · rfl
  · dsimp only
    split
    · by_cases hg : g = f
      · rw [hg, State.setFn_fn_self]
      · rw [State.setFn_fn_ne _ _ hg]
    · rfl

@[simp] theorem State.writeEvent_fn_ne (s : State) {f g : Nat} (q : EventQueue) (code payload : Nat) (h : g ≠ f) :
    (s.writeEvent f q code payload).fn g = s.fn g := by
  rw [State.writeEvent, State.sendMsi_fn_ne _ _ h, State.setFn_fn_ne _ _ h, State.writeHost_fn]

@[simp] theorem State.post_fn_ne (s : State) {f g : Nat} (code payload : Nat) (h : g ≠ f) :
    (s.post f code payload).fn g = s.fn g := by
  unfold State.post
  split
  · rfl
  · split
    · rfl
    · split
      · exact State.setFn_fn_ne _ _ h
      · exact State.writeEvent_fn_ne _ _ _ _ h

section
variable {s t : State} (h : Told s t)
include h

theorem Told.mem : t.mem = s.mem := by obtain ⟨⟨_, _, _, rfl⟩, -⟩ := h; rfl
theorem Told.work : t.work = s.work := by obtain ⟨⟨_, _, _, rfl⟩, -⟩ := h; rfl
theorem Told.eng : t.eng = s.eng := by obtain ⟨⟨_, _, _, rfl⟩, -⟩ := h; rfl
theorem Told.fab : t.fab = s.fab := by obtain ⟨⟨_, _, _, rfl⟩, -⟩ := h; rfl
theorem Told.apart : Apart s t := by
  obtain ⟨⟨_, _, _, rfl⟩, -⟩ := h
  exact ⟨rfl, rfl, rfl, rfl, rfl, rfl, rfl, rfl, rfl, rfl⟩
theorem Told.op? (id : Nat) : t.op? id = s.op? id := by rw [State.op?, h.work, State.op?]
theorem Told.ctxs : t.host.ctxs = s.host.ctxs := by obtain ⟨⟨_, _, _, rfl⟩, -⟩ := h; rfl
theorem Told.slots : t.host.slots = s.host.slots := by obtain ⟨⟨_, _, _, rfl⟩, -⟩ := h; rfl
theorem Told.lines : t.host.lines = s.host.lines := by obtain ⟨⟨_, _, _, rfl⟩, -⟩ := h; rfl
theorem Told.cqs (g : Nat) : (t.fn g).cqs = (s.fn g).cqs := by obtain ⟨e, m, hg, -⟩ := h.fns g; rw [hg]
theorem Told.sqs (g : Nat) : (t.fn g).sqs = (s.fn g).sqs := by obtain ⟨e, m, hg, -⟩ := h.fns g; rw [hg]
theorem Told.state (g : Nat) : (t.fn g).state = (s.fn g).state := by obtain ⟨e, m, hg, -⟩ := h.fns g; rw [hg]

theorem Told.silent (g : Nat) : t.silent g = s.silent g := by
  have hs := h.state g
  obtain ⟨⟨_, _, _, rfl⟩, -⟩ := h
  exact congrArg (fun x => s.mute || (g ≠ 0 && x = InstState.resetting)) hs
end

/-- Settles O8: an event is written where the queue has room and holds nothing back, and counted otherwise. -/
theorem postedEventIsWritten : Obligations.PostedEventIsWritten := by
  intro s f code payload q hs hq
  have hpost : s.post f code payload = if (q.discarded ≠ 0 || !q.room) = true
      then s.setFn f { s.fn f with eq := some { q with discarded := q.discarded + 1 } } else s.writeEvent f q code payload := by
    rw [State.post, hs, hq]
    rfl
  have htold := told_post s f code payload
  refine ⟨fun h0 hr => ?_, fun h => ?_, htold.mem, htold.work, fun g hg => State.post_fn_ne _ _ _ hg⟩
  · rw [hpost, if_neg (by simp [h0, hr])]
    refine ⟨?_, ?_⟩
    · rw [State.writeEvent, State.sendMsi_writes]
      rfl
    · rw [State.writeEvent, State.sendMsi_fn_eq, State.setFn_fn_self]
      rfl
  · rw [hpost, if_pos]
    rcases h with h | h
    · simp [h]
    · simp [h]

end Sys2Proof.Machine
end

section
/-! The set-up commands of the host interface and the reads of its words (R354 to R373). -/

namespace Sys2Proof.Machine

/-- Settles O1: the two branches of a step. -/
theorem stepRunsFrontCommand : Obligations.StepRunsFrontCommand :=
  ⟨fun c rest s h => by rw [step, h], fun s h => by rw [step, h]⟩

theorem State.runCmd_of_ready {s : State} {f : Nat} (body : State → State) (h : s.cmdReady f) : s.runCmd f body = body s := by
  obtain ⟨hex, hsil, hboot, hbusy⟩ := h
  rw [State.runCmd, hex, hsil, hboot, hbusy]
  rfl

/-- A set-up command none of whose causes holds. -/
theorem State.cmdWith_of_ready {s : State} {f : Nat} {causes : List (Bool × Nat)} (body : State → State) (h : s.cmdReady f)
    (hc : ∀ c ∈ causes, c.1 = false) : s.cmdWith f causes body = (body s).endCmd f 0 := by
  have hfirst : firstCause causes = Cmd.ok := by
    induction causes with
    | nil => rfl
    | cons c l ih =>
      obtain ⟨b, st⟩ := c
      have hb : b = false := hc _ (.head _)
      rw [firstCause, hb, if_neg Bool.false_ne_true, ih fun c hc' => hc c (.tail _ hc')]
  rw [State.cmdWith, State.runCmd_of_ready _ h]
  simp only [hfirst, ↓reduceIte]
  rfl

theorem State.notEnabled_of_mayCreate {s : State} {f : Nat} (h : s.mayCreate f) : s.notEnabled f = false := by
  rcases h with h | h
  · simp [State.notEnabled, h]
  · simp [State.notEnabled, h]

@[simp] theorem State.endCmd_fn_self (s : State) (f st : Nat) :
    (s.endCmd f st).fn f = { s.fn f with cmdStatus := st, busy := false } := State.setFn_fn_self ..

@[simp] theorem State.endCmd_fn_ne (s : State) {f g : Nat} (st : Nat) (h : g ≠ f) : (s.endCmd f st).fn g = s.fn g :=
  State.setFn_fn_ne _ _ h

/-- The queue CREATE_SQ makes of its arguments. -/
def Fn.newSq (F : Fn) (cluster : Nat) (cached : Bool) : SubmissionQueue :=
  { base := F.argAddr 0, dbAddr := F.argAddr 2, log2 := bitsOf (F.arg 4) 0 5, cq := bitsOf (F.arg 4) 16 6
    ctx := bitsOf (F.arg 5) 0 14, version := 1, head := 0, tail := 0, stopped := false, destroying := false, cluster, cached
    stepLeft := 0, stepId := 0 }

theorem exec_createEq (f : Nat) (s : State) : exec (.createEq f) s = .next (s.createEq f) := rfl
theorem exec_createCq (f : Nat) (s : State) : exec (.createCq f) s = .next (s.createCq f) := rfl
theorem exec_setCtxTable (f : Nat) (s : State) : exec (.setCtxTable f) s = .next (s.setCtxTable f) := rfl

/-- The queue CREATE_EQ makes of its arguments. -/
def Fn.newEq (F : Fn) : EventQueue :=
  { base := F.argAddr 0, headAddr := F.argAddr 2, log2 := bitsOf (F.arg 4) 0 5, next := 0, phase := true, seq := 0, head := 0
    badRun := false, discarded := 0 }

/-- The queue CREATE_CQ makes of its arguments. -/
def Fn.newCq (F : Fn) : CompletionQueue :=
  { base := F.argAddr 0, headAddr := F.argAddr 2, log2 := bitsOf (F.arg 4) 0 5, irqMode := bitsOf (F.arg 4) 16 2
    irqCount := bitsOf (F.arg 4) 24 8 + 1, irqDelay := bitsOf (F.arg 5) 0 10, next := 0, phase := true, head := 0
    badRun := false, reserved := 0, stallSince := 0, stallPosted := false, counted := 0, countedAt := 0 }

theorem State.createEq_of_ready {s : State} {f : Nat} (h : s.cmdReady f) (hen : s.mayCreate f) (ha : (s.fn f).argAddr 0 % 4096 = 0)
    (hh : (s.fn f).argAddr 2 % 8 = 0) (hlo : 4 ≤ bitsOf ((s.fn f).arg 4) 0 5) (hhi : bitsOf ((s.fn f).arg 4) 0 5 ≤ 14)
    (he : (s.fn f).eq = none) :
    s.createEq f = (if f = 0 then (s.setFn f { s.fn f with eq := some (s.fn f).newEq }).securityStatus
      else s.setFn f { s.fn f with eq := some (s.fn f).newEq }).endCmd f 0 := by
  have hen := State.notEnabled_of_mayCreate hen
  rw [State.createEq, State.cmdWith_of_ready _ h]
  · rfl
  · simp only [List.forall_mem_cons, ha, hh, he, hen]
    simp
    omega

theorem State.createCq_of_ready {s : State} {f : Nat} (h : s.cmdReady f) (hen : s.mayCreate f) (ha : (s.fn f).argAddr 0 % 4096 = 0)
    (hh : (s.fn f).argAddr 2 % 8 = 0) (hlo : 4 ≤ bitsOf ((s.fn f).arg 4) 0 5) (hhi : bitsOf ((s.fn f).arg 4) 0 5 ≤ 16)
    (hi : bitsOf ((s.fn f).arg 4) 16 2 ≠ 3) (hc : (s.fn f).cqs.at? (bitsOf ((s.fn f).arg 4) 8 6) = none) :
    s.createCq f = (s.setCq f (bitsOf ((s.fn f).arg 4) 8 6) (s.fn f).newCq).endCmd f 0 := by
  have hen := State.notEnabled_of_mayCreate hen
  rw [State.createCq, State.cmdWith_of_ready _ h]
  · rfl
  · simp only [List.forall_mem_cons, ha, hh, hc, hen]
    simp [hi]
    omega

theorem State.setCtxTable_of_ready {s : State} {f : Nat} (h : s.cmdReady f) (ha : (s.fn f).argAddr 0 % 64 = 0)
    (hq : (s.fn f).sqs = []) (hn : bitsOf ((s.fn f).arg 2) 0 15 ≤ s.ctxQuota f) :
    s.setCtxTable f = (s.setFn f { s.fn f with
      ctxBase := (s.fn f).argAddr 0, ctxCount := bitsOf ((s.fn f).arg 2) 0 15, ctxSet := true }).endCmd f 0 := by
  rw [State.setCtxTable, State.cmdWith_of_ready _ h]
  simp only [List.forall_mem_cons, ha, hq]
  simp
  omega

/-- Settles O2: each command none of whose causes holds runs its body, and OK is its status. -/
theorem creationCommandsTakeEffect : Obligations.CreationCommandsTakeEffect := by
  refine ⟨fun s f h hen ha hh hlo hhi he => ?_, fun s f h hen ha hh hlo hhi hi hc => ?_, fun s f h ha hq hn => ?_⟩
  · have hexec := State.createEq_of_ready h hen ha hh hlo hhi he
    generalize ht : (if f = 0 then _ else _ : State) = t at hexec
    have htold : Told (s.setFn f { s.fn f with eq := some (s.fn f).newEq }) t := by
      rw [← ht]
      split
      · exact told_post ..
      · rfl
    have hne : ∀ g, g ≠ f → t.fn g = s.fn g := fun g hg => by
      rw [← ht]
      split
      · next h0 => rw [State.securityStatus, State.post_fn_ne _ _ _ (by omega), State.setFn_fn_ne _ _ hg]
      · rw [State.setFn_fn_ne _ _ hg]
    obtain ⟨e, m, hf, hp⟩ := htold.fns f
    rw [State.setFn_fn_self] at hf hp
    obtain ⟨q, rfl, hq⟩ := Option.map_eq_some_iff.1 hp
    obtain ⟨fs, ws, ms, htm⟩ := htold.eq
    refine ⟨t.endCmd f 0, q, (exec_createEq ..).trans (congrArg _ hexec), ?_, congrArg (·.1) hq, congrArg (·.2.1) hq,
      congrArg (·.2.2) hq, ?_⟩
    · rw [State.endCmd_fn_self, hf]
    · rw [State.endCmd_fn_self, hf]
      refine ⟨rfl, rfl, rfl, rfl, fun g hg => by rw [State.endCmd_fn_ne _ _ hg, hne g hg], ?_⟩
      rw [htm]
      exact ⟨rfl, rfl, rfl, rfl, rfl, rfl, rfl, rfl, rfl, rfl, rfl, rfl, rfl, rfl, rfl⟩
  · refine ⟨_, (s.fn f).newCq, (exec_createCq ..).trans (congrArg _ (State.createCq_of_ready h hen ha hh hlo hhi hi hc)), ?_, rfl, rfl, rfl,
      rfl, rfl, rfl, rfl, rfl, ?_⟩
    · rw [State.endCmd_fn_self, State.setCq, State.setFn_fn_self, Tab.at?_set_self]
    · rw [State.endCmd_fn_self, State.setCq, State.setFn_fn_self]
      refine ⟨rfl, rfl, rfl, rfl, fun k hk => Tab.at?_set_ne _ _ hk, fun g hg => ?_, ?_⟩
      · rw [State.endCmd_fn_ne _ _ hg, State.setFn_fn_ne _ _ hg]
      · exact ⟨rfl, rfl, rfl, rfl, rfl, rfl, rfl, rfl, rfl, rfl, rfl, rfl, rfl, rfl, rfl⟩
  · refine ⟨_, (exec_setCtxTable ..).trans (congrArg _ (State.setCtxTable_of_ready h ha hq hn)), ?_⟩
    rw [State.endCmd_fn_self, State.setFn_fn_self]
    refine ⟨rfl, rfl, rfl, rfl, rfl, rfl, rfl, fun g hg => ?_, ?_⟩
    · rw [State.endCmd_fn_ne _ _ hg, State.setFn_fn_ne _ _ hg]
    · exact ⟨rfl, rfl, rfl, rfl, rfl, rfl, rfl, rfl, rfl, rfl, rfl, rfl, rfl, rfl, rfl⟩

/-- A table of rings searched: no ring's word lies at an address, none of another function shares its line. -/
theorem rings_any_eq_false {s : State} {q : Nat × Nat → Bool}
    (h : ∀ p ∈ s.host.fns, ∀ r ∈ p.2.sqs, q (p.1, r.2.dbAddr) = false) :
    ((s.host.fns.map (fun p => p.2.sqs.map (fun r => (p.1, r.2.dbAddr)))).flatten).any q = false := by
  refine List.any_eq_false.2 fun x hx => ?_
  obtain ⟨l, hl, hxl⟩ := List.mem_flatten.1 hx
  obtain ⟨p, hp, rfl⟩ := List.mem_map.1 hl
  obtain ⟨r, hr, rfl⟩ := List.mem_map.1 hxl
  rw [h p hp r hr]
  exact Bool.false_ne_true

theorem State.createSq_of_ready {s : State} {f r : Nat} (h : s.cmdReady f) (hen : s.mayCreate f)
    (ha : (s.fn f).argAddr 0 % 4096 = 0) (hd : (s.fn f).argAddr 2 % 8 = 0) (hlo : 4 ≤ bitsOf ((s.fn f).arg 4) 0 5)
    (hhi : bitsOf ((s.fn f).arg 4) 0 5 ≤ 16) (hv : bitsOf ((s.fn f).arg 4) 24 4 ≠ 0)
    (hk : (s.fn f).sqs.at? (bitsOf ((s.fn f).arg 4) 8 6) = none)
    (hrings : ∀ p ∈ s.host.fns, ∀ q ∈ p.2.sqs, q.2.dbAddr ≠ (s.fn f).argAddr 2 ∧
      (q.2.dbAddr / 64 = (s.fn f).argAddr 2 / 64 → p.1 = f))
    (heq : (s.fn f).eq.isSome = true) (hcq : ((s.fn f).cqs.at? (bitsOf ((s.fn f).arg 4) 16 6)).isSome = true)
    (hquota : (s.fn f).sqs.length < s.sqQuota f) (hctx : bitsOf ((s.fn f).arg 5) 0 14 < (s.fn f).ctxCount)
    (hrec : s.recordOk f r = true) :
    ∃ (lines : Tab DoorbellLine) (ctxs : Tab Ctx) (cluster : Nat) (cached : Bool),
      s.createSq f r = (({ s with host := { s.host with lines, ctxs } } : State).setFn f { s.fn f with
        sqs := (s.fn f).sqs.set (bitsOf ((s.fn f).arg 4) 8 6)
          ((s.fn f).newSq cluster cached)
        resVersion := 1, resDbMode := !cached }).endCmd f 0 := by
  have hen := State.notEnabled_of_mayCreate hen
  have h1 := rings_any_eq_false (s := s) (q := fun x => x.2 = (s.fn f).argAddr 2)
    fun p hp q hq => decide_eq_false (hrings p hp q hq).1
  have h2 := rings_any_eq_false (s := s) (q := fun x => x.1 ≠ f && x.2 / 64 = (s.fn f).argAddr 2 / 64) fun p hp q hq => by
    have := (hrings p hp q hq).2
    simp only [Bool.and_eq_false_iff, decide_eq_false_iff_not]
    tauto
  rw [State.createSq, State.cmdWith_of_ready _ h]
  · dsimp only
    rw [State.setSq, State.setFn_setFn, State.setFn_fn_self]
    exact ⟨_, _, _, _, rfl⟩
  · have heq' : (s.fn f).eq.isNone = false := by rw [← Option.not_isSome, heq]; rfl
    have hcq' : ((s.fn f).cqs.at? (bitsOf ((s.fn f).arg 4) 16 6)).isNone = false := by rw [← Option.not_isSome, hcq]; rfl
    simp only [List.forall_mem_cons, h1, h2, ha, hd, hk, hen, hrec, heq', hcq']
    simp [hv]
    omega

theorem exec_createSq (f r : Nat) (s : State) : exec (.createSq f r) s = .next (s.createSq f r) := rfl

/-- Settles O3: the rings of a command that passes its checks are the old ones and an empty one. -/
theorem createSqMakesAnEmptyRing : Obligations.CreateSqMakesAnEmptyRing := by
  intro s f r h hen a c ha hd hlo hhi hv hk hrings heq hcq hquota hctx hrec
  obtain ⟨lines, ctxs, cluster, cached, hexec⟩ :=
    State.createSq_of_ready h hen ha hd hlo hhi hv hk hrings heq hcq hquota hctx hrec
  refine ⟨_, (s.fn f).newSq cluster cached, (exec_createSq ..).trans (congrArg _ hexec), ?_⟩
  rw [State.endCmd_fn_self, State.setFn_fn_self]
  exact ⟨Tab.at?_set_self .., rfl, rfl, rfl, rfl, rfl, rfl, rfl, rfl, rfl, rfl, rfl, rfl, rfl, rfl, rfl,
    fun k hk => Tab.at?_set_ne _ _ hk, rfl, rfl⟩

theorem exec_destroyEq (f : Nat) (s : State) : exec (.destroyEq f) s = .next (s.destroyEq f) := rfl
theorem exec_destroyCq (f : Nat) (s : State) : exec (.destroyCq f) s = .next (s.destroyCq f) := rfl
theorem exec_destroySq (f : Nat) (s : State) : exec (.destroySq f) s = .next (s.destroySq f) := rfl
theorem exec_destroySqDone (f : Nat) (s : State) : exec (.destroySqDone f) s = execDestroySqDone f s := rfl

/-- A context's last ring gone: contexts, slots and the ponds' switches alone change. -/
theorem State.lastRingGone_eq (s : State) (c : Nat) : ∃ cs ss ps,
    s.lastRingGone c = { s with host := { s.host with ctxs := cs, slots := ss }, mem := { s.mem with ponds := ps } }
      ∧ ∀ k, (Tab.at? ps k).map (·.binding) = (s.mem.ponds.at? k).map (·.binding) := by
  unfold State.lastRingGone
  split
  · exact ⟨_, _, _, rfl, fun _ => rfl⟩
  · have hponds : ∀ k, ((s.unloadSlot c).mem.ponds.at? k).map (·.binding) = (s.mem.ponds.at? k).map (·.binding) := fun k => by
      rw [State.unloadSlot, Tab.at?_map _ _ fun p => by split <;> rfl, Option.map_map]
      congr 1
      funext p
      dsimp only [Function.comp]
      split
      · rfl
      · rfl
    dsimp only
    split
    · exact ⟨_, _, _, rfl, hponds⟩
    · exact ⟨_, _, _, rfl, hponds⟩

theorem execDestroySqDone_of_idle {s : State} {f : Nat} {q : SubmissionQueue} (hb : (s.fn f).busy = true)
    (hq : (s.fn f).sqs.at? (s.fn f).cmdSq = some q) (hd : q.destroying = true)
    (hops : ∀ p ∈ s.work.ops, ¬(p.2.fn = f ∧ p.2.sq = (s.fn f).cmdSq)) :
    ∃ u : State, execDestroySqDone f s = .next ((u.lastRingGone (f * 16384 + q.ctx)).endCmd f 0)
      ∧ (u.fn f).sqs = (s.fn f).sqs.erase (s.fn f).cmdSq ∧ (∀ g, g ≠ f → u.fn g = s.fn g) ∧ SameBytes s u
      ∧ u.mem.remap = s.mem.remap ∧ u.work = s.work
      ∧ ∀ k, (u.mem.ponds.at? k).map (·.binding) = (s.mem.ponds.at? k).map (·.binding) := by
  have hops' : s.work.ops.any (fun p => p.2.fn = f && p.2.sq = (s.fn f).cmdSq) = false :=
    List.any_eq_false.2 fun p hp => by simpa using hops p hp
  have hponds : ∀ k, (Tab.at? (s.mem.ponds.map (fun (p : Nat × Pond) =>
      (p.1, { p.2 with beats := p.2.beats.map (fun b : Beats => b.dropRing f (s.fn f).cmdSq) }))) k).map (·.binding)
        = (s.mem.ponds.at? k).map (·.binding) := fun k => by
    rw [Tab.at?_map, Option.map_map]
    · rfl
    · intro p
      rfl
  simp only [execDestroySqDone, hq, hb, hd, hops', Bool.not_true, Bool.or_self, Bool.false_eq_true, ↓reduceIte]
  split
  · exact ⟨_, rfl, congrArg Fn.sqs (State.setFn_fn_self ..), fun g hg => State.setFn_fn_ne _ _ hg, ⟨rfl, rfl, rfl⟩, rfl, rfl, hponds⟩
  · exact ⟨_, rfl, congrArg Fn.sqs (State.setFn_fn_self ..), fun g hg => State.setFn_fn_ne _ _ hg, ⟨rfl, rfl, rfl⟩, rfl, rfl, hponds⟩

/-- Settles O4: what each destroy command names goes, and nothing else of the function. -/
theorem destroyCommandsTakeEffect : Obligations.DestroyCommandsTakeEffect := by
  refine ⟨fun s f h he hq => ?_, fun s f h hc hq => ?_, fun s f q h hq => ?_, fun s f q hb hq hd hops => ?_⟩
  · have he' : (s.fn f).eq.isNone = false := by rw [← Option.not_isSome, he]; rfl
    rw [exec_destroyEq, State.destroyEq, State.cmdWith_of_ready _ h, State.endCmd, State.setFn_setFn, State.setFn_fn_self]
    simp [he', hq]
  · have hc' : ((s.fn f).cqs.at? (bitsOf ((s.fn f).arg 4) 8 6)).isNone = false := by rw [← Option.not_isSome, hc]; rfl
    have hq' : (s.fn f).sqs.any (fun q => q.2.cq = bitsOf ((s.fn f).arg 4) 8 6) = false :=
      List.any_eq_false.2 fun p hp => by simpa using hq p hp
    rw [exec_destroyCq, State.destroyCq, State.cmdWith_of_ready _ h, State.endCmd, State.setFn_setFn, State.setFn_fn_self]
    simp only [List.forall_mem_cons, hc', hq']
    simp
  · rw [exec_destroySq, State.destroySq, State.runCmd_of_ready _ h]
    simp only [hq]
    rw [State.setSq, State.setFn_setFn, State.setFn_fn_self]
  · obtain ⟨u, hexec, hsqs, hne, hbytes, hremap, hwork, hponds⟩ := execDestroySqDone_of_idle hb hq hd hops
    obtain ⟨cs, ss, ps, hgone, hponds'⟩ := u.lastRingGone_eq (f * 16384 + q.ctx)
    rw [hgone] at hexec
    refine ⟨_, (exec_destroySqDone ..).trans hexec, ?_⟩
    rw [State.endCmd_fn_self]
    exact ⟨hsqs, rfl, rfl, hbytes.hbm, hbytes.sram, hbytes.prog, hremap, hwork, fun k => (hponds' k).trans (hponds k),
      fun g hg => (State.endCmd_fn_ne _ _ hg).trans (hne g hg)⟩

end Sys2Proof.Machine
end

section
/-! The words the device reads of host memory (R356, R362, R370 to R373). -/

namespace Sys2Proof.Machine

/-- A note of a context's work changes contexts and slots alone. -/
theorem State.noteCtxWork_eq (s : State) (c : Nat) : ∃ cs ss,
    s.noteCtxWork c = { s with host := { s.host with ctxs := cs, slots := ss } } := ⟨_, _, rfl⟩

theorem headValid_eq {w n : Nat} (hn : n ≤ 16) : headValid w n = decide (w < 2 ^ n) := by
  have hpow : 2 ^ n ≤ 2 ^ 16 := Nat.pow_le_pow_right (by decide) hn
  rw [headValid]
  by_cases h : w < 2 ^ n
  · have : w / 65536 = 0 := Nat.div_eq_of_lt (by omega)
    simp [h, this]
  · simp [h]

theorem headValid_of_le {w n : Nat} (h : 2 ^ n ≤ w) : headValid w n = false := by
  simp [headValid, Nat.not_lt.2 h]

theorem State.readLine_of_one {s : State} {line f k d : Nat} (data : Nat) (h : s.ringsOf line = [(f, k, d)]) :
    s.readLine line data = s.readDoorbell f k (bitsOf data (64 * d) 64) := by
  rw [State.readLine, h]
  rfl

/-- A valid word becomes the ring's tail. -/
theorem State.readDoorbell_valid {s : State} {f k w : Nat} {q : SubmissionQueue} (hq : (s.fn f).sqs.at? k = some q)
    (hs : q.stopped = false) (hd : q.destroying = false) (hw : w < 2 ^ q.log2) (hl : q.log2 ≤ 16) :
    s.readDoorbell f k w = (s.setSq f k { q with tail := w }).noteCtxWork (f * 16384 + q.ctx) := by
  rw [State.readDoorbell, hq]
  simp only [hs, hd, headValid_eq hl, hw, Bool.or_self, Bool.false_eq_true, decide_true, ↓reduceIte]

/-- An invalid word stops the ring. -/
theorem State.readDoorbell_invalid {s : State} {f k w : Nat} {q : SubmissionQueue} (hq : (s.fn f).sqs.at? k = some q)
    (hs : q.stopped = false) (hd : q.destroying = false) (hw : 2 ^ q.log2 ≤ w) :
    s.readDoorbell f k w = (s.setSq f k { q with stopped := true }).post f Event.queueError (queueErrorPayload k 0 w) := by
  rw [State.readDoorbell, hq]
  simp [hs, hd, headValid_of_le hw]

theorem exec_doorbellSnoop (line data : Nat) (s : State) : exec (.doorbellSnoop line data) s = execDoorbellSnoop line data s := rfl
theorem exec_doorbellPoll (line data : Nat) (s : State) : exec (.doorbellPoll line data) s = execDoorbellPoll line data s := rfl

theorem State.setSq_at?_self (s : State) (f k : Nat) (q : SubmissionQueue) : ((s.setSq f k q).fn f).sqs.at? k = some q := by
  rw [State.setSq, State.setFn_fn_self, Tab.at?_set_self]

theorem State.setCq_at?_self (s : State) (f k : Nat) (q : CompletionQueue) : ((s.setCq f k q).fn f).cqs.at? k = some q := by
  rw [State.setCq, State.setFn_fn_self, Tab.at?_set_self]

theorem newTail_of_one {s : State} {line f k d : Nat} {q : SubmissionQueue} (data : Nat) (h : s.ringsOf line = [(f, k, d)])
    (hq : (s.fn f).sqs.at? k = some q) (hs : q.stopped = false) (hd : q.destroying = false) :
    s.newTail line data = decide (q.tail ≠ bitsOf data (64 * d) 64) := by
  simp [State.newTail, h, hq, hs, hd]

/-- Settles O5: the one ring of the line takes the word, and its poll interval is that of R372. -/
theorem doorbellReadsSetTails : Obligations.DoorbellReadsSetTails := by
  refine ⟨fun s line data f k l q hl hc hr hq hs hd hw hlog => ?_, fun s line data f k l q hl hc he hm hr hq hs hd hw hlog => ?_,
    fun s line data f k l q hl hc hr hq hs hd hw => ?_⟩
  · have hexec : exec (.doorbellSnoop line data) s
        = .next ((s.setSq f k { q with tail := bitsOf data (64 * (q.dbAddr % 64 / 8)) 64 }).noteCtxWork (f * 16384 + q.ctx)) := by
      rw [exec_doorbellSnoop, execDoorbellSnoop, hl]
      simp only [hc, ↓reduceIte]
      rw [State.readLine_of_one data hr, State.readDoorbell_valid hq hs hd hw hlog]
    exact ⟨_, hexec, State.setSq_at?_self .., rfl, rfl, rfl⟩
  · have readLine_of_valid : ∀ {u : State}, u.host.fns = s.host.fns → u.readLine line data
        = (u.setSq f k { q with tail := bitsOf data (64 * (q.dbAddr % 64 / 8)) 64 }).noteCtxWork (f * 16384 + q.ctx) := by
      intro u hu
      have hr' : u.ringsOf line = [(f, k, q.dbAddr % 64 / 8)] := by rw [State.ringsOf, hu, ← hr, State.ringsOf]
      have hq' : (u.fn f).sqs.at? k = some q := by rw [State.fn, hu, ← hq, State.fn]
      rw [State.readLine_of_one data hr', State.readDoorbell_valid hq' hs hd hw hlog]
    have hexec : ∃ u : State, exec (.doorbellPoll line data) s
          = .next ((u.setSq f k { q with tail := bitsOf data (64 * (q.dbAddr % 64 / 8)) 64 }).noteCtxWork (f * 16384 + q.ctx))
        ∧ u = { s with host := { s.host with lines := s.host.lines.set line (l.after (decide (q.tail ≠
            bitsOf data (64 * (q.dbAddr % 64 / 8)) 64)) s.ns) } } := by
      refine ⟨_, ?_, rfl⟩
      rw [exec_doorbellPoll, execDoorbellPoll, hl]
      dsimp only
      rw [if_neg (by simp [hc, he, hm]), newTail_of_one data hr hq hs hd]
      exact congrArg Host.Outcome.next (readLine_of_valid rfl)
    obtain ⟨u, hexec, rfl⟩ := hexec
    refine ⟨_, hexec, State.setSq_at?_self .., ?_, rfl, rfl⟩
    refine (congrArg (Option.map _) (Tab.at?_set_self ..)).trans ?_
    rw [Option.map_some, DoorbellLine.after]
    congr 1
    by_cases h1 : q.tail ≠ bitsOf data (64 * (q.dbAddr % 64 / 8)) 64
    · simp [h1]
    · by_cases h2 : s.ns < l.foundAt + 100000
      · simp [h1, h2]
      · simp [h1, h2]
  · have hexec : exec (.doorbellSnoop line data) s = .next ((s.setSq f k { q with stopped := true }).post f Event.queueError
        (queueErrorPayload k 0 (bitsOf data (64 * (q.dbAddr % 64 / 8)) 64))) := by
      rw [exec_doorbellSnoop, execDoorbellSnoop, hl]
      simp only [hc, ↓reduceIte]
      rw [State.readLine_of_one data hr, State.readDoorbell_invalid hq hs hd hw]
    have htold := told_post (s.setSq f k { q with stopped := true }) f Event.queueError
      (queueErrorPayload k 0 (bitsOf data (64 * (q.dbAddr % 64 / 8)) 64))
    refine ⟨_, hexec, ?_, htold.mem, htold.work⟩
    rw [htold.sqs, State.setSq_at?_self]

theorem exec_cqRoomPoll (f k w : Nat) (s : State) : exec (.cqRoomPoll f k w) s = execCqRoomPoll f k w s := rfl
theorem exec_cqStalled (f k : Nat) (s : State) : exec (.cqStalled f k) s = execCqStalled f k s := rfl
theorem exec_eqHeadPoll (f w : Nat) (s : State) : exec (.eqHeadPoll f w) s = execEqHeadPoll f w s := rfl
theorem exec_irqDelayExpiry (f k : Nat) (s : State) : exec (.irqDelayExpiry f k) s = execIrqDelayExpiry f k s := rfl

theorem execCqRoomPoll_valid {s : State} {f k w : Nat} {q : CompletionQueue} (hq : (s.fn f).cqs.at? k = some q)
    (hr : q.room = false) (hw : w < 2 ^ q.log2) (hl : q.log2 ≤ 16) :
    ∃ q' : CompletionQueue, execCqRoomPoll f k w s = .next (s.setCq f k q') ∧ q'.head = w ∧ q'.next = q.next
      ∧ q'.reserved = q.reserved := by
  simp only [execCqRoomPoll, hq, hr, headValid_eq hl, hw, decide_true, Bool.false_eq_true, ↓reduceIte]
  refine ⟨_, rfl, ?_⟩
  split
  · exact ⟨rfl, rfl, rfl⟩
  · exact ⟨rfl, rfl, rfl⟩

theorem execEqHeadPoll_room {s : State} {f w : Nat} {q : EventQueue} (hq : (s.fn f).eq = some q) (hd : q.discarded ≠ 0)
    (hs : s.silent f = false) (hw : w < 2 ^ q.log2) (hl : q.log2 ≤ 16) (hr : ({ q with head := w } : EventQueue).room = true) :
    execEqHeadPoll f w s = .next ((s.setFn f { s.fn f with eq := some { q with head := w, badRun := false, discarded := 0 } }).writeEvent
      f { q with head := w, badRun := false, discarded := 0 } 0x000B q.discarded) := by
  have hr' : ({ q with head := w, badRun := false } : EventQueue).room = true := hr
  simp only [execEqHeadPoll, hq, hd, hs, headValid_eq hl, hw, hr', decide_true, decide_false, Bool.or_self, Bool.false_eq_true,
    ↓reduceIte]
  rfl

@[simp] theorem State.writeEvent_eq (s : State) (f : Nat) (q : EventQueue) (code payload : Nat) :
    ((s.writeEvent f q code payload).fn f).eq = some q.advance := by
  rw [State.writeEvent, State.sendMsi_fn_eq, State.setFn_fn_self]

theorem State.writeEvent_writes (s : State) (f : Nat) (q : EventQueue) (code payload : Nat) :
    (s.writeEvent f q code payload).host.writes = s.host.writes ++
      [{ fn := f, addr := q.base + 64 * q.next, bytes := eventEntry code q.seq s.ns payload q.phase }] := by
  rw [State.writeEvent, State.sendMsi_writes]
  rfl

/-- Settles O6: each timer's command takes the branch its hypotheses name. -/
theorem queueTimersTakeEffect : Obligations.QueueTimersTakeEffect := by
  refine ⟨fun s f k w q hq hr hw hl => ?_, fun s f k q hq hr hs hp => ?_, fun s f w q hq hd hs hw hl hr => ?_,
    fun s f k q hq hc => ?_⟩
  · obtain ⟨q', hexec, hhead, hnext, hres⟩ := execCqRoomPoll_valid hq hr hw hl
    exact ⟨_, q', (exec_cqRoomPoll ..).trans hexec, State.setCq_at?_self .., hhead, hnext, hres, rfl, rfl,
      fun g hg => State.setFn_fn_ne _ _ hg⟩
  · rw [exec_cqStalled, execCqStalled, hq]
    simp [hr, hs, hp]
    rfl
  · have hq' : EventQueue.place { q with head := w, badRun := false, discarded := 0 } = q.place := rfl
    have htold := told_writeEvent (s.setFn f { s.fn f with eq := some { q with head := w, badRun := false, discarded := 0 } }) f
      { q with head := w, badRun := false, discarded := 0 } 0x000B q.discarded (by rw [State.setFn_fn_self]; rfl)
    refine ⟨_, _, (exec_eqHeadPoll ..).trans (execEqHeadPoll_room hq hd hs hw (by omega) hr), State.writeEvent_eq .., rfl, rfl, rfl,
      State.writeEvent_writes .., htold.mem, htold.work⟩
  · rw [exec_irqDelayExpiry, execIrqDelayExpiry, hq]
    simp only [hc, ↓reduceIte]

end Sys2Proof.Machine
end

section
/-! The fetch of a descriptor and the completion of its operation (R215, R356 to R361). -/

namespace Sys2Proof.Machine

/-- What an operation keeps from its fetch on. -/
def Op.ident (o : Op) : Nat × Nat × Nat × Nat × Nat × Nat × Bool := (o.fn, o.sq, o.cq, o.idx, o.ctx, o.desc, o.noHeader)

/-- A step that decides operations: the functions, the next number and what the operations keep stand. -/
structure Decides (s t : State) : Prop where
  fns : t.host.fns = s.host.fns
  nextOp : t.work.nextOp = s.work.nextOp
  ident : ∀ j, (t.op? j).map Op.ident = (s.op? j).map Op.ident

@[refl] theorem Decides.refl (s : State) : Decides s s := ⟨rfl, rfl, fun _ => rfl⟩

theorem Decides.trans {s t u : State} (h : Decides s t) (k : Decides t u) : Decides s u :=
  ⟨k.fns.trans h.fns, k.nextOp.trans h.nextOp, fun j => (k.ident j).trans (h.ident j)⟩

theorem Decides.foldl {β : Type} {g : State → β → State} (hg : ∀ s b, Decides s (g s b)) (l : List β) (s : State) :
    Decides s (l.foldl g s) := by
  induction l generalizing s with
  | nil => exact .refl s
  | cons b l ih => exact (hg s b).trans (ih _)

theorem Decides.ite {c : Prop} [Decidable c] {s t u : State} (ht : Decides s t) (hu : Decides s u) :
    Decides s (if c then t else u) := by
  split
  · exact ht
  · exact hu

theorem Decides.of_work {s t : State} (hf : t.host.fns = s.host.fns) (hn : t.work.nextOp = s.work.nextOp)
    (ho : t.work.ops = s.work.ops) : Decides s t := ⟨hf, hn, fun _ => by rw [State.op?, ho]; rfl⟩

theorem Tab.map_at?_modify {α β : Type} (t : Tab α) (k j : Nat) (g : α → α) (p : α → β) (h : ∀ v, p (g v) = p v) :
    ((t.modify k g).at? j).map p = (t.at? j).map p := by
  by_cases hj : j = k
  · rw [hj, Tab.at?_modify_self, Option.map_map]
    congr 1
    funext v
    exact h v
  · rw [Tab.at?_modify_ne _ _ hj]

theorem decides_modOp (s : State) (id : Nat) (g : Op → Op) (h : ∀ o, (g o).ident = o.ident) : Decides s (s.modOp id g) :=
  ⟨rfl, rfl, fun j => Tab.map_at?_modify _ _ _ _ _ h⟩

theorem decides_endOp (s : State) (id status detail : Nat) : Decides s (s.endOp id status detail) := by
  rcases ho : s.op? id with _ | o
  · rw [State.endOp_of_none _ _ ho]
  · by_cases hl : o.phase = .ended
    · rw [State.endOp_of_ended _ _ ho hl]
    · obtain ⟨l, hw, -⟩ := State.endOp_work status detail ho hl
      refine ⟨by rw [State.endOp_host], by rw [hw], fun j => ?_⟩
      rw [State.op?, hw]
      exact Tab.map_at?_modify s.work.ops id j (fun o => o.endedWith status detail) Op.ident fun _ => rfl

theorem decides_abortSluice (s : State) (k reason origin : Nat) : Decides s (s.abortSluice k reason origin) := by
  unfold State.abortSluice State.abortSluiceWith
  split
  · rfl
  · refine .ite (.refl _) (Decides.trans ?_ ((Decides.foldl (fun _ _ => decides_endOp ..) _ _).trans
      ((decides_endOp ..).trans (Decides.foldl (fun _ _ => decides_endOp ..) _ _))))
    obtain ⟨l, h⟩ := s.abortNotice_eq _ reason origin
    exact .of_work (by rw [if_pos rfl, h]; rfl) (by rw [if_pos rfl, h]; rfl) (by rw [if_pos rfl, h]; rfl)

theorem decides_abortSluicesOf (s : State) (ids : List Nat) (reason : Nat) : Decides s (s.abortSluicesOf ids reason) := by
  refine Decides.trans (Decides.foldl (fun s i => ?_) _ _) (Decides.foldl (fun _ _ => decides_abortSluice ..) _ _)
  split
  · exact .ite (.refl _) (decides_abortSluice ..)
  · rfl

theorem decides_markLost (s : State) (c id : Nat) : Decides s (s.markLost c id) := by
  unfold State.markLost
  split
  · rfl
  · exact .ite (.refl _) ((Decides.of_work (s := s) (t := s.modCtx c (fun x => { x with lost := true, lossOp := id })) rfl rfl rfl).trans
      ((Decides.foldl (fun _ _ => decides_endOp ..) _ _).trans ((decides_abortSluicesOf ..).trans
        (Decides.foldl (fun _ _ => decides_abortSluice ..) _ _))))

theorem decides_decide (s : State) (id status detail : Nat) : Decides s (s.decide id status detail) := by
  unfold State.decide
  split
  · rfl
  · next o _ =>
    have h : Decides s (if (status = Status.success || o.sluice = 0) = true then s.endOp id status detail
        else (s.endOp id status detail).abortSluice o.sluice (reasonOf status) 0xFFFF) :=
      .ite (decides_endOp ..) ((decides_endOp ..).trans (decides_abortSluice ..))
    exact .ite (.refl _) (.ite (h.trans (decides_markLost ..)) h)

theorem decides_checkWait (s : State) (id : Nat) : Decides s (s.checkWait id) := by
  unfold State.checkWait
  split
  · rfl
  · dsimp only
    refine .ite (.refl _) (.ite (decides_modOp _ _ _ fun _ => rfl) ?_)
    split
    · rfl
    · exact decides_decide ..
    · exact .ite (decides_modOp _ _ _ fun _ => rfl) (.refl _)

theorem decides_formAborts (s : State) (f d status : Nat) : Decides s (s.formAborts f d status) := by
  unfold State.formAborts
  exact .ite (.ite (.refl _) (decides_abortSluice ..)) (.refl _)

theorem State.stampReady_eq (s : State) (pond : Nat) : ∃ cs n,
    s.stampReady pond = { s with host := { s.host with ctxs := cs }, mem := { s.mem with order := n } } := by
  unfold State.stampReady
  generalize s.readyContexts pond = l
  induction l generalizing s with
  | nil => exact ⟨_, _, rfl⟩
  | cons r l ih =>
    rw [List.foldl_cons]
    split
    · obtain ⟨cs, n, h⟩ := ih { (s.modCtx r.1 (fun x => { x with readyAt := s.mem.order + 1 })) with
        mem := { s.mem with order := s.mem.order + 1 } }
      exact ⟨cs, n, by rw [h]; rfl⟩
    · exact ih s

/-- A step that leaves everything but contexts, ponds and their order, and tiles it zeroes. -/
def Reschedules (s t : State) : Prop := ∃ cs n ps m p pr pp, t = { s with
  host := { s.host with ctxs := cs }
  mem := { s.mem with order := n, ponds := ps, sram := m, sramPoison := p, prog := pr, progPoison := pp } }

theorem Reschedules.trans {s t u : State} (h : Reschedules s t) (k : Reschedules t u) : Reschedules s u := by
  obtain ⟨_, _, _, _, _, _, _, rfl⟩ := h
  obtain ⟨_, _, _, _, _, _, _, rfl⟩ := k
  exact ⟨_, _, _, _, _, _, _, rfl⟩

theorem Reschedules.ite {c : Prop} [Decidable c] {s t u : State} (ht : Reschedules s t) (hu : Reschedules s u) :
    Reschedules s (if c then t else u) := by
  split
  · exact ht
  · exact hu

theorem reschedules_scrubTiles (s : State) (ts : List Nat) : Reschedules s (s.scrubTiles ts) := by
  unfold State.scrubTiles
  induction ts generalizing s with
  | nil => exact ⟨_, _, _, _, _, _, _, rfl⟩
  | cons t ts ih => exact Reschedules.trans ⟨_, _, _, _, _, _, _, rfl⟩ (ih (s.scrubTile t))

theorem reschedules_claim (s : State) (pond c : Nat) : Reschedules s (s.claim pond c) := by
  unfold State.claim
  split
  · exact ⟨_, _, _, _, _, _, _, rfl⟩
  · split
    · exact ⟨_, _, _, _, _, _, _, rfl⟩
    · exact (reschedules_scrubTiles ..).trans ⟨_, _, _, _, _, _, _, rfl⟩

theorem reschedules_schedule (s : State) (pond : Nat) : Reschedules s (s.schedule pond) := by
  obtain ⟨cs, n, h⟩ := s.stampReady_eq pond
  have hs : Reschedules s (s.stampReady pond) := ⟨cs, n, _, _, _, _, _, h⟩
  unfold State.schedule
  dsimp only
  refine hs.trans ?_
  split
  · exact ⟨_, _, _, _, _, _, _, rfl⟩
  · split
    · exact ⟨_, _, _, _, _, _, _, rfl⟩
    · split
      · exact ⟨_, _, _, _, _, _, _, rfl⟩
      · exact .ite (reschedules_claim ..) (.ite ⟨_, _, _, _, _, _, _, rfl⟩ ⟨_, _, _, _, _, _, _, rfl⟩)

@[simp] theorem State.schedule_work (s : State) (pond : Nat) : (s.schedule pond).work = s.work := by
  obtain ⟨_, _, _, _, _, _, _, h⟩ := reschedules_schedule s pond
  rw [h]

@[simp] theorem State.schedule_op? (s : State) (pond j : Nat) : (s.schedule pond).op? j = s.op? j := by
  rw [State.op?, State.schedule_work, State.op?]

theorem decides_schedule (s : State) (pond : Nat) : Decides s (s.schedule pond) := by
  obtain ⟨_, _, _, _, _, _, _, h⟩ := reschedules_schedule s pond
  rw [h]
  exact .of_work rfl rfl rfl

@[simp] theorem State.schedule_fn (s : State) (pond f : Nat) : (s.schedule pond).fn f = s.fn f := by
  rw [State.fn, (decides_schedule ..).fns, State.fn]

@[simp] theorem State.schedule_writes (s : State) (pond : Nat) : (s.schedule pond).host.writes = s.host.writes := by
  obtain ⟨_, _, _, _, _, _, _, h⟩ := reschedules_schedule s pond
  rw [h]

theorem State.stepFetched_eq (s : State) (pond id : Nat) (drop : Bool) : ∃ n ps,
    s.stepFetched pond id drop = { s with mem := { s.mem with order := n, ponds := ps } } := ⟨_, _, rfl⟩

theorem exec_descriptorFetch (f k d : Nat) (s : State) : exec (.descriptorFetch f k d) s = execDescriptorFetch f k d s := rfl

/-- The slots of a descriptor: one where it fails the version check (R359). -/
def slotsOf (d : Nat) : Nat := if fld d 0 0 4 = 1 then max 1 (fld d 2 0 3) else 1

/-- What a fetch leaves before the operation's status or its wait is looked at. -/
structure Fetched (s u : State) (f k d : Nat) (q : SubmissionQueue) : Prop where
  op : ∃ o, u.op? s.work.nextOp = some o ∧ o.ident = (f, k, q.cq, q.head, f * 16384 + q.ctx, d % 2 ^ (512 * slotsOf d),
    !(decide (fld d 0 0 4 = 1))) ∧ o.phase = .fetched ∧ (fld d 0 0 4 ≠ 1 → o.sluice = 0)
  next : u.work.nextOp = s.work.nextOp + 1
  ring : ∃ q', (u.fn f).sqs.at? k = some q' ∧ q'.head = (q.head + slotsOf d) % 2 ^ q.log2 ∧ q'.tail = q.tail

theorem execDescriptorFetch_of_mayFetch {s : State} {f k d : Nat} {q : SubmissionQueue} (hq : (s.fn f).sqs.at? k = some q)
    (hm : s.mayFetch f k q (slotsOf d) = true) :
    ∃ (u v : State) (pond : Nat), execDescriptorFetch f k d s = .next (v.schedule pond) ∧ Fetched s u f k d q
      ∧ Decides u v
      ∧ (fld d 0 0 4 ≠ 1 → (∀ x, s.host.ctxs.at? (f * 16384 + q.ctx) = some x → x.lost = false) →
          v = u.decide s.work.nextOp Status.badVersion 0) := by
  unfold execDescriptorFetch
  rw [hq]
  dsimp -zeta only
  extract_lets verOk n c pond id inStep inner o s1 s2 work tally s3 s4 s5 s6
  have hn : n = slotsOf d := by simp [n, verOk, slotsOf]
  rw [hn, hm, if_neg (by decide)]
  have h1 : (s1.fn f).sqs.at? k = some { q with
      head := (q.head + n) % 2 ^ q.log2, stepLeft := if inner then 0 else q.stepLeft - 1 } := State.setSq_at?_self ..
  have h2 : s2.work = s.work ∧ (s2.fn f).sqs = (s1.fn f).sqs := by
    dsimp only [s2]
    split
    · exact ⟨rfl, by rw [State.setCq, State.setFn_fn_self]⟩
    · exact ⟨rfl, rfl⟩
  have h4 : s4.work = s3.work ∧ s4.host = s3.host := by
    dsimp only [s4]
    split
    · exact ⟨rfl, rfl⟩
    · exact ⟨rfl, rfl⟩
  have hfn : (s5.fn f).sqs = (s1.fn f).sqs := by
    rw [← h2.2]
    show ((s4.host.fns.get Fn.reset f)).sqs = _
    rw [h4.2]
    rfl
  have hstatus : fld d 0 0 4 ≠ 1 → (∀ x, s.host.ctxs.at? c = some x → x.lost = false) →
      s.fetchStatus f k c d inStep q.stepId pond = (some (Status.badVersion, 0), 0) := fun hv hx => by
    have hlost : (s.host.ctxs.at? c).any (·.lost) = false := by
      rcases hc : s.host.ctxs.at? c with _ | x
      · rfl
      · exact hx x hc
    simp only [State.fetchStatus, hlost, hv, Bool.false_eq_true, ne_eq, not_false_eq_true, ↓reduceIte]
  have hsluice : fld d 0 0 4 ≠ 1 → (s.fetchStatus f k c d inStep q.stepId pond).2 = 0 := fun hv => by
    rw [State.fetchStatus, if_pos hv]
    split
    · rfl
    · rfl
  refine ⟨s5, s6, pond, rfl, ⟨⟨o, ?_, ?_, rfl, hsluice⟩, ?_, ⟨_, (congrArg (Tab.at? · k) hfn).trans h1, congrArg (fun n => (q.head + n) % 2 ^ q.log2) hn, rfl⟩⟩,
    ?_, fun hv hx => ?_⟩
  · show s4.work.ops.at? id = some o
    rw [h4.1]
    exact Tab.at?_set_self ..
  · dsimp only [Op.ident, o]
    rw [hn]
  · show s4.work.nextOp = _
    rw [h4.1]
  · dsimp only [s6]
    split
    · exact (decides_formAborts ..).trans (decides_decide ..)
    · exact decides_checkWait ..
  · dsimp only [s6]
    rw [hstatus hv hx]
    rfl

/-- Settles O9: what a fetch makes stays under every later look at the operation, and a bad version is decided at once. -/
theorem descriptorsAreFetched : Obligations.DescriptorsAreFetched := by
  refine ⟨fun s f k d q cq hq hc hv hm => ?_, fun s f k d q hq hv hx hm => ?_⟩
  · have hn : slotsOf d = max 1 (fld d 2 0 3) := if_pos hv
    obtain ⟨u, v, pond, hexec, ⟨⟨o, ho, hid, -, -⟩, hnext, q', hq', hhead, htail⟩, hdec, -⟩ :=
      execDescriptorFetch_of_mayFetch hq (by rw [hn]; exact hm)
    have hdec := hdec.trans (decides_schedule v pond)
    have hident := hdec.ident s.work.nextOp
    rw [ho] at hident
    obtain ⟨o', ho', hid'⟩ := Option.map_eq_some_iff.1 hident
    rw [hid] at hid'
    simp only [Op.ident, Prod.mk.injEq, hn, hv, decide_true, Bool.not_true] at hid'
    obtain ⟨h1, h2, h3, h4, h5, h6, h7⟩ := hid'
    exact ⟨_, o', q', (exec_descriptorFetch ..).trans hexec, ho', h1, h2, h3, h4, h5, h6, h7,
      by rw [State.fn, hdec.fns]; exact hq', by rw [hhead, hn], htail, hdec.nextOp.trans hnext⟩
  · have hn : slotsOf d = 1 := if_neg hv
    obtain ⟨u, v, pond, hexec, ⟨⟨o, ho, hid, hphase, hslu⟩, hnext, q', hq', hhead, htail⟩, hdec, hbad⟩ :=
      execDescriptorFetch_of_mayFetch hq (by rw [hn]; exact hm)
    have hdec := hdec.trans (decides_schedule v pond)
    have hop : (v.schedule pond).op? s.work.nextOp = some (o.endedWith Status.badVersion 0) := by
      rw [State.schedule_op?, hbad hv hx]
      exact State.decide_op?_self _ _ ho (by simp [hphase])
    simp only [Op.ident, Prod.mk.injEq, hv, decide_false, Bool.not_false] at hid
    obtain ⟨-, -, -, hidx, -, -, hhdr⟩ := hid
    exact ⟨_, _, q', (exec_descriptorFetch ..).trans hexec, hop, rfl, rfl, rfl, hhdr, hidx,
      by rw [State.fn, hdec.fns]; exact hq', by rw [hhead, hn]⟩

theorem exec_opComplete (id : Nat) (s : State) : exec (.opComplete id) s = execOpComplete id s := rfl
theorem exec_nop (id : Nat) (s : State) : exec (.nop id) s = execNop id s := rfl
theorem exec_eventWaitRecheck (id : Nat) (s : State) : exec (.eventWaitRecheck id) s = execEventWaitRecheck id s := rfl

/-- Writes to host memory only grow (R368, R386). -/
theorem State.post_writes (s : State) (f code payload : Nat) : ∃ ev, (s.post f code payload).host.writes = s.host.writes ++ ev := by
  unfold State.post
  split
  · exact ⟨[], (List.append_nil _).symm⟩
  · split
    · exact ⟨[], (List.append_nil _).symm⟩
    · split
      · exact ⟨[], (List.append_nil _).symm⟩
      · exact ⟨_, State.writeEvent_writes ..⟩

theorem State.countEntry_writes (s : State) (f cq : Nat) (counts : Bool) :
    (s.countEntry f cq counts).host.writes = s.host.writes := by
  unfold State.countEntry
  split
  · rfl
  · split
    · rfl
    · split
      · exact State.sendMsi_writes ..
      · rfl

theorem State.sluiceCompletion_host (s : State) (o : Op) : (s.sluiceCompletion o).host = s.host := by
  unfold State.sluiceCompletion
  split
  · rfl
  · split
    · rfl
    · split
      · rfl
      · rfl

theorem State.sluiceCompletion_op? (s : State) (o : Op) (j : Nat) : (s.sluiceCompletion o).op? j = s.op? j := by
  unfold State.sluiceCompletion
  split
  · rfl
  · split
    · rfl
    · split
      · rfl
      · rfl

theorem State.releaseLost_writes (s : State) (c : Nat) : (s.releaseLost c).host.writes = s.host.writes := by
  unfold State.releaseLost
  split
  · rfl
  · rfl

theorem State.releaseLost_op? (s : State) (c j : Nat) : (s.releaseLost c).op? j = s.op? j := by
  unfold State.releaseLost
  split
  · rfl
  · rfl

theorem State.afterCompletion_writes (s : State) (id : Nat) (o : Op) (st : Nat) :
    ∃ ev, (s.afterCompletion id o st).host.writes = s.host.writes ++ ev := by
  unfold State.afterCompletion
  dsimp only
  rw [State.releaseLost_writes]
  split
  · split
    · obtain ⟨ev, h⟩ := State.post_writes ((s.sluiceCompletion o).modCtx o.ctx (fun x => { x with lossOp := 0 })) o.fn
        Event.contextLost (contextLostPayload o.ctx st)
      exact ⟨ev, by rw [h]; exact congrArg (·.writes ++ ev) (s.sluiceCompletion_host o)⟩
    · exact ⟨[], by rw [State.sluiceCompletion_host, List.append_nil]⟩
  · exact ⟨[], by rw [State.sluiceCompletion_host, List.append_nil]⟩

theorem State.afterCompletion_op? (s : State) (id : Nat) (o : Op) (st j : Nat) : (s.afterCompletion id o st).op? j = s.op? j := by
  unfold State.afterCompletion
  dsimp only
  rw [State.releaseLost_op?]
  split
  · split
    · rw [(told_post ..).op?]
      exact State.sluiceCompletion_op? ..
    · exact State.sluiceCompletion_op? ..
  · exact State.sluiceCompletion_op? ..

theorem State.countEntry_op? (s : State) (f cq j : Nat) (counts : Bool) : (s.countEntry f cq counts).op? j = s.op? j := by
  unfold State.countEntry
  split
  · rfl
  · split
    · rfl
    · split
      · rw [(told_sendMsi ..).op?]
        rfl
      · rfl

/-- The completion entry of an operation that is not a quiet success (R361). -/
theorem State.writeCompletion_writes {s : State} {o : Op} {q : CompletionQueue} (st d : Nat) (hs : s.silent o.fn = false)
    (hq : (s.fn o.fn).cqs.at? o.cq = some q) (hn : o.noHeader = true ∨ fld o.desc 3 1 1 = 0 ∨ st ≠ 0) :
    (s.writeCompletion o st d).host.writes = s.host.writes ++ [{
        fn := o.fn, addr := q.base + 32 * q.next
        bytes := completionEntry o q.phase ((((s.fn o.fn).sqs.at? o.sq).map (·.head)).getD 0) st d s.ns }]
      ∧ ∀ j, (s.writeCompletion o st d).op? j = s.op? j := by
  have hquiet : (s.silent o.fn || (!o.noHeader && fld o.desc 3 1 1 = 1 && st = Status.success)) = false := by
    rw [hs]
    rcases hn with h | h | h
    · simp [h]
    · simp [h]
    · simp [Status.success, h]
  rw [State.writeCompletion]
  simp only [hq, hquiet, Bool.false_eq_true, ↓reduceIte]
  exact ⟨State.countEntry_writes .., fun j => State.countEntry_op? ..⟩

/-- Settles O10: with no event to signal a completion is its entry and what follows it. -/
theorem endedOperationCompletes : Obligations.EndedOperationCompletes := by
  refine ⟨fun s id o q ho hend hwait hev hsil hq hn => ?_, fun s id o ho => ?_, fun s id o ho hph hw hev => ?_⟩
  · have hsig : (s.withOps (s.work.ops.erase id)).signal id o = some (s.withOps (s.work.ops.erase id), o.status, o.detail) := by
      simp [State.signal, hev]
    have hab : ∀ u : State, u.signalAborts o o.status = u := fun u => by
      by_cases h : o.status = Status.success
      · simp [State.signalAborts, h]
      · simp [State.signalAborts, h]
    have hexec : execOpComplete id s = .next (((((s.withOps (s.work.ops.erase id)).writeCompletion o o.status
        o.detail).afterCompletion id o o.status).noteCtxWork o.ctx).schedule o.pond) := by
      simp only [execOpComplete, ho, hend, hwait, hsig, hab, ne_eq, not_true_eq_false, decide_false, Bool.or_self,
        Bool.false_eq_true, ↓reduceIte]
    obtain ⟨hwrites, hops⟩ := State.writeCompletion_writes (s := s.withOps (s.work.ops.erase id)) o.status o.detail hsil hq hn
    obtain ⟨ev, hafter⟩ := ((s.withOps (s.work.ops.erase id)).writeCompletion o o.status o.detail).afterCompletion_writes id o o.status
    refine ⟨_, ev, (exec_opComplete ..).trans hexec, ?_, ?_⟩
    · rw [State.schedule_op?]
      exact (State.afterCompletion_op? ..).trans ((hops id).trans (Tab.at?_erase_self ..))
    · rw [State.schedule_writes]
      refine hafter.trans ?_
      rw [hwrites, List.append_assoc]
      rfl
  · rw [exec_nop, execNop, ho]
  · rw [exec_eventWaitRecheck, execEventWaitRecheck, ho]
    simp only [State.checkWait, ho, hph, hw, hev, ne_eq, not_true_eq_false, decide_false, Bool.or_self, Bool.false_eq_true,
      ↓reduceIte]

end Sys2Proof.Machine
end

section
/-! A copy's engine starts the operation under a number, not the entry it chose (R216): where a table holds a number twice,
which no state the device reaches does, the two differ. -/

namespace Sys2Proof.Machine

/-- An operation of pond 1 and context 0 that may go on. -/
def plainOp (desc : Nat) : Op :=
  { fn := 0, sq := 0, cq := 0, idx := 0, ctx := 0, pond := 1, desc, phase := .fetched, waitMet := true, status := 0, detail := 0
    nflags := 0, retried := false, rerun := false, noHeader := false, sluice := 0, step := 0, engine := 0, queuedAt := 0
    deadline := 0, done := [], push := false, count := 0, awaitsRegrow := false, coin := 0, olds := [] }

/-- A pond with Flume engine 0 and no tiles. -/
def enginePond : Pond :=
  { inst := 0, weight := 16, quantum := 10, running := 0, since := 0, switch := none, rebind := none, reserved := []
    beats := none, beatCount := 0
    binding := { tilesM := [], tilesV := [], flume := 1, regrow := 0, subl := 0, loft := 0, plots := [], chans := [] } }

/-- Context 0 resident, pond 1 with one engine. -/
def engineState : State :=
  { State.reset with
    host := { HostPart.reset with slots := [(0, { ctx := 0, phase := .resident, since := 0, idle := false })] }
    mem := { MemPart.reset with ponds := [(1, enginePond)] } }

/-- Operation 1 is a copy to be placed; operation 2 is listed twice, as a reduction not begun and as a copy that waits. -/
def doubledCopies : State :=
  { engineState.withOps [(1, plainOp 0x1001), (2, { plainOp 0x4101 with waitMet := false }),
      (2, { plainOp 0x1001 with phase := .queued })] with
    eng := { engineState.eng with mills := [(2, {
      order := 1, anchors := [], raised := [], table := [], act := [], ranks := [], delivered := [], ovf := 0
      retried := false, amaxBad := false })] } }

/-- Refutes O11: with operation 2 listed twice, placing the copy ends the reduction of that number and drops its mill run. -/
theorem not_flumeCopyRunsBySegments : ¬ Obligations.FlumeCopyRunsBySegments := by
  intro h
  obtain ⟨t, o', hexec, -, -, -, -, -, -, -, -, hmills, -⟩ := h.1 doubledCopies 1 0 (plainOp 0x1001) enginePond
    (by decide +kernel) (by decide +kernel) (by decide +kernel) (by decide +kernel)
  have hrun : (match exec (.flumeCopy 1) doubledCopies with
      | .next u => u.eng.mills.length
      | _ => 1) = 0 := by decide +kernel
  rw [hexec] at hrun
  have hlen : t.eng.mills.length = 0 := hrun
  rw [hmills] at hlen
  cases hlen

end Sys2Proof.Machine
end

section
/-! Prefetch and demotion (R206, R209): what the loft holds after each line of a range. -/

namespace Sys2Proof.Machine

theorem State.go?_some {s : State} {id code : Nat} {o : Op} (h : s.go? id code = some o) :
    s.op? id = some o ∧ o.opcode = code ∧ s.readyOp id o = true ∧ s.pondLets o = true := by
  unfold State.go? at h
  split at h
  · next x hx =>
    split at h
    · next hc =>
      cases h
      simp only [Bool.and_eq_true, decide_eq_true_eq] at hc
      exact ⟨hx, hc.1.1, hc.1.2, hc.2⟩
    · cases h
  · cases h

theorem State.phase_of_go? {s : State} {id code : Nat} {o : Op} (h : s.go? id code = some o) : o.phase = .fetched := by
  obtain ⟨-, -, hready, -⟩ := State.go?_some h
  simp only [State.readyOp, Bool.and_eq_true, decide_eq_true_eq] at hready
  exact hready.1.1.1.1

theorem State.loftRun_ok {s : State} {op mode : Nat} {o : Op} {l : List (Nat × Nat)} (body : Op → State → Nat × Nat → State)
    (hgo : s.go? op 0x11 = some o) (hm : fld o.desc 0x2C 0 2 = mode)
    (hl : s.loftOffsets (s.newt o.fn o.ctx 0) (loftLines o.desc) = .ok l) :
    s.loftRun op mode body = (l.foldl (body o) s).succeed op := by
  simp only [State.loftRun, hgo, hm, hl, ne_eq, not_true_eq_false, ↓reduceIte]

/-- A step that touches the loft keeps which plots leave their die (R302). -/
structure KeepsLeaving (s t : State) : Prop where
  touched : LoftTouched s t
  leaving : ∀ off, t.leavingDie off = s.leavingDie off

theorem KeepsLeaving.refl (s : State) : KeepsLeaving s s := ⟨.refl s, fun _ => rfl⟩

theorem KeepsLeaving.trans {s t u : State} (h : KeepsLeaving s t) (k : KeepsLeaving t u) : KeepsLeaving s u :=
  ⟨h.touched.trans k.touched, fun off => (k.leaving off).trans (h.leaving off)⟩

theorem KeepsLeaving.foldl {β : Type} {g : State → β → State} (hg : ∀ s b, KeepsLeaving s (g s b)) (l : List β) (s : State) :
    KeepsLeaving s (l.foldl g s) := by
  induction l generalizing s with
  | nil => exact .refl s
  | cons b l ih => exact (hg s b).trans (ih _)

theorem keepsLeaving_noteMoving (s : State) (off n : Nat) : KeepsLeaving s (s.noteMoving off n) := by
  refine ⟨loftTouched_noteMoving .., fun x => ?_⟩
  rw [State.leavingDie, State.leavingDie, State.noteMoving, List.any_map]
  congr 1
  funext p
  dsimp only [Function.comp]
  split
  · next r hr =>
    split
    · rw [hr]
      rfl
    · rfl
  · rfl

theorem KeepsLeaving.loft {s t : State} {l : List LoftLine} {c : Nat}
    (h : t = { s with mem := { s.mem with loft := l, loftClock := c } }) : KeepsLeaving s t := by
  subst h
  exact ⟨⟨⟨_, _, _, rfl⟩, fun _ => rfl⟩, fun _ => rfl⟩

theorem keepsLeaving_loftTouch (s : State) (off : Nat) (hint : Hint) (mask : Nat) (write : Bool) :
    KeepsLeaving s (s.loftTouch off hint mask write) := by
  unfold State.loftTouch
  split
  · exact .refl _
  · extract_lets line c m hint' slice set ways here free victim way entry out s1
    split
    · exact .loft rfl
    · split
      · exact .refl _
      · exact KeepsLeaving.trans (.loft rfl) (KeepsLeaving.foldl (fun _ _ => keepsLeaving_noteMoving ..) _ _)

@[simp] theorem State.noteMoving_loft (s : State) (off n : Nat) : (s.noteMoving off n).mem.loft = s.mem.loft := rfl

theorem foldl_noteMoving_loft (l : List LoftLine) (s : State) :
    (l.foldl (fun s x => s.noteMoving (x.line * 128) 128) s).mem.loft = s.mem.loft := by
  induction l generalizing s with
  | nil => rfl
  | cons x l ih => rw [List.foldl_cons, ih, State.noteMoving_loft]

/-- A line of a placed plot that may be allocated is in the loft once it was touched (R203). -/
theorem State.loftTouch_mem {s : State} {off mask : Nat} {p : Plot} (write : Bool) (hp : s.plotOf off = some p) (hm : mask ≠ 0)
    (hw : s.cacheWays p.die mask ≠ []) (hl : s.leavingDie off = false) :
    (s.loftTouch off .alloc mask write).mem.loft.any (fun y => y.line = off / 128) = true := by
  unfold State.loftTouch
  rw [hp]
  dsimp -zeta only
  extract_lets line c hint m slice set ways here free victim way entry out s1
  have hhint : hint = .alloc := by simp [hint, hm]
  split
  · next hin =>
    dsimp only
    obtain ⟨y, hy, hline⟩ := List.any_eq_true.1 hin
    refine List.any_eq_true.2 ⟨_, List.mem_map.2 ⟨y, hy, rfl⟩, ?_⟩
    rw [if_pos (of_decide_eq_true hline)]
    exact hline
  · have hways : ways.isEmpty = false := by simp [ways, hw]
    rw [hhint, hways, hl, if_neg (by decide), foldl_noteMoving_loft]
    exact List.any_eq_true.2 ⟨entry, .head _, decide_eq_true rfl⟩

theorem State.maskFor_congr {s t : State} (h : LoftTouched s t) (pond off : Nat) : t.maskFor pond off = s.maskFor pond off := by
  have hr : t.mem.remap = s.mem.remap := by obtain ⟨⟨_, _, _, rfl⟩, -⟩ := h; rfl
  have hp := h.ponds pond
  rw [State.maskFor, State.maskFor, State.plotOf_congr hr]
  rcases hs : s.mem.ponds.at? pond with _ | q <;> rcases ht : t.mem.ponds.at? pond with _ | q' <;>
    rw [hs, ht] at hp <;> simp only [Option.map_some, Option.map_none, Option.some.injEq, reduceCtorEq] at hp ⊢
  have hb : q'.binding = q.binding := show q'.still.binding = q.still.binding by rw [hp]
  rcases s.plotOf off with _ | p
  · rfl
  · dsimp only
    rw [hb]

theorem cacheWays_all {s : State} {die : Nat} (h : s.mem.stageWays.get 4 die < 16) : s.cacheWays die 65535 ≠ [] := by
  have hmem : 15 ∈ s.cacheWays die 65535 := List.mem_filter.2 ⟨by decide, decide_eq_true (by omega)⟩
  exact List.ne_nil_of_mem hmem

/-- What each line of a prefetch does. -/
def prefetchLine (o : Op) (s : State) (x : Nat × Nat) : State :=
  s.loftTouch x.1 (if o.fn = 0 then .noalloc else if fld o.desc 0x2C 2 3 = 1 then .alloc else
    if fld o.desc 0x2C 2 3 = 3 then .evictFirst else hintOf x.2) (s.maskFor o.pond x.1) false

theorem keepsLeaving_prefetch (o : Op) (l : List (Nat × Nat)) (s : State) : KeepsLeaving s (l.foldl (prefetchLine o) s) :=
  KeepsLeaving.foldl (fun _ _ => keepsLeaving_loftTouch ..) _ _

/-- The last line of a prefetch is in the loft. -/
theorem prefetch_last {s : State} {o : Op} {l : List (Nat × Nat)} {x : Nat × Nat} {p : Plot} (hh : fld o.desc 0x2C 2 3 = 1)
    (hf : o.fn ≠ 0) (hx : l.getLast? = some x) (hp : s.plotOf x.1 = some p) (hl : s.leavingDie x.1 = false)
    (hm : s.maskFor o.pond x.1 = 65535) (hw : s.mem.stageWays.get 4 p.die < 16) :
    (l.foldl (prefetchLine o) s).mem.loft.any (fun y => y.line = x.1 / 128) = true := by
  obtain ⟨l', rfl⟩ := List.getLast?_eq_some_iff.1 hx
  rw [List.foldl_append, List.foldl_cons, List.foldl_nil]
  have hk := keepsLeaving_prefetch o l' s
  generalize l'.foldl (prefetchLine o) s = u at hk
  obtain ⟨htouch, hleave⟩ := hk
  have hmask := State.maskFor_congr htouch o.pond x.1
  have hlv := hleave x.1
  obtain ⟨⟨_, _, _, rfl⟩, -⟩ := htouch
  rw [prefetchLine, if_neg hf, if_pos hh, hmask, hm]
  exact State.loftTouch_mem false hp (by decide) (cacheWays_all hw) (hlv.trans hl)

/-- What each line of a demotion does to the loft. -/
def demoteLine (l : List LoftLine) (n : Nat) : List LoftLine :=
  (l.filter (fun y => y.line = n)).map (fun y => { y with used := 0 }) ++ l.filter (fun y => y.line ≠ n)

/-- The loft demoted: the demoted lines, of the numbers `ns`, come first and are least recently used. -/
structure Demoted (ns : List Nat) (l0 l : List LoftLine) : Prop where
  parts : ∃ a, l = a ++ l0.filter (fun y => !ns.any (fun n => y.line = n)) ∧ (∀ y ∈ a, y.used = 0 ∧ y.line ∈ ns)
    ∧ ∀ z, (∃ y ∈ a, z = y.line) ↔ ∃ y ∈ l0, z = y.line ∧ y.line ∈ ns

theorem Demoted.nil (l : List LoftLine) : Demoted [] l l := ⟨[], by simp, by simp, by simp⟩

theorem Demoted.step {ns : List Nat} {l0 l : List LoftLine} (h : Demoted ns l0 l) (n : Nat) :
    Demoted (ns ++ [n]) l0 (demoteLine l n) := by
  obtain ⟨a, rfl, ha, hz⟩ := h
  refine ⟨((a ++ l0.filter (fun y => !ns.any (fun n => y.line = n))).filter (fun y => y.line = n)).map (fun y => { y with used := 0 })
    ++ a.filter (fun y => y.line ≠ n), ?_, fun y hy => ?_, fun z => ⟨fun ⟨y, hy, hzy⟩ => ?_, fun ⟨y, hy, hzy, hn⟩ => ?_⟩⟩
  · rw [demoteLine, List.append_assoc, List.filter_append (p := fun y : LoftLine => decide (y.line ≠ n)), List.filter_filter]
    congr 3
    funext y
    simp [List.any_append, Bool.and_comm]
  · rcases List.mem_append.1 hy with hy | hy
    · obtain ⟨x, hx, rfl⟩ := List.mem_map.1 hy
      have hline := of_decide_eq_true (List.mem_filter.1 hx).2
      exact ⟨rfl, by simp [hline]⟩
    · have hya := ha y (List.mem_filter.1 hy).1
      exact ⟨hya.1, by simp [hya.2]⟩
  · rcases List.mem_append.1 hy with hy | hy
    · obtain ⟨x, hx, rfl⟩ := List.mem_map.1 hy
      have hline : x.line = n := of_decide_eq_true (List.mem_filter.1 hx).2
      rcases List.mem_append.1 (List.mem_filter.1 hx).1 with hx | hx
      · obtain ⟨y, hy, hzy, hn⟩ := (hz z).1 ⟨x, hx, hzy⟩
        exact ⟨y, hy, hzy, by simp [hn]⟩
      · exact ⟨x, (List.mem_filter.1 hx).1, hzy, by simp [hline]⟩
    · obtain ⟨x, hx, hzx, hn⟩ := (hz z).1 ⟨y, (List.mem_filter.1 hy).1, hzy⟩
      exact ⟨x, hx, hzx, by simp [hn]⟩
  · by_cases hold : y.line ∈ ns
    · obtain ⟨x, hx, hzx⟩ := (hz z).2 ⟨y, hy, hzy, hold⟩
      by_cases hxn : x.line = n
      · exact ⟨{ x with used := 0 }, List.mem_append_left _ (List.mem_map.2 ⟨x, List.mem_filter.2 ⟨List.mem_append_left _ hx,
          decide_eq_true hxn⟩, rfl⟩), hzx⟩
      · exact ⟨x, List.mem_append_right _ (List.mem_filter.2 ⟨hx, decide_eq_true hxn⟩), hzx⟩
    · have hyn : y.line = n := by simpa [hold] using hn
      refine ⟨{ y with used := 0 }, List.mem_append_left _ (List.mem_map.2 ⟨y, List.mem_filter.2 ⟨List.mem_append_right _
        (List.mem_filter.2 ⟨hy, ?_⟩), decide_eq_true hyn⟩, rfl⟩), hzy⟩
      simpa using fun x hx (he : y.line = x) => hold (he ▸ hx)

theorem foldl_demoteLine (ns ms : List Nat) (l0 l : List LoftLine) (h : Demoted ms l0 l) :
    Demoted (ms ++ ns) l0 (ns.foldl demoteLine l) := by
  induction ns generalizing ms l with
  | nil => simpa using h
  | cons n ns ih =>
    have := ih _ _ (h.step n)
    rwa [List.append_assoc] at this

/-- A demotion of lines changes the loft alone. -/
theorem foldl_demote (l : List (Nat × Nat)) (s : State) : l.foldl (fun (s : State) x => { s with mem := { s.mem with
      loft := (s.mem.loft.filter (fun l => l.line = x.1 / 128)).map (fun l => { l with used := 0 })
        ++ s.mem.loft.filter (fun l => l.line ≠ x.1 / 128) } }) s
    = { s with mem := { s.mem with loft := (l.map (·.1 / 128)).foldl demoteLine s.mem.loft } } := by
  induction l generalizing s with
  | nil => rfl
  | cons x l ih => rw [List.foldl_cons, ih]; rfl

theorem exec_loftPrefetch (op : Nat) (s : State) : exec (.loftPrefetch op) s = execLoftPrefetch op s := rfl
theorem exec_loftDemote (op : Nat) (s : State) : exec (.loftDemote op) s = execLoftDemote op s := rfl

/-- What success leaves of a state whose operation has not ended. -/
theorem State.succeed_facts {s : State} {id : Nat} {o : Op} (ho : s.op? id = some o) (hl : o.phase ≠ .ended) :
    ((s.succeed id).op? id).map (fun x => (x.phase, x.status, x.detail)) = some (.ended, 0, 0)
      ∧ (s.succeed id).mem = s.mem ∧ (s.succeed id).host = s.host := by
  rw [State.succeed_eq]
  refine ⟨?_, (apart_endOp ..).mem, State.endOp_host ..⟩
  rw [State.endOp_op?_self 0 0 ho hl]
  rfl

/-- Settles O13: line by line, a prefetch allocates and a demotion moves its lines to the front. -/
theorem loftCommandsTakeEffect : Obligations.LoftCommandsTakeEffect := by
  refine ⟨fun s op o l hgo hm hl => ?_, fun s op o l hgo hm hl => ?_⟩
  · have hexec : execLoftPrefetch op s = .next ((l.foldl (prefetchLine o) s).succeed op) :=
      congrArg Host.Outcome.next (State.loftRun_ok _ hgo hm hl)
    have hk := (keepsLeaving_prefetch o l s).touched
    have hlast := fun x p hh hf hx hp hlv hm hw => prefetch_last (s := s) (o := o) (l := l) (x := x) (p := p) hh hf hx hp hlv hm hw
    generalize l.foldl (prefetchLine o) s = u at hexec hk hlast
    have hphase : o.phase ≠ .ended := by simp [State.phase_of_go? hgo]
    obtain ⟨ho, hhbm, hpois, hsram, hh⟩ : u.op? op = some o ∧ u.mem.hbm = s.mem.hbm ∧ u.mem.poison = s.mem.poison
        ∧ u.mem.sram = s.mem.sram ∧ u.host = s.host := by
      obtain ⟨⟨_, _, _, rfl⟩, -⟩ := hk
      exact ⟨(State.go?_some hgo).1, rfl, rfl, rfl, rfl⟩
    obtain ⟨hop, hmem, hhost⟩ := State.succeed_facts ho hphase
    exact ⟨_, (exec_loftPrefetch ..).trans hexec, hop, by rw [hmem, hhbm], by rw [hmem, hpois], by rw [hmem, hsram], hhost.trans hh,
      fun hh hf x p hx hp hlv hm hw => by rw [hmem]; exact hlast x p hh hf hx hp hlv hm hw⟩
  · have hexec : execLoftDemote op s = .next (State.succeed { s with mem := { s.mem with
        loft := (l.map (·.1 / 128)).foldl demoteLine s.mem.loft } } op) :=
      congrArg Host.Outcome.next ((State.loftRun_ok _ hgo hm hl).trans (congrArg (State.succeed · op) (foldl_demote l s)))
    have hphase : o.phase ≠ .ended := by simp [State.phase_of_go? hgo]
    have hdem := foldl_demoteLine (l.map (·.1 / 128)) [] _ _ (Demoted.nil s.mem.loft)
    generalize (l.map (·.1 / 128)).foldl demoteLine s.mem.loft = loft at hexec hdem
    obtain ⟨hop, hmem, hhost⟩ := State.succeed_facts (s := { s with mem := { s.mem with loft := loft } })
      (State.go?_some hgo).1 hphase
    obtain ⟨a, hloft, ha, hz⟩ := hdem
    have hmem_iff : ∀ n, n ∈ [] ++ l.map (fun x : Nat × Nat => x.1 / 128) ↔ ∃ x ∈ l, n = x.1 / 128 := fun n => by simp [eq_comm]
    simp only [hmem_iff] at ha hz
    have hrest : (fun y : LoftLine => !([] ++ l.map (fun x : Nat × Nat => x.1 / 128)).any (fun n => y.line = n))
        = fun y => !l.any (fun x => y.line = x.1 / 128) := by
      funext y
      simp [List.any_map, Function.comp_def]
    rw [hrest] at hloft
    refine ⟨_, (exec_loftDemote ..).trans hexec, hop, by rw [hmem], by rw [hmem], by rw [hmem], hhost, a, _, by rw [hmem]; exact hloft, ha,
      fun y hy x hx => ?_, hz, rfl⟩
    have := (List.mem_filter.1 hy).2
    simp only [Bool.not_eq_true', List.any_eq_false, decide_eq_true_eq] at this
    exact this x hx

end Sys2Proof.Machine
end

section
/-! Mill ops entering their tiles' queues (R112 to R148). -/

namespace Sys2Proof.Machine

/-- The run a mill op enters its tiles' queues with. -/
def State.millRun (s : State) (o : Op) (p : Pond) (anchors : List Int) (table act : List Nat) : MillRun :=
  { order := s.eng.order + 1, anchors, raised := [], table, act
    ranks := startRanks o.desc ((List.range (millRanks o.desc).2).map (fun i => (p.tileOf false ((millRanks o.desc).1 + i)).join))
    delivered := [], ovf := 0, retried := false, amaxBad := false }

theorem State.millGo_some {s : State} {id code : Nat} {o : Op} (h : s.millGo id code = some o) : s.op? id = some o := by
  unfold State.millGo at h
  split at h
  · next x hx =>
    cases h
    exact (State.go?_some hx).1
  · split at h
    · next x hx =>
      split at h
      · cases h
        exact hx
      · cases h
    · cases h

/-- What the entry of a mill op leaves (R112): its run and its operation queued or running, or ended where it has no item. -/
theorem State.millEnter_facts {s : State} {id : Nat} {o : Op} (p : Pond) (anchors : List Int) (table act : List Nat)
    (ho : s.op? id = some o) :
    (millItems o.desc table ≠ [] → (s.millEnter id o p anchors table act).eng.mills.at? id = some (s.millRun o p anchors table act)
      ∧ ((s.millEnter id o p anchors table act).op? id).any (fun x => x.phase = .queued || x.phase = .running) = true)
    ∧ (millItems o.desc table = [] →
        ((s.millEnter id o p anchors table act).op? id).any (fun x => x.phase = .ended && x.status = 0) = true)
    ∧ (s.millEnter id o p anchors table act).mem = s.mem ∧ (s.millEnter id o p anchors table act).host = s.host := by
  unfold State.millEnter State.millRun
  rcases millRanks o.desc with ⟨first, count⟩
  dsimp -zeta only
  extract_lets tiles n run s1 eng s2
  have h2 : s2.op? id = some { o with phase := .queued, queuedAt := s.ns + 1 } := by
    show (s.enqueue id).op? id = _
    rw [State.enqueue, State.modOp_op?_self, ho]
    rfl
  split
  · next hnil =>
    obtain ⟨hop, hmem, hhost⟩ := State.succeed_facts h2 (by simp)
    refine ⟨fun h => absurd (List.isEmpty_iff.1 hnil) h, fun _ => ?_, hmem, hhost⟩
    obtain ⟨x, hx, hst⟩ := Option.map_eq_some_iff.1 hop
    simp only [Prod.mk.injEq] at hst
    rw [hx]
    simp [hst]
  · next hne =>
    have hmills : (s1.eng.mills.set id run).at? id = some run := Tab.at?_set_self ..
    refine ⟨fun _ => ?_, fun h => absurd (List.isEmpty_iff.2 h) hne, ?_⟩
    · split
      · refine ⟨hmills, ?_⟩
        show ((s2.start id).op? id).any _ = true
        rw [State.start, State.modOp_op?_self, h2]
        rfl
      · refine ⟨hmills, ?_⟩
        show (s2.op? id).any _ = true
        rw [h2]
        rfl
    · split
      · exact ⟨rfl, rfl⟩
      · exact ⟨rfl, rfl⟩

theorem State.millStart_ok {s : State} {id code : Nat} {o : Op} {p : Pond} {anchors : Nat → List Int}
    {read : Op → Agent → Acc (List Nat × List Nat)} {table act : List Nat} (hgo : s.millGo id code = some o)
    (hp : s.mem.ponds.at? o.pond = some p) (hr : p.rankError false (millRanks o.desc).1 (millRanks o.desc).2 = none)
    (hread : read o (s.millAgent id o p) = .ok (table, act)) :
    s.millStart id code anchors read = s.millEnter id o p (anchors o.desc) table act := by
  simp only [State.millStart, hgo, hp, hr, hread]

theorem exec_millGemm (op : Nat) (ext : Ext) (s : State) : exec (.millGemm op ext) s = execMillGemm op ext s := rfl
theorem exec_millGgemm (op : Nat) (ext : Ext) (s : State) : exec (.millGgemm op ext) s = execMillGgemm op ext s := rfl
theorem exec_millAttend (op : Nat) (ext : Ext) (s : State) : exec (.millAttend op ext) s = execMillAttend op ext s := rfl
theorem exec_millPack (op : Nat) (s : State) : exec (.millPack op) s = execMillPack op s := rfl

/-- Settles O14: with its tables read, each mill op enters its queues in one way. -/
theorem millOpsEnterTheirTiles : Obligations.MillOpsEnterTheirTiles := by
  refine ⟨fun s op ext o p act hgo hp hr hact => ?_, fun s op ext o p act bs hgo hp hr hbs hbad hplan hact => ?_,
    fun s op ext o p bs hgo hp hr hbs hbad => ?_, fun s op o p hgo hp hr => ?_⟩
  · refine ⟨_, (exec_millGemm ..).trans (congrArg Host.Outcome.next (State.millStart_ok hgo hp hr ?_)),
      State.millEnter_facts p _ [] act (State.millGo_some hgo)⟩
    simp only [hact]
  · refine ⟨_, (exec_millGgemm ..).trans (congrArg Host.Outcome.next (State.millStart_ok hgo hp hr ?_)),
      State.millEnter_facts p _ (entriesOf 32 (fld o.desc 0xEC 0 13) bs) act (State.millGo_some hgo)⟩
    simp only [hbs, hbad, hplan, hact]
  · refine ⟨_, (exec_millAttend ..).trans (congrArg Host.Outcome.next (State.millStart_ok hgo hp hr ?_)),
      State.millEnter_facts p _ (entriesOf 32 (fld o.desc 0x20 0 32) bs) [] (State.millGo_some hgo)⟩
    simp only [hbs, hbad]
  · exact ⟨_, (exec_millPack ..).trans (congrArg Host.Outcome.next (State.millStart_ok hgo hp hr rfl)),
      State.millEnter_facts p [] [] [] (State.millGo_some hgo)⟩

end Sys2Proof.Machine
end

section
/-! The drains of finished blocks and the deliveries of parts (R98, R115, R144, R149). -/

namespace Sys2Proof.Machine

/-- What reading memory for a tile leaves besides: translations used, lines of the loft touched, latencies noted. -/
structure ReadsOf (s t : State) : Prop where
  eq : ∃ x w l c ps, t = { s with xlat := x, weir := w, mem := { s.mem with loft := l, loftClock := c, ponds := ps } }

theorem ReadsOf.refl (s : State) : ReadsOf s s := ⟨_, _, _, _, _, rfl⟩

theorem ReadsOf.trans {s t u : State} (h : ReadsOf s t) (k : ReadsOf t u) : ReadsOf s u := by
  obtain ⟨_, _, _, _, _, rfl⟩ := h
  obtain ⟨_, _, _, _, _, rfl⟩ := k
  exact ⟨_, _, _, _, _, rfl⟩

theorem ReadsOf.foldl {β : Type} {g : State → β → State} (hg : ∀ s b, ReadsOf s (g s b)) (l : List β) (s : State) :
    ReadsOf s (l.foldl g s) := by
  induction l generalizing s with
  | nil => exact .refl s
  | cons b l ih => exact (hg s b).trans (ih _)

theorem LoftTouched.readsOf {s t : State} (h : LoftTouched s t) : ReadsOf s t := by
  obtain ⟨⟨_, _, _, rfl⟩, -⟩ := h
  exact ⟨_, _, _, _, _, rfl⟩

theorem readsOf_useXlat (s : State) (a : Agent) (va : Nat) : ReadsOf s (s.useXlat a va) := by
  obtain ⟨x, h⟩ := s.useXlat_eq a va
  rw [h]
  exact ⟨_, _, _, _, _, rfl⟩

theorem readsOf_touchReads (s : State) (a : Agent) (l : List (Nat × Nat)) : ReadsOf s (s.touchReads a l) :=
  ReadsOf.foldl (fun s x => ReadsOf.foldl (fun s p => by
    split
    · exact (readsOf_useXlat ..).trans (LoftTouched.foldl (fun _ _ => loftTouched_loftTouch ..) _ _).readsOf
    · exact readsOf_useXlat ..) _ _) _ _

theorem readsOf_noteLatencies (s : State) (h : Nat) (ls : List Nat) : ReadsOf s (s.noteLatencies h ls) := by
  obtain ⟨w, hw⟩ := s.noteLatencies_eq h ls
  rw [hw]
  exact ⟨_, _, _, _, _, rfl⟩

@[simp] theorem State.modMill_at?_self (s : State) (id : Nat) (g : MillRun → MillRun) :
    (s.modMill id g).eng.mills.at? id = (s.eng.mills.at? id).map g := Tab.at?_modify_self ..

@[simp] theorem State.modRank_at?_self (s : State) (id r : Nat) (g : MillRank → MillRank) :
    (s.modRank id r g).eng.mills.at? id = (s.eng.mills.at? id).map (fun m => { m with ranks := m.ranks.modify r g }) := by
  rw [State.modRank, Tab.at?_modify_self]

theorem exec_millBlockDone (op r : Nat) (ext : Ext) (s : State) : exec (.millBlockDone op r ext) s = execMillBlockDone op r ext s := rfl
theorem exec_ksplitDelivery (op r : Nat) (ext : Ext) (s : State) :
    exec (.ksplitDelivery op r ext) s = execKsplitDelivery op r ext s := rfl

/-- A rank's work on an attend item: it is the rank's turn, and its part is the one the command is for. -/
structure AttendTurn (s : State) (op r : Nat) (m : MillRun) (o : Op) (k : MillRank) (i : MillItem) : Prop where
  run : s.eng.mills.at? op = some m
  found : s.op? op = some o
  rank : m.ranks.at? r = some k
  live : o.phase ≠ .ended
  turn : s.millTurn op k.tile = true
  item : (m.items o.desc k)[k.done]? = some i

/-- The agent a rank's tile reads with. -/
def State.rankAgent (s : State) (op : Nat) (o : Op) (k : MillRank) : Agent := s.agent op o (dieOfTile k.tile) (k.tile + 1)

section
variable {s : State} {op r : Nat} {ext : Ext} {m m1 : MillRun} {o : Op} {k : MillRank} {i : MillItem} {rows : List AttendRow}
  {home : Bool} (pass2 : State → Op → MillRun → MillRank → MillItem → List (Nat × Bool) → List AttendRow → State)
  (h : AttendTurn s op r m o k i) (hpart : (k.part = 0) = (home = true))
  (hin : s.attendInputs (s.rankAgent op o k) ext o.desc (getAt 0 m.table i.grp) (millSplit o.desc) k.part i = .ok rows)
  (hm1 : (s.attendMaxima op (s.rankAgent op o k) ext o m k i rows).eng.mills.at? op = some m1)
include h hpart hin hm1

/-- With every part's maxima in, a part goes on to its second pass (R144). -/
theorem State.attendPasses_joined {ms : List (Nat × Bool)} (hj : m1.joined k rows.length = some ms) :
    s.attendPasses op r ext home pass2 = pass2 ((s.attendMaxima op (s.rankAgent op o k) ext o m k i rows).touchReads
      (s.rankAgent op o k) (s.attendReads (s.rankAgent op o k) ext o.desc (getAt 0 m.table i.grp) (millSplit o.desc) k.part i))
      o m1 k i ms rows := by
  obtain ⟨hrun, ho, hrank, hlive, hturn, hitem⟩ := h
  rw [State.rankAgent] at hin hm1
  simp only [State.attendPasses, hrun, ho, hrank, hitem, hpart, hlive, hturn, ne_eq, not_true_eq_false, decide_false, Bool.not_true,
    Bool.or_self, Bool.false_eq_true, ↓reduceIte, hin, hm1, hj]
  rfl

/-- With a part's maxima missing, a part has delivered its own and waits (R144). -/
theorem State.attendPasses_waits (hj : m1.joined k rows.length = none) :
    s.attendPasses op r ext home pass2 = s.attendMaxima op (s.rankAgent op o k) ext o m k i rows := by
  obtain ⟨hrun, ho, hrank, hlive, hturn, hitem⟩ := h
  rw [State.rankAgent] at hin hm1
  simp only [State.attendPasses, hrun, ho, hrank, hitem, hpart, hlive, hturn, ne_eq, not_true_eq_false, decide_false, Bool.not_true,
    Bool.or_self, Bool.false_eq_true, ↓reduceIte, hin, hm1, hj]
  rfl
end

theorem State.attendMaxima_facts (s : State) (op : Nat) (a : Agent) (ext : Ext) (o : Op) (m : MillRun) (k : MillRank) (i : MillItem)
    (rows : List AttendRow) : SameBytes s (s.attendMaxima op a ext o m k i rows)
      ∧ (s.attendMaxima op a ext o m k i rows).host = s.host := by
  unfold State.attendMaxima
  split
  · exact ⟨.refl _, rfl⟩
  · obtain ⟨_, _, _, _, _, h⟩ := ((readsOf_noteLatencies (s.start op) o.pond ext.lats).trans (readsOf_touchReads _ a
      (s.attendReads a ext o.desc (getAt 0 m.table i.grp) (millSplit o.desc) k.part i))).eq
    dsimp only
    rw [h]
    exact ⟨⟨rfl, rfl, rfl⟩, rfl⟩

/-- A command about a block of an op of gemm or ggemm, found at the operation. -/
theorem execMillBlockDone_gemm {s0 : State} {op r : Nat} {ext : Ext} {o1 : Op} (ho : (s0.findErrors ext).op? op = some o1)
    (hc : o1.opcode ≤ 0x21) : execMillBlockDone op r ext s0 = .next ((s0.findErrors ext).gemmBlock op r ext) := by
  have h1 : o1.opcode ≠ 0x22 := by omega
  have h2 : o1.opcode ≠ 0x23 := by omega
  simp only [execMillBlockDone, ho, h1, h2, hc, ↓reduceIte]

theorem execKsplitDelivery_gemm {s0 : State} {op r : Nat} {ext : Ext} {o1 : Op} (ho : (s0.findErrors ext).op? op = some o1)
    (hc : o1.opcode ≤ 0x21) : execKsplitDelivery op r ext s0 = .next ((s0.findErrors ext).gemmDeliver op r) := by
  have h1 : o1.opcode ≠ 0x22 := by omega
  simp only [execKsplitDelivery, ho, h1, hc, ↓reduceIte]

theorem execMillBlockDone_attend {s0 : State} {op r : Nat} {ext : Ext} {o : Op} (ho : (s0.findErrors ext).op? op = some o)
    (hc : o.opcode = 0x22) : execMillBlockDone op r ext s0 = .next ((s0.findErrors ext).attendBlock op r ext) := by
  simp only [execMillBlockDone, ho, hc, ↓reduceIte]

theorem execKsplitDelivery_attend {s0 : State} {op r : Nat} {ext : Ext} {o : Op} (ho : (s0.findErrors ext).op? op = some o)
    (hc : o.opcode = 0x22) : execKsplitDelivery op r ext s0 = .next ((s0.findErrors ext).attendDeliver op r ext) := by
  simp only [execKsplitDelivery, ho, hc, ↓reduceIte]

theorem State.gemmBlock_drains {s0 s : State} {op r : Nat} {ext : Ext} {m : MillRun} {o : Op} {k : MillRank} {i : MillItem}
    {own : List Cell} {parts : List (List Cell)} {sd : Sides} (hs : s0.consume op r consumeFuel = s)
    (hm : s.eng.mills.at? op = some m) (ho : s.op? op = some o) (hk : m.ranks.at? r = some k) (ht : s.millTurn op k.tile = true)
    (hi : (m.items o.desc k)[k.done]? = some i) (hd : m.deliveries k.lane k.done = some parts) (hf : k.full = some own)
    (hp : k.part = 0) (hsd : s.readSides (s.agent op o (dieOfTile k.tile) (k.tile + 1)) ext o.desc i = .ok sd) :
    s0.gemmBlock op r ext = (s.touchReads (s.agent op o (dieOfTile k.tile) (k.tile + 1)) (sideReads o.desc i)).drainItem op r o m k
      (m.items o.desc k) ext { gemmDrain o.desc m.act (getAt 0 m.anchors 0) sd (joinCells (fld o.desc 0x2C 28 1 = 1) (own :: parts)).1
          i k.done with
        flags := (gemmDrain o.desc m.act (getAt 0 m.anchors 0) sd (joinCells (fld o.desc 0x2C 28 1 = 1) (own :: parts)).1 i
          k.done).flags ||| (joinCells (fld o.desc 0x2C 28 1 = 1) (own :: parts)).2 }
      (if (gemmDrain o.desc m.act (getAt 0 m.anchors 0) sd (joinCells (fld o.desc 0x2C 28 1 = 1) (own :: parts)).1 i k.done).ovf = 0
        then [] else [0]) := by
  simp only [State.gemmBlock, hs, hm, ho, hk, hi, hd, hf, hp, ht, hsd, ne_eq, not_true_eq_false, decide_false, Bool.not_true,
    Bool.or_self, Bool.false_eq_true, ↓reduceIte]

theorem State.gemmDeliver_delivers {s0 s : State} {op r : Nat} {m : MillRun} {o : Op} {k : MillRank} {cells : List Cell}
    (hs : s0.consume op r consumeFuel = s) (hm : s.eng.mills.at? op = some m) (ho : s.op? op = some o)
    (hk : m.ranks.at? r = some k) (ht : s.millTurn op k.tile = true) (hp : k.part ≠ 0) (hf : k.full = some cells)
    (hd : k.done < (m.items o.desc k).length) :
    s0.gemmDeliver op r = ((s.modMill op (fun m => { m with
        delivered := m.delivered ++ [{ lane := k.lane, item := k.done, part := k.part, cells }] })).modRank op r (fun k =>
      { k with done := k.done + 1, full := none }.turnOver)).refreshBoard := by
  have hlen : ¬ (m.items o.desc k).length ≤ k.done := by omega
  simp only [State.gemmDeliver, hs, hm, ho, hk, hf, hp, hlen, ht, decide_false, Bool.not_true, Bool.or_self, Bool.false_eq_true,
    ↓reduceIte]

/-- Settles O16: each drain is the branch its block and its deliveries choose. -/
theorem millBlocksDrain : Obligations.MillBlocksDrain := by
  refine ⟨?_, ?_, ?_, ?_, ?_, ?_⟩
  · rintro s0 s op r ext m o k i own parts sd ⟨⟨o1, ho1, hc⟩, hs, hm, ho, hk, ht⟩ hi hd hf hp hsd
    rw [exec_millBlockDone, execMillBlockDone_gemm ho1 hc, State.gemmBlock_drains hs hm ho hk ht hi hd hf hp hsd]
  · rintro s0 s op r ext m m1 o k i rows ms parts ⟨rfl, hm, ho, hc, hk, hl, ht, hi⟩ hp hin s1 hm1 hj hd
    have hturn : AttendTurn (s0.findErrors ext) op r m o k i := ⟨hm, ho, hk, hl, ht, hi⟩
    rw [exec_millBlockDone, execMillBlockDone_attend ho hc, State.attendBlock,
      State.attendPasses_joined _ hturn (by simp [hp]) (by rw [hp]; exact hin) hm1 hj]
    simp only [hd, hp]
    rfl
  · rintro s0 s op r ext m o k i src ⟨rfl, hm, ho, hc, hk, hl, ht, hi⟩ hsrc
    simp only [exec_millBlockDone, execMillBlockDone, ho, hc, Nat.reduceEqDiff, ↓reduceIte, State.packBlock, hm, hk, hi, hl, ht,
      hsrc, decide_false, Bool.not_true, Bool.or_self, Bool.false_eq_true]
  · rintro s0 s op r ext m o k cells ⟨⟨o1, ho1, hc⟩, hs, hm, ho, hk, ht⟩ hp hf hd
    have hexec : execKsplitDelivery op r ext s0 = _ := execKsplitDelivery_gemm ho1 hc
    rw [State.gemmDeliver_delivers hs hm ho hk ht hp hf hd] at hexec
    refine ⟨_, (exec_ksplitDelivery ..).trans hexec, rfl, rfl, rfl, (State.modRank_at?_self ..).trans ?_⟩
    rw [State.modMill_at?_self, hm]
    rfl
  · rintro s0 s op r ext m m1 o k i rows ms ⟨rfl, hm, ho, hc, hk, hl, ht, hi⟩ hp hin s1 hm1 hj
    have hturn : AttendTurn (s0.findErrors ext) op r m o k i := ⟨hm, ho, hk, hl, ht, hi⟩
    have hexec : execKsplitDelivery op r ext s0 = _ := execKsplitDelivery_attend ho hc
    rw [State.attendDeliver, State.attendPasses_joined _ hturn (by simp [hp]) hin hm1 hj] at hexec
    obtain ⟨hbytes, hhost⟩ := State.attendMaxima_facts (s0.findErrors ext) op ((s0.findErrors ext).rankAgent op o k) ext o m k i rows
    obtain ⟨_, _, _, _, _, hreads⟩ := (readsOf_touchReads ((s0.findErrors ext).attendMaxima op
      ((s0.findErrors ext).rankAgent op o k) ext o m k i rows) ((s0.findErrors ext).rankAgent op o k)
      ((s0.findErrors ext).attendReads ((s0.findErrors ext).rankAgent op o k) ext o.desc (getAt 0 m.table i.grp) (millSplit o.desc)
        k.part i)).eq
    dsimp only at hexec
    rw [hreads] at hexec
    refine ⟨_, (exec_ksplitDelivery ..).trans hexec, hbytes.hbm, hbytes.sram, hhost, ?_⟩
    refine (State.modRank_at?_self ..).trans ?_
    rw [State.modMill_at?_self]
    refine (congrArg (fun x => Option.map _ (Option.map _ x)) hm1).trans ?_
    rfl
  · rintro s0 s op r ext m m1 o k i rows ⟨rfl, hm, ho, hc, hk, hl, ht, hi⟩ hin s1 hm1 hj
    have hturn : AttendTurn (s0.findErrors ext) op r m o k i := ⟨hm, ho, hk, hl, ht, hi⟩
    refine ⟨fun hp => ?_, fun hp => ?_⟩
    · rw [exec_millBlockDone, execMillBlockDone_attend ho hc, State.attendBlock,
        State.attendPasses_waits _ hturn (by simp [hp]) hin hm1 hj]
      rfl
    · rw [exec_ksplitDelivery, execKsplitDelivery_attend ho hc, State.attendDeliver,
        State.attendPasses_waits _ hturn (by simp [hp]) hin hm1 hj]
      rfl

end Sys2Proof.Machine
end

section
/-! Roots, invalidations and dirty logging (R400, R407 to R409, R419 to R422). -/

namespace Sys2Proof.Machine

/-- The operation's action recorded in its sluice (R407). -/
def State.recorded (s : State) (op : Nat) (o : Op) (r : Recorded) : State :=
  (s.modSluice o.sluice (fun e => { e with recorded := e.recorded ++ [r] })).succeed op

theorem State.nowOrRecord_now {s : State} {op : Nat} {o : Op} (r : Recorded) (act : State → State) (h : o.sluice = 0) :
    s.nowOrRecord op o r act = (act s).start op := by
  simp only [State.nowOrRecord, h, ↓reduceIte]

theorem State.nowOrRecord_recorded {s : State} {op : Nat} {o : Op} (r : Recorded) (act : State → State) (h : o.sluice ≠ 0) :
    s.nowOrRecord op o r act = s.recorded op o r := by
  simp only [State.nowOrRecord, h, ↓reduceIte]
  rfl

/-- The translations of a function that `sel` picks leave every cache, and no other does. -/
theorem State.mem_dropXlat (s : State) (f : Nat) (sel : Translation → Bool) :
    (∀ x, x ∈ (s.dropXlat f sel).xlat.tlb ↔ x ∈ s.xlat.tlb ∧ ¬(x.fn = f ∧ sel x = true))
    ∧ ∀ x, x ∈ (s.dropXlat f sel).xlat.micro ↔ x ∈ s.xlat.micro ∧ ¬(x.2.fn = f ∧ sel x.2 = true) :=
  ⟨fun x => by simp [State.dropXlat, List.mem_filter, imp_iff_not_or], fun x => by simp [State.dropXlat, List.mem_filter, imp_iff_not_or]⟩

theorem State.start_phase {s : State} {op : Nat} {o : Op} (h : s.op? op = some o) :
    ((s.start op).op? op).map (·.phase) = some .running := by
  rw [State.start, State.modOp_op?_self, h]
  rfl

theorem exec_xlatRoot (op : Nat) (s : State) : exec (.xlatRoot op) s = execXlatRoot op s := rfl
theorem exec_xlatRootRemove (op : Nat) (s : State) : exec (.xlatRootRemove op) s = execXlatRootRemove op s := rfl
theorem exec_xlatInval (op : Nat) (s : State) : exec (.xlatInval op) s = execXlatInval op s := rfl
theorem exec_xlatInvalDone (op : Nat) (s : State) : exec (.xlatInvalDone op) s = execXlatInvalDone op s := rfl
theorem exec_xlatDirtyStart (op : Nat) (s : State) : exec (.xlatDirtyStart op) s = execXlatDirtyStart op s := rfl
theorem exec_xlatDirtyStop (op : Nat) (s : State) : exec (.xlatDirtyStop op) s = execXlatDirtyStop op s := rfl
theorem exec_xlatDirtySwap (op : Nat) (s : State) : exec (.xlatDirtySwap op) s = execXlatDirtySwap op s := rfl

theorem execXlatRoot_good {s : State} {op : Nat} {o : Op} (ho : s.go? op 0x80 = some o) (hi : fld o.desc 0x28 0 1 = 1)
    (hg : s.goodTable (xlatTarget o 0x2C) (0xFFFF * 2 ^ 43 + fld o.desc 0x20 0 43) = true) :
    execXlatRoot op s = .next (s.nowOrRecord op o (.root (xlatTarget o 0x2C) (some (fld o.desc 0x20 0 43)))
      (fun s => s.setRoot (xlatTarget o 0x2C) (some (fld o.desc 0x20 0 43)))) := by
  simp only [execXlatRoot, ho, hi, hg, Nat.one_ne_zero, Bool.not_true, Bool.false_eq_true, ↓reduceIte]

theorem execXlatRootRemove_ready {s : State} {op : Nat} {o : Op} (ho : s.go? op 0x80 = some o) (hi : fld o.desc 0x28 0 1 = 0) :
    execXlatRootRemove op s = .next (s.nowOrRecord op o (.root (xlatTarget o 0x2C) none)
      (fun s => s.setRoot (xlatTarget o 0x2C) none)) := by
  simp only [execXlatRootRemove, ho, hi, Nat.zero_ne_one, ↓reduceIte]

theorem execXlatInval_ready {s : State} {op : Nat} {o : Op} (ho : s.go? op 0x81 = some o) :
    execXlatInval op s = .next (s.nowOrRecord op o (.inval (xlatTarget o 0x30) (fld o.desc 0x2C 0 2) (fld o.desc 0x20 0 55)
        (fld o.desc 0x28 0 32)) (fun s => s.invalidate (xlatTarget o 0x30) (fld o.desc 0x2C 0 2) (fld o.desc 0x20 0 55)
        (fld o.desc 0x28 0 32))) := by
  simp only [execXlatInval, ho]

/-- A root set (R400): the function's root, and its translations out of every cache. -/
theorem State.setRoot_facts {s : State} {op : Nat} {o : Op} (f : Nat) (root : Option Nat) (ho : s.op? op = some o) :
    (((s.setRoot f root).start op).fn f).root = root ∧ ((((s.setRoot f root).start op).op? op).map (·.phase) = some .running)
    ∧ (∀ x, x ∈ ((s.setRoot f root).start op).xlat.tlb ↔ x ∈ s.xlat.tlb ∧ ¬(x.fn = f ∧ true = true))
    ∧ (∀ x, x ∈ ((s.setRoot f root).start op).xlat.micro ↔ x ∈ s.xlat.micro ∧ ¬(x.2.fn = f ∧ true = true))
    ∧ (∀ g, g ≠ f → ((s.setRoot f root).start op).fn g = s.fn g) ∧ ((s.setRoot f root).start op).mem = s.mem
    ∧ ((s.setRoot f root).start op).eng = s.eng ∧ ((s.setRoot f root).start op).work.sluices = s.work.sluices := by
  obtain ⟨htlb, hmicro⟩ := (s.setFn f { s.fn f with root }).mem_dropXlat f (fun _ => true)
  have hfn : ∀ g, ((s.setRoot f root).start op).fn g = (s.setFn f { s.fn f with root }).fn g := fun _ => rfl
  have hop : (s.setRoot f root).op? op = some o := ho
  exact ⟨by rw [hfn, State.setFn_fn_self], State.start_phase hop, htlb, hmicro,
    fun g hg => by rw [hfn, State.setFn_fn_ne _ _ hg], rfl, rfl, rfl⟩

/-- Settles O17: outside a sluice the caches are filtered, inside one the action is only recorded. -/
theorem rootsAndInvalidationsTakeEffect : Obligations.RootsAndInvalidationsTakeEffect := by
  refine ⟨fun s op o ho hi hg => ⟨fun h0 => ?_, fun hn => ?_⟩, fun s op o ho hi => ⟨fun h0 => ?_, fun hn => ?_⟩,
    fun s op o ho => ⟨fun h0 => ?_, fun hn => ?_⟩, fun s op o ho hc hp => ?_⟩
  · refine ⟨_, ?_, State.setRoot_facts _ _ (State.go?_some ho).1⟩
    rw [exec_xlatRoot, execXlatRoot_good ho hi hg, State.nowOrRecord_now _ _ h0]
  · rw [exec_xlatRoot, execXlatRoot_good ho hi hg, State.nowOrRecord_recorded _ _ hn]
    rfl
  · refine ⟨_, ?_, State.setRoot_facts _ _ (State.go?_some ho).1⟩
    rw [exec_xlatRootRemove, execXlatRootRemove_ready ho hi, State.nowOrRecord_now _ _ h0]
  · rw [exec_xlatRootRemove, execXlatRootRemove_ready ho hi, State.nowOrRecord_recorded _ _ hn]
    rfl
  · have hsel : (fun x : Translation => if fld o.desc 0x2C 0 2 = 0 then x.overlaps (fld o.desc 0x20 0 55) (fld o.desc 0x28 0 32)
        else if fld o.desc 0x2C 0 2 = 1 then true else decide (x.slot ≠ 0))
        = fun x => if fld o.desc 0x2C 0 2 = 0 then x.overlaps (fld o.desc 0x20 0 55) (fld o.desc 0x28 0 32)
            else fld o.desc 0x2C 0 2 = 1 || x.slot ≠ 0 := by
      funext x
      by_cases h1 : fld o.desc 0x2C 0 2 = 1
      · simp [h1]
      · simp [h1]
    obtain ⟨htlb, hmicro⟩ := s.mem_dropXlat (xlatTarget o 0x30) (fun x => if fld o.desc 0x2C 0 2 = 0 then
      x.overlaps (fld o.desc 0x20 0 55) (fld o.desc 0x28 0 32) else fld o.desc 0x2C 0 2 = 1 || x.slot ≠ 0)
    have hop : (s.dropXlat (xlatTarget o 0x30) (fun x => if fld o.desc 0x2C 0 2 = 0 then
      x.overlaps (fld o.desc 0x20 0 55) (fld o.desc 0x28 0 32) else fld o.desc 0x2C 0 2 = 1 || x.slot ≠ 0)).op? op = some o :=
      (State.go?_some ho).1
    have hexec := execXlatInval_ready ho
    rw [State.nowOrRecord_now _ _ h0] at hexec
    simp only [State.invalidate, hsel] at hexec
    exact ⟨_, (exec_xlatInval ..).trans hexec, rfl, State.start_phase hop, htlb, hmicro, fun g _ => rfl, rfl, rfl, rfl⟩
  · rw [exec_xlatInval, execXlatInval_ready ho, State.nowOrRecord_recorded _ _ hn]
    rfl
  · have hc' : (decide (o.opcode = 0x80) || decide (o.opcode = 0x81)) = true := by simpa using hc
    simp only [exec_xlatInvalDone, execXlatInvalDone, ho, hc', hp, decide_true, Bool.and_self, ↓reduceIte]

/-- Settles O18: each of the three takes its branch by whether dirty logging is on. -/
theorem dirtyLoggingTakesEffect : Obligations.DirtyLoggingTakesEffect := by
  refine ⟨fun s op o ho hb => ⟨fun hl => ?_, fun hl => ?_⟩, fun s op o ho => ⟨fun hl => ?_, fun hl => ?_⟩,
    fun s op o ho hb => ⟨fun hl h0 => ?_, fun hl hn => ?_, fun hl => ?_⟩⟩
  · simp only [exec_xlatDirtyStart, execXlatDirtyStart, ho, hb, hl, Bool.not_true, Bool.false_eq_true, ↓reduceIte]
  · simp only [exec_xlatDirtyStart, execXlatDirtyStart, ho, hb, hl, Bool.not_true, Bool.false_eq_true, ↓reduceIte]
  · simp only [exec_xlatDirtyStop, execXlatDirtyStop, ho, hl, Bool.not_true, Bool.false_eq_true, ↓reduceIte]
  · simp only [exec_xlatDirtyStop, execXlatDirtyStop, ho, hl, Bool.not_false, ↓reduceIte]
  · simp only [exec_xlatDirtySwap, execXlatDirtySwap, ho, hb, hl, h0, Bool.not_true, Bool.false_eq_true, ↓reduceIte]
  · simp only [exec_xlatDirtySwap, execXlatDirtySwap, ho, hb, hl, hn, Bool.not_true, Bool.false_eq_true, ↓reduceIte]
  · simp only [exec_xlatDirtySwap, execXlatDirtySwap, ho, hb, hl, Bool.not_true, Bool.not_false, Bool.false_eq_true, ↓reduceIte]

end Sys2Proof.Machine
end

section
/-! The weir (R452 to R462): estimates, credits, miss windows and evaluation periods. -/

namespace Sys2Proof.Machine

/-- A table whose keys `key b`, for `b` of a list, are set to `val b`. -/
theorem Tab.get_foldl_set {β : Type} (key val : β → Nat) (l : List β) (t : Tab Nat) (d k : Nat) (v : Nat)
    (hv : ∀ b ∈ l, key b = k → val b = v) :
    (l.foldl (fun t b => Tab.set t (key b) (val b)) t).get d k = if ∃ b ∈ l, key b = k then v else t.get d k := by
  induction l generalizing t with
  | nil => simp
  | cons b l ih =>
    rw [List.foldl_cons, ih _ fun b hb => hv b (.tail _ hb)]
    by_cases hl : ∃ b ∈ l, key b = k
    · obtain ⟨b', hb', hk⟩ := hl
      rw [if_pos ⟨b', hb', hk⟩, if_pos ⟨b', .tail _ hb', hk⟩]
    · rw [if_neg hl]
      by_cases hb : key b = k
      · rw [if_pos ⟨b, .head _, hb⟩, ← hb, Tab.get_set_self, hv b (.head _) hb]
      · rw [if_neg, Tab.get_set_ne _ _ _ fun h => hb h.symm]
        rintro ⟨b', hb', hk⟩
        rcases List.mem_cons.1 hb' with rfl | hb'
        · exact hb hk
        · exact hl ⟨b', hb', hk⟩

/-- Eight consecutive entries set, one for each class. -/
theorem Tab.get_foldl_classes (val : Nat → Nat) (t : Tab Nat) (d base : Nat) {c : Nat} (hc : c < 8) :
    ((List.range 8).foldl (fun t c => Tab.set t (8 * base + c) (val c)) t).get d (8 * base + c) = val c := by
  rw [Tab.get_foldl_set (fun c => 8 * base + c) val (List.range 8) t d _ (val c) fun b _ h => by
    have : b = c := by omega
    rw [this], if_pos ⟨c, List.mem_range.2 hc, rfl⟩]

/-- The credits of a class in every channel. -/
def classCredits (cap : Tab Nat) (t : Tab Nat) (c : Nat) : Tab Nat :=
  (List.range 384).foldl (fun t ch => Tab.set t (8 * ch + c) (bitsOf (cap.get 0 c) 0 9)) t

theorem get_classCredits (cap t : Tab Nat) {c c' ch : Nat} (hc : c < 8) (hc' : c' < 8) (hch : ch < 384) :
    (classCredits cap t c').get 0 (8 * ch + c) = if c' = c then bitsOf (cap.get 0 c) 0 9 else t.get 0 (8 * ch + c) := by
  rw [classCredits, Tab.get_foldl_set (fun ch => 8 * ch + c') (fun _ => bitsOf (cap.get 0 c') 0 9) _ _ _ _
    (bitsOf (cap.get 0 c') 0 9) fun _ _ _ => rfl]
  by_cases h : c' = c
  · subst h
    rw [if_pos ⟨ch, List.mem_range.2 hch, rfl⟩, if_pos rfl]
  · rw [if_neg h, if_neg]
    rintro ⟨b, -, hb⟩
    omega

theorem get_foldl_classCredits (cap : Tab Nat) (l : List Nat) (hl : ∀ c ∈ l, c < 8) (t : Tab Nat) {c ch : Nat} (hc : c < 8)
    (hch : ch < 384) : (l.foldl (classCredits cap) t).get 0 (8 * ch + c)
      = if c ∈ l then bitsOf (cap.get 0 c) 0 9 else t.get 0 (8 * ch + c) := by
  induction l generalizing t with
  | nil => simp
  | cons a l ih =>
    rw [List.foldl_cons, ih (fun c h => hl c (.tail _ h)), get_classCredits cap t hc (hl a (.head _)) hch]
    by_cases h1 : c ∈ l
    · simp [h1]
    · by_cases h2 : a = c
      · simp [h2]
      · have h3 : c ≠ a := fun h => h2 h.symm
        simp [h1, h2, h3]

theorem exec_hbmReadDone (off lat : Nat) (r : ReadReturn) (s : State) : exec (.hbmReadDone off lat r) s = execHbmReadDone off lat r s := rfl
theorem exec_weirRecompute (port : Nat) (s : State) : exec (.weirRecompute port) s = execWeirRecompute port s := rfl
theorem exec_weirCreditPeriod (s : State) : exec .weirCreditPeriod s = execWeirCreditPeriod s := rfl
theorem exec_requestAgeTimeout (r : AgedRequest) (s : State) : exec (.requestAgeTimeout r) s = execRequestAgeTimeout r s := rfl
theorem exec_weirWindowEnd (s : State) : exec .weirWindowEnd s = execWeirWindowEnd s := rfl
theorem exec_weirEvalPeriod (p : ProbePeriod) (s : State) : exec (.weirEvalPeriod p) s = execWeirEvalPeriod p s := rfl
theorem exec_weirPondCfgWrite (v : Nat) (s : State) : exec (.weirPondCfgWrite v) s = execWeirPondCfgWrite v s := rfl

/-- The estimate of a class at a port after a read's latency (R452). -/
def State.noteReturn (s : State) (key lat : Nat) : State :=
  s.setWeir (fun w => { w with e := w.e.set key (ewma (w.e.get 0 key) lat (w.shiftNow.get 3 key)) })

/-- A returned read of class key `key` (R452, R454). -/
theorem execHbmReadDone_returns {s : State} {off ch : Nat} (lat err queued : Nat) (hch : s.chanOf off = some ch)
    (h : s.weir.aged.contains (off / 128) = true ∨ s.weir.holds ch (s.weirClass off) queued = false) :
    ∃ u : State, u = (if s.weir.aged.contains (off / 128) then s.setWeir (fun w => { w with aged := w.aged.erase (off / 128) })
        else s.spendCredit ch (s.weirClass off))
      ∧ execHbmReadDone off lat ⟨err, queued⟩ s = .next
        (let s1 := u.noteReturn (8 * portOfChan ch + s.weirClass off) lat
        if err = 1 then s1.corrected 4 ch else if err = 2 then (s1.poisonGranule off 1 4 ch).uncorrectable 4 ch else s1) := by
  have hno : (!s.weir.aged.contains (off / 128) && s.weir.holds ch (s.weirClass off) queued) = false := by
    rcases h with h | h
    · rw [h]; rfl
    · rw [h, Bool.and_false]
  refine ⟨_, rfl, ?_⟩
  simp only [execHbmReadDone, hch, hno, Bool.false_eq_true, ↓reduceIte]
  rfl

/-- One class judged (R457): the other classes' miss counts stand, and a class within its target forgets its misses. -/
theorem judgeWindow_facts (s : State) (c : Nat) :
    (s.judgeWindow c).mem = s.mem ∧ (s.judgeWindow c).weir.e = s.weir.e ∧ (s.judgeWindow c).weir.tgt = s.weir.tgt
    ∧ (∀ d, d ≠ c → (s.judgeWindow c).weir.missRun.get 0 d = s.weir.missRun.get 0 d
        ∧ (s.judgeWindow c).weir.missCnt.get 0 d = s.weir.missCnt.get 0 d)
    ∧ (s.weir.target c = 0 ∨ (s.weir.worst c).2 ≤ s.weir.target c →
        (s.judgeWindow c).weir.missRun.get 0 c = 0 ∧ (s.judgeWindow c).weir.missCnt.get 0 c = s.weir.missCnt.get 0 c) := by
  unfold State.judgeWindow
  rcases hw : s.weir.worst c with ⟨port, e⟩
  simp only [hw]
  split
  · exact ⟨rfl, rfl, rfl, fun d hd => ⟨Tab.get_set_ne _ _ _ hd, rfl⟩, fun _ => ⟨Tab.get_set_self .., rfl⟩⟩
  · next hno =>
    split
    · exact ⟨rfl, rfl, rfl, fun _ _ => ⟨rfl, rfl⟩, fun h => absurd h hno⟩
    · split
      · exact ⟨rfl, rfl, rfl, fun d hd => ⟨Tab.get_set_ne _ _ _ hd, rfl⟩, fun h => absurd h hno⟩
      · rw [(told_post ..).mem, (told_post ..).apart.weir]
        exact ⟨rfl, rfl, rfl, fun d hd => ⟨Tab.get_set_ne _ _ _ hd, Tab.get_set_ne _ _ _ hd⟩, fun h => absurd h hno⟩

/-- The classes of a list judged. -/
theorem judgeWindows_facts (l : List Nat) (s : State) (c : Nat)
    (hc : s.weir.target c = 0 ∨ (s.weir.worst c).2 ≤ s.weir.target c) :
    (l.foldl State.judgeWindow s).mem = s.mem ∧ (l.foldl State.judgeWindow s).weir.e = s.weir.e
    ∧ (l.foldl State.judgeWindow s).weir.missCnt.get 0 c = s.weir.missCnt.get 0 c
    ∧ (c ∈ l ∨ s.weir.missRun.get 0 c = 0 → (l.foldl State.judgeWindow s).weir.missRun.get 0 c = 0) := by
  induction l generalizing s with
  | nil => simp
  | cons a l ih =>
    obtain ⟨hmem, he, htgt, hother, hself⟩ := judgeWindow_facts s a
    have hc' : (s.judgeWindow a).weir.target c = 0 ∨ ((s.judgeWindow a).weir.worst c).2 ≤ (s.judgeWindow a).weir.target c := by
      simpa only [WeirPart.target, WeirPart.tgtOf, WeirPart.worst, he, htgt] using hc
    obtain ⟨hmem', he', hcnt, hrun⟩ := ih _ hc'
    rw [List.foldl_cons]
    refine ⟨hmem'.trans hmem, he'.trans he, hcnt.trans ?_, fun h => hrun ?_⟩
    · by_cases hca : c = a
      · subst hca
        exact (hself hc).2
      · exact (hother c hca).2
    · by_cases hca : c = a
      · subst hca
        exact .inr (hself hc).1
      · refine h.imp (fun h => (List.mem_cons.1 h).resolve_left hca) fun h => ?_
        rw [(hother c hca).1, h]

theorem State.probe_eq (s : State) (h : Nat) : ∃ l, s.probe h = s.withSent l :=
  State.foldl_withSent (fun s _ => s.send_eq _) _ _

theorem told_postMode (s : State) (h : Nat) (p : WeirPond) (peak : Nat) : Told s (s.postMode h p peak) := by
  unfold State.postMode
  split
  · rfl
  · exact told_post ..

theorem State.setWeirPond_self {s : State} {h : Nat} {p0 : WeirPond} (p : WeirPond) (hp : s.weirPond h = some p0) :
    (s.setWeirPond h p).weirPond h = some p := by
  obtain ⟨x, hx, -⟩ := Option.map_eq_some_iff.1 hp
  have hx' : (s.setWeirPond h p).mem.ponds.at? h = some x := hx
  rw [State.weirPond, hx', Option.map_some]
  exact congrArg some (Tab.get_set_self ..)

theorem State.weirPond_congr {s t : State} (hm : t.mem = s.mem) (hw : t.weir = s.weir) (h : Nat) : t.weirPond h = s.weirPond h := by
  rw [State.weirPond, State.weirPond, hm, hw]

/-- A pond's record set, an event posted and probes sent, or not. -/
theorem State.weirPond_after {s t u v : State} {h : Nat} {p0 : WeirPond} (p : WeirPond) (hp : s.weirPond h = some p0)
    (ht : t = s.setWeirPond h p) (hu : Told t u) (hv : ∃ l, v = u.withSent l) :
    v.weirPond h = some p ∧ v.mem = s.mem := by
  subst ht
  obtain ⟨l, rfl⟩ := hv
  have hmem : (u.withSent l).mem = (s.setWeirPond h p).mem := hu.mem
  have hweir : (u.withSent l).weir = (s.setWeirPond h p).weir := hu.apart.weir
  exact ⟨(State.weirPond_congr hmem hweir h).trans (State.setWeirPond_self p hp), hmem⟩

theorem State.noteLatencies_weirPond_push {s : State} (h : Nat) (ls : List Nat) {p p' : WeirPond} (hp : s.weirPond h = some p)
    (hp' : (s.noteLatencies h ls).weirPond h = some p') : p'.push = p.push := by
  induction ls generalizing s p with
  | nil =>
    rw [show s.noteLatencies h [] = s from rfl, hp] at hp'
    rw [Option.some.inj hp']
  | cons l ls ih =>
    have hstep : ∃ p1, (s.noteLatency h l).weirPond h = some p1 ∧ p1.push = p.push := by
      rw [State.noteLatency, hp]
      exact ⟨_, State.setWeirPond_self _ hp, rfl⟩
    obtain ⟨p1, h1, hpush⟩ := hstep
    exact (ih h1 hp').trans hpush

theorem State.evalPeriod_pushes {s : State} {h : Nat} {p : WeirPond} (hp : s.weirPond h = some p) (ha : p.auto = true)
    (hb : p.budget ≠ 0) (hpush : p.push = false) (hr : p.reads ≠ 0) (hpeak : p.budget < p.peakNow) (hbey : p.beyond = 2) :
    s.evalPeriod h = ((s.setWeirPond h { p with peak := p.peakNow, peakNow := 0, reads := 0, push := true, beyond := 0, under := 0 }).postMode
      h { p with peak := p.peakNow, peakNow := 0, reads := 0, push := true, beyond := 0, under := 0 } p.peakNow).probe h := by
  have h3 : p.beyond + 1 = 3 := by omega
  unfold State.evalPeriod
  rw [hp]
  dsimp only
  rw [if_neg (by simp [ha, hb]), if_pos (by simp [hpush]), if_neg hr, if_pos hpeak, if_pos h3]

theorem State.evalPeriod_under {s : State} {h : Nat} {p : WeirPond} (hp : s.weirPond h = some p) (ha : p.auto = true)
    (hb : p.budget ≠ 0) (hpush : p.push = true) (hr : p.reads ≠ 0) (hpeak : 4 * p.peakNow ≤ 3 * p.budget) :
    (p.under = 15 → s.evalPeriod h
      = (s.setWeirPond h { p with peak := p.peakNow, peakNow := 0, reads := 0, push := false, beyond := 0, under := 0 }).postMode h
        { p with peak := p.peakNow, peakNow := 0, reads := 0, push := false, beyond := 0, under := 0 } p.peakNow)
    ∧ (p.under ≠ 15 → s.evalPeriod h
      = (s.setWeirPond h { p with peak := p.peakNow, peakNow := 0, reads := 0, under := p.under + 1 }).probe h) := by
  unfold State.evalPeriod
  rw [hp]
  dsimp only
  rw [if_neg (by simp [ha, hb]), if_neg (by simp [hpush]), if_neg hr, if_pos hpeak]
  refine ⟨fun h15 => ?_, fun h15 => ?_⟩
  · rw [if_pos (by omega)]
  · rw [if_neg (by omega)]

/-- Settles O20: each command's branch, with the other keys of its tables left by each write. -/
theorem weirCommandsTakeEffect : Obligations.WeirCommandsTakeEffect := by
  refine ⟨fun s off lat err queued ch hch ha hh => ?_, fun s off lat err queued ch aged hch ha hh => ?_, fun s port hp => ?_,
    fun s => ?_, fun s off ch hch => ⟨?_, fun n hn => ?_⟩, fun s c hc h => ?_, fun s h lats p hp ha hb hpush hr hpeak hbey => ?_,
    fun s h lats p0 p hp0 hpush0 hp ha hb hr hpeak => ?_, fun s value p hp hv => ?_⟩
  · simp only [exec_hbmReadDone, execHbmReadDone, hch, ha, hh, Bool.not_false, Bool.and_self, ↓reduceIte]
  · subst ha
    obtain ⟨u, hu, hexec⟩ := execHbmReadDone_returns lat err queued hch hh
    refine ⟨_, (exec_hbmReadDone ..).trans hexec, ?_⟩
    rw [hu]
    split
    · exact ⟨Tab.get_set_self .., fun k hk => Tab.get_set_ne _ _ _ hk, rfl, rfl, rfl, rfl, rfl⟩
    · exact ⟨Tab.get_set_self .., fun k hk => Tab.get_set_ne _ _ _ hk, Tab.get_set_self .., rfl, rfl, rfl, rfl⟩
  · have hexec : execWeirRecompute port s = _ := if_neg (by omega)
    exact ⟨_, (exec_weirRecompute ..).trans hexec, fun c hc =>
      ⟨Tab.get_foldl_classes (fun c => s.weir.prio c (s.weir.e.get 0 (8 * port + c))) s.weir.q 0 port hc,
        Tab.get_foldl_classes s.weir.shift s.weir.shiftNow 3 port hc⟩, rfl, rfl, rfl, rfl⟩
  · refine ⟨_, rfl, rfl, rfl, fun c ch hc hch => ?_, rfl, rfl⟩
    refine (get_foldl_classCredits s.weir.cap _ (fun c h => List.mem_range.1 (List.mem_filter.1 h).1) [] hc hch).trans ?_
    by_cases h0 : bitsOf (s.weir.cap.get 0 c) 0 9 = 0
    · rw [if_neg (by simp [h0]), h0]
      rfl
    · rw [if_pos (by simp [h0, hc])]
  · simp only [exec_requestAgeTimeout, execRequestAgeTimeout, hch, ↓reduceIte]
  · have hexec : execRequestAgeTimeout ⟨off, n⟩ s = .next ((s.spendCredit ch (s.weirClass off)).setWeir
        (fun w => { w with aged := (off / 128) :: w.aged })) := by
      simp only [execRequestAgeTimeout, hch, hn, ↓reduceIte]
    exact ⟨_, (exec_requestAgeTimeout ..).trans hexec, rfl, .head _, rfl⟩
  · obtain ⟨hmem, he, hcnt, hrun⟩ := judgeWindows_facts (List.range 8) s c h
    exact ⟨_, rfl, hrun (.inl (List.mem_range.2 hc)), hcnt, he, hmem⟩
  · have hexec : execWeirEvalPeriod ⟨h, lats⟩ s = .next (s.evalPeriod h) := by
      simp only [execWeirEvalPeriod, hp, Option.any_some, hpush, Bool.false_eq_true, ↓reduceIte]
    rw [State.evalPeriod_pushes hp ha hb hpush hr hpeak hbey] at hexec
    obtain ⟨hq, hmem⟩ := State.weirPond_after _ hp rfl (told_postMode ..) (State.probe_eq ..)
    exact ⟨_, _, (exec_weirEvalPeriod ..).trans hexec, hq, rfl, rfl, rfl, hmem⟩
  · have hpush : p.push = true := (State.noteLatencies_weirPond_push h lats hp0 hp).trans hpush0
    have hmem : (s.noteLatencies h lats).mem = s.mem := by
      obtain ⟨w, hw⟩ := s.noteLatencies_eq h lats
      rw [hw]
    have hexec : execWeirEvalPeriod ⟨h, lats⟩ s = .next ((s.noteLatencies h lats).evalPeriod h) := by
      simp only [execWeirEvalPeriod, hp0, Option.any_some, hpush0, ↓reduceIte]
    obtain ⟨h15, hn15⟩ := State.evalPeriod_under hp ha hb hpush hr hpeak
    by_cases hu : p.under = 15
    · rw [h15 hu] at hexec
      obtain ⟨hq, hm⟩ := State.weirPond_after _ hp rfl (told_postMode ..) ⟨_, rfl⟩
      exact ⟨_, _, (exec_weirEvalPeriod ..).trans hexec, hq, by simp [hu], by simp [hu], rfl, hm.trans hmem⟩
    · rw [hn15 hu] at hexec
      obtain ⟨hq, hm⟩ := State.weirPond_after _ hp rfl (.refl _) (State.probe_eq ..)
      exact ⟨_, _, (exec_weirEvalPeriod ..).trans hexec, hq, by simp [hu, hpush], by simp [hu], rfl, hm.trans hmem⟩
  · have hoff : (bitOf value 16 && decide (bitsOf value 0 16 ≠ 0)) = false := by
      rcases hv with h | h
      · simp [h]
      · simp [h]
    have hexec : ∃ u : State, execWeirPondCfgWrite value s = .next u ∧ Told (s.setWeirPond s.weir.pondSel
        { p with budget := bitsOf value 0 16, auto := bitOf value 16, push := false, beyond := 0, under := 0 }) u := by
      simp only [execWeirPondCfgWrite, hp, hoff, Bool.false_eq_true, ↓reduceIte]
      refine ⟨_, rfl, ?_⟩
      split
      · exact told_postMode ..
      · rfl
    obtain ⟨u, hexec, hu⟩ := hexec
    obtain ⟨hq, hm⟩ := State.weirPond_after _ hp rfl hu ⟨u.work.sent, rfl⟩
    exact ⟨u, _, (exec_weirPondCfgWrite ..).trans hexec, hq, rfl, rfl, rfl, hm⟩

end Sys2Proof.Machine
end

section
/-! What host stores leave alone, and host accesses of device memory (R197 to R200, R232, R601 to R604). -/

namespace Sys2Proof.Machine

/-- A step that stores bytes: the host interface stands, and no cached line of the host is new. -/
structure Stores (s t : State) : Prop where
  host : t.host = s.host
  snoop : ∀ e, e ∈ t.mem.snoop → e ∈ s.mem.snoop

@[refl] theorem Stores.refl (s : State) : Stores s s := ⟨rfl, fun _ h => h⟩

theorem Stores.trans {s t u : State} (h : Stores s t) (k : Stores t u) : Stores s u :=
  ⟨k.host.trans h.host, fun e he => h.snoop e (k.snoop e he)⟩

theorem Stores.foldl {β : Type} {g : State → β → State} (hg : ∀ s b, Stores s (g s b)) (l : List β) (s : State) :
    Stores s (l.foldl g s) := by
  induction l generalizing s with
  | nil => exact .refl s
  | cons b l ih => exact (hg s b).trans (ih _)

theorem Stores.of_eq {s t : State} (hh : t.host = s.host) (hm : t.mem.snoop = s.mem.snoop) : Stores s t :=
  ⟨hh, fun _ he => hm ▸ he⟩

theorem LoftTouched.stores {s t : State} (h : LoftTouched s t) : Stores s t := by
  obtain ⟨⟨l, c, ps, rfl⟩, -⟩ := h
  exact .of_eq rfl rfl

theorem stores_putGranule (s : State) (off : Nat) (bytes : List Byte) : Stores s (s.putGranule off bytes) := by
  unfold State.putGranule
  split
  · rfl
  · split
    · rfl
    · dsimp only
      split
      · rfl
      · exact .of_eq rfl rfl

theorem stores_putBytes (s : State) (off : Nat) (bytes : List Byte) : Stores s (s.putBytes off bytes) :=
  Stores.foldl (fun _ _ => stores_putGranule ..) _ _

theorem stores_logDirty (s : State) (off n : Nat) : Stores s (s.logDirty off n) := by
  unfold State.logDirty
  split
  · rfl
  · split
    · rfl
    · split
      · rfl
      · refine Stores.foldl (fun s pg => ?_) _ _
        split
        · rfl
        · exact .of_eq rfl rfl

theorem stores_conflicts (s : State) (slu off n : Nat) : Stores s (s.conflicts slu off n) :=
  .of_eq (endsWork_conflicts s slu off n).host (congrArg (·.snoop) (endsWork_conflicts s slu off n).apart.mem)

theorem stores_landWrite (s : State) (slu off : Nat) (bytes : List Byte) : Stores s (s.landWrite slu off bytes) := by
  unfold State.landWrite
  split
  · rfl
  · refine Stores.trans ?_ (stores_conflicts ..)
    refine Stores.trans ?_ (loftTouched_noteMoving ..).stores
    refine Stores.trans ?_ (stores_logDirty ..)
    refine Stores.trans ?_ (stores_putBytes ..)
    exact ⟨rfl, fun e he => (List.mem_filter.1 he).1⟩

theorem loftTouched_loftTouchRange (s : State) (off n : Nat) (hint : Hint) (mask : Nat) (write : Bool) :
    LoftTouched s (s.loftTouchRange off n hint mask write) :=
  LoftTouched.foldl (fun _ _ => loftTouched_loftTouch ..) _ _

theorem stores_hostStore (s : State) (off : Nat) (data : List Byte) : Stores s (s.hostStore off data) :=
  Stores.trans (Stores.foldl (fun _ _ => stores_landWrite ..) _ _) (loftTouched_loftTouchRange ..).stores

/-- Touches of the loft leave the published bytes (R203). -/
theorem LoftTouched.readPub {s t : State} (h : LoftTouched s t) (off n : Nat) : t.readPub off n = s.readPub off n := by
  obtain ⟨⟨l, c, ps, rfl⟩, -⟩ := h
  rfl

/-- A store of one granule's bytes is what the granule reads afterwards. -/
theorem State.hostStore_granule {s : State} {g : Nat} {data : List Byte} {p : Plot} (hwf : s.memWf = true)
    (hp : s.plotOf (g * 64) = some p) (hlost : s.plotLost p = false) (hlen : data.length = 64)
    (hlog : ∀ q, s.mem.ponds.at? p.owner = some q → (s.fn (q.inst + 1)).bitmap = none) :
    (s.hostStore (g * 64) data).readPub (g * 64) 64 = data := by
  have hn : 0 < data.length := by omega
  have hg : g * 64 / 64 = (g * 64 + data.length - 1) / 64 := by omega
  obtain ⟨htaken, -⟩ := landedWriteIsReadBack s 0 (g * 64) data p hwf hp hlost hn hg hlog
  rw [State.hostStore, (loftTouched_loftTouchRange ..).readPub, cutGranules_of_granule hn hg, List.foldl_cons, List.foldl_nil]
  simpa only [hlen] using (htaken (.inr hlen)).1

/-- An entry of the snoop filter is set last, after any line it pushes out is stored (R232). -/
theorem State.track_entry (s : State) (g : Nat) (owned : Bool) (recalled : List Byte) :
    ({ granule := g, agent := 0, owned } : SnoopEntry) ∈ (s.track g owned recalled).mem.snoop
      ∧ (s.track g owned recalled).host = s.host := by
  have hset : ∀ l : List SnoopEntry, ({ granule := g, agent := 0, owned } : SnoopEntry)
      ∈ l.filter (fun e => e.granule ≠ g) ++ [{ granule := g, agent := 0, owned }] :=
    fun l => List.mem_append_right _ (List.mem_singleton.2 rfl)
  unfold State.track
  dsimp only
  split
  · exact ⟨hset _, rfl⟩
  · split
    · split
      · exact ⟨hset _, rfl⟩
      · refine ⟨hset _, ?_⟩
        dsimp only
        split
        · exact (stores_hostStore ..).host
        · rfl
    · exact ⟨hset _, rfl⟩

theorem State.giveUp_snoop (s : State) (g : Nat) (data : List Byte) (e : SnoopEntry) (he : e ∈ (s.giveUp g data).mem.snoop) :
    e.granule ≠ g := by
  unfold State.giveUp at he
  dsimp only at he
  split at he
  · exact of_decide_eq_true (List.mem_filter.1 ((stores_hostStore ..).snoop e he)).2
  · exact of_decide_eq_true (List.mem_filter.1 he).2

theorem State.giveUp_of_keeps {s : State} {g : Nat} {data : List Byte}
    (h : (s.mem.snoop.any (fun e => e.granule = g && e.owned) && data.length = 64) = false) :
    (s.giveUp g data).mem.hbm = s.mem.hbm := by
  simp only [State.giveUp, h, if_neg Bool.false_ne_true]

theorem State.giveUp_of_owned {s : State} {g : Nat} {data : List Byte}
    (h : s.mem.snoop.any (fun e => e.granule = g && e.owned) = true) (hlen : data.length = 64) :
    s.giveUp g data = State.hostStore { s with mem := { s.mem with
      snoop := s.mem.snoop.filter (fun e => e.granule ≠ g) } } (g * 64) data := by
  simp only [State.giveUp, h, hlen, decide_true, Bool.and_self, if_true]

section Bar2

variable {s : State} {off : Nat} {write : Bool} {len : Nat} {data : List Byte}

theorem State.bar2Pf_read (hoff : off < 0xC000000000) (hst : s.stalls 0 off len false = false)
    (hpl : s.unplaced off len = false) (hpo : s.poisonIn off len = false) :
    s.bar2Pf off false len data = s.hostReads (s.readLocal 0 off len) false := by
  have hst' : ¬ s.stalls 0 off (if false = true then data.length else len) false = true := by simp [hst]
  rw [State.bar2Pf, if_neg (by omega), if_neg hst', if_neg (by simp [hpl]), if_neg Bool.false_ne_true, State.hostLoad,
    if_neg (by simp [hpl]), if_neg (by simp [hpo])]

theorem State.bar2Pf_read_unplaced (hoff : off < 0xC000000000) (hst : s.stalls 0 off len false = false)
    (hpl : s.unplaced off len = true) : s.bar2Pf off false len data = s.hostReads (ones len) false := by
  have hst' : ¬ s.stalls 0 off (if false = true then data.length else len) false = true := by simp [hst]
  rw [State.bar2Pf, if_neg (by omega), if_neg hst', if_pos (by simp [hpl])]

theorem State.bar2Pf_write (hoff : off < 0xC000000000) (hst : s.stalls 0 off data.length true = false) :
    s.bar2Pf off true len data = s.hostStore off data := by
  have hst' : ¬ s.stalls 0 off (if true = true then data.length else len) true = true := by simp [hst]
  rw [State.bar2Pf, if_neg (by omega), if_neg hst', if_neg (by simp), if_pos rfl]

theorem State.bar2Pf_out (hoff : 0xC000000000 ≤ off) :
    s.bar2Pf off write len data = if write then s else s.hostReads (ones len) false := by
  rw [State.bar2Pf, if_pos hoff]

variable {fn : Nat} {ext : Ext} (hl : s.linked = true) (hfn : s.fnExists fn = true)
include hl hfn

theorem execBar2Access_drowsy (hd : s.drowsy = true) (hoff : off < 2 ^ 34) :
    execBar2Access fn off write len data ext s
      = .next ((if write then s else s.hostReads (ones len) false).wakeEvent 1) := by
  have hlim : ¬ (if fn = 0 then 2 ^ 40 else 2 ^ 34) ≤ off := by split <;> omega
  simp only [execBar2Access, hl, hfn, hd, hlim, Bool.not_true, Bool.or_self, decide_false, if_neg Bool.false_ne_true, if_true]

variable (hd : s.drowsy = false) (hr : s.boot.ready = true)
include hd hr

theorem execBar2Access_vf (hf : fn ≠ 0) (hoff : off < 2 ^ 34) :
    execBar2Access fn off write len data ext s = .next (s.bar2Vf fn off write len data ext) := by
  have hlim : ¬ 2 ^ 34 ≤ off := by omega
  simp only [execBar2Access, hl, hfn, hd, hr, hf, if_false, hlim, Bool.not_true, Bool.or_self, decide_false,
    if_neg Bool.false_ne_true]

end Bar2

theorem State.fnExists_zero (s : State) : s.fnExists 0 = true := rfl

theorem execBar2Access_pf {s : State} {off : Nat} {write : Bool} {len : Nat} {data : List Byte} {ext : Ext}
    (hl : s.linked = true) (hd : s.drowsy = false) (hr : s.boot.ready = true) (hoff : off < 2 ^ 40) :
    execBar2Access 0 off write len data ext s = .next (s.bar2Pf off write len data) := by
  have hlim : ¬ 2 ^ 40 ≤ off := by omega
  simp only [execBar2Access, hl, hd, hr, s.fnExists_zero, if_true, hlim, Bool.not_true, Bool.or_self, decide_false,
    if_neg Bool.false_ne_true]

theorem exec_bar2Access (fn off : Nat) (write : Bool) (len : Nat) (data : List Byte) (ext : Ext) (s : State) :
    exec (.bar2Access fn off write len data ext) s = execBar2Access fn off write len data ext s := rfl

/-- Apertures of instances that are not enabled, or are hidden by CXL, read ones and drop writes (R198, R200). -/
theorem State.bar2Vf_off {s : State} {fn off : Nat} {write : Bool} {len : Nat} {data : List Byte} {ext : Ext}
    (h : s.host.cxl = 1 ∨ (s.fn fn).apEnable = false) :
    s.bar2Vf fn off write len data ext = if write then s else s.hostReads (ones len) false := by
  have hc : (!(s.fn fn).apEnable || Decidable.decide (s.host.cxl = 1)) = true := by
    rcases h with h | h
    · rw [decide_eq_true h, Bool.or_true]
    · rw [h]; rfl
  rw [State.bar2Vf]
  exact if_pos hc

theorem State.bar2Vf_read {s : State} {fn off len : Nat} {data bs : List Byte} {ext : Ext} (hc : s.host.cxl ≠ 1)
    (he : (s.fn fn).apEnable = true)
    (hv : s.readVa { fn, slot := 0, die := 0, tile := 0, sluice := 0, op := 0, pond := 0 } ext ((s.fn fn).apBase * 2 ^ 34 + off) len
      = .ok bs) : s.bar2Vf fn off false len data ext = s.hostReads bs false := by
  simp only [State.bar2Vf, he, hc, hv, Bool.not_true, decide_false, Bool.or_self, if_neg Bool.false_ne_true]

theorem execCxlMemAccess_ready {s : State} {kind g : Nat} {data recalled : List Byte} (hl : s.linked = true)
    (hc : s.host.cxl = 2) (hd : s.drowsy = false) (hr : s.boot.ready = true) (hg : 64 * g < 0xC000000000)
    (hm : s.movingPlot (64 * g) = false) (hs : ∀ b, s.heldBySluice 0 (64 * g) 64 b = false) :
    execCxlMemAccess kind (64 * g) data recalled s = (match kind with
      | 0 => .next (s.hostLoad (64 * g) 64)
      | 1 => .next ((s.hostLoad (64 * g) 64).track g false recalled)
      | 2 => .next ((s.hostLoad (64 * g) 64).track g true recalled)
      | 3 => .next (s.giveUp g data)
      | 4 => .next (s.giveUp g [])
      | 5 => .next (s.hostStore (64 * g) data)
      | _ => .next s) := by
  have hdiv : 64 * g / 64 = g := by omega
  have hlim : ¬ 0xC000000000 ≤ 64 * g := by omega
  simp only [execCxlMemAccess, hdiv, hl, hc, hd, hr, hm, hs, hlim, Bool.not_true, ne_eq, not_true_eq_false, decide_false,
    Bool.or_self, Bool.and_false, if_neg Bool.false_ne_true] <;> rfl

/-- Settles O22: each access by the branch it takes; a tracked line is entered last, and a line given up is one store. -/
theorem hostAccessesReachMemory : Obligations.HostAccessesReachMemory := by
  refine ⟨fun s off len write data ext hl hd hr hoff => ⟨?_, ?_, ?_, ?_, ?_⟩,
    fun s fn off len data bs ext hl hd hr hf hfn hoff hc he hv => ?_,
    fun s fn off len data ext hl hd hr hf hfn hoff h => ⟨?_, ?_⟩,
    fun s fn off len write data ext hl hd hfn hoff => ?_,
    fun s g data recalled hl hc hd hr hg hm hs => ⟨?_, ⟨(s.hostLoad (64 * g) 64).track g false recalled, ?_, ?_, ?_, ?_⟩,
      ⟨(s.hostLoad (64 * g) 64).track g true recalled, ?_, ?_, ?_⟩, ⟨s.giveUp g data, ?_, ?_, ?_, ?_⟩,
      ⟨s.giveUp g [], ?_, ?_, ?_⟩, ?_⟩⟩
  · rintro rfl hlim hst hp hp' hpo
    have hpl : s.unplaced off len = false := by
      rw [State.unplaced, Option.isNone_eq_false_iff.2 hp, Option.isNone_eq_false_iff.2 hp', Bool.or_self]
    rw [exec_bar2Access, execBar2Access_pf hl hd hr hoff, State.bar2Pf_read hlim hst hpl hpo]
  · rintro rfl hlim hst hp
    have hpl : s.unplaced off len = true := by
      rcases hp with hp | hp
      · rw [State.unplaced, hp]; rfl
      · rw [State.unplaced, hp, Option.isNone_none, Bool.or_true]
    rw [exec_bar2Access, execBar2Access_pf hl hd hr hoff, State.bar2Pf_read_unplaced hlim hst hpl]
  · rintro rfl hlim hst
    rw [exec_bar2Access, execBar2Access_pf hl hd hr hoff, State.bar2Pf_write hlim hst]
  · rintro rfl hlim
    rw [exec_bar2Access, execBar2Access_pf hl hd hr hoff, State.bar2Pf_out hlim]
    rfl
  · rintro rfl hlim
    rw [exec_bar2Access, execBar2Access_pf hl hd hr hoff, State.bar2Pf_out hlim]
    rfl
  · rw [exec_bar2Access, execBar2Access_vf hl hfn hd hr hf hoff, State.bar2Vf_read hc he hv]
  · rw [exec_bar2Access, execBar2Access_vf hl hfn hd hr hf hoff, State.bar2Vf_off h]
    rfl
  · rw [exec_bar2Access, execBar2Access_vf hl hfn hd hr hf hoff, State.bar2Vf_off h]
    rfl
  · rw [exec_bar2Access, execBar2Access_drowsy hl hfn hd hoff]
  · exact execCxlMemAccess_ready (data := data) (recalled := recalled) hl hc hd hr hg hm hs
  · exact execCxlMemAccess_ready (data := data) (recalled := recalled) hl hc hd hr hg hm hs
  · exact (State.track_entry ..).1
  · rw [(State.track_entry ..).2]
  · rw [(State.track_entry ..).2]
  · exact execCxlMemAccess_ready (data := data) (recalled := recalled) hl hc hd hr hg hm hs
  · exact (State.track_entry ..).1
  · rw [(State.track_entry ..).2]
  · exact execCxlMemAccess_ready (data := data) (recalled := recalled) hl hc hd hr hg hm hs
  · exact State.giveUp_snoop s g data
  · exact fun h => State.giveUp_of_keeps (by rw [h, Bool.false_and])
  · intro hwf ho hlen p hp hlost hlog
    rw [Nat.mul_comm] at hp ⊢
    rw [State.giveUp_of_owned ho hlen]
    exact State.hostStore_granule hwf hp hlost hlen hlog
  · exact execCxlMemAccess_ready (data := data) (recalled := recalled) hl hc hd hr hg hm hs
  · exact State.giveUp_snoop s g []
  · exact State.giveUp_of_keeps (by rw [List.length_nil]; exact Bool.and_false _)
  · exact execCxlMemAccess_ready (data := data) (recalled := recalled) hl hc hd hr hg hm hs

/-! Patrol reads and error buckets (R637 to R639, R643). -/

theorem exec_patrolRead (off : Nat) (loft : Bool) (err : Nat) (s : State) :
    exec (.patrolRead off loft err) s = execPatrolRead off loft err s := rfl

theorem exec_bucketLeak (cls unit : Nat) (s : State) : exec (.bucketLeak cls unit) s = execBucketLeak cls unit s := rfl

theorem execPatrolRead_ready {s : State} {off err : Nat} {loft : Bool} (hr : s.boot.ready = true)
    (h : (if loft then s.ras.scrubLoft else s.ras.scrubHours) ≠ 0) :
    execPatrolRead off loft err s = .next (if loft then s.patrolLoft off err else s.patrolHbm off err) := by
  simp only [execPatrolRead, hr, h, Bool.not_true, decide_false, Bool.or_self, if_neg Bool.false_ne_true]

section PatrolLoft

variable {s : State} {off : Nat} {l : LoftLine} (hf : s.fenced 5 (s.homeOf off) = false) (hp : (s.plotOf off).isSome = true)
include hf hp

theorem State.patrolLoft_corrected : s.patrolLoft off 1 = s.corrected 5 (s.homeOf off) := by
  simp only [State.patrolLoft, hf, Option.isNone_eq_false_iff.2 hp, Bool.or_self, if_neg Bool.false_ne_true, if_true]

variable (hl : s.mem.loft.find? (fun l => l.line = off / 128) = some l)
  (hs : s.work.sluices.any (fun p => p.2.lines.contains (off / 128) && !p.2.spilled.contains (off / 128)) = false)
include hl hs

theorem State.patrolLoft_lost : s.patrolLoft off 2 =
    if l.dirty then (s.poisonGranule off 3 5 (s.homeOf off)).uncorrectable 5 (s.homeOf off)
    else ({ s with mem := { s.mem with loft := s.mem.loft.filter (fun l => l.line ≠ off / 128) } } : State).corrected 5
      (s.homeOf off) := by
  simp only [State.patrolLoft, hf, Option.isNone_eq_false_iff.2 hp, Bool.or_self, if_neg Bool.false_ne_true, hs, hl,
    ne_eq, OfNat.ofNat_ne_one, if_false, not_true_eq_false]

end PatrolLoft

/-- Settles O23: a patrol read by what it finds, and a leak as one write of the bucket's table. -/
theorem patrolAndBucketsTakeEffect : Obligations.PatrolAndBucketsTakeEffect := by
  refine ⟨fun s off k err hr hh hk hf => ?_, fun s off l hr hh hf hp hl hs => ⟨?_, fun hd => ?_, fun hd => ?_⟩,
    fun s cls unit hc hc' hu hb => ?_⟩
  · rw [exec_patrolRead, execPatrolRead_ready hr (by simpa using hh)]
    simp only [State.patrolHbm, hk, hf, if_neg Bool.false_ne_true]
  · rw [exec_patrolRead, execPatrolRead_ready hr (by simpa using hh), if_pos rfl, State.patrolLoft_corrected hf hp]
  · rw [exec_patrolRead, execPatrolRead_ready hr (by simpa using hh), if_pos rfl, State.patrolLoft_lost hf hp hl hs, if_pos hd]
  · rw [exec_patrolRead, execPatrolRead_ready hr (by simpa using hh), if_pos rfl, State.patrolLoft_lost hf hp hl hs,
      if_neg (by simp [hd])]
  · have hgo : (decide (cls < 1) || decide (7 < cls) || decide (unitLimit cls ≤ unit)) = false := by simp; omega
    have hexec : execBucketLeak cls unit s = .next { s with ras := { s.ras with
        buckets := s.ras.buckets.set (unitCode cls unit) { s.bucket cls unit with
          level := (s.bucket cls unit).level - 1
          warned := (s.bucket cls unit).warned && (s.bucket cls unit).level ≠ 1 } } } := by
      simp only [execBucketLeak, hgo, if_neg Bool.false_ne_true, if_neg (Nat.ne_of_gt hb)]
    refine ⟨_, (exec_bucketLeak ..).trans hexec, ?_, fun u hu => Tab.at?_set_ne _ _ hu, rfl, rfl⟩
    rw [State.bucket, Tab.get, Tab.at?_set_self]
    rfl

end Sys2Proof.Machine
end

section
/-! Vane programs: load, start, completion (R159, R161, R188 to R196). -/

namespace Sys2Proof.Machine

theorem exec_vaneRun (op : Nat) (s : State) : exec (.vaneRun op) s = execVaneRun op s := rfl
theorem exec_vaneLoad (op : Nat) (ext : Ext) (s : State) : exec (.vaneLoad op ext) s = execVaneLoad op ext s := rfl
theorem exec_vaneRunStart (op : Nat) (s : State) : exec (.vaneRunStart op) s = execVaneRunStart op s := rfl
theorem exec_vaneRunComplete (op : Nat) (s : State) : exec (.vaneRunComplete op) s = execVaneRunComplete op s := rfl
theorem exec_vaneTimeout (op rank : Nat) (s : State) : exec (.vaneTimeout op rank) s = execVaneTimeout op rank s := rfl
theorem exec_vaneUndefinedInstr (op rank : Nat) (s : State) :
    exec (.vaneUndefinedInstr op rank) s = execVaneUndefinedInstr op rank s := rfl
theorem exec_vaneNop (op rank : Nat) (s : State) : exec (.vaneNop op rank) s = execVaneNop op rank s := rfl

theorem State.findErrors_none (s : State) {ext : Ext} (h : ext.ecc = []) : s.findErrors ext = s := by
  rw [State.findErrors, h, List.foldl_nil]

/-- The run a Vane descriptor enters its tiles' queues with. -/
def State.vaneEntry (s : State) (o : Op) (p : Pond) (load : Bool) : VaneRun :=
  { order := s.eng.order + 1
    tiles := (List.range (vaneRanks o.desc).2).map (fun i => ((p.tileOf true ((vaneRanks o.desc).1 + i)).join).getD 0)
    load, started := false, ranks := [], ovf := 0, nextTransfer := 1 }

theorem State.vaneEnter_ok {s : State} {o : Op} {p : Pond} (op : Nat) (load : Bool) (hp : s.mem.ponds.at? o.pond = some p)
    (hr : p.rankError true (vaneRanks o.desc).1 (vaneRanks o.desc).2 = none) :
    s.vaneEnter op o load = { s.enqueue op with eng := { s.eng with
      order := s.eng.order + 1, runs := s.eng.runs.set op (s.vaneEntry o p load) } } := by
  simp only [State.vaneEnter, hp, hr]
  rfl

theorem State.enqueue_phase {s : State} {id : Nat} {o : Op} (h : s.op? id = some o) :
    ((s.enqueue id).op? id).map (·.phase) = some .queued := by
  rw [State.enqueue, State.modOp_op?_self, h]
  rfl

/-- An operation that enters a tile's queue is fetched no longer. -/
theorem State.vaneEnter_phase {s : State} {op : Nat} {o : Op} (load : Bool) (ho : s.op? op = some o) (hl : o.phase ≠ .ended) :
    ((s.vaneEnter op o load).op? op).map (·.phase) = some .queued ∨ ((s.vaneEnter op o load).op? op).map (·.phase) = some .ended := by
  unfold State.vaneEnter
  split
  · exact .inr (by rw [State.decide_op?_self _ _ ho hl]; rfl)
  · next p hp =>
    rcases vaneRanks o.desc with ⟨first, count⟩
    dsimp only
    split
    · exact .inr (by rw [State.decide_op?_self _ _ ho hl]; rfl)
    · exact .inl (State.enqueue_phase ho)

theorem State.go?_of_phase {s : State} {id code : Nat} {ph : OpPhase} (h : (s.op? id).map (·.phase) = some ph) (hp : ph ≠ .fetched) :
    s.go? id code = none := by
  rcases hg : s.go? id code with _ | o
  · rfl
  · rw [(State.go?_some hg).1, Option.map_some, Option.some_inj, State.phase_of_go? hg] at h
    exact absurd h.symm hp

theorem State.go?_vaneEnter {s : State} {op code : Nat} {o : Op} (load : Bool) (hgo : s.go? op code = some o) (c : Nat) :
    (s.vaneEnter op o load).go? op c = none := by
  obtain ⟨ho, -⟩ := State.go?_some hgo
  have hl : o.phase ≠ .ended := by rw [State.phase_of_go? hgo]; decide
  rcases State.vaneEnter_phase load ho hl with h | h
  · exact State.go?_of_phase h (by decide)
  · exact State.go?_of_phase h (by decide)

theorem execVaneLoad_go {s : State} {op : Nat} {ext : Ext} {o : Op} (he : ext.ecc = []) (hgo : s.go? op 0x30 = some o) :
    execVaneLoad op ext s = execVaneLoad op ext (s.vaneEnter op o true) := by
  simp only [execVaneLoad, State.findErrors_none _ he, hgo, State.go?_vaneEnter true hgo]

theorem readsOf_touchRead (s : State) (a : Agent) (hint : Option Hint) (va n : Nat) : ReadsOf s (s.touchRead a hint va n) :=
  ReadsOf.foldl (fun s p => by
    split
    · exact (readsOf_useXlat ..).trans (LoftTouched.foldl (fun _ _ => loftTouched_loftTouch ..) _ _).readsOf
    · exact readsOf_useXlat ..) _ _

/-- What a program's image leaves: program memory alone. -/
theorem State.foldl_putProg (s : State) (at_ : Nat) (bs : List Byte) (tiles : List Nat) :
    ∃ l, tiles.foldl (fun s t => s.putProg t at_ bs) s = { s with mem := { s.mem with
      prog := tiles.foldl (fun m tile => m.write (tile * 0x10000 + 8 * at_) bs) s.mem.prog, progPoison := l } } := by
  induction tiles generalizing s with
  | nil => exact ⟨_, rfl⟩
  | cons t tiles ih =>
    obtain ⟨l, h⟩ := ih (s.putProg t at_ bs)
    exact ⟨l, h⟩

/-- An operation that succeeds leaves the tiles. -/
theorem State.succeed_runs {s : State} {id : Nat} {o : Op} (ho : s.op? id = some o) (hl : o.phase ≠ .ended) :
    (s.succeed id).eng.runs.at? id = none := by
  rw [State.succeed_eq, State.endOp_eq 0 0 ho hl]
  exact Tab.at?_erase_self ..

section Load

variable {s : State} {op : Nat} {ext : Ext} {o : Op} {r : VaneRun} {bs : List Byte}

/-- The state in which a program's bytes have been read. -/
def State.imageRead (s : State) (op : Nat) (o : Op) (r : VaneRun) (ext : Ext) : State :=
  ((s.start op).noteLatencies o.pond ext.lats).touchRead (s.agent op o (dieOfTile (r.tiles.headD 0)) (r.tiles.headD 0 + 1)) none
    (fld o.desc 0x30 0 55) (8 * fld o.desc 0x28 0 14)

theorem readsOf_imageRead (s : State) (op : Nat) (o : Op) (r : VaneRun) (ext : Ext) :
    ReadsOf (s.start op) (s.imageRead op o r ext) :=
  (readsOf_noteLatencies ..).trans (readsOf_touchRead ..)

theorem State.imageRead_facts (ext : Ext) (r : VaneRun) (ho : s.op? op = some o) :
    (s.imageRead op o r ext).op? op = some { o with phase := .running } ∧ SameBytes s (s.imageRead op o r ext) := by
  obtain ⟨x, w, l, c, ps, h⟩ := (readsOf_imageRead s op o r ext).eq
  rw [h]
  refine ⟨?_, rfl, rfl, rfl⟩
  show (s.start op).op? op = _
  rw [State.start, State.modOp_op?_self, ho]
  rfl

theorem execVaneLoad_ok (he : ext.ecc = []) (hgo : s.go? op 0x30 = none) (hr : s.eng.runs.at? op = some r)
    (ho : s.op? op = some o) (hload : r.load = true) (ht : s.vaneTurn op = true)
    (hv : s.readVa (s.agent op o (dieOfTile (r.tiles.headD 0)) (r.tiles.headD 0 + 1)) ext (fld o.desc 0x30 0 55)
      (8 * fld o.desc 0x28 0 14) = .ok bs) :
    execVaneLoad op ext s = .next ((r.tiles.foldl (fun s t => s.putProg t (fld o.desc 0x24 0 13) bs)
      (s.imageRead op o r ext)).succeed op) := by
  simp only [execVaneLoad, State.findErrors_none _ he, hgo, hr, ho, hload, ht, hv, Bool.not_true, Bool.or_self,
    if_neg Bool.false_ne_true]
  rfl

end Load

/-- A run's ranks at its start (R159). -/
def VaneRun.startRanks (r : VaneRun) (d : Nat) : List VaneRank :=
  (r.tiles.zip (List.range r.tiles.length)).map (fun x => startRank d x.2 x.1)

theorem execVaneRunStart_ok {s : State} {op : Nat} {o : Op} {r : VaneRun} (hr : s.eng.runs.at? op = some r)
    (ho : s.op? op = some o) (hload : r.load = false) (hst : r.started = false) (hph : o.phase = .queued)
    (ht : s.vaneTurn op = true) :
    execVaneRunStart op s = .next ({ s with eng := { s.eng with runs := s.eng.runs.set op { r with
      started := true, ranks := r.startRanks o.desc } } }.start op) := by
  simp only [execVaneRunStart, hr, ho, hload, hst, hph, ht, ne_eq, not_true_eq_false, decide_false, Bool.not_true, Bool.or_self,
    if_neg Bool.false_ne_true]
  rfl

theorem execVaneRunComplete_ok {s : State} {op : Nat} {r : VaneRun} (hr : s.eng.runs.at? op = some r) (hload : r.load = false)
    (hst : r.started = true) (hall : r.ranks.all (fun k => k.halted && k.transfers.isEmpty) = true) :
    execVaneRunComplete op s = .next (if r.ovf = 0 then s.succeed op else s.decide op Status.quernOverflow r.ovf) := by
  simp only [execVaneRunComplete, hr, hload, hst, hall, Bool.not_true, Bool.or_self, if_neg Bool.false_ne_true]
  by_cases h : r.ovf = 0
  · rw [if_neg (not_not_intro h), if_pos h]
  · rw [if_pos h, if_neg h]

theorem vaneExec_poisoned {s : State} {op r c : Nat} {e : VaneEnv} {body : VaneEnv → VaneRes} (h : s.vaneAt op r = some e)
    (hp : e.poisoned = true) : vaneExec s op r c body = s.decide op Status.memoryError (vaneDetail e.k.pc r 0) := by
  have hn : s.vaneEnv op r = none := by
    rw [State.vaneEnv, h, Option.filter_some, hp]
    rfl
  simp only [vaneExec, hn, State.vaneNoFetch, h, State.vaneRaise]

/-- Settles O24: entry and start as one write of the run's table; a load as one read and its writes of program memory. -/
theorem vaneProgramsLoadAndRun : Obligations.VaneProgramsLoadAndRun := by
  refine ⟨fun s op o p hgo hp hr => ?_, fun s op ext o r bs he hgo hr ho hload ht hv => ?_,
    fun s op ext o he hgo => ?_, fun s op o r hr ho hload hst hph ht => ?_, fun s op r hr hload hst hall => ?_,
    fun s op r e hv => ⟨?_, fun hok => ?_⟩, fun s op r e hv hp => ?_⟩
  · have hexec : execVaneRun op s = .next (s.vaneEnter op o false) := by simp only [execVaneRun, hgo]
    rw [State.vaneEnter_ok op false hp hr] at hexec
    refine ⟨_, s.vaneEntry o p false, (exec_vaneRun ..).trans hexec, Tab.at?_set_self .., rfl, rfl, rfl, rfl, rfl, ?_, rfl⟩
    exact State.enqueue_phase (State.go?_some hgo).1
  · have hexec := execVaneLoad_ok he hgo hr ho hload ht hv
    obtain ⟨hop, hmem⟩ := State.imageRead_facts ext r ho
    obtain ⟨l, himg⟩ := (s.imageRead op o r ext).foldl_putProg (fld o.desc 0x24 0 13) bs r.tiles
    have hop' : (r.tiles.foldl (fun s t => s.putProg t (fld o.desc 0x24 0 13) bs) (s.imageRead op o r ext)).op? op
        = some { o with phase := .running } := by
      rw [himg]
      exact hop
    obtain ⟨hend, hm, -⟩ := State.succeed_facts hop' (by simp)
    refine ⟨_, (exec_vaneLoad ..).trans hexec, State.succeed_runs hop' (by simp), ?_, ?_, ?_, ?_⟩
    · obtain ⟨x, hx, hst⟩ := Option.map_eq_some_iff.1 hend
      simp only [Prod.mk.injEq] at hst
      rw [hx, Option.map_some, hst.1, hst.2.1]
    · rw [hm, himg, ← hmem.prog]
    · rw [hm, himg, ← hmem.hbm]
    · rw [hm, himg, ← hmem.sram]
  · rw [exec_vaneLoad, exec_vaneLoad, execVaneLoad_go he hgo]
  · refine ⟨_, { r with started := true, ranks := r.startRanks o.desc },
      (exec_vaneRunStart ..).trans (execVaneRunStart_ok hr ho hload hst hph ht), Tab.at?_set_self .., rfl, rfl, ?_, ?_, ?_, rfl⟩
    · simp [VaneRun.startRanks]
    · intro i tile hi
      have hlt : i < r.tiles.length := (List.getElem?_eq_some_iff.1 hi).1
      simp [VaneRun.startRanks, hi, List.getElem?_zip_eq_some, List.getElem?_range hlt]
    · exact State.start_phase (o := o) ho
  · rw [exec_vaneRunComplete, execVaneRunComplete_ok hr hload hst hall]
  · rw [exec_vaneTimeout]
    simp only [execVaneTimeout, (Option.filter_eq_some_iff.1 hv).1]
    rfl
  · rw [exec_vaneUndefinedInstr]
    simp only [execVaneUndefinedInstr, hv, hok, if_neg Bool.false_ne_true]
    rfl
  · rw [exec_vaneNop, execVaneNop, vaneExec_poisoned hv hp]

end Sys2Proof.Machine
end

section
/-! What reset leaves (R350 to R353). -/

namespace Sys2Proof.Machine

/-- Settles O60: the reset state is closed, so every register is read off it. -/
theorem resetLeavesTheSpecifiedValues : Obligations.ResetLeavesTheSpecifiedValues := by
  refine ⟨by decide, rfl, fun k => ⟨rfl, rfl, rfl⟩, rfl, rfl, rfl, rfl, rfl, rfl, rfl, rfl, by decide +kernel, rfl, ?_⟩
  decide +kernel

end Sys2Proof.Machine
end

section
/-! Register writes (R9, R202, R203, R266, R351 to R354). -/

namespace Sys2Proof.Machine

/-! The set-up lock is left by everything but its own register. -/

@[simp] theorem setupLock_setFn (s : State) (f : Nat) (v : Fn) : (s.setFn f v).host.setupLock = s.host.setupLock := rfl

theorem setupLock_setFab (s : State) (g : FabricPart → FabricPart) : (s.setFab g).host.setupLock = s.host.setupLock := rfl

@[simp] theorem setupLock_sendMsi (s : State) (f vec : Nat) : (s.sendMsi f vec).host.setupLock = s.host.setupLock := by
  unfold State.sendMsi
  dsimp only
  split
  · rfl
  · split <;> rfl

@[simp] theorem setupLock_writeEvent (s : State) (f : Nat) (q : EventQueue) (code payload : Nat) :
    (s.writeEvent f q code payload).host.setupLock = s.host.setupLock := by
  rw [State.writeEvent, setupLock_sendMsi]
  rfl

@[simp] theorem setupLock_post (s : State) (f code payload : Nat) : (s.post f code payload).host.setupLock = s.host.setupLock := by
  unfold State.post
  split
  · rfl
  · split
    · rfl
    · split
      · rfl
      · exact setupLock_writeEvent ..

theorem setupLock_foldl {β : Type} {g : State → β → State} (hg : ∀ s b, (g s b).host.setupLock = s.host.setupLock) (l : List β)
    (s : State) : (l.foldl g s).host.setupLock = s.host.setupLock := by
  induction l generalizing s with
  | nil => rfl
  | cons b l ih => exact (ih _).trans (hg s b)

theorem setupLock_runCmd {s : State} {f : Nat} {body : State → State} (h : (body s).host.setupLock = s.host.setupLock) :
    (s.runCmd f body).host.setupLock = s.host.setupLock := by
  unfold State.runCmd
  split
  · rfl
  · split
    · rfl
    · exact h

theorem setupLock_cmdWith {s : State} {f : Nat} {causes : List (Bool × Nat)} {body : State → State}
    (h : (body s).host.setupLock = s.host.setupLock) : (s.cmdWith f causes body).host.setupLock = s.host.setupLock :=
  setupLock_runCmd (by
    dsimp only
    split
    · exact h
    · rfl)

theorem setupLock_destroySq (s : State) (f : Nat) : (s.destroySq f).host.setupLock = s.host.setupLock :=
  setupLock_runCmd (by split <;> rfl)

theorem setupLock_createEq (s : State) (f : Nat) : (s.createEq f).host.setupLock = s.host.setupLock :=
  setupLock_cmdWith (by
    dsimp only
    split
    · exact setupLock_post ..
    · rfl)

theorem setupLock_writeCmd (s : State) (f op record : Nat) : (s.writeCmd f op record).host.setupLock = s.host.setupLock := by
  unfold State.writeCmd
  split
  · exact setupLock_cmdWith rfl
  · exact setupLock_createEq ..
  · exact setupLock_cmdWith rfl
  · exact setupLock_cmdWith rfl
  · exact setupLock_cmdWith rfl
  · exact setupLock_cmdWith rfl
  · exact setupLock_destroySq ..
  · exact setupLock_cmdWith rfl

theorem setupLock_writeIset (s : State) (f o v record : Nat) : (s.writeIset f o v record).host.setupLock = s.host.setupLock := by
  unfold State.writeIset
  dsimp only
  split
  · exact setupLock_writeCmd ..
  · split
    · split <;> rfl
    · split
      · rfl
      · split <;> rfl

theorem setupLock_writeMsix (s : State) (f o v : Nat) : (s.writeMsix f o v).host.setupLock = s.host.setupLock := by
  unfold State.writeMsix
  dsimp only
  split
  · rfl
  · split
    · rfl
    · split
      · rfl
      · split
        · rfl
        · split
          · exact setupLock_sendMsi ..
          · rfl

theorem setupLock_writeInstCfg (s : State) (v : Nat) : (s.writeInstCfg v).host.setupLock = s.host.setupLock := by
  unfold State.writeInstCfg
  extract_lets f F en ctx sq others st
  split
  · rfl
  · split <;> rfl

theorem setupLock_writeLoftCfg (s : State) (d v : Nat) : (s.writeLoftCfg d v).host.setupLock = s.host.setupLock := by
  unfold State.writeLoftCfg
  dsimp only
  split <;> rfl

theorem setupLock_writeSpill (s : State) (d v : Nat) : (s.writeSpill d v).host.setupLock = s.host.setupLock := by
  unfold State.writeSpill
  dsimp only
  split <;> rfl

theorem setupLock_writeGlobal {s : State} (o v : Nat) (h : s.host.setupLock = true) :
    (s.writeGlobal o v).host.setupLock = true := by
  unfold State.writeGlobal
  split
  · show (s.host.setupLock || bitOf v 0) = true
    rw [h, Bool.true_or]
  · split
    · exact h
    · split
      · rwa [setupLock_writeInstCfg]
      · split
        · rwa [setupLock_writeLoftCfg]
        · split
          · rwa [setupLock_writeSpill]
          · exact h

theorem setupLock_postMode (s : State) (h : Nat) (p : WeirPond) (peak : Nat) :
    (s.postMode h p peak).host.setupLock = s.host.setupLock := by
  unfold State.postMode
  split
  · rfl
  · exact setupLock_post ..

theorem setupLock_weirPondCfg (s : State) (v : Nat) : (ranTo s (execWeirPondCfgWrite v s)).host.setupLock = s.host.setupLock := by
  unfold execWeirPondCfgWrite
  dsimp only
  split
  · rfl
  · split
    · rfl
    · dsimp only [ranTo]
      split
      · exact setupLock_postMode ..
      · rfl

theorem setupLock_writeWeir (s : State) (o v : Nat) : (s.writeWeir o v).host.setupLock = s.host.setupLock := by
  unfold State.writeWeir
  dsimp only
  split
  · split <;> rfl
  · split
    · split
      · rfl
      · split <;> rfl
    · split
      · rfl
      · split
        · rfl
        · split
          · exact setupLock_weirPondCfg ..
          · rfl

theorem setupLock_voltageCommand (s : State) (n code div tag : Nat) :
    (s.voltageCommand n code div tag).host.setupLock = s.host.setupLock := by
  unfold State.voltageCommand
  dsimp only
  split
  · rfl
  · split
    · rfl
    · split <;> rfl

theorem setupLock_writePower (s : State) (o v : Nat) : (s.writePower o v).host.setupLock = s.host.setupLock := by
  unfold State.writePower
  dsimp only
  split
  · rfl
  · split
    · exact setupLock_voltageCommand ..
    · split
      · split <;> rfl
      · split
        · split
          · rfl
          · split <;> rfl
        · split
          · rfl
          · split
            · rfl
            · split
              · rfl
              · split <;> rfl

theorem setupLock_writeRec (s : State) (r : EnergyRec) : (s.writeRec r).host.setupLock = s.host.setupLock := rfl

theorem setupLock_emit (s : State) (r : EnergyRec) : (s.emit r).host.setupLock = s.host.setupLock := by
  unfold State.emit
  split
  · rfl
  · split
    · rfl
    · split
      · dsimp only
        split
        · exact setupLock_post ..
        · rfl
      · split <;> rfl

theorem setupLock_tallyEnable (s : State) (v : Nat) : (ranTo s (execTallyEnableWrite v s)).host.setupLock = s.host.setupLock := by
  unfold execTallyEnableWrite
  extract_lets p c s1 s2 s3
  have h3 : s3.host.setupLock = s.host.setupLock := by
    show (match s.tally.gap with | some g => s2.emit (s2.gapRec g.1 g.2) | none => s2).host.setupLock = _
    split
    · exact setupLock_emit ..
    · rfl
  split
  · dsimp only [ranTo]
    split
    · exact h3
    · exact (setupLock_post ..).trans h3
  · split <;> rfl

theorem setupLock_writeTally (s : State) (o v : Nat) : (s.writeTally o v).host.setupLock = s.host.setupLock := by
  unfold State.writeTally
  extract_lets free w
  split
  · exact setupLock_tallyEnable ..
  · split
    · rfl
    · split
      · rfl
      · split
        · rfl
        · split
          · rfl
          · split
            · rfl
            · split <;> rfl

theorem setupLock_postTime (s : State) (n : Nat) : (s.postTime n).host.setupLock = s.host.setupLock := setupLock_post ..

theorem State.host_withMem (s : State) (m : MemPart) : ({ s with mem := m } : State).host = s.host := rfl

/-- Stated over the state with the jumped clock first, so that the kernel does not evaluate the clock's modulus. -/
theorem State.jump_host (s : State) (o : Nat) : (s.jump o).host = s.host :=
  (State.host_withMem (s.setClk (ClockPart.jumpedBy o)) _).trans (State.setClk_host ..)

theorem setupLock_timeSet (s : State) (v : Nat) : (ranTo s (execTimeSet v s)).host.setupLock = s.host.setupLock := by
  unfold execTimeSet
  extract_lets n may o s1 clear s2
  clear_value n
  have h1 : s1.host.setupLock = s.host.setupLock := congrArg (·.setupLock) (State.jump_host s o)
  clear_value s1
  have h2 : s2.host.setupLock = s.host.setupLock := by
    dsimp only [s2]
    split
    · rw [State.setTally_host, State.setClk_host]
      exact h1
    · exact h1
  clear_value s2
  split
  · dsimp only [ranTo]
    rw [State.setClk_host]
  · dsimp only [ranTo]
    split
    · exact (setupLock_postTime ..).trans h2
    · exact h2

theorem setupLock_wakeEvent (s : State) (src : Nat) : (s.wakeEvent src).host.setupLock = s.host.setupLock := by
  unfold State.wakeEvent
  split
  · rfl
  · split
    · rfl
    · split
      · unfold State.startWake
        split <;> rfl
      · rfl

theorem setupLock_brumEnable (s : State) (on : Bool) : (ranTo s (execBrumEnableWrite on s)).host.setupLock = s.host.setupLock := by
  unfold execBrumEnableWrite
  dsimp only [ranTo]
  split
  · rfl
  · exact setupLock_wakeEvent ..

theorem setupLock_brumWake (s : State) (v : Nat) : (ranTo s (execBrumWakeWrite v s)).host.setupLock = s.host.setupLock := by
  unfold execBrumWakeWrite
  split <;> rfl

theorem setupLock_writeClock (s : State) (o v : Nat) : (s.writeClock o v).host.setupLock = s.host.setupLock := by
  unfold State.writeClock
  dsimp only
  split
  · rfl
  · split
    · exact setupLock_timeSet ..
    · split
      · split <;> rfl
      · split
        · exact setupLock_brumEnable ..
        · split
          · rfl
          · split
            · rfl
            · split
              · exact setupLock_brumWake ..
              · split <;> rfl

theorem setupLock_postLeat (s : State) (n code payload : Nat) : (s.postLeat n code payload).host.setupLock = s.host.setupLock := by
  unfold State.postLeat
  split
  · rw [setupLock_post, setupLock_post]
  · exact setupLock_post ..

theorem setupLock_linkDown (s : State) (n cause : Nat) : (s.linkDown n cause).host.setupLock = s.host.setupLock := by
  unfold State.linkDown
  dsimp only
  split
  · exact setupLock_postLeat ..
  · exact setupLock_postLeat ..

theorem setupLock_genCap (s : State) (n v : Nat) : (ranTo s (execGenCapWrite n v s)).host.setupLock = s.host.setupLock := by
  unfold execGenCapWrite
  dsimp only
  split
  · rfl
  · split
    · dsimp only [ranTo]
      split
      · exact setupLock_linkDown ..
      · rfl
    · split <;> rfl

theorem setupLock_leatRetrain (s : State) (n : Nat) : (ranTo s (execLeatRetrainWrite n s)).host.setupLock = s.host.setupLock := by
  unfold execLeatRetrainWrite
  dsimp only
  split
  · rfl
  · split <;> rfl

theorem setupLock_retryIncompatible (s : State) : s.retryIncompatible.host.setupLock = s.host.setupLock := by
  unfold State.retryIncompatible
  exact setupLock_foldl (g := fun s n => s.startTraining n) (fun _ _ => rfl) _ _

theorem setupLock_writeLeat (s : State) (o v : Nat) : (s.writeLeat o v).host.setupLock = s.host.setupLock := by
  unfold State.writeLeat
  extract_lets g s1 n s2
  split
  · split
    · exact setupLock_setFab ..
    · exact (setupLock_retryIncompatible s1).trans (setupLock_setFab ..)
  · split
    · split
      · rw [setupLock_leatRetrain, setupLock_genCap]
      · exact setupLock_genCap ..
    · rfl

theorem setupLock_reachCheck (s : State) : s.reachCheck.host.setupLock = s.host.setupLock := by
  unfold State.reachCheck
  exact setupLock_foldl (fun _ _ => setupLock_post ..) _ _

theorem setupLock_routeTable (s : State) (table idx v : Nat) :
    (ranTo s (execRouteTableWrite table idx v s)).host.setupLock = s.host.setupLock := by
  unfold execRouteTableWrite
  dsimp only
  split
  · rfl
  · split
    · split
      · exact setupLock_reachCheck ..
      · rfl
    · split
      · exact setupLock_reachCheck ..
      · rfl
    · split
      · exact setupLock_reachCheck ..
      · rfl
    · split
      · exact setupLock_reachCheck ..
      · rfl
    · rfl

theorem setupLock_writeMere (s : State) (o v : Nat) : (s.writeMere o v).host.setupLock = s.host.setupLock := by
  unfold State.writeMere
  dsimp only
  split
  · exact setupLock_setFab ..
  · split
    · split
      · rfl
      · exact setupLock_setFab ..
    · split
      · split
        · rfl
        · exact setupLock_setFab ..
      · split
        · exact setupLock_routeTable ..
        · split
          · exact setupLock_routeTable ..
          · split
            · exact setupLock_routeTable ..
            · rfl

theorem setupLock_writeErr (s : State) (o v : Nat) : (s.writeErr o v).host.setupLock = s.host.setupLock := by
  unfold State.writeErr
  dsimp only
  split
  · rfl
  · split
    · rfl
    · split
      · rfl
      · split <;> rfl

theorem setupLock_writeGset {s : State} (o v : Nat) (h : s.host.setupLock = true) : (s.writeGset o v).host.setupLock = true := by
  unfold State.writeGset
  dsimp only
  split
  · exact setupLock_writeGlobal _ _ h
  · rwa [setupLock_writeWeir]
  · rwa [setupLock_writePower]
  · rwa [setupLock_writeTally]
  · rwa [setupLock_writeClock]
  · rwa [setupLock_writeLeat]
  · rwa [setupLock_writeMere]
  · rwa [setupLock_writeErr]
  · exact h

/-- The set-up lock, once set, is cleared by no register write (R9). -/
theorem setupLock_writeBar0 {s : State} (f off v record : Nat) (h : s.host.setupLock = true) :
    (s.writeBar0 f off v record).host.setupLock = true := by
  unfold State.writeBar0
  split
  · split
    · exact setupLock_writeGset _ _ h
    · split
      · rwa [setupLock_writeIset]
      · rwa [setupLock_writeMsix]
  · split
    · rwa [setupLock_writeIset]
    · rwa [setupLock_writeMsix]

/-! The registers by their own commands. -/

theorem exec_setupLockWrite (value : Nat) (s : State) : exec (.setupLockWrite value) s = execSetupLockWrite value s := rfl
theorem exec_instCfgWrite (value : Nat) (s : State) : exec (.instCfgWrite value) s = execInstCfgWrite value s := rfl
theorem exec_stageWaysWrite (d value : Nat) (s : State) : exec (.stageWaysWrite d value) s = execStageWaysWrite d value s := rfl
theorem exec_spillRegionWrite (d value : Nat) (s : State) : exec (.spillRegionWrite d value) s = execSpillRegionWrite d value s := rfl
theorem exec_registerWrite (fn off : Nat) (data : List Byte) (record : Nat) (s : State) :
    exec (.registerWrite fn off data record) s = execRegisterWrite fn off data record s := rfl

/-- The sum of the other instances' context maxima (R353). -/
def State.otherCtxMax (s : State) : Nat :=
  ((s.host.fns.filter (fun p => p.1 ≠ 0 && p.1 ≠ s.host.instSel + 1)).map (fun p => p.2.ctxMax)).sum

/-- What a valid write of the configuration selected leaves of its function (R353). -/
def Fn.configured (F : Fn) (v : Nat) : Fn :=
  { F with
    enable := bitOf v 0, ctxMax := bitsOf v 1 15, sqMax := bitsOf v 16 7
    state := if F.state = .resetting then F.state
             else if !bitOf v 0 then .disabled
             else if F.state = .disabled then .active else F.state }

theorem State.writeInstCfg_ok {s : State} {v : Nat} (hl : s.host.setupLock = false) (hc : s.otherCtxMax + bitsOf v 1 15 ≤ 16128)
    (hq : bitsOf v 16 7 ≤ 64) (hr : (s.fn (s.host.instSel + 1)).holdsRing = false) :
    s.writeInstCfg v = s.setFn (s.host.instSel + 1) ((s.fn (s.host.instSel + 1)).configured v) := by
  have hgo : (Decidable.decide (16128 < s.otherCtxMax + bitsOf v 1 15) || Decidable.decide (64 < bitsOf v 16 7)) = false := by
    rw [decide_eq_false (by omega), decide_eq_false (by omega), Bool.or_self]
  unfold State.writeInstCfg
  dsimp only
  simp only [hl, hr, if_neg Bool.false_ne_true, Bool.false_and]
  exact if_neg (Bool.eq_false_iff.1 hgo)

theorem State.writeInstCfg_over {s : State} {v : Nat}
    (h : 16128 < s.otherCtxMax + (if s.host.setupLock then (s.fn (s.host.instSel + 1)).ctxMax else bitsOf v 1 15)) :
    s.writeInstCfg v = s := by
  have hgo : ∀ b, (Decidable.decide (16128 < s.otherCtxMax
      + (if s.host.setupLock then (s.fn (s.host.instSel + 1)).ctxMax else bitsOf v 1 15)) || b) = true := by
    intro b
    rw [decide_eq_true h, Bool.true_or]
  unfold State.writeInstCfg
  exact if_pos (hgo _)

theorem State.writeSpill_locked {s : State} (d v : Nat) (h : s.host.setupLock = true) : s.writeSpill d v = s := by
  simp only [State.writeSpill, h, Bool.true_or, if_true]

theorem State.writeLock_locked {s : State} (v : Nat) (h : s.host.setupLock = true) : s.writeLock v = s := by
  simp only [State.writeLock, h, Bool.true_or]
  rw [← h]

theorem execRegisterWrite_word {s : State} {fn off record : Nat} {data : List Byte} (hu : s.regsUp fn = true)
    (ho : off < (if fn = 0 then 0x40000 else 0x20000)) (hl : data.length = 4) (ha : off % 4 = 0) :
    execRegisterWrite fn off data record s = .next (s.writeBar0 fn off (leNat data) record) := by
  simp only [execRegisterWrite, hu, Nat.not_le.2 ho, hl, ha, Bool.not_true, decide_false, Bool.or_self, decide_true, Bool.and_self,
    if_neg Bool.false_ne_true, if_true]

theorem execRegisterWrite_setupLock {s t : State} {fn off record : Nat} {data : List Byte} (hl : s.host.setupLock = true)
    (ht : execRegisterWrite fn off data record s = .next t) : t.host.setupLock = true := by
  unfold execRegisterWrite at ht
  generalize (if fn = 0 then 0x40000 else 0x20000) = lim at ht
  split at ht
  · cases ht
    exact hl
  · split at ht
    · cases ht
      exact setupLock_writeBar0 _ _ _ _ hl
    · split at ht
      · cases ht
        exact setupLock_writeBar0 _ _ _ _ (setupLock_writeBar0 _ _ _ _ hl)
      · cases ht
        exact hl

/-- A write of an argument register (R354). -/
theorem State.writeBar0_arg (s : State) (f i v record : Nat) (hi : i < 16) :
    s.writeBar0 f ((if f = 0 then 0x10000 else 0) + 0x40 + 4 * i) v record
      = s.setFn f { s.fn f with args := (s.fn f).args.set i (v % 2 ^ 32) } := by
  have hidx : (0x40 + 4 * i - 0x40) / 4 = i := by omega
  have hiset : s.writeIset f (0x40 + 4 * i) v record = s.setFn f { s.fn f with args := (s.fn f).args.set i (v % 2 ^ 32) } := by
    unfold State.writeIset
    dsimp only
    rw [if_neg (by omega), if_neg (by omega), if_pos (by simp; omega), hidx]
  unfold State.writeBar0
  by_cases hf : f = 0
  · subst hf
    rw [if_pos rfl, if_pos rfl, if_neg (by omega), if_pos (by omega), show 0x10000 + 0x40 + 4 * i - 0x10000 = 0x40 + 4 * i by omega,
      hiset]
  · rw [if_neg hf, if_neg hf, if_pos (by omega), show 0 + 0x40 + 4 * i = 0x40 + 4 * i by omega, hiset]

/-- Settles O55: each register's write as one update, and the lock by every register in turn. -/
theorem registerWritesTakeEffect : Obligations.RegisterWritesTakeEffect := by
  refine ⟨fun s value hu => ⟨_, ?_, rfl⟩, fun s value hu => ⟨fun hl hc hq hr => ?_, fun hc => ?_⟩,
    fun s d value hu hl hd => ?_, fun s d value hu hl hd => ⟨fun hp hn => ?_, fun hp => ?_⟩,
    fun s fn off record data hu ho => ⟨fun hd ha => ⟨_, ?_, rfl⟩, fun hd ha => ?_, fun h => ?_, fun t ht hl => ?_⟩,
    fun s f i record data hu hi hd => ?_, fun s record data hu hd hl => ⟨fun d hdie => ?_, ?_, ?_⟩⟩
  · rw [exec_setupLockWrite, execSetupLockWrite, if_pos hu]
    rfl
  · have hexec : execInstCfgWrite value s = .next (s.setFn (s.host.instSel + 1) ((s.fn (s.host.instSel + 1)).configured value)) := by
      rw [execInstCfgWrite, if_pos hu, State.writeInstCfg_ok hl hc hq hr]
    refine ⟨_, (exec_instCfgWrite ..).trans hexec, ?_, ?_, ?_, ?_, ?_, fun g hg => State.setFn_fn_ne _ _ hg, rfl, rfl⟩
    · rw [State.setFn_fn_self]
      rfl
    · rw [State.setFn_fn_self]
      rfl
    · rw [State.setFn_fn_self]
      rfl
    · intro hs hb
      rw [State.setFn_fn_self]
      simp only [Fn.configured, hs, hb, reduceCtorEq, if_false, Bool.not_true, if_true]
    · intro hs hb
      rw [State.setFn_fn_self]
      simp only [Fn.configured, hs, hb, if_false, Bool.not_false, if_true]
  · rw [exec_instCfgWrite, execInstCfgWrite, if_pos hu, State.writeInstCfg_over hc]
  · have hexec : execStageWaysWrite d value s = .next { s with mem := { s.mem with
        stageWritten := if bitsOf value 0 4 ≤ 8 then s.mem.stageWritten.set d (bitsOf value 0 4) else s.mem.stageWritten
        remoteMask := s.mem.remoteMask.set d (bitsOf value 16 16) } } := by
      simp only [execStageWaysWrite, hu, if_true, State.writeLoftCfg, hl, Nat.not_le.2 hd, decide_false, Bool.or_self,
        if_neg Bool.false_ne_true]
    refine ⟨_, (exec_stageWaysWrite ..).trans hexec, Tab.at?_set_self .., rfl, fun h => ?_, fun h => ?_,
      fun k hk => ⟨Tab.at?_set_ne _ _ hk, ?_⟩, rfl, rfl⟩
    · dsimp only
      rw [if_pos h]
      exact Tab.at?_set_self ..
    · exact if_neg (by omega)
    · dsimp only
      split
      · exact Tab.at?_set_ne _ _ hk
      · rfl
  · have hgo : (s.host.setupLock || decide (4 ≤ d) || decide (1536 < bitsOf value 0 11 + bitsOf value 16 5)
        || decide (16 < (([0, 1, 2, 3].filter (· ≠ d)).map (fun k => (s.mem.spillWritten.get (0, 0) k).2)).sum
          + bitsOf value 16 5)) = false := by
      rw [hl, decide_eq_false (by omega), decide_eq_false (by omega), decide_eq_false (by omega)]
      rfl
    have hexec : execSpillRegionWrite d value s = .next { s with mem := { s.mem with
        spillWritten := s.mem.spillWritten.set d (bitsOf value 0 11, bitsOf value 16 5) } } := by
      rw [execSpillRegionWrite, if_pos hu]
      exact congrArg _ (if_neg (by rw [hgo]; exact Bool.false_ne_true))
    exact ⟨_, (exec_spillRegionWrite ..).trans hexec, Tab.at?_set_self .., rfl, fun k hk => Tab.at?_set_ne _ _ hk, rfl, rfl⟩
  · rw [exec_spillRegionWrite, execSpillRegionWrite, if_pos hu]
    refine congrArg _ (if_pos ?_)
    simp only [Bool.or_eq_true, decide_eq_true_eq]
    rcases hp with hp | hp
    · exact .inl (.inr hp)
    · exact .inr hp
  · exact execRegisterWrite_word hu ho hd ha
  · rw [exec_registerWrite]
    simp only [execRegisterWrite, hu, Nat.not_le.2 ho, hd, ha, Bool.not_true, decide_false, Bool.or_self, decide_true,
      Bool.and_self, if_neg Bool.false_ne_true, if_true, Nat.reduceEqDiff, Bool.false_and]
  · rw [exec_registerWrite, execRegisterWrite, if_neg (by simp [hu]; omega), if_neg (by simp; omega), if_neg (by simp; omega)]
  · exact execRegisterWrite_setupLock hl ht
  · have hexec := execRegisterWrite_word (record := record) (off := (if f = 0 then 0x10000 else 0) + 0x40 + 4 * i) hu
      (by split <;> omega) hd (by split <;> omega)
    rw [State.writeBar0_arg _ _ _ _ _ hi] at hexec
    refine ⟨_, (exec_registerWrite ..).trans hexec, ?_, fun j hj => ?_, fun g hg => State.setFn_fn_ne _ _ hg,
      rfl, rfl, rfl, rfl, rfl, rfl, rfl, rfl, rfl, rfl, rfl, rfl, rfl, rfl, rfl⟩
    · rw [State.setFn_fn_self]
      exact Tab.at?_set_self ..
    · rw [State.setFn_fn_self]
      exact Tab.at?_set_ne _ _ hj
  · rw [exec_registerWrite, execRegisterWrite_word hu (by rw [if_pos rfl]; omega) hd (by omega)]
    have hpage : (0x110 + 4 * d) / 0x1000 = 0 := by omega
    have hoff : (0x110 + 4 * d) % 0x1000 = 0x110 + 4 * d := by omega
    rw [State.writeBar0, if_pos rfl, if_pos (by omega), State.writeGset]
    simp only [hpage, hoff]
    rw [State.writeGlobal, if_neg (by omega), if_neg (by omega), if_neg (by omega), if_neg (by simp), if_pos (by simp; omega),
      State.writeSpill_locked _ _ hl]
  · rw [exec_registerWrite, execRegisterWrite_word hu (by decide) hd (by decide)]
    exact congrArg _ (State.writeLock_locked _ hl)
  · rw [exec_registerWrite, execRegisterWrite_word hu (by decide) hd (by decide)]
    rfl

end Sys2Proof.Machine
end

section
/-! The Tally's closing of windows changes the tally and what the host is told, and nothing else (R549 to R556). -/

namespace Sys2Proof.Machine

/-- A step of the Tally: the tally and the host interface alone. -/
structure Metered (s t : State) : Prop where
  eq : ∃ h w, t = { s with host := h, tally := w }

@[refl] theorem Metered.refl (s : State) : Metered s s := ⟨_, _, rfl⟩

theorem Metered.trans {s t u : State} (h : Metered s t) (k : Metered t u) : Metered s u := by
  obtain ⟨_, _, rfl⟩ := h
  obtain ⟨_, _, rfl⟩ := k
  exact ⟨_, _, rfl⟩

theorem Metered.foldl {β : Type} {g : State → β → State} (hg : ∀ s b, Metered s (g s b)) (l : List β) (s : State) :
    Metered s (l.foldl g s) := by
  induction l generalizing s with
  | nil => exact .refl s
  | cons b l ih => exact (hg s b).trans (ih _)

theorem Metered.ite {c : Prop} [Decidable c] {s t u : State} (ht : Metered s t) (hu : Metered s u) :
    Metered s (if c then t else u) := by
  split
  · exact ht
  · exact hu

theorem Metered.mem {s t : State} (h : Metered s t) : t.mem = s.mem := by
  obtain ⟨_, _, rfl⟩ := h
  rfl

theorem Metered.clk {s t : State} (h : Metered s t) : t.clk = s.clk := by
  obtain ⟨_, _, rfl⟩ := h
  rfl

theorem Metered.work {s t : State} (h : Metered s t) : t.work = s.work := by
  obtain ⟨_, _, rfl⟩ := h
  rfl

theorem Told.metered {s t : State} (h : Told s t) : Metered s t := by
  obtain ⟨⟨_, _, _, rfl⟩, -⟩ := h
  exact ⟨_, _, rfl⟩

theorem metered_setTally (s : State) (g : TallyPart → TallyPart) : Metered s (s.setTally g) := ⟨_, _, rfl⟩

theorem metered_post (s : State) (f code payload : Nat) : Metered s (s.post f code payload) := (told_post ..).metered

theorem metered_writeRec (s : State) (r : EnergyRec) : Metered s (s.writeRec r) := by
  unfold State.writeRec
  exact ((told_writeHost ..).metered.trans (told_writeHost ..).metered).trans (metered_setTally ..)

theorem metered_emit (s : State) (r : EnergyRec) : Metered s (s.emit r) := by
  unfold State.emit
  refine .ite (.refl _) (.ite (metered_writeRec ..) (.ite ?_ (.ite (metered_setTally ..) (metered_setTally ..))))
  exact .ite ((metered_setTally ..).trans (metered_post ..)) (metered_setTally ..)

theorem metered_charge (s : State) (k : Nat) (g : Acct → Acct) : Metered s (s.charge k g) := by
  unfold State.charge
  exact .ite (.refl _) (metered_setTally ..)

theorem metered_closeKeys (s : State) (ks : List Nat) (flags : Nat) : Metered s (s.closeKeys ks flags) := by
  unfold State.closeKeys
  refine Metered.foldl (fun s k => ?_) _ _
  split
  · rfl
  · exact .ite ((metered_setTally ..).trans (metered_emit ..)) (metered_setTally ..)

theorem metered_spreadFiller (s : State) (pond : Nat) : Metered s (s.spreadFiller pond) := by
  unfold State.spreadFiller
  refine .ite (metered_setTally ..) (.ite ((metered_setTally ..).trans (metered_charge ..)) ?_)
  exact (metered_setTally ..).trans (Metered.foldl (fun _ _ => metered_charge ..) _ _)

theorem metered_closePeriod (s : State) (flags : Nat) : Metered s (s.closePeriod flags) := by
  unfold State.closePeriod
  refine Metered.trans ?_ (metered_setTally ..)
  refine Metered.trans ?_ (Metered.foldl (fun _ _ => metered_post ..) _ _)
  refine Metered.trans ?_ (metered_closeKeys ..)
  exact (Metered.foldl (fun _ _ => metered_spreadFiller ..) _ _).trans (Metered.foldl (fun _ _ => metered_closeKeys ..) _ _)

theorem metered_closeBeatWindow (s : State) (pond flags : Nat) : Metered s (s.closeBeatWindow pond flags) := by
  unfold State.closeBeatWindow
  exact ((metered_spreadFiller ..).trans (metered_closeKeys ..)).trans (metered_setTally ..)

theorem metered_closeAll (s : State) : Metered s s.closeAll := by
  unfold State.closeAll
  exact (Metered.foldl (fun _ _ => metered_closeBeatWindow ..) _ _).trans (metered_closePeriod ..)

end Sys2Proof.Machine
end

section
/-! The timebase and brumation (R512, R592, R595 to R608). -/

namespace Sys2Proof.Machine

theorem exec_timeLoRead (s : State) : exec .timeLoRead s = execTimeLoRead s := rfl
theorem exec_timeSet (hi : Nat) (s : State) : exec (.timeSet hi) s = execTimeSet hi s := rfl
theorem exec_timeReply (t2 t3 : Nat) (s : State) : exec (.timeReply t2 t3) s = execTimeReply t2 t3 s := rfl
theorem exec_rootPllLock (s : State) : exec .rootPllLock s = execRootPllLock s := rfl
theorem exec_clkRefLoss (s : State) : exec .clkRefLoss s = execClkRefLoss s := rfl
theorem exec_clkRefReturn (s : State) : exec .clkRefReturn s = execClkRefReturn s := rfl
theorem exec_idleTimerExpiry (s : State) : exec .idleTimerExpiry s = execIdleTimerExpiry s := rfl
theorem exec_brumEntryStepDone (words : List Nat) (s : State) : exec (.brumEntryStepDone words) s = execBrumEntryStepDone words s := rfl
theorem exec_wakeEvent (src : Nat) (s : State) : exec (.wakeEvent src) s = execWakeEvent src s := rfl
theorem exec_brumEnableWrite (on : Bool) (s : State) : exec (.brumEnableWrite on) s = execBrumEnableWrite on s := rfl
theorem exec_brumWakeWrite (dev : Nat) (s : State) : exec (.brumWakeWrite dev) s = execBrumWakeWrite dev s := rfl
theorem exec_wakeMessage (dst sub : Nat) (s : State) : exec (.wakeMessage dst sub) s = execWakeMessage dst sub s := rfl
theorem exec_wakeStepDone (s : State) : exec .wakeStepDone s = execWakeStepDone s := rfl

/-- A step that changes the clock, the tally and the host interface, and the clock as `f` does. -/
structure Clocks (f : ClockPart → ClockPart) (s t : State) : Prop where
  eq : ∃ h w, t = { s with host := h, tally := w, clk := f s.clk }

section Clocks

variable {f : ClockPart → ClockPart} {s t u : State}

theorem Clocks.of (h : Metered (s.setClk f) t) : Clocks f s t := by
  obtain ⟨_, _, rfl⟩ := h
  exact ⟨_, _, rfl⟩

theorem Clocks.clk (h : Clocks f s t) : t.clk = f s.clk := by
  obtain ⟨_, _, rfl⟩ := h
  rfl

theorem Clocks.mem (h : Clocks f s t) : t.mem = s.mem := by
  obtain ⟨_, _, rfl⟩ := h
  rfl

theorem Clocks.work (h : Clocks f s t) : t.work = s.work := by
  obtain ⟨_, _, rfl⟩ := h
  rfl

theorem Clocks.ras (h : Clocks f s t) : t.ras = s.ras := by
  obtain ⟨_, _, rfl⟩ := h
  rfl

end Clocks

theorem metered_postTime (s : State) (n : Nat) : Metered s (s.postTime n) := metered_post ..

/-- A change of the clock's source or flag, with its event (R609). -/
theorem clocks_changeClock (s : State) (f : ClockPart → ClockPart) : Clocks f s (s.changeClock f) := by
  refine .of ?_
  unfold State.changeClock
  exact .ite (.ite (metered_setTally ..) (.refl _)) ((Metered.ite (metered_setTally ..) (.refl _)).trans (metered_postTime ..))

/-- Without a rate correction a tick is 10 ns, or 11 or 9 while an offset is made up (R596, R598). -/
theorem State.tick_eq {s : State} (hr : s.hasRate = false) (hb : s.clk.tb + 11 * 2 ^ 32 < 2 ^ 96) :
    s.tick = s.setClk (fun c => { c with
      tb := s.clk.tb + (if 0 < s.clk.slew then 11 else if s.clk.slew < 0 then 9 else 10) * 2 ^ 32
      slew := if 0 < s.clk.slew then s.clk.slew - 1 else if s.clk.slew < 0 then s.clk.slew + 1 else 0 }) := by
  have hinc : (max ((10 + (if 0 < s.clk.slew then 1 else if s.clk.slew < 0 then -1 else 0) : Int) * 2 ^ 32 + 0) (9 * 2 ^ 32)).toNat
      = (if 0 < s.clk.slew then 11 else if s.clk.slew < 0 then 9 else 10) * 2 ^ 32 := by
    split
    · rfl
    · split <;> rfl
  have hslew : s.clk.slew - (if 0 < s.clk.slew then 1 else if s.clk.slew < 0 then -1 else 0)
      = if 0 < s.clk.slew then s.clk.slew - 1 else if s.clk.slew < 0 then s.clk.slew + 1 else 0 := by
    split
    · rfl
    · split <;> omega
  have hlt : s.clk.tb + (if 0 < s.clk.slew then 11 else if s.clk.slew < 0 then 9 else 10) * 2 ^ 32 < 2 ^ 96 := by
    split
    · exact hb
    · split <;> omega
  simp only [State.tick, hr, if_neg Bool.false_ne_true, hinc, hslew]
  simp only [State.setClk, Nat.mod_eq_of_lt hlt]

theorem State.step_nil {s : State} (h : s.pending = []) : step s = .next s.tick := by
  simp only [step, h]

/-! Times written and received. -/

/-- The flag cleared at a time, where the reference is present. -/
def State.clearedAt (u : State) (c : Bool) (v : Nat) : State :=
  if c then (u.setClk (fun c => { c with uncertain := false })).setTally (fun t => { t with uncertainTo := v }) else u

/-- A time written where it may be and not past: a jump, and the flag cleared where the reference is present. -/
def State.timeTo (s : State) (v : Nat) : State := (s.jump (v - s.ns)).clearedAt (s.clk.refPresent && s.clk.uncertain) v

theorem execTimeSet_refused {s : State} {hi : Nat} (h : s.clk.setLo.toNat + hi % 2 ^ 32 * 2 ^ 32 < s.ns
    ∨ (s.fab.timeRoot = false ∧ s.fab.join = .joined)) : execTimeSet hi s = .next (s.setClk (fun c => { c with setBad := true })) := by
  unfold execTimeSet
  refine if_pos ?_
  rcases h with h | ⟨h1, h2⟩
  · rw [decide_eq_true h, Bool.true_or]
  · simp [h1, h2]

theorem execTimeSet_ok {s : State} {hi v : Nat} (hv : v = s.clk.setLo.toNat + hi % 2 ^ 32 * 2 ^ 32) (h : s.ns ≤ v)
    (hm : s.fab.timeRoot = true ∨ s.fab.join ≠ .joined) :
    ∃ t, execTimeSet hi s = .next t ∧ Metered (s.timeTo v) t := by
  have hgo : (decide (v < s.ns) || !(s.fab.timeRoot || decide (s.fab.join ≠ .joined))) = false := by
    rw [decide_eq_false (by omega)]
    rcases hm with hm | hm <;> simp [hm]
  unfold execTimeSet
  rw [← hv]
  dsimp only
  rw [if_neg (Bool.eq_false_iff.1 hgo)]
  refine ⟨_, rfl, .ite ?_ ?_⟩
  · exact metered_postTime ..
  · exact .refl _

/-- A jump of the timebase, as the state with another clock whose ponds' beats are moved. -/
theorem State.jump_eq (s : State) (o : Nat) : s.jump o = { s.setClk (ClockPart.jumpedBy o) with
    mem := { (s.setClk (ClockPart.jumpedBy o)).mem with
      ponds := (s.setClk (ClockPart.jumpedBy o)).mem.ponds.map (fun p => (p.1, p.2.jumpedBy o)) } } := rfl

theorem State.withMem_clk (s : State) (m : MemPart) : ({ s with mem := m } : State).clk = s.clk := rfl
theorem State.withMem_mem (s : State) (m : MemPart) : ({ s with mem := m } : State).mem = m := rfl
theorem State.withMem_work (s : State) (m : MemPart) : ({ s with mem := m } : State).work = s.work := rfl

theorem State.jump_clk (s : State) (o : Nat) : (s.jump o).clk = s.clk.jumpedBy o := by
  rw [State.jump_eq, State.withMem_clk]
  rfl

theorem State.jump_work (s : State) (o : Nat) : (s.jump o).work = s.work := by
  rw [State.jump_eq, State.withMem_work, State.setClk_work]

theorem State.jump_hbm (s : State) (o : Nat) : (s.jump o).mem.hbm = s.mem.hbm := by
  rw [State.jump_eq, State.withMem_mem, State.setClk_mem]

theorem State.jump_facts (s : State) (o : Nat) : (s.jump o).clk.uncertain = s.clk.uncertain ∧ (s.jump o).clk.slew = 0
    ∧ (s.jump o).clk.jumps = (s.clk.jumps + 1) % 65536 := by
  rw [State.jump_clk, ClockPart.jumpedBy]
  exact ⟨rfl, rfl, rfl⟩

theorem State.clearedAt_frame (u : State) (r : Bool) (v : Nat) : (u.clearedAt (r && u.clk.uncertain) v).mem = u.mem
    ∧ (u.clearedAt (r && u.clk.uncertain) v).work = u.work ∧ (u.clearedAt (r && u.clk.uncertain) v).clk.tb = u.clk.tb
    ∧ (u.clearedAt (r && u.clk.uncertain) v).clk.slew = u.clk.slew
    ∧ (u.clearedAt (r && u.clk.uncertain) v).clk.jumps = u.clk.jumps
    ∧ (u.clearedAt (r && u.clk.uncertain) v).clk.uncertain = (u.clk.uncertain && !r) := by
  unfold State.clearedAt
  split
  · next hc =>
    rw [Bool.and_eq_true] at hc
    exact ⟨rfl, rfl, rfl, rfl, rfl, by rw [hc.1, hc.2]; rfl⟩
  · next hc =>
    refine ⟨rfl, rfl, rfl, rfl, rfl, ?_⟩
    rcases r <;> rcases hc' : u.clk.uncertain <;> simp [hc'] at hc ⊢

theorem State.timeTo_frame (s : State) (v : Nat) : (s.timeTo v).mem = (s.jump (v - s.ns)).mem
    ∧ (s.timeTo v).work = (s.jump (v - s.ns)).work ∧ (s.timeTo v).clk.tb = (s.jump (v - s.ns)).clk.tb
    ∧ (s.timeTo v).clk.slew = 0 ∧ (s.timeTo v).clk.jumps = (s.clk.jumps + 1) % 65536
    ∧ (s.timeTo v).clk.uncertain = (s.clk.uncertain && !s.clk.refPresent) := by
  obtain ⟨hu, hs, hj⟩ := s.jump_facts (v - s.ns)
  have h := (s.jump (v - s.ns)).clearedAt_frame s.clk.refPresent v
  rw [hu, hs, hj] at h
  exact h

/-- The rest of a time write's meaning, from its state after the jump (R597, R338). -/
theorem State.timeTo_ponds {s : State} {v h : Nat} {p : Pond} {b : Beats} (hp : s.mem.ponds.at? h = some p)
    (hb : p.beats = some b) : (s.timeTo v).mem.ponds.at? h = some (p.jumpedBy (v - s.ns))
      ∧ (p.jumpedBy (v - s.ns)).beats = some (b.jumpedBy (v - s.ns)) := by
  rw [(s.timeTo_frame v).1, State.jump_ponds, at?_mapValues, hp]
  exact ⟨rfl, by rw [Pond.jumpedBy, hb, Option.map_some]⟩

/-- A time reply's offset (R598). -/
def State.replyOffset (s : State) (t2 t3 : Nat) : Int := (((t2 : Int) - s.fab.t1) - ((s.ns : Int) - t3)) / 2

/-- The clock with a measured offset and a rate correction (R598). -/
def ClockPart.measured (o : Int) (r : Int) (c : ClockPart) : ClockPart :=
  { c with offset := max (-2 ^ 31) (min (2 ^ 31 - 1) o), corr := r }

/-- The rate correction after a time reply: a free value while the device is JOINED (R598). -/
def State.replyRate (s : State) : Int :=
  if s.fab.join = .joined then (Config.freeNat s.takeFree.1 % 42949673 : Nat) - 21474836 else s.clk.corr

/-- The state with the clock of a time reply, before the offset is made up. -/
def State.replied (s : State) (o : Int) : State := s.takeFree.2.setClk (ClockPart.measured o s.replyRate)

theorem State.replied_clk (s : State) (o : Int) : (s.replied o).clk = s.clk.measured o s.replyRate := rfl
theorem State.replied_mem (s : State) (o : Int) : (s.replied o).mem = s.mem := rfl

/-- Whether a time reply clears TIME_UNCERTAIN (R597). -/
def State.replyClears (s : State) (o : Int) : Bool :=
  s.fab.join = .joined && -50 ≤ o && o ≤ 50 && s.clk.refPresent && s.clk.uncertain

theorem State.replied_eq (s : State) (o : Int) : s.replied o = s.takeFree.2.setClk (fun c => { c with
    offset := max (-2 ^ 31) (min (2 ^ 31 - 1) o)
    corr := if s.fab.join = .joined then (Config.freeNat s.takeFree.1 % 42949673 : Nat) - 21474836 else c.corr }) := by
  unfold State.replied State.replyRate
  split <;> rfl

/-- What a time reply with a parent does, with its offset (R598). -/
theorem execTimeReply_eq {s : State} {t2 t3 : Nat} (hp : s.parentSub < 64) : ∃ u : State → State,
    (∀ x, 1000 < s.replyOffset t2 t3 → u x = x.jump (s.replyOffset t2 t3).toNat)
    ∧ (∀ x, ¬ 1000 < s.replyOffset t2 t3 → u x = x.setClk (fun c => { c with slew := s.replyOffset t2 t3 }))
    ∧ execTimeReply t2 t3 s = .next
      (let s3 := if s.replyClears (s.replyOffset t2 t3) then
          (u (s.replied (s.replyOffset t2 t3))).changeClock (fun c => { c with uncertain := false })
        else u (s.replied (s.replyOffset t2 t3))
       if 1000 < s.replyOffset t2 t3 then s3.postTime (s.replyOffset t2 t3).toNat else s3) := by
  refine ⟨fun x => if 1000 < s.replyOffset t2 t3 then x.jump (s.replyOffset t2 t3).toNat
    else x.setClk (fun c => { c with slew := s.replyOffset t2 t3 }), fun x h => if_pos h, fun x h => if_neg h, ?_⟩
  unfold execTimeReply
  rw [if_neg (by omega), State.replied_eq]
  rfl

/-- An offset of 1,000 ns at most is made up by slewing (R598). -/
theorem execTimeReply_slews {s : State} {t2 t3 : Nat} (hp : s.parentSub < 64) (ho : s.replyOffset t2 t3 ≤ 1000) :
    ∃ t, execTimeReply t2 t3 s = .next t ∧ t.mem = s.mem ∧ ∃ u, t.clk =
        { s.clk.measured (s.replyOffset t2 t3) s.replyRate with slew := s.replyOffset t2 t3, uncertain := u }
      ∧ u = (s.clk.uncertain && !(s.fab.join = .joined && -50 ≤ s.replyOffset t2 t3 && s.replyOffset t2 t3 ≤ 50
        && s.clk.refPresent)) := by
  have hslew : ¬ 1000 < s.replyOffset t2 t3 := by omega
  obtain ⟨u, -, hu, hexec⟩ := execTimeReply_eq (s := s) (t2 := t2) (t3 := t3) hp
  dsimp only at hexec
  rw [if_neg hslew, hu _ hslew] at hexec
  refine ⟨_, hexec, ?_⟩
  split
  · next hc =>
    have h := clocks_changeClock ((s.replied (s.replyOffset t2 t3)).setClk
      (fun c => { c with slew := s.replyOffset t2 t3 })) (fun c => { c with uncertain := false })
    refine ⟨h.mem, false, h.clk, ?_⟩
    rw [State.replyClears, Bool.and_eq_true] at hc
    rw [hc.1, Bool.not_true, Bool.and_false]
  · next hc =>
    refine ⟨rfl, s.clk.uncertain, rfl, ?_⟩
    rw [State.replyClears] at hc
    rcases hu : s.clk.uncertain
    · rfl
    · rw [hu, Bool.and_true, Bool.not_eq_true] at hc
      rw [hc]
      rfl

/-- A larger one forward is made up by a jump (R598). -/
theorem execTimeReply_jumps {s : State} {t2 t3 : Nat} (hp : s.parentSub < 64) (ho : 1000 < s.replyOffset t2 t3) :
    ∃ t, execTimeReply t2 t3 s = .next t ∧ t.mem.hbm = s.mem.hbm
      ∧ t.clk = (s.clk.measured (s.replyOffset t2 t3) s.replyRate).jumpedBy (s.replyOffset t2 t3).toNat := by
  have hclear : ¬ s.replyClears (s.replyOffset t2 t3) = true := by
    rw [State.replyClears, decide_eq_false (p := s.replyOffset t2 t3 ≤ 50) (by omega)]
    simp
  obtain ⟨u, hu, -, hexec⟩ := execTimeReply_eq (s := s) (t2 := t2) (t3 := t3) hp
  dsimp only at hexec
  rw [if_pos ho, if_neg hclear, hu _ ho] at hexec
  refine ⟨_, hexec, ?_, ?_⟩
  · rw [(metered_postTime ..).mem, State.jump_hbm, State.replied_mem]
  · rw [(metered_postTime ..).clk, State.jump_clk, State.replied_clk]

end Sys2Proof.Machine
end

section
/-! Brumation: entry, its abort points, wake events and the wake (R601 to R608). -/

namespace Sys2Proof.Machine

/-- A step that leaves memory and the clock. -/
structure ClockStands (s t : State) : Prop where
  mem : t.mem = s.mem
  clk : t.clk = s.clk

@[refl] theorem ClockStands.refl (s : State) : ClockStands s s := ⟨rfl, rfl⟩

theorem ClockStands.trans {s t u : State} (h : ClockStands s t) (k : ClockStands t u) : ClockStands s u :=
  ⟨k.mem.trans h.mem, k.clk.trans h.clk⟩

theorem ClockStands.foldl {β : Type} {g : State → β → State} (hg : ∀ s b, ClockStands s (g s b)) (l : List β) (s : State) :
    ClockStands s (l.foldl g s) := by
  induction l generalizing s with
  | nil => exact .refl s
  | cons b l ih => exact (hg s b).trans (ih _)

theorem ClockStands.ite {c : Prop} [Decidable c] {s t u : State} (ht : ClockStands s t) (hu : ClockStands s u) :
    ClockStands s (if c then t else u) := by
  split
  · exact ht
  · exact hu

theorem Metered.clockStands {s t : State} (h : Metered s t) : ClockStands s t := ⟨h.mem, h.clk⟩

theorem Apart.clockStands {s t : State} (h : Apart s t) : ClockStands s t := ⟨h.mem, h.clk⟩

theorem clockStands_modSub (s : State) (n : Nat) (g : SubLink → SubLink) : ClockStands s (s.modSub n g) := ⟨rfl, rfl⟩
theorem clockStands_modSail (s : State) (d : Nat) (g : Sail → Sail) : ClockStands s (s.modSail d g) := ⟨rfl, rfl⟩
theorem State.setClk_clk (s : State) (g : ClockPart → ClockPart) : (s.setClk g).clk = g s.clk := rfl

theorem clockStands_setPwr (s : State) (g : PowerPart → PowerPart) : ClockStands s (s.setPwr g) := ⟨rfl, rfl⟩
theorem clockStands_writeHost (s : State) (fn addr : Nat) (b : List Byte) : ClockStands s (s.writeHost fn addr b) := ⟨rfl, rfl⟩
theorem clockStands_post (s : State) (f code payload : Nat) : ClockStands s (s.post f code payload) := (apart_post ..).clockStands

theorem clockStands_stopFiller (s : State) : ClockStands s s.stopFiller :=
  ClockStands.foldl (fun s d => clockStands_modSail s d _) _ _

theorem clockStands_sendNotices (s : State) (k : Nat) (l : List Nat) : ClockStands s (s.sendNotices k l) :=
  ClockStands.foldl (g := fun s n => s.sendOn { kind := .notice, dst := (s.subLink n).nDev, mere := 0, id := n, args := [k], data := [] } n)
    (fun _ _ => ⟨rfl, rfl⟩) _ _

theorem State.execRecordSign_some (s : State) : ∃ k, execRecordSign s = .next { s with sec := k } := by
  unfold execRecordSign
  split
  · exact ⟨_, rfl⟩
  · split
    · exact ⟨_, rfl⟩
    · split
      · exact ⟨_, rfl⟩
      · exact ⟨_, rfl⟩

theorem clockStands_writeCheckpoint (s : State) (k : Nat) : ClockStands s (s.writeCheckpoint k) := by
  unfold State.writeCheckpoint
  exact .ite (.refl _) ⟨rfl, rfl⟩

theorem clockStands_writeWord (s : State) (st : Nat) : ClockStands s (s.writeWord st) := by
  unfold State.writeWord
  exact .ite (.refl _) (clockStands_writeHost ..)

theorem clockStands_reacquire (s : State) : ClockStands s s.reacquire := by
  unfold State.reacquire
  exact .ite (.refl _) ⟨rfl, rfl⟩

theorem clockStands_setSq (s : State) (f k : Nat) (q : SubmissionQueue) : ClockStands s (s.setSq f k q) := ⟨rfl, rfl⟩

theorem clockStands_readDoorbell (s : State) (f sq word : Nat) : ClockStands s (s.readDoorbell f sq word) := by
  unfold State.readDoorbell
  split
  · rfl
  · next q _ =>
    refine .ite (.refl _) (.ite ⟨rfl, rfl⟩ ?_)
    exact ClockStands.trans (clockStands_setSq s f sq { q with stopped := true }) (clockStands_post ..)

theorem clockStands_readAllWords (s : State) (words : List Nat) : ClockStands s (s.readAllWords words) :=
  ClockStands.foldl (g := fun s (x : (Nat × Nat) × Nat) => s.readDoorbell x.1.1 x.1.2 x.2) (fun _ _ => clockStands_readDoorbell ..) _ _

theorem clockStands_startTraining (s : State) (n : Nat) : ClockStands s (s.startTraining n) := clockStands_modSub ..

/-! Sub-links. -/

theorem State.modSub_subLink_self (s : State) (n : Nat) (g : SubLink → SubLink) : (s.modSub n g).subLink n = g (s.subLink n) :=
  Tab.get_set_self ..

theorem State.modSub_subLink_ne (s : State) {n m : Nat} (g : SubLink → SubLink) (h : m ≠ n) :
    (s.modSub n g).subLink m = s.subLink m := Tab.get_set_ne _ _ _ h

theorem State.subLink_foldl_notMem (g : Nat → SubLink → SubLink) {l : List Nat} {n : Nat} (hn : n ∉ l) (s : State) :
    (l.foldl (fun s k => s.modSub k (g k)) s).subLink n = s.subLink n := by
  induction l generalizing s with
  | nil => rfl
  | cons k l ih =>
    rw [List.mem_cons, not_or] at hn
    rw [List.foldl_cons, ih hn.2, State.modSub_subLink_ne _ _ hn.1]

/-- Sub-links changed one after the other, each once. -/
theorem State.subLink_foldl_mem (g : Nat → SubLink → SubLink) {l : List Nat} (hl : l.Nodup) {n : Nat} (hn : n ∈ l) (s : State) :
    (l.foldl (fun s k => s.modSub k (g k)) s).subLink n = g n (s.subLink n) := by
  induction l generalizing s with
  | nil => cases hn
  | cons k l ih =>
    rw [List.nodup_cons] at hl
    rw [List.foldl_cons]
    by_cases h : n = k
    · subst h
      rw [State.subLink_foldl_notMem g hl.1, State.modSub_subLink_self]
    · rw [ih hl.2 ((List.mem_cons.1 hn).resolve_left h), State.modSub_subLink_ne _ _ h]

theorem State.sendNotices_subLink (s : State) (k : Nat) (l : List Nat) (n : Nat) : (s.sendNotices k l).subLink n = s.subLink n := by
  unfold State.sendNotices
  generalize l.filter (fun n => (s.subLink n).state = .up) = m
  induction m generalizing s with
  | nil => rfl
  | cons a m ih => exact (ih _).trans rfl

/-! Entry. -/

/-- What an entry step before the last leaves: memory, and the clock but for its entries and the link's former speed. -/
structure Enters (s t : State) : Prop where
  mem : t.mem = s.mem
  clk : ∃ e l, t.clk = { s.clk with entries := e, linkBefore := l }

theorem ClockStands.enters {s t : State} (h : ClockStands s t) : Enters s t := ⟨h.mem, _, _, h.clk⟩

/-- The clock and the host after the entry is counted (R602, R607). -/
def State.countBrumEntry (s : State) : State := (s.setClk (fun c => { c with entries := (c.entries + 1) % 2 ^ 48 })).writeWord 1

/-- What a sub-link is left at in brumation (R602). -/
def SubLink.asleepAt (n : Nat) (l : SubLink) : SubLink :=
  let low := n % 4 = 0 && (l.state = .up || l.state = .retrain)
  { l with
    state := if low then .sleep else .dark, gen := b2n low, txLanes := b2n low, rxLanes := b2n low, fec := false
    step := 0, notice := 0, held := false, retryWait := false }

theorem State.withSec_frame (s : State) (k : SecPart) : ({ s with sec := k } : State).mem = s.mem
    ∧ ({ s with sec := k } : State).clk = s.clk := ⟨rfl, rfl⟩

theorem State.entryDo_two (s : State) : ClockStands s (s.entryDo 2) := by
  obtain ⟨k, hk⟩ := s.closeAll.execRecordSign_some
  have h : s.entryDo 2 = { s.closeAll with sec := k } := by
    show (match execRecordSign s.closeAll with | .next t => t | _ => s.closeAll) = _
    rw [hk]
  rw [h]
  exact ⟨(State.withSec_frame ..).1.trans (metered_closeAll s).mem, (State.withSec_frame ..).2.trans (metered_closeAll s).clk⟩

theorem State.countBrumEntry_facts (s : State) : s.countBrumEntry.mem = s.mem
    ∧ s.countBrumEntry.clk = { s.clk with entries := (s.clk.entries + 1) % 2 ^ 48 } := by
  rw [State.countBrumEntry, (clockStands_writeWord ..).mem, (clockStands_writeWord ..).clk, State.setClk_mem, State.setClk_clk]
  exact ⟨rfl, rfl⟩

/-- A write of the state word (R607). -/
def stateWord (c : ClockPart) (st entries : Nat) : HostWrite :=
  { fn := 0
    addr := c.wordLo.toNat + c.wordHi.toNat * 2 ^ 32
    bytes := leBytes 8 (1 + st * 16 + entries * 65536) }

theorem State.writeWord_writes {s : State} (st : Nat) (h : s.clk.wordLo.toNat + s.clk.wordHi.toNat * 2 ^ 32 ≠ 0) :
    (s.writeWord st).host.writes = s.host.writes ++ [stateWord s.clk st (s.clk.entries % 2 ^ 48)] := by
  rw [State.writeWord, if_neg h]
  rfl

/-- The state word is written once its address is set (R607). -/
theorem State.countBrumEntry_writes {s : State} (h : s.clk.wordLo.toNat + s.clk.wordHi.toNat * 2 ^ 32 ≠ 0) :
    s.countBrumEntry.host.writes = s.host.writes ++ [stateWord s.clk 1 ((s.clk.entries + 1) % 2 ^ 48)] := by
  rw [State.countBrumEntry, State.writeWord_writes 1 (by rw [State.setClk_clk]; exact h), State.setClk_clk, State.setClk_host]
  simp only [Nat.mod_mod, stateWord]

theorem State.entryDo_five (s : State) : ClockStands s (s.entryDo 5) := clockStands_writeCheckpoint ..

theorem State.entryDo_four_stands (s : State) : ClockStands s (s.entryDo 4) :=
  (clockStands_sendNotices ..).trans (ClockStands.foldl (g := fun s n => s.modSub n (SubLink.asleepAt n))
    (fun s n => clockStands_modSub s n _) _ _)

theorem State.entryDo_four_subLink {s : State} {n : Nat} (hn : n < 64) (hu : (s.subLink n).state = .up) :
    ((s.entryDo 4).subLink n).state = if n % 4 = 0 then .sleep else .dark := by
  have hs := s.sendNotices_subLink 1 (List.range 64) n
  have hmem : n ∈ (List.range 64).filter (fun k => ((s.sendNotices 1 (List.range 64)).subLink k).state ≠ .fenced) := by
    rw [List.mem_filter, List.mem_range, hs, hu]
    exact ⟨hn, rfl⟩
  have h := State.subLink_foldl_mem SubLink.asleepAt (List.nodup_range.filter _) hmem (s.sendNotices 1 (List.range 64))
  rw [hs] at h
  have hstate : ((s.subLink n).asleepAt n).state = if n % 4 = 0 then .sleep else .dark := by
    simp only [SubLink.asleepAt, hu, decide_true, Bool.true_or, Bool.and_true, decide_eq_true_eq]
  exact (congrArg SubLink.state h).trans hstate

/-- A state with other doorbell lines. -/
def State.withLines (s : State) (l : Tab DoorbellLine) : State := { s with host := { s.host with lines := l } }

theorem State.withLines_writes (s : State) (l : Tab DoorbellLine) : (s.withLines l).host.writes = s.host.writes := rfl
theorem State.withLines_mem (s : State) (l : Tab DoorbellLine) : (s.withLines l).mem = s.mem := rfl
theorem State.withLines_clk (s : State) (l : Tab DoorbellLine) : (s.withLines l).clk = s.clk := rfl

/-- The doorbell lines leave the doorbell cache once the entry is counted (R602). -/
theorem State.entryDo_three (s : State) : ∃ l, s.entryDo 3 = s.countBrumEntry.withLines l := ⟨_, rfl⟩

theorem State.entryDo_three_writes (s : State) : (s.entryDo 3).host.writes = s.countBrumEntry.host.writes := by
  obtain ⟨l, h⟩ := s.entryDo_three
  rw [h, State.withLines_writes]

theorem State.entryDo_three_enters (s : State) : Enters s (s.entryDo 3) := by
  obtain ⟨l, h⟩ := s.entryDo_three
  obtain ⟨hmem, hclk⟩ := s.countBrumEntry_facts
  rw [h]
  exact ⟨(State.withLines_mem ..).trans hmem, (s.clk.entries + 1) % 2 ^ 48, s.clk.linkBefore, (State.withLines_clk ..).trans hclk⟩

theorem State.entryDo_enters {s : State} {k : Nat} (h1 : 1 ≤ k) (h6 : k ≤ 6) : Enters s (s.entryDo k) := by
  rcases (show k = 1 ∨ k = 2 ∨ k = 3 ∨ k = 4 ∨ k = 5 ∨ k = 6 by omega) with rfl | rfl | rfl | rfl | rfl | rfl
  · exact (ClockStands.refl s).enters
  · exact s.entryDo_two.enters
  · exact s.entryDo_three_enters
  · exact s.entryDo_four_stands.enters
  · exact s.entryDo_five.enters
  · exact ⟨rfl, _, _, rfl⟩

/-- An entry abandoned leaves memory and goes back in the clock's entry alone (R603). -/
theorem State.abandon_facts (s : State) (k : Nat) (words : List Nat) : (s.abandon k words).mem = s.mem
    ∧ (s.abandon k words).clk = { s.clk with entryStep := 0, lastAbort := k, lastSrc := s.clk.wakeSrc, wakeSrc := 0 } := by
  unfold State.abandon
  extract_lets h0 s1 s2 s3 s4
  have h1 : ClockStands s s1 := .ite ⟨rfl, rfl⟩ (.refl _)
  have h2 : ClockStands s s2 := h1.trans (.ite (ClockStands.foldl (fun _ _ => clockStands_startTraining ..) _ _) (.refl _))
  have h3 : ClockStands s s3 := h2.trans (.ite ((clockStands_writeWord ..).trans (clockStands_reacquire ..)) (.refl _))
  have h5 := (clockStands_readAllWords s4 words).trans
    (clockStands_post _ 0 Event.brumAbandoned (k + s.clk.wakeSrc * 16 + s4.clk.entries % 2 ^ 48 * 2 ^ 64))
  refine ⟨h5.mem.trans ((State.setClk_mem ..).trans h3.mem), h5.clk.trans ?_⟩
  rw [State.setClk_clk, h3.clk]

theorem execBrumEntryStepDone_go {s : State} (words : List Nat) (h1 : 1 ≤ s.clk.entryStep) (h6 : s.clk.entryStep ≤ 6)
    (h5 : s.clk.entryStep = 5 → s.boot.mwUp = true) : execBrumEntryStepDone words s = .next
      (if s.clk.wakeSrc ≠ 0 then (s.entryDo s.clk.entryStep).abandon s.clk.entryStep words
       else (s.entryDo s.clk.entryStep).setClk (fun c => { c with entryStep := s.clk.entryStep + 1 })) := by
  have hgo : ¬ (decide (s.clk.entryStep = 0) || decide (s.clk.entryStep = 5) && !s.boot.mwUp) = true := by
    rw [decide_eq_false (by omega : ¬ s.clk.entryStep = 0), Bool.false_or]
    by_cases h : s.clk.entryStep = 5
    · rw [h5 h]
      simp
    · rw [decide_eq_false h]
      simp
  obtain ⟨e, l, hclk⟩ := (State.entryDo_enters h1 h6).clk
  have hsrc : (s.entryDo s.clk.entryStep).clk.wakeSrc = s.clk.wakeSrc := by rw [hclk]
  unfold execBrumEntryStepDone
  dsimp only
  rw [if_neg hgo, if_neg (by omega), hsrc]
  split <;> rfl

/-- The state of a device in brumation (R602 step 7). -/
theorem State.entryDo_seven (s : State) : (s.entryDo 7).clk.asleep = true ∧ (s.entryDo 7).clk.entryStep = 0
    ∧ (s.entryDo 7).clk.rootLocked = false ∧ (s.entryDo 7).pwr.hbmEn = false ∧ (s.entryDo 7).mem = s.mem :=
  ⟨rfl, rfl, rfl, rfl, rfl⟩

/-- A wake that starts changes the wake's step alone (R606). -/
theorem State.startWake_eq (s : State) : s.startWake = s.setClk (fun c => { c with
    wakeStep := if c.asleep && c.wakeSrc ≠ 0 && c.wakeStep = 0 && c.refPresent then 1 else c.wakeStep }) := by
  unfold State.startWake
  split
  · next h => simp only [State.setClk, h, if_true]
  · next h =>
    rw [Bool.not_eq_true] at h
    simp only [State.setClk, h, if_neg Bool.false_ne_true]

theorem execBrumEntryStepDone_last {s : State} (words : List Nat) (h : s.clk.entryStep = 7) :
    execBrumEntryStepDone words s = .next (s.entryDo 7).startWake := by
  unfold execBrumEntryStepDone
  rw [h]
  rfl

theorem execClkRefLoss_eq {s : State} (h : s.clk.refPresent = true) : execClkRefLoss s = .next
    ((if s.pwr.pwrOk && !s.clk.asleep then (s.stopFiller).fatalError 1 else s).changeClock
      (fun c => { c with refPresent := false, rootLocked := false, src := 2, uncertain := true })) := by
  unfold execClkRefLoss
  rw [if_neg (by simp [h])]

theorem clockStands_fatalError (s : State) (code : Nat) : ClockStands s (s.fatalError code) := by
  unfold State.fatalError
  exact .ite (.refl _) ⟨rfl, rfl⟩

theorem State.stopFiller_eq (s : State) : ∃ p, s.stopFiller = { s with pwr := p } := by
  unfold State.stopFiller
  generalize List.range 4 = l
  induction l generalizing s with
  | nil => exact ⟨_, rfl⟩
  | cons d l ih =>
    obtain ⟨p, h⟩ := ih (s.modSail d (fun x => { x with spin := [] }))
    exact ⟨p, h⟩

theorem State.stopFiller_fatalError {s : State} (h : s.ras.fatal = false) (code : Nat) :
    (s.stopFiller.fatalError code).ras.fatal = true ∧ (s.stopFiller.fatalError code).ras.fatalCode = code
      ∧ (s.stopFiller.fatalError code).host.aerFatal = s.host.aerFatal ++ [code] := by
  obtain ⟨p, hp⟩ := s.stopFiller_eq
  rw [hp, State.fatalError, if_neg (by simp [h])]
  exact ⟨rfl, rfl, rfl⟩

/-- What is told of a changed clock keeps the errors reported before (R609). -/
theorem State.changeClock_aer (s : State) (f : ClockPart → ClockPart) :
    (s.changeClock f).host.aerFatal = s.host.aerFatal := by
  have hpost : ∀ u : State, (u.postTime 0).host.aerFatal = u.host.aerFatal := fun u => by
    obtain ⟨⟨_, _, _, h⟩, -⟩ := told_post u 0 Event.timeStatus (b2n u.clk.uncertain + u.clk.src * 2 + 0 % 2 ^ 64 * 2 ^ 64)
    rw [State.postTime, h]
  have hset : ∀ c : Bool, (if c then (s.setClk f).setTally (fun t => { t with uncertainTo := s.ns }) else s.setClk f).host.aerFatal
      = s.host.aerFatal := fun c => by
    rcases c
    · rfl
    · rfl
  unfold State.changeClock
  extract_lets s1 s2
  split
  · exact hset _
  · exact (hpost _).trans (hset _)

theorem execIdleTimerExpiry_ok {s : State} (he : s.clk.brumEnable = true) (hr : s.boot.ready = true) (hm : s.mute = false)
    (hs : s.clk.entryStep = 0) (hd : s.pwr.downStep = 0) (hi : s.idle = true) :
    execIdleTimerExpiry s = .next (s.setClk (fun c => { c with entryStep := 1, wakeSrc := 0 })) := by
  unfold execIdleTimerExpiry
  exact if_pos (by simp [he, hr, hm, hs, hd, hi])

section WakeEvents

variable {s : State} {src : Nat}

theorem State.wakeEvent_entering (h1 : 1 ≤ src) (h5 : src ≤ 5) (hd : s.pwr.downStep = 0) (hw : s.clk.wakeSrc = 0)
    (he : s.clk.entryStep ≠ 0) : s.wakeEvent src = s.setClk (fun c => { c with wakeSrc := src }) := by
  rw [State.wakeEvent, if_neg (by simp [hd, hw]; omega), if_pos he]

theorem State.wakeEvent_asleep (h1 : 1 ≤ src) (h5 : src < 5) (hd : s.pwr.downStep = 0) (hw : s.clk.wakeSrc = 0)
    (he : s.clk.entryStep = 0) (ha : s.clk.asleep = true) (hs : s.clk.wakeStep = 0) (hr : s.clk.refPresent = true) :
    s.wakeEvent src = s.setClk (fun c => { c with wakeSrc := src, wakeStep := 1 }) := by
  rw [State.wakeEvent, if_neg (by simp [hd, hw]; omega), if_neg (not_not_intro he), if_pos (by simp [ha]; omega), State.startWake,
    if_pos (by simp [State.setClk, ha, hs, hr]; omega)]
  rfl

/-- What a wake event can change of the clock (R602, R604). -/
theorem State.wakeEvent_frame (s : State) (src : Nat) : (s.wakeEvent src).mem = s.mem ∧ (s.wakeEvent src).host = s.host
    ∧ (s.wakeEvent src).clk.brumEnable = s.clk.brumEnable := by
  unfold State.wakeEvent
  split
  · exact ⟨rfl, rfl, rfl⟩
  · split
    · exact ⟨rfl, rfl, rfl⟩
    · split
      · rw [State.startWake_eq]
        exact ⟨rfl, rfl, rfl⟩
      · exact ⟨rfl, rfl, rfl⟩

end WakeEvents

theorem State.beginDown_frame (s : State) (n : Nat) : (s.beginDown n).mem = s.mem ∧ (s.beginDown n).pwr.downStep = n
    ∧ (s.beginDown n).clk = { s.clk with entryStep := 0 } := by
  have hfill : ∀ u : State, u.stopFiller.pwr.downStep = u.pwr.downStep := fun u => by
    unfold State.stopFiller
    generalize List.range 4 = l
    induction l generalizing u with
    | nil => rfl
    | cons d l ih => exact (ih _).trans rfl
  unfold State.beginDown
  dsimp only
  rw [(clockStands_stopFiller _).mem, (clockStands_stopFiller _).clk, hfill]
  exact ⟨rfl, rfl, rfl⟩

/-- A wake resets the device with its clock and its cause (R606, R614). -/
theorem State.resetAndBoot_wake {s : State} (hf : s.ras.fatal = false) (n : Nat) :
    let t := s.resetAndBoot (Cause.wake n)
    t.clk.wakeStep = s.clk.wakeStep ∧ t.clk.tb = s.clk.tb ∧ t.clk.asleep = false ∧ t.boot.stage = 1 ∧ t.boot.ready = false
      ∧ t.boot.cause = 16 + n * 32 ∧ t.work.ops = [] := by
  have hwake : bitOf (Cause.wake n) 4 = true := by
    rw [bitOf, Nat.testBit_eq_decide_div_mod_eq, Cause.wake]
    simp only [decide_eq_true_eq]
    omega
  have hstep : (s.resetAndBoot (Cause.wake n)).clk.wakeStep = if bitOf (Cause.wake n) 4 then s.clk.wakeStep else 0 := rfl
  have hcause : (s.resetAndBoot (Cause.wake n)).boot.cause
      = Cause.wake n + (if s.ras.fatal then 1024 + s.ras.fatalCode % 16 * 2048 else 0) := rfl
  refine ⟨?_, rfl, rfl, rfl, rfl, ?_, rfl⟩
  · rw [hstep, if_pos hwake]
  · rw [hcause, hf]
    rfl

section Wakes

variable {s : State} (hp : s.pwr.pwrReq = true)
include hp

theorem execWakeStepDone_req : execWakeStepDone s = (match s.clk.wakeStep with
    | 1 => .next ((s.writeWord 2).setClk (fun c => { c with wakeStep := c.wakeStep + 1 }))
    | 2 => if s.clk.rootLocked then .next ((s.setClk (fun c => { c with wakeStep := c.wakeStep + 1 })).resetAndBoot
        (Cause.wake s.clk.wakeSrc)) else .next s
    | 3 => .next { s.setClk (fun c => { c with wakeStep := c.wakeStep + 1 }) with
        host := { s.host with speed := s.clk.linkBefore.1, width := s.clk.linkBefore.2 } }
    | 4 => if s.boot.ready then .next (s.setClk (fun c => { c with wakeStep := c.wakeStep + 1 })) else .next s
    | 5 => .next ((s.writeWord 3).setClk (fun c => { c with wakeStep := 0, wakeSrc := 0 }))
    | _ => .next s) := by
  unfold execWakeStepDone
  exact if_neg (by simp [hp])

end Wakes

/-- A wake message passed on goes to the target's own low-rate link, where this device has one (R606). -/
theorem execWakeMessage_passes {s : State} {dst sub : Nat} (hd : dst ≠ s.fab.devId) (ha : s.clk.asleep = false)
    (ho : s.fab.join ≠ .off) (hr : s.fab.join ≠ .rejected) (hs : sub < 64) : ∃ (t : State) (m : FabMsg),
      execWakeMessage dst sub s = .next t ∧ t.work.sent = s.work.sent ++ [m] ∧ m.kind = .wake ∧ m.dst = dst
        ∧ (∀ n, n < 64 → (s.subLink n).state = .sleep → (s.subLink n).nDev = dst → (s.subLink n).gen = 1 →
            (s.subLink m.sub).state = .sleep ∧ (s.subLink m.sub).nDev = dst) ∧ t.mem = s.mem ∧ t.clk = s.clk := by
  have hgo : ¬ (s.clk.asleep || decide (s.fab.join = .off) || decide (s.fab.join = .rejected) || decide (64 ≤ sub)) = true := by
    simp [ha, ho, hr]
    omega
  unfold execWakeMessage
  dsimp only
  rw [if_neg hd, if_neg hgo]
  split
  · next n hn =>
    obtain ⟨hprop, -⟩ := List.find?_eq_some_iff_append.1 hn
    simp only [Bool.and_eq_true, decide_eq_true_eq] at hprop
    exact ⟨_, _, rfl, rfl, rfl, rfl, fun _ _ _ _ _ => hprop.1, rfl, rfl⟩
  · next hn =>
    refine ⟨_, _, rfl, rfl, rfl, rfl, fun n hlt h1 h2 h3 => ?_, rfl, rfl⟩
    have := List.find?_eq_none.1 hn n (List.mem_range.2 hlt)
    simp [h1, h2, h3] at this

theorem Beats.jumpedBy_times (b : Beats) (o : Nat) : (b.jumpedBy o).grid = b.grid + o ∧ (b.jumpedBy o).t0 = b.t0 + o
    ∧ (b.jumpedBy o).number = b.number := ⟨rfl, rfl, rfl⟩

theorem execTimeReply_takes {s : State} (hp : s.parentSub < 64) (t2 t3 : Nat) :
    let o : Int := (((t2 : Int) - s.fab.t1) - ((s.ns : Int) - t3)) / 2
    ∃ t : State, execTimeReply t2 t3 s = .next t ∧ t.clk.offset = max (-2 ^ 31) (min (2 ^ 31 - 1) o)
      ∧ (o ≤ 1000 → t.clk.slew = o ∧ t.clk.tb = s.clk.tb ∧ t.mem = s.mem)
      ∧ (1000 < o → t.clk.slew = 0 ∧ t.clk.tb = (s.clk.tb + o.toNat * 2 ^ 32) % 2 ^ 96
          ∧ t.clk.jumps = (s.clk.jumps + 1) % 65536 ∧ t.mem.hbm = s.mem.hbm)
      ∧ (s.fab.join = .joined → s.clk.refPresent = true → -50 ≤ o → o ≤ 50 → t.clk.uncertain = false)
      ∧ (o < -50 ∨ 50 < o → t.clk.uncertain = s.clk.uncertain) := by
  by_cases ho : 1000 < s.replyOffset t2 t3
  · obtain ⟨t, hexec, hmem, hclk⟩ := execTimeReply_jumps hp ho
    have ho' : 1000 < (((t2 : Int) - s.fab.t1) - ((s.ns : Int) - t3)) / 2 := ho
    refine ⟨t, hexec, by rw [hclk, ClockPart.jumpedBy, ClockPart.measured]; rfl, fun h => absurd ho' (by omega), fun _ => ?_, fun _ _ _ h => absurd ho' (by omega), fun _ => ?_⟩
    · rw [hclk, ClockPart.jumpedBy, ClockPart.measured]
      exact ⟨rfl, rfl, rfl, hmem⟩
    · rw [hclk, ClockPart.jumpedBy, ClockPart.measured]
  · obtain ⟨t, hexec, hmem, u, hclk, hu⟩ := execTimeReply_slews (t2 := t2) (t3 := t3) hp (by omega)
    rw [ClockPart.measured] at hclk
    dsimp only at hclk
    refine ⟨t, hexec, by rw [hclk]; rfl, fun _ => ⟨by rw [hclk]; rfl, by rw [hclk], hmem⟩, fun h => absurd h ho,
      fun hj hr hlo hhi => ?_, fun h => ?_⟩
    · have hlo' : -50 ≤ s.replyOffset t2 t3 := hlo
      have hhi' : s.replyOffset t2 t3 ≤ 50 := hhi
      rw [hclk]
      simp [hu, hj, hr, hlo', hhi']
    · have hout : s.replyOffset t2 t3 < -50 ∨ 50 < s.replyOffset t2 t3 := h
      rw [hclk]
      dsimp only
      rw [hu]
      rcases hout with h | h
      · simp [show ¬ -50 ≤ s.replyOffset t2 t3 by omega]
      · simp [show ¬ s.replyOffset t2 t3 ≤ 50 by omega]

theorem State.withHost_clk (s : State) (h : HostPart) : ({ s with host := h } : State).clk = s.clk := rfl

/-- Settles O47: each command by its branches; what follows a change of the clock is told to the host and tallied alone. -/
theorem timeAndBrumationTakeEffect : Obligations.TimeAndBrumationTakeEffect := by
  refine ⟨fun s hq hr hb => ?_, fun s => ?_, fun s hi => ⟨fun h => ?_, fun h hm hb => ?_⟩, fun s t2 t3 hp => ?_,
    fun s hr hd hl => ?_, fun s hr => ?_, fun s hr => ?_, fun s he hr hm hs hd hi => ?_,
    fun s words => ⟨fun h => ?_, fun h1 h6 hw h5 => ?_, fun h1 h6 hw h5 => ?_⟩,
    fun s src h1 h5 hd hw => ⟨fun he => ?_, fun he ha hn hs hr => ?_⟩, fun s on => ?_, fun s dev hj => ?_,
    fun s dst sub => ⟨fun h => ?_, fun h ha ho hr hs => ?_⟩, fun s => ⟨fun hp => ⟨fun h => ?_, fun h hl hf => ?_, fun h => ?_,
      fun h hr => ?_, fun h => ?_⟩, fun hp h => ?_⟩⟩
  · rw [State.step_nil hq, State.tick_eq hr hb]
    exact ⟨_, rfl, State.setClk_mem .., State.setClk_host .., State.setClk_work .., rfl, rfl⟩
  · exact ⟨_, rfl, rfl, rfl, rfl, rfl⟩
  · exact execTimeSet_refused h
  · obtain ⟨t, hexec, ht⟩ := execTimeSet_ok (s := s) (hi := hi) rfl h hm
    obtain ⟨hmem, hwork, htb, hslew, hjumps, hunc⟩ := s.timeTo_frame (s.clk.setLo.toNat + hi % 2 ^ 32 * 2 ^ 32)
    have hlo := s.clk.setLo.isLt
    refine ⟨t, hexec, ?_, by rw [ht.clk, hslew], by rw [ht.clk, hjumps], by rw [ht.clk, hunc], ?_, ?_, fun k p b hp hb => ?_⟩
    · have hns : t.ns = (s.jump (s.clk.setLo.toNat + hi % 2 ^ 32 * 2 ^ 32 - s.ns)).ns :=
        State.ns_eq_of_tb_eq (by rw [ht.clk, htb])
      rw [hns, State.jump_ns (by omega)]
      omega
    · rw [ht.mem, hmem, State.jump_hbm]
    · rw [ht.work, hwork, State.jump_work]
    · obtain ⟨h1, h2⟩ := State.timeTo_ponds (v := s.clk.setLo.toNat + hi % 2 ^ 32 * 2 ^ 32) hp hb
      exact ⟨_, _, by rw [ht.mem]; exact h1, h2, b.jumpedBy_times _⟩
  · exact execTimeReply_takes hp t2 t3
  · have hexec : execRootPllLock s = .next (s.changeClock (fun c => { c with rootLocked := true, src := 0 })) := by
      unfold execRootPllLock
      exact if_neg (by simp [hr]; omega)
    have hc := clocks_changeClock s (fun c => { c with rootLocked := true, src := 0 })
    exact ⟨_, hexec, hc.clk, hc.mem, hc.work⟩
  · have hc := clocks_changeClock (if s.pwr.pwrOk && !s.clk.asleep then (s.stopFiller).fatalError 1 else s)
      (fun c => { c with refPresent := false, rootLocked := false, src := 2, uncertain := true })
    have hs : ClockStands s (if s.pwr.pwrOk && !s.clk.asleep then (s.stopFiller).fatalError 1 else s) :=
      .ite ((clockStands_stopFiller ..).trans (clockStands_fatalError ..)) (.refl _)
    refine ⟨_, execClkRefLoss_eq hr, by rw [hc.clk, hs.clk], by rw [hc.mem, hs.mem], fun hok ha hf => ?_, fun h => ?_⟩
    · have hgo : (s.pwr.pwrOk && !s.clk.asleep) = true := by rw [hok, ha]; rfl
      obtain ⟨h1, h2, h3⟩ := State.stopFiller_fatalError hf 1
      rw [hc.ras, State.changeClock_aer, if_pos hgo]
      exact ⟨h1, h2, h3⟩
    · rw [hc.ras, if_neg]
      rcases h with h | h <;> simp [h]
  · have hexec : execClkRefReturn s = .next (s.changeClock (fun c => { c with refPresent := true, src := 1 })).startWake := by
      unfold execClkRefReturn
      exact if_neg (by simp [hr])
    have hc := clocks_changeClock s (fun c => { c with refPresent := true, src := 1 })
    rw [State.startWake_eq] at hexec
    refine ⟨_, hexec, ?_, ?_, ?_, ?_, ?_, ?_⟩
    · rw [State.setClk_clk, hc.clk]
    · rw [State.setClk_clk, hc.clk]
    · rw [State.setClk_clk, hc.clk]
    · rw [State.setClk_clk, hc.clk]
    · rw [State.setClk_mem, hc.mem]
    · rw [State.setClk_clk, hc.clk]
      simp only [Bool.and_true]
  · exact execIdleTimerExpiry_ok he hr hm hs hd hi
  · obtain ⟨h1, h2, h3, h4, h5⟩ := s.entryDo_seven
    refine ⟨_, execBrumEntryStepDone_last words h, ?_, ?_, ?_, ?_, ?_⟩
    · rw [State.startWake_eq, State.setClk_clk, h1]
    · rw [State.startWake_eq, State.setClk_clk, h2]
    · rw [State.startWake_eq, State.setClk_clk, h3]
    · rw [State.startWake_eq, State.setClk_pwr, h4]
    · rw [State.startWake_eq, State.setClk_mem, h5]
  · have hexec := execBrumEntryStepDone_go words h1 h6 h5
    rw [if_neg (not_not_intro hw)] at hexec
    have hent := State.entryDo_enters (s := s) h1 h6
    refine ⟨_, hexec, by rw [State.setClk_clk], by rw [State.setClk_mem, hent.mem], fun h3 => ⟨?_, fun ha => ?_⟩,
      fun h4 n hn hu => ?_, fun h6 => ?_⟩
    · obtain ⟨l, hdo⟩ := s.entryDo_three
      rw [h3, State.setClk_clk, hdo, State.withLines_clk, s.countBrumEntry_facts.2]
    · rw [h3, State.setClk_host, State.entryDo_three_writes, State.countBrumEntry_writes ha, stateWord, Nat.one_mul]
    · rw [h4]
      exact State.entryDo_four_subLink hn hu
    · rw [h6]
      exact ⟨rfl, rfl, rfl⟩
  · have hexec := execBrumEntryStepDone_go words h1 h6 h5
    rw [if_pos hw] at hexec
    have hent := State.entryDo_enters (s := s) h1 h6
    obtain ⟨hmem, hclk⟩ := (s.entryDo s.clk.entryStep).abandon_facts s.clk.entryStep words
    obtain ⟨e, l, he⟩ := hent.clk
    rw [he] at hclk
    exact ⟨_, hexec, by rw [hclk], by rw [hclk], by rw [hclk], by rw [hclk], by rw [hclk], by rw [hmem, hent.mem]⟩
  · exact congrArg _ (State.wakeEvent_entering h1 h5 hd hw he)
  · exact congrArg _ (State.wakeEvent_asleep h1 (by omega) hd hw he ha hs hr)
  · rcases on
    · obtain ⟨h1, h2, h3⟩ := (s.setClk (fun c => { c with brumEnable := false })).wakeEvent_frame 5
      refine ⟨_, rfl, h3, h1, h2, fun h => (by cases h), fun _ he hw hd => ?_⟩
      exact congrArg (fun u => u.clk.wakeSrc) (State.wakeEvent_entering (s := s.setClk (fun c => { c with brumEnable := false }))
        (src := 5) (by decide) (by decide) hd hw he)
    · exact ⟨_, rfl, rfl, rfl, rfl, fun _ => rfl, fun h => (by cases h)⟩
  · have hexec : execBrumWakeWrite dev s
        = .next (s.send { kind := .wake, dst := dev % 65536, mere := 0, id := 0, args := [], data := [] }) := by
      unfold execBrumWakeWrite
      exact if_neg (not_not_intro hj)
    exact ⟨_, _, hexec, rfl, rfl, rfl, rfl, rfl⟩
  · exact if_pos h
  · exact execWakeMessage_passes h ha ho hr hs
  · have hexec := execWakeStepDone_req hp
    rw [h] at hexec
    have hw := clockStands_writeWord s 2
    refine ⟨_, hexec, ?_, ?_⟩
    · rw [State.setClk_clk, hw.clk, h]
    · rw [State.setClk_mem, hw.mem]
  · have hexec := execWakeStepDone_req hp
    rw [h] at hexec
    dsimp only at hexec
    rw [if_pos hl] at hexec
    obtain ⟨h1, h2⟩ := State.resetAndBoot_wake (s := s.setClk (fun c => { c with wakeStep := c.wakeStep + 1 })) hf s.clk.wakeSrc
    refine ⟨_, hexec, ?_, h2⟩
    rw [h1, State.setClk_clk, h]
  · have hexec := execWakeStepDone_req hp
    rw [h] at hexec
    refine ⟨_, hexec, ?_, rfl, rfl⟩
    rw [State.withHost_clk, State.setClk_clk, h]
  · have hexec := execWakeStepDone_req hp
    rw [h] at hexec
    dsimp only at hexec
    rw [if_pos hr] at hexec
    refine hexec.trans ?_
    simp only [State.setClk, h]
  · have hexec := execWakeStepDone_req hp
    rw [h] at hexec
    have hw := clockStands_writeWord s 3
    refine ⟨_, hexec, ?_, ?_⟩
    · rw [State.setClk_clk, hw.clk]
    · rw [State.setClk_mem, hw.mem]
  · have hexec : execWakeStepDone s = .next ((s.setClk (fun c => { c with wakeStep := 0, wakeSrc := 0 })).beginDown
        (if s.clk.asleep then 7 else 2)) := by
      unfold execWakeStepDone
      exact if_pos (by simp [h, hp])
    obtain ⟨h1, h2, h3⟩ := (s.setClk (fun c => { c with wakeStep := 0, wakeSrc := 0 })).beginDown_frame
      (if s.clk.asleep then 7 else 2)
    refine ⟨_, hexec, ?_, ?_, h2, ?_⟩
    · rw [h3]
      rfl
    · rw [h3]
      rfl
    · rw [h1, State.setClk_mem]

end Sys2Proof.Machine
end

section
/-! Voltage commands, the sail controller, the forced state and temperatures (R520 to R535). -/

namespace Sys2Proof.Machine

/-! Islands and dies of the power part. -/

theorem State.modIsland_island_self (s : State) (n : Nat) (g : Island → Island) : (s.modIsland n g).island n = g (s.island n) :=
  Tab.get_set_self ..

theorem State.modIsland_island_ne (s : State) {n m : Nat} (g : Island → Island) (h : m ≠ n) :
    (s.modIsland n g).island m = s.island m := Tab.get_set_ne _ _ _ h

theorem State.modSail_sail_self (s : State) (d : Nat) (g : Sail → Sail) : (s.modSail d g).sail d = g (s.sail d) :=
  Tab.get_set_self ..

theorem State.modSail_sail_ne (s : State) {d e : Nat} (g : Sail → Sail) (h : e ≠ d) : (s.modSail d g).sail e = s.sail e :=
  Tab.get_set_ne _ _ _ h

theorem State.modSail_island (s : State) (d : Nat) (g : Sail → Sail) (n : Nat) : (s.modSail d g).island n = s.island n := rfl
theorem State.modSail_trip (s : State) (d : Nat) (g : Sail → Sail) : (s.modSail d g).pwr.trip = s.pwr.trip := rfl

theorem State.island_congr {s t : State} (h : t.pwr = s.pwr) (n : Nat) : t.island n = s.island n := by
  rw [State.island, State.island, h]

theorem State.sail_congr {s t : State} (h : t.pwr = s.pwr) (d : Nat) : t.sail d = s.sail d := by
  rw [State.sail, State.sail, h]

/-- A step that changes power, the clock and what the host is told alone. -/
structure Powers (s t : State) : Prop where
  eq : ∃ p h c, t = { s with pwr := p, host := h, clk := c }

@[refl] theorem Powers.refl (s : State) : Powers s s := ⟨_, _, _, rfl⟩

theorem Powers.trans {s t u : State} (h : Powers s t) (k : Powers t u) : Powers s u := by
  obtain ⟨_, _, _, rfl⟩ := h
  obtain ⟨_, _, _, rfl⟩ := k
  exact ⟨_, _, _, rfl⟩

theorem Powers.foldl {β : Type} {g : State → β → State} (hg : ∀ s b, Powers s (g s b)) (l : List β) (s : State) :
    Powers s (l.foldl g s) := by
  induction l generalizing s with
  | nil => exact .refl s
  | cons b l ih => exact (hg s b).trans (ih _)

theorem Powers.ite {c : Prop} [Decidable c] {s t u : State} (ht : Powers s t) (hu : Powers s u) :
    Powers s (if c then t else u) := by
  split
  · exact ht
  · exact hu

theorem Powers.rest {s t : State} (h : Powers s t) :
    t.mem = s.mem ∧ t.work = s.work ∧ t.xlat = s.xlat ∧ t.eng = s.eng ∧ t.fab = s.fab := by
  obtain ⟨_, _, _, rfl⟩ := h
  exact ⟨rfl, rfl, rfl, rfl, rfl⟩

theorem powers_setPwr (s : State) (g : PowerPart → PowerPart) : Powers s (s.setPwr g) := ⟨_, _, _, rfl⟩
theorem powers_setClk (s : State) (g : ClockPart → ClockPart) : Powers s (s.setClk g) := ⟨_, _, _, rfl⟩
theorem powers_modIsland (s : State) (n : Nat) (g : Island → Island) : Powers s (s.modIsland n g) := powers_setPwr ..
theorem powers_modSail (s : State) (d : Nat) (g : Sail → Sail) : Powers s (s.modSail d g) := powers_setPwr ..

theorem powers_post (s : State) (f code payload : Nat) : Powers s (s.post f code payload) := by
  obtain ⟨⟨_, _, _, h⟩, -⟩ := told_post s f code payload
  rw [h]
  exact ⟨_, _, _, rfl⟩

theorem State.post_pwr (s : State) (f code payload : Nat) : (s.post f code payload).pwr = s.pwr := (apart_post ..).pwr

/-- Dies changed one after the other, each once. -/
theorem State.sail_foldl_notMem (g : Nat → Sail → Sail) {l : List Nat} {d : Nat} (hd : d ∉ l) (s : State) :
    (l.foldl (fun s k => s.modSail k (g k)) s).sail d = s.sail d := by
  induction l generalizing s with
  | nil => rfl
  | cons k l ih =>
    rw [List.mem_cons, not_or] at hd
    rw [List.foldl_cons, ih hd.2, State.modSail_sail_ne _ _ hd.1]

theorem State.sail_foldl_mem (g : Nat → Sail → Sail) {l : List Nat} (hl : l.Nodup) {d : Nat} (hd : d ∈ l) (s : State) :
    (l.foldl (fun s k => s.modSail k (g k)) s).sail d = g d (s.sail d) := by
  induction l generalizing s with
  | nil => cases hd
  | cons k l ih =>
    rw [List.nodup_cons] at hl
    rw [List.foldl_cons]
    by_cases h : d = k
    · subst h
      rw [State.sail_foldl_notMem g hl.1, State.modSail_sail_self]
    · rw [ih hl.2 ((List.mem_cons.1 hd).resolve_left h), State.modSail_sail_ne _ _ h]

/-- Dies changed leave the rest of the power part. -/
theorem State.foldl_modSail_pwr (g : Nat → Sail → Sail) (l : List Nat) (s : State) :
    ∃ x, (l.foldl (fun s k => s.modSail k (g k)) s) = { s with pwr := { s.pwr with dies := x } } := by
  induction l generalizing s with
  | nil => exact ⟨_, rfl⟩
  | cons k l ih =>
    obtain ⟨x, h⟩ := ih (s.modSail k (g k))
    exact ⟨x, h⟩

theorem State.stopFiller_pwr (s : State) : ∃ x, s.stopFiller = { s with pwr := { s.pwr with dies := x } } :=
  State.foldl_modSail_pwr (fun _ x => { x with spin := [] }) _ _

theorem powers_stopFiller (s : State) : Powers s s.stopFiller := by
  obtain ⟨x, h⟩ := s.stopFiller_pwr
  rw [h]
  exact ⟨_, _, _, rfl⟩

theorem State.stopFiller_spin {d : Nat} (hd : d < 4) (s : State) : (s.stopFiller.sail d).spin = [] := by
  have h := State.sail_foldl_mem (fun _ x => { x with spin := [] }) List.nodup_range (List.mem_range.2 hd) s
  exact congrArg Sail.spin h

/-- A forced island runs at the greatest divider (R523, R531). -/
theorem State.divNow_of_forced {s : State} (h : s.forced = true) (n : Nat) : s.divNow n = 16 := by
  simp only [State.divNow, h, if_true]

theorem State.forced_congr {s t : State} (hp : t.pwr = s.pwr) (hr : t.ras = s.ras) : t.forced = s.forced := by
  rw [State.forced, State.forced, hp, hr]

theorem State.forced_of_croak {s : State} (h : s.pwr.forced = true) : s.forced = true := by
  rw [State.forced, h]
  rfl

theorem State.forced_of_trip {s : State} (h : s.pwr.trip = true) : s.forced = true := by
  rw [State.forced, h, Bool.or_true]
  rfl

/-! Voltage commands (R520 to R522). -/

theorem exec_voltageCommand (value : Nat) (s : State) : exec (.voltageCommand value) s = execVoltageCommand value s := rfl
theorem exec_islandSettled (n : Nat) (s : State) : exec (.islandSettled n) s = execIslandSettled n s := rfl
theorem exec_sailWindow (d demand : Nat) (ponds : List Nat) (s : State) : exec (.sailWindow d demand ponds) s = execSailWindow d demand ponds s := rfl
theorem exec_furlUpdate (power : Nat) (s : State) : exec (.furlUpdate power) s = execFurlUpdate power s := rfl
theorem exec_droopCrossing (dom : Nat) (s : State) : exec (.droopCrossing dom) s = execDroopCrossing dom s := rfl
theorem exec_droopRecover (dom clocks : Nat) (s : State) : exec (.droopRecover dom clocks) s = execDroopRecover dom clocks s := rfl
theorem exec_croakNAssert (s : State) : exec .croakNAssert s = execCroakNAssert s := rfl
theorem exec_croakNRelease (s : State) : exec .croakNRelease s = execCroakNRelease s := rfl
theorem exec_croakRearm (s : State) : exec .croakRearm s = execCroakRearm s := rfl
theorem exec_tempSample (n temp : Nat) (s : State) : exec (.tempSample n temp) s = execTempSample n temp s := rfl
theorem exec_hbmTempRead (port temp : Nat) (s : State) : exec (.hbmTempRead port temp) s = execHbmTempRead port temp s := rfl
theorem exec_thermalStepTimer (n : Nat) (s : State) : exec (.thermalStepTimer n) s = execThermalStepTimer n s := rfl

/-- An island that has settled at its target (R522). -/
def Island.settledAt (ns : Nat) (i : Island) : Island := { i with uv := codeUv i.target, at_ := ns, settled := true }

/-- An island whose present command completes (R522). -/
def Island.completed (i : Island) : Island :=
  { i with div := i.cmdDiv, raise := false, complete := true, doneTag := if i.complete then i.doneTag else i.tag }

theorem State.settle_eq (s : State) (n : Nat) : s.settle n = s.modIsland n (fun i =>
    if i.raise && s.forced then i.settledAt s.ns else (i.settledAt s.ns).completed) := rfl

theorem State.settle_completes {s : State} {n : Nat} (h : s.forced = false ∨ (s.island n).raise = false) :
    (s.settle n).island n = ((s.island n).settledAt s.ns).completed := by
  rw [State.settle_eq, State.modIsland_island_self, if_neg]
  rcases h with h | h <;> simp [h]

theorem State.settle_waits {s : State} {n : Nat} (hf : s.forced = true) (hr : (s.island n).raise = true) :
    (s.settle n).island n = (s.island n).settledAt s.ns := by
  rw [State.settle_eq, State.modIsland_island_self, if_pos (by rw [hf, hr]; rfl)]

/-- An island under a new command (R521, R522). -/
def Island.commanded (ns code div tag : Nat) (there : Bool) (i : Island) : Island :=
  { i with
    uv := i.out ns, at_ := ns, target := code, cmdDiv := div, tag, settled := there, complete := false
    div := if i.div < div then div else i.div
    raise := div < i.div }

section Voltage

variable {s : State} {n code div : Nat} (tag : Nat)

theorem State.voltageCommand_bad (hn : n < 512) (h : 80 < code ∨ div < 8 ∨ 16 < div ∨ code < minCode div ∨ s.fenced 1 n = true) :
    s.voltageCommand n code div tag = s.modIsland n (fun i => { i with cmdBad := true }) := by
  rw [State.voltageCommand, if_neg (by omega), if_pos]
  simpa [or_assoc] using h

variable (hn : n < 512) (hc : code ≤ 80) (hlo : 8 ≤ div) (hhi : div ≤ 16) (hm : minCode div ≤ code) (hf : s.fenced 1 n = false)
include hn hc hlo hhi hm hf

theorem voltageCommand_ok : s.voltageCommand n code div tag =
    if (s.island n).settled && (s.island n).target = code then (s.modIsland n (Island.commanded s.ns code div tag true)).settle n
    else s.modIsland n (Island.commanded s.ns code div tag false) := by
  rw [State.voltageCommand, if_neg (by omega), if_neg (by simp [hf]; omega)]
  dsimp only
  rcases (s.island n).settled && (s.island n).target = code with _ | _
  · rfl
  · rfl

end Voltage

/-! The sail controller (R524 to R528). -/

/-- What a window counts. -/
theorem State.slopeMiss_facts (s : State) (d short : Nat) : Powers s (s.slopeMiss d short)
    ∧ (∀ e, e ≠ d → (s.slopeMiss d short).sail e = s.sail e)
    ∧ ∃ m a, (s.slopeMiss d short).sail d = { s.sail d with misses := (s.sail d).misses + 1, shortfall := m, missAt := a } := by
  unfold State.slopeMiss
  dsimp only
  split
  · refine ⟨(powers_modSail ..).trans (powers_post ..), fun e he => ?_, 0, s.ns + 1, ?_⟩
    · rw [State.sail_congr (State.post_pwr ..), State.modSail_sail_ne _ _ he]
    · rw [State.sail_congr (State.post_pwr ..), State.modSail_sail_self]
  · exact ⟨powers_modSail .., fun e he => State.modSail_sail_ne _ _ he, max (s.sail d).shortfall short, (s.sail d).missAt,
      State.modSail_sail_self ..⟩

/-- A die after a window of 50 ns: its inrush, its floor and the arrays that spin (R524 to R527). -/
structure Sail.Windowed (x y : Sail) (i f : Nat) (l : List Nat) : Prop where
  windows : y.windows = (i + 4200 * l.length) :: x.windows.take 4
  floor : y.floor = f
  spin : y.spin = l
  misses : y.misses = if f - i ≤ 4200 * l.length then x.misses else x.misses + 1

theorem execSailWindow_eq {s : State} {d : Nat} (demand : Nat) (ponds : List Nat) (hd : d < 4) :
    let x := s.sail d
    let i := if s.forced then demand else min demand (x.windows.headD 0 + 50 * x.slopeUp)
    let f := if s.forced then i else min (1000 * x.iCap) (max i (x.floor - 50 * x.slopeDown))
    let spin := (s.idleArrays d).take (if s.forced || !x.spinEn then 0 else (f - i + 4199) / 4200)
    ∃ t, execSailWindow d demand ponds s = .next t ∧ Powers s t ∧ (∀ e, e ≠ d → t.sail e = s.sail e)
      ∧ (s.sail d).Windowed (t.sail d) i f spin := by
  intro x i f spin
  unfold execSailWindow
  rw [if_neg (by omega)]
  extract_lets prev forced i' f' n' spin' short now base falls clocks held s1
  have hs1 : (s1.sail d).windows = (i + 4200 * spin.length) :: x.windows.take 4 ∧ (s1.sail d).floor = f
      ∧ (s1.sail d).spin = spin ∧ (s1.sail d).misses = x.misses := by
    rw [State.modSail_sail_self]
    exact ⟨rfl, rfl, rfl, rfl⟩
  have hne : ∀ e, e ≠ d → s1.sail e = s.sail e := fun e he => State.modSail_sail_ne _ _ he
  obtain ⟨hw, hf, hsp, hm⟩ := hs1
  obtain ⟨hp, hother, m, a, hmiss⟩ := s1.slopeMiss_facts d short
  refine ⟨_, rfl, ?_⟩
  split
  · next hle => exact ⟨powers_modSail .., hne, hw, hf, hsp, by rw [hm]; exact (if_pos hle).symm⟩
  · next hgt =>
    refine ⟨(powers_modSail ..).trans hp, fun e he => (hother e he).trans (hne e he), ?_, ?_, ?_, ?_⟩
    · rw [hmiss]; exact hw
    · rw [hmiss]; exact hf
    · rw [hmiss]; exact hsp
    · rw [hmiss]
      exact (congrArg (· + 1) hm).trans (if_neg hgt).symm

/-- A die's furl duty (R528). -/
def Sail.furled (pkg : Nat) (x : Sail) : Sail :=
  let goal := min x.furlMax (x.gain * max pkg (excess x.now (1000 * x.iCap)))
  { x with duty := if x.duty ≤ goal then min goal (x.duty + x.slopeDown * 250 * 256 / max 1 x.now)
                   else max goal (x.duty - x.slopeUp * 250 * 256 / max 1 x.now) }

/-- The average package power, which lies between the former one and the new reading (R528). -/
def State.furlAvg (s : State) (power : Nat) : Nat :=
  max (min s.pwr.pAvg power) (min (max s.pwr.pAvg power) (Config.ewma s.pwr.pAvg power s.pwr.tauMs))

theorem execFurlUpdate_eq (s : State) (power : Nat) : execFurlUpdate power s = .next
    ((List.range 4).foldl (fun u d => u.modSail d
      (Sail.furled (max (excess power s.pwr.pShort) (excess (s.furlAvg power) s.pwr.pLong))))
      (s.setPwr (fun p => { p with pNow := power % 8192, pAvg := s.furlAvg power % 8192 }))) := rfl

/-! The forced state (R531, R532, R535). -/

/-- Once the islands are not forced, an island that settled with a raise takes it; settling again changes neither (R532). -/
theorem State.foldl_settle {l : List Nat} {n : Nat} {i : Island} (hn : n ∈ l) {s : State} (hf : s.forced = false)
    (hi : (s.island n).cmdDiv = i.cmdDiv) :
    ((l.foldl (fun s n => s.settle n) s).island n).div = i.cmdDiv ∧ ((l.foldl (fun s n => s.settle n) s).island n).raise = false := by
  have hkeep : ∀ (l : List Nat) (u : State), u.forced = false → (u.island n).div = i.cmdDiv → (u.island n).raise = false →
      (u.island n).cmdDiv = i.cmdDiv → ((l.foldl (fun s n => s.settle n) u).island n).div = i.cmdDiv
        ∧ ((l.foldl (fun s n => s.settle n) u).island n).raise = false := by
    intro l
    induction l with
    | nil => exact fun u _ h1 h2 _ => ⟨h1, h2⟩
    | cons m l ih =>
      intro u hu h1 h2 h3
      rw [List.foldl_cons]
      by_cases h : n = m
      · subst h
        have he := State.settle_completes (.inl hu) (n := n)
        exact ih _ hu (by rw [he]; exact h3) (by rw [he]; rfl) (by rw [he]; exact h3)
      · have he : (u.settle m).island n = u.island n := State.modIsland_island_ne _ _ h
        exact ih _ hu (by rw [he, h1]) (by rw [he, h2]) (by rw [he, h3])
  induction l generalizing s with
  | nil => cases hn
  | cons m l ih =>
    rw [List.foldl_cons]
    by_cases h : n = m
    · subst h
      have he := State.settle_completes (.inl hf) (n := n)
      exact hkeep l _ hf (by rw [he]; exact hi) (by rw [he]; rfl) (by rw [he]; exact hi)
    · have he : (s.settle m).island n = s.island n := State.modIsland_island_ne _ _ h
      exact ih ((List.mem_cons.1 hn).resolve_left h) hf (by rw [he, hi])

theorem powers_settle (s : State) (n : Nat) : Powers s (s.settle n) := by
  rw [State.settle_eq]
  exact powers_modIsland ..

theorem powers_resumeRaises (s : State) : Powers s s.resumeRaises := by
  unfold State.resumeRaises
  exact .ite (.refl _) (Powers.foldl (g := fun s n => s.settle n) (fun _ _ => powers_settle ..) _ _)

theorem State.resumeRaises_forced (s : State) : s.resumeRaises.pwr.forced = s.pwr.forced := by
  unfold State.resumeRaises
  split
  · rfl
  · clear * -
    generalize (s.pwr.islands.filter (fun p => p.2.settled && p.2.raise)).map (·.1) = l
    induction l generalizing s with
    | nil => rfl
    | cons n l ih => exact (ih _).trans rfl

/-- A thermal trip (R535). -/
theorem State.tripAt_facts (s : State) (hbm : Bool) (unit temp : Nat) : Powers s (s.tripAt hbm unit temp)
    ∧ (s.tripAt hbm unit temp).pwr.trip = true ∧ (s.tripAt hbm unit temp).pwr.islands = s.pwr.islands
    ∧ (s.tripAt hbm unit temp).pwr.hbmTemps = s.pwr.hbmTemps
    ∧ (s.pwr.trip = false → (s.tripAt hbm unit temp).pwr.hbmTrip = hbm) := by
  unfold State.tripAt
  split
  · next h => exact ⟨.refl _, h, rfl, rfl, fun hf => absurd h (by simp [hf])⟩
  · obtain ⟨x, hx⟩ := (s.setPwr (fun p => { p with trip := true, hbmTrip := hbm })).stopFiller_pwr
    refine ⟨((powers_setPwr ..).trans (powers_stopFiller ..)).trans (powers_post ..), ?_⟩
    rw [State.post_pwr, hx]
    exact ⟨rfl, rfl, rfl, fun _ => rfl⟩

theorem execCroakNAssert_eq {s : State} (hp : s.pwr.pwrOk = true) (ha : s.clk.asleep = false) : execCroakNAssert s = .next
    (if s.pwr.trip then s.setPwr (fun p => { p with croakPin := true })
     else if s.pwr.forced then s.setPwr (fun p => { p with croakPin := true, croaks := (p.croaks + 1) % 65536 })
     else ((s.setPwr (fun p => { p with croakPin := true, forced := true, forcedSince := s.ns, croaks := (p.croaks + 1) % 65536 })).stopFiller).post
       0 Event.croak 0) := by
  unfold execCroakNAssert
  rw [if_neg (by simp [hp, ha])]
  dsimp only
  split
  · rfl
  · split
    · rfl
    · rfl

theorem execCroakRearm_eq {s : State} (hf : s.pwr.forced = true) (hp : s.pwr.croakPin = false) (hm : s.boot.mwUp = true) :
    execCroakRearm s = .next ((s.setPwr (fun p => { p with forced := false })).resumeRaises.post 0 Event.croak
      (1 + ((s.ns - s.pwr.forcedSince) % 2 ^ 64) * 2 ^ 64)) := by
  unfold execCroakRearm
  exact if_neg (by simp [hf, hp, hm])

theorem execTempSample_eq {s : State} {n : Nat} (temp : Nat) (hn : n < 512) (hp : s.pwr.pwrOk = true) (ha : s.clk.asleep = false) :
    execTempSample n temp s = .next (if 4 * (s.pwr.tTrip : Int) < signedOf 11 temp then
      (s.modIsland n (fun i => { i with temp := temp % 2048 })).tripAt false n temp
      else s.modIsland n (fun i => { i with temp := temp % 2048 })) := by
  unfold execTempSample
  exact if_neg (by simp [hp, ha]; omega)

theorem execHbmTempRead_eq {s : State} {port : Nat} (temp : Nat) (hn : port < 24) (hp : s.pwr.pwrOk = true)
    (ha : s.clk.asleep = false) : execHbmTempRead port temp s = .next (if 105 < temp then
      (s.setPwr (fun p => { p with hbmTemps := p.hbmTemps.set port (temp % 256) })).tripAt true port (4 * temp)
      else s.setPwr (fun p => { p with hbmTemps := p.hbmTemps.set port (temp % 256) })) := by
  unfold execHbmTempRead
  exact if_neg (by simp [hp, ha]; omega)

/-- An island that gains or loses a thermal step, and what may be told of it (R534). -/
theorem State.withStep_facts (s : State) (n : Nat) (g : Island → Island) (c : Bool) (payload : Nat) :
    let t := if c then (s.modIsland n g).post 0 Event.thermal payload else s.modIsland n g
    Powers s t ∧ t.island n = g (s.island n) ∧ ∀ m, m ≠ n → t.island m = s.island m := by
  rcases c
  · exact ⟨powers_modIsland .., State.modIsland_island_self .., fun m hm => State.modIsland_island_ne _ _ hm⟩
  · refine ⟨(powers_modIsland ..).trans (powers_post ..), ?_, fun m hm => ?_⟩
    · exact (State.island_congr (State.post_pwr ..) n).trans (State.modIsland_island_self ..)
    · exact (State.island_congr (State.post_pwr ..) m).trans (State.modIsland_island_ne _ _ hm)

theorem execThermalStepTimer_up {s : State} {n : Nat} (hn : n < 512)
    (h : 4 * (s.pwr.tThrottle : Int) < signedOf 11 (s.island n).temp) (hs : (s.island n).steps < 8) :
    ∃ c payload, execThermalStepTimer n s = .next (if c = true then
      (s.modIsland n (fun i => { i with steps := i.steps + 1 })).post 0 Event.thermal payload
      else s.modIsland n (fun i => { i with steps := i.steps + 1 })) := by
  refine ⟨decide ((s.island n).steps = 0), n * 65536 + (s.island n).temp % 2048 * 2 ^ 32, ?_⟩
  unfold execThermalStepTimer
  dsimp only
  rw [if_neg (by omega), if_pos h, if_neg (by omega)]
  simp only [decide_eq_true_eq]

theorem execThermalStepTimer_down {s : State} {n : Nat} (hn : n < 512)
    (h : signedOf 11 (s.island n).temp < 4 * ((s.pwr.tThrottle : Int) - s.pwr.hyst)) (hs : (s.island n).steps ≠ 0) :
    ∃ c payload, execThermalStepTimer n s = .next (if c = true then
      (s.modIsland n (fun i => { i with steps := i.steps - 1 })).post 0 Event.thermal payload
      else s.modIsland n (fun i => { i with steps := i.steps - 1 })) := by
  refine ⟨(s.modIsland n (fun i => { i with steps := i.steps - 1 })).pwr.islands.all (fun p => p.2.steps = 0),
    1 + n * 65536 + (s.island n).temp % 2048 * 2 ^ 32, ?_⟩
  unfold execThermalStepTimer
  dsimp only
  rw [if_neg (by omega), if_neg (by omega), if_pos h, if_neg hs]

/-- Settles O48: each command as one change of an island, a die or the power part, and what is told of it. -/
theorem powerCommandsTakeEffect : Obligations.PowerCommandsTakeEffect := by
  refine ⟨fun s value hn => ⟨fun h => ?_, fun hc hlo hhi hm hf => ⟨fun h => ?_, fun hs ht hr => ?_⟩⟩,
    fun s n hn hs ha ho => ?_, fun s d demand ponds hd => ?_, fun s power => ?_,
    fun s dom clocks => ⟨fun hd hn => ?_, fun hd => ?_⟩,
    fun s hp ha => ⟨fun ht hf => ?_, fun ht hf => ?_, fun ht => ?_⟩, fun s => rfl, fun s hf hp hm => ?_,
    fun s n temp hn hp ha => ?_, fun s port temp hn hp ha => ?_,
    fun s n hn => ⟨fun h hs => ?_, fun h hs => ?_, fun h1 h2 => ?_⟩⟩
  · exact congrArg _ (State.voltageCommand_bad _ hn h)
  · refine congrArg _ ((voltageCommand_ok _ hn hc hlo hhi hm hf).trans ((if_neg ?_).trans ?_))
    · rcases h with h | h <;> simp [h]
    · have hmax : ∀ a b : Nat, (if a < b then b else a) = max a b := fun a b => by split <;> omega
      simp only [Island.commanded, State.modIsland, hmax]
  · have hexec : execVoltageCommand value s = _ := congrArg Host.Outcome.next (voltageCommand_ok (bitsOf value 16 8) hn hc hlo hhi hm hf)
    rw [if_pos (by simp [hs, ht])] at hexec
    have hraise : s.forced = false ∨ ((s.modIsland s.pwr.islSel (Island.commanded s.ns (bitsOf value 0 7) (bitsOf value 8 5)
        (bitsOf value 16 8) true)).island s.pwr.islSel).raise = false := by
      rcases hr with hr | hr
      · exact .inl hr
      · rw [State.modIsland_island_self]
        exact .inr (decide_eq_false (by omega))
    have hset := State.settle_completes (s := s.modIsland s.pwr.islSel (Island.commanded s.ns (bitsOf value 0 7) (bitsOf value 8 5)
      (bitsOf value 16 8) true)) hraise
    rw [State.modIsland_island_self] at hset
    refine ⟨_, hexec, ((powers_modIsland ..).trans (powers_settle ..)).rest, ?_, ?_, ?_, ?_, ?_, fun m hm => ?_⟩
    · rw [hset]; rfl
    · rw [hset]; rfl
    · rw [hset]; rfl
    · rw [hset]; rfl
    · rw [hset]; rfl
    · rw [State.settle_eq, State.modIsland_island_ne _ _ hm, State.modIsland_island_ne _ _ hm]
  · have hexec : execIslandSettled n s = .next (s.settle n) := by
      unfold execIslandSettled
      exact if_neg (by simp [hs, Island.stands, ha, ho]; omega)
    refine ⟨_, hexec, (powers_settle ..).rest, fun m hm => State.modIsland_island_ne _ _ hm, ?_, ?_, fun h => ?_, fun hf hr => ?_⟩
    · rw [State.settle_eq, State.modIsland_island_self]
      split <;> rfl
    · rw [State.settle_eq, State.modIsland_island_self]
      split <;> rfl
    · rw [State.settle_completes h]
      exact ⟨rfl, rfl, rfl⟩
    · rw [State.settle_waits hf hr]
      exact ⟨rfl, hr⟩
  · obtain ⟨t, hexec, hp, hother, hwin⟩ := execSailWindow_eq demand ponds hd (s := s)
    refine ⟨t, hexec, hp.rest, hother, fun hf => ?_, fun hf => ?_⟩
    · rw [hf] at hwin
      refine ⟨hwin.spin, hwin.floor, hwin.windows, hwin.misses.trans (if_pos ?_)⟩
      simp
    · rw [hf] at hwin
      have hlen := congrArg List.length hwin.spin
      refine ⟨hwin.floor, ?_, fun tile ht => ?_, fun he => ?_, fun h => ?_, fun h => ?_⟩
      · rw [hwin.windows, hlen]
        rfl
      · rw [hwin.spin] at ht
        exact List.mem_of_mem_take ht
      · rw [hwin.spin, he]
        rfl
      · rw [hlen] at h
        refine hwin.misses.trans (if_pos ?_)
        simp only [Bool.false_eq_true, if_false] at h ⊢
        omega
      · rw [hlen] at h
        refine hwin.misses.trans (if_neg ?_)
        simp only [Bool.false_eq_true, if_false] at h ⊢
        omega
  · refine ⟨_, s.furlAvg power, execFurlUpdate_eq s power, ?_, ?_, ?_, ?_, ?_, fun d hd => ?_⟩
    · exact ((powers_setPwr ..).trans (Powers.foldl (fun u d => powers_modSail u d _) _ _)).rest
    · exact le_max_left ..
    · exact max_le (by omega) (min_le_left ..)
    · obtain ⟨x, hx⟩ := State.foldl_modSail_pwr (fun _ => Sail.furled (max (excess power s.pwr.pShort)
        (excess (s.furlAvg power) s.pwr.pLong))) (List.range 4)
        (s.setPwr (fun p => { p with pNow := power % 8192, pAvg := s.furlAvg power % 8192 }))
      rw [hx]
      rfl
    · obtain ⟨x, hx⟩ := State.foldl_modSail_pwr (fun _ => Sail.furled (max (excess power s.pwr.pShort)
        (excess (s.furlAvg power) s.pwr.pLong))) (List.range 4)
        (s.setPwr (fun p => { p with pNow := power % 8192, pAvg := s.furlAvg power % 8192 }))
      rw [hx]
      rfl
    · exact State.sail_foldl_mem (fun _ => Sail.furled (max (excess power s.pwr.pShort)
        (excess (s.furlAvg power) s.pwr.pLong))) List.nodup_range (List.mem_range.2 hd) _
  · have hexec : execDroopCrossing dom s = .next (s.setClk (fun c => { c with stretching := c.stretching ++ [dom] })) := by
      unfold execDroopCrossing
      exact if_neg (by simp [hn]; omega)
    exact ⟨_, hexec, (powers_setClk ..).rest, rfl, rfl⟩
  · have hexec : execDroopRecover dom clocks s = .next (
        if dom < 512 then (s.setClk (fun c => { c with stretching := c.stretching.filter (· ≠ dom) })).modSail (dieOfTile dom)
          (fun x => x.count 0 clocks)
        else s.setClk (fun c => { c with stretching := c.stretching.filter (· ≠ dom) })) := by
      unfold execDroopRecover
      exact if_neg (by simp [hd])
    have hclk : ∀ t : State, t.clk.stretching = s.clk.stretching.filter (· ≠ dom) → dom ∉ t.clk.stretching
        ∧ ∀ e, e ≠ dom → (e ∈ t.clk.stretching ↔ e ∈ s.clk.stretching) := by
      intro t ht
      rw [ht]
      refine ⟨by simp, fun e he => ?_⟩
      rw [List.mem_filter]
      simp [he]
    refine ⟨_, hexec, (Powers.ite ((powers_setClk ..).trans (powers_modSail ..)) (powers_setClk ..)).rest, ?_⟩
    by_cases h : dom < 512
    · rw [if_pos h]
      obtain ⟨h1, h2⟩ := hclk ((s.setClk (fun c => { c with stretching := c.stretching.filter (· ≠ dom) })).modSail (dieOfTile dom)
        (fun x => x.count 0 clocks)) rfl
      exact ⟨h1, h2, fun _ => State.modSail_sail_self .., fun h' => absurd h (by omega)⟩
    · rw [if_neg h]
      obtain ⟨h1, h2⟩ := hclk (s.setClk (fun c => { c with stretching := c.stretching.filter (· ≠ dom) })) rfl
      exact ⟨h1, h2, fun h' => absurd h' h, fun _ => rfl⟩
  · have hexec := execCroakNAssert_eq hp ha
    rw [if_neg (by simp [ht]), if_neg (by simp [hf])] at hexec
    obtain ⟨x, hx⟩ := (s.setPwr (fun p => { p with
      croakPin := true, forced := true, forcedSince := s.ns, croaks := (p.croaks + 1) % 65536 })).stopFiller_pwr
    refine ⟨_, hexec, ((powers_setPwr ..).trans ((powers_stopFiller ..).trans (powers_post ..))).rest, ?_, ?_, ?_, ?_, ?_,
      fun d hd => ?_, fun n => State.divNow_of_forced (State.forced_of_croak ?_) n⟩
    · rw [State.post_pwr, hx]; rfl
    · rw [State.post_pwr, hx]; rfl
    · rw [State.post_pwr, hx]; rfl
    · rw [State.post_pwr, hx]; rfl
    · rw [State.post_pwr, hx]; rfl
    · rw [State.sail_congr (State.post_pwr ..)]
      exact State.stopFiller_spin hd _
    · rw [State.post_pwr, hx]; rfl
  · have hexec := execCroakNAssert_eq hp ha
    rw [if_neg (by simp [ht]), if_pos hf] at hexec
    exact hexec
  · have hexec := execCroakNAssert_eq hp ha
    rw [if_pos ht] at hexec
    exact hexec
  · refine ⟨_, execCroakRearm_eq hf hp hm, ((powers_setPwr ..).trans ((powers_resumeRaises ..).trans (powers_post ..))).rest, ?_,
      fun ht hfa hd n i hi hset hraise => ?_⟩
    · rw [State.post_pwr, State.resumeRaises_forced]
      rfl
    · have hfree : (s.setPwr (fun p => { p with forced := false })).forced = false := by
        show (false || s.pwr.trip || s.ras.fatal || decide (2 ≤ s.pwr.downStep)) = false
        rw [ht, hfa, decide_eq_false (by omega)]
        rfl
      have hmem : n ∈ (s.pwr.islands.filter (fun p => p.2.settled && p.2.raise)).map (·.1) :=
        List.mem_map.2 ⟨(n, i), List.mem_filter.2 ⟨Tab.mem_of_at? hi, by simp [hset, hraise]⟩, rfl⟩
      have hisl : s.island n = i := by rw [State.island, Tab.get, hi, Option.getD_some]
      rw [State.island_congr (State.post_pwr ..), State.resumeRaises, if_neg (by simp [hfree])]
      exact State.foldl_settle hmem hfree (by show (s.island n).cmdDiv = _; rw [hisl])
  · have hexec := execTempSample_eq temp hn hp ha
    by_cases h : 4 * (s.pwr.tTrip : Int) < signedOf 11 temp
    · rw [if_pos h] at hexec
      obtain ⟨h1, h2, h3, -, -⟩ := (s.modIsland n (fun i => { i with temp := temp % 2048 })).tripAt_facts false n temp
      have hisl : ∀ m, ((s.modIsland n (fun i => { i with temp := temp % 2048 })).tripAt false n temp).island m
          = (s.modIsland n (fun i => { i with temp := temp % 2048 })).island m := fun m => by rw [State.island, h3]; rfl
      refine ⟨_, hexec, ((powers_modIsland ..).trans h1).rest, ?_, fun m hm => ?_, fun h' => absurd h (by omega),
        fun _ => ⟨h2, fun m => State.divNow_of_forced (State.forced_of_trip h2) m⟩⟩
      · rw [hisl, State.modIsland_island_self]
      · rw [hisl, State.modIsland_island_ne _ _ hm]
    · rw [if_neg h] at hexec
      exact ⟨_, hexec, (powers_modIsland ..).rest, State.modIsland_island_self .., fun m hm => State.modIsland_island_ne _ _ hm,
        fun _ => ⟨rfl, rfl⟩, fun h' => absurd h' h⟩
  · have hexec := execHbmTempRead_eq temp hn hp ha
    by_cases h : 105 < temp
    · rw [if_pos h] at hexec
      obtain ⟨h1, h2, -, h4, h5⟩ := (s.setPwr (fun p => { p with hbmTemps := p.hbmTemps.set port (temp % 256) })).tripAt_facts true
        port (4 * temp)
      refine ⟨_, hexec, ((powers_setPwr ..).trans h1).rest, ?_, fun h' => absurd h (by omega), fun _ => h2, fun _ ht => h5 ht⟩
      rw [h4]
      exact Tab.at?_set_self ..
    · rw [if_neg h] at hexec
      exact ⟨_, hexec, (powers_setPwr ..).rest, Tab.at?_set_self .., fun _ => ⟨rfl, rfl⟩, fun h' => absurd h' h,
        fun h' => absurd h' h⟩
  · obtain ⟨c, payload, hexec⟩ := execThermalStepTimer_up hn h hs
    obtain ⟨h1, h2, h3⟩ := s.withStep_facts n (fun i => { i with steps := i.steps + 1 }) c payload
    exact ⟨_, hexec, h1.rest, h2, h3⟩
  · obtain ⟨c, payload, hexec⟩ := execThermalStepTimer_down hn h hs
    obtain ⟨h1, h2, h3⟩ := s.withStep_facts n (fun i => { i with steps := i.steps - 1 }) c payload
    exact ⟨_, hexec, h1.rest, h2, h3⟩
  · rw [exec_thermalStepTimer]
    unfold execThermalStepTimer
    dsimp only
    rw [if_neg (by omega), if_neg (by omega), if_neg (by omega)]

end Sys2Proof.Machine
end

section
/-! The power sequencer (R666 to R671). -/

namespace Sys2Proof.Machine

theorem exec_pwrReqHigh (s : State) : exec .pwrReqHigh s = execPwrReqHigh s := rfl
theorem exec_pwrReqLow (s : State) : exec .pwrReqLow s = execPwrReqLow s := rfl
theorem exec_xrailGoodRise (s : State) : exec .xrailGoodRise s = execXrailGoodRise s := rfl
theorem exec_hbmGoodRise (s : State) : exec .hbmGoodRise s = execHbmGoodRise s := rfl
theorem exec_powerStepDone (s : State) : exec .powerStepDone s = execPowerStepDone s := rfl
theorem exec_powerStepTimeout (s : State) : exec .powerStepTimeout s = execPowerStepTimeout s := rfl
theorem exec_goodSignalLost (hbm : Bool) (s : State) : exec (.goodSignalLost hbm) s = execGoodSignalLost hbm s := rfl
theorem exec_vin12Fault (s : State) : exec .vin12Fault s = execVin12Fault s := rfl
theorem exec_aonSupplyLost (s : State) : exec .aonSupplyLost s = execAonSupplyLost s := rfl

/-- A power part as power-down begins at a step, with other filler (R668). -/
def PowerPart.downFrom (p : PowerPart) (step : Nat) (dies : Tab Sail) : PowerPart :=
  { p with
    downStep := step
    upStep := 0
    pwrOk := if step = 2 then false else p.pwrOk
    dies := dies }

/-- What the beginning of power-down leaves: the power part at that step, the brumation entry ended, the rest standing. -/
theorem State.beginDown_eq (s : State) (step : Nat) :
    ∃ x, s.beginDown step = (s.setPwr (fun p => p.downFrom step x)).setClk (fun c => { c with entryStep := 0 }) := by
  unfold State.beginDown
  obtain ⟨x, hx⟩ := ((s.setPwr (fun p => { p with downStep := step, upStep := 0, pwrOk := if step = 2 then false else p.pwrOk })).setClk
    (fun c => { c with entryStep := 0 })).stopFiller_pwr
  exact ⟨x, hx⟩

theorem State.setPwr_pwr (s : State) (g : PowerPart → PowerPart) : (s.setPwr g).pwr = g s.pwr := rfl

/-- The power part after power-down begins. -/
theorem State.beginDown_pwr (s : State) (step : Nat) : ∃ x, (s.beginDown step).pwr = s.pwr.downFrom step x := by
  obtain ⟨x, hx⟩ := s.beginDown_eq step
  exact ⟨x, by rw [hx]; rfl⟩

theorem State.beginDown_mem (s : State) (step : Nat) : (s.beginDown step).mem = s.mem := (s.beginDown_frame step).1

theorem State.beginDown_host (s : State) (step : Nat) : (s.beginDown step).host = s.host := by
  obtain ⟨x, hx⟩ := s.beginDown_eq step
  rw [hx]
  rfl

/-- In power-down every island is forced (R670). -/
theorem State.forced_of_down {s : State} (h : 2 ≤ s.pwr.downStep) : s.forced = true := by
  rw [State.forced, decide_eq_true h, Bool.or_true]

theorem State.sendNotices_pwr (s : State) (k : Nat) (l : List Nat) : (s.sendNotices k l).pwr = s.pwr := by
  unfold State.sendNotices
  generalize l.filter (fun n => (s.subLink n).state = .up) = ns
  suffices h : ∀ u : State, (ns.foldl (fun t n =>
      t.sendOn { kind := .notice, dst := (t.subLink n).nDev, mere := 0, id := n, args := [k], data := [] } n) u).pwr = u.pwr from h s
  induction ns with
  | nil => exact fun u => rfl
  | cons n ns ih => exact fun u => (ih _).trans rfl

theorem State.writeCheckpoint_pwr (s : State) (k : Nat) : (s.writeCheckpoint k).pwr = s.pwr := by
  unfold State.writeCheckpoint
  dsimp only
  split
  · rfl
  · rfl

theorem State.sayGoodbye_frame (s : State) : s.sayGoodbye.pwr = s.pwr ∧ s.sayGoodbye.mem = s.mem := by
  unfold State.sayGoodbye
  dsimp only
  split
  · rw [State.writeCheckpoint_pwr, State.sendNotices_pwr, (clockStands_writeCheckpoint ..).mem, (clockStands_sendNotices ..).mem]
    exact ⟨rfl, rfl⟩
  · rw [State.sendNotices_pwr, (clockStands_sendNotices ..).mem]
    exact ⟨rfl, rfl⟩

/-! Steps up. -/

/-- A power-up step that goes on (R667): PWR_REQ is high and nothing has tripped. -/
theorem State.upDone_goesOn {s : State} (hr : s.pwr.pwrReq = true) (ht : s.pwr.trip = false) {k : Nat} (h4 : k ≠ 4) (h7 : k ≠ 7) :
    s.upDone k = (s.setPwr (fun p => { p with reached := k })).setPwr (fun p => { p with upStep := k + 1 }) := by
  unfold State.upDone
  dsimp only
  rw [if_neg (by simp [hr, ht])]
  split
  · exact absurd rfl h4
  · exact absurd rfl h7
  · rfl

theorem State.upDone_four {s : State} (hr : s.pwr.pwrReq = true) (ht : s.pwr.trip = false) :
    s.upDone 4 = (s.setPwr (fun p => { p with reached := 4 })).setPwr (fun p => { p with upStep := 5, hbmEn := true }) := by
  unfold State.upDone
  exact if_neg (by simp [hr, ht])

theorem State.upDone_seven {s : State} (hr : s.pwr.pwrReq = true) (ht : s.pwr.trip = false) :
    s.upDone 7 = ((s.setPwr (fun p => { p with reached := 7 })).setPwr
      (fun p => { p with upStep := 0, pwrOk := true, poweredBefore := true })).setBoot
        (fun b => { b with cause := if s.pwr.poweredBefore then Cause.perst else Cause.por, perst := true }) := by
  unfold State.upDone
  exact if_neg (by simp [hr, ht])

/-- A power-up step that turns back (R669). -/
theorem State.upDone_turnsBack {s : State} (h : s.pwr.pwrReq = false ∨ s.pwr.trip = true) (k : Nat) :
    s.upDone k = ((s.setPwr (fun p => { p with reached := k })).setPwr (fun p => { p with upStep := 0 })).beginDown (downFor k) := by
  unfold State.upDone
  rcases h with h | h
  · exact if_pos (by simp [h])
  · exact if_pos (by simp [h])

/-! The device in OFF. -/

/-- What OFF holds (R666): nothing powered, nothing kept in memory or at work, the timebase running on. -/
theorem State.off_facts (s : State) :
    s.off.pwr.reached = 0 ∧ s.off.pwr.upStep = 0 ∧ s.off.pwr.downStep = 0 ∧ s.off.pwr.pwrOk = false ∧ s.off.pwr.xrailEn = false
      ∧ s.off.pwr.hbmEn = false ∧ s.off.clk.rootLocked = false ∧ s.off.mem.hbm = [] ∧ s.off.work.ops = []
      ∧ s.off.clk.asleep = false ∧ s.off.clk.tb = s.clk.tb ∧ s.off.pwr.pwrReq = s.pwr.pwrReq := by
  unfold State.off State.deviceReset State.setPwr State.setClk
  exact ⟨rfl, rfl, rfl, rfl, rfl, rfl, rfl, rfl, rfl, rfl, rfl, rfl⟩

theorem State.powerOnReset_facts (s : State) :
    s.powerOnReset.pwr.reached = 0 ∧ s.powerOnReset.pwr.upStep = 0 ∧ s.powerOnReset.pwr.downStep = 0
      ∧ s.powerOnReset.pwr.pwrOk = false ∧ s.powerOnReset.pwr.xrailEn = false ∧ s.powerOnReset.pwr.hbmEn = false
      ∧ s.powerOnReset.clk.rootLocked = false ∧ s.powerOnReset.mem.hbm = [] ∧ s.powerOnReset.work.ops = []
      ∧ s.powerOnReset.clk.tb = 0 ∧ s.powerOnReset.tally.seq = 0 ∧ s.powerOnReset.sec.lcFuse = s.sec.lcFuse :=
  ⟨rfl, rfl, rfl, rfl, rfl, rfl, rfl, rfl, rfl, rfl, rfl, rfl⟩

theorem State.tryPowerUp_of_low {s : State} (h : s.pwr.pwrReq = false) : s.tryPowerUp = s := by
  unfold State.tryPowerUp
  exact if_neg (by simp [h])

/-- What a change of the power part alone leaves. -/
theorem State.setPwr_rest (s : State) (g : PowerPart → PowerPart) :
    (s.setPwr g).clk = s.clk ∧ (s.setPwr g).mem = s.mem ∧ (s.setPwr g).work = s.work ∧ (s.setPwr g).tally = s.tally
      ∧ (s.setPwr g).sec = s.sec := ⟨rfl, rfl, rfl, rfl, rfl⟩

/-- Power-down that has a step to end ends that step. -/
theorem execPowerStepDone_down {s : State} {k : Nat} (h : s.pwr.downStep = k) (hk : k ≠ 0) :
    execPowerStepDone s = .next (s.downDone k) := by
  unfold execPowerStepDone
  rw [if_pos (by rw [h]; exact hk), h]

theorem execPwrReqLow_idle {s : State} (hu : s.pwr.upStep = 0) (hd : s.pwr.downStep = 0) (hw : s.clk.wakeStep = 0) :
    execPwrReqLow s = (let s1 := s.setPwr (fun p => { p with pwrReq := false, blocked := false })
      if s.clk.asleep then .next (s1.beginDown 7) else if s.pwr.reached = 7 then .next (s1.beginDown 2) else .next s1) := by
  unfold execPwrReqLow
  exact if_neg (by simp [hu, hd, hw])

/-- Settles O50: each step of the sequence by the branch it takes. -/
theorem powerSequenceTakesEffect : Obligations.PowerSequenceTakesEffect := by
  refine ⟨fun s hseq ha hv hb ht hr => ?_, fun s hu hd hw => ⟨fun hs h7 => ?_, fun hs => ?_⟩, fun s hu hg => ?_,
    fun s hu hg => ?_, fun s hd hg => ⟨fun hu => ?_, fun hu => ?_, fun hu hl => ?_, fun hu => ?_⟩, fun s hd hg hu => ?_,
    fun s => ⟨fun h => ?_, fun h => ?_, fun h => ?_, fun h => ?_, fun h => ?_, fun h hq => ?_⟩,
    fun s => ⟨fun h => ?_, fun h => ?_⟩, fun s hbm hd h7 hs => ?_, fun s => ?_, fun s => ?_⟩
  · obtain ⟨hu, hd, h0⟩ : s.pwr.upStep = 0 ∧ s.pwr.downStep = 0 ∧ s.pwr.reached = 0 := by simpa using hseq
    have hup : ((s.setPwr (fun p => { p with pwrReq := true })).tryPowerUp)
        = (s.setPwr (fun p => { p with pwrReq := true })).setPwr (fun p => { p with upStep := 2, xrailEn := true }) := by
      unfold State.tryPowerUp
      exact if_pos (by simp [State.setPwr, ha, hv, hb, ht, h0, hu, hd, hr])
    rw [exec_pwrReqHigh, execPwrReqHigh, hup]
    rfl
  · have hexec := execPwrReqLow_idle hu hd hw
    dsimp only at hexec
    rw [if_neg (by simp [hs]), if_pos h7] at hexec
    obtain ⟨x, hx⟩ := State.beginDown_pwr (s.setPwr (fun p => { p with pwrReq := false, blocked := false })) 2
    obtain ⟨-, -, hc⟩ := State.beginDown_frame (s.setPwr (fun p => { p with pwrReq := false, blocked := false })) 2
    refine ⟨_, hexec, ?_, ?_, ?_, ?_, State.beginDown_mem .., State.beginDown_host ..⟩
    · dsimp only
      rw [hx, ← h7]
      rfl
    · rw [hx]; rfl
    · rw [hx]; rfl
    · rw [hc]
  · have hexec := execPwrReqLow_idle hu hd hw
    dsimp only at hexec
    rw [if_pos hs] at hexec
    obtain ⟨x, hx⟩ := State.beginDown_pwr (s.setPwr (fun p => { p with pwrReq := false, blocked := false })) 7
    refine ⟨_, hexec, ?_, ?_, State.beginDown_mem ..⟩
    · rw [hx]; rfl
    · rw [hx]; rfl
  · obtain ⟨hr, ht⟩ := hg
    have hexec : execXrailGoodRise s = .next ((s.setPwr (fun p => { p with xrailGood := true })).upDone 3) := if_pos hu
    rw [State.upDone_goesOn (s := s.setPwr (fun p => { p with xrailGood := true })) hr ht (by decide) (by decide)] at hexec
    exact ⟨_, hexec, rfl, rfl, rfl, rfl⟩
  · obtain ⟨hr, ht⟩ := hg
    have hexec : execHbmGoodRise s = .next ((s.setPwr (fun p => { p with hbmGood := true })).upDone 5) := if_pos hu
    rw [State.upDone_goesOn (s := s.setPwr (fun p => { p with hbmGood := true })) hr ht (by decide) (by decide)] at hexec
    exact ⟨_, hexec, rfl, rfl, rfl, rfl⟩
  · obtain ⟨hr, ht⟩ := hg
    have hexec : execPowerStepDone s = .next ((s.setPwr (fun p => { p with xrailEn := true })).upDone 2) := by
      simp [execPowerStepDone, hd, hu]
    rw [State.upDone_goesOn (s := s.setPwr (fun p => { p with xrailEn := true })) hr ht (by decide) (by decide)] at hexec
    exact ⟨_, hexec, congrArg (fun d => (3, d, 2)) hd, rfl⟩
  · obtain ⟨hr, ht⟩ := hg
    have hexec : execPowerStepDone s = .next (s.upDone 4) := by simp [execPowerStepDone, hd, hu]
    rw [State.upDone_four hr ht] at hexec
    exact ⟨_, hexec, congrArg (fun d => (5, d, 4)) hd, rfl⟩
  · obtain ⟨hr, ht⟩ := hg
    have hexec : execPowerStepDone s = .next (s.upDone 6) := by
      simp [execPowerStepDone, hd, hu, hl]
    rw [State.upDone_goesOn hr ht (by decide) (by decide)] at hexec
    exact ⟨_, hexec, congrArg (fun d => (7, d, 6)) hd⟩
  · obtain ⟨hr, ht⟩ := hg
    have hexec : execPowerStepDone s = .next (s.upDone 7) := by simp [execPowerStepDone, hd, hu]
    rw [State.upDone_seven hr ht] at hexec
    exact ⟨_, hexec, congrArg (fun d => (0, d, 7)) hd, rfl, rfl, rfl⟩
  · have hexec : execPowerStepDone s = .next (s.upDone 4) := by simp [execPowerStepDone, hd, hu]
    rw [State.upDone_turnsBack hg] at hexec
    obtain ⟨x, hx⟩ := State.beginDown_pwr ((s.setPwr (fun p => { p with reached := 4 })).setPwr (fun p => { p with upStep := 0 })) (downFor 4)
    refine ⟨_, hexec, ?_, ?_⟩
    · dsimp only
      rw [hx]
      rfl
    · rw [hx]
      rfl
  · have hexec := execPowerStepDone_down h (by decide)
    cases hq : s.pwr.quick with
    | true =>
      have hdone : s.downDone 2 = s.setPwr (fun p => { p with downStep := 4 }) := if_pos hq
      rw [hdone] at hexec
      exact ⟨_, hexec, rfl, rfl⟩
    | false =>
      have hdone : s.downDone 2 = (s.setPwr (fun p => { p with downStep := 3 })).sayGoodbye := if_neg (by simp [hq])
      rw [hdone] at hexec
      obtain ⟨h1, h2⟩ := State.sayGoodbye_frame (s.setPwr (fun p => { p with downStep := 3 }))
      exact ⟨_, hexec, congrArg PowerPart.downStep h1, h2⟩
  · exact execPowerStepDone_down h (by decide)
  · exact execPowerStepDone_down h (by decide)
  · exact ⟨_, execPowerStepDone_down h (by decide), rfl, rfl, rfl, rfl⟩
  · exact execPowerStepDone_down h (by decide)
  · have hexec : execPowerStepDone s = .next s.off.tryPowerUp := execPowerStepDone_down h (by decide)
    obtain ⟨h1, h2, h3, h4, h5, h6, h7, h8, h9, h10, h11, h12⟩ := s.off_facts
    rw [State.tryPowerUp_of_low (h12.trans hq)] at hexec
    exact ⟨_, hexec, ⟨h1, h2, h3, h4, h5, h6, h7, h8, h9⟩, h10, h11⟩
  · have hexec : execPowerStepTimeout s = .next ((s.setPwr (fun p => { p with blocked := true })).beginDown 7) := if_pos h
    obtain ⟨x, hx⟩ := State.beginDown_pwr (s.setPwr (fun p => { p with blocked := true })) 7
    refine ⟨_, hexec, ?_, ?_, ?_, State.beginDown_mem ..⟩
    · rw [hx]; rfl
    · rw [hx]; rfl
    · rw [hx]; rfl
  · have hexec : execPowerStepTimeout s = .next ((s.setPwr (fun p => { p with blocked := true })).beginDown 5) :=
      (if_neg (by simp [h])).trans (if_pos h)
    obtain ⟨x, hx⟩ := State.beginDown_pwr (s.setPwr (fun p => { p with blocked := true })) 5
    refine ⟨_, hexec, ?_, ?_, ?_, State.beginDown_mem ..⟩
    · rw [hx]; rfl
    · rw [hx]; rfl
    · rw [hx]; rfl
  · have hexec : execGoodSignalLost hbm s = .next (((s.setPwr (fun p => { p with xrailGood := p.xrailGood && hbm, hbmGood := p.hbmGood && !hbm })).setPwr
        (fun p => { p with blocked := true, quick := true })).beginDown 2) := by
      unfold execGoodSignalLost
      rw [if_neg (by simp [hd, h7]), if_neg (by simp [hs])]
    obtain ⟨x, hx⟩ := State.beginDown_pwr ((s.setPwr (fun p => { p with xrailGood := p.xrailGood && hbm, hbmGood := p.hbmGood && !hbm })).setPwr
        (fun p => { p with blocked := true, quick := true })) 2
    refine ⟨_, hexec, ?_, ?_, ?_, ?_, fun h => ?_, fun h => ?_, State.divNow_of_forced (State.forced_of_down ?_), State.beginDown_mem ..⟩
    · rw [hx]; rfl
    · rw [hx]; rfl
    · rw [hx]; rfl
    · rw [hx]; rfl
    · rw [hx]
      simp [PowerPart.downFrom, State.setPwr, h]
    · rw [hx]
      simp [PowerPart.downFrom, State.setPwr, h]
    · rw [hx]
      exact Nat.le_refl 2
  · obtain ⟨h1, h2, h3, h4, h5, h6, h7, h8, h9, h10, h11, -⟩ := s.off_facts
    obtain ⟨hc, hm, hw, -⟩ := s.off.setPwr_rest (fun p => { p with vin12 := false })
    exact ⟨_, exec_vin12Fault s, ⟨h1, h2, h3, h4, h5, h6, by rw [hc, h7], by rw [hm, h8], by rw [hw, h9]⟩, rfl, by rw [hc, h11]⟩
  · obtain ⟨h1, h2, h3, h4, h5, h6, h7, h8, h9, h10, h11, h12⟩ := s.powerOnReset_facts
    obtain ⟨hc, hm, hw, ht, hk⟩ := s.powerOnReset.setPwr_rest (fun p => { p with aon := false, vin12 := s.pwr.vin12 })
    exact ⟨_, exec_aonSupplyLost s, ⟨h1, h2, h3, h4, h5, h6, by rw [hc, h7], by rw [hm, h8], by rw [hw, h9]⟩, rfl, by rw [hc, h10],
      by rw [ht, h11], by rw [hk, h12]⟩

end Sys2Proof.Machine
end

section
/-! The signing engine and the hash engine (R552, R577 to R583). -/

namespace Sys2Proof.Machine

theorem exec_signingCallDone (head : Nat) (s : State) : exec (.signingCallDone head) s = execSigningCallDone head s := rfl
theorem exec_hashSegmentDone (caller : Nat) (data : List Byte) (last : Bool) (s : State) :
    exec (.hashSegmentDone caller data last) s = execHashSegmentDone caller data last s := rfl
theorem exec_hashSuspend (caller : Nat) (s : State) : exec (.hashSuspend caller) s = execHashSuspend caller s := rfl
theorem exec_hashResume (caller : Nat) (s : State) : exec (.hashResume caller) s = execHashResume caller s := rfl

/-! The signing engine. -/

/-- The state with other calls in the signing engine and its queues (R580). -/
def State.withCalls (s : State) (running : Option EngCall) (tallyQ otherQ : List EngCall) : State :=
  s.setSec (fun k => { k with running := running, tallyQ := tallyQ, otherQ := otherQ })

theorem State.withCalls_same (s : State) : s.withCalls s.sec.running s.sec.tallyQ s.sec.otherQ = s := rfl

theorem State.callEngine_idle {s : State} (h : s.sec.running = none) (c : EngCall) :
    s.callEngine c = s.setSec (fun k => { k with running := some c }) := by
  unfold State.callEngine
  exact if_pos (by simp [h])

theorem State.callEngine_busy {s : State} (h : s.sec.running ≠ none) (c : EngCall) :
    s.callEngine c = s.setSec (fun k => { k with otherQ := k.otherQ ++ [c] }) := by
  unfold State.callEngine
  exact if_neg (by simpa using h)

/-- With no request of the Tally waiting, the oldest other call starts (R580). -/
theorem State.nextCall_other {s : State} (h : s.sec.tallyQ = []) (hr : s.sec.running = none) (wasTally : Bool) :
    s.nextCall wasTally = s.withCalls s.sec.otherQ.head? [] s.sec.otherQ.tail := by
  unfold State.nextCall
  dsimp only
  rw [if_neg (by simp [h])]
  cases ho : s.sec.otherQ with
  | nil =>
    conv_lhs => rw [← s.withCalls_same, h, hr, ho]
    rfl
  | cons c l =>
    rw [State.withCalls, ← h]
    rfl

/-- After another caller's call the Tally's request starts, on the record due (R552, R580). -/
theorem State.nextCall_tally {s : State} {g : Signing} (h : s.sec.tallyQ ≠ []) (hg : s.tally.due = some g) :
    s.nextCall false = s.withCalls (some (.record g.slot g.hash g.gap)) [] s.sec.otherQ := by
  unfold State.nextCall
  dsimp only
  rw [if_pos (by simp [h])]
  simp only [hg, Option.isSome_some, if_true]
  rfl

/-- The next call changes the calls of the engine and nothing else. -/
theorem State.nextCall_eq (s : State) (wasTally : Bool) : ∃ r q l, s.nextCall wasTally = s.withCalls r q l := by
  unfold State.nextCall
  extract_lets t o latest tallyNext
  split
  · generalize hl : latest = l
    match l, hl with
    | some g, hl =>
      refine ⟨some (.record g.slot g.hash g.gap), [], s.sec.otherQ, ?_⟩
      simp only [tallyNext, hl]
      rfl
    | none, hl =>
      refine ⟨s.sec.running, [], s.sec.otherQ, ?_⟩
      simp only [tallyNext, hl]
      rfl
  · generalize o = l
    match l with
    | c :: l => exact ⟨some c, s.sec.tallyQ, l, rfl⟩
    | [] => exact ⟨_, _, _, s.withCalls_same.symm⟩

theorem State.withCalls_frame (s : State) (r : Option EngCall) (q l : List EngCall) :
    (s.withCalls r q l).mem = s.mem ∧ (s.withCalls r q l).tally = s.tally ∧ (s.withCalls r q l).host = s.host
      ∧ (s.withCalls r q l).sec.engCode = s.sec.engCode ∧ (s.withCalls r q l).sec.engOut = s.sec.engOut :=
  ⟨rfl, rfl, rfl, rfl, rfl⟩

theorem State.nextCall_frame (s : State) (wasTally : Bool) :
    (s.nextCall wasTally).mem = s.mem ∧ (s.nextCall wasTally).tally = s.tally ∧ (s.nextCall wasTally).host = s.host
      ∧ (s.nextCall wasTally).sec.engCode = s.sec.engCode ∧ (s.nextCall wasTally).sec.engOut = s.sec.engOut := by
  obtain ⟨r, q, l, h⟩ := s.nextCall_eq wasTally
  rw [h]
  exact s.withCalls_frame r q l

/-- A call of a caller other than the Tally returns (R578, R580). -/
def State.callReturned (s : State) (r : Nat × List Byte) : State :=
  (s.setSec (fun k => { k with running := none })).setSec (fun k => { k with engCode := r.1, engOut := r.2 })

theorem execSigningCallDone_other {s : State} {c : EngCall} (h : s.sec.running = some c) (hc : ∀ a b g, c ≠ .record a b g)
    (head : Nat) : execSigningCallDone head s = .next ((s.callReturned (s.engine c)).nextCall false) := by
  unfold execSigningCallDone
  rw [h]
  cases c with
  | record a b g => exact absurd rfl (hc a b g)
  | pubkey _ => rfl
  | sign _ _ => rfl
  | verify _ _ _ _ _ => rfl
  | ecdh _ _ _ => rfl

/-- A Tally whose record of a hash is signed (R552, R553). -/
def TallyPart.signed (t : TallyPart) (hash : List Byte) : TallyPart :=
  ({ t with last := t.last.filter (fun y => y.hash ≠ hash), due := t.due.filter (fun y => y.hash ≠ hash) } : TallyPart).count 1

/-- The state once a record's signature is in its slot. -/
def State.signaturePlaced (s : State) (slot : Nat) (hash sig : List Byte) : State :=
  (s.writeHost 0 (s.tally.base + 256 * slot + 0xA0) sig).setTally (fun t => t.signed hash)

/-- A record's signature that is still wanted is written into its slot and counted (R552, R553). -/
theorem State.placeSignature_live {s : State} {slot : Nat} (hm : s.mute = false)
    (hl : (slot + 2 ^ s.tally.log2 - s.tally.head) % 2 ^ s.tally.log2
      < (s.tally.tail + 2 ^ s.tally.log2 - s.tally.head) % 2 ^ s.tally.log2) (hash sig : List Byte) :
    s.placeSignature slot hash sig = s.signaturePlaced slot hash sig := by
  unfold State.placeSignature
  extract_lets t n live g s1
  have hlive : live = true := by simp only [live, hm, t, n, hl, decide_true, Bool.not_false, Bool.and_self]
  simp only [s1, hlive, if_true]
  rfl

/-- With no record held back, nothing drains. -/
theorem State.drainAll_of_empty {s : State} (hb : s.tally.backlog = []) (hf : s.tally.formed = []) :
    s.drainAll = s.setTally (fun t => { t with backlog := [], formed := [] }) := by
  unfold State.drainAll State.refill
  simp only [hb, State.drain, State.setTally, hf, List.append_nil, List.take_nil, List.drop_nil]

theorem Option.any_filter_ne (x : Option Signing) (hash : List Byte) :
    ((x.filter (fun y => y.hash ≠ hash)).any (fun y => y.hash = hash)) = false := by
  cases x with
  | none => rfl
  | some y =>
    by_cases h : y.hash = hash
    · simp [Option.filter, h]
    · simp [Option.filter, h]

/-- Draining what is not held back keeps the ring's signatures and what was written. -/
theorem State.drained_facts (s : State) :
    let t := s.setTally (fun t => { t with backlog := [], formed := [] })
    t.tally.last = s.tally.last ∧ t.tally.due = s.tally.due ∧ t.tally.counts = s.tally.counts ∧ t.mem = s.mem ∧ t.host = s.host :=
  ⟨rfl, rfl, rfl, rfl, rfl⟩

/-- The state as a record's signature returns: the engine free, the ring's head read. -/
def State.signatureBack (s : State) (head : Nat) : State :=
  (s.setSec (fun k => { k with running := none })).setTally (fun t => { t with head := head % 2 ^ t.log2 })

theorem execSigningCallDone_record {s : State} {slot : Nat} {hash : List Byte} {gap : Bool} {d : Nat}
    (h : s.sec.running = some (.record slot hash gap)) (hk : s.keyReg 1 = some d) (head : Nat) :
    execSigningCallDone head s
      = .next ((((s.signatureBack head).placeSignature slot hash (sigBytes (ecdsaSign d (beNat hash)))).drainAll).nextCall true) := by
  unfold execSigningCallDone
  rw [h]
  have heng : s.engine (.record slot hash gap) = (Eng.ok, sigBytes (ecdsaSign d (beNat hash))) := by
    simp only [State.engine, hk]
  dsimp only
  rw [heng]
  rfl

/-! The hash engine. -/

/-- Placing messages changes the slots and the requests that wait for one, and nothing else. -/
def Placed (s t : State) : Prop := ∃ slots waits, t = s.setSec (fun k => { k with slots := slots, slotWaits := waits })

theorem Placed.refl (s : State) : Placed s s := ⟨_, _, rfl⟩
theorem Placed.trans {s t u : State} (h : Placed s t) (k : Placed t u) : Placed s u := by
  obtain ⟨_, _, rfl⟩ := h
  obtain ⟨_, _, rfl⟩ := k
  exact ⟨_, _, rfl⟩

theorem placed_placeHash (s : State) (x : HashSlot) : Placed s (s.placeHash x) := by
  unfold State.placeHash
  split
  · exact ⟨_, _, rfl⟩
  · exact ⟨_, _, rfl⟩

theorem placed_placeWaits (s : State) : Placed s s.placeWaits := by
  unfold State.placeWaits
  suffices h : ∀ (l : List HashSlot) (u : State), Placed u (l.foldl (fun s x => s.placeHash x) u) from
    Placed.trans ⟨_, _, rfl⟩ (h _ _)
  intro l
  induction l with
  | nil => exact Placed.refl
  | cons x l ih => exact fun u => (placed_placeHash u x).trans (ih _)

theorem Placed.frame {s t : State} (h : Placed s t) :
    t.mem = s.mem ∧ t.host = s.host ∧ t.tally = s.tally ∧ t.sec.digest = s.sec.digest ∧ t.sec.suspended = s.sec.suspended := by
  obtain ⟨_, _, rfl⟩ := h
  exact ⟨rfl, rfl, rfl, rfl, rfl⟩

/-- With no request waiting, a freed slot stays free (R581). -/
theorem State.placeWaits_of_none {s : State} (h : s.sec.slotWaits = []) :
    s.placeWaits = s.setSec (fun k => { k with slotWaits := [] }) := by
  unfold State.placeWaits
  rw [h]
  rfl

/-- A segment whose slot's message has ended frees the slot and gives its digest (R582). -/
theorem State.endSegment_last {s : State} {x : HashSlot} (h : s.sec.slots.at? s.sec.serving = some x) (hl : x.last = true)
    (hw : x.waiting.length ≤ 4096) :
    s.endSegment = (s.setSec (fun k => { k with slots := k.slots.erase k.serving, digest := sha384 (x.served ++ x.waiting) })).placeWaits := by
  have htake : x.waiting.take 4096 = x.waiting := List.take_of_length_le hw
  have hdrop : x.waiting.drop 4096 = [] := List.drop_eq_nil_of_le hw
  unfold State.endSegment
  rw [h]
  dsimp only
  rw [htake, hdrop, if_pos (by simp [hl])]

/-- A slot after one segment of its data (R582). -/
def HashSlot.afterSegment (x : HashSlot) : HashSlot :=
  { x with served := x.served ++ x.waiting.take 4096, waiting := x.waiting.drop 4096 }

/-- A segment that leaves data waiting (R582). -/
theorem State.endSegment_more {s : State} {x : HashSlot} (h : s.sec.slots.at? s.sec.serving = some x)
    (hw : 4096 < x.waiting.length) :
    s.endSegment = s.setSec (fun k => { k with slots := k.slots.set k.serving x.afterSegment }) := by
  unfold State.endSegment
  rw [h]
  exact if_neg (by simp [hw])

theorem State.endSegment_frame (s : State) : s.endSegment.mem = s.mem ∧ s.endSegment.host = s.host ∧ s.endSegment.tally = s.tally := by
  unfold State.endSegment
  split
  · exact ⟨rfl, rfl, rfl⟩
  · dsimp only
    split
    · obtain ⟨h1, h2, h3, -⟩ := (placed_placeWaits (s.setSec (fun k => { k with slots := k.slots.erase k.serving, digest := sha384 _ }))).frame
      exact ⟨h1, h2, h3⟩
    · exact ⟨rfl, rfl, rfl⟩

/-- The choice of the slot served next changes that choice and nothing else (R582). -/
theorem State.nextSlot_eq (s : State) : ∃ i j, s.nextSlot = s.setSec (fun k => { k with serving := i, turn := j }) := by
  unfold State.nextSlot
  dsimp only
  split
  · exact ⟨0, s.sec.turn, rfl⟩
  · split
    · exact ⟨_, _, rfl⟩
    · exact ⟨8, s.sec.turn, rfl⟩

/-- Slot 0 comes first (R582). -/
theorem State.nextSlot_zero {s : State} (h : (s.sec.slots.at? 0).any (fun y => !y.waiting.isEmpty || y.last) = true) :
    s.nextSlot.sec.serving = 0 := by
  unfold State.nextSlot
  dsimp only
  rw [if_pos h]
  rfl

theorem State.nextSlot_frame (s : State) : s.nextSlot.mem = s.mem ∧ s.nextSlot.host = s.host ∧ s.nextSlot.tally = s.tally
    ∧ s.nextSlot.sec.digest = s.sec.digest ∧ s.nextSlot.sec.slots = s.sec.slots := by
  obtain ⟨i, j, h⟩ := s.nextSlot_eq
  rw [h]
  exact ⟨rfl, rfl, rfl, rfl, rfl⟩

theorem State.setSec_sec (s : State) (g : SecPart → SecPart) : (s.setSec g).sec = g s.sec := rfl

theorem State.feed_nothing (s : State) (caller : Nat) : s.feed caller [] false = s := rfl

/-- Settles O52: calls by what runs and what waits, segments by whether the message has ended. -/
theorem enginesOfTheSecurityBlockTakeEffect : Obligations.EnginesOfTheSecurityBlockTakeEffect := by
  refine ⟨fun s c i hi => ?_, fun s head c hr hc => ?_, fun s head slot hash gap d hr hk hm hb hf hl => ?_, fun s caller x hx => ?_,
    fun s caller i x hi hx hc hs hw => ?_, fun s caller i x hx hi => ?_⟩
  · have hexec : exec i s = .next (s.callEngine c) := by
      rcases hi with ⟨reg, rfl, rfl⟩ | ⟨reg, e, rfl, rfl⟩ | ⟨x, y, e, r, t, rfl, rfl⟩ | ⟨reg, x, y, rfl, rfl⟩
      · rfl
      · rfl
      · rfl
      · rfl
    exact ⟨fun h => hexec.trans (congrArg _ (State.callEngine_idle h c)), fun h => hexec.trans (congrArg _ (State.callEngine_busy h c))⟩
  · obtain ⟨h1, h2, -, h4, h5⟩ := (s.callReturned (s.engine c)).nextCall_frame false
    refine ⟨_, execSigningCallDone_other hr hc head, h4, h5, h1, h2, fun hq => ?_, fun g hq hg => ?_⟩
    · rw [State.nextCall_other (s := s.callReturned (s.engine c)) hq rfl]
      exact ⟨rfl, rfl⟩
    · rw [State.nextCall_tally (s := s.callReturned (s.engine c)) hq hg]
      exact ⟨rfl, rfl, rfl⟩
  · have hexec := execSigningCallDone_record hr hk head
    have hplaced := State.placeSignature_live (s := s.signatureBack head) hm hl hash (sigBytes (ecdsaSign d (beNat hash)))
    rw [hplaced, State.drainAll_of_empty (s := (s.signatureBack head).signaturePlaced slot hash (sigBytes (ecdsaSign d (beNat hash)))) hb hf]
      at hexec
    obtain ⟨h1, h2, h3, -⟩ := State.nextCall_frame (((s.signatureBack head).signaturePlaced slot hash (sigBytes (ecdsaSign d (beNat hash)))).setTally
      (fun t => { t with backlog := [], formed := [] })) true
    obtain ⟨k1, k2, k3, k4, k5⟩ := State.drained_facts ((s.signatureBack head).signaturePlaced slot hash (sigBytes (ecdsaSign d (beNat hash))))
    refine ⟨_, hexec, ?_, ?_, ?_, ?_, ?_⟩
    · rw [h3, k5]
      rfl
    · rw [h2, k1]
      exact Option.any_filter_ne ..
    · rw [h2, k2]
      exact Option.any_filter_ne ..
    · rw [h2, k3]
      rfl
    · rw [h1, k4]
      rfl
  · have hexec : execHashSegmentDone caller [] false s = .next s.endSegment.nextSlot := rfl
    obtain ⟨h1, h2, h3, h4, h5⟩ := s.endSegment.nextSlot_frame
    obtain ⟨k1, k2, k3⟩ := s.endSegment_frame
    refine ⟨_, hexec, h1.trans k1, h2.trans k2, h3.trans k3, fun hl hw => ?_, fun hw => ?_, fun h => ?_⟩
    · rw [h4, State.endSegment_last hx hl hw]
      exact (placed_placeWaits _).frame.2.2.2.1
    · rw [h4, h5, State.endSegment_more hx hw]
      exact ⟨rfl, Tab.at?_set_self ..⟩
    · rw [h5] at h
      exact State.nextSlot_zero h
  · have hexec : execHashSuspend caller s = .next ((s.setSec (fun k => { k with
        slots := k.slots.erase i, suspended := k.suspended.set caller x })).placeWaits) := by
      unfold execHashSuspend
      rw [hi]
      dsimp only
      rw [if_neg (by simp [hc, hs]), hx]
    rw [State.placeWaits_of_none (s := s.setSec (fun k => { k with slots := k.slots.erase i, suspended := k.suspended.set caller x })) hw]
      at hexec
    exact ⟨_, hexec, Tab.at?_erase_self .., Tab.at?_set_self .., fun j hj => Tab.at?_erase_ne _ hj, rfl⟩
  · have hplace : (s.setSec (fun k => { k with suspended := k.suspended.erase caller })).placeHash x
        = (s.setSec (fun k => { k with suspended := k.suspended.erase caller })).setSec (fun k => { k with slots := k.slots.set i x }) := by
      unfold State.placeHash
      rw [State.setSec_sec]
      dsimp only
      rw [hi]
    have hexec : execHashResume caller s
        = .next ((s.setSec (fun k => { k with suspended := k.suspended.erase caller })).setSec (fun k => { k with slots := k.slots.set i x })) := by
      unfold execHashResume
      rw [hx]
      exact congrArg _ hplace
    exact ⟨_, hexec, Tab.at?_set_self .., Tab.at?_erase_self .., fun j hj => Tab.at?_set_ne _ _ hj, rfl⟩

end Sys2Proof.Machine
end

section
/-! Life-cycle requests and SPDM (R567 to R574, R586 to R589). -/

namespace Sys2Proof.Machine

theorem exec_lcNonce (tr : Nat) (s : State) : exec (.lcNonce tr) s = execLcNonce tr s := rfl
theorem exec_lcRequest (tr dest : Nat) (nonce : List Byte) (x y r q : Nat) (ok : Bool) (s : State) :
    exec (.lcRequest tr dest nonce x y r q ok) s = execLcRequest tr dest nonce x y r q ok s := rfl
theorem exec_lcNonceExpiry (s : State) : exec .lcNonceExpiry s = execLcNonceExpiry s := rfl
theorem exec_lcTransitionReset (s : State) : exec .lcTransitionReset s = execLcTransitionReset s := rfl
theorem exec_lcPubkeys (tr : Nat) (s : State) : exec (.lcPubkeys tr) s = execLcPubkeys tr s := rfl
theorem exec_keyExchange (tr id x y : Nat) (transcript : List Byte) (s : State) :
    exec (.keyExchange tr id x y transcript) s = execKeyExchange tr id x y transcript s := rfl

/-- A request of no privilege that reaches the Millwright is answered (R624, R626). -/
theorem State.request_plain {s : State} {tr : Nat} (hup : s.boot.mwUp = true) (hpwr : s.pwr.pwrOk = true)
    (hawake : s.clk.asleep = false) (htr : tr < 3) (message : Nat) (body : State → State) :
    s.request tr message false body = .next (body s) := by
  unfold State.request
  rw [if_neg (by simp [hup, hpwr, hawake, htr]), if_neg (by simp)]

theorem leBytes_length (n w : Nat) : (leBytes n w).length = n := by
  induction n generalizing w with
  | zero => rfl
  | succ n ih => rw [leBytes, List.length_cons, ih]

theorem pointBytes_length (q : Nat × Nat) : (pointBytes q).length = 96 := by
  rw [pointBytes, List.length_append, beBytes, beBytes, List.length_reverse, List.length_reverse, leBytes_length, leBytes_length]

/-- What an answer changes: the responses sent and the security block, nothing else. -/
theorem State.answer_frame (s : State) (g : SecPart → SecPart) (message : Nat) (code : Resp) (data : List Byte) :
    ((s.setSec g).reply message code data).boot.replies = s.boot.replies ++ [{ message := message, code := code, data := data }]
      ∧ ((s.setSec g).reply message code data).mem = s.mem
      ∧ ((s.setSec g).reply message code data).work.ops = s.work.ops
      ∧ ((s.setSec g).reply message code data).host = s.host := ⟨rfl, rfl, rfl, rfl⟩

theorem State.answer_sec (s : State) (g : SecPart → SecPart) (message : Nat) (code : Resp) (data : List Byte) :
    ((s.setSec g).reply message code data).sec = g s.sec := rfl

/-- The state once the entropy source has given a value (R568). -/
def State.drawn (s : State) : State := { s with work := { s.work with free := s.work.free + 1 } }

theorem State.drawn_frame (s : State) : s.drawn.boot = s.boot ∧ s.drawn.mem = s.mem ∧ s.drawn.work.ops = s.work.ops
    ∧ s.drawn.host = s.host ∧ s.drawn.sec = s.sec := ⟨rfl, rfl, rfl, rfl, rfl⟩

/-! Life-cycle transitions. -/

theorem Metered.sec {s t : State} (h : Metered s t) : t.sec = s.sec := by
  obtain ⟨_, _, rfl⟩ := h
  rfl

theorem metered_placeSignature (s : State) (slot : Nat) (hash sig : List Byte) : Metered s (s.placeSignature slot hash sig) := by
  unfold State.placeSignature
  dsimp only
  exact (Metered.ite (told_writeHost ..).metered (.refl _)).trans (metered_setTally ..)

theorem metered_signLatest (s : State) : Metered s s.signLatest := by
  unfold State.signLatest
  split
  · exact .refl s
  · exact .ite (metered_placeSignature ..) (.refl _)

theorem State.writeCheckpoint_sec (s : State) (k : Nat) : (s.writeCheckpoint k).sec = s.sec := by
  unfold State.writeCheckpoint
  dsimp only
  split
  · rfl
  · rfl

/-- What closes before a transition keeps the security block and memory (R571). -/
theorem State.sealed_frame (s : State) (k : Nat) : ((s.closeAll.signLatest).writeCheckpoint k).sec = s.sec
    ∧ ((s.closeAll.signLatest).writeCheckpoint k).mem = s.mem := by
  have h : Metered s s.closeAll.signLatest := (metered_closeAll s).trans (metered_signLatest _)
  rw [State.writeCheckpoint_sec, (clockStands_writeCheckpoint ..).mem]
  exact ⟨h.sec, h.mem⟩

/-- An accepted transition: the keys and sessions are gone, the target is kept, and the response tells how the fuses were
blown (R571). -/
theorem State.transition_facts (s : State) (dest : Nat) (ok : Bool) :
    (s.transition dest ok).sec.nonce = s.sec.nonce ∧ (s.transition dest ok).sec.lcTarget = some dest
      ∧ (s.transition dest ok).sec.hasKey = false ∧ (s.transition dest ok).sec.sessions = [] ∧ (s.transition dest ok).mem = s.mem
      ∧ ((s.transition dest ok).boot.replies.getLast?).map (·.code) = some (if ok then .lcOk else .lcFuseFail) := by
  obtain ⟨h1, h2⟩ := s.sealed_frame dest
  unfold State.transition
  dsimp only
  generalize (s.closeAll.signLatest).writeCheckpoint dest = u at h1 h2 ⊢
  generalize (if ok then 2 ^ (2 * dest) - 1 else 2 ^ (2 * dest) - 1 - 2 ^ (2 * dest - 1)) = fuses
  refine ⟨?_, rfl, rfl, rfl, ?_, ?_⟩
  · rw [State.answer_sec]
    exact (congrArg SecPart.nonce h1 : u.sec.nonce = s.sec.nonce)
  · exact h2
  · rw [State.reply_replies, List.getLast?_concat]
    rfl

/-- What a life-cycle request does once the Millwright takes it, up to the token's own checks (R568, R569). -/
theorem execLcRequest_refused {s : State} {tr dest : Nat} (hup : s.boot.mwUp = true) (hpwr : s.pwr.pwrOk = true)
    (hawake : s.clk.asleep = false) (htr : tr < 3) (h : s.sec.lcTarget.isSome = true ∨ lcAllowed s.lcState dest = false)
    (nonce : List Byte) (x y r q : Nat) (ok : Bool) :
    execLcRequest tr dest nonce x y r q ok s = .next ((s.setSec (fun k => { k with nonce := none })).reply 0x11 .lcNotAllowed []) := by
  unfold execLcRequest
  rw [State.request_plain hup hpwr hawake htr]
  refine congrArg Host.Outcome.next (if_pos ?_)
  rcases h with h | h
  · rw [h, Bool.true_or]
  · rw [h, Bool.not_false, Bool.or_true]

theorem execLcRequest_busy {s : State} {tr dest : Nat} (hup : s.boot.mwUp = true) (hpwr : s.pwr.pwrOk = true)
    (hawake : s.clk.asleep = false) (htr : tr < 3) (ht : s.sec.lcTarget = none) (ha : lcAllowed s.lcState dest = true)
    (hp : s.mem.ponds ≠ []) (nonce : List Byte) (x y r q : Nat) (ok : Bool) :
    execLcRequest tr dest nonce x y r q ok s = .next ((s.setSec (fun k => { k with nonce := none })).reply 0x11 .lcBusy []) := by
  unfold execLcRequest
  rw [State.request_plain hup hpwr hawake htr]
  exact congrArg Host.Outcome.next ((if_neg (by simp [ht, ha])).trans (if_pos (by simp [hp])))

/-- Whether a token is Dalvo's for this transition (R568). -/
def tokenGood (state dest : Nat) (nonce : List Byte) (x y r q : Nat) : Prop :=
  sha384 (pointBytes (x, y)) = Config.lcKeyDigest
    ∧ ecdsaVerify x y (beNat (sha384 (lcMessage nonce state dest))) r q = Eng.ok

theorem execLcRequest_token {s : State} {tr dest : Nat} {n : LcNonce} (hup : s.boot.mwUp = true) (hpwr : s.pwr.pwrOk = true)
    (hawake : s.clk.asleep = false) (htr : tr < 3) (ht : s.sec.lcTarget = none) (ha : lcAllowed s.lcState dest = true)
    (hp : s.mem.ponds = []) (hn : s.sec.nonce = some n) (hc : n.confirmTo = none) {r : Nat} (hr : r ≠ 0 ∨ dest ≠ 4)
    (x y q : Nat) (ok : Bool) :
    (tokenGood s.lcState dest n.bytes x y r q → execLcRequest tr dest n.bytes x y r q ok s
      = .next ((s.setSec (fun k => { k with nonce := none })).transition dest ok))
    ∧ (¬ tokenGood s.lcState dest n.bytes x y r q → execLcRequest tr dest n.bytes x y r q ok s
      = .next ((s.setSec (fun k => { k with nonce := none })).reply 0x11 .lcBadToken [])) := by
  have hexec : execLcRequest tr dest n.bytes x y r q ok s = .next
      (if sha384 (pointBytes (x, y)) = Config.lcKeyDigest
          && ecdsaVerify x y (beNat (sha384 (lcMessage n.bytes s.lcState dest))) r q = Eng.ok then
        (s.setSec (fun k => { k with nonce := none })).transition dest ok
      else (s.setSec (fun k => { k with nonce := none })).reply 0x11 .lcBadToken []) := by
    unfold execLcRequest
    rw [State.request_plain hup hpwr hawake htr]
    refine congrArg Host.Outcome.next ?_
    dsimp only
    rw [if_neg (by simp [ht, ha]), if_neg (by simp [hp]), hn]
    dsimp only
    rw [if_neg (by simp), if_neg (by rcases hr with hr | hr <;> simp [hr]), if_neg (by simp [hc])]
  refine ⟨fun h => ?_, fun h => ?_⟩
  · rw [hexec, if_pos (by simpa [tokenGood] using h)]
  · rw [hexec, if_neg (by simpa [tokenGood] using h)]

/-- The reset that ends a transition (R571). -/
theorem State.resetAndBoot_lc {s : State} (hf : s.ras.fatal = false) :
    (s.resetAndBoot Cause.lc).boot.cause = 256 ∧ (s.resetAndBoot Cause.lc).boot.stage = 1
      ∧ (s.resetAndBoot Cause.lc).sec.lcTarget = none ∧ (s.resetAndBoot Cause.lc).sec.lcChanged = true
      ∧ (s.resetAndBoot Cause.lc).work.ops = [] := by
  have hcause : (s.resetAndBoot Cause.lc).boot.cause
      = Cause.lc + (if s.ras.fatal then 1024 + s.ras.fatalCode % 16 * 2048 else 0) := rfl
  have hchanged : (s.resetAndBoot Cause.lc).sec.lcChanged = (bitOf Cause.lc 8 || s.sec.lcTarget.isSome) := rfl
  refine ⟨?_, rfl, rfl, ?_, rfl⟩
  · rw [hcause, if_neg (by simp [hf])]
    rfl
  · rw [hchanged, show bitOf Cause.lc 8 = true by decide, Bool.true_or]

/-! SPDM. -/

theorem State.keyed_of_key {s : State} (h : s.sec.hasKey = true) (msg : Nat) (body : State → State) : s.keyed msg body = body s :=
  if_pos h

theorem State.keyed_keyless {s : State} (h : s.sec.hasKey = false) (msg : Nat) (body : State → State) :
    s.keyed msg body = s.reply msg .spdmError [BitVec.ofNat 8 s.sec.keyless] := if_neg (by simp [h])

theorem State.inSession_of_established {s : State} {id : Nat} {c : Session} (h : s.sec.sessions.at? id = some c)
    (he : c.established = true) (msg : Nat) (body : State → State) : s.inSession id msg body = (body s).reply msg .spdm [] := by
  unfold State.inSession
  exact if_pos (by simp [h, he])

/-- The scalar of a key exchange lies below the order of the curve (R586). -/
theorem scalar_range (k : Nat) : 1 ≤ k % (ecN - 1) + 1 ∧ k % (ecN - 1) + 1 < ecN := by
  have hpos : 0 < ecN - 1 := by decide
  have hlt := Nat.mod_lt k hpos
  exact ⟨Nat.le_add_left .., by omega⟩

/-- The session a key exchange opens, with its scalar (R586). -/
def SecPart.opened (k : SecPart) (id d x y : Nat) : SecPart :=
  { k with
    scalars := k.scalars.set (2 + id) d
    sessions := k.sessions.set id
      { secret := ((ecMul 384 d (some (x, y))).getD (0, 0)).1
        established := false
        updates := 0 } }

theorem execKeyExchange_eq {s : State} {tr x y : Nat} (hup : s.boot.mwUp = true) (hpwr : s.pwr.pwrOk = true)
    (hawake : s.clk.asleep = false) (htr : tr < 3) (hk : s.sec.hasKey = true) (hp : pointOk x y = true) (id : Nat)
    (transcript : List Byte) : ∃ data, execKeyExchange tr id x y transcript s = .next ((s.drawn.setSec
      (fun c => c.opened id (Config.freeNat s.work.free % (ecN - 1) + 1) x y)).reply Spdm.keyExchange .spdm data) := by
  unfold execKeyExchange
  rw [State.request_plain hup hpwr hawake htr, State.keyed_of_key hk, if_neg (by simp [hp])]
  exact ⟨_, rfl⟩

theorem SecPart.opened_at (k : SecPart) (id d x y : Nat) : (k.opened id d x y).scalars.at? (2 + id) = some d
    ∧ (k.opened id d x y).sessions.at? id
      = some { secret := ((ecMul 384 d (some (x, y))).getD (0, 0)).1, established := false, updates := 0 } :=
  ⟨Tab.at?_set_self .., Tab.at?_set_self ..⟩

/-- The nonce the entropy source gives (R568). -/
def freshNonce (s : State) : LcNonce where
  bytes := leBytes 32 (Config.freeNat s.work.free)
  confirmTo := none

/-- Settles O53: each request by the checks it passes or fails. -/
theorem lifeCycleAndSpdmTakeEffect : Obligations.LifeCycleAndSpdmTakeEffect := by
  intro s tr hup hpwr hawake htr
  have hplain := @State.request_plain s tr hup hpwr hawake htr
  refine ⟨?_, fun dest nonce x y r q ok => ⟨fun h => ?_, fun ht ha hp => ?_, fun n ht ha hp hn hb hc hr => ?_⟩, fun h => if_pos h,
    fun ht hpe hf => ?_, fun hl hk => ?_, ?_, fun v hv => ?_, ?_, fun hs => ⟨?_, fun off len => ?_⟩, fun transcript hk => ?_,
    fun transcript hk => ?_, fun index transcript hi => ?_, fun id x y transcript hk hp => ?_, fun id c hs => ⟨?_, fun he => ⟨?_, ?_, ?_⟩⟩⟩
  · have hexec : execLcNonce tr s = .next ((s.drawn.setSec (fun k => { k with nonce := some (freshNonce s) })).reply 0x10 .ok (freshNonce s).bytes) := by
      unfold execLcNonce
      rw [hplain]
      rfl
    exact ⟨_, freshNonce s, hexec, rfl, rfl, leBytes_length .., State.answer_frame ..⟩
  · exact ⟨_, execLcRequest_refused hup hpwr hawake htr h nonce x y r q ok, State.answer_frame .., rfl, rfl⟩
  · exact ⟨_, execLcRequest_busy hup hpwr hawake htr ht ha hp nonce x y r q ok, State.answer_frame .., rfl⟩
  · subst hb
    obtain ⟨hgood, hbad⟩ := execLcRequest_token hup hpwr hawake htr ht ha hp hn hc hr x y q ok
    by_cases h : tokenGood s.lcState dest n.bytes x y r q
    · obtain ⟨h1, h2, h3, h4, h5, h6⟩ := (s.setSec (fun k => { k with nonce := none })).transition_facts dest ok
      exact ⟨_, hgood h, h1, fun _ => ⟨h2, h3, h4, h5, h6⟩, fun k => absurd h k⟩
    · exact ⟨_, hbad h, rfl, fun k => absurd k h, fun _ => ⟨State.answer_frame .., rfl⟩⟩
  · have hexec : execLcTransitionReset s = .next (s.resetAndBoot Cause.lc) :=
      if_pos (by simp [ht, State.resettable, hpwr, hpe])
    exact ⟨_, hexec, State.resetAndBoot_lc hf⟩
  · have hexec : ∃ sig, execLcPubkeys tr s = .next (s.reply 0x12 .ok (pointBytes (pubOf (dakOf 2)) ++ pointBytes (pubOf (ledgerOf 2)) ++ sig)) := by
      unfold execLcPubkeys
      rw [hplain, if_neg (by simp [hl, hk])]
      exact ⟨_, rfl⟩
    obtain ⟨sig, hexec⟩ := hexec
    refine ⟨_, _, hexec, ⟨rfl, rfl, rfl, rfl⟩, rfl, rfl, ?_⟩
    dsimp only
    rw [List.take_append_of_le_length]
    rw [List.length_append, pointBytes_length, pointBytes_length]
  · have hexec : execGetVersion tr s
        = .next ((s.setSec (fun k => { k with spdmVersion := 0, spdmAlgos := false })).reply Spdm.getVersion .spdm [0x12, 0x13]) := by
      unfold execGetVersion
      rw [hplain]
    exact ⟨_, hexec, State.answer_frame .., rfl⟩
  · have hexec : execGetCapabilities tr v s = .next ((s.setSec (fun k => { k with spdmVersion := v })).reply Spdm.getCapabilities .spdm []) := by
      unfold execGetCapabilities
      rw [hplain, if_neg (by simpa using fun h => hv.resolve_left h)]
    exact ⟨_, hexec, State.answer_frame .., rfl⟩
  · have hexec : execNegotiateAlgorithms tr true s
        = .next ((s.setSec (fun k => { k with spdmAlgos := true })).reply Spdm.negotiate .spdm []) := by
      unfold execNegotiateAlgorithms
      rw [hplain, if_pos rfl]
    exact ⟨_, hexec, State.answer_frame .., rfl⟩
  · show execGetDigests tr s = _
    unfold execGetDigests
    rw [hplain, if_pos hs]
    rfl
  · show execGetCertificate tr off len s = _
    unfold execGetCertificate
    rw [hplain, if_pos hs]
    rfl
  · show execChallenge tr transcript s = _
    unfold execChallenge
    rw [hplain, State.keyed_of_key hk]
    rfl
  · show execChallenge tr transcript s = _
    unfold execChallenge
    rw [hplain, State.keyed_keyless hk]
    rfl
  · show execGetMeasurements tr index false transcript s = _
    unfold execGetMeasurements
    rw [hplain]
    dsimp only
    rw [if_neg hi]
    rfl
  · obtain ⟨data, hexec⟩ := execKeyExchange_eq hup hpwr hawake htr hk hp id transcript
    obtain ⟨h1, h2⟩ := scalar_range (Config.freeNat s.work.free)
    obtain ⟨k1, k2⟩ := s.sec.opened_at id (Config.freeNat s.work.free % (ecN - 1) + 1) x y
    exact ⟨_, _, _, _, hexec, State.answer_frame .., rfl, rfl, h1, h2, k1, k2, rfl, rfl⟩
  · have hexec : execFinish tr id true s = .next ((s.setSec
        (fun k => { k with sessions := k.sessions.modify id (fun x => { x with established := true }) })).reply Spdm.finish .spdm []) := by
      unfold execFinish
      rw [hplain, if_pos (by simp [hs])]
    refine ⟨_, hexec, State.answer_frame .., ?_⟩
    rw [State.answer_sec, Tab.at?_modify_self, hs]
    rfl
  · show execHeartbeat tr id s = _
    unfold execHeartbeat
    rw [hplain, State.inSession_of_established hs he]
    rfl
  · have hexec : execKeyUpdate tr id s = .next ((s.setSec
        (fun k => { k with sessions := k.sessions.modify id (fun x => { x with updates := x.updates + 1 }) })).reply Spdm.keyUpdate .spdm []) := by
      unfold execKeyUpdate
      rw [hplain, State.inSession_of_established hs he]
    refine ⟨_, hexec, State.answer_frame .., ?_⟩
    rw [State.answer_sec, Tab.at?_modify_self, hs]
    rfl
  · have hexec : execEndSession tr id s = .next ((s.setSec
        (fun k => { k with sessions := k.sessions.erase id, scalars := k.scalars.erase (2 + id) })).reply Spdm.endSession .spdm []) := by
      unfold execEndSession
      rw [hplain, State.inSession_of_established hs he]
    exact ⟨_, hexec, State.answer_frame .., Tab.at?_erase_self .., Tab.at?_erase_self ..⟩

end Sys2Proof.Machine
end

section
/-! Management messages, firmware updates and the Millwright's resets (R621, R624 to R633). -/

namespace Sys2Proof.Machine

theorem exec_bootLog (tr : Nat) (s : State) : exec (.bootLog tr) s = execBootLog tr s := rfl
theorem exec_fenceList (tr : Nat) (s : State) : exec (.fenceList tr) s = execFenceList tr s := rfl
theorem exec_pldmFwTransfer (tr : Nat) (comps : List Nat) (data : List Byte) (s : State) :
    exec (.pldmFwTransfer tr comps data) s = execPldmFwTransfer tr comps data s := rfl
theorem exec_activateFirmware (tr : Nat) (comps : List Nat) (s : State) :
    exec (.activateFirmware tr comps) s = execActivateFirmware tr comps s := rfl
theorem exec_millwrightWatchdog (s : State) : exec .millwrightWatchdog s = execMillwrightWatchdog s := rfl
theorem exec_mwRestartDone (s : State) : exec .mwRestartDone s = execMwRestartDone s := rfl

/-- A privileged request over a transport without the privilege (R627). -/
theorem State.request_denied {s : State} {tr : Nat} (hup : s.boot.mwUp = true) (hpwr : s.pwr.pwrOk = true)
    (hawake : s.clk.asleep = false) (htr : tr < 3) (h0 : tr ≠ 0) (hb : s.boot.bmcPriv = false) (message : Nat)
    (body : State → State) : s.request tr message true body = .next (s.reply message .notPrivileged []) := by
  unfold State.request
  rw [if_neg (by simp [hup, hpwr, hawake, htr]), if_pos (by simp [h0, hb])]

/-- A privileged request over a transport that has the privilege (R627). -/
theorem State.request_privileged {s : State} {tr : Nat} (hup : s.boot.mwUp = true) (hpwr : s.pwr.pwrOk = true)
    (hawake : s.clk.asleep = false) (htr : tr < 3) (h : tr = 0 ∨ s.boot.bmcPriv = true) (message : Nat)
    (body : State → State) : s.request tr message true body = .next (body s) := by
  unfold State.request
  rw [if_neg (by simp [hup, hpwr, hawake, htr]), if_neg]
  simpa using fun h0 => h.resolve_left h0

theorem State.post_boot (s : State) (f code payload : Nat) : (s.post f code payload).boot = s.boot := (apart_post ..).boot
theorem State.post_mem (s : State) (f code payload : Nat) : (s.post f code payload).mem = s.mem := (apart_post ..).mem
theorem State.post_sec (s : State) (f code payload : Nat) : (s.post f code payload).sec = s.sec := (apart_post ..).sec
theorem State.post_work (s : State) (f code payload : Nat) : (s.post f code payload).work = s.work := (metered_post ..).work

/-- What a response adds, after a step that keeps the responses sent, memory and the work. -/
theorem State.answered {s u : State} (hb : u.boot.replies = s.boot.replies) (hm : u.mem = s.mem) (hw : u.work = s.work)
    (message : Nat) (code : Resp) (data : List Byte) :
    (u.reply message code data).boot.replies = s.boot.replies ++ [{ message := message, code := code, data := data }]
      ∧ (u.reply message code data).mem = s.mem ∧ (u.reply message code data).work = s.work := by
  refine ⟨?_, hm, hw⟩
  rw [State.reply_replies, hb]

/-! Firmware. -/

/-- What writing a slot leaves: that slot holds the image of the bytes, if they form one, and no other slot changes (R630). -/
theorem State.writeSlot_facts (s : State) (slot : Nat) (data : List Byte) :
    (s.writeSlot slot data).1.boot.slots.at? slot = parseImage data
      ∧ (∀ k, k ≠ slot → (s.writeSlot slot data).1.boot.slots.at? k = s.boot.slots.at? k)
      ∧ (s.writeSlot slot data).2 = (parseImage data).any (s.accepts (slotKind slot))
      ∧ (s.writeSlot slot data).1.boot.replies = s.boot.replies ∧ (s.writeSlot slot data).1.mem = s.mem
      ∧ (s.writeSlot slot data).1.work = s.work ∧ (s.writeSlot slot data).1.ras = s.ras := by
  unfold State.writeSlot
  cases parseImage data with
  | none => exact ⟨Tab.at?_erase_self .., fun k hk => Tab.at?_erase_ne _ hk, rfl, rfl, rfl, rfl, rfl⟩
  | some i => exact ⟨Tab.at?_set_self .., fun k hk => Tab.at?_set_ne _ _ hk, rfl, rfl, rfl, rfl, rfl⟩

theorem State.resetAndBoot_slots (s : State) (c : Nat) : (s.resetAndBoot c).boot.slots = s.boot.slots := rfl

/-- A recovery image accepted resets the device (R621). -/
theorem State.resetAndBoot_recovery {s : State} (hf : s.ras.fatal = false) :
    (s.resetAndBoot Cause.recovery).boot.cause = 0x8000 ∧ (s.resetAndBoot Cause.recovery).boot.stage = 1 := by
  have hcause : (s.resetAndBoot Cause.recovery).boot.cause
      = Cause.recovery + (if s.ras.fatal then 1024 + s.ras.fatalCode % 16 * 2048 else 0) := rfl
  refine ⟨?_, rfl⟩
  rw [hcause, if_neg (by simp [hf])]
  rfl

theorem State.slotImage_at {s : State} {slot : Nat} {i : Image} (h : s.slotImage slot = some i) : s.boot.slots.at? slot = some i :=
  (Option.filter_eq_some_iff.1 h).1

/-- The activation of a Newt image at a die that is fenced (R631). -/
theorem State.tryActivate_fenced {s : State} {c slot : Nat} {i : Image} (hi : s.boot.slots.at? slot = some i) (hc : c < 6)
    (hf : s.fenced 10 (c - 2) = true) : s.tryActivate c slot = (s.loadNewt (c - 2) (slot % 2) i, true) := by
  unfold State.tryActivate
  rw [hi]
  dsimp only
  rw [if_pos hc, if_pos hf]

theorem State.tryActivate_waits {s : State} {c slot : Nat} {i : Image} (hi : s.boot.slots.at? slot = some i) (hc : c < 6)
    (hf : s.fenced 10 (c - 2) = false) : s.tryActivate c slot = (s, false) := by
  unfold State.tryActivate
  rw [hi]
  dsimp only
  rw [if_pos hc, if_neg (by simp [hf])]

/-- A loaded Newt image runs on its die; responses, activations, memory and the work stand (R631). -/
theorem State.loadNewt_facts (s : State) (d slot : Nat) (i : Image) :
    (s.loadNewt d slot i).boot.newtRuns.at? d = some i ∧ (s.loadNewt d slot i).boot.activating = s.boot.activating
      ∧ (s.loadNewt d slot i).boot.replies = s.boot.replies ∧ (s.loadNewt d slot i).mem = s.mem
      ∧ (s.loadNewt d slot i).work = s.work := by
  unfold State.loadNewt State.fwActivated
  rw [State.post_boot, State.post_mem, State.post_work]
  exact ⟨Tab.at?_set_self .., rfl, rfl, rfl, rfl⟩

/-- The one activation that waits, tried (R631). -/
theorem State.loadPending_one {s : State} {x : Nat × Nat} (h : s.boot.activating = [x]) :
    s.loadPending = (if (s.tryActivate x.1 x.2).2 then (s.tryActivate x.1 x.2).1.setBoot
      (fun b => { b with activating := b.activating.filter (· ≠ x) }) else (s.tryActivate x.1 x.2).1) := by
  unfold State.loadPending
  rw [h]
  rfl

/-- The state whose one waiting activation is that of a component from a slot (R631). -/
def State.activating1 (s : State) (c slot : Nat) : State := s.setBoot (fun b => { b with activating := [(c, slot)] })

/-- Activating a Newt image whose die is fenced loads it at once; otherwise it waits (R631). -/
theorem State.activateFw_newt {s : State} {c : Nat} {i : Image} (h2 : 2 ≤ c) (h5 : c ≤ 5) (ha : s.boot.activating = [])
    (hi : s.slotImage (s.nextSlot? c) = some i) :
    (s.activateFw c).boot.replies = s.boot.replies ∧ (s.activateFw c).mem = s.mem ∧ (s.activateFw c).work = s.work
      ∧ (s.fenced 10 (c - 2) = true → (s.activateFw c).boot.newtRuns.at? (c - 2) = some i ∧ (s.activateFw c).boot.activating = [])
      ∧ (s.fenced 10 (c - 2) = false → (s.activateFw c).boot.newtRuns = s.boot.newtRuns
        ∧ (s.activateFw c).boot.activating = [(c, s.nextSlot? c)]) := by
  have hset : s.activateFw c = (s.activating1 c (s.nextSlot? c)).loadPending := by
    unfold State.activateFw
    rw [if_neg (by omega), if_neg (by simp [ha])]
    simp only [State.activating1, State.setBoot, ha, List.nil_append]
  rw [hset, State.loadPending_one (x := (c, s.nextSlot? c)) rfl]
  have hat := State.slotImage_at hi
  cases hf : s.fenced 10 (c - 2) with
  | true =>
    rw [State.tryActivate_fenced (s := s.activating1 c (s.nextSlot? c)) (i := i) hat (by omega) hf, if_pos rfl]
    obtain ⟨h1, h2, h3, h4, h5⟩ := (s.activating1 c (s.nextSlot? c)).loadNewt_facts (c - 2) (s.nextSlot? c % 2) i
    refine ⟨h3, h4, h5, fun _ => ⟨h1, ?_⟩, fun h => by simp at h⟩
    show List.filter _ (State.boot _).activating = []
    rw [h2]
    simp [State.activating1, State.setBoot]
  | false =>
    rw [State.tryActivate_waits (s := s.activating1 c (s.nextSlot? c)) (i := i) hat (by omega) hf, if_neg (by simp)]
    exact ⟨rfl, rfl, rfl, fun h => by simp at h, fun _ => ⟨rfl, rfl⟩⟩

/-- The Millwright's own activation restarts it into its other slot (R630). -/
theorem State.activateFw_millwright (s : State) : s.activateFw 1 = (s.stopMillwright 2).setBoot
    (fun b => { b with mwActive := 1 - s.boot.mwSlot }) := rfl

theorem State.nextSlot?_one (s : State) : s.nextSlot? 1 = 1 - s.boot.mwSlot := rfl

/-- ACTIVATE_FIRMWARE of one component whose slot holds an accepted image (R630). -/
theorem execActivateFirmware_one {s : State} {tr c : Nat} {i : Image} (hup : s.boot.mwUp = true) (hpwr : s.pwr.pwrOk = true)
    (hawake : s.clk.asleep = false) (htr : tr < 3) (h1 : 1 ≤ c) (h9 : c ≤ 9) (hi : s.slotImage (s.nextSlot? c) = some i) :
    execActivateFirmware tr [c] s = .next ((s.reply Msg.activate .ok []).activateFw c) := by
  unfold execActivateFirmware
  rw [State.request_plain hup hpwr hawake htr]
  refine congrArg Host.Outcome.next ?_
  dsimp only
  rw [if_neg (by simp [h1, h9, hi])]
  by_cases hc : c = 1
  · simp [hc]
  · simp [hc]

/-! The Millwright. -/

theorem State.writeCheckpoint_frame (s : State) (k : Nat) : (s.writeCheckpoint k).mem = s.mem ∧ (s.writeCheckpoint k).work = s.work
    ∧ ∃ c, (s.writeCheckpoint k).boot = { s.boot with checkpoint := c } := by
  unfold State.writeCheckpoint
  dsimp only
  split
  · exact ⟨rfl, rfl, s.boot.checkpoint, rfl⟩
  · exact ⟨rfl, rfl, _, rfl⟩

theorem State.lateCheckpoint_frame (s : State) : s.lateCheckpoint.mem = s.mem ∧ s.lateCheckpoint.work = s.work
    ∧ ∃ c, s.lateCheckpoint.boot = { s.boot with checkpoint := c } := by
  unfold State.lateCheckpoint
  split
  · exact s.writeCheckpoint_frame s.lcState
  · exact ⟨rfl, rfl, s.boot.checkpoint, rfl⟩

/-- The Millwright's restart as it ends: measurement 1 is its image's, memory and the work stand (R624). -/
theorem execMwRestartDone_facts {s : State} {i : Image} (hup : s.boot.mwUp = false) (h5 : 5 ≤ s.boot.stage)
    (hr : s.resettable = true) (hi : s.slotImage s.boot.mwActive = some i) : ∃ t : State, execMwRestartDone s = .next t
      ∧ t.boot.mwUp = true ∧ t.boot.mwSlot = s.boot.mwActive ∧ t.boot.measures.at? 1 = some i.digest ∧ t.mem = s.mem
      ∧ t.work = s.work := by
  obtain ⟨h1, h2, c, h3⟩ := (s.setBoot (fun b => { b with
    mwUp := true
    mwSlot := s.boot.mwActive
    mwFails := 0
    measures := b.measures.set 1 i.digest })).lateCheckpoint_frame
  unfold execMwRestartDone
  rw [if_neg (by simp [hup, hr]; omega), hi]
  refine ⟨_, rfl, ?_⟩
  split
  · rw [State.fwActivated, State.post_boot, State.post_mem, State.post_work, State.post_boot, State.post_mem, State.post_work, h3]
    exact ⟨rfl, rfl, Tab.at?_set_self .., h1, h2⟩
  · rw [State.post_boot, State.post_mem, State.post_work, h3]
    exact ⟨rfl, rfl, Tab.at?_set_self .., h1, h2⟩

/-- The watchdog's expiries of the last ten minutes, with the one of now (R625). -/
def State.expiriesNow (s : State) : List Nat := s.boot.expiries.filter (fun e => s.ns ≤ e + tenMinutes) ++ [s.ns]

/-- Whether the Millwright restarts from its other slot (R625). -/
def State.swapsSlot (s : State) : Bool := 3 ≤ s.expiriesNow.length && (s.slotImage (1 - s.boot.mwSlot)).isSome

theorem execMillwrightWatchdog_restart {s : State} (hup : s.boot.mwUp = true) (hr : s.resettable = true)
    (hs : s.clk.asleep = false) (ht : s.sec.lcTarget = none) :
    execMillwrightWatchdog s = .next ((s.stopMillwright 1).setBoot (fun b => { b with
      mwActive := if s.swapsSlot then 1 - s.boot.mwSlot else b.mwSlot
      fallback := b.fallback || s.swapsSlot
      expiries := if s.swapsSlot then [] else s.expiriesNow })) := by
  unfold execMillwrightWatchdog
  rw [if_neg (by simp [hup, hr, hs]), if_neg (by simp [ht])]
  rfl

/-- Settles O54: each request by its privilege and its checks. -/
theorem managementTakesEffect : Obligations.ManagementTakesEffect := by
  refine ⟨fun s tr hup hpwr hawake htr => ?_, fun s tr data hf htr hr hfat => ?_, fun s hup hr hs => ⟨fun ht => ?_, fun ht hf => ?_⟩,
    fun s i hup h5 hr hi => execMwRestartDone_facts hup h5 hr hi⟩
  · have hplain := @State.request_plain s tr hup hpwr hawake htr
    refine ⟨fun h0 hb => ?_, fun hpriv => ?_, ?_, ?_, fun addr ha hrange => ?_, fun eid => ?_, fun n v hv => ?_,
      fun comps data slot i hb hslot hi => ?_, fun i hi => ?_, fun c i h2 h5 ha hi => ?_⟩
    · have hdenied := @State.request_denied s tr hup hpwr hawake htr h0 hb
      refine ⟨fun addr value => ?_, ?_, ?_, fun n => ?_, fun data => ?_⟩
      · show execRegWrite tr addr value s = _
        rw [execRegWrite, hdenied]
      · show execSetupUnlock tr s = _
        rw [execSetupUnlock, hdenied]
      · show execDeviceReset tr s = _
        rw [execDeviceReset, hdenied]
      · show execSvnCommit tr n s = _
        rw [execSvnCommit, hdenied]
      · show execConfigWrite tr data s = _
        rw [execConfigWrite, hdenied]
    · have hgiven := @State.request_privileged s tr hup hpwr hawake htr hpriv
      refine ⟨fun addr value ha hlo hhi => ?_, ?_, ?_, fun n hlt h64 himg => ?_, fun n h => ?_, fun data hd => ?_⟩
      · show execRegWrite tr addr value s = _
        unfold execRegWrite
        rw [hgiven, if_pos (by simp [ha, hlo, hhi])]
      · have hexec : execSetupUnlock tr s = .next (({ s with host := { s.host with setupLock := false } } : State).post 0
            Event.setupUnlocked tr |>.reply 5 .ok []) := by
          unfold execSetupUnlock
          rw [hgiven]
        refine ⟨_, hexec, ?_, State.answered ?_ ?_ ?_ ..⟩
        · exact setupLock_post ..
        · rw [State.post_boot]
        · rw [State.post_mem]
        · rw [State.post_work]
      · show execDeviceReset tr s = _
        unfold execDeviceReset
        rw [hgiven]
      · have hexec : execSvnCommit tr n s = .next ((s.blownTo n).reply 7 .ok (s.slotsBelow n)) := by
          unfold execSvnCommit
          rw [hgiven, if_pos (by simpa [hlt, h64] using himg)]
          rfl
        refine ⟨_, hexec, s.blownTo_svn n, State.answered ?_ ?_ ?_ ..⟩
        · rw [State.blownTo_boot]
        · rw [State.blownTo, State.post_mem]
          rfl
        · rw [State.blownTo, State.post_work]
          rfl
      · show execSvnCommit tr n s = _
        unfold execSvnCommit
        rw [hgiven, if_neg]
        rcases h with h | ⟨i, hi, hlt⟩
        · simp [Nat.not_lt.2 h]
        · simp only [Bool.and_eq_true, List.all_eq_true, decide_eq_true_eq, not_and, not_forall]
          exact fun _ => ⟨i, hi, Nat.not_le.2 hlt⟩
      · show execConfigWrite tr data s = _
        unfold execConfigWrite
        rw [hgiven, if_pos hd]
    · show execBootLog tr s = _
      unfold execBootLog
      rw [hplain]
    · show execFenceList tr s = _
      unfold execFenceList
      rw [hplain]
    · have hexec : execRegRead tr addr s = .next ((if addr = 0x4010 then s.setClk (fun c => { c with latch := BitVec.ofNat 32 (s.ns >>> 32) })
          else s).reply 3 .ok (leBytes 4 (s.gset addr))) := by
        unfold execRegRead
        rw [hplain, if_pos (by simpa [ha] using hrange)]
      refine ⟨_, hexec, State.answered ?_ ?_ ?_ .., ?_⟩
      · split <;> rfl
      · split <;> rfl
      · split <;> rfl
      · show (State.clk (if addr = 0x4010 then _ else _)) = _
        split <;> rfl
    · show execMctpSetEid tr eid s = _
      unfold execMctpSetEid
      rw [hplain]
    · show execPldmSensorRead tr n s = _
      unfold execPldmSensorRead
      rw [hplain]
      simp only [hv]
    · have hexec : execPldmFwTransfer tr comps data s = .next ((s.writeSlot slot data).1.reply Msg.transfer
          (if (s.writeSlot slot data).2 then .ok else .badRequest) []) := by
        unfold execPldmFwTransfer
        rw [if_neg (by simp [hb]), hplain]
        simp only [hslot]
      obtain ⟨h1, h2, h3, h4, h5, h6, -⟩ := s.writeSlot_facts slot data
      rw [hi] at h1 h3
      rw [h3, Option.any_some] at hexec
      exact ⟨_, hexec, h1, h2, State.answered h4 h5 h6 ..⟩
    · have hexec := execActivateFirmware_one (c := 1) hup hpwr hawake htr (by decide) (by decide) ((congrArg _ s.nextSlot?_one).trans hi)
      rw [State.activateFw_millwright] at hexec
      exact ⟨_, hexec, rfl, rfl, rfl, rfl, rfl, rfl, rfl, rfl⟩
    · have hexec := execActivateFirmware_one (c := c) hup hpwr hawake htr (by omega) (by omega) hi
      obtain ⟨h1, h2, h3, h4, h5⟩ := State.activateFw_newt (s := s.reply Msg.activate .ok []) h2 h5 ha hi
      exact ⟨_, hexec, ⟨h1, h2, h3⟩, h4, h5⟩
  · obtain ⟨h1, h2, h3, h4, h5, h6, h7⟩ := s.writeSlot_facts s.boot.mwActive data
    have hexec : execPldmFwTransfer tr [1] data s = (if (s.writeSlot s.boot.mwActive data).2
        then .next (((s.writeSlot s.boot.mwActive data).1.reply Msg.transfer .ok []).resetAndBoot Cause.recovery)
        else .next ((s.writeSlot s.boot.mwActive data).1.reply Msg.transfer .badRequest [])) := by
      unfold execPldmFwTransfer
      rw [if_pos hf, if_neg (by simp [kindOf, hr, htr])]
    have hkind : s.boot.mwActive < 2 → slotKind s.boot.mwActive = 1 := fun h => by
      rw [slotKind]
      omega
    cases ha : (s.writeSlot s.boot.mwActive data).2 with
    | true =>
      rw [ha, if_pos rfl] at hexec
      refine ⟨_, hexec, ?_, fun _ _ => State.resetAndBoot_recovery ?_, fun hno hlt => ?_⟩
      · rw [State.resetAndBoot_slots, State.reply_slots, h1]
      · exact (congrArg RasPart.fatal h7).trans hfat
      · rw [h3, hkind hlt, hno] at ha
        cases ha
    | false =>
      rw [ha, if_neg (by simp)] at hexec
      refine ⟨_, hexec, ?_, fun hyes hlt => ?_, fun _ _ => State.answered h4 h5 h6 ..⟩
      · rw [State.reply_slots, h1]
      · rw [h3, hkind hlt, hyes] at ha
        cases ha
  · refine ⟨_, execMillwrightWatchdog_restart hup hr hs ht, rfl, rfl, rfl, rfl, rfl, rfl, fun hfew => ?_, fun hmany hi => ?_⟩
    · exact if_neg (by simpa [State.swapsSlot, State.expiriesNow] using fun h => absurd h (by omega))
    · have hswap : s.swapsSlot = true := by simpa [State.swapsSlot, State.expiriesNow, hi] using hmany
      exact ⟨if_pos hswap, by show (_ || s.swapsSlot) = true; rw [hswap, Bool.or_true]⟩
  · have hexec : execMillwrightWatchdog s = .next (s.resetAndBoot Cause.lc) := by
      unfold execMillwrightWatchdog
      rw [if_neg (by simp [hup, hr, hs]), if_pos ht]
    obtain ⟨h1, h2, -⟩ := State.resetAndBoot_lc hf
    exact ⟨_, hexec, h1, h2⟩

end Sys2Proof.Machine
end

section
/-! Meter readings and windows of the Tally (R540 to R545). -/

namespace Sys2Proof.Machine

theorem exec_meterRead (unit energy : Nat) (loft clocks bytes : List Nat) (fault : Bool) (s : State) :
    exec (.meterRead unit energy loft clocks bytes fault) s = execMeterRead unit energy loft clocks bytes fault s := rfl
theorem exec_tallyWindowClose (pond : Nat) (s : State) : exec (.tallyWindowClose pond) s = execTallyWindowClose pond s := rfl

theorem State.setTally_tally (s : State) (g : TallyPart → TallyPart) : (s.setTally g).tally = g s.tally := rfl

/-- A meter's reading counted: the tally, the power part and the next free value alone; a Tally that is off stands. -/
structure Counts (s t : State) : Prop where
  eq : ∃ w p f, t = { s with tally := w, pwr := p, work := { s.work with free := f } }
  enable : t.tally.enable = s.tally.enable
  off : s.tally.enable = false → t.tally = s.tally

@[refl] theorem Counts.refl (s : State) : Counts s s := ⟨⟨_, _, _, rfl⟩, rfl, fun _ => rfl⟩

theorem Counts.trans {s t u : State} (h : Counts s t) (k : Counts t u) : Counts s u := by
  obtain ⟨⟨_, _, _, h1⟩, h2, h3⟩ := h
  obtain ⟨⟨_, _, _, k1⟩, k2, k3⟩ := k
  refine ⟨⟨_, _, _, by rw [k1, h1]⟩, k2.trans h2, fun hoff => (k3 (h2.trans hoff)).trans (h3 hoff)⟩

theorem Counts.foldl {β : Type} {g : State → β → State} (hg : ∀ s b, Counts s (g s b)) (l : List β) (s : State) :
    Counts s (l.foldl g s) := by
  induction l generalizing s with
  | nil => exact .refl s
  | cons b l ih => exact (hg s b).trans (ih _)

theorem Counts.rest {s t : State} (h : Counts s t) : t.mem = s.mem ∧ t.work.ops = s.work.ops ∧ t.xlat = s.xlat ∧ t.eng = s.eng
    ∧ t.clk = s.clk := by
  obtain ⟨⟨_, _, _, rfl⟩, -, -⟩ := h
  exact ⟨rfl, rfl, rfl, rfl, rfl⟩

theorem Counts.host {s t : State} (h : Counts s t) : t.host = s.host := by
  obtain ⟨⟨_, _, _, rfl⟩, -, -⟩ := h
  rfl

theorem State.charge_off {s : State} (h : s.tally.enable = false) (k : Nat) (g : Acct → Acct) : s.charge k g = s :=
  if_pos (by simp [h])

theorem State.charge_on {s : State} (h : s.tally.enable = true) (k : Nat) (g : Acct → Acct) :
    s.charge k g = s.setTally (fun t => { t with accts := t.accts.set k (g (t.accts.get (Acct.zero (s.windowOf k).1) k)) }) :=
  if_neg (by simp [h])

theorem counts_charge (s : State) (k : Nat) (g : Acct → Acct) : Counts s (s.charge k g) := by
  cases h : s.tally.enable with
  | false => rw [State.charge_off h]
  | true =>
    rw [State.charge_on h]
    exact ⟨⟨_, _, _, rfl⟩, rfl, fun hoff => by rw [h] at hoff; cases hoff⟩

theorem counts_chargeBytes (s : State) (x : Nat × Nat × Nat) : Counts s (s.chargeBytes x) := by
  unfold State.chargeBytes
  exact counts_charge ..

theorem counts_modSail (s : State) (d : Nat) (g : Sail → Sail) : Counts s (s.modSail d g) := ⟨⟨_, _, _, rfl⟩, rfl, fun _ => rfl⟩
theorem counts_takeFree (s : State) : Counts s s.takeFree.2 := ⟨⟨_, _, _, rfl⟩, rfl, fun _ => rfl⟩

/-- Filler energy given to a pond's window (R544). -/
def TallyPart.giveFiller (t : TallyPart) (fault : Bool) (y : Nat × Nat) : TallyPart :=
  { t with
    filler := t.filler.set y.1 (t.filler.get 0 y.1 + y.2)
    fillerFault := if fault && !t.fillerFault.contains y.1 then y.1 :: t.fillerFault else t.fillerFault }

theorem State.giveFiller_eq (fault : Bool) (l : List (Nat × Nat)) (s : State) :
    ∃ f b, l.foldl (fun s y => s.setTally (fun t => t.giveFiller fault y)) s
      = s.setTally (fun t => { t with filler := f, fillerFault := b }) := by
  induction l generalizing s with
  | nil => exact ⟨s.tally.filler, s.tally.fillerFault, rfl⟩
  | cons y l ih =>
    obtain ⟨f, b, h⟩ := ih (s.setTally (fun t => t.giveFiller fault y))
    exact ⟨f, b, h⟩

/-- Filler energy changes no account but UNOWNED's, and that only where the die's filler is of no pond (R540, R544). -/
theorem State.chargeFiller_cases (s : State) (d e : Nat) (fault : Bool) :
    (∃ g, s.chargeFiller d e fault = (s.modSail d g).charge unownedKey (fun a => if e = 0 then a else a.addFiller e fault))
    ∨ s.chargeFiller d e fault = s
    ∨ s.tally.enable = true ∧ ∃ f b, s.chargeFiller d e fault = s.setTally (fun t => { t with filler := f, fillerFault := b }) := by
  unfold State.chargeFiller
  dsimp only
  split
  · exact .inl ⟨_, rfl⟩
  · split
    · exact .inr (.inl rfl)
    · next h => exact .inr (.inr ⟨by simpa using h, s.giveFiller_eq fault _⟩)

theorem counts_chargeFiller (s : State) (d e : Nat) (fault : Bool) : Counts s (s.chargeFiller d e fault) := by
  rcases s.chargeFiller_cases d e fault with ⟨g, h⟩ | h | ⟨hon, f, b, h⟩
  · rw [h]
    exact (counts_modSail ..).trans (counts_charge ..)
  · rw [h]
  · rw [h]
    exact ⟨⟨_, _, _, rfl⟩, rfl, fun hoff => by rw [hon] at hoff; cases hoff⟩

/-- A meter reading is counted, whatever its unit. -/
theorem execMeterRead_counts (unit energy : Nat) (loft clocks bytes : List Nat) (fault : Bool) (s : State) :
    ∃ t, execMeterRead unit energy loft clocks bytes fault s = .next t ∧ Counts s t := by
  have h1 : Counts s ((triplesOf bytes).foldl State.chargeBytes s) := Counts.foldl counts_chargeBytes _ _
  unfold execMeterRead
  dsimp only
  split
  · refine ⟨_, rfl, h1.trans (Counts.trans ?_ ((counts_chargeFiller ..).trans (counts_charge ..)))⟩
    exact Counts.foldl (fun _ _ => counts_charge ..) _ _
  · split
    · have h2 : Counts s (if fault then ((triplesOf bytes).foldl State.chargeBytes s).takeFree
          else (0, (triplesOf bytes).foldl State.chargeBytes s)).2 := by
        cases fault
        · exact h1
        · exact h1.trans (counts_takeFree _)
      split
      · exact ⟨_, rfl, h2.trans (counts_charge ..)⟩
      · exact ⟨_, rfl, h2.trans (Counts.foldl (fun _ _ => counts_charge ..) _ _)⟩
    · exact ⟨s, rfl, .refl s⟩

/-! Accounts. -/

/-- The energy of an account. -/
def Acct.total (a : Acct) : Nat := a.tiles + a.memory + a.fabric + a.uncore + a.filler

theorem Tab.get_map_eq {α β : Type} {p : α → β} {a b : α} (h : p a = p b) (t : Tab α) (k : Nat) : p (t.get a k) = p (t.get b k) := by
  unfold Tab.get
  cases t.at? k with
  | none => exact h
  | some v => rfl

theorem State.charge_at?_self {s : State} (h : s.tally.enable = true) (k : Nat) (g : Acct → Acct) :
    (s.charge k g).tally.accts.at? k = some (g (s.tally.accts.get (Acct.zero (s.windowOf k).1) k)) := by
  rw [State.charge_on h]
  exact Tab.at?_set_self ..

theorem State.charge_at?_ne (s : State) {k j : Nat} (g : Acct → Acct) (hj : j ≠ k) :
    (s.charge k g).tally.accts.at? j = s.tally.accts.at? j := by
  cases h : s.tally.enable with
  | false => rw [State.charge_off h]
  | true =>
    rw [State.charge_on h]
    exact Tab.at?_set_ne _ _ hj

theorem State.chargeFiller_at?_ne (s : State) (d e : Nat) (fault : Bool) {j : Nat} (hj : j ≠ unownedKey) :
    (s.chargeFiller d e fault).tally.accts.at? j = s.tally.accts.at? j := by
  rcases s.chargeFiller_cases d e fault with ⟨g, h⟩ | h | ⟨-, f, b, h⟩
  · rw [h, State.charge_at?_ne _ _ hj]
    rfl
  · rw [h]
  · rw [h]
    rfl

/-! An uncore's reading. -/

/-- What an uncore's reading with no busy clock charges (R543). -/
def State.chargeUncore (s : State) (fault : Bool) (x : Nat) (a : Acct) : Acct :=
  { a with uncore := a.uncore + x, flags := a.flags ||| (b2n fault * 16) ||| s.redoneFlag unownedKey }

theorem execMeterRead_uncore {s : State} {unit : Nat} {clocks : List Nat} (hlo : 512 ≤ unit) (hhi : unit < 516)
    (hc : ((pairsOf clocks).map (·.2)).sum = 0) (energy : Nat) (loft : List Nat) :
    execMeterRead unit energy loft clocks [] false s
        = .next (s.charge unownedKey (s.chargeUncore false (uncoreEnergy (s.coefFor unownedKey) energy)))
      ∧ execMeterRead unit energy loft clocks [] true s = .next (s.takeFree.2.charge unownedKey
          (s.chargeUncore true (uncoreEnergy (s.coefFor unownedKey) (Config.freeNat s.work.free)))) := by
  unfold execMeterRead
  dsimp only
  rw [if_neg (Nat.not_lt.2 hlo), if_neg (Nat.not_lt.2 hlo), if_pos hhi, if_pos hhi, if_pos hc, if_pos hc]
  exact ⟨rfl, rfl⟩

theorem State.chargeUncore_total (s : State) (fault : Bool) (x : Nat) (a : Acct) : (s.chargeUncore fault x a).total = a.total + x := by
  simp only [State.chargeUncore, Acct.total]
  omega

theorem testBit_four_or (a b : Nat) : bitOf (a ||| b2n true * 16 ||| b) 4 = true := by
  rw [bitOf, Nat.testBit_or, Nat.testBit_or, show (b2n true * 16).testBit 4 = true by decide]
  simp

/-! A tile island's reading. -/

/-- What the busy clocks of one user of a tile island charge (R542). -/
def State.chargeBusy (s : State) (k energy half : Nat) (a : Acct) : Acct :=
  { a with tiles := a.tiles + energy, busy := a.busy + half, flags := a.flags ||| (b2n false * 16) ||| s.redoneFlag k }

theorem State.chargeBusy_total (s : State) (k energy half : Nat) (a : Acct) :
    (s.chargeBusy k energy half a).total = a.total + energy ∧ (s.chargeBusy k energy half a).busy = a.busy + half := by
  refine ⟨?_, rfl⟩
  simp only [State.chargeBusy, Acct.total]
  omega

/-- All of an island's energy goes to its one user (R542). -/
theorem shares_one {half : Nat} (h : half ≠ 0) (energy : Nat) :
    shares energy half 0 [0, 0, half] = [0, 0, energy] := by
  have hmax : max 1 half = half := by omega
  simp [shares, hmax, Nat.mul_div_cancel _ (Nat.pos_of_ne_zero h)]

theorem islandEnergy_quiet (c : Coef) (unit energy half : Nat) : islandEnergy c unit energy half [0, 0] false = energy := by
  simp [islandEnergy, getAt]

theorem State.idleKey_of_noPonds {s : State} (h : s.mem.ponds = []) (tile : Nat) : s.idleKey tile = unownedKey := by
  rw [State.idleKey, h]
  rfl

theorem execMeterRead_island {s : State} {unit half : Nat} (hlo : unit < 512) (hh : half ≠ 0) (hp : s.mem.ponds = [])
    (energy k : Nat) : execMeterRead unit energy [0, 0] [0, 0, k, half] [] false s
      = .next (((s.charge (s.spender k) (s.chargeBusy (s.spender k) energy half)).chargeFiller (dieOfTile unit) 0 false).charge
          unownedKey (fun a => { a with tiles := a.tiles + 0, flags := a.flags ||| (b2n (false && decide (0 ≠ 0)) * 16) })) := by
  have hsum : ([0, 0, half] : List Nat).sum = half := by simp
  unfold execMeterRead
  rw [if_pos hlo, s.idleKey_of_noPonds hp]
  simp only [pairsOf, List.drop_succ_cons, List.drop_zero, List.map_cons, List.map_nil, getAt, List.getElem?_cons_zero,
    List.getElem?_cons_succ, Option.getD_some, List.length_singleton, List.range_one, List.zip_cons_cons, List.zip_nil_right,
    List.foldl_cons, List.foldl_nil, triplesOf, hsum, islandEnergy_quiet, shares_one hh]
  simp only [Nat.add_zero]
  rfl

/-! Windows. -/

theorem Metered.tallyRest {s t : State} (h : Metered s t) : t.mem = s.mem ∧ t.work.ops = s.work.ops ∧ t.xlat = s.xlat
    ∧ t.eng = s.eng ∧ t.clk = s.clk := by
  obtain ⟨_, _, rfl⟩ := h
  exact ⟨rfl, rfl, rfl, rfl, rfl⟩

/-- A record written, held or merged touches the ring, the chain and the backlog, and no account, window or table (R551 to
R554). -/
def TallyPart.ringed (t : TallyPart) (seq : Nat) (hash : List Byte) (tail : Nat) (backlog : List EnergyRec)
    (overflow : Tab EnergyRec) (last due : Option Signing) (counts : List Word) (formed : List EnergyRec) : TallyPart :=
  { t with
    seq := seq
    hash := hash
    tail := tail
    backlog := backlog
    overflow := overflow
    last := last
    due := due
    counts := counts
    formed := formed }

/-- A Tally that differs in its ring, chain and backlog alone. -/
def Ringed (t u : TallyPart) : Prop := ∃ a b c d e f g h i, u = t.ringed a b c d e f g h i

theorem Ringed.refl (t : TallyPart) : Ringed t t := ⟨_, _, _, _, _, _, _, _, _, rfl⟩

theorem State.writeRec_ringed (s : State) (r : EnergyRec) : Ringed s.tally (s.writeRec r).tally := by
  unfold State.writeRec
  dsimp only
  generalize sha384 _ = hash
  rw [State.setTally_tally]
  split
  · exact ⟨_, _, _, _, _, _, _, _, _, rfl⟩
  · exact ⟨_, _, _, _, _, _, _, _, _, rfl⟩

theorem State.post_tally (s : State) (f code payload : Nat) : (s.post f code payload).tally = s.tally := (apart_post ..).tally

theorem State.emit_ringed (s : State) (r : EnergyRec) : Ringed s.tally (s.emit r).tally := by
  unfold State.emit
  split
  · exact .refl _
  · split
    · exact s.writeRec_ringed r
    · split
      · dsimp only
        split
        · rw [State.post_tally]
          exact ⟨_, _, _, _, _, _, _, _, _, rfl⟩
        · exact ⟨_, _, _, _, _, _, _, _, _, rfl⟩
      · split
        · exact ⟨_, _, _, _, _, _, _, _, _, rfl⟩
        · exact ⟨_, _, _, _, _, _, _, _, _, rfl⟩

theorem State.emit_accts (s : State) (r : EnergyRec) : (s.emit r).tally.accts = s.tally.accts := by
  obtain ⟨_, _, _, _, _, _, _, _, _, h⟩ := s.emit_ringed r
  rw [h]
  rfl

/-- One account closed: its record is formed, and the account is gone (R540). -/
def State.closeKey (flags : Nat) (s : State) (k : Nat) : State :=
  match s.tally.accts.at? k with
  | none => s
  | some a =>
    let s1 := s.setTally (fun t => { t with accts := t.accts.erase k })
    if a.any then s1.emit (s.recOf k a flags s.ns) else s1

theorem State.closeKeys_eq (s : State) (ks : List Nat) (flags : Nat) :
    s.closeKeys ks flags = (ks.foldl (fun l k => insertTag k l) []).foldl (State.closeKey flags) s := rfl

theorem State.closeKey_accts (flags : Nat) (s : State) (k : Nat) :
    (s.closeKey flags k).tally.accts.at? k = none ∧ ∀ j, s.tally.accts.at? j = none → (s.closeKey flags k).tally.accts.at? j = none := by
  have herase : ∀ j, s.tally.accts.at? j = none → (s.tally.accts.erase k).at? j = none := fun j hj => by
    by_cases h : j = k
    · rw [h, Tab.at?_erase_self]
    · rw [Tab.at?_erase_ne _ h, hj]
  unfold State.closeKey
  split
  · next h => exact ⟨h, fun _ hj => hj⟩
  · dsimp only
    split
    · rw [State.emit_accts]
      exact ⟨Tab.at?_erase_self .., herase⟩
    · exact ⟨Tab.at?_erase_self .., herase⟩

theorem mem_insertTag (k a : Nat) (l : List Nat) : k ∈ insertTag a l ↔ k = a ∨ k ∈ l := by
  induction l with
  | nil => simp [insertTag]
  | cons b l ih =>
    unfold insertTag
    split
    · simp
    · rw [List.mem_cons, ih, List.mem_cons, or_left_comm]

theorem mem_inTagOrder (k : Nat) (ks l : List Nat) : k ∈ ks.foldl (fun l k => insertTag k l) l ↔ k ∈ ks ∨ k ∈ l := by
  induction ks generalizing l with
  | nil => simp
  | cons a ks ih => rw [List.foldl_cons, ih, mem_insertTag, List.mem_cons, or_left_comm, or_assoc]

theorem State.foldl_closeKey_none (flags : Nat) (ks : List Nat) (s : State) (j : Nat) (h : s.tally.accts.at? j = none) :
    (ks.foldl (State.closeKey flags) s).tally.accts.at? j = none := by
  induction ks generalizing s with
  | nil => exact h
  | cons k ks ih => exact ih _ ((s.closeKey_accts flags k).2 j h)

theorem State.foldl_closeKey_mem (flags : Nat) (ks : List Nat) (s : State) {k : Nat} (h : k ∈ ks) :
    (ks.foldl (State.closeKey flags) s).tally.accts.at? k = none := by
  induction ks generalizing s with
  | nil => cases h
  | cons a ks ih =>
    by_cases ha : k ∈ ks
    · exact ih _ ha
    · rw [(List.mem_cons.1 h).resolve_right ha]
      exact State.foldl_closeKey_none flags ks _ a (s.closeKey_accts flags a).1

theorem State.closeKeys_none (s : State) (ks : List Nat) (flags : Nat) {j : Nat} (h : s.tally.accts.at? j = none) :
    (s.closeKeys ks flags).tally.accts.at? j = none := State.foldl_closeKey_none flags _ s j h

/-- Every account closed is gone (R540). -/
theorem State.closeKeys_mem (s : State) {ks : List Nat} (flags : Nat) {k : Nat} (h : k ∈ ks) :
    (s.closeKeys ks flags).tally.accts.at? k = none :=
  State.foldl_closeKey_mem flags _ s ((mem_inTagOrder k ks []).2 (.inl h))

/-- The keys of accounts that a test picks; one it picks that is not among them has no account. -/
theorem Tab.at?_eq_none_of_notMem {α : Type} {t : Tab α} {k : Nat} {p : Nat → Bool} (hp : p k = true)
    (h : k ∉ (t.map (·.1)).filter p) : t.at? k = none := by
  cases hk : t.at? k with
  | none => rfl
  | some v =>
    exact absurd (List.mem_filter.2 ⟨List.mem_map.2 ⟨(k, v), Tab.mem_of_at? hk, rfl⟩, hp⟩) h

theorem State.onBeats_congr {s t : State} (h : t.mem = s.mem) (k : Nat) : t.onBeats k = s.onBeats k := by
  rw [State.onBeats, State.onBeats, h]

theorem State.foldl_closePonds_none (flags : Nat) (sel : Nat → List Nat) (ps : List Nat) (s : State) {j : Nat}
    (h : s.tally.accts.at? j = none) : (ps.foldl (fun s p => s.closeKeys (sel p) flags) s).tally.accts.at? j = none := by
  induction ps generalizing s with
  | nil => exact h
  | cons p ps ih => exact ih _ (State.closeKeys_none _ _ _ h)

theorem State.foldl_closePonds_mem (flags : Nat) (sel : Nat → List Nat) (ps : List Nat) (s : State) {p k : Nat} (hp : p ∈ ps)
    (hk : k ∈ sel p) : (ps.foldl (fun s p => s.closeKeys (sel p) flags) s).tally.accts.at? k = none := by
  induction ps generalizing s with
  | nil => cases hp
  | cons q ps ih =>
    by_cases hq : p ∈ ps
    · exact ih _ hq
    · rw [← (List.mem_cons.1 hp).resolve_right hq]
      exact State.foldl_closePonds_none flags sel ps _ (State.closeKeys_mem _ flags hk)

/-- At the end of a period every account off the ponds' beats is gone, and the next period starts now (R540). -/
theorem State.closePeriod_facts (s : State) (flags : Nat) : (s.closePeriod flags).tally.period = s.ns
    ∧ ∀ k, s.onBeats k = false → (s.closePeriod flags).tally.accts.at? k = none := by
  have hspread : ∀ l : List (Nat × Pond), Metered s (l.foldl (fun s p => s.spreadFiller p.1) s) :=
    fun l => Metered.foldl (fun _ _ => metered_spreadFiller ..) _ _
  have hposts : ∀ (l : List (Nat × EnergyRec)) (u : State), (l.foldl (fun s p =>
      s.post 0 Event.tallyOverflow (p.1 % 1024 + p.2.tag % 2 ^ 32 * 2 ^ 32)) u).tally = u.tally := fun l => by
    induction l with
    | nil => exact fun u => rfl
    | cons p l ih => exact fun u => (ih _).trans (State.post_tally ..)
  unfold State.closePeriod
  extract_lets s1 due ponds s2 s3 s4
  have hon : ∀ k, s1.onBeats k = s.onBeats k := State.onBeats_congr (hspread _).mem
  refine ⟨rfl, fun k hk => ?_⟩
  show s4.tally.accts.at? k = none
  rw [show s4.tally = s3.tally from hposts _ _]
  by_cases hmem : k ∈ due
  · by_cases h0 : keyPond k = 0
    · exact State.closeKeys_mem _ _ (List.mem_filter.2 ⟨hmem, by simp [h0]⟩)
    · refine State.closeKeys_none _ _ _ (State.foldl_closePonds_mem flags (fun p => due.filter (fun k => keyPond k = p)) _ _
        (p := keyPond k) ?_ ?_)
      · exact List.mem_eraseDups.2 (List.mem_filter.2 ⟨List.mem_map.2 ⟨k, hmem, rfl⟩, by simp [h0]⟩)
      · exact List.mem_filter.2 ⟨hmem, by simp⟩
  · have hnone : s1.tally.accts.at? k = none := Tab.at?_eq_none_of_notMem (by rw [hon, hk]; rfl) hmem
    exact State.closeKeys_none _ _ _ (State.foldl_closePonds_none flags _ _ _ hnone)

/-- At the end of a pond's beat window its tags' accounts are gone, and its next window starts now (R540). -/
theorem State.closeBeatWindow_facts (s : State) (pond flags : Nat) :
    ((s.closeBeatWindow pond flags).tally.starts.at? pond).map (·.1) = some s.ns
      ∧ ∀ k, keyPond k = pond → keyInst k ≠ 1023 → keyTag k ≠ 0 → (s.closeBeatWindow pond flags).tally.accts.at? k = none := by
  unfold State.closeBeatWindow
  extract_lets s1 ks s2 n
  refine ⟨?_, fun k hp hi ht => ?_⟩
  · rw [State.setTally_tally, Tab.at?_set_self]
    rfl
  · show s2.tally.accts.at? k = none
    by_cases hmem : k ∈ ks
    · exact State.closeKeys_mem _ _ hmem
    · exact State.closeKeys_none _ _ _ (Tab.at?_eq_none_of_notMem (by simp [hp, hi, ht]) hmem)

/-! The ring, the backlog and the switch of the Tally. -/

/-- A record written: the tail and the number advance, and two writes leave the device (R551 to R553). -/
theorem State.writeRec_facts (s : State) (r : EnergyRec) :
    (s.writeRec r).tally.tail = (s.tally.tail + 1) % 2 ^ s.tally.log2 ∧ (s.writeRec r).tally.seq = (s.tally.seq + 1) % 2 ^ 64
      ∧ (s.writeRec r).tally.backlog = s.tally.backlog ∧ (s.writeRec r).tally.formed = s.tally.formed
      ∧ (s.writeRec r).tally.head = s.tally.head ∧ (s.writeRec r).host.writes.length = s.host.writes.length + 2 := by
  unfold State.writeRec
  dsimp only
  generalize sha384 _ = hash
  rw [State.setTally_tally]
  have hw : ∀ (u : State) (g : TallyPart → TallyPart), (u.setTally g).host = u.host := fun _ _ => rfl
  refine ⟨?_, ?_, ?_, ?_, ?_, ?_⟩
  · split <;> rfl
  · split <;> rfl
  · split <;> rfl
  · split <;> rfl
  · split <;> rfl
  · rw [hw]
    simp [State.writeHost]

/-- What the ring's drains keep: the head word and the rest of the device. -/
theorem State.drain_frame (l : List EnergyRec) (s : State) : Metered s (s.drain l) ∧ (s.drain l).tally.head = s.tally.head := by
  induction l generalizing s with
  | nil => exact ⟨.refl s, rfl⟩
  | cons r l ih =>
    unfold State.drain
    split
    · obtain ⟨h1, h2⟩ := ih (s.writeRec r)
      exact ⟨(metered_writeRec s r).trans h1, h2.trans (s.writeRec_facts r).2.2.2.2.1⟩
    · exact ⟨metered_setTally .., rfl⟩

theorem metered_refill (s : State) : Metered s s.refill := by
  unfold State.refill
  exact metered_setTally ..

theorem State.drainAll_frame (s : State) : Metered s s.drainAll ∧ s.drainAll.tally.head = s.tally.head := by
  unfold State.drainAll
  extract_lets s1
  obtain ⟨h1, h2⟩ := State.drain_frame s.tally.backlog (s.setTally (fun t => { t with backlog := [] }))
  obtain ⟨h3, h4⟩ := State.drain_frame s1.tally.backlog (s1.setTally (fun t => { t with backlog := [] }))
  have hs1 : Metered s s1 ∧ s1.tally.head = s.tally.head :=
    ⟨((metered_setTally ..).trans h1).trans (metered_refill _), h2⟩
  exact ⟨hs1.1.trans ((metered_setTally ..).trans h3), h4.trans hs1.2⟩

theorem State.ringOpen_of {s : State} (hm : s.mute = false) (he : s.tally.enable = true)
    (ht : (s.tally.tail + 1) % 2 ^ s.tally.log2 ≠ s.tally.head) (hl : s.tally.last.any (·.gap) = false) : s.ringOpen = true := by
  simp [State.ringOpen, hm, he, ht, hl]

/-- The one record held back is written where the ring takes it (R553, R554). -/
theorem State.drainAll_one {s : State} {r : EnergyRec} (hb : s.tally.backlog = [r]) (hf : s.tally.formed = [])
    (ho : s.ringOpen = true) : s.drainAll = ((s.setTally (fun t => { t with backlog := [] })).writeRec r).setTally
      (fun t => { t with backlog := [], formed := [] }) := by
  have hopen : (s.setTally (fun t => { t with backlog := [] })).ringOpen = true := ho
  obtain ⟨-, -, h3, h4, -, -⟩ := (s.setTally (fun t => { t with backlog := [] })).writeRec_facts r
  have h3' : ((s.setTally (fun t => { t with backlog := [] })).writeRec r).tally.backlog = [] := h3
  have h4' : ((s.setTally (fun t => { t with backlog := [] })).writeRec r).tally.formed = [] := h4.trans hf
  unfold State.drainAll
  rw [hb]
  simp only [State.drain, hopen, if_true]
  generalize (s.setTally (fun t => { t with backlog := [] })).writeRec r = u at h3' h4'
  simp only [State.refill, State.setTally, h3', h4', List.take_nil, List.drop_nil, List.append_nil, State.drain]

/-- What the Tally's switch changes beside the windows (R559). -/
def TallyPart.timed (t : TallyPart) (p c : Nat) : TallyPart :=
  { t with
    periodMs := if 1 ≤ p && p ≤ 1000 then p else t.periodMs
    ckptMs := if 10 ≤ c && c ≤ 1000 then c else t.ckptMs }

/-- A Tally as it is turned on: its first windows open now (R559). -/
def TallyPart.turnedOn (t : TallyPart) (ns : Nat) : TallyPart :=
  { t with
    enable := true
    period := ns
    starts := []
    accts := []
    filler := []
    fillerFault := []
    gap := none }

/-- A Tally as it is turned off (R559). -/
def TallyPart.turnedOff (t : TallyPart) (ns : Nat) : TallyPart :=
  { t with
    enable := false
    accts := []
    filler := []
    fillerFault := []
    gap := some (4, ns) }

theorem execTallyEnableWrite_off {s : State} {value : Nat} (hv : bitOf value 0 = false) (he : s.tally.enable = true) :
    execTallyEnableWrite value s
      = .next ((s.setTally (fun t => t.timed (bitsOf value 1 10) (bitsOf value 11 10))).setTally (fun t => t.turnedOff s.ns)) := by
  unfold execTallyEnableWrite
  dsimp only
  rw [if_neg (by simp [hv]), if_pos (by simp [hv, he])]
  rfl

theorem execTallyEnableWrite_same {s : State} {value : Nat} (h : s.tally.enable = bitOf value 0) :
    execTallyEnableWrite value s = .next (s.setTally (fun t => t.timed (bitsOf value 1 10) (bitsOf value 11 10))) := by
  unfold execTallyEnableWrite
  dsimp only
  rw [if_neg (by simp [h]), if_neg (by simp [h])]
  rfl

theorem execTallyEnableWrite_on {s : State} {value : Nat} (hv : bitOf value 0 = true) (he : s.tally.enable = false) :
    ∃ t, execTallyEnableWrite value s = .next t ∧ Metered s t
      ∧ Ringed ((s.tally.timed (bitsOf value 1 10) (bitsOf value 11 10)).turnedOn s.ns) t.tally := by
  unfold execTallyEnableWrite
  extract_lets p c s1 s2 s3
  rw [if_pos (by simp [hv, he])]
  have h3 : Metered s s3 ∧ Ringed ((s.tally.timed (bitsOf value 1 10) (bitsOf value 11 10)).turnedOn s.ns) s3.tally := by
    have h2 : Metered s s2 := (metered_setTally s _).trans (metered_setTally ..)
    unfold s3
    split
    · exact ⟨h2.trans (metered_emit ..), s2.emit_ringed _⟩
    · exact ⟨h2, .refl _⟩
  refine ⟨_, rfl, ?_⟩
  split
  · exact h3
  · rw [State.post_tally]
    exact ⟨h3.1.trans (metered_post ..), h3.2⟩

theorem TallyPart.timed_periodMs (t : TallyPart) (p c : Nat) :
    (t.timed p c).periodMs = if 1 ≤ p ∧ p ≤ 1000 then p else t.periodMs := by
  unfold TallyPart.timed
  dsimp only
  split
  · next h => rw [if_pos (by simpa using h)]
  · next h => rw [if_neg (by simpa using h)]

theorem Ringed.facts {t u : TallyPart} (h : Ringed t u) : u.enable = t.enable ∧ u.periodMs = t.periodMs ∧ u.gap = t.gap
    ∧ u.period = t.period ∧ u.accts = t.accts := by
  obtain ⟨_, _, _, _, _, _, _, _, _, rfl⟩ := h
  exact ⟨rfl, rfl, rfl, rfl, rfl⟩

/-! Tables, receipts and checkpoints. -/

theorem parseCoef_version (bs : List Byte) (b : Bool) : (parseCoef bs b).version = leNat ((bs.drop 4).take 4) := rfl

/-- The Tally with a new coefficient table in force, every open window keeping its own (R548). -/
def State.withCoef (s : State) (c : Coef) : State :=
  (s.setTally (fun t => { t with
    coef := c
    pondCoef := (512 :: (s.mem.ponds.map (fun p => [p.1, 512 + p.1])).flatten).foldl
      (fun t k => if (t.at? k).isSome then t else t.set k s.tally.coef) t.pondCoef })).post 0 Event.tallyCoef c.version

theorem execTallyCoef_eq {s : State} {op : Nat} {o : Op} (ho : s.go? op 0xB0 = some o)
    (hs : s.stalls 0 (fld o.desc 0x20 0 43) 512 false = false) :
    execTallyCoef op s = .next (
      if !(s.plotOf (fld o.desc 0x20 0 43)).any (fun p => p.owner = 0) || s.poisonIn (fld o.desc 0x20 0 43) 512
          || !coefOk (s.readPub (fld o.desc 0x20 0 43) 512) then s.decide op Status.badCoefTable 0
      else if (parseCoef (s.readPub (fld o.desc 0x20 0 43) 512) false).version < s.tally.coef.version then
        s.decide op Status.coefRollback 0
      else (s.withCoef (parseCoef (s.readPub (fld o.desc 0x20 0 43) 512) false)).succeed op) := by
  unfold execTallyCoef
  rw [ho]
  dsimp only
  rw [hs, Bool.and_false, if_neg (by simp)]
  split
  · rfl
  · split <;> rfl

/-- An operation that succeeds has ended with status 0, and the tally and memory stand. -/
theorem State.succeed_ended {s : State} {op : Nat} {o : Op} (ho : s.op? op = some o) (hl : o.phase ≠ .ended) :
    ((s.succeed op).op? op).map (fun x => (x.phase, x.status)) = some (.ended, 0) ∧ (s.succeed op).mem = s.mem
      ∧ (s.succeed op).tally = s.tally ∧ (s.succeed op).work.sluices = s.work.sluices := by
  rw [State.succeed_eq]
  have h := (endsWork_endOp s op 0 0).apart
  refine ⟨?_, h.mem, h.tally, s.endOp_sluices ..⟩
  rw [State.endOp_op?_self 0 0 ho hl]
  rfl

theorem State.withCoef_op? (s : State) (c : Coef) (op : Nat) : (s.withCoef c).op? op = s.op? op := by
  rw [State.op?, State.op?, State.withCoef, State.post_work]
  rfl

/-- With no pond, a window of no pond keeps the table in force before (R548). -/
theorem State.withCoef_coefFor {s t : State} {c : Coef} (ht : t.tally = (s.withCoef c).tally) (hm : t.mem = s.mem)
    (h512 : s.tally.pondCoef.at? 512 = none) (hp : s.mem.ponds = []) {k : Nat} (hk : keyPond k = 0) :
    t.coefFor k = s.tally.coef := by
  have hkey : t.coefKey k = 512 := by
    unfold State.coefKey State.onBeats
    rw [hm, hp]
    simp [hk]
  have htable : t.tally.pondCoef = s.tally.pondCoef.set 512 s.tally.coef := by
    rw [ht, State.withCoef, State.post_tally, State.setTally_tally, hp]
    simp [h512]
  rw [State.coefFor, hkey, htable, Tab.get_set_self]

/-- An uncore's reading goes to UNOWNED (R543), estimated where its meter failed (R539). -/
theorem State.chargeUncore_facts {s t : State} {fault : Bool} {x : Nat} (he : s.tally.enable = true) (hf : t.tally = s.tally) :
    ((t.charge unownedKey (s.chargeUncore fault x)).tally.accts.at? unownedKey).map Acct.total
        = some ((s.tally.accts.get (Acct.zero 0) unownedKey).total + x)
      ∧ (fault = true → ((t.charge unownedKey (s.chargeUncore fault x)).tally.accts.at? unownedKey).map (fun a => bitOf a.flags 4) = some true)
      ∧ ∀ k, k ≠ unownedKey → (t.charge unownedKey (s.chargeUncore fault x)).tally.accts.at? k = s.tally.accts.at? k := by
  refine ⟨?_, fun h => ?_, fun k hk => ?_⟩
  · rw [State.charge_at?_self (by rw [hf, he]), Option.map_some, State.chargeUncore_total, hf,
      Tab.get_map_eq (p := Acct.total) (a := Acct.zero (t.windowOf unownedKey).1) (b := Acct.zero 0) rfl]
  · rw [State.charge_at?_self (by rw [hf, he]), Option.map_some, h]
    exact congrArg some (testBit_four_or ..)
  · rw [State.charge_at?_ne _ _ hk, hf]

/-- Settles O51: readings by their unit, windows by which accounts they close, the ring by what it holds back. -/
theorem tallyCommandsTakeEffect : Obligations.TallyCommandsTakeEffect := by
  refine ⟨fun s unit energy loft clocks bytes fault hu => ?_, fun s he => ?_, fun s pond he h0 hp => ?_, fun s op o ho hs => ?_,
    fun s op o ho => ⟨fun e hn hsl => ?_, fun h0 s2 hw => ?_⟩, fun s g hg => ⟨fun hr => ?_, fun hr hq => ?_⟩, fun s hup hm hk hh => ?_,
    fun s head => ?_, fun s value => ?_⟩
  · obtain ⟨t, hexec, hc⟩ := execMeterRead_counts unit energy loft clocks bytes fault s
    refine ⟨t, hexec, hc.rest, hc.host, hc.off, fun he hlo hz hb => ?_, fun k half he hlo hf hb hl hh hcl hp hne => ?_⟩
    · subst hb
      obtain ⟨hgood, hbad⟩ := execMeterRead_uncore (s := s) hlo hu hz energy loft
      cases fault with
      | false =>
        rw [hgood] at hexec
        cases hexec
        obtain ⟨h1, -, h3⟩ := State.chargeUncore_facts (s := s) (t := s) (fault := false)
          (x := uncoreEnergy (s.coefFor unownedKey) energy) he rfl
        exact ⟨fun _ => h1, fun h => (by cases h), h3⟩
      | true =>
        rw [hbad] at hexec
        cases hexec
        obtain ⟨-, h2, h3⟩ := State.chargeUncore_facts (s := s) (t := s.takeFree.2) (fault := true)
          (x := uncoreEnergy (s.coefFor unownedKey) (Config.freeNat s.work.free)) he rfl
        exact ⟨fun h => (by cases h), fun _ => h2 rfl, h3⟩
    · subst hf hb hl hcl
      rw [execMeterRead_island hlo hh hp] at hexec
      cases hexec
      obtain ⟨h1, h2⟩ := s.chargeBusy_total (s.spender k) energy half (s.tally.accts.get (Acct.zero (s.windowOf (s.spender k)).1) (s.spender k))
      show Option.map (fun a : Acct => (a.total, a.busy)) _ = some (Acct.total _ + energy, _)
      rw [State.charge_at?_ne _ _ hne, State.chargeFiller_at?_ne _ _ _ _ hne, State.charge_at?_self he, Option.map_some, h1, h2,
        Tab.get_map_eq (p := Acct.total) (a := Acct.zero (s.windowOf (s.spender k)).1) (b := Acct.zero 0) rfl,
        Tab.get_map_eq (p := Acct.busy) (a := Acct.zero (s.windowOf (s.spender k)).1) (b := Acct.zero 0) rfl]
  · have hexec : execTallyWindowClose 0 s = .next (s.closePeriod 0) := by
      unfold execTallyWindowClose
      rw [if_neg (by simp [he]), if_pos rfl]
    exact ⟨_, hexec, (metered_closePeriod s 0).tallyRest, s.closePeriod_facts 0⟩
  · have hexec : execTallyWindowClose pond s = .next (s.closeBeatWindow pond 0) := by
      unfold execTallyWindowClose
      rw [if_neg (by simp [he]), if_neg h0, if_pos hp]
    exact ⟨_, hexec, (metered_closeBeatWindow s pond 0).tallyRest, s.closeBeatWindow_facts pond 0⟩
  · have hexec := execTallyCoef_eq ho hs
    obtain ⟨hop, hrun⟩ := State.go?_some ho
    refine ⟨_, hexec, fun hbad => if_pos ?_, fun ⟨h1, h2, h3⟩ hv => ?_, fun ⟨h1, h2, h3⟩ hv => ?_⟩
    · cases h1 : (s.plotOf (fld o.desc 0x20 0 43)).any (fun p => p.owner = 0) with
      | false => rfl
      | true =>
        cases h2 : s.poisonIn (fld o.desc 0x20 0 43) 512 with
        | true => rfl
        | false =>
          cases h3 : coefOk (s.readPub (fld o.desc 0x20 0 43) 512) with
          | false => rfl
          | true => exact absurd ⟨h1, h2, h3⟩ hbad
    · rw [if_neg (by simp [h1, h2, h3]), parseCoef_version]
      exact if_pos hv
    · rw [if_neg (by simp [h1, h2, h3]), parseCoef_version, if_neg (Nat.not_lt.2 hv)]
      have hc := fun c : Coef => State.succeed_ended (s := s.withCoef c) (op := op) ((State.withCoef_op? ..).trans hop) (by rw [State.phase_of_go? ho]; decide)
      generalize parseCoef (s.readPub (fld o.desc 0x20 0 43) 512) false = c
      obtain ⟨k1, k2, k3, -⟩ := hc c
      have hmem : ((s.withCoef c).succeed op).mem = s.mem := k2.trans (State.post_mem ..)
      refine ⟨?_, fun k h512 hp hk => State.withCoef_coefFor k3 hmem h512 hp hk, hmem, k1⟩
      rw [k3, State.withCoef, State.post_tally, State.setTally_tally]
  · obtain ⟨hop, hrun⟩ := State.go?_some ho
    have hexec : execTallyClose op s = .next (s.recorded op o (.receipt o.acct (fld o.desc 0x20 0 55) o.fn o.ctx o.pond)) := by
      unfold execTallyClose
      rw [ho]
      exact if_pos hn
    obtain ⟨k1, k2, k3, k4⟩ := State.succeed_ended (s := s.modSluice o.sluice (fun e => { e with
      recorded := e.recorded ++ [.receipt o.acct (fld o.desc 0x20 0 55) o.fn o.ctx o.pond] })) (op := op) hop
      (by rw [State.phase_of_go? ho]; decide)
    refine ⟨_, hexec, ?_, k1, k2, k3⟩
    rw [State.recorded, k4, State.modSluice_at?_self, hsl]
    rfl
  · show execTallyClose op s = _
    unfold execTallyClose
    rw [ho]
    dsimp only
    rw [if_neg (by simp [h0]), hw]
  · show execRecordSign s = _
    unfold execRecordSign
    rw [hg]
    exact if_pos (by simp [hr])
  · show execRecordSign s = _
    unfold execRecordSign
    rw [hg]
    exact (if_neg (by simpa using hr)).trans (if_pos (by simp [hq]))
  · have hexec : execTallyCheckpoint s = .next (s.writeCheckpoint s.lcState) := by
      unfold execTallyCheckpoint
      rw [if_neg (by simp [hm]), if_pos hup]
    have hck : s.writeCheckpoint s.lcState = _ := if_neg (by simp [hk, hh])
    rw [hck] at hexec
    exact ⟨_, _, hexec, rfl, rfl, rfl, rfl, rfl, rfl, ⟨rfl, rfl, rfl, rfl, rfl⟩, rfl⟩
  · obtain ⟨h1, h2⟩ := (s.setTally (fun t => { t with head := head % 2 ^ t.log2 })).drainAll_frame
    refine ⟨_, rfl, ((metered_setTally ..).trans h1).tallyRest, h2, fun hb hf => ?_, fun r hb hf hm he ht hl => ?_⟩
    · rw [State.drainAll_of_empty (s := s.setTally (fun t => { t with head := head % 2 ^ t.log2 })) hb hf]
      exact ⟨rfl, rfl⟩
    · have hopen : (s.setTally (fun t => { t with head := head % 2 ^ t.log2 })).ringOpen = true := State.ringOpen_of hm he ht hl
      obtain ⟨k1, k2, -, -, -, k6⟩ := ((s.setTally (fun t => { t with head := head % 2 ^ t.log2 })).setTally
        (fun t => { t with backlog := [] })).writeRec_facts r
      rw [State.drainAll_one (s := s.setTally (fun t => { t with head := head % 2 ^ t.log2 })) hb hf hopen]
      exact ⟨rfl, k1, k2, k6⟩
  · have hms := s.tally.timed_periodMs (bitsOf value 1 10) (bitsOf value 11 10)
    cases hv : bitOf value 0 with
    | true =>
      cases he : s.tally.enable with
      | true =>
        refine ⟨_, execTallyEnableWrite_same (he.trans hv.symm), (metered_setTally ..).tallyRest, he, hms, fun h => ?_, fun _ h => ?_⟩
        · cases h
        · cases h
      | false =>
        obtain ⟨t, hexec, hmt, hr⟩ := execTallyEnableWrite_on hv he
        obtain ⟨k1, k2, k3, k4, k5⟩ := hr.facts
        refine ⟨t, hexec, hmt.tallyRest, k1, k2.trans hms, fun h => ?_, fun _ _ => ⟨k3, k4, k5⟩⟩
        cases h
    | false =>
      cases he : s.tally.enable with
      | true =>
        refine ⟨_, execTallyEnableWrite_off hv he, ((metered_setTally ..).trans (metered_setTally ..)).tallyRest, rfl, hms,
          fun _ _ => ⟨rfl, rfl, rfl⟩, fun h => ?_⟩
        cases h
      | false =>
        refine ⟨_, execTallyEnableWrite_same (he.trans hv.symm), (metered_setTally ..).tallyRest, he, hms, fun _ h => ?_, fun h => ?_⟩
        · cases h
        · cases h

end Sys2Proof.Machine
end

section
/-! What a fence keeps (R307 to R311): the boot part, the security block and every fence that stood. -/

namespace Sys2Proof.Machine

/-- A step of a fence: no fence ends, and the boot part, the security block and the seams' replay counts stand. -/
structure Fences (s t : State) : Prop where
  boot : t.boot = s.boot
  sec : t.sec = s.sec
  replays : t.mem.seamReplays = s.mem.seamReplays
  fences : s.mem.fences ⊆ t.mem.fences

@[refl] theorem Fences.refl (s : State) : Fences s s := ⟨rfl, rfl, rfl, List.Subset.refl _⟩

theorem Fences.trans {s t u : State} (h : Fences s t) (k : Fences t u) : Fences s u :=
  ⟨k.boot.trans h.boot, k.sec.trans h.sec, k.replays.trans h.replays, fun _ hu => k.fences (h.fences hu)⟩

theorem Fences.foldl_on {α β : Type} (p : α → State) {g : α → β → α} (hg : ∀ x b, Fences (p x) (p (g x b))) (l : List β) (x : α) :
    Fences (p x) (p (l.foldl g x)) := by
  induction l generalizing x with
  | nil => exact .refl _
  | cons b l ih => exact (hg x b).trans (ih _)

theorem Fences.foldl {β : Type} {g : State → β → State} (hg : ∀ s b, Fences s (g s b)) (l : List β) (s : State) :
    Fences s (l.foldl g s) := Fences.foldl_on id hg l s

theorem Fences.ite {c : Prop} [Decidable c] {s t u : State} (ht : Fences s t) (hu : Fences s u) : Fences s (if c then t else u) := by
  split
  · exact ht
  · exact hu

theorem Apart.toFences {s t : State} (h : Apart s t) : Fences s t :=
  ⟨h.boot, h.sec, by rw [h.mem], by rw [h.mem]; exact List.Subset.refl _⟩

theorem fences_post (s : State) (f code payload : Nat) : Fences s (s.post f code payload) := (apart_post ..).toFences
theorem fences_modPond (s : State) (h : Nat) (g : Pond → Pond) : Fences s (s.modPond h g) := ⟨rfl, rfl, rfl, List.Subset.refl _⟩
theorem fences_modSluice (s : State) (k : Nat) (g : Sluice → Sluice) : Fences s (s.modSluice k g) := (apart_modSluice ..).toFences
theorem fences_abortSluice (s : State) (k reason src : Nat) : Fences s (s.abortSluice k reason src) := (apart_abortSluice ..).toFences
theorem fences_takeFree (s : State) : Fences s s.takeFree.2 := ⟨rfl, rfl, rfl, List.Subset.refl _⟩

theorem fences_rebindFaults (s : State) (us : List Nat) : Fences s (s.rebindFaults us) := by
  unfold State.rebindFaults
  refine Fences.foldl (fun s p => ?_) _ _
  split
  · exact (apart_decide ..).toFences.trans (fences_modPond ..)
  · exact .refl s

theorem fences_struck (s : State) (us : List Nat) : Fences s (s.struck us).2.2 := by
  unfold State.struck State.caught
  refine Fences.foldl_on (α := List Nat × State) Prod.snd ?_ _ ([], s)
  exact fun _ _ => fences_takeFree _

theorem fences_unstage (s : State) (slu op : Nat) : Fences s (s.unstage slu op) := by
  unfold State.unstage
  split
  · exact .refl s
  · exact (fences_modSluice ..).trans (Fences.foldl (fun _ _ => (apart_send ..).toFences) _ _)

theorem fences_strike (s : State) (id status detail : Nat) : Fences s (s.strike id status detail) := by
  unfold State.strike
  split
  · exact .refl s
  · refine .ite (apart_endOp ..).toFences (.ite (.refl s) (.ite ?_ (apart_endOp ..).toFences))
    exact ((fences_unstage ..).trans (apart_dropRun ..).toFences).trans (apart_modOp ..).toFences

theorem fences_strikeAll (s : State) (l : List (Nat × Nat × Nat)) : Fences s (s.strikeAll l) := by
  unfold State.strikeAll
  refine (Fences.foldl (fun _ _ => fences_strike ..) _ _).trans (Fences.foldl (fun s x => ?_) _ _)
  split
  · exact .ite (fences_abortSluice ..) (.refl s)
  · exact .refl s

theorem fences_saveFence (s : State) (u : Nat) : Fences s (s.saveFence u) := by
  unfold State.saveFence
  exact .ite (.refl s) (.ite (fences_post ..) ⟨rfl, rfl, rfl, List.Subset.refl _⟩)

theorem fences_poisonGranule (s : State) (off cause cls unit : Nat) : Fences s (s.poisonGranule off cause cls unit) := by
  unfold State.poisonGranule
  split
  · exact .refl s
  · refine .ite (.refl s) ?_
    dsimp only
    refine .ite ⟨rfl, rfl, rfl, List.Subset.refl _⟩ (Fences.trans ?_ (fences_post ..))
    exact ⟨rfl, rfl, rfl, List.Subset.refl _⟩

theorem fences_poisonLine (s : State) (line cause cls unit : Nat) : Fences s (s.poisonLine line cause cls unit) :=
  (fences_poisonGranule ..).trans (fences_poisonGranule ..)

theorem fences_loseStaged (s : State) (lost : Nat → Nat → Bool) (cls unit : Nat) : Fences s (s.loseStaged lost cls unit) := by
  unfold State.loseStaged
  refine Fences.foldl (fun s p => .ite ?_ (fences_abortSluice ..)) _ _
  exact (fences_modSluice ..).trans (Fences.foldl (fun _ _ => fences_poisonLine ..) _ _)

theorem fences_spilledOnChan (s : State) (c : Nat) : Fences s (s.spilledOnChan c).2 := by
  unfold State.spilledOnChan
  refine Fences.foldl_on (α := List (Nat × Nat) × State) Prod.snd ?_ _ ([], s)
  exact fun _ _ => fences_takeFree _

/-- A change of memory that keeps its fences and replay counts. -/
theorem fences_withMem {s : State} {m : MemPart} (hf : m.fences = s.mem.fences) (hr : m.seamReplays = s.mem.seamReplays) :
    Fences s { s with mem := m } := ⟨rfl, rfl, hr, by rw [hf]; exact List.Subset.refl _⟩

theorem fences_unitGone (s was : State) (u : Nat) : Fences s (s.unitGone was u) := by
  unfold State.unitGone
  refine .ite ⟨rfl, rfl, rfl, List.Subset.refl _⟩ (.ite ?_ (.ite ?_ (.ite ?_ (.ite ?_ (.refl s)))))
  · exact ((fences_spilledOnChan ..).trans (fences_loseStaged ..)).trans (fences_withMem rfl rfl)
  · exact ((fences_loseStaged ..).trans (Fences.foldl (fun _ _ => fences_poisonLine ..) _ _)).trans (fences_withMem rfl rfl)
  · refine Fences.foldl ?_ _ _
    exact fun _ _ => ⟨rfl, rfl, rfl, List.Subset.refl _⟩
  · exact Fences.foldl (fun _ _ => fences_abortSluice ..) _ _

theorem fences_chosenTile (x : Chosen) (h : Nat) (vane : Bool) (rank t : Nat) : Fences x.s (x.tile h vane rank t).s := by
  unfold Chosen.tile
  split
  · exact .refl _
  · exact fences_modPond ..

theorem fences_chosenSubl (x : Chosen) (h l : Nat) : Fences x.s (x.subl h l).s := by
  unfold Chosen.subl
  split
  · exact .refl _
  · exact (fences_modPond ..).trans (fences_modPond ..)

theorem fences_chosenEngine (x : Chosen) (h e : Nat) : Fences x.s (x.engine h e).s := by
  unfold Chosen.engine
  split
  · exact .refl _
  · exact (fences_modPond ..).trans (fences_modPond ..)

theorem fences_chosenAgain (x : Chosen) (h : Nat) (r : RegrowKind) : Fences x.s (x.again h r).s := by
  unfold Chosen.again
  split
  · exact fences_chosenTile ..
  · exact fences_chosenSubl ..
  · exact fences_chosenEngine ..
  · exact .refl _

theorem fences_postLost (s : State) (f cls action unit pond : Nat) (holes : List (Nat × Bool × Nat)) :
    Fences s (s.postLost f cls action unit pond holes) := by
  unfold State.postLost
  exact Fences.foldl (fun _ _ => fences_post ..) _ _

theorem fences_pondLoses (s : State) (h cls unit : Nat) (us : List Nat) (planned : Bool) :
    Fences s (s.pondLoses h cls unit us planned) := by
  unfold State.pondLoses
  split
  · exact .refl s
  · extract_lets tiles chans again lostPlot s0 x0 x1 x2 x3 x4 fates a
    have h0 : Fences s x0.s := (fences_modPond s h _).trans
      (Fences.foldl_on Chosen.s (fun _ _ => fences_chosenAgain ..) again { s := s0, holes := [], others := [] })
    have h1 : Fences s x1.s := h0.trans (Fences.foldl_on Chosen.s (fun _ _ => fences_chosenTile ..) _ _)
    have h2 : Fences s x2.s := h1.trans (Fences.foldl_on Chosen.s (fun _ _ => fences_chosenTile ..) _ _)
    have h3 : Fences s x3.s := h2.trans (Fences.foldl_on Chosen.s (fun _ _ => fences_chosenSubl ..) _ _)
    have h4 : Fences s x4.s := h3.trans (Fences.foldl_on Chosen.s (fun _ _ => fences_chosenEngine ..) _ _)
    exact .ite h4 (h4.trans ((fences_postLost ..).trans (fences_postLost ..)))

theorem fences_releaseReruns (s : State) (ids : List Nat) : Fences s (s.releaseReruns ids) := by
  unfold State.releaseReruns
  refine Fences.foldl (fun s i => ?_) _ _
  split
  · split
    · exact .ite (apart_modOp ..).toFences (.refl s)
    · exact .refl s
  · exact .refl s

/-- A set of units fenced (R307): every unit of it is fenced afterwards. -/
theorem State.fenceUnits_facts (s : State) (cls unit : Nat) (us : List Nat) (planned : Bool) :
    Fences s (s.fenceUnits cls unit us planned) ∧ ∀ u ∈ us, u ∈ (s.fenceUnits cls unit us planned).mem.fences := by
  unfold State.fenceUnits
  extract_lets new s1 named
  split
  · next hnone =>
    refine ⟨.refl s, fun u hu => ?_⟩
    by_contra hf
    have hmem : u ∈ new := List.mem_filter.2 ⟨hu, by simpa using hf⟩
    rw [List.isEmpty_iff.1 hnone] at hmem
    cases hmem
  · have h12 := fences_struck s1 new
    generalize s1.struck new = x at h12 ⊢
    obtain ⟨hit, mesh, s2⟩ := x
    dsimp -zeta only
    extract_lets m3 s3 s4 s5 r6 s6 ponds s7 shaken s8
    have h2 : Fences s s2 := (fences_rebindFaults s new).trans h12
    have h3 : Fences s s3 := h2.trans ⟨rfl, rfl, rfl, List.subset_append_left ..⟩
    have h4 : Fences s3 s4 := (Fences.foldl fences_saveFence new s3).trans (fences_strikeAll ..)
    have h5 : Fences s4 s5 := Fences.foldl (fun _ _ => fences_unitGone ..) _ _
    have h6 : Fences s5 s6 := ⟨rfl, rfl, rfl, List.Subset.refl _⟩
    have h7 : Fences s6 s7 := Fences.foldl (fun _ _ => fences_pondLoses ..) _ _
    have h8 : Fences s7 s8 := by
      refine .ite (fences_postLost ..) (.ite (fences_postLost ..) (Fences.foldl (fun s h => ?_) _ _))
      split
      · exact (fences_postLost ..).trans (fences_postLost ..)
      · exact .refl s
    have hend : Fences s3 (s8.releaseReruns (hit.map (·.1))) :=
      h4.trans (h5.trans (h6.trans (h7.trans (h8.trans (fences_releaseReruns ..)))))
    refine ⟨h3.trans hend, fun u hu => ?_⟩
    by_cases hf : u ∈ s.mem.fences
    · exact (h3.trans hend).fences hf
    · exact hend.fences (List.mem_append_right _ (List.mem_filter.2 ⟨hu, by simpa using hf⟩))

theorem State.fatalError_frame (s : State) (code : Nat) : Fences s (s.fatalError code) := by
  unfold State.fatalError
  exact .ite (.refl s) ⟨rfl, rfl, rfl, List.Subset.refl _⟩

/-! Firmware that waits for a fence is loaded, which touches no memory (R631, R632). -/

theorem State.loadNewt_mem (s : State) (d slot : Nat) (i : Image) : (s.loadNewt d slot i).mem = s.mem :=
  (s.loadNewt_facts d slot i).2.2.2.1

theorem State.loadPort_mem (s : State) (port slot : Nat) (i : Image) : (s.loadPort port slot i).mem = s.mem := by
  unfold State.loadPort
  dsimp only
  split
  · rw [State.fwActivated, State.post_mem]
    rfl
  · rfl

theorem State.tryActivate_mem (s : State) (comp slot : Nat) : (s.tryActivate comp slot).1.mem = s.mem := by
  unfold State.tryActivate
  split
  · rfl
  · next i hi =>
    dsimp only
    split
    · split
      · exact s.loadNewt_mem ..
      · rfl
    · generalize List.filter _ _ = l
      suffices h : ∀ u : State, (l.foldl (fun s p => s.loadPort p (slot % 2) i) u).mem = u.mem from h s
      induction l with
      | nil => exact fun u => rfl
      | cons p l ih => exact fun u => (ih _).trans (u.loadPort_mem ..)

theorem State.loadPending_mem (s : State) : s.loadPending.mem = s.mem := by
  unfold State.loadPending
  generalize s.boot.activating = l
  induction l generalizing s with
  | nil => rfl
  | cons x l ih =>
    refine (ih _).trans ?_
    dsimp only
    split
    · exact s.tryActivate_mem ..
    · exact s.tryActivate_mem ..

theorem State.loadPending_none {s : State} (h : s.boot.activating = []) : s.loadPending = s := by
  unfold State.loadPending
  rw [h]
  rfl

/-- A unit fenced (R307): its closure is fenced, no fence ends, the replay counts stand; where no activation waits, the boot
part and the security block stand too. -/
theorem State.fence_facts (s : State) (cls unit : Nat) (planned : Bool) :
    (∀ u ∈ unitClosure cls unit, u ∈ (s.fence cls unit planned).mem.fences)
      ∧ s.mem.fences ⊆ (s.fence cls unit planned).mem.fences
      ∧ (s.fence cls unit planned).mem.seamReplays = s.mem.seamReplays
      ∧ (s.boot.activating = [] → Fences s (s.fence cls unit planned)) := by
  unfold State.fence
  extract_lets s1 s2
  obtain ⟨h1, hu⟩ := s.fenceUnits_facts cls unit (unitClosure cls unit) planned
  have h2 : Fences s1 s2 := Fences.foldl (fun s d => (s.fenceUnits_facts 10 d (unitClosure 10 d) false).1) _ _
  split
  · have h3 := h2.trans (s2.fatalError_frame hostPathLost)
    exact ⟨fun u hm => h3.fences (hu u hm), (h1.trans h3).fences, (h1.trans h3).replays, fun _ => h1.trans h3⟩
  · rw [State.loadPending_mem]
    refine ⟨fun u hm => h2.fences (hu u hm), (h1.trans h2).fences, (h1.trans h2).replays, fun ha => ?_⟩
    rw [State.loadPending_none (by rw [(h1.trans h2).boot, ha])]
    exact h1.trans h2

end Sys2Proof.Machine
end

section
/-! Resets and boot (R610 to R625). -/

namespace Sys2Proof.Machine

theorem exec_perstNAssert (s : State) : exec .perstNAssert s = execPerstNAssert s := rfl
theorem exec_perstNRelease (s : State) : exec .perstNRelease s = execPerstNRelease s := rfl
theorem exec_hotReset (s : State) : exec .hotReset s = execHotReset s := rfl
theorem exec_pfFlr (s : State) : exec .pfFlr s = execPfFlr s := rfl
theorem exec_deviceResetDelay (s : State) : exec .deviceResetDelay s = execDeviceResetDelay s := rfl
theorem exec_powerOnReset (s : State) : exec .powerOnReset s = execPowerOnReset s := rfl
theorem exec_bootStepDone (ok : Bool) (s : State) : exec (.bootStepDone ok) s = execBootStepDone ok s := rfl
theorem exec_mwStartTimeout (s : State) : exec .mwStartTimeout s = execMwStartTimeout s := rfl

theorem State.post_fab (s : State) (f code payload : Nat) : (s.post f code payload).fab = s.fab := by
  obtain ⟨⟨_, _, _, h⟩, -⟩ := told_post s f code payload
  rw [h]

/-! What a device reset clears and keeps (R610 to R614). -/

/-- What R610 and R611 say of every device reset. -/
structure ResetBy (cause : Nat) (s t : State) : Prop where
  host : t.host.fns = [] ∧ t.host.ctxs = [] ∧ t.host.slots = [] ∧ t.host.setupLock = false ∧ t.host.writes = s.host.writes
  work : t.work.ops = [] ∧ t.work.sluices = []
  mem : t.mem.ponds = [] ∧ t.mem.remap = [] ∧ t.mem.hbm = [] ∧ t.mem.sram = [] ∧ t.mem.prog = [] ∧ t.mem.loft = []
  fences : t.mem.fences = listedFences s.ras.flashFences ∧ t.ras.flashFences = s.ras.flashFences ∧ t.ras.fatal = false
  engines : t.eng.groups = [] ∧ t.eng.runs = [] ∧ t.xlat.windows = []
  fabric : t.fab.meres = [] ∧ t.fab.pushIn = [] ∧ t.fab.pushOut = []
  clock : t.clk.tb = s.clk.tb ∧ t.clk.uncertain = s.clk.uncertain ∧ t.clk.wordLo = s.clk.wordLo ∧ t.clk.wordHi = s.clk.wordHi
  tally : t.tally.seq = s.tally.seq ∧ t.tally.hash = s.tally.hash ∧ t.tally.enable = false
  outside : t.pwr.trip = s.pwr.trip ∧ t.sec.lcFuse = s.sec.lcFuse
  boot : t.boot.slots = s.boot.slots ∧ t.boot.config = s.boot.config ∧ t.boot.ready = false
  cause : t.boot.cause = cause + (if s.ras.fatal then 1024 + s.ras.fatalCode % 16 * 2048 else 0)

theorem resetBy_deviceReset (s : State) (cause : Nat) : ResetBy cause s (s.deviceReset cause) :=
  ⟨⟨rfl, rfl, rfl, rfl, rfl⟩, ⟨rfl, rfl⟩, ⟨rfl, rfl, rfl, rfl, rfl, rfl⟩, ⟨rfl, rfl, rfl⟩, ⟨rfl, rfl, rfl⟩, ⟨rfl, rfl, rfl⟩,
    ⟨rfl, rfl, rfl, rfl⟩, ⟨rfl, rfl, rfl⟩, ⟨rfl, rfl⟩, ⟨rfl, rfl, rfl⟩, rfl⟩

theorem resetBy_resetAndBoot (s : State) (cause : Nat) : ResetBy cause s (s.resetAndBoot cause) :=
  ⟨⟨rfl, rfl, rfl, rfl, rfl⟩, ⟨rfl, rfl⟩, ⟨rfl, rfl, rfl, rfl, rfl, rfl⟩, ⟨rfl, rfl, rfl⟩, ⟨rfl, rfl, rfl⟩, ⟨rfl, rfl, rfl⟩,
    ⟨rfl, rfl, rfl, rfl⟩, ⟨rfl, rfl, rfl⟩, ⟨rfl, rfl⟩, ⟨rfl, rfl, rfl⟩, rfl⟩

/-- The same as one conjunction, in the order of R610 to R614. -/
theorem ResetBy.all {cause : Nat} {s t : State} (h : ResetBy cause s t) :
    t.host.fns = [] ∧ t.host.ctxs = [] ∧ t.host.slots = [] ∧ t.host.setupLock = false ∧ t.work.ops = [] ∧ t.work.sluices = []
      ∧ t.mem.ponds = [] ∧ t.mem.remap = [] ∧ t.mem.hbm = [] ∧ t.mem.sram = [] ∧ t.mem.prog = [] ∧ t.mem.loft = []
      ∧ t.eng.groups = [] ∧ t.eng.runs = [] ∧ t.xlat.windows = [] ∧ t.fab.meres = [] ∧ t.fab.pushIn = [] ∧ t.fab.pushOut = []
      ∧ t.mem.fences = listedFences s.ras.flashFences ∧ t.ras.flashFences = s.ras.flashFences ∧ t.ras.fatal = false
      ∧ t.clk.tb = s.clk.tb ∧ t.clk.uncertain = s.clk.uncertain ∧ t.clk.wordLo = s.clk.wordLo ∧ t.clk.wordHi = s.clk.wordHi
      ∧ t.tally.seq = s.tally.seq ∧ t.tally.hash = s.tally.hash ∧ t.tally.enable = false ∧ t.pwr.trip = s.pwr.trip
      ∧ t.host.writes = s.host.writes ∧ t.sec.lcFuse = s.sec.lcFuse ∧ t.boot.slots = s.boot.slots
      ∧ t.boot.config = s.boot.config ∧ t.boot.ready = false
      ∧ t.boot.cause = cause + (if s.ras.fatal then 1024 + s.ras.fatalCode % 16 * 2048 else 0) := by
  obtain ⟨⟨a1, a2, a3, a4, a5⟩, ⟨b1, b2⟩, ⟨c1, c2, c3, c4, c5, c6⟩, ⟨d1, d2, d3⟩, ⟨e1, e2, e3⟩, ⟨f1, f2, f3⟩, ⟨g1, g2, g3, g4⟩,
    ⟨i1, i2, i3⟩, ⟨j1, j2⟩, ⟨k1, k2, k3⟩, l⟩ := h
  exact ⟨a1, a2, a3, a4, b1, b2, c1, c2, c3, c4, c5, c6, e1, e2, e3, f1, f2, f3, d1, d2, d3, g1, g2, g3, g4, i1, i2, i3, j1, a5,
    j2, k1, k2, k3, l⟩

/-- Taking PERST_N's level changes nothing that a reset leaves. -/
theorem ResetBy.held {cause : Nat} {s t : State} (h : ResetBy cause s t) : ResetBy cause s (t.setBoot (fun b => { b with perst := true })) :=
  ⟨h.host, h.work, h.mem, h.fences, h.engines, h.fabric, h.clock, h.tally, h.outside, h.boot, h.cause⟩

theorem State.resetAndBoot_stage (s : State) (cause : Nat) : (s.resetAndBoot cause).boot.stage = 1 := rfl
theorem State.deviceReset_stage (s : State) (cause : Nat) : (s.deviceReset cause).boot.stage = 0 := rfl

/-- A function-level reset of the physical function keeps the host link (R375). -/
theorem State.resetAndBoot_flr (s : State) : (s.resetAndBoot Cause.flr).host.cxl = s.host.cxl
    ∧ (s.resetAndBoot Cause.flr).host.speed = s.host.speed := ⟨rfl, rfl⟩

/-- A power-on reset, whether the device then goes up or waits (R610, R666). -/
theorem State.powerOnReset_tryPowerUp (s : State) :
    let t := s.powerOnReset.tryPowerUp
    t.clk.tb = 0 ∧ t.clk.uncertain = true ∧ t.tally.seq = 0 ∧ t.pwr.trip = false ∧ t.mem.hbm = [] ∧ t.work.ops = []
      ∧ t.host.fns = [] ∧ t.host.setupLock = false ∧ t.sec.lcFuse = s.sec.lcFuse ∧ t.boot.slots = s.boot.slots
      ∧ t.ras.flashFences = s.ras.flashFences := by
  unfold State.tryPowerUp
  dsimp only
  split
  · exact ⟨rfl, rfl, rfl, rfl, rfl, rfl, rfl, rfl, rfl, rfl, rfl⟩
  · exact ⟨rfl, rfl, rfl, rfl, rfl, rfl, rfl, rfl, rfl, rfl, rfl⟩

/-! The steps of boot (R619). -/

theorem State.nextStage_frame (s : State) (k : Nat) : (s.nextStage k).mem = s.mem ∧ (s.nextStage k).sec = s.sec
    ∧ (s.nextStage k).boot.stage = k ∧ (s.nextStage k).fab = s.fab ∧ (s.nextStage k).pwr = s.pwr
    ∧ (s.nextStage k).tally = s.tally := ⟨rfl, rfl, rfl, rfl, rfl, rfl⟩

section Stages

variable {s : State} (hr : s.boot.ready = false) (hp : s.boot.perst = false) (hb : s.boot.bootFail = false) (ok : Bool)
include hr hp hb

theorem execBootStepDone_one (h : s.boot.stage = 1) : execBootStepDone ok s = .next (s.nextStage 2) := by
  simp only [execBootStepDone, hr, hp, hb, h, Bool.or_self, Bool.false_eq_true, if_false]

theorem execBootStepDone_two (h : s.boot.stage = 2) :
    execBootStepDone ok s = .next ((s.setSec (fun k => { k with lcFuse := lcFix k.lcFuse })).nextStage 3) := by
  simp only [execBootStepDone, hr, hp, hb, h, Bool.or_self, Bool.false_eq_true, if_false]

theorem execBootStepDone_three (h : s.boot.stage = 3) : execBootStepDone ok s = .next (s.pufAttempt ok) := by
  simp only [execBootStepDone, hr, hp, hb, h, Bool.or_self, Bool.false_eq_true, if_false]

theorem execBootStepDone_four (h : s.boot.stage = 4) : execBootStepDone ok s = .next s.startMillwright := by
  simp only [execBootStepDone, hr, hp, hb, h, Bool.or_self, Bool.false_eq_true, if_false]

theorem execBootStepDone_five (h : s.boot.stage = 5) :
    execBootStepDone ok s = .next (if s.lcState = 4 then s.readConfig else (s.readConfig).nextStage 6) := by
  simp only [execBootStepDone, hr, hp, hb, h, Bool.or_self, Bool.false_eq_true, if_false]
  split
  · rfl
  · rfl

theorem execBootStepDone_six (h : s.boot.stage = 6) : execBootStepDone ok s = .next (((List.range 4).foldl (fun s d => s.bootXdie d)
    ((List.range 4).foldl (fun s d => s.bootNewt d) s)).nextStage 7) := by
  simp only [execBootStepDone, hr, hp, hb, h, Bool.or_self, Bool.false_eq_true, if_false]

theorem execBootStepDone_seven (h : s.boot.stage = 7) : execBootStepDone ok s = .next (s.bootIslands.nextStage 8) := by
  simp only [execBootStepDone, hr, hp, hb, h, Bool.or_self, Bool.false_eq_true, if_false]

theorem execBootStepDone_eight (h : s.boot.stage = 8) :
    execBootStepDone ok s = .next ((s.resumeTally.nextStage 8).setBoot (fun b => { b with ready := true })) := by
  simp only [execBootStepDone, hr, hp, hb, h, Bool.or_self, Bool.false_eq_true, if_false]

end Stages

/-! Step 3: the PUF (R562 to R564, R576). -/

theorem State.pufAttempt_scrapped {s : State} (h : s.lcState = 4) (ok : Bool) :
    s.pufAttempt ok = (s.setSec (fun k => { k with keyless := 3 })).nextStage 4 := by
  unfold State.pufAttempt
  exact if_pos h

theorem State.pufAttempt_ok {s : State} (h : s.lcState ≠ 4) (hh : s.sec.helper = some helperTag) :
    s.pufAttempt true = (s.setSec (fun k => { k with hasKey := true })).nextStage 4 := by
  unfold State.pufAttempt
  rw [if_neg h, hh]
  generalize helperTag = tag
  simp

theorem State.pufAttempt_fails {s : State} (h : s.lcState ≠ 4) {tag : List Byte} (hh : s.sec.helper = some tag) :
    s.pufAttempt false = if s.sec.pufFails + 1 < 3 then s.setSec (fun k => { k with pufFails := k.pufFails + 1 })
      else (s.setSec (fun k => { k with pufFails := k.pufFails + 1, keyless := 2 })).nextStage 4 := by
  unfold State.pufAttempt
  rw [if_neg h, hh]
  generalize helperTag = other
  simp

/-! Step 5: the configuration (R484, R622). -/

/-- A rejection sets the join's state and its cause; memory and the boot part stand (R492). -/
theorem State.reject_facts (s : State) (cause : Nat) : (s.reject cause).mem = s.mem ∧ (s.reject cause).boot = s.boot
    ∧ (s.reject cause).fab.join = .rejected ∧ (s.reject cause).fab.cause = cause ∧ (s.reject cause).fab.group = s.fab.group := by
  unfold State.reject
  dsimp only
  rw [State.post_mem, State.post_boot, State.post_fab]
  exact ⟨rfl, rfl, rfl, rfl, rfl⟩

/-- What the configuration gives (R484, R622). -/
theorem State.readConfig_facts (s : State) :
    let g := bitsOf (leNat (s.boot.config.take 4)) 8 8
    s.readConfig.mem = s.mem ∧ s.readConfig.boot.stage = s.boot.stage
      ∧ (configOk s.boot.config = true → g < 128 → s.readConfig.fab.devId = g * 256 + s.fab.member ∧ s.readConfig.fab.group = some g)
      ∧ (configOk s.boot.config = true → 128 ≤ g → s.readConfig.fab.join = .rejected ∧ s.readConfig.fab.cause = 1)
      ∧ (configOk s.boot.config = false → s.readConfig.fab.join = .rejected ∧ s.readConfig.fab.cause = 4
        ∧ s.readConfig.fab.group = none) := by
  unfold State.readConfig
  extract_lets g c g1 s1
  cases hc : configOk s.boot.config with
  | false =>
    rw [if_pos (by rfl)]
    obtain ⟨h1, h2, h3, h4, h5⟩ := (s.setFab (fun f => { f with group := none })).reject_facts 4
    refine ⟨h1, congrArg BootPart.stage h2, fun h => ?_, fun h => ?_, fun _ => ⟨h3, h4, h5⟩⟩
    · cases h
    · cases h
  | true =>
    rw [if_neg (by simp)]
    by_cases hg : g1 < 128
    · rw [if_pos hg]
      refine ⟨rfl, rfl, fun _ _ => ⟨if_pos hg, rfl⟩, fun _ h => absurd hg (Nat.not_lt.2 h), fun h => ?_⟩
      cases h
    · rw [if_neg hg]
      obtain ⟨h1, h2, h3, h4, -⟩ := s1.reject_facts 1
      refine ⟨h1, (congrArg BootPart.stage h2).trans rfl, fun _ h => absurd h hg, fun _ _ => ⟨h3, h4⟩, fun h => ?_⟩
      cases h

/-! Step 6: firmware loaded into the dies (R619, R620). -/

/-- A step of loading at boot: flash, the security block and the list of waiting activations stand, and no fence ends. -/
structure Loads (s t : State) : Prop where
  slots : t.boot.slots = s.boot.slots
  activating : t.boot.activating = s.boot.activating
  sec : t.sec = s.sec
  fences : s.mem.fences ⊆ t.mem.fences

@[refl] theorem Loads.refl (s : State) : Loads s s := ⟨rfl, rfl, rfl, List.Subset.refl _⟩

theorem Loads.trans {s t u : State} (h : Loads s t) (k : Loads t u) : Loads s u :=
  ⟨k.slots.trans h.slots, k.activating.trans h.activating, k.sec.trans h.sec, fun _ hu => k.fences (h.fences hu)⟩

theorem Fences.loads {s t : State} (h : Fences s t) : Loads s t := ⟨by rw [h.boot], by rw [h.boot], h.sec, h.fences⟩

theorem State.slotImage_congr {s t : State} (h : Loads s t) (slot : Nat) : t.slotImage slot = s.slotImage slot := by
  have hacc : ∀ k i, t.accepts k i = s.accepts k i := fun k i => by rw [State.accepts, State.accepts, State.lcState, State.lcState, h.sec]
  rw [State.slotImage, State.slotImage, h.slots]
  exact congrArg (fun p => Option.filter p _) (funext fun i => hacc _ i)

/-- Which slot boots does not change while firmware is loaded. -/
theorem Loads.bootSlot {s t : State} (h : Loads s t) (first active : Nat) : t.bootSlot first active = s.bootSlot first active := by
  unfold State.bootSlot
  rw [State.slotImage_congr h, State.slotImage_congr h]

theorem getAt_setAt_ne {α : Type} (d v : α) (l : List α) {i j : Nat} (h : j ≠ i) : getAt d (setAt l i v) j = getAt d l j := by
  rw [getAt, getAt, setAt_eq_set, List.getElem?_set_ne (Ne.symm h)]

/-- A die whose Newt microcode has been loaded, or that is fenced because no slot boots (R620). -/
def NewtBooted (s : State) (d : Nat) (t : State) : Prop :=
  (∀ slot i, s.bootSlot 2 (getAt 0 s.boot.newtActive d) = some (slot, i) →
      t.boot.newtRuns.at? d = some i ∧ t.boot.measures.at? (2 + d) = some i.digest)
    ∧ (s.bootSlot 2 (getAt 0 s.boot.newtActive d) = none → t.fenced 10 d = true)

/-- What loading one die's Newt microcode leaves of another die's. -/
structure NewtStands (e : Nat) (s t : State) : Prop where
  runs : t.boot.newtRuns.at? e = s.boot.newtRuns.at? e
  measure : t.boot.measures.at? (2 + e) = s.boot.measures.at? (2 + e)
  active : getAt 0 t.boot.newtActive e = getAt 0 s.boot.newtActive e

theorem NewtStands.trans {e : Nat} {s t u : State} (h : NewtStands e s t) (k : NewtStands e t u) : NewtStands e s u :=
  ⟨k.runs.trans h.runs, k.measure.trans h.measure, k.active.trans h.active⟩

theorem State.fenced_of_mem {s : State} {cls unit : Nat} (h : unitCode cls unit ∈ s.mem.fences) : s.fenced cls unit = true := by
  simpa [State.fenced, unitCode] using h

theorem State.mem_of_fenced {s : State} {cls unit : Nat} (h : s.fenced cls unit = true) : unitCode cls unit ∈ s.mem.fences := by
  simpa [State.fenced, unitCode] using h

theorem unitCode_mem_closure (cls unit : Nat) : unitCode cls unit ∈ unitClosure cls unit := by
  unfold unitClosure stopUnits
  split
  · next h => exact h ▸ List.mem_cons_self
  · split
    · next h => exact h ▸ List.mem_cons_self
    · split
      · next h => exact h ▸ List.mem_cons_self
      · exact List.mem_cons_self

theorem State.fence_fenced (s : State) (cls unit : Nat) (planned : Bool) : (s.fence cls unit planned).fenced cls unit = true :=
  State.fenced_of_mem ((s.fence_facts cls unit planned).1 _ (unitCode_mem_closure ..))

theorem State.bootNewt_facts {s : State} (ha : s.boot.activating = []) (d : Nat) :
    Loads s (s.bootNewt d) ∧ (s.bootNewt d).boot.xActive = s.boot.xActive ∧ NewtBooted s d (s.bootNewt d)
      ∧ ∀ e, e ≠ d → NewtStands e s (s.bootNewt d) := by
  unfold State.bootNewt
  dsimp only
  cases hb : s.bootSlot 2 (getAt 0 s.boot.newtActive d) with
  | none =>
    have h := (s.fence_facts 10 d false).2.2.2 ha
    refine ⟨h.loads, by rw [h.boot], ⟨fun slot i hs => ?_, fun _ => s.fence_fenced 10 d false⟩, fun e _ => ⟨?_, ?_, ?_⟩⟩
    · rw [hb] at hs
      cases hs
    · rw [h.boot]
    · rw [h.boot]
    · rw [h.boot]
  | some x =>
    obtain ⟨slot, i⟩ := x
    refine ⟨⟨rfl, rfl, rfl, List.Subset.refl _⟩, rfl, ⟨fun slot' i' hs => ?_, fun hs => ?_⟩,
      fun e he => ⟨Tab.at?_set_ne _ _ he, Tab.at?_set_ne _ _ (by omega), getAt_setAt_ne _ _ _ he⟩⟩
    · rw [hb] at hs
      cases hs
      exact ⟨Tab.at?_set_self .., Tab.at?_set_self ..⟩
    · rw [hb] at hs
      cases hs

theorem State.bootNewts_facts {l : List Nat} (hl : l.Nodup) {s : State} (ha : s.boot.activating = []) :
    Loads s (l.foldl (fun s d => s.bootNewt d) s) ∧ (l.foldl (fun s d => s.bootNewt d) s).boot.xActive = s.boot.xActive
      ∧ (∀ d ∈ l, NewtBooted s d (l.foldl (fun s d => s.bootNewt d) s))
      ∧ ∀ e, e ∉ l → NewtStands e s (l.foldl (fun s d => s.bootNewt d) s) := by
  induction l generalizing s with
  | nil => exact ⟨.refl s, rfl, fun d h => (List.not_mem_nil h).elim, fun e _ => ⟨rfl, rfl, rfl⟩⟩
  | cons d l ih =>
    rw [List.nodup_cons] at hl
    obtain ⟨h1, h2, h3, h4⟩ := State.bootNewt_facts ha d
    obtain ⟨k1, k2, k3, k4⟩ := ih hl.2 (s := s.bootNewt d) (h1.activating.trans ha)
    refine ⟨h1.trans k1, k2.trans h2, fun e he => ?_, fun e he => ?_⟩
    · rcases List.mem_cons.1 he with rfl | he
      · obtain ⟨hsome, hnone⟩ := h3
        have hs := k4 e hl.1
        refine ⟨fun slot i hb => ?_, fun hb => State.fenced_of_mem (k1.fences (State.mem_of_fenced (hnone hb)))⟩
        obtain ⟨m1, m2⟩ := hsome slot i hb
        exact ⟨hs.runs.trans m1, hs.measure.trans m2⟩
      · have hne : e ≠ d := fun h => hl.1 (h ▸ he)
        have hb := k3 e he
        rwa [NewtBooted, h1.bootSlot, (h4 e hne).active] at hb
    · rw [List.mem_cons, not_or] at he
      exact (h4 e he.1).trans (k4 e he.2)

/-- What loading the X-dies leaves of the Newt microcode. -/
structure XdieStands (s t : State) : Prop where
  newt : t.boot.newtRuns = s.boot.newtRuns
  measures : ∀ k, k < 6 → t.boot.measures.at? k = s.boot.measures.at? k

theorem XdieStands.trans {s t u : State} (h : XdieStands s t) (k : XdieStands t u) : XdieStands s u :=
  ⟨k.newt.trans h.newt, fun j hj => (k.measures j hj).trans (h.measures j hj)⟩

theorem Tab.at?_foldl_same {α : Type} (f : Nat → Nat) (v : α) (l : List Nat) (t : Tab α) (j : Nat) :
    (l.foldl (fun t k => t.set (f k) v) t).at? j = if j ∈ l.map f then some v else t.at? j := by
  induction l generalizing t with
  | nil => rfl
  | cons k l ih =>
    rw [List.foldl_cons, ih]
    by_cases h : j ∈ l.map f
    · simp [h]
    · by_cases hk : j = f k
      · simp [hk]
      · rw [if_neg h, Tab.at?_set_ne _ _ hk, if_neg]
        rw [List.map_cons, List.mem_cons, not_or]
        exact ⟨hk, h⟩

/-- An X-die whose four ports run its firmware (R620). -/
def XdieBooted (s : State) (d : Nat) (t : State) : Prop :=
  ∀ slot i, s.bootSlot 4 (getAt 0 s.boot.xActive d) = some (slot, i) → ∀ k, k < 4 → t.boot.portRuns.at? (4 * d + k) = some i

/-- What loading one X-die leaves of another. -/
structure PortsStand (e : Nat) (s t : State) : Prop where
  runs : ∀ k, k < 4 → t.boot.portRuns.at? (4 * e + k) = s.boot.portRuns.at? (4 * e + k)
  active : getAt 0 t.boot.xActive e = getAt 0 s.boot.xActive e

theorem PortsStand.trans {e : Nat} {s t u : State} (h : PortsStand e s t) (k : PortsStand e t u) : PortsStand e s u :=
  ⟨fun j hj => (k.runs j hj).trans (h.runs j hj), k.active.trans h.active⟩

theorem fences_foldl_fence (l : List Nat) (cls : Nat) (f : Nat → Nat) {s : State} (ha : s.boot.activating = []) :
    Fences s (l.foldl (fun s k => s.fence cls (f k) false) s) := by
  induction l generalizing s with
  | nil => exact .refl s
  | cons k l ih =>
    have h := (s.fence_facts cls (f k) false).2.2.2 ha
    exact h.trans (ih (by rw [h.boot, ha]))

theorem State.bootXdie_facts {s : State} (ha : s.boot.activating = []) (d : Nat) :
    Loads s (s.bootXdie d) ∧ XdieStands s (s.bootXdie d) ∧ XdieBooted s d (s.bootXdie d)
      ∧ ∀ e, e ≠ d → PortsStand e s (s.bootXdie d) := by
  unfold State.bootXdie
  dsimp only
  cases hb : s.bootSlot 4 (getAt 0 s.boot.xActive d) with
  | none =>
    have h := fences_foldl_fence (List.range 4) 9 (fun k => 4 * d + k) ha
    dsimp only at h ⊢
    refine ⟨h.loads, ⟨by rw [h.boot], fun k _ => by rw [h.boot]⟩, fun slot i hs => ?_, fun e _ => ⟨fun k _ => ?_, ?_⟩⟩
    · rw [hb] at hs
      cases hs
    · rw [h.boot]
    · rw [h.boot]
  | some x =>
    obtain ⟨slot, i⟩ := x
    refine ⟨⟨rfl, rfl, rfl, List.Subset.refl _⟩, ⟨rfl, fun k hk => Tab.at?_set_ne _ _ (by omega)⟩, fun slot' i' hs k hk => ?_,
      fun e he => ⟨fun k hk => ?_, getAt_setAt_ne _ _ _ he⟩⟩
    · rw [hb] at hs
      cases hs
      exact (Tab.at?_foldl_same ..).trans (if_pos (List.mem_map.2 ⟨k, List.mem_range.2 hk, rfl⟩))
    · refine (Tab.at?_foldl_same ..).trans (if_neg fun h => ?_)
      obtain ⟨k', hk', h'⟩ := List.mem_map.1 h
      rw [List.mem_range] at hk'
      omega

theorem State.bootXdies_facts {l : List Nat} (hl : l.Nodup) {s : State} (ha : s.boot.activating = []) :
    Loads s (l.foldl (fun s d => s.bootXdie d) s) ∧ XdieStands s (l.foldl (fun s d => s.bootXdie d) s)
      ∧ (∀ d ∈ l, XdieBooted s d (l.foldl (fun s d => s.bootXdie d) s))
      ∧ ∀ e, e ∉ l → PortsStand e s (l.foldl (fun s d => s.bootXdie d) s) := by
  induction l generalizing s with
  | nil => exact ⟨.refl s, ⟨rfl, fun _ _ => rfl⟩, fun d h => (List.not_mem_nil h).elim, fun e _ => ⟨fun _ _ => rfl, rfl⟩⟩
  | cons d l ih =>
    rw [List.nodup_cons] at hl
    obtain ⟨h1, h2, h3, h4⟩ := State.bootXdie_facts ha d
    obtain ⟨k1, k2, k3, k4⟩ := ih hl.2 (s := s.bootXdie d) (h1.activating.trans ha)
    refine ⟨h1.trans k1, h2.trans k2, fun e he => ?_, fun e he => ?_⟩
    · rcases List.mem_cons.1 he with rfl | he
      · exact fun slot i hb k hk => ((k4 e hl.1).runs k hk).trans (h3 slot i hb k hk)
      · have hne : e ≠ d := fun h => hl.1 (h ▸ he)
        have hb := k3 e he
        rwa [XdieBooted, h1.bootSlot, (h4 e hne).active] at hb
    · rw [List.mem_cons, not_or] at he
      exact (h4 e he.1).trans (k4 e he.2)

/-! Step 7: the islands (R521). -/

/-- An island commanded at boot goes to /8 at code 46; no other island changes, and no fence. -/
theorem voltageCommand_boot {s : State} {n : Nat} (hn : n < 512) (hf : s.fenced 1 n = false) :
    (((s.voltageCommand n 46 8 0).island n).target = 46 ∧ ((s.voltageCommand n 46 8 0).island n).cmdDiv = 8)
      ∧ (∀ m, m ≠ n → (s.voltageCommand n 46 8 0).island m = s.island m) ∧ Powers s (s.voltageCommand n 46 8 0) := by
  rw [voltageCommand_ok 0 hn (by decide) (by decide) (by decide) (by decide) hf]
  split
  · rw [State.settle_eq]
    refine ⟨?_, fun m hm => ?_, (powers_modIsland ..).trans (powers_modIsland ..)⟩
    · rw [State.modIsland_island_self, State.modIsland_island_self]
      split
      · exact ⟨rfl, rfl⟩
      · exact ⟨rfl, rfl⟩
    · rw [State.modIsland_island_ne _ _ hm, State.modIsland_island_ne _ _ hm]
  · refine ⟨?_, fun m hm => State.modIsland_island_ne _ _ hm, powers_modIsland ..⟩
    rw [State.modIsland_island_self]
    exact ⟨rfl, rfl⟩

theorem Powers.mem {s t : State} (h : Powers s t) : t.mem = s.mem := by
  obtain ⟨_, _, _, rfl⟩ := h
  rfl

theorem Powers.fab {s t : State} (h : Powers s t) : t.fab = s.fab := by
  obtain ⟨_, _, _, rfl⟩ := h
  rfl

theorem State.fenced_congr {s t : State} (h : t.mem = s.mem) (cls unit : Nat) : t.fenced cls unit = s.fenced cls unit := by
  rw [State.fenced, State.fenced, h]

theorem bootIslands_voltages {l : List Nat} {s : State} (hl : ∀ n ∈ l, n < 512 ∧ s.fenced 1 n = false) :
    Powers s (l.foldl (fun s t => s.voltageCommand t 46 8 0) s)
      ∧ (∀ n, n ∉ l → (l.foldl (fun s t => s.voltageCommand t 46 8 0) s).island n = s.island n)
      ∧ ∀ n ∈ l, ((l.foldl (fun s t => s.voltageCommand t 46 8 0) s).island n).target = 46
          ∧ ((l.foldl (fun s t => s.voltageCommand t 46 8 0) s).island n).cmdDiv = 8 := by
  induction l generalizing s with
  | nil => exact ⟨.refl s, fun _ _ => rfl, fun n h => (List.not_mem_nil h).elim⟩
  | cons k l ih =>
    obtain ⟨hk, hf⟩ := hl k List.mem_cons_self
    obtain ⟨h1, h2, h3⟩ := voltageCommand_boot hk hf
    obtain ⟨k1, k2, k3⟩ := ih (s := s.voltageCommand k 46 8 0) fun n hn => by
      rw [State.fenced_congr h3.mem]
      exact hl n (List.mem_cons_of_mem _ hn)
    refine ⟨h3.trans k1, fun n hn => ?_, fun n hn => ?_⟩
    · rw [List.mem_cons, not_or] at hn
      exact (k2 n hn.2).trans (h2 n hn.1)
    · by_cases hmem : n ∈ l
      · exact k3 n hmem
      · have hnk := (List.mem_cons.1 hn).resolve_right hmem
        rw [List.foldl_cons, k2 n hmem, hnk]
        exact h1

/-- Training as it starts on a sub-link (R467). -/
def SubLink.trains (l : SubLink) : SubLink :=
  { l with
    state := .training
    gen := 0
    txLanes := 0
    rxLanes := 0
    fec := false
    txLock := 0
    step := 1
    tryGen := 0
    attempts := 0
    retryWait := false
    retrainFails := 0
    replays := 0
    notice := 0 }.count 5 1

theorem State.startTraining_eq (s : State) (n : Nat) : s.startTraining n = s.modSub n SubLink.trains := rfl

theorem State.modSub_frame (s : State) (n : Nat) (g : SubLink → SubLink) : (s.modSub n g).mem = s.mem ∧ (s.modSub n g).pwr = s.pwr
    ∧ (s.modSub n g).fab.join = s.fab.join := ⟨rfl, rfl, rfl⟩

theorem State.foldl_modSub_frame (g : Nat → SubLink → SubLink) (l : List Nat) (s : State) :
    (l.foldl (fun s k => s.modSub k (g k)) s).mem = s.mem ∧ (l.foldl (fun s k => s.modSub k (g k)) s).pwr = s.pwr
      ∧ (l.foldl (fun s k => s.modSub k (g k)) s).fab.join = s.fab.join := by
  induction l generalizing s with
  | nil => exact ⟨rfl, rfl, rfl⟩
  | cons k l ih => exact ih _

/-- The join as training starts at boot (R484, R619). -/
def State.joinTrains (s : State) : State := if s.fab.join = .off then s.setFab (fun f => { f with join := .training }) else s

theorem State.joinTrains_facts (s : State) : s.joinTrains.mem = s.mem ∧ s.joinTrains.pwr = s.pwr
    ∧ s.joinTrains.fab.join = (if s.fab.join = .off then .training else s.fab.join) ∧ ∀ n, s.joinTrains.subLink n = s.subLink n := by
  unfold State.joinTrains
  split
  · exact ⟨rfl, rfl, rfl, fun _ => rfl⟩
  · exact ⟨rfl, rfl, rfl, fun _ => rfl⟩

theorem State.subLink_congr {s t : State} (h : t.fab = s.fab) (n : Nat) : t.subLink n = s.subLink n := by
  rw [State.subLink, State.subLink, h]

/-- Step 7 of boot: unfenced islands at code 46 and /8, and every sub-link that may train trains (R521, R619). -/
theorem State.bootIslands_facts (s : State) : s.bootIslands.mem = s.mem
    ∧ (∀ n, n < 512 → s.fenced 1 n = false → (s.bootIslands.island n).target = 46 ∧ (s.bootIslands.island n).cmdDiv = 8)
    ∧ (∀ n, n < 64 → s.fenced 8 n = false → (s.subLink n).mayTrain = true → (s.bootIslands.subLink n).state = .training)
    ∧ s.bootIslands.fab.join = (if s.fab.join = .off then .training else s.fab.join) := by
  have heq : s.bootIslands = ((List.range 64).filter (fun n =>
      !(((List.range 512).filter (fun t => !s.fenced 1 t)).foldl (fun s t => s.voltageCommand t 46 8 0) s).joinTrains.fenced 8 n
        && ((((List.range 512).filter (fun t => !s.fenced 1 t)).foldl (fun s t => s.voltageCommand t 46 8 0) s).joinTrains.subLink n).mayTrain)).foldl
      (fun s n => s.modSub n ((fun _ => SubLink.trains) n))
      (((List.range 512).filter (fun t => !s.fenced 1 t)).foldl (fun s t => s.voltageCommand t 46 8 0) s).joinTrains := rfl
  obtain ⟨h1, -, h3⟩ := bootIslands_voltages (s := s) (l := (List.range 512).filter (fun t => !s.fenced 1 t)) fun n hn => by
    simpa using hn
  generalize hs1 : ((List.range 512).filter (fun t => !s.fenced 1 t)).foldl (fun s t => s.voltageCommand t 46 8 0) s = s1 at heq h1 h3
  obtain ⟨k1, k2, k3, k4⟩ := s1.joinTrains_facts
  rw [heq]
  obtain ⟨m1, m2, m3⟩ := State.foldl_modSub_frame (fun _ => SubLink.trains) ((List.range 64).filter (fun n =>
    !s1.joinTrains.fenced 8 n && (s1.joinTrains.subLink n).mayTrain)) s1.joinTrains
  refine ⟨m1.trans (k1.trans h1.mem), fun n hn hf => ?_, fun n hn hf hm => ?_, ?_⟩
  · rw [State.island_congr m2, State.island_congr k2]
    exact h3 n (List.mem_filter.2 ⟨List.mem_range.2 hn, by simp [hf]⟩)
  · rw [State.subLink_foldl_mem (fun _ => SubLink.trains) (List.nodup_range.filter _)]
    · rfl
    · refine List.mem_filter.2 ⟨List.mem_range.2 hn, ?_⟩
      rw [State.fenced_congr (k1.trans h1.mem), hf, k4, State.subLink_congr h1.fab, hm]
      rfl
  · rw [m3, k3, h1.fab]

/-! Step 8: the Tally's chain (R556 to R558). -/

/-- The Tally as boot's last step begins. -/
def State.tallyAtBoot (s : State) : State :=
  (s.takeFree.2).setTally (fun t => { t with
    coef := parseCoef Config.builtinCoef true
    signing := s.sec.hasKey
    period := s.ns })

/-- What the chain's place in the Tally is after boot, by one of the ways of resuming it. -/
theorem State.resumeTally_cases (s : State) : ∃ seq hash gap,
    s.resumeTally = s.tallyAtBoot.setTally (fun t => { t with seq := seq, hash := hash, gap := gap }) := by
  unfold State.resumeTally
  dsimp only
  split
  · exact ⟨s.tally.seq, s.tally.hash, s.tally.gap, rfl⟩
  · split
    · exact ⟨_, _, _, rfl⟩
    · split
      · split
        · exact ⟨_, _, _, rfl⟩
        · exact ⟨_, _, _, rfl⟩
      · exact ⟨s.tally.seq, s.tally.hash, _, rfl⟩

theorem State.resumeTally_facts (s : State) : s.resumeTally.mem = s.mem ∧ s.resumeTally.tally.signing = s.sec.hasKey
    ∧ s.resumeTally.tally.coef.builtin = true := by
  obtain ⟨seq, hash, gap, h⟩ := s.resumeTally_cases
  rw [h]
  exact ⟨rfl, rfl, rfl⟩

/-! The Millwright's start (R620, R621). -/

theorem State.startMillwright_none {s : State} (h : s.bootSlot 0 s.boot.mwActive = none) :
    s.startMillwright = s.setBoot (fun b => { b with bootFail := true }) := by
  unfold State.startMillwright
  rw [h]

theorem State.startMillwright_some {s : State} {slot : Nat} {i : Image} (h : s.bootSlot 0 s.boot.mwActive = some (slot, i)) :
    s.startMillwright = (s.setBoot (fun b => { b with
      mwSlot := slot
      mwActive := slot
      mwUp := true
      fallback := b.fallback || slot ≠ b.mwActive
      measures := b.measures.set 1 i.digest
      mwFails := 0 })).nextStage 5 := by
  unfold State.startMillwright
  rw [h]

/-- Which options of the host link train (R342). -/
theorem linkOption_iff (flit : Bool) (speed width : Nat) : linkOption flit speed width = true ↔
    1 ≤ speed ∧ speed ≤ 6 ∧ (width = 1 ∨ width = 2 ∨ width = 4 ∨ width = 8 ∨ width = 16) ∧ (speed = 6 → flit = true) := by
  simp only [linkOption, Bool.and_eq_true, Bool.or_eq_true, decide_eq_true_eq, List.contains_eq_mem, List.mem_cons,
    List.not_mem_nil, or_false, and_assoc, ne_eq, imp_iff_not_or]

/-- Settles O49: each reset by what is cleared, each boot step by its stage. -/
theorem resetsAndBootTakeEffect : Obligations.ResetsAndBootTakeEffect := by
  refine ⟨fun s => ⟨fun hp => ?_, fun hp => ?_, fun hpe hp => ?_, fun hr => ?_, fun hr => ?_, fun hr hd => ?_, ?_⟩,
    fun s mode flit speed width hr ha he => ⟨fun h => ?_, fun h => ?_⟩,
    fun s ok hr hp hb => ⟨fun h => ?_, fun h => ?_, fun h hh ho hl => ?_, fun h hh ho hl => ?_, fun h hl => ?_, fun h hn => ?_,
      fun slot i h hs => ?_, fun h => ?_, fun h ha => ?_, fun h => ?_, fun h => ?_⟩,
    fun s cls unit hs hr hu hf => ⟨?_, ?_⟩,
    fun s hup => ⟨fun hs hf hi => ?_, fun hs h => ?_, fun hs hf => ?_, fun hs hf hfat => ?_⟩⟩
  · have hexec : execPerstNAssert s = .next ((s.deviceReset Cause.perst).setBoot (fun b => { b with perst := true })) := by
      unfold execPerstNAssert
      dsimp only
      rw [if_pos hp]
    exact ⟨_, hexec, (resetBy_deviceReset s Cause.perst).held.all, rfl, rfl⟩
  · show execPerstNAssert s = _
    unfold execPerstNAssert
    dsimp only
    rw [if_neg (by simp [hp])]
  · have hexec : execPerstNRelease s = .next s.startBoot := by
      unfold execPerstNRelease
      rw [if_neg (by simp [hpe]), if_pos hp]
    exact ⟨_, hexec, rfl, rfl, rfl, rfl, rfl, rfl⟩
  · exact ⟨_, if_pos hr, (resetBy_resetAndBoot s Cause.hot).all, s.resetAndBoot_stage _⟩
  · exact ⟨_, if_pos hr, (resetBy_resetAndBoot s Cause.flr).all, s.resetAndBoot_stage _, s.resetAndBoot_flr⟩
  · exact ⟨_, if_pos (by rw [hd, hr]; rfl), (resetBy_resetAndBoot s Cause.mgmt).all, s.resetAndBoot_stage _⟩
  · exact ⟨_, exec_powerOnReset s, s.powerOnReset_tryPowerUp⟩
  · obtain ⟨hm, h1, h2, h3, h4⟩ := h
    have ho := (linkOption_iff flit speed width).2 ⟨h1, h2, h3, h4⟩
    exact if_neg (by simp [hr, ha, he, hm, ho])
  · refine if_pos ?_
    by_cases hm : mode ≤ 2
    · have ho : linkOption flit speed width = false := by
        rw [← Bool.not_eq_true, linkOption_iff]
        exact fun ho => h ⟨hm, ho⟩
      simp [ho]
    · simp [Nat.not_le.1 hm]
  · exact execBootStepDone_one hr hp hb ok h
  · exact ⟨_, execBootStepDone_two hr hp hb ok h, rfl, rfl, rfl⟩
  · subst ho
    have hexec := execBootStepDone_three hr hp hb true h
    rw [State.pufAttempt_ok hl hh] at hexec
    exact ⟨_, hexec, rfl, rfl, rfl⟩
  · subst ho
    have hexec := execBootStepDone_three hr hp hb false h
    rw [State.pufAttempt_fails hl hh] at hexec
    by_cases hf : s.sec.pufFails + 1 < 3
    · rw [if_pos hf] at hexec
      exact ⟨_, hexec, rfl, rfl, by rw [if_pos hf]; exact h, fun h2 => by omega⟩
    · rw [if_neg hf] at hexec
      exact ⟨_, hexec, rfl, rfl, by rw [if_neg hf]; rfl, fun _ => rfl⟩
  · have hexec := execBootStepDone_three hr hp hb ok h
    rw [State.pufAttempt_scrapped hl] at hexec
    exact ⟨_, hexec, rfl, rfl, rfl⟩
  · have hexec := execBootStepDone_four hr hp hb ok h
    rw [State.startMillwright_none hn] at hexec
    exact ⟨_, hexec, rfl, h⟩
  · have hexec := execBootStepDone_four hr hp hb ok h
    rw [State.startMillwright_some hs] at hexec
    exact ⟨_, hexec, rfl, rfl, rfl, Tab.at?_set_self .., rfl⟩
  · obtain ⟨k1, k2, k3, k4, k5⟩ := s.readConfig_facts
    refine ⟨_, execBootStepDone_five hr hp hb ok h, ?_⟩
    by_cases hl : s.lcState = 4
    · rw [if_pos hl, if_pos hl]
      exact ⟨k2.trans h, k1, k3, k4, k5⟩
    · rw [if_neg hl, if_neg hl]
      exact ⟨rfl, k1, k3, k4, k5⟩
  · refine ⟨_, execBootStepDone_six hr hp hb ok h, rfl, fun d hd => ?_⟩
    have hmem := List.mem_range.2 hd
    obtain ⟨h1, h2, h3, -⟩ := State.bootNewts_facts List.nodup_range (l := List.range 4) ha
    generalize (List.range 4).foldl (fun s d => s.bootNewt d) s = s1 at h1 h2 h3
    obtain ⟨k1, k2, k3, -⟩ := State.bootXdies_facts List.nodup_range (l := List.range 4) (s := s1) (h1.activating.trans ha)
    generalize (List.range 4).foldl (fun s d => s.bootXdie d) s1 = s2 at k1 k2 k3
    obtain ⟨hsome, hnone⟩ := h3 d hmem
    refine ⟨fun slot i hs => ?_, fun hs => ?_, fun slot i hs k hk => ?_⟩
    · obtain ⟨m1, m2⟩ := hsome slot i hs
      exact ⟨(congrArg (Tab.at? · d) k2.newt).trans m1, (k2.measures _ (by omega)).trans m2⟩
    · exact State.fenced_of_mem (s := s2.nextStage 7) (k1.fences (State.mem_of_fenced (hnone hs)))
    · refine k3 d hmem slot i ?_ k hk
      rw [h1.bootSlot, h2, hs]
  · obtain ⟨h1, h2, h3, h4⟩ := s.bootIslands_facts
    have hexec := execBootStepDone_seven hr hp hb ok h
    generalize s.bootIslands = u at h1 h2 h3 h4 hexec
    obtain ⟨-, -, -, kf, kp, -⟩ := u.nextStage_frame 8
    refine ⟨_, hexec, rfl, h1, fun n hn hf => ?_, fun n hn hf hm => ?_, ?_⟩
    · rw [State.island_congr kp]
      exact h2 n hn hf
    · rw [State.subLink_congr kf]
      exact h3 n hn hf hm
    · rw [kf, h4]
  · obtain ⟨h1, h2, h3⟩ := s.resumeTally_facts
    have hexec := execBootStepDone_eight hr hp hb ok h
    generalize s.resumeTally = u at h1 h2 h3 hexec
    exact ⟨_, hexec, rfl, rfl, h1, h2, h3⟩
  · exact if_neg (by simp [hs, hr, hf]; omega)
  · exact if_pos (by simp)
  · show execMwStartTimeout s = _
    unfold execMwStartTimeout
    rw [if_neg (by simp [hup]), if_pos hs, if_pos (by simp [hf, hi])]
  · show execMwStartTimeout s = _
    unfold execMwStartTimeout
    rw [if_neg (by simp [hup]), if_pos hs, if_neg]
    rcases h with h | h
    · simp [h]
    · simp [h]
  · have hexec : execMwStartTimeout s = .next (s.setBoot (fun b => { b with
        mwActive := if b.mwCause = 2 then b.mwPrev else 1 - b.mwActive
        fallback := true
        mwFails := 1
        mwCause := 1 })) := by
      unfold execMwStartTimeout
      rw [if_neg (by simp [hup]), if_neg (by omega), if_pos hs, if_pos hf]
    exact ⟨_, hexec, rfl, rfl, rfl⟩
  · have hexec : execMwStartTimeout s = .next (s.stopFiller.fatalError 4) := by
      unfold execMwStartTimeout
      rw [if_neg (by simp [hup]), if_neg (by omega), if_pos hs, if_neg hf]
    obtain ⟨h1, h2, h3⟩ := State.stopFiller_fatalError hfat 4
    exact ⟨_, hexec, h1, h2, h3, ((clockStands_stopFiller s).trans (clockStands_fatalError ..)).mem⟩

end Sys2Proof.Machine
end

section
/-! Units fenced and restored, regrow and seams (R234, R307 to R313). -/

namespace Sys2Proof.Machine

theorem exec_unitFence (op : Nat) (s : State) : exec (.unitFence op) s = execUnitFence op s := rfl
theorem exec_unitRestore (op : Nat) (passed : List Nat) (s : State) : exec (.unitRestore op passed) s = execUnitRestore op passed s := rfl
theorem exec_regrow (h : Nat) (s : State) : exec (.regrow h) s = execRegrow h s := rfl
theorem exec_seamCrcFail (seam : Nat) (again : Bool) (s : State) : exec (.seamCrcFail seam again) s = execSeamCrcFail seam again s := rfl

/-! What scheduling changes of a pond. -/

/-- A pond but for which context runs on it (R324). -/
def Pond.core (p : Pond) : Pond := { p with switch := none, running := 0, since := 0 }

/-- Every pond stands but for which context runs on it. -/
structure PondCores (s t : State) : Prop where
  core : ∀ h, (t.mem.ponds.at? h).map Pond.core = (s.mem.ponds.at? h).map Pond.core

theorem PondCores.refl (s : State) : PondCores s s := ⟨fun _ => rfl⟩
theorem PondCores.trans {s t u : State} (h : PondCores s t) (k : PondCores t u) : PondCores s u :=
  ⟨fun i => (k.core i).trans (h.core i)⟩
theorem PondCores.of_ponds {s t : State} (h : t.mem.ponds = s.mem.ponds) : PondCores s t :=
  ⟨fun i => by rw [h]⟩
theorem PondCores.ite {c : Prop} [Decidable c] {s t u : State} (ht : PondCores s t) (hu : PondCores s u) :
    PondCores s (if c then t else u) := by
  split
  · exact ht
  · exact hu

theorem pondCores_modPond (s : State) (h : Nat) {g : Pond → Pond} (hg : ∀ p, (g p).core = p.core) : PondCores s (s.modPond h g) :=
  ⟨fun i => Tab.map_at?_modify s.mem.ponds h i g Pond.core hg⟩

theorem State.scrubTiles_ponds (s : State) (ts : List Nat) : (s.scrubTiles ts).mem.ponds = s.mem.ponds := by
  unfold State.scrubTiles
  induction ts generalizing s with
  | nil => rfl
  | cons t ts ih => exact (ih _).trans rfl

theorem pondCores_claim (s : State) (pond c : Nat) : PondCores s (s.claim pond c) := by
  unfold State.claim
  split
  · exact .refl s
  · refine .ite (pondCores_modPond _ _ fun _ => rfl) ?_
    exact (PondCores.of_ponds (s.scrubTiles_ponds _)).trans (pondCores_modPond _ _ fun _ => rfl)

theorem pondCores_schedule (s : State) (pond : Nat) : PondCores s (s.schedule pond) := by
  obtain ⟨cs, n, h⟩ := s.stampReady_eq pond
  have hs : PondCores s (s.stampReady pond) := .of_ponds (by rw [h])
  unfold State.schedule
  dsimp only
  refine hs.trans ?_
  split
  · exact .refl _
  · split
    · exact .refl _
    · split
      · exact .refl _
      · exact .ite (pondCores_claim ..) (.ite (pondCores_modPond _ _ fun _ => rfl) (.refl _))

/-- What a core tells of a pond's map. -/
theorem PondCores.binding {s t : State} (h : PondCores s t) (i : Nat) :
    (t.mem.ponds.at? i).map (fun q => (q.binding, q.reserved)) = (s.mem.ponds.at? i).map (fun q => (q.binding, q.reserved)) := by
  have hcore : ∀ x : Option Pond, x.map (fun q => (q.binding, q.reserved)) = (x.map Pond.core).map (fun q => (q.binding, q.reserved)) :=
    fun x => by cases x <;> rfl
  rw [hcore, h.core i, ← hcore]

/-! Restored units (R313). -/

theorem State.renewUnit_facts (s : State) (u : Nat) : (s.renewUnit u).mem.fences = s.mem.fences.filter (· ≠ u)
    ∧ (s.renewUnit u).work = s.work := by
  unfold State.renewUnit
  dsimp only
  split
  · exact ⟨rfl, rfl⟩
  · split
    · exact ⟨rfl, rfl⟩
    · split
      · exact ⟨rfl, rfl⟩
      · exact ⟨rfl, rfl⟩

theorem State.renewUnits_facts (l : List Nat) (s : State) : (l.foldl State.renewUnit s).work = s.work
    ∧ ∀ u, u ∈ (l.foldl State.renewUnit s).mem.fences ↔ u ∈ s.mem.fences ∧ u ∉ l := by
  induction l generalizing s with
  | nil => exact ⟨rfl, fun u => by simp⟩
  | cons k l ih =>
    obtain ⟨h1, h2⟩ := s.renewUnit_facts k
    obtain ⟨k1, k2⟩ := ih (s.renewUnit k)
    refine ⟨k1.trans h2, fun u => ?_⟩
    rw [List.foldl_cons, k2, h1, List.mem_filter, List.mem_cons, not_or]
    simp [and_assoc]

/-! Regrow (R309). -/

theorem State.resumeReruns_mem (s : State) (h : Nat) : (s.resumeReruns h).mem = s.mem := by
  unfold State.resumeReruns
  generalize s.liveOps _ = l
  induction l generalizing s with
  | nil => rfl
  | cons i l ih =>
    refine (ih _).trans ?_
    dsimp only
    split
    · split
      · exact (apart_abortSluice ..).mem
      · split
        · rfl
        · rfl
    · rfl

/-- At a pond's regrow point its reserved choices take effect (R309). -/
theorem execRegrow_facts {s : State} {h : Nat} {p : Pond} (hp : s.mem.ponds.at? h = some p) (hr : p.reserved ≠ [])
    (hpt : s.regrowPoint h p = true) (hs : ∀ r, p.rebind = some r → r.switching = false) : ∃ t, execRegrow h s = .next t
      ∧ (t.mem.ponds.at? h).map (fun q => (q.binding, q.reserved))
        = some (((choiceOrder p.reserved).foldl applyChoice (p.binding, [])).1, []) := by
  have hany : p.rebind.any (·.switching) = false := by
    cases hb : p.rebind with
    | none => rfl
    | some r => exact hs r hb
  unfold execRegrow
  rw [hp]
  dsimp only
  rw [if_neg (by simp [hr, hpt, hany])]
  generalize (choiceOrder p.reserved).foldl applyChoice (p.binding, []) = x
  obtain ⟨b, zero⟩ := x
  refine ⟨_, rfl, ?_⟩
  rw [(pondCores_schedule _ h).binding, State.resumeReruns_mem]
  have hmod : (((s.modPond h (fun p => { p with binding := b, reserved := [] })).scrubTiles zero).mem.ponds.at? h).map
      (fun q => (q.binding, q.reserved)) = some (b, []) := by
    rw [State.scrubTiles_ponds]
    rw [State.modPond_at?_self, hp]
    rfl
  split
  · rw [State.post_mem]
    exact hmod
  · rw [State.post_mem]
    exact hmod

/-! Seams (R234). -/

/-- An error counted against a unit ends no fence and keeps the replay counts (R643). -/
theorem State.raiseBucket_facts (s : State) (cls unit n : Nat) (c : Bool) :
    (s.raiseBucket cls unit n c).mem.seamReplays = s.mem.seamReplays := by
  unfold State.raiseBucket
  extract_lets b thr b1 warn r1 s1 s2
  have h2 : s2.mem = s.mem := by
    unfold s2
    split
    · rw [State.post_mem]
    · rfl
  split
  · rw [(s2.fence_facts cls unit false).2.2.1, h2]
  · rw [h2]

/-- A seam's replays counted so far (R234). -/
def State.withReplays (s : State) (seam n : Nat) : State :=
  { s with mem := { s.mem with seamReplays := s.mem.seamReplays.set seam n } }

theorem State.withReplays_get (s : State) (seam n : Nat) : (s.withReplays seam n).mem.seamReplays.get 0 seam = n :=
  Tab.get_set_self ..

/-- A seam that has failed its check `n` times in a row is fenced from the sixteenth on (R234). -/
theorem State.seamFails_facts (s : State) (seam n : Nat) :
    let s1 := (s.withReplays seam n).corrected 3 seam
    let t := if 16 ≤ n && !s1.fenced 3 seam then s1.fence 3 seam false else s1
    t.mem.seamReplays.get 0 seam = n ∧ (16 ≤ n → t.fenced 3 seam = true) := by
  intro s1 t
  have h1 : s1.mem.seamReplays.get 0 seam = n := by
    rw [show s1.mem.seamReplays = _ from State.raiseBucket_facts .., State.withReplays_get]
  unfold t
  split
  · rw [(s1.fence_facts 3 seam false).2.2.1]
    exact ⟨h1, fun _ => s1.fence_fenced 3 seam false⟩
  · next h => exact ⟨h1, fun hn => by simpa [hn] using h⟩

/-- Settles O41: a fence covers its closure, a restored unit leaves the list, and reserved choices are applied. -/
theorem unitCommandsTakeEffect : Obligations.UnitCommandsTakeEffect := by
  refine ⟨fun s op o ho => ⟨fun hf => ?_, fun hf hp => ?_, fun hf hp => ?_⟩, fun s op passed o ho => ⟨fun hp => ?_, fun hp => ?_⟩,
    fun s cls unit hu => ?_, fun s h p hp hr hpt hs => execRegrow_facts hp hr hpt hs, fun s seam again hs hf => ?_, fun s seam hs hf => ?_⟩
  · show execUnitFence op s = _
    unfold execUnitFence
    rw [ho]
    exact if_pos hf
  · show execUnitFence op s = _
    unfold execUnitFence
    rw [ho]
    refine (if_neg (by simp [hf])).trans (if_pos (List.any_eq_true.2 ?_))
    obtain ⟨p, hm, hh⟩ := hp
    exact ⟨p, hm, hh⟩
  · have hany : s.mem.ponds.any (fun p => p.2.holds (unitClosure (fld o.desc 0x20 0 4) (fld o.desc 0x24 0 16))) = false :=
      List.any_eq_false.2 fun p hm => by simp [hp p hm]
    have hexec : ∃ ports, execUnitFence op s
        = .next (((s.sendNotices 2 ports).fence (fld o.desc 0x20 0 4) (fld o.desc 0x24 0 16) true).succeed op) := by
      unfold execUnitFence
      rw [ho]
      dsimp only
      rw [if_neg (by simp [hf]), if_neg (by simp [hany])]
      exact ⟨_, rfl⟩
    obtain ⟨ports, hexec⟩ := hexec
    obtain ⟨h1, h2, -⟩ := (s.sendNotices 2 ports).fence_facts (fld o.desc 0x20 0 4) (fld o.desc 0x24 0 16) true
    have hmem : (((s.sendNotices 2 ports).fence (fld o.desc 0x20 0 4) (fld o.desc 0x24 0 16) true).succeed op).mem = _ := (apart_succeed ..).mem
    refine ⟨_, hexec, fun u hu => ?_, fun u hu => ?_⟩
    · rw [hmem]
      exact h1 u hu
    · rw [hmem]
      exact h2 (by rwa [(clockStands_sendNotices ..).mem])
  · show execUnitRestore op passed s = _
    unfold execUnitRestore
    rw [ho]
    exact if_pos (by rw [hp]; rfl)
  · have hexec : execUnitRestore op passed s = .next ((((unitClosure (fld o.desc 0x20 0 4) (fld o.desc 0x24 0 16)).filter (fun u =>
        passed.contains u && s.mem.fences.contains u && (u = unitCode (fld o.desc 0x20 0 4) (fld o.desc 0x24 0 16)
          || !s.ras.fencedAlone.contains u))).foldl State.renewUnit s).succeed op) := by
      unfold execUnitRestore
      rw [ho]
      exact if_neg (by rw [hp]; simp)
    obtain ⟨hop, -⟩ := State.go?_some ho
    obtain ⟨h1, h2⟩ := State.renewUnits_facts ((unitClosure (fld o.desc 0x20 0 4) (fld o.desc 0x24 0 16)).filter (fun u =>
        passed.contains u && s.mem.fences.contains u && (u = unitCode (fld o.desc 0x20 0 4) (fld o.desc 0x24 0 16)
          || !s.ras.fencedAlone.contains u))) s
    obtain ⟨k1, k2, -⟩ := State.succeed_ended (s := ((unitClosure (fld o.desc 0x20 0 4) (fld o.desc 0x24 0 16)).filter (fun u =>
        passed.contains u && s.mem.fences.contains u && (u = unitCode (fld o.desc 0x20 0 4) (fld o.desc 0x24 0 16)
          || !s.ras.fencedAlone.contains u))).foldl State.renewUnit s) (op := op) ((congrArg (fun w => w.ops.at? op) h1).trans hop)
      (by rw [State.phase_of_go? ho]; decide)
    refine ⟨_, hexec, fun u hc hpa ha => ?_, fun u hf ha => ?_, fun u hf => ?_, k1⟩
    · rw [k2, h2]
      rintro ⟨hf, hn⟩
      exact hn (List.mem_filter.2 ⟨hc, by simpa [hpa, hf] using ha⟩)
    · rw [k2, h2]
      refine ⟨hf, fun hn => ?_⟩
      obtain ⟨hc, hrest⟩ := List.mem_filter.1 hn
      simp only [Bool.and_eq_true, List.contains_eq_mem, decide_eq_true_eq, Bool.or_eq_true, Bool.not_eq_true',
        decide_eq_false_iff_not] at hrest
      obtain ⟨⟨hpa, -⟩, hal⟩ := hrest
      rcases ha with ha | ha | ⟨ha, hb⟩
      · exact ha hc
      · exact ha hpa
      · rcases hal with hal | hal
        · exact ha hal
        · exact hal hb
    · rw [k2, h2]
      exact fun h => hf h.1
  · exact ⟨_, if_neg (Nat.not_le.2 hu), (s.fence_facts cls unit false).1⟩
  · have hexec : execSeamCrcFail seam again s = _ := if_neg (by simp [hf]; omega)
    exact ⟨_, hexec, s.seamFails_facts seam ((if again then s.mem.seamReplays.get 0 seam else 0) + 1)⟩
  · exact ⟨_, if_neg (by simp [hf]; omega), s.fence_fenced 3 seam false⟩

end Sys2Proof.Machine
end

section
/-! The end of a hold (R276, R308, R476): a queued operation whose packets are discarded ends with RESOURCE_LOST, by the same
rule as for any fence, and not with MESH_FAULT. -/

namespace Sys2Proof.Machine

/-- Sub-link 0 is down and holds its traffic; operation 1, a copy, waits in an engine's queue. -/
def heldLink : State :=
  { engineState.withOps [(1, { plainOp 0x1001 with phase := .queued })] with
    fab := { engineState.fab with subs := [(0, { SubLink.reset with state := .down, held := true })] } }

/-- Refutes O44: when the hold of sub-link 0 expires, a queued operation that it names ends with RESOURCE_LOST, where the
statement has MESH_FAULT. -/
theorem not_leatCommandsTakeEffect : ¬ Obligations.LeatCommandsTakeEffect := by
  intro h
  obtain ⟨-, -, -, -, -, -, -, -, -, -, -, -, -, -, -, hhold, -⟩ := h heldLink 0 (by decide +kernel) (by decide +kernel)
  have hexec := hhold [1] (by decide +kernel) (by decide +kernel) (by decide +kernel) (by decide +kernel)
  have hlost : (match exec (.holdExpiry 0 [1]) heldLink with
      | .next t => (t.op? 1).map (·.status)
      | _ => none) = some Status.resourceLost := by decide +kernel
  rw [hexec] at hlost
  have hfault : ((([1].foldl (fun s i => s.decide i Status.meshFault 0) heldLink).fence 8 0 false).op? 1).map (·.status)
      = some Status.meshFault := by decide +kernel
  exact absurd (hlost.symm.trans hfault) (by decide)

end Sys2Proof.Machine
end

section
/-! A sub-link that drains a notice (R477): it is UP still, but carries no time message, so a time request received over it
is not answered. -/

namespace Sys2Proof.Machine

/-- A joined device whose sub-link 0 is UP and drains the notice before sleep. -/
def drainingLink : State :=
  { engineState with
    fab := { engineState.fab with join := .joined, subs := [(0, { SubLink.reset with state := .up, notice := 1 })] } }

/-- A time request over that sub-link leaves the state as it was. -/
theorem drainingLink_unanswered : exec (.timeRequestReceived 0 0) drainingLink = .next drainingLink := by
  have hmask : bitOf drainingLink.timeMask 0 = false := by decide +kernel
  show execTimeRequestReceived 0 0 drainingLink = _
  unfold execTimeRequestReceived
  rw [hmask]
  rfl

/-- Refutes O46: a time request received on a sub-link that is UP but drains a notice gets no answer, where the statement
has one sent. -/
theorem not_joinCommandsTakeEffect : ¬ Obligations.JoinCommandsTakeEffect := by
  intro h
  obtain ⟨-, -, -, -, -, -, -, -, -, -, -, -, -, hreq, -⟩ := h
  obtain ⟨t, hexec, ⟨m, hsent, -⟩, -⟩ := hreq drainingLink 0 0 (by decide) (by decide +kernel) (by decide +kernel)
  obtain rfl : drainingLink = t := Host.Outcome.next.inj (drainingLink_unanswered.symm.trans hexec)
  have hlen := congrArg List.length hsent
  rw [List.length_append, List.length_singleton] at hlen
  omega

end Sys2Proof.Machine
end

section
/-! Instances (R426 to R445): quiesced, resumed, limited, saved, restored and reset, and the errors of host accesses. -/

namespace Sys2Proof.Machine

theorem exec_instQuiesce (op : Nat) (s : State) : exec (.instQuiesce op) s = execInstQuiesce op s := rfl
theorem exec_quiesceDrained (inst : Nat) (s : State) : exec (.quiesceDrained inst) s = execQuiesceDrained inst s := rfl
theorem exec_quiesceTimeout (inst : Nat) (s : State) : exec (.quiesceTimeout inst) s = execQuiesceTimeout inst s := rfl
theorem exec_instResume (op : Nat) (words : List Nat) (s : State) : exec (.instResume op words) s = execInstResume op words s := rfl
theorem exec_instLimits (op : Nat) (s : State) : exec (.instLimits op) s = execInstLimits op s := rfl
theorem exec_instNotice (op : Nat) (s : State) : exec (.instNotice op) s = execInstNotice op s := rfl
theorem exec_instSave (op : Nat) (records : List Nat) (s : State) : exec (.instSave op records) s = execInstSave op records s := rfl
theorem exec_instRestore (x : RecordsFor) (s : State) : exec (.instRestore x) s = execInstRestore x s := rfl
theorem exec_forcedInstanceReset (inst : Nat) (s : State) :
    exec (.forcedInstanceReset inst) s = execForcedInstanceReset inst s := rfl
theorem exec_instanceResetDone (inst : Nat) (s : State) : exec (.instanceResetDone inst) s = execInstanceResetDone inst s := rfl
theorem exec_vfEnableClear (enable : Bool) (num : Nat) (s : State) :
    exec (.vfEnableClear enable num) s = execVfEnableClear enable num s := rfl
theorem exec_hostAccessError (f kind target : Nat) (s : State) :
    exec (.hostAccessError f kind target) s = execHostAccessError f kind target s := rfl

/-- A descriptor on instances runs its body where its target is enabled (R427). -/
theorem State.instOp_of_enabled {s : State} {op code : Nat} {o : Op} (body : Op → Nat → State → State)
    (ho : s.go? op code = some o) (hx : s.fnExists (o.inst + 1) = true) (he : (s.fn (o.inst + 1)).enable = true) :
    s.instOp op code body = body o (o.inst + 1) s := by
  rw [State.instOp, ho]
  simp [hx, he]

theorem State.start_op?_self (s : State) (id : Nat) :
    (s.start id).op? id = (s.op? id).map (fun o => { o with phase := .running }) := State.modOp_op?_self ..

/-! ### Reading doorbells again -/

/-- A doorbell read leaves the work and the memories, and what a function is but its rings and events (R358, R434). -/
structure Rings (s t : State) : Prop where
  mem : t.mem = s.mem
  work : t.work = s.work
  fns : ∀ g, (t.fn g).state = (s.fn g).state ∧ (t.fn g).saved = (s.fn g).saved

theorem Rings.refl (s : State) : Rings s s := ⟨rfl, rfl, fun _ => ⟨rfl, rfl⟩⟩
theorem Rings.trans {s t u : State} (h : Rings s t) (k : Rings t u) : Rings s u :=
  ⟨k.mem.trans h.mem, k.work.trans h.work, fun g => ⟨(k.fns g).1.trans (h.fns g).1, (k.fns g).2.trans (h.fns g).2⟩⟩
theorem Rings.foldl {β : Type} {g : State → β → State} (hg : ∀ s b, Rings s (g s b)) (l : List β) (s : State) :
    Rings s (l.foldl g s) := by
  induction l generalizing s with
  | nil => exact .refl s
  | cons b l ih => exact (hg s b).trans (ih _)

theorem Told.rings {s t : State} (h : Told s t) : Rings s t := by
  refine ⟨h.mem, h.work, fun g => ?_⟩
  obtain ⟨e, m, hg, -⟩ := h.fns g
  rw [hg]
  exact ⟨rfl, rfl⟩

theorem rings_setSq (s : State) (f k : Nat) (q : SubmissionQueue) : Rings s (s.setSq f k q) := by
  refine ⟨rfl, rfl, fun g => ?_⟩
  by_cases hg : g = f
  · subst hg
    rw [State.setSq, State.setFn_fn_self]
    exact ⟨rfl, rfl⟩
  · rw [State.setSq, State.setFn_fn_ne _ _ hg]
    exact ⟨rfl, rfl⟩

theorem rings_readDoorbell (s : State) (f k w : Nat) : Rings s (s.readDoorbell f k w) := by
  unfold State.readDoorbell
  split
  · exact .refl _
  · split
    · exact .refl _
    · split
      · exact (rings_setSq ..).trans ⟨rfl, rfl, fun _ => ⟨rfl, rfl⟩⟩
      · exact (rings_setSq ..).trans (told_post ..).rings

/-! ### What a reset of instances leaves -/

/-- HBM, the SRAMs and every function's registers stand, and no operation or group comes for any function. -/
structure Sweeps (s t : State) : Prop where
  hbm : t.mem.hbm = s.mem.hbm
  sram : t.mem.sram = s.mem.sram
  fns : t.host.fns = s.host.fns
  ops : t.work.ops.map (·.2.fn) ⊆ s.work.ops.map (·.2.fn)
  groups : t.eng.groups.map (·.2.fn) ⊆ s.eng.groups.map (·.2.fn)

theorem Sweeps.refl (s : State) : Sweeps s s := ⟨rfl, rfl, rfl, List.Subset.refl _, List.Subset.refl _⟩
theorem Sweeps.trans {s t u : State} (h : Sweeps s t) (k : Sweeps t u) : Sweeps s u :=
  ⟨k.hbm.trans h.hbm, k.sram.trans h.sram, k.fns.trans h.fns, List.Subset.trans k.ops h.ops, List.Subset.trans k.groups h.groups⟩
theorem Sweeps.ite {c : Prop} [Decidable c] {s t u : State} (ht : Sweeps s t) (hu : Sweeps s u) :
    Sweeps s (if c then t else u) := by
  split
  · exact ht
  · exact hu
theorem Sweeps.foldl {β : Type} {g : State → β → State} (hg : ∀ s b, Sweeps s (g s b)) (l : List β) (s : State) :
    Sweeps s (l.foldl g s) := by
  induction l generalizing s with
  | nil => exact .refl s
  | cons b l ih => exact (hg s b).trans (ih _)

theorem sweeps_withSent (s : State) (l : List FabMsg) : Sweeps s (s.withSent l) :=
  ⟨rfl, rfl, rfl, List.Subset.refl _, List.Subset.refl _⟩

theorem sweeps_modOp (s : State) (id : Nat) {g : Op → Op} (hg : ∀ o, (g o).fn = o.fn) : Sweeps s (s.modOp id g) := by
  refine ⟨rfl, rfl, rfl, fun f hf => ?_, List.Subset.refl _⟩
  obtain ⟨p, hp, rfl⟩ := List.mem_map.1 hf
  obtain ⟨q, hq, -, hpq⟩ := Tab.mem_modify hp
  refine List.mem_map.2 ⟨q, hq, ?_⟩
  rw [hpq]
  split
  · exact (hg _).symm
  · rfl

theorem dropRedRun_fn (id : Nat) (g : RedGroup) : (dropRedRun id g).fn = g.fn := by
  unfold dropRedRun
  split
  · split <;> rfl
  · rfl

theorem sweeps_dropRun (s : State) (id : Nat) : Sweeps s (s.dropRun id) := by
  refine ⟨rfl, rfl, rfl, List.Subset.refl _, fun f hf => ?_⟩
  obtain ⟨p, hp, rfl⟩ := List.mem_map.1 hf
  obtain ⟨q, hq, rfl⟩ := List.mem_map.1 (show p ∈ s.eng.groups.map (fun p => (p.1, dropRedRun id p.2)) from hp)
  exact List.mem_map.2 ⟨q, hq, (dropRedRun_fn ..).symm⟩

theorem sweeps_endOp (s : State) (id status detail : Nat) : Sweeps s (s.endOp id status detail) := by
  rcases ho : s.op? id with _ | o
  · rw [State.endOp_of_none _ _ ho]
    exact .refl _
  · by_cases hl : o.phase = .ended
    · rw [State.endOp_of_ended _ _ ho hl]
      exact .refl _
    · rw [State.endOp_eq _ _ ho hl]
      obtain ⟨l, hr⟩ := s.redCancels_eq id
      have hsent : Sweeps s (if status = Status.success then s else s.redCancels id) := by
        rw [hr]
        exact .ite (.refl _) (sweeps_withSent ..)
      exact (hsent.trans (sweeps_modOp _ id (g := fun o => o.endedWith status detail) fun _ => rfl)).trans (sweeps_dropRun ..)

theorem sweeps_endOps (s : State) (ids : List Nat) (status detail : Nat) : Sweeps s (s.endOps ids status detail) :=
  .foldl (fun _ _ => sweeps_endOp ..) _ _

theorem sweeps_modSluice (s : State) (k : Nat) (g : Sluice → Sluice) : Sweeps s (s.modSluice k g) :=
  ⟨rfl, rfl, rfl, List.Subset.refl _, List.Subset.refl _⟩

theorem sweeps_abortSluice (s : State) (k reason origin : Nat) : Sweeps s (s.abortSluice k reason origin) := by
  unfold State.abortSluice State.abortSluiceWith
  split
  · exact .refl _
  · next e _ =>
    obtain ⟨l, hn⟩ := s.abortNotice_eq e reason origin
    rw [hn]
    exact .ite (.refl _) (.trans (.trans (.trans (.trans (.trans (sweeps_withSent ..) (sweeps_modSluice ..)) (sweeps_endOps ..))
      (sweeps_endOp ..)) (sweeps_endOps ..)) (.refl _))

theorem sweeps_abortSluicesOf (s : State) (ids : List Nat) (reason : Nat) : Sweeps s (s.abortSluicesOf ids reason) := by
  refine .trans (.foldl (fun s i => ?_) _ _) (.foldl (fun _ _ => sweeps_abortSluice ..) _ _)
  split
  · exact .ite (.refl _) (sweeps_abortSluice ..)
  · exact .refl _

theorem sweeps_markLost (s : State) (c id : Nat) : Sweeps s (s.markLost c id) := by
  rcases hc : s.host.ctxs.at? c with _ | x
  · rw [State.markLost, hc]
    exact .refl _
  · by_cases hx : x.lost = true
    · rw [State.markLost, hc]
      simp only [if_pos hx]
      exact .refl _
    · obtain ⟨ids, h⟩ := State.markLost_eq id hc (Bool.eq_false_iff.2 hx)
      rw [h]
      have hctx : Sweeps s (s.modCtx c (fun x => { x with lost := true, lossOp := id })) :=
        ⟨rfl, rfl, rfl, List.Subset.refl _, List.Subset.refl _⟩
      exact .trans (.trans (.trans hctx (sweeps_endOps ..)) (sweeps_abortSluicesOf ..))
        (.foldl (fun _ _ => sweeps_abortSluice ..) _ _)

theorem sweeps_decide (s : State) (id status detail : Nat) : Sweeps s (s.decide id status detail) := by
  unfold State.decide
  split
  · exact .refl _
  · exact .ite (.refl _) (.ite (.trans (.ite (sweeps_endOp ..) (.trans (sweeps_endOp ..) (sweeps_abortSluice ..)))
      (sweeps_markLost ..)) (.ite (sweeps_endOp ..) (.trans (sweeps_endOp ..) (sweeps_abortSluice ..))))

theorem sweeps_settleSluices (s : State) (f : Nat) : Sweeps s (s.settleSluices f) :=
  .trans (.foldl (fun _ _ => sweeps_abortSluice ..) _ _) ⟨rfl, rfl, rfl, List.Subset.refl _, List.Subset.refl _⟩

theorem State.foldl_redCancels_eq (l : List Nat) (s : State) : ∃ m, l.foldl (fun s i => s.redCancels i) s = s.withSent m :=
  State.foldl_withSent (fun s i => s.redCancels_eq i) l s

/-- Everything the function had is gone: its operations and its groups (R436 step 2). -/
theorem State.dropWork_facts (s : State) (f : Nat) : Sweeps s (s.dropWork f)
    ∧ f ∉ (s.dropWork f).work.ops.map (·.2.fn) ∧ f ∉ (s.dropWork f).eng.groups.map (·.2.fn) := by
  obtain ⟨m, hm⟩ := State.foldl_redCancels_eq ((s.work.ops.filter (fun p => p.2.fn = f)).map (·.1)) s
  have hops : (s.dropWork f).work.ops = s.work.ops.filter (fun p => p.2.fn ≠ f) := by
    simp only [State.dropWork, hm]
    rfl
  have hgroups : (s.dropWork f).eng.groups = s.eng.groups.filter (fun p => p.2.fn ≠ f) := by
    simp only [State.dropWork, hm]
    rfl
  have hrest : (s.dropWork f).mem.hbm = s.mem.hbm ∧ (s.dropWork f).mem.sram = s.mem.sram
      ∧ (s.dropWork f).host.fns = s.host.fns := by
    simp only [State.dropWork, hm]
    exact ⟨rfl, rfl, rfl⟩
  obtain ⟨hh, hs, hf⟩ := hrest
  rw [hops, hgroups]
  refine ⟨⟨hh, hs, hf, ?_, ?_⟩, ?_, ?_⟩
  · rw [hops]
    exact List.map_subset _ List.filter_sublist.subset
  · rw [hgroups]
    exact List.map_subset _ List.filter_sublist.subset
  all_goals
    intro h
    obtain ⟨p, hp, hpf⟩ := List.mem_map.1 h
    simp [hpf] at hp

theorem sweeps_modPond (s : State) (h : Nat) (g : Pond → Pond) : Sweeps s (s.modPond h g) :=
  ⟨rfl, rfl, rfl, List.Subset.refl _, List.Subset.refl _⟩

theorem sweeps_endMoves (s : State) (inst : Nat) : Sweeps s (s.endMoves inst) := by
  refine .foldl (fun s p => .trans ?_ (sweeps_modPond ..)) _ _
  split
  · exact sweeps_decide ..
  · exact .refl _

theorem sweeps_dropPushes (s : State) (f : Nat) : Sweeps s (s.dropPushes f) :=
  Sweeps.foldl (g := fun s (p : Nat × PushIn) => ({ s with fab := { s.fab with pushIn := s.fab.pushIn.erase p.1 } } : State).send
    { kind := .pushCancel, dst := p.2.dev, mere := p.2.mere, id := p.1, args := [], data := [] })
    (fun _ _ => ⟨rfl, rfl, rfl, List.Subset.refl _, List.Subset.refl _⟩) _ _

/-- A reset's first steps: the function is RESETTING, its quiesce ends and its sluices are settled (R436 step 1). -/
def State.settled (s : State) (inst : Nat) : State :=
  ((s.setInstState (inst + 1) .resetting).decide (s.fn (inst + 1)).quiesceOp Status.instanceReset 0).settleSluices (inst + 1)

/-- The state before the caches are cleared of the function and its registers are reset. -/
def State.swept (s : State) (inst : Nat) : State :=
  (((s.settled inst).dropWork (inst + 1)).endMoves inst).dropPushes (inst + 1)

theorem State.forcedReset_eq {s : State} {inst : Nat} (h : (s.fn (inst + 1)).state ≠ .resetting) : s.forcedReset inst
    = ((s.swept inst).dropXlat (inst + 1) (fun _ => true)).setFn (inst + 1) (s.fn (inst + 1)).afterReset := by
  rw [State.forcedReset]
  exact if_neg h

theorem State.swept_facts (s : State) (inst : Nat) : (s.swept inst).mem.hbm = s.mem.hbm ∧ (s.swept inst).mem.sram = s.mem.sram
    ∧ (s.swept inst).host.fns = (s.setInstState (inst + 1) .resetting).host.fns
    ∧ inst + 1 ∉ (s.swept inst).work.ops.map (·.2.fn) ∧ inst + 1 ∉ (s.swept inst).eng.groups.map (·.2.fn) := by
  have hfirst : Sweeps (s.setInstState (inst + 1) .resetting) (s.settled inst) :=
    (sweeps_decide ..).trans (sweeps_settleSluices ..)
  obtain ⟨hdrop, hops, hgroups⟩ := (s.settled inst).dropWork_facts (inst + 1)
  have hlast : Sweeps ((s.settled inst).dropWork (inst + 1)) (s.swept inst) := (sweeps_endMoves ..).trans (sweeps_dropPushes ..)
  obtain ⟨hh, hs, hf, -, -⟩ := (hfirst.trans hdrop).trans hlast
  exact ⟨hh, hs, hf, fun h => hops (hlast.ops h), fun h => hgroups (hlast.groups h)⟩

theorem State.fn_congr {s t : State} (h : t.host.fns = s.host.fns) (g : Nat) : t.fn g = s.fn g := by
  rw [State.fn, State.fn, h]

theorem State.dropXlat_fn (s : State) (f : Nat) (sel : Translation → Bool) (g : Nat) : (s.dropXlat f sel).fn g = s.fn g := rfl

theorem State.dropXlat_mem (s : State) (f : Nat) (sel : Translation → Bool) : (s.dropXlat f sel).mem = s.mem := rfl

/-- A forced reset leaves the memory, and of the functions only the one that is reset changes. -/
theorem State.forcedReset_frame (s : State) (inst : Nat) : (s.forcedReset inst).mem.hbm = s.mem.hbm
    ∧ ((s.forcedReset inst).fn (inst + 1)).state = .resetting
    ∧ ∀ g, g ≠ inst + 1 → (s.forcedReset inst).fn g = s.fn g := by
  by_cases hr : (s.fn (inst + 1)).state = .resetting
  · have h : s.forcedReset inst = s := by
      rw [State.forcedReset]
      exact if_pos hr
    rw [h]
    exact ⟨rfl, hr, fun _ _ => rfl⟩
  · obtain ⟨hh, -, hf, -, -⟩ := s.swept_facts inst
    rw [State.forcedReset_eq hr]
    refine ⟨by rw [State.setFn_mem, State.dropXlat_mem, hh], by rw [State.setFn_fn_self]; rfl, fun g hg => ?_⟩
    rw [State.setFn_fn_ne _ _ hg]
    rw [State.dropXlat_fn, State.fn_congr hf, State.setInstState, State.setFn_fn_ne _ _ hg]

/-! ### The end of a reset -/

/-- HBM, the functions and the context slots stand, and the table of contexts holds the same contexts. -/
structure Reslots (s t : State) : Prop where
  hbm : t.mem.hbm = s.mem.hbm
  fns : t.host.fns = s.host.fns
  slots : t.host.slots = s.host.slots
  keys : t.host.ctxs.map (·.1) = s.host.ctxs.map (·.1)

theorem Reslots.refl (s : State) : Reslots s s := ⟨rfl, rfl, rfl, rfl⟩
theorem Reslots.trans {s t u : State} (h : Reslots s t) (k : Reslots t u) : Reslots s u :=
  ⟨k.hbm.trans h.hbm, k.fns.trans h.fns, k.slots.trans h.slots, k.keys.trans h.keys⟩
theorem Reslots.ite {c : Prop} [Decidable c] {s t u : State} (ht : Reslots s t) (hu : Reslots s u) :
    Reslots s (if c then t else u) := by
  split
  · exact ht
  · exact hu
theorem Reslots.foldl {β : Type} {g : State → β → State} (hg : ∀ s b, Reslots s (g s b)) (l : List β) (s : State) :
    Reslots s (l.foldl g s) := by
  induction l generalizing s with
  | nil => exact .refl s
  | cons b l ih => exact (hg s b).trans (ih _)

theorem Tab.keys_modify {α : Type} (t : Tab α) (k : Nat) (g : α → α) : (t.modify k g).map (·.1) = t.map (·.1) := by
  rw [Tab.modify, List.map_map]
  refine List.map_congr_left fun p _ => ?_
  dsimp only [Function.comp_apply]
  split <;> rfl

theorem reslots_modPond (s : State) (h : Nat) (g : Pond → Pond) : Reslots s (s.modPond h g) := ⟨rfl, rfl, rfl, rfl⟩

theorem reslots_scrubTile (s : State) (t : Nat) : Reslots s (s.scrubTile t) := ⟨rfl, rfl, rfl, rfl⟩

theorem reslots_scrubTiles (s : State) (ts : List Nat) : Reslots s (s.scrubTiles ts) :=
  .foldl (fun _ _ => reslots_scrubTile ..) _ _

theorem reslots_claim (s : State) (pond c : Nat) : Reslots s (s.claim pond c) := by
  unfold State.claim
  split
  · exact .refl _
  · exact .ite (reslots_modPond ..) ((reslots_scrubTiles ..).trans (reslots_modPond ..))

theorem reslots_modCtx (s : State) (c : Nat) (g : Ctx → Ctx) : Reslots s (s.modCtx c g) := ⟨rfl, rfl, rfl, Tab.keys_modify ..⟩

theorem reslots_stampReady (s : State) (pond : Nat) : Reslots s (s.stampReady pond) := by
  refine .foldl (fun s r => ?_) _ _
  exact .ite (.trans (reslots_modCtx s r.1 (fun x => { x with readyAt := s.mem.order + 1 })) ⟨rfl, rfl, rfl, rfl⟩) (.refl _)

theorem reslots_schedule (s : State) (pond : Nat) : Reslots s (s.schedule pond) := by
  unfold State.schedule
  dsimp only
  refine (reslots_stampReady s pond).trans ?_
  split
  · exact .refl _
  · refine .ite (.refl _) ?_
    split
    · exact .refl _
    · exact .ite (reslots_claim ..) (.ite (reslots_modPond ..) (.refl _))

/-- A function with no sluice left says so once; its state stands, and so do contexts and slots. -/
theorem State.idleCheck_facts (s : State) (f : Nat) : (s.idleCheck f).mem = s.mem ∧ (s.idleCheck f).host.ctxs = s.host.ctxs
    ∧ (s.idleCheck f).host.slots = s.host.slots ∧ ((s.idleCheck f).fn f).state = (s.fn f).state := by
  unfold State.idleCheck
  split
  · have h := told_post (s.setFn f { s.fn f with idleDue := false }) 0 Event.instanceIdle (f - 1)
    exact ⟨h.mem, h.ctxs, h.slots, by rw [h.state, State.setFn_fn_self]⟩
  · exact ⟨rfl, rfl, rfl, rfl⟩

/-- The contexts and slots of a function that is reset are dropped, and its tiles are scrubbed (R436 step 5). -/
def State.unbound (s : State) (f : Nat) : State :=
  let mine := (s.host.slots.filter (fun p => p.2.ctx / 16384 = f)).map (·.1)
  let t := mine.foldl (fun s k => s.dropSlotXlat k) s
  (s.runningPonds f).foldl (fun s p => (s.scrubTiles p.2.tiles).modPond p.1 (fun q => { q with running := 0 }))
    { t with host := { t.host with
        slots := t.host.slots.filter (fun p => !mine.contains p.1)
        ctxs := t.host.ctxs.filter (fun p => p.1 / 16384 ≠ f) } }

/-- What the slots and contexts of a function were leaves the host's tables. -/
theorem State.unbound_facts (s : State) (f : Nat) : (s.unbound f).mem.hbm = s.mem.hbm ∧ (s.unbound f).host.fns = s.host.fns
    ∧ (∀ c ∈ (s.unbound f).host.ctxs.map (·.1), c / 16384 ≠ f) ∧ ∀ p ∈ (s.unbound f).host.slots, p.2.ctx / 16384 ≠ f := by
  unfold State.unbound
  extract_lets mine t
  have ht : t.mem = s.mem ∧ t.host = s.host :=
    List.foldlRecOn mine _ (motive := fun (t : State) => t.mem = s.mem ∧ t.host = s.host) ⟨rfl, rfl⟩ fun _ h _ _ => h
  have h := Reslots.foldl (g := fun s (p : Nat × Pond) =>
      (s.scrubTiles p.2.tiles).modPond p.1 (fun q => { q with running := 0 }))
    (fun _ _ => (reslots_scrubTiles ..).trans (reslots_modPond ..)) (s.runningPonds f)
    { t with host := { t.host with
        slots := t.host.slots.filter (fun p => !mine.contains p.1)
        ctxs := t.host.ctxs.filter (fun p => p.1 / 16384 ≠ f) } }
  refine ⟨h.hbm.trans (show t.mem.hbm = s.mem.hbm by rw [ht.1]), h.fns.trans (show t.host.fns = s.host.fns by rw [ht.2]),
    fun c hc => ?_, fun p hp => ?_⟩
  · rw [h.keys] at hc
    obtain ⟨p, hp, rfl⟩ := List.mem_map.1 hc
    exact of_decide_eq_true (List.mem_filter.1 hp).2
  · rw [h.slots] at hp
    have hp2 : p ∈ t.host.slots.filter (fun p => !mine.contains p.1) := hp
    rw [ht.2] at hp2
    obtain ⟨hmem, hnot⟩ := List.mem_filter.1 hp2
    intro hf
    have hmine : p.1 ∈ mine := List.mem_map.2 ⟨p, List.mem_filter.2 ⟨hmem, by simp [hf]⟩, rfl⟩
    simp only [List.contains_eq_mem, Bool.not_eq_true', decide_eq_false_iff_not] at hnot
    exact hnot hmine

theorem execInstanceResetDone_facts {s : State} {inst : Nat} (h : (s.fn (inst + 1)).state = .resetting) :
    ∃ t : State, exec (.instanceResetDone inst) s = .next t
      ∧ (t.fn (inst + 1)).state = (if (s.fn (inst + 1)).enable && s.fnExists (inst + 1) then .active else .disabled)
      ∧ (∀ p, p ∈ t.host.ctxs → p.1 / 16384 ≠ inst + 1) ∧ (∀ p, p ∈ t.host.slots → p.2.ctx / 16384 ≠ inst + 1)
      ∧ t.mem.hbm = s.mem.hbm := by
  generalize hst : (if ((s.fn (inst + 1)).enable && s.fnExists (inst + 1)) = true then InstState.active else .disabled) = st
  have hexec : exec (.instanceResetDone inst) s = .next (((((s.unbound (inst + 1)).setInstState (inst + 1) st).idleCheck
      (inst + 1)).mem.ponds.map (·.1)).foldl (fun s h => s.schedule h)
        (((s.unbound (inst + 1)).setInstState (inst + 1) st).idleCheck (inst + 1))) := by
    rw [exec_instanceResetDone, execInstanceResetDone, ← hst]
    exact if_neg (by simp [h])
  obtain ⟨hh, hf, hc, hsl⟩ := s.unbound_facts (inst + 1)
  obtain ⟨im, ic, is, ist⟩ := ((s.unbound (inst + 1)).setInstState (inst + 1) st).idleCheck_facts (inst + 1)
  have hk := Reslots.foldl (g := fun s h => s.schedule h) (fun _ _ => reslots_schedule ..)
    ((((s.unbound (inst + 1)).setInstState (inst + 1) st).idleCheck (inst + 1)).mem.ponds.map (·.1))
    (((s.unbound (inst + 1)).setInstState (inst + 1) st).idleCheck (inst + 1))
  refine ⟨_, hexec, ?_, fun p hp => ?_, fun p hp => ?_, ?_⟩
  · rw [State.fn_congr hk.fns, ist, State.setInstState, State.setFn_fn_self]
  · have hp1 := List.mem_map_of_mem (f := (·.1)) hp
    rw [hk.keys, ic] at hp1
    exact hc _ hp1
  · rw [hk.slots, is] at hp
    exact hsl _ hp
  · rw [hk.hbm, im]
    exact hh

/-! ### VF Enable -/

theorem State.foldl_forcedReset_frame (l : List Nat) (s : State) :
    (l.foldl (fun s f => s.forcedReset (f - 1)) s).mem.hbm = s.mem.hbm
    ∧ ∀ g, g ≠ 0 → (g ∈ l ∨ (s.fn g).state = .resetting) →
        ((l.foldl (fun s f => s.forcedReset (f - 1)) s).fn g).state = .resetting := by
  induction l generalizing s with
  | nil => exact ⟨rfl, fun g _ h => h.resolve_left (by simp)⟩
  | cons f l ih =>
    obtain ⟨hh, hr, hne⟩ := s.forcedReset_frame (f - 1)
    obtain ⟨ihh, ihg⟩ := ih (s.forcedReset (f - 1))
    refine ⟨ihh.trans hh, fun g hg h => ihg g hg ?_⟩
    by_cases he : g = f - 1 + 1
    · exact .inr (he ▸ hr)
    · refine h.imp (fun hm => (List.mem_cons.1 hm).resolve_left fun e => he ?_) fun hs => by rw [hne g he, hs]
      omega

theorem State.foldl_setInstState_frame (st : InstState) (l : List Nat) (s : State) :
    (l.foldl (fun s f => s.setInstState f st) s).mem = s.mem
    ∧ ∀ g, g ∉ l → (l.foldl (fun s f => s.setInstState f st) s).fn g = s.fn g := by
  induction l generalizing s with
  | nil => exact ⟨rfl, fun _ _ => rfl⟩
  | cons f l ih =>
    obtain ⟨ihm, ihg⟩ := ih (s.setInstState f st)
    refine ⟨ihm, fun g hg => ?_⟩
    rw [List.foldl_cons, ihg g (fun h => hg (List.mem_cons_of_mem _ h)), State.setInstState,
      State.setFn_fn_ne _ _ (fun e => hg (List.mem_cons.2 (.inl e)))]

/-- The functions that cease to exist under a new VF Enable and NumVFs, and those that exist again. -/
def State.vfsGone (s : State) (enable : Bool) (num : Nat) : List Nat :=
  (s.host.fns.filter (fun p => p.1 ≠ 0 && s.fnExists p.1 && !(enable && p.1 ≤ num))).map (·.1)
def State.vfsBack (s : State) (enable : Bool) (num : Nat) : List Nat :=
  (s.host.fns.filter (fun p => p.1 ≠ 0 && !s.fnExists p.1 && enable && p.1 ≤ num && p.2.enable
    && p.2.state = .disabled)).map (·.1)

/-- Every function that ceased to exist is reset, and every one that exists again is active. -/
def State.vfsSet (s : State) (enable : Bool) (num : Nat) : State :=
  (s.vfsBack enable num).foldl (fun s f => s.setInstState f .active)
    ((s.vfsGone enable num).foldl (fun s f => s.forcedReset (f - 1)) s)

theorem State.mem_vfsGone {s : State} {enable : Bool} {num f : Nat} {F : Fn} (hF : s.host.fns.at? f = some F) (h0 : f ≠ 0)
    (hx : s.fnExists f = true) (hgone : enable = false ∨ num < f) : f ∈ s.vfsGone enable num := by
  refine List.mem_map.2 ⟨(f, F), List.mem_filter.2 ⟨Tab.mem_of_at? hF, ?_⟩, rfl⟩
  rcases hgone with he | hlt
  · simp [h0, hx, he]
  · simp [h0, hx, Nat.not_le.2 hlt]

theorem State.notMem_vfsBack {s : State} {enable : Bool} {num f : Nat} (hx : s.fnExists f = true) :
    f ∉ s.vfsBack enable num := by
  intro hm
  obtain ⟨p, hp, rfl⟩ := List.mem_map.1 hm
  simp [hx] at hp

theorem State.vfsSet_facts (s : State) (enable : Bool) (num : Nat) : (s.vfsSet enable num).mem.hbm = s.mem.hbm
    ∧ ∀ f F, s.host.fns.at? f = some F → f ≠ 0 → s.fnExists f = true → (enable = false ∨ num < f) →
      ((s.vfsSet enable num).fn f).state = .resetting := by
  obtain ⟨hg, hreset⟩ := State.foldl_forcedReset_frame (s.vfsGone enable num) s
  obtain ⟨hb, hfn⟩ := State.foldl_setInstState_frame .active (s.vfsBack enable num)
    ((s.vfsGone enable num).foldl (fun s f => s.forcedReset (f - 1)) s)
  refine ⟨by rw [State.vfsSet, hb, hg], fun f F hF h0 hx hgone => ?_⟩
  rw [State.vfsSet, hfn f (State.notMem_vfsBack hx)]
  exact hreset f h0 (.inl (State.mem_vfsGone hF h0 hx hgone))

theorem execVfEnableClear_facts (s : State) (enable : Bool) (num : Nat) :
    ∃ t : State, exec (.vfEnableClear enable num) s = .next t ∧ t.host.vfEnable = enable ∧ t.host.numVfs = min num 512
      ∧ (∀ f F, s.host.fns.at? f = some F → f ≠ 0 → s.fnExists f = true → (enable = false ∨ min num 512 < f) →
          (t.fn f).state = .resetting) ∧ t.mem.hbm = s.mem.hbm := by
  have hexec : exec (.vfEnableClear enable num) s = .next { s.vfsSet enable (min num 512) with
      host := { (s.vfsSet enable (min num 512)).host with vfEnable := enable, numVfs := min (min num 512) 512 } } := rfl
  obtain ⟨hm, hf⟩ := s.vfsSet_facts enable (min num 512)
  exact ⟨_, hexec, rfl, Nat.min_eq_left (Nat.min_le_right ..), hf, hm⟩

/-! ### Errors of host accesses -/

/-- The state once a host access of a function ended in error: one more is counted (R441). -/
def State.aerCounted (s : State) (f : Nat) : State :=
  { s with host := { s.host with aerNonFatal := s.host.aerNonFatal.set f (s.host.aerNonFatal.get 0 f + 1) } }

theorem State.aerCounted_get (s : State) (f : Nat) :
    (s.aerCounted f).host.aerNonFatal.get 0 f = s.host.aerNonFatal.get 0 f + 1 := Tab.get_set_self ..

theorem Told.aer {s t : State} (h : Told s t) : t.host.aerNonFatal = s.host.aerNonFatal := by
  obtain ⟨⟨_, _, _, rfl⟩, -⟩ := h
  rfl

/-- A context lost is marked, and what it held is let go; no byte changes. -/
theorem State.loseContext_facts {s : State} {c : Nat} {x : Ctx} (status : Nat) (hc : s.host.ctxs.at? c = some x)
    (hx : x.lost = false) : ((s.loseContext c status).host.ctxs.at? c).map (·.lost) = some true
      ∧ (s.loseContext c status).host.aerNonFatal = s.host.aerNonFatal
      ∧ (s.loseContext c status).mem.hbm = s.mem.hbm ∧ (s.loseContext c status).mem.sram = s.mem.sram := by
  obtain ⟨ids, hm⟩ := State.markLost_eq 0 hc hx
  have hw : EndsWork (s.modCtx c (fun x => { x with lost := true, lossOp := 0 })) (s.markLost c 0) := by
    rw [hm]
    exact ((endsWork_endOps ..).trans (endsWork_abortSluicesOf ..)).trans (endsWork_abortOpened ..)
  have ht := told_post (s.markLost c 0) (c / 16384) Event.contextLost (contextLostPayload c status)
  have hr : ∀ u : State, (u.releaseLost c).host.ctxs = u.host.ctxs ∧ (u.releaseLost c).host.aerNonFatal = u.host.aerNonFatal
      ∧ (u.releaseLost c).mem.hbm = u.mem.hbm ∧ (u.releaseLost c).mem.sram = u.mem.sram := by
    intro u
    unfold State.releaseLost
    split <;> exact ⟨rfl, rfl, rfl, rfl⟩
  obtain ⟨rc, ra, rh, rs⟩ := hr ((s.markLost c 0).post (c / 16384) Event.contextLost (contextLostPayload c status))
  have hl : s.loseContext c status
      = ((s.markLost c 0).post (c / 16384) Event.contextLost (contextLostPayload c status)).releaseLost c := by
    rw [State.loseContext, hc]
    exact if_neg (by simp [hx])
  rw [hl]
  refine ⟨?_, ?_, ?_, ?_⟩
  · rw [rc, ht.ctxs, hw.host]
    simp [State.modCtx, hc]
  · rw [ra, ht.aer, hw.host]
    rfl
  · rw [rh, ht.mem, hw.apart.mem]
    rfl
  · rw [rs, ht.mem, hw.apart.mem]
    rfl

/-- A decision leaves the count of errors. -/
theorem State.decide_aer (s : State) (id st d : Nat) : (s.decide id st d).host.aerNonFatal = s.host.aerNonFatal := by
  have hone : ∀ k, (if (st = Status.success || k = 0) = true then s.endOp id st d
      else (s.endOp id st d).abortSluice k (reasonOf st) 0xFFFF).host = s.host := by
    intro k
    split
    · exact (endsWork_endOp ..).host
    · exact ((endsWork_endOp ..).trans (endsWork_abortSluice ..)).host
  have hlost : ∀ (u : State) (c : Nat), (u.markLost c id).host.aerNonFatal = u.host.aerNonFatal := by
    intro u c
    rcases hc : u.host.ctxs.at? c with _ | x
    · rw [State.markLost, hc]
    · by_cases hx : x.lost = true
      · rw [State.markLost, hc]
        simp only [if_pos hx]
      · obtain ⟨ids, h⟩ := State.markLost_eq id hc (Bool.eq_false_iff.2 hx)
        rw [h, (((endsWork_endOps ..).trans (endsWork_abortSluicesOf ..)).trans (endsWork_abortOpened ..)).host]
        rfl
  unfold State.decide
  split
  · rfl
  · split
    · rfl
    · dsimp only
      split
      · rw [hlost, hone]
      · rw [hone]

theorem execHostAccessError_ring {s : State} {f target : Nat} {q : SubmissionQueue} (hq : (s.fn f).sqs.at? target = some q)
    (hs : q.stopped = false) : ∃ t : State, exec (.hostAccessError f 0 target) s = .next t
      ∧ (t.fn f).sqs.at? target = some { q with stopped := true }
      ∧ t.host.aerNonFatal.get 0 f = s.host.aerNonFatal.get 0 f + 1 ∧ t.mem = s.mem := by
  have hexec : exec (.hostAccessError f 0 target) s = .next ((((s.aerCounted f).takeFree.2).setSq f target
      { q with stopped := true }).post f Event.queueError (queueErrorPayload target 0 (Config.freeNat s.work.free))) := by
    rw [exec_hostAccessError, execHostAccessError]
    simp only [hq, hs, Bool.false_eq_true, if_false]
    rfl
  have ht := told_post (((s.aerCounted f).takeFree.2).setSq f target { q with stopped := true }) f Event.queueError
    (queueErrorPayload target 0 (Config.freeNat s.work.free))
  refine ⟨_, hexec, ?_, ?_, ht.mem⟩
  · rw [ht.sqs, State.setSq, State.setFn_fn_self]
    exact Tab.at?_set_self ..
  · rw [ht.aer]
    exact s.aerCounted_get f

theorem execHostAccessError_op {s : State} {f target : Nat} {o : Op} (ho : s.op? target = some o) (hf : o.fn = f)
    (hl : o.phase ≠ .ended) : ∃ t : State, exec (.hostAccessError f 2 target) s = .next t
      ∧ (t.op? target).map (fun x => (x.phase, x.status)) = some (.ended, Status.hostAccessError)
      ∧ t.host.aerNonFatal.get 0 f = s.host.aerNonFatal.get 0 f + 1 ∧ t.mem = s.mem := by
  have hexec : exec (.hostAccessError f 2 target) s = .next (((s.aerCounted f).takeFree.2).decide target
      Status.hostAccessError (Config.freeNat s.work.free % 2 ^ 55)) := by
    rw [exec_hostAccessError, execHostAccessError]
    simp only [ho, hf]
    rfl
  refine ⟨_, hexec, ?_, ?_, (apart_decide ..).mem⟩
  · rw [State.decide_op?_self (s := (s.aerCounted f).takeFree.2) _ _ ho hl]
    rfl
  · rw [State.decide_aer]
    exact s.aerCounted_get f

/-! ### The descriptors of instances -/

theorem execInstQuiesce_facts {s : State} {op : Nat} {o : Op} (ho : s.go? op 0x90 = some o)
    (hx : s.fnExists (o.inst + 1) = true) (he : (s.fn (o.inst + 1)).enable = true) (ha : (s.fn (o.inst + 1)).state = .active) :
    ∃ t : State, exec (.instQuiesce op) s = .next t ∧ t.fn (o.inst + 1) = { s.fn (o.inst + 1) with
        state := .quiescing, quiesceOp := op, quiesceCount := 0, quiesceBy := s.ns + fld o.desc 0x24 0 32 * 1000 }
      ∧ (t.op? op).map (·.phase) = some .running ∧ t.mem = s.mem ∧ (∀ g, g ≠ o.inst + 1 → t.fn g = s.fn g) := by
  generalize hF : ({ s.fn (o.inst + 1) with
    state := .quiescing, quiesceOp := op, quiesceCount := 0, quiesceBy := s.ns + fld o.desc 0x24 0 32 * 1000 } : Fn) = F
  have hexec : exec (.instQuiesce op) s = .next (((s.setFn (o.inst + 1) F).enqueue op).start op) := by
    rw [exec_instQuiesce, execInstQuiesce, State.instOp_of_enabled _ ho hx he, ← hF]
    exact congrArg Host.Outcome.next (if_neg (by simp [ha]))
  obtain ⟨hop, -⟩ := State.go?_some ho
  refine ⟨_, hexec, State.setFn_fn_self .., ?_, rfl, fun g hg => State.setFn_fn_ne _ _ hg⟩
  rw [State.start_op?_self, State.enqueue, State.modOp_op?_self, State.setFn_op?, hop]
  rfl

theorem execInstResume_facts {s : State} {op : Nat} (words : List Nat) {o : Op} (ho : s.go? op 0x91 = some o)
    (hx : s.fnExists (o.inst + 1) = true) (he : (s.fn (o.inst + 1)).enable = true)
    (hq : (s.fn (o.inst + 1)).state = .quiesced) :
    ∃ t : State, exec (.instResume op words) s = .next t ∧ (t.fn (o.inst + 1)).state = .active
      ∧ (t.fn (o.inst + 1)).saved = false ∧ (t.op? op).map (fun x => (x.phase, x.status)) = some (.ended, 0)
      ∧ t.mem = s.mem := by
  generalize hF : ({ s.fn (o.inst + 1) with state := .active, saved := false } : Fn) = F
  have hexec : exec (.instResume op words) s = .next ((((s.fn (o.inst + 1)).sqs.zip words).foldl
      (fun s x => s.readDoorbell (o.inst + 1) x.1.1 x.2) (s.setFn (o.inst + 1) F)).succeed op) := by
    rw [exec_instResume, execInstResume, State.instOp_of_enabled _ ho hx he, ← hF]
    exact congrArg Host.Outcome.next (if_neg (by simp [hq]))
  have hr := Rings.foldl (g := fun s (x : (Nat × SubmissionQueue) × Nat) => s.readDoorbell (o.inst + 1) x.1.1 x.2)
    (fun _ _ => rings_readDoorbell ..) ((s.fn (o.inst + 1)).sqs.zip words) (s.setFn (o.inst + 1) F)
  generalize ((s.fn (o.inst + 1)).sqs.zip words).foldl
      (fun s x => s.readDoorbell (o.inst + 1) x.1.1 x.2) (s.setFn (o.inst + 1) F) = u at hr hexec
  obtain ⟨hop, -⟩ := State.go?_some ho
  have hu : u.op? op = some o := by rw [State.op?, hr.work]; exact hop
  have hl : o.phase ≠ .ended := by rw [State.phase_of_go? ho]; decide
  obtain ⟨hend, hm, hh⟩ := State.succeed_facts hu hl
  obtain ⟨hstate, hsaved⟩ := hr.fns (o.inst + 1)
  rw [State.setFn_fn_self, ← hF] at hstate hsaved
  have hfn : (u.succeed op).fn (o.inst + 1) = u.fn (o.inst + 1) := State.fn_congr (congrArg HostPart.fns hh) _
  refine ⟨_, hexec, by rw [hfn, hstate], by rw [hfn, hsaved], (State.succeed_ended hu hl).1, hm.trans hr.mem⟩

theorem execInstSave_eq {s : State} {op : Nat} (records : List Nat) {o : Op} (ho : s.go? op 0x93 = some o)
    (hx : s.fnExists (o.inst + 1) = true) (he : (s.fn (o.inst + 1)).enable = true)
    (hq : (s.fn (o.inst + 1)).state = .quiesced) (hh : s.instHeld (o.inst + 1) = 0)
    (hi : s.imageOk (fld o.desc 0x28 0 43) = true) (hr : s.runningPonds (o.inst + 1) = [])
    (hst : s.stalls 0 (fld o.desc 0x28 0 43) 0x24000 true = false) :
    let f := o.inst + 1
    let body := s.imageBody f
    let s2 := s.landWrite 0 (fld o.desc 0x28 0 43) (s.imageHeader f body ++ body)
    exec (.instSave op records) s = .next ((s2.setFn f { s2.fn f with saved := true }).succeed op) := by
  dsimp only
  rw [exec_instSave, execInstSave, State.instOp_of_enabled _ ho hx he]
  simp only [hq, hh, hi, hr, hst, List.zip_nil_left, List.any_nil, Bool.or_self, Bool.not_true, Bool.false_eq_true, if_false,
    ne_eq, not_true_eq_false]
  rfl

theorem execInstRestore_eq {s : State} {op : Nat} (records : List Nat) {o : Op} (ho : s.go? op 0x94 = some o)
    (hx : s.fnExists (o.inst + 1) = true) (he : (s.fn (o.inst + 1)).enable = true)
    (ha : (s.fn (o.inst + 1)).state = .active) (hc : (s.fn (o.inst + 1)).ctxSet = false) (hsq : (s.fn (o.inst + 1)).sqs = [])
    (hcq : (s.fn (o.inst + 1)).cqs = []) (heq : (s.fn (o.inst + 1)).eq = none) :
    let at_ := fld o.desc 0x28 0 43
    let h := leNat ((s.readPub at_ 0x24000).take 4096)
    let body := (s.readPub at_ 0x24000).drop 4096
    s.imageOk at_ = true → s.poisonIn at_ 0x24000 = false → imageWell h body = true → fld h 0x38 0 64 = crc64 body →
    fld h 8 0 16 = gsetId % 2 ^ 16 → fld h 8 20 4 = bitsOf gsetId 20 4 → fld h 0x30 0 15 ≤ (s.fn (o.inst + 1)).ctxMax →
    fld h 0x30 16 6 ≤ (s.fn (o.inst + 1)).sqMax → fld h 0x20 0 64 = 0 →
    s.stalls 0 at_ 0x24000 false = false → exec (.instRestore ⟨op, records⟩) s
      = .next ((s.loadImage (o.inst + 1) h body records).succeed op) := by
  intro at_ h body hi hp hw hcrc hid hver hctx hsqm hroot hst
  rw [exec_instRestore, execInstRestore, State.instOp_of_enabled _ ho hx he]
  have hin : ((s.fn (o.inst + 1)).state ≠ .active || (s.fn (o.inst + 1)).ctxSet || !(s.fn (o.inst + 1)).sqs.isEmpty
      || !(s.fn (o.inst + 1)).cqs.isEmpty || (s.fn (o.inst + 1)).eq.isSome) = false := by simp [ha, hc, hsq, hcq, heq]
  have himage : (!imageWell h body || fld h 0x38 0 64 ≠ crc64 body) = false := by simp [hw, hcrc]
  have hmatch : (fld h 8 0 16 ≠ gsetId % 2 ^ 16 || fld h 8 20 4 ≠ bitsOf gsetId 20 4
      || (s.fn (o.inst + 1)).ctxMax < fld h 0x30 0 15 || (s.fn (o.inst + 1)).sqMax < fld h 0x30 16 6
      || (fld h 0x20 0 64 ≠ 0 && !(fld h 0x20 0 64 % 65536 = 0 && fld h 0x20 0 64 < 2 ^ 43
        && s.goodTable (o.inst + 1) (0xFFFF * 2 ^ 43 + fld h 0x20 0 64)))) = false := by
    simp [hid, hver, hroot, Nat.not_lt.2 hctx, Nat.not_lt.2 hsqm]
  dsimp only
  rw [if_neg (Bool.eq_false_iff.1 hin), if_neg (by rw [hi]; decide), if_neg (Bool.eq_false_iff.1 hst),
    if_neg (Bool.eq_false_iff.1 hp), if_neg (Bool.eq_false_iff.1 himage), if_neg (Bool.eq_false_iff.1 hmatch)]

/-- The operations a quiesce timeout cancels, and the sluices they belong to (R431 step 3). -/
def State.cancelledAtTimeout (s : State) (f : Nat) : List Nat :=
  (s.liveOps (fun o => o.fn = f)).filter (fun i => !s.heldBySluiceFate i)
def State.sluicesAtTimeout (s : State) (ids : List Nat) : List Nat :=
  (s.work.sluices.filter (fun p => ids.contains p.2.commitOp
    || ids.any (fun i => (s.op? i).any (fun o => o.sluice = p.1)))).map (·.1)

theorem execQuiesceTimeout_facts {s : State} {inst : Nat} (h : (s.fn (inst + 1)).state = .quiescing) :
    ∃ t : State, exec (.quiesceTimeout inst) s = .next t ∧ t.mem = s.mem
      ∧ (t.fn (inst + 1)).quiesceCount = (s.fn (inst + 1)).quiesceCount
          + ((s.liveOps (fun o => o.fn = inst + 1)).filter (fun i => !s.heldBySluiceFate i)).length
      ∧ (∀ id o, s.op? id = some o → o.fn = inst + 1 → o.phase ≠ .ended → s.heldBySluiceFate id = false →
          (t.op? id).map (fun x => (x.phase, x.status)) = some (.ended, Status.cancelled)) := by
  generalize hids : (s.liveOps (fun o => o.fn = inst + 1)).filter (fun i => !s.heldBySluiceFate i) = ids
  have hw : EndsWork (s.endOps ids Status.cancelled 0) ((s.sluicesAtTimeout ids).foldl
      (fun s k => s.abortSluice k Reason.quiesce 0xFFFF) (s.endOps ids Status.cancelled 0)) :=
    EndsWork.foldl (fun _ _ => endsWork_abortSluice ..) _ _
  have hexec : exec (.quiesceTimeout inst) s = .next ((((s.sluicesAtTimeout ids).foldl
      (fun s k => s.abortSluice k Reason.quiesce 0xFFFF) (s.endOps ids Status.cancelled 0)).setFn (inst + 1)
        { ((s.sluicesAtTimeout ids).foldl (fun s k => s.abortSluice k Reason.quiesce 0xFFFF)
            (s.endOps ids Status.cancelled 0)).fn (inst + 1) with
          quiesceCount := (s.fn (inst + 1)).quiesceCount + ids.length }).refreshBoard) := by
    rw [exec_quiesceTimeout, execQuiesceTimeout, ← hids]
    exact if_neg (by simp [h])
  generalize (s.sluicesAtTimeout ids).foldl (fun s k => s.abortSluice k Reason.quiesce 0xFFFF)
    (s.endOps ids Status.cancelled 0) = u at hw hexec
  refine ⟨_, hexec, (hw.apart.mem).trans (endsWork_endOps ..).apart.mem, ?_, fun id o ho hf hl hs => ?_⟩
  · show ((u.setFn _ _).fn (inst + 1)).quiesceCount = _
    rw [State.setFn_fn_self]
  · have hid : id ∈ ids := by
      rw [← hids]
      exact List.mem_filter.2 ⟨State.mem_liveOps ho hl (by simp [hf]), by simp [hs]⟩
    have hend := hw.ended _ _ (State.endOps_op?_of_mem Status.cancelled 0 hid ho hl) rfl
    show (u.op? id).map _ = _
    rw [hend]
    rfl

theorem execForcedInstanceReset_facts {s : State} {inst : Nat} (hx : s.fnExists (inst + 1) = true)
    (hr : (s.fn (inst + 1)).state ≠ .resetting) :
    ∃ t : State, exec (.forcedInstanceReset inst) s = .next t ∧ t.fn (inst + 1) = (s.fn (inst + 1)).afterReset
      ∧ (∀ p, p ∈ t.work.ops → p.2.fn ≠ inst + 1) ∧ (∀ x, x ∈ t.xlat.tlb → x.fn ≠ inst + 1)
      ∧ (∀ x, x ∈ t.xlat.micro → x.2.fn ≠ inst + 1) ∧ (∀ p, p ∈ t.eng.groups → p.2.fn ≠ inst + 1)
      ∧ t.mem.hbm = s.mem.hbm ∧ t.mem.sram = s.mem.sram := by
  have hexec : exec (.forcedInstanceReset inst) s
      = .next (((s.swept inst).dropXlat (inst + 1) (fun _ => true)).setFn (inst + 1) (s.fn (inst + 1)).afterReset) := by
    rw [exec_forcedInstanceReset, execForcedInstanceReset, if_pos hx, State.forcedReset_eq hr]
  obtain ⟨hh, hs, -, hops, hgroups⟩ := s.swept_facts inst
  generalize s.swept inst = u at hexec hh hs hops hgroups
  refine ⟨_, hexec, State.setFn_fn_self .., fun p hp hf => hops (List.mem_map.2 ⟨p, hp, hf⟩), fun x hx => ?_, fun x hx => ?_,
    fun p hp hf => hgroups (List.mem_map.2 ⟨p, hp, hf⟩), hh, hs⟩
  · have hx2 : x ∈ u.xlat.tlb.filter (fun t => !(t.fn = inst + 1 && true)) := hx
    simpa using (List.mem_filter.1 hx2).2
  · have hx2 : x ∈ u.xlat.micro.filter (fun m => !(m.2.fn = inst + 1 && true)) := hx
    simpa using (List.mem_filter.1 hx2).2

/-- Settles O43: each command on instances by its own lemma above. -/
theorem instanceCommandsTakeEffect : Obligations.InstanceCommandsTakeEffect := by
  refine ⟨fun s op o ho hx he ha => execInstQuiesce_facts ho hx he ha, fun s inst hq hops => ?_,
    fun s inst h => execQuiesceTimeout_facts h, fun s op words o ho hx he hq => execInstResume_facts words ho hx he hq,
    fun s op o ho => ?_, fun s op o ho hx he => ?_,
    fun s op records o ho hx he hq hh hi hr hst => execInstSave_eq records ho hx he hq hh hi hr hst,
    fun s op records o ho hx he ha hc hsq hcq heq => execInstRestore_eq records ho hx he ha hc hsq hcq heq,
    fun s inst hx hr => execForcedInstanceReset_facts hx hr, fun s inst h => execInstanceResetDone_facts h,
    fun s enable num => execVfEnableClear_facts s enable num, fun s f target => ⟨fun q hq hs => execHostAccessError_ring hq hs,
      fun x hx hl => ?_, fun o ho hf hl => execHostAccessError_op ho hf hl, ?_⟩⟩
  · rw [exec_quiesceDrained, execQuiesceDrained]
    exact if_neg (by simpa [hq] using fun a b hp => hops (a, b) hp)
  · rw [exec_instLimits, execInstLimits, ho]
  · rw [exec_instNotice, execInstNotice, State.instOp_of_enabled _ ho hx he]
  · have hexec : exec (.hostAccessError f 1 target) s = .next ((s.aerCounted f).recordFails (f * 16384 + target)) := by
      rw [exec_hostAccessError, execHostAccessError]
      exact if_pos (by rw [hx]; rfl)
    obtain ⟨hlost, haer, hh, hs⟩ := State.loseContext_facts (s := s.aerCounted f) Status.badForm hx hl
    refine ⟨_, hexec, hlost, ?_, hh, hs⟩
    rw [State.recordFails, haer]
    exact s.aerCounted_get f
  · exact ⟨s.aerCounted f, rfl, s.aerCounted_get f, rfl, rfl⟩

end Sys2Proof.Machine
end

section
/-! Context slots, tile switches and beats (R315 to R337). -/

namespace Sys2Proof.Machine

theorem exec_ctxSched (op : Nat) (s : State) : exec (.ctxSched op) s = execCtxSched op s := rfl
theorem exec_quantumExpiry (h : Nat) (s : State) : exec (.quantumExpiry h) s = execQuantumExpiry h s := rfl
theorem exec_contextDrainDone (h record : Nat) (s : State) :
    exec (.contextDrainDone h record) s = execContextDrainDone h record s := rfl
theorem exec_contextSaveDone (h : Nat) (s : State) : exec (.contextSaveDone h) s = execContextSaveDone h s := rfl
theorem exec_contextRestoreDone (h : Nat) (s : State) : exec (.contextRestoreDone h) s = execContextRestoreDone h s := rfl
theorem exec_slotGrant (s : State) : exec .slotGrant s = execSlotGrant s := rfl
theorem exec_slotIdleTimeout (slot : Nat) (s : State) : exec (.slotIdleTimeout slot) s = execSlotIdleTimeout slot s := rfl
theorem exec_slotLoadDone (slot record : Nat) (s : State) : exec (.slotLoadDone slot record) s = execSlotLoadDone slot record s := rfl
theorem exec_beatSet (op : Nat) (s : State) : exec (.beatSet op) s = execBeatSet op s := rfl
theorem exec_beatStep (op : Nat) (s : State) : exec (.beatStep op) s = execBeatStep op s := rfl
theorem exec_beatStart (h : Nat) (s : State) : exec (.beatStart h) s = execBeatStart h s := rfl
theorem exec_beatEnd (h : Nat) (s : State) : exec (.beatEnd h) s = execBeatEnd h s := rfl

/-! ### What an operation that acts at its resolution does -/

theorem State.acts?_some {s : State} {op code : Nat} {o : Op} (h : s.acts? op code = some o) :
    s.op? op = some o ∧ o.opcode = code ∧ o.phase = .fetched ∧ o.acted = false := by
  unfold State.acts? at h
  split at h
  · next o' ho =>
    split at h
    · next hc =>
      obtain rfl := Option.some.inj h
      simp only [Bool.and_eq_true, decide_eq_true_eq, Bool.not_eq_true'] at hc
      exact ⟨ho, hc.1.1, hc.1.2, hc.2⟩
    · cases h
  · cases h

/-- What decides whether an operation may run: the work, the slots, and the steps of the beats. -/
theorem State.readyOp_congr {s t : State} {id : Nat} {o : Op} (hw : t.work.ops = s.work.ops)
    (hs : t.host.slots = s.host.slots) (hr : t.released o = s.released o) : t.readyOp id o = s.readyOp id o := by
  rw [State.readyOp, State.readyOp, hr, State.behind, State.behind, hw, State.resident, State.resident, hs]

theorem State.released_of_step_zero {s : State} {o : Op} (h : o.step = 0) : s.released o = true := by
  simp [State.released, h]

/-- The operation once its effect took place. -/
def Op.acting (o : Op) : Op := { o with acted := true }

/-- That an operation has acted says nothing of whether it may run. -/
theorem State.readyOp_acting (s : State) (id : Nat) (o : Op) :
    (s.modOp id Op.acting).readyOp id o.acting = s.readyOp id o := by
  have hb : (s.modOp id Op.acting).behind id o.acting = s.behind id o := by
    rw [State.behind, State.behind]
    show (List.map _ s.work.ops).any _ = _
    rw [List.any_map]
    refine congrArg (fun f => List.any s.work.ops f) (funext fun p => ?_)
    dsimp only [Function.comp_apply]
    split <;> rfl
  unfold State.readyOp
  rw [hb]
  rfl

theorem State.goOn_of_acted {s : State} {id code : Nat} {o : Op} (ho : s.op? id = some o) (hc : o.opcode = code)
    (ha : o.acted = true) : s.goOn id code = if s.readyOp id o then s.succeed id else s := by
  rw [State.goOn, ho]
  simp only [hc, ha, decide_true, Bool.true_and]

/-- An operation that has acted ends if it may run, and else waits for that. -/
theorem State.actDone_op?_self {s : State} {id code : Nat} {o : Op} (ho : s.op? id = some o) (hc : o.opcode = code)
    (hp : o.phase = .fetched) : (s.actDone id code).op? id
      = some (if s.readyOp id o then o.acting.endedWith 0 0 else o.acting) := by
  have hm : (s.modOp id Op.acting).op? id = some o.acting := by rw [State.modOp_op?_self, ho, Option.map_some]
  have hl : o.acting.phase ≠ .ended := by
    rw [show o.acting.phase = o.phase from rfl, hp]
    decide
  have he : s.actDone id code = if s.readyOp id o then (s.modOp id Op.acting).succeed id else s.modOp id Op.acting := by
    rw [← s.readyOp_acting id o]
    exact State.goOn_of_acted hm hc rfl
  rw [he]
  split
  · rw [State.succeed_eq, State.endOp_op?_self 0 0 hm hl]
  · exact hm

theorem State.actDone_frame (s : State) (id code : Nat) :
    (s.actDone id code).mem = s.mem ∧ (s.actDone id code).host = s.host := by
  unfold State.actDone State.goOn
  split
  · split
    · rw [State.succeed_eq]
      have h := endsWork_endOp (s.modOp id (fun o => { o with acted := true })) id 0 0
      exact ⟨h.apart.mem, h.host⟩
    · exact ⟨rfl, rfl⟩
  · exact ⟨rfl, rfl⟩

/-! ### Energy windows closed -/

/-- A close of energy windows leaves all but the Tally and what the host is told. -/
structure Accounts (s t : State) : Prop where
  eq : ∃ fs ws ms w, t = { s with host := { s.host with fns := fs, writes := ws, msis := ms }, tally := w }

theorem Accounts.refl (s : State) : Accounts s s := ⟨_, _, _, _, rfl⟩
theorem Accounts.trans {s t u : State} (h : Accounts s t) (k : Accounts t u) : Accounts s u := by
  obtain ⟨_, _, _, _, rfl⟩ := h
  obtain ⟨_, _, _, _, rfl⟩ := k
  exact ⟨_, _, _, _, rfl⟩
theorem Accounts.ite {c : Prop} [Decidable c] {s t u : State} (ht : Accounts s t) (hu : Accounts s u) :
    Accounts s (if c then t else u) := by
  split
  · exact ht
  · exact hu
theorem Accounts.foldl {β : Type} {g : State → β → State} (hg : ∀ s b, Accounts s (g s b)) (l : List β) (s : State) :
    Accounts s (l.foldl g s) := by
  induction l generalizing s with
  | nil => exact .refl s
  | cons b l ih => exact (hg s b).trans (ih _)

theorem Told.accounts {s t : State} (h : Told s t) : Accounts s t := by
  obtain ⟨⟨_, _, _, rfl⟩, -⟩ := h
  exact ⟨_, _, _, _, rfl⟩

theorem Accounts.rest {s t : State} (h : Accounts s t) : t.mem = s.mem ∧ t.work = s.work ∧ t.host.slots = s.host.slots
    ∧ t.host.ctxs = s.host.ctxs ∧ t.clk = s.clk := by
  obtain ⟨_, _, _, _, rfl⟩ := h
  exact ⟨rfl, rfl, rfl, rfl, rfl⟩

theorem accounts_setTally (s : State) (g : TallyPart → TallyPart) : Accounts s (s.setTally g) := ⟨_, _, _, _, rfl⟩

theorem accounts_emit (s : State) (r : EnergyRec) : Accounts s (s.emit r) := by
  have hw : Accounts s (s.writeRec r) := by
    unfold State.writeRec
    exact ((told_writeHost ..).accounts.trans (told_writeHost ..).accounts).trans (accounts_setTally ..)
  refine .ite (.refl _) (.ite hw (.ite ?_ (.ite (accounts_setTally ..) (accounts_setTally ..))))
  exact .ite ((accounts_setTally ..).trans (told_post ..).accounts) (accounts_setTally ..)

theorem accounts_charge (s : State) (k : Nat) (g : Acct → Acct) : Accounts s (s.charge k g) :=
  .ite (.refl _) (accounts_setTally ..)

theorem accounts_closeKeys (s : State) (ks : List Nat) (flags : Nat) : Accounts s (s.closeKeys ks flags) := by
  refine Accounts.foldl (fun s k => ?_) _ _
  split
  · exact .refl _
  · exact .ite ((accounts_setTally ..).trans (accounts_emit ..)) (accounts_setTally ..)

theorem accounts_closePondWindows (s : State) (pond : Nat) : Accounts s (s.closePondWindows pond) := by
  have hspread : Accounts s (s.spreadFiller pond) := by
    refine .ite (accounts_setTally ..) (.ite ((accounts_setTally ..).trans (accounts_charge ..)) ?_)
    exact (accounts_setTally ..).trans (.foldl (fun _ _ => accounts_charge ..) _ _)
  unfold State.closePondWindows
  exact (hspread.trans (accounts_closeKeys ..)).trans (accounts_setTally ..)

/-! ### Beats -/

/-- A pond given beats holds them, and nothing of the memories, the work or the slots changes but its record. -/
theorem State.setBeats_eq (s : State) (h : Nat) (p : Pond) (b : Option Beats) (n : Nat) : ∃ u, Accounts s u
    ∧ s.setBeats h p b n = u.modPond h (fun p => { p with beats := b, beatCount := n }) := by
  refine ⟨if p.beats.isSome = b.isSome then s else s.closePondWindows h, ?_, rfl⟩
  exact .ite (.refl _) (accounts_closePondWindows ..)

theorem State.setBeats_at?_self {s : State} {h : Nat} {p : Pond} (b : Option Beats) (n : Nat)
    (hp : s.mem.ponds.at? h = some p) : (s.setBeats h p b n).mem.ponds.at? h = some { p with beats := b, beatCount := n } := by
  obtain ⟨u, hu, he⟩ := s.setBeats_eq h p b n
  rw [he, State.modPond_at?_self, hu.rest.1, hp]
  rfl

/-- A pond's beats stand whatever context runs next. -/
theorem State.schedule_beats (s : State) (k h : Nat) :
    ((s.schedule k).mem.ponds.at? h).map (·.beats) = (s.mem.ponds.at? h).map (·.beats) := by
  have hc := congrArg (Option.map (·.beats)) ((pondCores_schedule s k).core h)
  rw [Option.map_map, Option.map_map] at hc
  exact hc

theorem State.schedule_bindBeats (s : State) (k h : Nat) :
    ((s.schedule k).mem.ponds.at? h).bind (·.beats) = (s.mem.ponds.at? h).bind (·.beats) := by
  have hm := s.schedule_beats k h
  rcases hs : s.mem.ponds.at? h with _ | p <;> rcases ht : (s.schedule k).mem.ponds.at? h with _ | q <;>
    simp_all

/-- The first grid point at or after a time lies on the grid (R330). -/
theorem gridFrom_facts (t0 now : Nat) {period : Nat} (hp : period ≠ 0) :
    now ≤ gridFrom t0 period now ∧ gridFrom t0 period now % period = t0 % period := by
  unfold gridFrom
  split
  · next h => exact ⟨h, rfl⟩
  · next h =>
    have hm := Nat.mod_add_div (now - t0 + period - 1) period
    have hlt := Nat.mod_lt (now - t0 + period - 1) (Nat.pos_of_ne_zero hp)
    rw [Nat.mul_comm] at hm
    refine ⟨by omega, by rw [Nat.add_mul_mod_self_right]⟩

/-- A bit of a 32-bit word of a descriptor. -/
theorem bitOf_fld {d off i : Nat} (hi : i < 32) (h : fld d off i 1 = 1) : bitOf (fld d off 0 32) i = true := by
  rw [fld, bitsOf, Nat.shiftRight_add, Nat.pow_one] at h
  rw [bitOf, fld, bitsOf, Nat.testBit_mod_two_pow, Nat.add_zero, Nat.testBit_eq_decide_div_mod_eq, ← Nat.shiftRight_eq_div_pow, h]
  simp [hi]

/-- The beats BEAT_SET turns on where none is in progress. -/
def Beats.turnedOn (p : Pond) (now period c f t0 : Nat) (ev : Bool) : Beats :=
  match p.beats with
  | none => Beats.reset now p.beatCount period c f t0 ev []
  | some b => { Beats.reset now b.number period c f t0 ev b.steps with prompts := b.prompts }

theorem Beats.turnedOn_facts (p : Pond) (now period c f t0 : Nat) (ev : Bool) :
    (Beats.turnedOn p now period c f t0 ev).period = period ∧ (Beats.turnedOn p now period c f t0 ev).catchUp = c
      ∧ (Beats.turnedOn p now period c f t0 ev).floor = f ∧ (Beats.turnedOn p now period c f t0 ev).running = false
      ∧ (Beats.turnedOn p now period c f t0 ev).t0 = t0
      ∧ (Beats.turnedOn p now period c f t0 ev).grid = gridFrom t0 period now := by
  unfold Beats.turnedOn
  split <;> exact ⟨rfl, rfl, rfl, rfl, rfl, rfl⟩

/-- A step released stays released, and one that is not stays so. -/
theorem Beats.turnedOn_released (p : Pond) (n now period c f t0 : Nat) (ev : Bool) (id : Nat) :
    (Pond.step? { p with beats := some (Beats.turnedOn p now period c f t0 ev), beatCount := n } id) = p.step? id := by
  unfold Pond.step? Beats.turnedOn
  rcases p.beats with _ | b <;> rfl

theorem State.released_setBeats {s : State} {h n : Nat} {p : Pond} {b : Option Beats} (o : Op)
    (hp : s.mem.ponds.at? h = some p) (hb : ∀ id, Pond.step? { p with beats := b, beatCount := n } id = p.step? id) :
    (s.setBeats h p b n).released o = s.released o := by
  unfold State.released
  by_cases he : o.pond = h
  · rw [he, State.setBeats_at?_self b n hp, hp]
    simp only [hb]
  · obtain ⟨u, hu, hset⟩ := s.setBeats_eq h p b n
    rw [hset, State.modPond_at?_ne _ _ he, hu.rest.1]

theorem execBeatSet_facts {s : State} {op : Nat} {o : Op} {p : Pond} (ho : s.acts? op 0x70 = some o)
    (hp : s.mem.ponds.at? (fld o.desc 0x20 0 9) = some p) (hfn : o.fn = 0 ∨ p.inst + 1 = o.fn) (hon : fld o.desc 0x20 16 1 = 1)
    (hrun : ∀ b, p.beats = some b → b.running = false) :
    ∃ (t : State) (b : Beats), exec (.beatSet op) s = .next t ∧ (t.mem.ponds.at? (fld o.desc 0x20 0 9)).bind (·.beats) = some b
      ∧ b.period = fld o.desc 0x24 0 32 * 1000 ∧ b.catchUp = fld o.desc 0x28 0 8 ∧ b.floor = fld o.desc 0x28 8 8
      ∧ (t.op? op).any (fun x => if s.readyOp op o then x.phase = .ended && x.status = 0 else x.phase = .fetched && x.acted)
      ∧ b.running = false ∧ (fld o.desc 0x24 0 32 ≠ 0 → s.ns ≤ b.grid ∧ b.grid % b.period = b.t0 % b.period) := by
  generalize hh : fld o.desc 0x20 0 9 = h at hp ⊢
  have hbit : bitOf (fld o.desc 0x20 0 32) 16 = true := bitOf_fld (by omega) hon
  generalize hb : Beats.turnedOn p s.ns (fld o.desc 0x24 0 32 * 1000) (fld o.desc 0x28 0 8) (fld o.desc 0x28 8 8)
    (if fld o.desc 0x30 0 64 = 0 then s.ns else fld o.desc 0x30 0 64) (bitOf (fld o.desc 0x20 0 32) 17) = b
  obtain ⟨n, hexec⟩ : ∃ n, exec (.beatSet op) s = .next (((s.setBeats h p (some b) n).actDone op 0x70).schedule h) := by
    rw [exec_beatSet, execBeatSet, ho]
    simp only [hh, hp]
    rw [if_neg (by omega), ← hb, Beats.turnedOn, hbit]
    rcases hbs : p.beats with _ | b0
    · exact ⟨p.beatCount, rfl⟩
    · refine ⟨b0.number, ?_⟩
      simp only [hrun b0 hbs, Bool.false_eq_true, if_false, if_true]
  obtain ⟨hop, hcode, hph, -⟩ := State.acts?_some ho
  obtain ⟨u, hu, hset⟩ := s.setBeats_eq h p (some b) n
  have hopu : (s.setBeats h p (some b) n).op? op = some o := by
    rw [hset]
    show u.op? op = _
    rw [State.op?, hu.rest.2.1]
    exact hop
  have hready : (s.setBeats h p (some b) n).readyOp op o = s.readyOp op o := by
    refine State.readyOp_congr ?_ ?_ (State.released_setBeats o hp fun id => hb ▸ Beats.turnedOn_released ..)
    · rw [hset]
      exact congrArg WorkPart.ops hu.rest.2.1
    · rw [hset]
      exact hu.rest.2.2.1
  obtain ⟨fp, fc, ff, fr, ft, fg⟩ := Beats.turnedOn_facts p s.ns (fld o.desc 0x24 0 32 * 1000) (fld o.desc 0x28 0 8)
    (fld o.desc 0x28 8 8) (if fld o.desc 0x30 0 64 = 0 then s.ns else fld o.desc 0x30 0 64) (bitOf (fld o.desc 0x20 0 32) 17)
  rw [hb] at fp fc ff fr ft fg
  refine ⟨_, b, hexec, ?_, fp, fc, ff, ?_, fr, fun hne => ?_⟩
  · rw [State.schedule_bindBeats, (State.actDone_frame ..).1, State.setBeats_at?_self _ _ hp]
    rfl
  · rw [State.schedule_op?, State.actDone_op?_self hopu hcode hph, hready]
    split
    · rfl
    · simp [Op.acting, hph]
  · rw [fp, ft, fg]
    exact gridFrom_facts _ _ (by omega)

/-- The step a BEAT_STEP makes. -/
def State.madeStep (s : State) (o : Op) (b : Beats) : BeatStep where
  id := s.work.nextStep
  fn := o.fn
  sq := o.sq
  prefill := fld o.desc 0x20 0 1 = 1
  costC := fld o.desc 0x28 0 32
  costM := fld o.desc 0x2C 0 32
  key := fld o.desc 0x30 0 32
  last := fld o.desc 0x34 0 1 = 1
  left := fld o.desc 0x24 0 13
  readyAt := 0
  released := false
  tooLong := b.period < max (fld o.desc 0x28 0 32) (fld o.desc 0x2C 0 32) * 100

/-- The state with the step added to its pond's beats and the ring's next descriptors counted to it. -/
def State.stepAdded (s : State) (o : Op) (b : Beats) (q : SubmissionQueue) : State :=
  (({ s with work := { s.work with nextStep := s.work.nextStep + 1 } } : State).modPond o.pond (fun p =>
    { p with beats := p.beats.map (fun c => { c with steps := c.steps ++ [s.madeStep o b] }) })).setSq o.fn o.sq
      { q with stepLeft := fld o.desc 0x24 0 13, stepId := s.work.nextStep }

theorem State.stepAdded_facts {s : State} {o : Op} {p : Pond} {b : Beats} (q : SubmissionQueue)
    (hp : s.mem.ponds.at? o.pond = some p) (hb : p.beats = some b) :
    ((s.stepAdded o b q).mem.ponds.at? o.pond).bind (·.beats) = some { b with steps := b.steps ++ [s.madeStep o b] }
      ∧ ((s.stepAdded o b q).fn o.fn).sqs.at? o.sq
        = some { q with stepLeft := fld o.desc 0x24 0 13, stepId := s.work.nextStep } := by
  refine ⟨?_, ?_⟩
  · rw [State.stepAdded, State.setSq, State.setFn_mem, State.modPond_at?_self]
    show ((s.mem.ponds.at? o.pond).map _).bind _ = _
    rw [hp, Option.map_some, Option.bind_some, hb]
    rfl
  · rw [State.stepAdded, State.setSq, State.setFn_fn_self, Tab.at?_set_self]

theorem execBeatStep_facts {s : State} {op : Nat} {o : Op} {p : Pond} {b : Beats} {q : SubmissionQueue}
    (ho : s.acts? op 0x71 = some o) (hp : s.mem.ponds.at? o.pond = some p) (hb : p.beats = some b)
    (hq : (s.fn o.fn).sqs.at? o.sq = some q) (hstep : o.step = 0) (hslu : o.sluice = 0) :
    ∃ (t : State) (x : BeatStep), exec (.beatStep op) s = .next t
      ∧ (t.mem.ponds.at? o.pond).bind (·.beats) = some { b with steps := b.steps ++ [x] } ∧ x.id = s.work.nextStep
      ∧ x.fn = o.fn ∧ x.sq = o.sq ∧ x.left = fld o.desc 0x24 0 13 ∧ x.released = false
      ∧ (t.fn o.fn).sqs.at? o.sq = some { q with stepLeft := fld o.desc 0x24 0 13, stepId := s.work.nextStep }
      ∧ (t.op? op).map (fun y => (y.phase, y.status, y.acted)) = some (
          if b.period < max (fld o.desc 0x28 0 32) (fld o.desc 0x2C 0 32) * 100 then (.ended, Status.stepTooLong, false)
          else if s.readyOp op o then (.ended, 0, true) else (.fetched, o.status, true)) := by
  have hexec : exec (.beatStep op) s = .next (
      if b.period < max (fld o.desc 0x28 0 32) (fld o.desc 0x2C 0 32) * 100 then
        (s.stepAdded o b q).decide op Status.stepTooLong 0
      else (s.stepAdded o b q).actDone op 0x71) := by
    rw [exec_beatStep, execBeatStep, ho]
    simp only [hp, Option.bind_some, hb, hq]
    rfl
  obtain ⟨hop, hcode, hph, hact⟩ := State.acts?_some ho
  obtain ⟨hbeats, hring⟩ := State.stepAdded_facts q hp hb
  have hopu : (s.stepAdded o b q).op? op = some o := hop
  have hready : (s.stepAdded o b q).readyOp op o = s.readyOp op o :=
    State.readyOp_congr rfl rfl (by rw [State.released_of_step_zero hstep, State.released_of_step_zero hstep])
  generalize s.stepAdded o b q = u at hexec hbeats hring hopu hready
  refine ⟨_, s.madeStep o b, hexec, ?_, rfl, rfl, rfl, rfl, rfl, ?_⟩
  · split
    · rw [(apart_decide ..).mem]
      exact hbeats
    · rw [(State.actDone_frame ..).1]
      exact hbeats
  · split
    · have hl : o.phase ≠ .ended := by rw [hph]; decide
      have hd : u.decide op Status.stepTooLong 0 = u.endOp op Status.stepTooLong 0 :=
        State.decide_of_no_sluice _ _ hopu hl hslu
      rw [State.decide_op?_self _ _ hopu hl, hd, State.fn_congr (congrArg HostPart.fns (endsWork_endOp ..).host)]
      exact ⟨hring, by rw [← hact]; rfl⟩
    · rw [State.actDone_op?_self hopu hcode hph, hready, State.fn_congr (congrArg HostPart.fns (State.actDone_frame ..).2)]
      refine ⟨hring, ?_⟩
      split
      · rfl
      · rw [← hph]
        rfl

/-! ### A beat's start and end -/

theorem takeSteps_subset (l : List BeatStep) (c m limit : Nat) (free : Bool) : (takeSteps l c m limit free).1 ⊆ l := by
  induction l generalizing c m free with
  | nil => exact List.Subset.refl _
  | cons t l ih =>
    unfold takeSteps
    split
    · exact List.nil_subset _
    · exact List.cons_subset_cons _ (ih ..)

theorem subset_of_takeSteps {l ts : List BeatStep} {c m limit c' m' : Nat} {free : Bool}
    (h : takeSteps l c m limit free = (ts, c', m')) : ts ⊆ l := by
  have hs := takeSteps_subset l c m limit free
  rwa [h] at hs

theorem mem_of_mem_insertBy {α : Type} {le : α → α → Bool} {a x : α} {l : List α} (h : x ∈ insertBy le a l) : x = a ∨ x ∈ l := by
  induction l with
  | nil => exact .inl (List.mem_singleton.1 h)
  | cons b l ih =>
    unfold insertBy at h
    split at h
    · exact List.mem_cons.1 h
    · rcases List.mem_cons.1 h with rfl | h
      · exact .inr List.mem_cons_self
      · exact (ih h).imp_right (List.mem_cons_of_mem _)

theorem mem_of_mem_sortBy {α : Type} {le : α → α → Bool} {x : α} {l : List α} (h : x ∈ sortBy le l) : x ∈ l := by
  induction l with
  | nil => exact h
  | cons a l ih => exact List.mem_cons.2 ((mem_of_mem_insertBy h).imp_right ih)

/-- A step the composer may take is ready, and not too long for its beat. -/
theorem Beats.of_mem_ready {b : Beats} {prefill : Bool} {y : BeatStep} (h : y ∈ b.ready prefill) :
    y ∈ b.steps ∧ y.readyAt ≠ 0 ∧ y.tooLong = false := by
  obtain ⟨hy, hc⟩ := List.mem_filter.1 h
  simp only [Bool.and_eq_true, decide_eq_true_eq, Bool.not_eq_true'] at hc
  exact ⟨hy, hc.1.1.1, hc.1.2⟩

theorem notePrompt_foldl_facts (us : List BeatStep) (b : Beats) : ∃ ps, us.foldl Beats.notePrompt b = { b with prompts := ps } := by
  induction us generalizing b with
  | nil => exact ⟨_, rfl⟩
  | cons u us ih =>
    obtain ⟨ps, h⟩ := ih (b.notePrompt u)
    exact ⟨ps, h⟩

theorem State.beatLag_mem (s : State) (h inst : Nat) (b : Beats) (lag : Nat) : (s.beatLag h inst b lag).1.mem = s.mem := by
  unfold State.beatLag
  dsimp only
  generalize (if lag = 0 then 0 else (lag - 1) / b.period) = k
  split
  · exact State.post_mem ..
  · rfl

/-- The steps of a beat with those of a list of IDs released. -/
def Beats.releasing (b : Beats) (rel : List Nat) : List BeatStep :=
  b.steps.map (fun t => if rel.contains t.id then { t with released := true } else t)

theorem Beats.of_mem_releasing {b : Beats} {l : List BeatStep} {x : BeatStep} (hx : x ∈ b.releasing (l.map (·.id)))
    (hl : ∀ y ∈ l, y ∈ b.steps ∧ y.readyAt ≠ 0 ∧ y.tooLong = false) : x ∈ b.steps
      ∨ (x.released = true ∧ ∃ y, y ∈ b.steps ∧ y.id = x.id ∧ y.readyAt ≠ 0 ∧ y.tooLong = false) := by
  obtain ⟨t, ht, rfl⟩ := List.mem_map.1 hx
  split
  · next hc =>
    obtain ⟨y, hy, hid⟩ := List.mem_map.1 (List.contains_iff_mem.1 hc)
    exact .inr ⟨rfl, y, (hl y hy).1, hid, (hl y hy).2⟩
  · exact .inl ht

theorem execBeatStart_facts {s : State} {h : Nat} {p : Pond} {b : Beats} (hp : s.mem.ponds.at? h = some p)
    (hb : p.beats = some b) (hrun : b.running = false) (hsw : p.switch = none) (hre : p.rebindFirst = false) :
    ∃ (t : State) (b' : Beats), exec (.beatStart h) s = .next t
        ∧ (t.mem.ponds.at? h).bind (·.beats) = some b' ∧ b'.running = true ∧ b'.number = b.number ∧ b'.lag = s.ns - b.grid
        ∧ b'.start = s.ns ∧ b'.budget ≤ b.period ∧ b'.steps.length = b.steps.length
        ∧ (∀ x, x ∈ b'.steps → x ∈ b.steps
            ∨ (x.released = true ∧ ∃ y, y ∈ b.steps ∧ y.id = x.id ∧ y.readyAt ≠ 0 ∧ y.tooLong = false)) := by
  rw [exec_beatStart, execBeatStart, hp]
  simp only [hb]
  rw [if_neg (by simp [hrun, hsw, hre])]
  generalize hts : takeSteps b.tokenOrder _ _ _ _ = r1
  obtain ⟨ts, c1, m1⟩ := r1
  dsimp only
  generalize hus : takeSteps b.prefillOrder _ _ _ _ = r2
  obtain ⟨us, c2, m2⟩ := r2
  have hm1 := s.beatLag_mem h p.inst b (s.ns - b.grid)
  dsimp only
  generalize s.beatLag h p.inst b (s.ns - b.grid) = r3 at hm1 ⊢
  obtain ⟨s1, k⟩ := r3
  dsimp only at hm1 ⊢
  have hready : ∀ y ∈ ts ++ us, y ∈ b.steps ∧ y.readyAt ≠ 0 ∧ y.tooLong = false := by
    intro y hy
    rcases List.mem_append.1 hy with hy | hy
    · exact Beats.of_mem_ready (mem_of_mem_sortBy (subset_of_takeSteps hts hy))
    · exact Beats.of_mem_ready (mem_of_mem_sortBy (subset_of_takeSteps hus hy))
  generalize hb' : us.foldl Beats.notePrompt _ = b'
  obtain ⟨ps, hps⟩ := notePrompt_foldl_facts us { b with
    running := true, start := s.ns, lag := s.ns - b.grid
    budget := (b.period * 256 - min ((s.ns - b.grid) * 256) (b.catchUp * b.period)) / 256, sumC := c2, sumM := m2
    tokens := ts.length, prefills := us.length, left := (b.ready false).length - ts.length, lagPosted := k
    steps := b.releasing ((ts ++ us).map (·.id)) }
  refine ⟨_, b', rfl, ?_, ?_⟩
  · rw [State.schedule_bindBeats, State.modPond_at?_self, hm1, hp]
    rfl
  · obtain rfl := hb'.symm.trans hps
    refine ⟨rfl, rfl, rfl, rfl, ?_, List.length_map .., fun x hx => Beats.of_mem_releasing hx hready⟩
    show (b.period * 256 - _) / 256 ≤ b.period
    omega

/-- The beats after a beat that sets nothing new. -/
def Beats.ended (b : Beats) : Beats :=
  { b with
    running := false
    number := (b.number + 1) % 2 ^ 48
    grid := b.grid + b.period
    steps := b.steps.filter (fun t => !t.released) }

/-- The operations of the released steps of a pond's beat have all left. -/
theorem execBeatEnd_eq {s : State} {h : Nat} {p : Pond} {b : Beats} (hp : s.mem.ponds.at? h = some p)
    (hb : p.beats = some b) (hrun : b.running = true)
    (hops : s.work.ops.any (fun o => o.2.pond = h && o.2.step ≠ 0
      && ((b.steps.filter (·.released)).map (·.id)).contains o.2.step) = false) (hst : b.stopping = true ∨ b.next = none) :
    ∃ u : State, u.mem = s.mem ∧ exec (.beatEnd h) s = .next ((u.setBeats h p
      (if b.stopping then none else some b.ended) ((b.number + 1) % 2 ^ 48)).schedule h) := by
  refine ⟨if b.events then s.post (p.inst + 1) Event.beatDone (beatDonePayload h b) else s, ?_, ?_⟩
  · split
    · exact State.post_mem ..
    · rfl
  · rw [exec_beatEnd, execBeatEnd, hp]
    simp only [hb]
    rw [if_neg (by rw [hops, hrun]; decide)]
    rcases hst with hst | hn
    · rw [hst, if_pos rfl, if_pos rfl]
    · rw [Beats.ended, hn]

theorem State.setBeats_schedule_beats {s u : State} {h : Nat} {p : Pond} (b : Option Beats) (n : Nat) (hu : u.mem = s.mem)
    (hp : s.mem.ponds.at? h = some p) : (((u.setBeats h p b n).schedule h).mem.ponds.at? h).map (·.beats) = some b := by
  rw [State.schedule_beats, State.setBeats_at?_self b n (hu ▸ hp)]
  rfl

/-! ### Context slots -/

/-- A context's record as it is read (R380): its save and event areas; what the device keeps of the context stands. -/
theorem State.loadRecord_facts (s : State) (c r : Nat) : ∃ y, (s.loadRecord c r).host.ctxs.at? c = some y
    ∧ (y.saveAddr, y.saveSize, y.evtAddr, y.evtCount)
      = (fld r 8 0 64, fld r 0x10 0 64, fld r 0x18 0 64, fld r 0x20 0 21)
    ∧ (y.ctlSaved && !y.lost) = (s.host.ctxs.at? c).any (fun x => x.ctlSaved && !x.lost)
    ∧ (s.loadRecord c r).mem = s.mem := by
  refine ⟨_, Tab.at?_set_self .., rfl, ?_, rfl⟩
  rcases s.host.ctxs.at? c with _ | x <;> rfl

theorem State.loadControl_of_unsaved {s : State} {c : Nat} {x : Ctx} (hx : s.host.ctxs.at? c = some x)
    (h : (x.ctlSaved && !x.lost) = false) : s.loadControl c = s := by
  rw [State.loadControl, hx]
  exact if_pos (by revert h; cases x.ctlSaved <;> cases x.lost <;> decide)

/-- The context's record is in the host's table, and its slot is resident. -/
def State.slotLoaded (s : State) (slot c record : Nat) : State :=
  let u := ({ s with host := { s.host with slots := s.host.slots.erase slot } } : State).loadRecord c record
  { u with host := { u.host with
      slots := s.host.slots.modify slot (fun x => { x with phase := .resident, since := s.ns }) } }

theorem execSlotLoadDone_loading {s : State} {slot record : Nat} {x : Slot} (hx : s.host.slots.at? slot = some x)
    (hl : x.phase = .loading) (hr : s.recordOk (x.ctx / 16384) record = true)
    (hc : (s.host.ctxs.at? x.ctx).any (fun c => c.ctlSaved && !c.lost) = false) :
    ∃ t : State, exec (.slotLoadDone slot record) s = .next t
        ∧ t.host.slots.at? slot = some { x with phase := .resident, since := s.ns }
        ∧ (t.host.ctxs.at? x.ctx).map (fun c => (c.saveAddr, c.saveSize, c.evtAddr, c.evtCount))
            = some (fld record 8 0 64, fld record 0x10 0 64, fld record 0x18 0 64, fld record 0x20 0 21) ∧ t.mem = s.mem := by
  obtain ⟨y, hy, hrec, hctl, hm⟩ := State.loadRecord_facts
    { s with host := { s.host with slots := s.host.slots.erase slot } } x.ctx record
  have hexec : exec (.slotLoadDone slot record) s = .next ((s.slotLoaded slot x.ctx record).loadControl x.ctx) := by
    rw [exec_slotLoadDone, execSlotLoadDone, hx]
    simp only [hl]
    exact if_pos hr
  rw [State.loadControl_of_unsaved (s := s.slotLoaded slot x.ctx record) hy (hctl.trans hc)] at hexec
  refine ⟨_, hexec, ?_, ?_, hm⟩
  · show Tab.at? (s.host.slots.modify slot (fun x => { x with phase := .resident, since := s.ns })) slot = _
    rw [Tab.at?_modify_self, hx]
    rfl
  · rw [show (s.slotLoaded slot x.ctx record).host.ctxs.at? x.ctx = some y from hy, Option.map_some, hrec]

theorem State.noteCtxWork_frame (s : State) (c slot : Nat) (h : s.host.slots.at? slot = none) :
    (s.noteCtxWork c).host.slots.at? slot = none ∧ (s.noteCtxWork c).xlat = s.xlat ∧ (s.noteCtxWork c).mem = s.mem := by
  refine ⟨?_, rfl, rfl⟩
  refine (Tab.at?_map s.host.slots _ (fun p => ?_) slot).trans (by rw [h]; rfl)
  split <;> rfl

theorem execSlotLoadDone_unloading {s : State} {slot : Nat} (record : Nat) {x : Slot} {s0 : State}
    (hx : s.host.slots.at? slot = some x)
    (hu : x.phase = .unloading) (ht : s.onTiles x.ctx = false) (h0 : s.saveControl x.ctx = some s0) :
    ∃ t : State, exec (.slotLoadDone slot record) s = .next t ∧ t.host.slots.at? slot = none
      ∧ (∀ y, y ∈ t.xlat.tlb → y.slot ≠ slot + 1) ∧ t.mem = s0.mem
      ∧ ((s.host.ctxs.at? x.ctx).any (fun c => 0x10000 ≤ c.saveSize && !c.lost) = false → t.mem = s.mem) := by
  have hexec : exec (.slotLoadDone slot record) s = .next (({ s0.dropSlotXlat slot with
      host := { (s0.dropSlotXlat slot).host with slots := s0.host.slots.erase slot } } : State).noteCtxWork x.ctx) := by
    rw [exec_slotLoadDone, execSlotLoadDone, hx]
    simp only [hu, h0]
    exact if_neg (by rw [ht]; decide)
  obtain ⟨hs, hxl, hm⟩ := State.noteCtxWork_frame { s0.dropSlotXlat slot with
    host := { (s0.dropSlotXlat slot).host with slots := s0.host.slots.erase slot } } x.ctx slot (Tab.at?_erase_self ..)
  refine ⟨_, hexec, hs, fun y hy => ?_, hm, fun hsmall => ?_⟩
  · rw [hxl] at hy
    exact of_decide_eq_true (List.mem_filter.1 hy).2
  · rw [hm]
    have hsame : s.saveControl x.ctx = some s := by
      unfold State.saveControl
      split
      · rfl
      · next c hc =>
        rw [hc] at hsmall
        refine if_pos ?_
        revert hsmall
        simp only [Option.any_some, Bool.and_eq_false_iff, decide_eq_false_iff_not, Bool.not_eq_false', Bool.or_eq_true,
          decide_eq_true_eq]
        exact Or.imp_left Nat.lt_of_not_le
    rw [hsame] at h0
    obtain rfl := Option.some.inj h0
    rfl

theorem execSlotGrant_facts {s : State} {i : Nat} {w : Nat × Ctx}
    (hi : (List.range 64).find? (fun i => (s.host.slots.at? i).isNone) = some i)
    (hw : s.bestWaiter (s.slotWaiters.filter (fun p => !((s.fn (p.1 / 16384)).slotMax ≠ 0
      && (s.fn (p.1 / 16384)).slotMax ≤ s.slotsOf (p.1 / 16384)))) = some w) :
    ∃ t : State, exec .slotGrant s = .next t
      ∧ t.host.slots.at? i = some { ctx := w.1, phase := .loading, since := s.ns, idle := false }
      ∧ (∀ j, j ≠ i → t.host.slots.at? j = s.host.slots.at? j) ∧ t.mem = s.mem ∧ t.work = s.work := by
  have hexec : exec .slotGrant s = .next (({ s with host := { s.host with
      slots := s.host.slots.set i { ctx := w.1, phase := .loading, since := s.ns, idle := false } } } : State).modCtx w.1
        (fun c => { c with waitSince := 0 })) := by
    rw [exec_slotGrant, execSlotGrant]
    simp only [hi, hw]
  exact ⟨_, hexec, Tab.at?_set_self .., fun j hj => Tab.at?_set_ne _ _ hj, rfl, rfl⟩

theorem execSlotIdleTimeout_facts {s : State} {slot : Nat} {x : Slot} (hx : s.host.slots.at? slot = some x)
    (hidle : (s.fn (x.ctx / 16384)).sqs.any (fun p => p.2.ctx = x.ctx % 16384 && p.2.submitted ≠ 0) = false) :
    ∃ t : State, exec (.slotIdleTimeout slot) s = .next t ∧ t.host.slots.at? slot = some { x with idle := true }
      ∧ t.mem = s.mem := by
  have hexec : exec (.slotIdleTimeout slot) s = .next { s with host := { s.host with
      slots := s.host.slots.modify slot (fun x => { x with idle := true }) } } := by
    rw [exec_slotIdleTimeout, execSlotIdleTimeout, hx]
    exact if_neg (by rw [hidle]; decide)
  refine ⟨_, hexec, ?_, rfl⟩
  show Tab.at? (s.host.slots.modify slot (fun x => { x with idle := true })) slot = _
  rw [Tab.at?_modify_self, hx]
  rfl

/-! ### Tile switches -/

/-- The steps by which a quantum's end picks its context, in the three ways R316 gives. -/
theorem State.quantumPick {all : List (Nat × Nat × Nat)} {cur prio order : Nat} {r : Nat × Nat × Nat}
    (h : let others := all.filter (fun x => x.1 ≠ cur)
      bestContext (others.filter (fun x => x.2.1 < prio)) = some r
      ∨ ((∀ y, y ∈ others → prio ≤ y.2.1) ∧ nextEqual others cur prio order = some r)
      ∨ ((∀ y, y ∈ all → prio < y.2.1 ∧ y.1 ≠ cur) ∧ bestContext others = some r)) :
    let others := all.filter (fun r => r.1 ≠ cur)
    bestContext (others.filter (fun r => r.2.1 < prio)) = some r
      ∨ (bestContext (others.filter (fun r => r.2.1 < prio)) = none ∧ nextEqual others cur prio order = some r)
      ∨ (bestContext (others.filter (fun r => r.2.1 < prio)) = none ∧ nextEqual others cur prio order = none
        ∧ all.any (fun r => r.1 = cur) = false ∧ bestContext others = some r) := by
  dsimp only at h
  have hnone : (∀ y, y ∈ all.filter (fun x => x.1 ≠ cur) → prio ≤ y.2.1) →
      bestContext ((all.filter (fun r => r.1 ≠ cur)).filter (fun r => r.2.1 < prio)) = none := by
    intro hle
    rw [List.filter_eq_nil_iff.2 fun y hy => by simpa using hle y hy]
    rfl
  rcases h with h | ⟨hle, h⟩ | ⟨hall, h⟩
  · exact .inl h
  · exact .inr (.inl ⟨hnone hle, h⟩)
  · have heq : nextEqual (all.filter (fun r => r.1 ≠ cur)) cur prio order = none := by
      have hnil : (all.filter (fun r => r.1 ≠ cur)).filter (fun r => r.1 ≠ cur && r.2.1 = prio) = [] :=
        List.filter_eq_nil_iff.2 fun y hy => by
          have hlt := (hall y (List.mem_filter.1 hy).1).1
          simp [Nat.ne_of_gt hlt]
      rw [nextEqual, hnil]
      rfl
    have hany : all.any (fun r => r.1 = cur) = false := List.any_eq_false.2 fun y hy => by simp [(hall y hy).2]
    exact .inr (.inr ⟨hnone fun y hy => Nat.le_of_lt (hall y (List.mem_filter.1 hy).1).1, heq, hany, h⟩)

theorem execContextDrainDone_facts {s : State} {h record : Nat} {p : Pond} {w : Switch} (hp : s.mem.ponds.at? h = some p)
    (hw : p.switch = some w) (hph : w.phase = .drain) (hre : p.rebindFirst = false)
    (hops : s.work.ops.any (fun x => x.2.ctx = p.running - 1 && x.2.inExec && x.2.isTile (s.groupTile x.2.fn)) = false)
    (hl : (s.host.ctxs.at? (p.running - 1)).any (·.lost) = false) (hr : s.recordOk ((p.running - 1) / 16384) record = true)
    (hneed : saveNeed p.binding.tilesM.length p.binding.tilesV.length ≤ fld record 0x10 0 64) :
    ∃ t : State, exec (.contextDrainDone h record) s = .next t
      ∧ t.mem.ponds.at? h = some { p with switch := some { w with phase := .save } } ∧ t.mem.hbm = s.mem.hbm := by
  obtain ⟨y, hy, hrec, -, hm⟩ := s.loadRecord_facts (p.running - 1) record
  have hsize : y.saveSize = fld record 0x10 0 64 := congrArg (·.2.1) hrec
  have hexec : exec (.contextDrainDone h record) s = .next ((s.loadRecord (p.running - 1) record).modPond h
      (fun p => { p with switch := some { w with phase := .save } })) := by
    rw [exec_contextDrainDone, execContextDrainDone, hp]
    simp only [hw]
    rw [if_neg (by rw [hops, hre, hph]; decide), if_neg (by rw [hl]; decide), if_neg (by rw [hr]; decide), hy]
    have hno : ¬ (some y).any (fun x => x.saveSize < saveNeed p.binding.tilesM.length p.binding.tilesV.length) = true := by
      rw [Option.any_some, hsize, decide_eq_true_eq]
      exact Nat.not_lt.2 hneed
    rw [if_neg hno]
  refine ⟨_, hexec, ?_, show (s.loadRecord (p.running - 1) record).mem.hbm = s.mem.hbm by rw [hm]⟩
  rw [State.modPond_at?_self, hm, hp]
  rfl

/-- Which contexts are ready for a pond's tiles rests on the work, the slots, the groups, the steps of the beats, and of the
contexts on priority and order. -/
theorem State.readyContexts_congr {s t : State} (h : Nat) (hw : t.work.ops = s.work.ops) (hs : t.host.slots = s.host.slots)
    (hg : t.groupTile = s.groupTile) (hr : ∀ o, t.released o = s.released o)
    (hc : ∀ c, (t.host.ctxs.at? c).map (fun x => (c, x.prio, x.readyAt)) = (s.host.ctxs.at? c).map (fun x => (c, x.prio, x.readyAt))) :
    t.readyContexts h = s.readyContexts h := by
  have hready : ∀ p : Nat × Op, t.readyOp p.1 p.2 = s.readyOp p.1 p.2 := fun p => State.readyOp_congr hw hs (hr p.2)
  simp only [State.readyContexts, hw, hg, hready, hc]

/-- With no context ready, a pond's tiles stay as they are. -/
theorem State.schedule_of_none {s : State} {h : Nat} (hn : s.readyContexts h = []) : s.schedule h = s := by
  have hst : s.stampReady h = s := by rw [State.stampReady, hn]; rfl
  rw [State.schedule]
  simp only [hst]
  split
  · rfl
  · split
    · rfl
    · rw [hn]
      rfl

theorem State.released_congr {s t : State} (hp : t.mem.ponds = s.mem.ponds) (o : Op) : t.released o = s.released o := by
  rw [State.released, State.released, hp]

theorem State.released_modPond {s : State} {h : Nat} {g : Pond → Pond} (hg : ∀ p, (g p).beats = p.beats) (o : Op) :
    (s.modPond h g).released o = s.released o := by
  unfold State.released
  by_cases he : o.pond = h
  · rw [he, State.modPond_at?_self]
    rcases s.mem.ponds.at? h with _ | p
    · rfl
    · simp only [Option.map_some, Pond.step?, hg]
  · rw [State.modPond_at?_ne _ _ he]

theorem State.scrubTiles_eq (s : State) (ts : List Nat) :
    ∃ m, s.scrubTiles ts = { s with mem := m } ∧ m.ponds = s.mem.ponds ∧ m.hbm = s.mem.hbm := by
  unfold State.scrubTiles
  induction ts generalizing s with
  | nil => exact ⟨_, rfl, rfl, rfl⟩
  | cons t ts ih =>
    obtain ⟨m, h, hp, hh⟩ := ih (s.scrubTile t)
    exact ⟨m, by rw [List.foldl_cons, h]; rfl, hp, hh⟩

theorem State.scrubTile_get (s : State) (t k : Nat) : (s.scrubTile t).mem.sram.get k
    = if t * 0x400000 ≤ k ∧ k < t * 0x400000 + 0x400000 then 0 else s.mem.sram.get k := Memory.get_clear ..

/-- The SRAM of a tile that is scrubbed reads zero. -/
theorem State.scrubTiles_zero (s : State) {ts : List Nat} {tile i : Nat} (ht : tile ∈ ts) (hi : i < 0x400000) :
    (s.scrubTiles ts).mem.sram.get (tile * 0x400000 + i) = 0 := by
  have hkeep : ∀ (l : List Nat) (u : State) (k : Nat), u.mem.sram.get k = 0 → (u.scrubTiles l).mem.sram.get k = 0 := by
    intro l
    unfold State.scrubTiles
    induction l with
    | nil => exact fun _ _ h => h
    | cons t l ih =>
      refine fun u k h => ih _ k ?_
      rw [State.scrubTile_get]
      split
      · rfl
      · exact h
  obtain ⟨l1, l2, rfl⟩ := List.append_of_mem ht
  have hsplit : s.scrubTiles (l1 ++ tile :: l2) = ((s.scrubTiles l1).scrubTile tile).scrubTiles l2 := List.foldl_append ..
  rw [hsplit]
  refine hkeep l2 _ _ ?_
  rw [State.scrubTile_get, if_pos (by omega)]

/-- A pond's tiles scrubbed and given to a context whose images are not saved. -/
def State.givenTo (s : State) (h : Nat) (p : Pond) (c : Nat) : State :=
  ((s.scrubTiles p.tiles).modCtx c (fun x => { x with saved := false })).modPond h (fun p =>
    { p with switch := none, running := c + 1, since := s.ns })

theorem State.givenTo_facts {s : State} {h : Nat} {p : Pond} (c : Nat) (hp : s.mem.ponds.at? h = some p) :
    ((s.givenTo h p c).mem.ponds.at? h).map (fun q => (q.running, q.switch, q.since)) = some (c + 1, none, s.ns)
      ∧ (∀ tile, tile ∈ p.tiles → ∀ i, i < 0x400000 → (s.givenTo h p c).mem.sram.get (tile * 0x400000 + i) = 0)
      ∧ (s.givenTo h p c).readyContexts h = s.readyContexts h
      ∧ (s.givenTo h p c).host.ctxs.at? c = (s.host.ctxs.at? c).map (fun x => { x with saved := false }) := by
  obtain ⟨m, hm, hpm, -⟩ := s.scrubTiles_eq p.tiles
  refine ⟨?_, fun tile ht i hi => State.scrubTiles_zero s ht hi, ?_, ?_⟩
  · rw [State.givenTo, State.modPond_at?_self]
    show Option.map _ (Option.map _ ((s.scrubTiles p.tiles).mem.ponds.at? h)) = _
    rw [hm, hpm, hp]
    rfl
  · rw [State.givenTo, hm]
    refine State.readyContexts_congr h rfl rfl rfl (fun o => ?_) fun k => ?_
    · exact (State.released_modPond (g := fun p => { p with switch := none, running := c + 1, since := s.ns })
        (fun _ => rfl) o).trans (State.released_congr (s := s)
        (t := ({ s with mem := m } : State).modCtx c (fun x => { x with saved := false })) hpm o)
    · show Option.map _ (Tab.at? (s.host.ctxs.modify c (fun x => { x with saved := false })) k) = _
      exact Tab.map_at?_modify s.host.ctxs c k _ _ fun _ => rfl
  · rw [State.givenTo, hm]
    exact Tab.at?_modify_self s.host.ctxs c (fun x => { x with saved := false })

theorem execContextRestoreDone_facts {s : State} {h : Nat} {p : Pond} {w : Switch} (hp : s.mem.ponds.at? h = some p)
    (hw : p.switch = some w) (hph : w.phase = .restore)
    (hc : (s.host.ctxs.at? w.dest).any (fun c => !c.lost && !c.saved) = true) (hready : s.readyContexts h = []) :
    ∃ t : State, exec (.contextRestoreDone h) s = .next t
      ∧ (t.mem.ponds.at? h).map (fun q => (q.running, q.switch, q.since)) = some (w.dest + 1, none, s.ns)
      ∧ (∀ tile, tile ∈ p.tiles → ∀ i, i < 0x400000 → t.mem.sram.get (tile * 0x400000 + i) = 0) := by
  obtain ⟨hpond, hzero, hr, hctx⟩ := State.givenTo_facts w.dest hp
  rcases hx : s.host.ctxs.at? w.dest with _ | x
  · rw [hx] at hc
    cases hc
  rw [hx] at hc hctx
  obtain ⟨hlost, hsaved⟩ : x.lost = false ∧ x.saved = false := by simpa using hc
  have hrest : (s.scrubTiles p.tiles).restoreTiles h p w.dest = some (s.scrubTiles p.tiles) := by
    obtain ⟨m, hm, -, -⟩ := s.scrubTiles_eq p.tiles
    rw [hm, State.restoreTiles]
    simp only [hx, hsaved]
    rfl
  have hlive : (((s.scrubTiles p.tiles).modCtx w.dest (fun x => { x with saved := false })).host.ctxs.at? w.dest).all (·.lost)
      = false := by
    have h2 := hctx
    rw [State.givenTo] at h2
    rw [show ((s.scrubTiles p.tiles).modCtx w.dest (fun x => { x with saved := false })).host.ctxs.at? w.dest = _ from h2]
    simp [hlost]
  have hexec : exec (.contextRestoreDone h) s = .next (((s.givenTo h p w.dest).releaseLost w.dest).schedule h) := by
    rw [exec_contextRestoreDone, execContextRestoreDone, hp]
    simp only [hw]
    rw [if_neg (by rw [hph]; decide), hrest]
    simp only [hlive, hx, Option.any_some, hsaved, Bool.false_eq_true, if_false]
    rfl
  have hrel : (s.givenTo h p w.dest).releaseLost w.dest = s.givenTo h p w.dest := by
    rw [State.releaseLost, hctx]
    exact if_pos (by simp [hlost])
  rw [hrel, State.schedule_of_none (hr.trans hready)] at hexec
  exact ⟨_, hexec, hpond, hzero⟩

theorem execQuantumExpiry_facts {s : State} {h : Nat} {p : Pond} {r : Nat × Nat × Nat}
    (hp : (s.stampReady h).mem.ponds.at? h = some p) (hmay : p.maySwitch = true) (hre : p.rebindFirst = false)
    (hrun : p.running ≠ 0) :
    let x := (s.stampReady h).host.ctxs.at? (p.running - 1)
    let prio := (x.map (·.prio)).getD 2
    let all := (s.stampReady h).readyContexts h
    let others := all.filter (fun x => x.1 ≠ p.running - 1)
    (bestContext (others.filter (fun x => x.2.1 < prio)) = some r
      ∨ ((∀ y, y ∈ others → prio ≤ y.2.1)
        ∧ nextEqual others (p.running - 1) prio ((x.map (fun (y : Ctx) => y.readyAt)).getD 0) = some r)
      ∨ ((∀ y, y ∈ all → prio < y.2.1 ∧ y.1 ≠ p.running - 1) ∧ bestContext others = some r)) →
    ∃ t : State, exec (.quantumExpiry h) s = .next t
      ∧ t.mem.ponds.at? h = some { p with switch := some { dest := r.1, phase := .drain } }
      ∧ t.mem.hbm = s.mem.hbm ∧ t.mem.sram = s.mem.sram := by
  intro x prio all others hpick
  have hexec : exec (.quantumExpiry h) s = .next ((s.stampReady h).modPond h (fun p =>
      { p with switch := some { dest := r.1, phase := .drain } })) := by
    rw [exec_quantumExpiry, execQuantumExpiry]
    simp only [hp]
    rw [if_neg (by simp [hmay, hre, hrun])]
    rcases State.quantumPick hpick with h1 | ⟨h1, h2⟩ | ⟨h1, h2, h3, h4⟩
    · simp only [all, prio, x] at h1
      rw [h1]
    · simp only [all, prio, x] at h1 h2
      rw [h1, h2]
    · simp only [all, prio, x] at h1 h2 h3 h4
      rw [h1, h2, h3, if_neg Bool.false_ne_true, h4]
  obtain ⟨cs, n, hst⟩ := s.stampReady_eq h
  refine ⟨_, hexec, ?_, ?_, ?_⟩
  · rw [State.modPond_at?_self, hp]
    rfl
  · rw [hst]
    rfl
  · rw [hst]
    rfl

/-- Settles O42: each scheduling command by its own lemma above. -/
theorem schedulingCommandsTakeEffect : Obligations.SchedulingCommandsTakeEffect := by
  refine ⟨fun s op o ho => ?_, fun s h p r hp hm hre hrun => execQuantumExpiry_facts hp hm hre hrun,
    fun s h record p w hp hw => ⟨fun hph hre hops hl hr hneed => execContextDrainDone_facts hp hw hph hre hops hl hr hneed,
      fun hph hd s1 hs => ?_, fun hph hc hready => execContextRestoreDone_facts hp hw hph hc hready⟩,
    fun s i w hi hw => execSlotGrant_facts hi hw,
    fun s slot record x hx => ⟨fun hidle => execSlotIdleTimeout_facts hx hidle, fun hl hr hc => execSlotLoadDone_loading hx hl hr hc,
      fun hu ht s0 h0 => execSlotLoadDone_unloading record hx hu ht h0⟩,
    fun s op o p ho hp hfn hon hrun => execBeatSet_facts ho hp hfn hon hrun,
    fun s op o p b q ho hp hb hq hstep hslu => execBeatStep_facts ho hp hb hq hstep hslu,
    fun s h p b hp hb => ⟨fun hrun hsw hre => execBeatStart_facts hp hb hrun hsw hre, fun hrun hops hst hn => ?_,
      fun hrun hops hst => ?_⟩⟩
  · rw [exec_ctxSched, execCtxSched, ho]
  · rw [exec_contextSaveDone, execContextSaveDone, hp]
    simp only [hw, hs]
    rw [if_neg (by rw [hph]; decide)]
    unfold Pond.toRestore
    rw [if_neg hd]
  · obtain ⟨u, hu, hexec⟩ := execBeatEnd_eq hp hb hrun hops (.inr hn)
    rw [hst] at hexec
    rw [if_neg Bool.false_ne_true] at hexec
    have hbeats := State.setBeats_schedule_beats (some b.ended) ((b.number + 1) % 2 ^ 48) hu hp
    refine ⟨_, b.ended, hexec, ?_, rfl, rfl, rfl, fun x hx => (List.mem_filter.1 hx).1⟩
    obtain ⟨q, hq, hqb⟩ := Option.map_eq_some_iff.1 hbeats
    rw [hq, Option.bind_some, hqb]
  · obtain ⟨u, hu, hexec⟩ := execBeatEnd_eq hp hb hrun hops (.inl hst)
    rw [hst, if_pos rfl] at hexec
    exact ⟨_, hexec, State.setBeats_schedule_beats none _ hu hp⟩

end Sys2Proof.Machine
end

section
/-! Ponds created, scheduled, re-bound and destroyed, and plots placed outside them (R293 to R306, R674). -/

namespace Sys2Proof.Machine

theorem exec_pondCreate (op : Nat) (ext : Ext) (s : State) : exec (.pondCreate op ext) s = execPondCreate op ext s := rfl
theorem exec_pondDestroy (op : Nat) (s : State) : exec (.pondDestroy op) s = execPondDestroy op s := rfl
theorem exec_pondSched (op : Nat) (s : State) : exec (.pondSched op) s = execPondSched op s := rfl
theorem exec_plotMapPlace (op : Nat) (s : State) : exec (.plotMapPlace op) s = execPlotMapPlace op s := rfl
theorem exec_plotMapRemove (op : Nat) (s : State) : exec (.plotMapRemove op) s = execPlotMapRemove op s := rfl
theorem exec_pondRebind (op : Nat) (ext : Ext) (s : State) : exec (.pondRebind op ext) s = execPondRebind op ext s := rfl
theorem exec_rebindCopyPassDone (h : Nat) (s : State) : exec (.rebindCopyPassDone h) s = execRebindCopyPassDone h s := rfl
theorem exec_rebindPoint (h : Nat) (s : State) : exec (.rebindPoint h) s = execRebindPoint h s := rfl
theorem exec_rebindSwitchDone (h : Nat) (s : State) : exec (.rebindSwitchDone h) s = execRebindSwitchDone h s := rfl
theorem exec_rebindTimeout (h : Nat) (s : State) : exec (.rebindTimeout h) s = execRebindTimeout h s := rfl

/-! ### Making and unmaking ponds -/

/-- An operation that may act ends with success where only it is decided. -/
theorem State.succeed_of_go? {s u : State} {op code : Nat} {o : Op} (ho : s.go? op code = some o)
    (hw : u.work.ops = s.work.ops) : ((u.succeed op).op? op).map (fun x => (x.phase, x.status)) = some (.ended, 0)
      ∧ (u.succeed op).mem = u.mem := by
  obtain ⟨hop, -⟩ := State.go?_some ho
  have hu : u.op? op = some o := by rw [State.op?, hw]; exact hop
  have hl : o.phase ≠ .ended := by rw [State.phase_of_go? ho]; decide
  obtain ⟨hend, hm, -⟩ := State.succeed_ended hu hl
  exact ⟨hend, hm⟩

/-- Success touches no membership of a mere. -/
theorem State.succeed_meres (s : State) (op : Nat) : (s.succeed op).fab.meres = s.fab.meres := by
  rw [State.succeed_eq]
  rcases ho : s.op? op with _ | o
  · rw [State.endOp_of_none _ _ ho]
  · by_cases hl : o.phase = .ended
    · rw [State.endOp_of_ended _ _ ho hl]
    · rw [State.endOp_eq _ _ ho hl]
      rfl

theorem Accounts.fab {s t : State} (h : Accounts s t) : t.fab = s.fab := by
  obtain ⟨_, _, _, _, rfl⟩ := h
  rfl

/-- A pond as POND_CREATE makes it (R297). -/
def Pond.fresh (inst : Nat) (b : Binding) : Pond where
  inst := inst
  binding := b
  weight := 16
  quantum := 10
  running := 0
  since := 0
  switch := none
  rebind := none
  reserved := []
  beats := none
  beatCount := 0

/-- The state with a pond placed. -/
def State.withPond (s : State) (h : Nat) (p : Pond) : State :=
  { s with mem := { s.mem with ponds := s.mem.ponds.set h p, remap := placeAll s.mem.remap p.binding.plots } }

theorem execPondCreate_eq {s : State} {op inst : Nat} {ext : Ext} {o : Op} {b : Binding} (ho : s.go? op 0x60 = some o)
    (hn : s.mem.ponds.at? (fld o.desc 0x20 0 9) = none)
    (hb : s.readBinding o ext (fld o.desc 0x20 0 9) none = .ok (inst, b)) : exec (.pondCreate op ext) s
      = .next (((s.withPond (fld o.desc 0x20 0 9) (.fresh inst b)).scrubTiles (Pond.fresh inst b).tiles).succeed op) := by
  rw [exec_pondCreate, execPondCreate, ho]
  simp only [hn, hb]
  rfl

/-- The state without a pond: its windows closed, its plots, translations and memberships gone (R298). -/
def State.withoutPond (s : State) (h : Nat) (p : Pond) : State :=
  let s1 := ((s.closePondWindows h).dropPlotXlat (p.inst + 1) (p.binding.plots.map (·.1))).dropLoft (p.binding.plots.map (·.1))
  { s1 with
    mem := { s1.mem with ponds := s1.mem.ponds.erase h, remap := s1.mem.remap.filter (fun q => q.2.owner ≠ h) }
    weir := { s1.weir with ponds := s1.weir.ponds.erase h }
    fab := { s1.fab with meres := s1.fab.meres.filter (fun m => m.2.pond ≠ h) } }

theorem execPondDestroy_eq {s : State} {op : Nat} {o : Op} {p : Pond} (ho : s.go? op 0x62 = some o)
    (hp : s.mem.ponds.at? (fld o.desc 0x20 0 9) = some p) (hres : s.pondResident (fld o.desc 0x20 0 9) = false)
    (hops : s.work.ops.any (fun x => x.2.pond = fld o.desc 0x20 0 9 && x.2.inExec) = false)
    (hst : s.stagesIn (p.binding.plots.map (·.1)) = false) (hre : p.rebind = none) : exec (.pondDestroy op) s
      = .next (((s.withoutPond (fld o.desc 0x20 0 9) p).scrubTiles p.tiles).succeed op) := by
  rw [exec_pondDestroy, execPondDestroy, ho]
  simp only [hp]
  exact if_neg (by rw [hres, hops, hst, hre]; decide)

theorem State.withoutPond_facts (s : State) (h : Nat) (p : Pond) : (s.withoutPond h p).mem.ponds.at? h = none
    ∧ (∀ q ∈ (s.withoutPond h p).mem.remap, q.2.owner ≠ h) ∧ (∀ m ∈ (s.withoutPond h p).fab.meres, m.2.pond ≠ h)
    ∧ (s.withoutPond h p).work.ops = s.work.ops := by
  obtain ⟨hm, hw, -, -, -⟩ := (accounts_closePondWindows s h).rest
  refine ⟨Tab.at?_erase_self .., fun q hq => ?_, fun m hmm => ?_, congrArg WorkPart.ops hw⟩
  · exact of_decide_eq_true (List.mem_filter.1 (show q ∈ (s.closePondWindows h).mem.remap.filter (fun q => q.2.owner ≠ h)
      from hq)).2
  · exact of_decide_eq_true (List.mem_filter.1 (show m ∈ (s.closePondWindows h).fab.meres.filter (fun m => m.2.pond ≠ h)
      from hmm)).2

/-- Scrubbing tiles leaves all but their contents. -/
theorem State.scrubTiles_rest (s : State) (ts : List Nat) : (s.scrubTiles ts).work = s.work ∧ (s.scrubTiles ts).fab = s.fab
    ∧ (s.scrubTiles ts).mem.ponds = s.mem.ponds ∧ (s.scrubTiles ts).mem.remap = s.mem.remap
    ∧ (s.scrubTiles ts).mem.hbm = s.mem.hbm := by
  unfold State.scrubTiles
  induction ts generalizing s with
  | nil => exact ⟨rfl, rfl, rfl, rfl, rfl⟩
  | cons t ts ih => exact ih (s.scrubTile t)

theorem execPlotMapPlace_eq {s : State} {op n : Nat} {o : Op} {p : Plot} (ho : s.go? op 0x66 = some o)
    (hb : fld o.desc 0x60 0 1 = 1) (hplot : parsePlot (bitsOf o.desc 256 512) 0 = some (n, p))
    (hf : p.chans.any (s.fenced 4) = false) (hd : ∀ q, q ∈ s.mem.ponds → ∀ c, c ∈ q.2.binding.chans → c ∉ p.chans)
    (hn : s.mem.remap.at? n = none) (hov : ∀ q, q ∈ s.mem.remap → q.2.overlaps p = false) :
    exec (.plotMapPlace op) s
      = .next (({ s with mem := { s.mem with remap := s.mem.remap.set n p } } : State).succeed op) := by
  have hchans : p.chans.any (fun c => s.fenced 4 c || ((s.mem.ponds.map (fun q => q.2.binding.chans)).flatten).contains c)
      = false := by
    refine List.any_eq_false.2 fun c hc => ?_
    have hfc := List.any_eq_false.1 hf c hc
    have hnot : c ∉ (s.mem.ponds.map (fun q => q.2.binding.chans)).flatten := by
      intro hin
      obtain ⟨l, hl, hcl⟩ := List.mem_flatten.1 hin
      obtain ⟨q, hq, rfl⟩ := List.mem_map.1 hl
      exact hd q hq c hcl hc
    simp only [Bool.not_eq_true] at hfc
    simp only [hfc, Bool.false_or, List.contains_iff_mem]
    exact hnot
  have hover : s.mem.remap.any (fun q => q.2.overlaps p) = false :=
    List.any_eq_false.2 fun q hq => by rw [hov q hq]; decide
  rw [exec_plotMapPlace, execPlotMapPlace, ho]
  dsimp only
  rw [if_neg (by omega), hplot]
  dsimp only
  exact if_neg (by rw [hchans, hover, hn]; decide)

theorem execPlotMapRemove_eq {s : State} {op : Nat} {o : Op} {p : Plot} (ho : s.go? op 0x66 = some o)
    (hb : fld o.desc 0x60 0 1 = 0) (hv : fld (bitsOf o.desc 256 512) 0 0 4 = 1)
    (hp : s.mem.remap.at? (fld (bitsOf o.desc 256 512) 4 0 11) = some p) (h0 : p.owner = 0)
    (hu : s.plotInUse (fld (bitsOf o.desc 256 512) 4 0 11) = false) :
    let n := fld (bitsOf o.desc 256 512) 4 0 11
    let s1 := (s.dropLoft [n]).dropPlotXlat 0 [n]
    exec (.plotMapRemove op) s = .next (({ s1 with mem := { s1.mem with remap := s1.mem.remap.erase n } } : State).succeed op) := by
  intro n s1
  rw [exec_plotMapRemove, execPlotMapRemove, ho]
  dsimp only
  rw [if_neg (by omega), if_neg (by simp [hv, hp, h0]), hu]
  exact if_neg Bool.false_ne_true

/-! ### Re-binding -/

/-- A pond but for the pages its re-bind has found dirty. -/
def Pond.undirty (p : Pond) : Pond := { p with rebind := p.rebind.map (fun r => { r with dirty := [] }) }

/-- Only the loft, and the dirty pages of re-binds, change (R301). -/
structure Dirties (s t : State) : Prop where
  hbm : t.mem.hbm = s.mem.hbm
  remap : t.mem.remap = s.mem.remap
  snoop : t.mem.snoop = s.mem.snoop
  work : t.work = s.work
  ponds : ∀ h, (t.mem.ponds.at? h).map Pond.undirty = (s.mem.ponds.at? h).map Pond.undirty

theorem Dirties.refl (s : State) : Dirties s s := ⟨rfl, rfl, rfl, rfl, fun _ => rfl⟩
theorem Dirties.trans {s t u : State} (h : Dirties s t) (k : Dirties t u) : Dirties s u :=
  ⟨k.hbm.trans h.hbm, k.remap.trans h.remap, k.snoop.trans h.snoop, k.work.trans h.work,
    fun i => (k.ponds i).trans (h.ponds i)⟩
theorem Dirties.foldl {β : Type} {g : State → β → State} (hg : ∀ s b, Dirties s (g s b)) (l : List β) (s : State) :
    Dirties s (l.foldl g s) := by
  induction l generalizing s with
  | nil => exact .refl s
  | cons b l ih => exact (hg s b).trans (ih _)

/-- A pond with pages marked dirty. -/
def Pond.noting (off n : Nat) (p : Pond) : Pond :=
  match p.rebind with
  | some r =>
    if r.moving.contains (off / 0x20000000) then
      { p with rebind := some { r with dirty := r.dirty ++ (pagesOf off n).filter (fun g => !r.dirty.contains g) } }
    else p
  | none => p

theorem Pond.noting_undirty (off n : Nat) (p : Pond) : (p.noting off n).undirty = p.undirty := by
  unfold Pond.noting
  split
  · next r hr =>
    split
    · simp only [Pond.undirty, hr, Option.map_some]
    · rfl
  · rfl

theorem State.noteMoving_ponds (s : State) (off n : Nat) :
    (s.noteMoving off n).mem.ponds = s.mem.ponds.map (fun p => (p.1, p.2.noting off n)) := by
  refine List.map_congr_left fun p _ => ?_
  rcases hr : p.2.rebind with _ | r
  · simp only [Pond.noting, hr]
  · simp only [Pond.noting, hr]
    split <;> rfl

theorem dirties_noteMoving (s : State) (off n : Nat) : Dirties s (s.noteMoving off n) := by
  refine ⟨rfl, rfl, rfl, rfl, fun h => ?_⟩
  rw [State.noteMoving_ponds, Tab.at?_map s.mem.ponds (fun p => (p.1, p.2.noting off n)) (fun _ => rfl), Option.map_map]
  refine congrArg (fun f => Option.map f (s.mem.ponds.at? h)) (funext fun p => ?_)
  exact Pond.noting_undirty off n p

theorem dirties_writeBackMoving (s : State) (r : Rebind) : Dirties s (s.writeBackMoving r) :=
  (Dirties.foldl (fun _ _ => dirties_noteMoving ..) _ s).trans ⟨rfl, rfl, rfl, rfl, fun _ => rfl⟩

/-- A pond in a re-bind keeps all but the dirty pages of it. -/
theorem Dirties.at? {s t : State} (hd : Dirties s t) {h : Nat} {p : Pond} {r : Rebind} (hp : s.mem.ponds.at? h = some p)
    (hr : p.rebind = some r) : ∃ d, t.mem.ponds.at? h = some { p with rebind := some { r with dirty := d } } := by
  have hm := hd.ponds h
  rw [hp, Option.map_some] at hm
  obtain ⟨q, hq, hqp⟩ := Option.map_eq_some_iff.1 hm
  obtain ⟨inst, binding, weight, quantum, running, since, switch, rebind, reserved, beats, beatCount⟩ := q
  obtain ⟨inst', binding', weight', quantum', running', since', switch', rebind', reserved', beats', beatCount'⟩ := p
  dsimp only at hr
  subst hr
  simp only [Pond.undirty, Option.map_some, Pond.mk.injEq] at hqp
  obtain ⟨rfl, rfl, rfl, rfl, rfl, rfl, rfl, hre, rfl, rfl, rfl⟩ := hqp
  obtain ⟨r2, rfl, hr2⟩ := Option.map_eq_some_iff.1 hre
  refine ⟨r2.dirty, ?_⟩
  rw [hq]
  obtain ⟨op, b, e, dl, mv, d, rd, sw⟩ := r2
  simp only [Rebind.mk.injEq] at hr2
  obtain ⟨rfl, rfl, rfl, rfl, rfl, -, rfl, rfl⟩ := hr2
  rfl

/-- The re-bind POND_REBIND starts (R300). -/
def State.startedRebind (s : State) (op : Nat) (o : Op) (p : Pond) (b : Binding) : Rebind where
  op := op
  binding := b
  engines := if fld o.desc 0x30 0 16 = 0 then b.flume else fld o.desc 0x30 0 16
  deadline := s.ns + fld o.desc 0x24 0 32 * 1000
  moving := movingPlots p.binding b
  dirty := []
  ready := false
  switching := false

theorem execPondRebind_facts {s : State} {op inst : Nat} {ext : Ext} {o : Op} {p : Pond} {b : Binding}
    (ho : s.go? op 0x61 = some o) (hp : s.mem.ponds.at? (fld o.desc 0x20 0 9) = some p) (hre : p.rebind = none)
    (hb : s.readBinding o ext (fld o.desc 0x20 0 9) (some p) = .ok (inst, b)) (hroom : s.entriesUsed < 1024) :
    ∃ (t : State) (r : Rebind), exec (.pondRebind op ext) s = .next t
      ∧ t.mem.ponds.at? (fld o.desc 0x20 0 9) = some { p with rebind := some r } ∧ r.op = op ∧ r.binding = b
      ∧ r.moving = movingPlots p.binding b ∧ r.switching = false ∧ r.deadline = s.ns + fld o.desc 0x24 0 32 * 1000
      ∧ (t.op? op).map (·.phase) = some .running ∧ t.mem.hbm = s.mem.hbm ∧ t.mem.remap = s.mem.remap := by
  generalize hh : fld o.desc 0x20 0 9 = h at hp hb ⊢
  generalize hr : s.startedRebind op o p b = r
  have hexec : exec (.pondRebind op ext) s
      = .next ((((s.modPond h (fun p => { p with rebind := some r })).writeBackMoving r).enqueue op).start op) := by
    rw [exec_pondRebind, execPondRebind, ho]
    simp only [hh, hp]
    rw [if_neg (by rw [hre]; decide), hb]
    dsimp only
    rw [if_neg (by omega), ← hr]
    rfl
  have hd := dirties_writeBackMoving (s.modPond h (fun p => { p with rebind := some r })) r
  have hps : (s.modPond h (fun p => { p with rebind := some r })).mem.ponds.at? h = some { p with rebind := some r } := by
    rw [State.modPond_at?_self, hp]
    rfl
  obtain ⟨d, hq⟩ := hd.at? hps rfl
  obtain ⟨hop, -⟩ := State.go?_some ho
  refine ⟨_, { r with dirty := d }, hexec, hq, ?_, ?_, ?_, ?_, ?_, ?_, hd.hbm, hd.remap⟩
  · rw [← hr]; rfl
  · rw [← hr]; rfl
  · rw [← hr]; rfl
  · rw [← hr]; rfl
  · rw [← hr]; rfl
  · rw [State.start_op?_self, State.enqueue, State.modOp_op?_self, State.op?, hd.work]
    show Option.map _ (Option.map _ (Option.map _ (s.op? op))) = _
    rw [hop]
    rfl

theorem execRebindCopyPassDone_facts {s : State} {h : Nat} {p : Pond} {r : Rebind} (hp : s.mem.ponds.at? h = some p)
    (hr : p.rebind = some r) (hs : s.work.sluices = []) : ∃ t : State, exec (.rebindCopyPassDone h) s = .next t
        ∧ t.mem.ponds.at? h = some { p with rebind := some { r with
            ready := r.ready || r.dirty.length ≤ 256 * popcount 16 r.engines,
            dirty := if r.dirty.length ≤ 256 * popcount 16 r.engines then r.dirty else [] } }
        ∧ t.mem.hbm = s.mem.hbm := by
  have hexec : exec (.rebindCopyPassDone h) s = .next (s.modPond h (fun p => { p with rebind := some { r with
      ready := r.ready || r.dirty.length ≤ 256 * popcount 16 r.engines,
      dirty := if r.dirty.length ≤ 256 * popcount 16 r.engines then r.dirty else [] } })) := by
    rw [exec_rebindCopyPassDone, execRebindCopyPassDone, hp]
    simp only [hr, State.stagesIn, hs, List.any_nil, Bool.or_self, Bool.not_false, Bool.and_true, decide_eq_true_eq]
  refine ⟨_, hexec, ?_, rfl⟩
  rw [State.modPond_at?_self, hp]
  rfl

theorem execRebindPoint_facts {s : State} {h : Nat} {p : Pond} {r : Rebind} (hp : s.mem.ponds.at? h = some p)
    (hr : p.rebind = some r) (hready : r.ready = true) (hsw : r.switching = false) (hpt : s.rebindPoint h p = true)
    (hok : s.rebindBad h p r = none) : ∃ t : State, exec (.rebindPoint h) s = .next t
      ∧ (∀ q, t.mem.ponds.at? h = some q → q.binding = p.binding ∧ q.rebind.any (·.switching) = true)
      ∧ (t.mem.ponds.at? h).isSome = true ∧ t.mem.hbm = s.mem.hbm ∧ t.mem.remap = s.mem.remap
      ∧ (∀ l, l ∈ t.mem.loft → s.crosses r (l.line * 128 / 0x20000000) = false)
      ∧ (∀ e, e ∈ t.mem.snoop → e.owned = true ∨ s.crosses r (e.granule * 64 / 0x20000000) = false) := by
  have hexec : exec (.rebindPoint h) s = .next ((s.recallMoving r).modPond h (fun p => { p with
      rebind := p.rebind.map (fun r => { r with switching := true }) })) := by
    rw [exec_rebindPoint, execRebindPoint, hp]
    simp only [hr]
    rw [if_neg (by rw [hready, hsw, hpt]; decide), hok]
  have hd := dirties_writeBackMoving s r
  obtain ⟨d, hq⟩ := hd.at? hp hr
  have hq2 : ((s.recallMoving r).modPond h (fun p => { p with
      rebind := p.rebind.map (fun r => { r with switching := true }) })).mem.ponds.at? h
        = some { p with rebind := some { r with dirty := d, switching := true } } := by
    rw [State.modPond_at?_self, show (s.recallMoving r).mem.ponds.at? h = _ from hq]
    rfl
  refine ⟨_, hexec, fun q hqq => ?_, by rw [hq2]; rfl, hd.hbm, hd.remap, fun l hl => ?_, fun e he => ?_⟩
  · obtain rfl := Option.some.inj (hq2.symm.trans hqq)
    exact ⟨rfl, rfl⟩
  · have hl2 : l ∈ (s.writeBackMoving r).mem.loft.filter (fun l => !s.crosses r (l.line * 128 / 0x20000000)) := hl
    simpa using (List.mem_filter.1 hl2).2
  · have he2 : e ∈ (s.writeBackMoving r).mem.snoop.filter (fun e => e.owned || !s.crosses r (e.granule * 64 / 0x20000000)) := he
    simpa using (List.mem_filter.1 he2).2

/-- Whatever a switch to a new map moves and scrubs, the table of ponds stands until its last step. -/
structure PondsStand (s t : State) : Prop where
  ponds : t.mem.ponds = s.mem.ponds

theorem PondsStand.foldl {β : Type} {g : State → β → State} (hg : ∀ s b, PondsStand s (g s b)) (l : List β) (s : State) :
    PondsStand s (l.foldl g s) := by
  induction l generalizing s with
  | nil => exact ⟨rfl⟩
  | cons b l ih => exact ⟨(ih _).ponds.trans (hg s b).ponds⟩

theorem pondsStand_putPlot (s : State) (p : Plot) (x : List (Nat × Byte) × List Nat) : PondsStand s (s.putPlot p x) := ⟨rfl⟩

/-- A tile's image put there, or zeroes where its rank was a hole. -/
def State.putImage (s : State) (x : Nat × Option TileImage) : State :=
  match x.2 with
  | some im => s.putTileImage x.1 im
  | none => s.scrubTile x.1

theorem pondsStand_putImage (s : State) (x : Nat × Option TileImage) : PondsStand s (s.putImage x) := by
  unfold State.putImage
  split <;> exact ⟨rfl⟩

/-- The new map is in force, and the re-bind over (R303 steps 2 to 5). -/
theorem State.commitRebind_at? {s : State} {h : Nat} {p : Pond} (r : Rebind) (hp : s.mem.ponds.at? h = some p) :
    ((s.commitRebind h p r).mem.ponds.at? h).map (fun q => (q.binding, q.rebind, q.reserved)) = some (r.binding, none, []) := by
  have hlast : ∀ u : State, u.mem.ponds = s.mem.ponds → ((u.modPond h (fun p => { p with
      binding := r.binding, rebind := none, reserved := [] })).mem.ponds.at? h).map (fun q => (q.binding, q.rebind, q.reserved))
        = some (r.binding, none, []) := by
    intro u hu
    rw [State.modPond_at?_self, hu, hp]
    rfl
  unfold State.commitRebind
  extract_lets old new images contents s1 s2 s3 s4 gone s5 _ s6 s7
  have h3 : s3.mem.ponds = s.mem.ponds :=
    (PondsStand.foldl (g := State.putImage) (fun _ _ => pondsStand_putImage ..) images s2).ponds.trans
      (State.scrubTiles_ponds s1 p.tiles)
  have h4 : s4.mem.ponds = s.mem.ponds :=
    (PondsStand.foldl (fun _ _ => pondsStand_putPlot ..) contents s3).ponds.trans h3
  have h7 := hlast s6 h4
  split
  · rw [State.post_mem]
    exact h7
  · exact h7

theorem execRebindSwitchDone_facts {s : State} {h : Nat} {p : Pond} {r : Rebind} (hp : s.mem.ponds.at? h = some p)
    (hr : p.rebind = some r) (hsw : r.switching = true) (haw : s.awaitsRecall r = false) (hok : s.rebindBad h p r = none) :
    ∃ t : State, exec (.rebindSwitchDone h) s = .next t
      ∧ (t.mem.ponds.at? h).map (fun q => (q.binding, q.rebind, q.reserved)) = some (r.binding, none, []) := by
  have hexec : exec (.rebindSwitchDone h) s
      = .next ((((s.commitRebind h p r).resumeReruns h).succeed r.op).schedule h) := by
    rw [exec_rebindSwitchDone, execRebindSwitchDone, hp]
    simp only [hr]
    rw [if_neg (by rw [hsw, haw]; decide), hok]
  refine ⟨_, hexec, ?_⟩
  have hc := congrArg (Option.map (fun q : Pond => (q.binding, q.rebind, q.reserved)))
    ((pondCores_schedule (((s.commitRebind h p r).resumeReruns h).succeed r.op) h).core h)
  rw [Option.map_map, Option.map_map] at hc
  refine hc.trans ?_
  rw [(apart_succeed ..).mem, State.resumeReruns_mem]
  exact State.commitRebind_at? r hp

theorem execRebindTimeout_facts {s : State} {h : Nat} {p : Pond} {r : Rebind} (hp : s.mem.ponds.at? h = some p)
    (hr : p.rebind = some r) (hsw : r.switching = false) : ∃ t : State, exec (.rebindTimeout h) s = .next t
        ∧ (t.mem.ponds.at? h).map (fun q => (q.binding, q.rebind)) = some (p.binding, none) ∧ t.mem.hbm = s.mem.hbm
        ∧ t.mem.remap = s.mem.remap := by
  generalize hu : (s.decide r.op Status.rebindTimeout 0).modPond h (fun p => { p with rebind := none }) = u
  have hexec : exec (.rebindTimeout h) s = .next (u.schedule h) := by
    rw [exec_rebindTimeout, execRebindTimeout, hp]
    simp only [hr]
    rw [if_neg (by rw [hsw]; decide), hu]
  have hm : (s.decide r.op Status.rebindTimeout 0).mem = s.mem := (apart_decide ..).mem
  have hup : (u.mem.ponds.at? h).map (fun q => (q.binding, q.rebind)) = some (p.binding, none) := by
    rw [← hu, State.modPond_at?_self, hm, hp]
    rfl
  have hur : u.mem.remap = s.mem.remap := by rw [← hu, ← hm]; rfl
  have huh : u.mem.hbm = s.mem.hbm := by rw [← hu, ← hm]; rfl
  have hremap : (u.schedule h).mem.remap = u.mem.remap := by
    obtain ⟨_, _, _, _, _, _, _, hs⟩ := reschedules_schedule u h
    rw [hs]
  refine ⟨_, hexec, ?_, (reslots_schedule u h).hbm.trans huh, hremap.trans hur⟩
  have hc := congrArg (Option.map (fun q : Pond => (q.binding, q.rebind))) ((pondCores_schedule u h).core h)
  rw [Option.map_map, Option.map_map] at hc
  exact hc.trans hup

/-- Settles O40: each command on a pond or a plot by its own lemma above. -/
theorem pondCommandsTakeEffect : Obligations.PondCommandsTakeEffect := by
  refine ⟨fun s op inst ext o b ho hn hb => ?_, fun s op o p ho hp hres hops hst hre => ?_, fun s op o ho hp => ?_,
    fun s op n o p ho hb hplot hf hd hn hov => ?_, fun s op o p ho hb => ?_,
    fun s op inst ext o p b ho hp hre hb hroom => execPondRebind_facts ho hp hre hb hroom,
    fun s h p r hp hr => ⟨fun hs => execRebindCopyPassDone_facts hp hr hs,
      fun hready hsw hpt => ⟨fun hok => execRebindPoint_facts hp hr hready hsw hpt hok, fun d hd => ?_⟩,
      fun hsw haw => ⟨fun hok => execRebindSwitchDone_facts hp hr hsw haw hok, fun d hd => ?_⟩,
      fun hsw => execRebindTimeout_facts hp hr hsw⟩⟩
  · obtain ⟨hw, -, hponds, hremap, hhbm⟩ := (s.withPond (fld o.desc 0x20 0 9) (.fresh inst b)).scrubTiles_rest
      (Pond.fresh inst b).tiles
    obtain ⟨hend, hm⟩ := State.succeed_of_go? (u := (s.withPond (fld o.desc 0x20 0 9) (.fresh inst b)).scrubTiles
      (Pond.fresh inst b).tiles) ho (congrArg WorkPart.ops hw)
    refine ⟨_, .fresh inst b, execPondCreate_eq ho hn hb, ?_, rfl, rfl, rfl, rfl, rfl, rfl, ?_, fun tile ht i hi => ?_, hend, ?_,
      fun k hk => ?_⟩
    · rw [hm, hponds]
      exact Tab.at?_set_self ..
    · rw [hm, hremap]
      rfl
    · rw [hm]
      exact State.scrubTiles_zero _ ht hi
    · rw [hm, hhbm]
      rfl
    · rw [hm, hponds]
      exact Tab.at?_set_ne _ _ hk
  · obtain ⟨hw, hfab, hponds, hremap, -⟩ := (s.withoutPond (fld o.desc 0x20 0 9) p).scrubTiles_rest p.tiles
    obtain ⟨hnone, howner, hmeres, hops2⟩ := s.withoutPond_facts (fld o.desc 0x20 0 9) p
    obtain ⟨hend, hm⟩ := State.succeed_of_go? (u := (s.withoutPond (fld o.desc 0x20 0 9) p).scrubTiles p.tiles) ho
      ((congrArg WorkPart.ops hw).trans hops2)
    refine ⟨_, execPondDestroy_eq ho hp hres hops hst hre, ?_, ?_, ?_, fun tile ht i hi => ?_, hend⟩
    · rw [hm, hponds, hnone]
    · rw [hm, hremap]
      exact howner
    · rw [State.succeed_meres, hfab]
      exact hmeres
    · rw [hm]
      exact State.scrubTiles_zero _ ht hi
  · rw [exec_pondSched, execPondSched, ho]
    exact if_neg (by rw [Option.isNone_iff_eq_none]; exact Option.isSome_iff_ne_none.1 hp)
  · obtain ⟨hend, hm⟩ := State.succeed_of_go? (u := { s with mem := { s.mem with remap := s.mem.remap.set n p } }) ho rfl
    exact ⟨_, execPlotMapPlace_eq ho hb hplot hf hd hn hov, hm, hend⟩
  · intro n hv hp h0 hu
    have hexec := execPlotMapRemove_eq ho hb hv hp h0 hu
    dsimp only at hexec
    obtain ⟨hend, hm⟩ := State.succeed_of_go? (u := { (s.dropLoft [n]).dropPlotXlat 0 [n] with
      mem := { ((s.dropLoft [n]).dropPlotXlat 0 [n]).mem with
        remap := ((s.dropLoft [n]).dropPlotXlat 0 [n]).mem.remap.erase n } }) ho rfl
    refine ⟨_, hexec, ?_, fun k hk => ?_, ?_, ?_, fun l hl => ?_, hend⟩
    · rw [hm]
      exact Tab.at?_erase_self ..
    · rw [hm]
      exact Tab.at?_erase_ne _ hk
    · rw [hm]
      rfl
    · rw [hm]
      rfl
    · rw [hm] at hl
      have hl2 : l ∈ s.mem.loft.filter (fun l => !([n].contains (l.line * 128 / 0x20000000))) := hl
      simpa using (List.mem_filter.1 hl2).2
  · rw [exec_rebindPoint, execRebindPoint, hp]
    simp only [hr]
    rw [if_neg (by rw [hready, hsw, hpt]; decide), hd]
  · rw [exec_rebindSwitchDone, execRebindSwitchDone, hp]
    simp only [hr]
    rw [if_neg (by rw [hsw, haw]; decide), hd]

end Sys2Proof.Machine
end

section
/-! The messages of a sluice across devices (R278 to R282). -/

namespace Sys2Proof.Machine

theorem exec_sluiceVote (mere id dev : Nat) (commit : Bool) (reason origin : Nat) (s : State) :
    exec (.sluiceVote mere id dev commit reason origin) s = execSluiceVote mere id dev commit reason origin s := rfl
theorem exec_sluiceDecision (mere id : Nat) (commit : Bool) (reason origin : Nat) (s : State) :
    exec (.sluiceDecision mere id commit reason origin) s = execSluiceDecision mere id commit reason origin s := rfl
theorem exec_sluiceAck (mere id dev : Nat) (s : State) : exec (.sluiceAck mere id dev) s = execSluiceAck mere id dev s := rfl
theorem exec_sluiceAbortForward (mere id dev : Nat) (s : State) :
    exec (.sluiceAbortForward mere id dev) s = execSluiceAbortForward mere id dev s := rfl
theorem exec_sluiceAbortAnswer (mere id : Nat) (committed : Bool) (s : State) :
    exec (.sluiceAbortAnswer mere id committed) s = execSluiceAbortAnswer mere id committed s := rfl
theorem exec_sluiceCommitTimeout (f id : Nat) (s : State) :
    exec (.sluiceCommitTimeout f id) s = execSluiceCommitTimeout f id s := rfl
theorem exec_commitUnconfirmed (f id : Nat) (s : State) : exec (.commitUnconfirmed f id) s = execCommitUnconfirmed f id s := rfl

/-! ### Entries freed and commits finished -/

/-- What the last entry of a reset tells the manager leaves the work. -/
theorem State.idleCheck_work (s : State) (f : Nat) : (s.idleCheck f).work = s.work := by
  unfold State.idleCheck
  split
  · exact State.post_work ..
  · rfl

/-- An entry freed is gone, and every other stands (R273). -/
theorem State.freeSluice_facts (s : State) (k : Nat) : (s.freeSluice k).work.sluices.at? k = none
    ∧ (∀ j, j ≠ k → (s.freeSluice k).work.sluices.at? j = s.work.sluices.at? j)
    ∧ (s.freeSluice k).work.ops = s.work.ops ∧ (s.freeSluice k).mem = s.mem := by
  refine ⟨?_, fun j hj => ?_, ?_, (apart_freeSluice s k).mem⟩
  all_goals
    unfold State.freeSluice
    split
  · assumption
  · rw [State.idleCheck_work]
    exact Tab.at?_erase_self ..
  · rfl
  · rw [State.idleCheck_work]
    exact Tab.at?_erase_ne _ hj
  · rfl
  · rw [State.idleCheck_work]

/-- An operation ended and a sluice's entry freed. -/
theorem State.endOp_freeSluice_facts (s : State) (k id st d : Nat) :
    ((s.endOp id st d).freeSluice k).work.sluices.at? k = none ∧ ((s.endOp id st d).freeSluice k).mem = s.mem
      ∧ ∀ o, s.op? id = some o → o.phase ≠ .ended →
        ((s.endOp id st d).freeSluice k).op? id = some (o.endedWith st d) := by
  obtain ⟨hk, -, hw, hm⟩ := (s.endOp id st d).freeSluice_facts k
  refine ⟨hk, hm.trans (apart_endOp ..).mem, fun o ho hl => ?_⟩
  rw [State.op?, hw]
  exact State.endOp_op?_self st d ho hl

/-- A coordinator's or single-device commit that has published and is acknowledged completes (R271 step 6, R281). -/
theorem State.tryFinish_of_done {s : State} {k : Nat} {e : Sluice} (he : s.work.sluices.at? k = some e)
    (hc : e.state = .committed) (hp : e.published = true)
    (ha : e.mere = 0 ∨ e.participant = true ∨ ∀ d ∈ e.parts, d = s.fab.devId ∨ d ∈ e.acks) :
    s.tryFinish k = (s.endOp e.commitOp Status.success 0).freeSluice k := by
  rw [State.tryFinish, he]
  refine if_pos ?_
  simp only [hc, hp, decide_true, Bool.true_and, Bool.or_eq_true, decide_eq_true_eq, List.all_eq_true]
  rcases ha with h | h | h
  · exact .inl (.inl h)
  · exact .inl (.inr h)
  · refine .inr fun d hd => ?_
    obtain ⟨hd1, hd2⟩ := List.mem_filter.1 hd
    exact List.contains_iff_mem.2 ((h d hd1).resolve_left (of_decide_eq_true hd2))

theorem State.tryFinish_of_unpublished {s : State} {k : Nat} {e : Sluice} (he : s.work.sluices.at? k = some e)
    (hp : e.published = false) : s.tryFinish k = s := by
  rw [State.tryFinish, he]
  exact if_neg (by simp [hp])

/-! ### Votes and the decision -/

/-- Messages sent for the devices of a list leave all but what is sent. -/
theorem State.foldl_send_facts (m : Nat → FabMsg) (l : List Nat) (s : State) :
    (l.foldl (fun s d => s.send (m d)) s).work.sluices = s.work.sluices ∧ (l.foldl (fun s d => s.send (m d)) s).mem = s.mem
      ∧ (l.foldl (fun s d => s.send (m d)) s).work.ops = s.work.ops
      ∧ (l.foldl (fun s d => s.send (m d)) s).work.sent.length = s.work.sent.length + l.length := by
  induction l generalizing s with
  | nil => exact ⟨rfl, rfl, rfl, rfl⟩
  | cons d l ih =>
    obtain ⟨hs, hm, ho, hl⟩ := ih (s.send (m d))
    refine ⟨hs, hm, ho, hl.trans ?_⟩
    rw [State.send, List.length_append, List.length_cons, List.length_cons, List.length_nil]
    omega

/-- An entry with one more commit vote (R280). -/
def Sluice.voted (dev now : Nat) (e : Sluice) : Sluice :=
  { e with
    votes := if e.votes.contains dev then e.votes else dev :: e.votes
    deadline := if e.deadline = 0 then now + e.timeoutUs * 1000 else e.deadline }

theorem Sluice.mem_votes_voted (dev now : Nat) (e : Sluice) : dev ∈ (e.voted dev now).votes
    ∧ ∀ d ∈ e.votes, d ∈ (e.voted dev now).votes := by
  unfold Sluice.voted
  dsimp only
  split
  · next h => exact ⟨List.contains_iff_mem.1 h, fun _ h => h⟩
  · exact ⟨List.mem_cons_self, fun _ h => List.mem_cons_of_mem _ h⟩

theorem State.takeVote_commit {s : State} {k : Nat} {e : Sluice} (dev reason origin : Nat) (he : s.work.sluices.at? k = some e)
    (hc : e.state ≠ .committed) (ha : e.state ≠ .aborting) :
    s.takeVote k dev true reason origin = (s.modSluice k (Sluice.voted dev s.ns)).tryDecide k := by
  rw [State.takeVote, he]
  exact (if_neg (by simp [hc, ha])).trans (if_pos rfl)

theorem State.takeVote_abort {s : State} {k : Nat} {e : Sluice} (dev reason origin : Nat) (he : s.work.sluices.at? k = some e)
    (hc : e.state ≠ .committed) (ha : e.state ≠ .aborting) :
    s.takeVote k dev false reason origin = s.abortSluice k reason origin := by
  rw [State.takeVote, he]
  exact (if_neg (by simp [hc, ha])).trans (if_neg Bool.false_ne_true)

theorem State.tryDecide_of_not_prepared {s : State} {k : Nat} {e : Sluice} (he : s.work.sluices.at? k = some e)
    (hs : e.state ≠ .prepared) : s.tryDecide k = s := by
  rw [State.tryDecide, he]
  exact if_neg (by simp [hs])

/-- With every vote in, a prepared sluice commits and every other participant is told (R280). -/
theorem State.tryDecide_of_voted {s : State} {k : Nat} {e : Sluice} (he : s.work.sluices.at? k = some e)
    (hs : e.state = .prepared) (hv : ∀ d ∈ e.parts, d ∈ e.votes) :
    (s.tryDecide k).work.sluices.at? k = some { e with state := .committed, guards := [] } ∧ (s.tryDecide k).mem = s.mem
      ∧ (s.tryDecide k).work.sent.length = s.work.sent.length + (e.parts.filter (· ≠ s.fab.devId)).length := by
  have heq : s.tryDecide k = (e.parts.filter (· ≠ s.fab.devId)).foldl (fun s d =>
      s.send { kind := .sluiceDecision, dst := d, mere := e.mere, id := e.id, args := [1, 0, 0], data := [] })
      (s.commitPoint k) := by
    rw [State.tryDecide, he]
    exact if_pos (by simpa [hs] using hv)
  obtain ⟨hsl, hm, -, hsent⟩ := State.foldl_send_facts
    (fun d => { kind := .sluiceDecision, dst := d, mere := e.mere, id := e.id, args := [1, 0, 0], data := [] })
    (e.parts.filter (· ≠ s.fab.devId)) (s.commitPoint k)
  rw [heq]
  refine ⟨?_, hm, hsent⟩
  rw [hsl, State.commitPoint, State.modSluice_at?_self, he]
  rfl

/-- Settles O39: each message by what it does to the entry it names. -/
theorem crossDeviceSluicesTakeEffect : Obligations.CrossDeviceSluicesTakeEffect := by
  refine ⟨fun s mere id dev reason origin commit hm => ⟨fun h0 => ?_, fun h0 => ?_⟩,
    fun s mere id dev reason origin k e hk hk0 he hm hc ha => ?_, fun s mere id reason origin k e hk hk0 he hm => ?_,
    fun s mere id dev k e hk he hm hst hpart hmere hack => ?_, fun s mere id dev k hk => ⟨fun h0 hv => ?_, fun h0 hv => ?_,
      fun e h0 he => ?_⟩, fun s mere id committed => ?_, fun s f id k e hk he => ?_, fun s f id k e o hk he ho hl => ?_⟩
  · rw [exec_sluiceVote, execSluiceVote, h0]
    exact (if_neg hm).trans (if_pos rfl)
  · rw [exec_sluiceDecision, execSluiceDecision, h0]
    exact (if_neg hm).trans (if_pos rfl)
  · have hexec : ∀ c, exec (.sluiceVote mere id dev c reason origin) s = .next (s.takeVote k dev c reason origin) := by
      intro c
      rw [exec_sluiceVote, execSluiceVote, hk]
      exact (if_neg hm).trans (if_neg hk0)
    have hv : (s.modSluice k (Sluice.voted dev s.ns)).work.sluices.at? k = some (e.voted dev s.ns) := by
      rw [State.modSluice_at?_self, he, Option.map_some]
    obtain ⟨hdev, hold⟩ := Sluice.mem_votes_voted dev s.ns e
    refine ⟨?_, fun hp => ⟨_, hexec true, ?_⟩, fun hp hall => ⟨_, hexec true, ?_⟩⟩
    · rw [hexec, State.takeVote_abort dev reason origin he hc ha]
    · rw [State.takeVote_commit dev reason origin he hc ha, State.tryDecide_of_not_prepared hv hp, hv]
      exact ⟨by simpa [Sluice.voted] using hdev, rfl, rfl⟩
    · obtain ⟨h1, h2, h3⟩ := State.tryDecide_of_voted hv hp fun d hd => (hall d hd).elim (fun h => h ▸ hdev) (hold d)
      rw [State.takeVote_commit dev reason origin he hc ha, h1]
      exact ⟨rfl, h2, h3⟩
  · have hexec : ∀ c, exec (.sluiceDecision mere id c reason origin) s = .next (s.takeDecision k c reason origin) := by
      intro c
      rw [exec_sluiceDecision, execSluiceDecision, hk]
      exact (if_neg hm).trans (if_neg hk0)
    refine ⟨?_, ?_⟩
    · rw [hexec, State.takeDecision, he]
      rfl
    · rw [hexec, State.takeDecision, he]
      rfl
  · have hexec : exec (.sluiceAck mere id dev) s = .next ((s.modSluice k (fun e => { e with
        acks := if e.acks.contains dev then e.acks else dev :: e.acks })).tryFinish k) := by
      rw [exec_sluiceAck, execSluiceAck, hk]
      simp only [he]
      exact if_neg (by simp [hm, hst])
    have he2 : (s.modSluice k (fun e => { e with
        acks := if e.acks.contains dev then e.acks else dev :: e.acks })).work.sluices.at? k
        = some { e with acks := dev :: e.acks } := by
      rw [State.modSluice_at?_self, he, Option.map_some, hack]
      rfl
    refine ⟨fun hp => ⟨_, hexec, ?_⟩, fun hp hall => ⟨_, hexec, ?_⟩⟩
    · rw [State.tryFinish_of_unpublished he2 hp]
      exact ⟨he2, rfl, rfl⟩
    · rw [State.tryFinish_of_done he2 hst hp (.inr (.inr fun d hd =>
        (hall d hd).imp_right fun h => List.mem_cons.2 h))]
      obtain ⟨h1, h2, h3⟩ := (s.modSluice k (fun e => { e with
        acks := if e.acks.contains dev then e.acks else dev :: e.acks })).endOp_freeSluice_facts k e.commitOp Status.success 0
      exact ⟨h1, h2, fun o ho hl => by rw [h3 o ho hl]; rfl⟩
  · rw [exec_sluiceAbortForward, execSluiceAbortForward, hk, h0]
    exact (if_neg (by simp)).trans (if_pos hv)
  · rw [exec_sluiceAbortForward, execSluiceAbortForward, hk, h0]
    exact (if_neg (by simp)).trans (if_neg (by rw [hv]; decide))
  · rw [exec_sluiceAbortForward, execSluiceAbortForward, hk]
    refine (if_pos h0).trans ?_
    rw [State.takeAbort, he]
  · refine ⟨_, rfl, (apart_modSluice ..).mem.trans (endsWork_endOps ..).apart.mem, fun op o ho hc hp hcount hid => ?_⟩
    have hl : o.phase ≠ .ended := by rw [hp]; decide
    have hin := State.mem_liveOps (q := fun o => o.opcode = 0x53 && o.phase = .running && o.count = mere
      && fld o.desc 8 0 48 = id) ho hl (by simp [hc, hp, hcount, hid])
    have hend := State.endOps_op?_of_mem (if committed then Status.alreadyCommitted else Status.success) 0 hin ho hl
    exact congrArg (Option.map (fun x : Op => (x.phase, x.status))) hend
  · rw [exec_sluiceCommitTimeout, execSluiceCommitTimeout, hk]
    simp only [he]
  · have hexec : exec (.commitUnconfirmed f id) s = .next ((s.endOp e.commitOp Status.commitUnconfirmed
        (e.parts.filter (fun d => d ≠ s.fab.devId && !e.acks.contains d)).length).freeSluice k) := by
      rw [exec_commitUnconfirmed, execCommitUnconfirmed, hk]
      simp only [he]
    obtain ⟨h1, h2, h3⟩ := s.endOp_freeSluice_facts k e.commitOp Status.commitUnconfirmed
      (e.parts.filter (fun d => d ≠ s.fab.devId && !e.acks.contains d)).length
    exact ⟨_, hexec, h1, h2, by rw [h3 o ho hl]; rfl⟩

end Sys2Proof.Machine
end

section
/-! The life of a sluice on one device, and the layout changes that wait for it (R253 to R275, R203, R266). -/

namespace Sys2Proof.Machine

theorem exec_sluiceOpen (op : Nat) (ext : Ext) (s : State) : exec (.sluiceOpen op ext) s = execSluiceOpen op ext s := rfl
theorem exec_sluiceGuard (op : Nat) (s : State) : exec (.sluiceGuard op) s = execSluiceGuard op s := rfl
theorem exec_sluiceCommit (op : Nat) (s : State) : exec (.sluiceCommit op) s = execSluiceCommit op s := rfl
theorem exec_sluiceAbort (op : Nat) (s : State) : exec (.sluiceAbort op) s = execSluiceAbort op s := rfl
theorem exec_sluiceDrained (f id : Nat) (s : State) : exec (.sluiceDrained f id) s = execSluiceDrained f id s := rfl
theorem exec_sluiceHoldAcked (f id : Nat) (s : State) : exec (.sluiceHoldAcked f id) s = execSluiceHoldAcked f id s := rfl
theorem exec_sluicePublished (f id : Nat) (s : State) : exec (.sluicePublished f id) s = execSluicePublished f id s := rfl
theorem exec_sluiceAbortDone (f id : Nat) (s : State) : exec (.sluiceAbortDone f id) s = execSluiceAbortDone f id s := rfl
theorem exec_stageWaysApply (die : Nat) (s : State) : exec (.stageWaysApply die) s = execStageWaysApply die s := rfl
theorem exec_spillRegionApply (die : Nat) (s : State) : exec (.spillRegionApply die) s = execSpillRegionApply die s := rfl

/-! ### When a descriptor that acts at its resolution may run -/

/-- What decides whether an operation may run, of the operation itself (R383). -/
def Op.gate (o : Op) : OpPhase × Bool × Nat × Nat × Nat × Nat × Nat := (o.phase, o.waitMet, o.step, o.pond, o.fn, o.sq, o.ctx)

theorem State.readyOp_modOp (s : State) (id : Nat) (o : Op) {g : Op → Op} (hg : ∀ o, (g o).gate = o.gate) :
    (s.modOp id g).readyOp id (g o) = s.readyOp id o := by
  have hb : ∀ o : Op, ((g o).phase = o.phase ∧ (g o).waitMet = o.waitMet ∧ (g o).step = o.step ∧ (g o).pond = o.pond
      ∧ (g o).fn = o.fn ∧ (g o).sq = o.sq ∧ (g o).ctx = o.ctx) := by
    intro o
    have h := hg o
    simp only [Op.gate, Prod.mk.injEq] at h
    exact h
  obtain ⟨hph, hw, hst, hp, hf, hq, hc⟩ := hb o
  have hbehind : (s.modOp id g).behind id (g o) = s.behind id o := by
    rw [State.behind, State.behind, hf, hq]
    show (List.map _ s.work.ops).any _ = _
    rw [List.any_map]
    refine congrArg (fun f => List.any s.work.ops f) (funext fun p => ?_)
    dsimp only [Function.comp_apply]
    split
    · obtain ⟨hph, -, -, -, hf, hq, -⟩ := hb p.2
      rw [hf, hq, hph]
    · rfl
  have hrel : (s.modOp id g).released (g o) = s.released o := by
    unfold State.released
    rw [hst, hp]
    rfl
  unfold State.readyOp
  rw [hbehind, hrel, hph, hw, hc]
  rfl

/-- A descriptor that has acted succeeds if it may run, and else waits with its effect done. -/
theorem State.actDone_acted {s u : State} {op code : Nat} {o x : Op} (hx : u.op? op = some x) (hc : x.opcode = code)
    (hp : x.phase = .fetched) (hr : u.readyOp op x = s.readyOp op o) :
    (s.readyOp op o = true → ((u.actDone op code).op? op).map (fun x => (x.phase, x.status)) = some (.ended, 0))
      ∧ (s.readyOp op o = false → ((u.actDone op code).op? op).map (fun x => (x.phase, x.acted)) = some (.fetched, true)) := by
  rw [State.actDone_op?_self hx hc hp, hr]
  refine ⟨fun h => ?_, fun h => ?_⟩
  · rw [h]
    rfl
  · rw [h, ← hp]
    rfl

theorem State.actDone_sluices (s : State) (id code : Nat) : (s.actDone id code).work.sluices = s.work.sluices
    ∧ (s.actDone id code).work.nextSluice = s.work.nextSluice := by
  have hnext : ∀ u : State, (u.succeed id).work.sluices = u.work.sluices ∧ (u.succeed id).work.nextSluice = u.work.nextSluice := by
    intro u
    rw [State.succeed_eq]
    rcases ho : u.op? id with _ | o
    · rw [State.endOp_of_none _ _ ho]
      exact ⟨rfl, rfl⟩
    · by_cases hl : o.phase = .ended
      · rw [State.endOp_of_ended _ _ ho hl]
        exact ⟨rfl, rfl⟩
      · obtain ⟨l, h, -⟩ := State.endOp_work 0 0 ho hl
        rw [h]
        exact ⟨rfl, rfl⟩
  unfold State.actDone State.goOn
  split
  · split
    · exact hnext _
    · exact ⟨rfl, rfl⟩
  · exact ⟨rfl, rfl⟩

/-- A descriptor that has acted and may run: `acts?` finds it no more, and it goes on. -/
theorem State.acts?_of_acted {s : State} {op : Nat} {o : Op} (code : Nat) (ho : s.op? op = some o) (ha : o.acted = true) :
    s.acts? op code = none := by
  rw [State.acts?, ho]
  exact if_neg (by simp [ha])

theorem State.goOn_succeeds {s : State} {op code : Nat} {o : Op} (ho : s.op? op = some o) (ha : o.acted = true)
    (hr : s.readyOp op o = true) (hc : o.opcode = code) : s.goOn op code = s.succeed op := by
  rw [State.goOn_of_acted ho hc ha, hr]
  rfl

/-! ### Opening, guarding, committing -/

/-- The state with a sluice's entry made (R260). -/
def State.withSluice (s : State) (op : Nat) (o : Op) : State :=
  let home := (((s.fn o.fn).sqs.at? o.sq).map (·.cluster / 4)).getD 0
  ({ s with work := { s.work with
    sluices := s.work.sluices.set s.work.nextSluice (newSluice o home [])
    nextSluice := s.work.nextSluice + 1 } }).modOp op (fun o => { o with count := s.work.nextSluice })

theorem execSluiceOpen_eq {s : State} {op : Nat} {ext : Ext} {o : Op} (ho : s.acts? op 0x50 = some o)
    (hm : fld o.desc 0x20 0 32 = 0) (hnew : ∀ p, p ∈ s.work.sluices → ¬(p.2.fn = o.fn ∧ p.2.id = fld o.desc 8 0 48))
    (hl : s.layoutPending = false) (he : s.entriesUsed < 1024) (hcap : (s.fn o.fn).sluiceMax = 0) :
    exec (.sluiceOpen op ext) s = .next ((s.withSluice op o).actDone op 0x50) := by
  have hany : s.work.sluices.any (fun p => (p.2.fn = o.fn && p.2.id = fld o.desc 8 0 48)
      || (fld o.desc 0x20 0 32 ≠ 0 && p.2.mere = fld o.desc 0x20 0 32 && p.2.id = fld o.desc 8 0 48)) = false := by
    refine List.any_eq_false.2 fun p hp => ?_
    simpa [hm] using hnew p hp
  have hopen : s.openSluice op o [] = (s.withSluice op o).actDone op 0x50 := by
    unfold State.openSluice
    exact if_pos hm
  rw [exec_sluiceOpen, execSluiceOpen, ho]
  dsimp only
  rw [if_neg (by rw [hany]; decide), if_neg (by rw [hl]; decide), if_neg (by simp [hcap, he]), if_pos (by simp [hm]), hopen]

theorem execSluiceOpen_facts {s : State} {op : Nat} {ext : Ext} {o : Op} (ho : s.acts? op 0x50 = some o)
    (hm : fld o.desc 0x20 0 32 = 0) (hnew : ∀ p, p ∈ s.work.sluices → ¬(p.2.fn = o.fn ∧ p.2.id = fld o.desc 8 0 48))
    (hl : s.layoutPending = false) (he : s.entriesUsed < 1024) (hcap : (s.fn o.fn).sluiceMax = 0) :
    ∃ (t : State) (e : Sluice), exec (.sluiceOpen op ext) s = .next t ∧ t.work.sluices.at? s.work.nextSluice = some e
      ∧ e.fn = o.fn ∧ e.id = fld o.desc 8 0 48 ∧ e.state = .open_ ∧ e.staged = [] ∧ e.guards = [] ∧ e.opener = o.ctx
      ∧ t.work.nextSluice = s.work.nextSluice + 1
      ∧ ((s.readyOp op o = true → (t.op? op).map (fun x => (x.phase, x.status)) = some (.ended, 0))
        ∧ (s.readyOp op o = false → (t.op? op).map (fun x => (x.phase, x.acted)) = some (.fetched, true)))
      ∧ t.mem = s.mem := by
  obtain ⟨hop, hc, hp, -⟩ := State.acts?_some ho
  obtain ⟨hsl, hn⟩ := (s.withSluice op o).actDone_sluices op 0x50
  have hx : (s.withSluice op o).op? op = some { o with count := s.work.nextSluice } := by
    rw [State.withSluice, State.modOp_op?_self]
    show Option.map _ (s.op? op) = _
    rw [hop]
    rfl
  have hready : (s.withSluice op o).readyOp op { o with count := s.work.nextSluice } = s.readyOp op o := by
    rw [State.withSluice]
    refine (State.readyOp_modOp _ op o (g := fun o => { o with count := s.work.nextSluice }) fun _ => rfl).trans ?_
    exact State.readyOp_congr rfl rfl rfl
  refine ⟨_, newSluice o ((((s.fn o.fn).sqs.at? o.sq).map (·.cluster / 4)).getD 0) [],
    execSluiceOpen_eq ho hm hnew hl he hcap, ?_, rfl, rfl, rfl, rfl, rfl, rfl, hn,
    State.actDone_acted hx hc hp hready, (State.actDone_frame ..).1⟩
  rw [hsl]
  exact Tab.at?_set_self ..

theorem execSluiceGuard_facts {s : State} {op k : Nat} {o : Op} {ps : List Nat} (ho : s.acts? op 0x51 = some o)
    (hk : s.joins o.fn o.sq (fld o.desc 8 0 48) = k) (hk0 : k ≠ 0)
    (hps : s.guardPages (s.newt o.fn o.ctx 0) ((pagesOf (fld o.desc 0x20 0 55) (fld o.desc 0x28 0 32)).map (· * 4096)) = .ok ps)
    (hcount : s.guardCount k ps ≤ 65536) :
    ∃ t : State, exec (.sluiceGuard op) s = .next t ∧ t.mem = s.mem ∧ t.work.sluices = s.work.sluices
      ∧ ((s.readyOp op o = true → (t.op? op).map (fun x => (x.phase, x.status)) = some (.ended, 0))
        ∧ (s.readyOp op o = false → (t.op? op).map (fun x => (x.phase, x.acted)) = some (.fetched, true)))
      ∧ (t.op? op).map (fun x => (x.done, x.count)) = some (ps.eraseDups, k) := by
  have hexec : exec (.sluiceGuard op) s
      = .next ((s.modOp op (fun o => { o with done := ps.eraseDups, count := k })).actDone op 0x51) := by
    rw [exec_sluiceGuard, execSluiceGuard, ho]
    dsimp only
    rw [hk, if_neg hk0, hps]
    dsimp only
    exact if_neg (Nat.not_lt.2 hcount)
  obtain ⟨hop, hc, hp, -⟩ := State.acts?_some ho
  have hx : (s.modOp op (fun o => { o with done := ps.eraseDups, count := k })).op? op
      = some { o with done := ps.eraseDups, count := k } := by
    rw [State.modOp_op?_self, hop]
    rfl
  have hready := s.readyOp_modOp op o (g := fun o => { o with done := ps.eraseDups, count := k }) fun _ => rfl
  refine ⟨_, hexec, (State.actDone_frame ..).1, (State.actDone_sluices ..).1, State.actDone_acted hx hc hp hready, ?_⟩
  rw [State.actDone_op?_self hx hc hp]
  split <;> rfl

/-- A commit that may go on is in execution; one whose wait is not met stays as it is. -/
theorem State.startCommit_eq {s : State} {op : Nat} {o : Op} (ho : s.op? op = some o) (hc : o.opcode = 0x52)
    (ha : o.acted = true) : s.startCommit op = if s.readyOp op o then (s.enqueue op).start op else s := by
  rw [State.startCommit, ho]
  simp [hc, ha]

theorem execSluiceCommit_facts {s : State} {op k : Nat} {o : Op} {e : Sluice} (ho : s.acts? op 0x52 = some o)
    (hk : s.joins o.fn o.sq (fld o.desc 8 0 48) = k) (hk0 : k ≠ 0) (he : s.work.sluices.at? k = some e) :
    ∃ t : State, exec (.sluiceCommit op) s = .next t
      ∧ t.work.sluices.at? k = some { e with
          state := .closing, commitOp := op,
          deadline := if e.mere ≠ 0 && !e.participant && e.deadline = 0 then s.ns + e.timeoutUs * 1000 else e.deadline }
      ∧ (∀ j, j ≠ k → t.work.sluices.at? j = s.work.sluices.at? j)
      ∧ (t.op? op).map (fun x => (x.phase, x.acted)) = some (if s.readyOp op o then .running else .fetched, true)
      ∧ t.mem = s.mem ∧ t.host = s.host := by
  generalize hs1 : s.modSluice k (fun e => { e with
    state := .closing, commitOp := op,
    deadline := if e.mere ≠ 0 && !e.participant && e.deadline = 0 then s.ns + e.timeoutUs * 1000 else e.deadline }) = s1
  obtain ⟨hop, hc, hp, -⟩ := State.acts?_some ho
  have hx : (s1.modOp op Op.acting).op? op = some o.acting := by
    rw [State.modOp_op?_self, ← hs1]
    show Option.map _ (s.op? op) = _
    rw [hop]
    rfl
  have hready : (s1.modOp op Op.acting).readyOp op o.acting = s.readyOp op o := by
    rw [State.readyOp_acting, ← hs1]
    exact State.readyOp_congr rfl rfl rfl
  have hexec : exec (.sluiceCommit op) s = .next (if s.readyOp op o then
      ((s1.modOp op Op.acting).enqueue op).start op else s1.modOp op Op.acting) := by
    rw [← hready, ← State.startCommit_eq hx hc rfl, exec_sluiceCommit, execSluiceCommit, ho, ← hs1]
    dsimp only
    rw [hk]
    exact if_neg hk0
  have hself : s1.work.sluices.at? k = some { e with
      state := .closing, commitOp := op,
      deadline := if e.mere ≠ 0 && !e.participant && e.deadline = 0 then s.ns + e.timeoutUs * 1000 else e.deadline } := by
    rw [← hs1, State.modSluice_at?_self, he]
    rfl
  have hne : ∀ j, j ≠ k → s1.work.sluices.at? j = s.work.sluices.at? j := fun j hj => by
    rw [← hs1, State.modSluice_at?_ne _ _ hj]
  have hmem : s1.mem = s.mem ∧ s1.host = s.host := by rw [← hs1]; exact ⟨rfl, rfl⟩
  obtain ⟨hm, hh⟩ := hmem
  refine ⟨_, hexec, ?_⟩
  split
  · refine ⟨hself, hne, ?_, hm, hh⟩
    rw [State.start_op?_self, State.enqueue, State.modOp_op?_self, hx]
    rfl
  · refine ⟨hself, hne, ?_, hm, hh⟩
    rw [hx, ← hp]
    rfl

/-! ### Aborting -/

/-- What an abort does to operations: some end, and no other changes. -/
structure EndsOps (s t : State) : Prop where
  fetched : ∀ p ∈ t.work.ops, p.2.phase = .fetched → p ∈ s.work.ops
  kept : ∀ j o, s.op? j = some o → t.op? j = some o ∨ ∃ x, t.op? j = some x ∧ x.phase = .ended

theorem EndsOps.refl (s : State) : EndsOps s s := ⟨fun _ h _ => h, fun _ _ h => .inl h⟩
theorem EndsOps.of_ops {s t : State} (h : t.work.ops = s.work.ops) : EndsOps s t :=
  ⟨fun p hp _ => h ▸ hp, fun j o ho => .inl (by rw [State.op?, h]; exact ho)⟩

theorem endsOps_endOp (s : State) (id st d : Nat) : EndsOps s (s.endOp id st d) := by
  rcases ho : s.op? id with _ | o
  · rw [State.endOp_of_none _ _ ho]
    exact .refl _
  · by_cases hl : o.phase = .ended
    · rw [State.endOp_of_ended _ _ ho hl]
      exact .refl _
    · obtain ⟨l, hw, -⟩ := State.endOp_work st d ho hl
      refine ⟨fun p hp hf => ?_, fun j x hx => ?_⟩
      · have hp2 : p ∈ s.work.ops.modify id (fun o => o.endedWith st d) := by rw [hw] at hp; exact hp
        obtain ⟨q, hq, hqp, hqf⟩ := Tab.mem_modify hp2
        by_cases hi : q.1 = id
        · rw [if_pos hi] at hqf
          rw [hqf] at hf
          cases hf
        · rw [if_neg hi] at hqf
          exact (Prod.ext hqp hqf.symm : q = p) ▸ hq
      · by_cases hj : j = id
        · subst hj
          exact .inr ⟨_, State.endOp_op?_self st d ho hl, rfl⟩
        · exact .inl (by rw [State.endOp_op?_ne _ _ hj, hx])

theorem EndsOps.trans_work {s t u : State} (h : EndsOps s t) (k : EndsOps t u)
    (he : ∀ j o, t.op? j = some o → o.phase = .ended → u.op? j = some o) : EndsOps s u := by
  refine ⟨fun p hp hf => h.fetched p (k.fetched p hp hf) hf, fun j o ho => ?_⟩
  rcases h.kept j o ho with h1 | ⟨x, hx, hxe⟩
  · exact k.kept j o h1
  · exact .inr ⟨x, he j x hx hxe, hxe⟩

theorem endsOps_endOps (s : State) (ids : List Nat) (st d : Nat) : EndsOps s (s.endOps ids st d) := by
  induction ids generalizing s with
  | nil => exact .refl s
  | cons i ids ih => exact (endsOps_endOp s i st d).trans_work (ih _) fun j o => (endsWork_endOps _ ids st d).ended j o

/-- An abort of a live sluice ends operations and marks its entry; every other entry stands (R274). -/
theorem State.abortSluice_facts {s : State} {k : Nat} {e : Sluice} (reason origin : Nat) (he : s.work.sluices.at? k = some e)
    (hc : e.state ≠ .committed) (ha : e.state ≠ .aborting) : EndsOps s (s.abortSluice k reason origin)
      ∧ (s.abortSluice k reason origin).work.sluices.at? k = some (e.aborted reason origin) := by
  have heq := State.abortSluice_eq reason origin he hc ha
  dsimp only at heq
  obtain ⟨l, hn⟩ := s.abortNotice_eq e reason origin
  rw [hn] at heq
  generalize hs2 : (s.withSent l).modSluice k (Sluice.aborted reason origin) = s2 at heq
  rw [heq]
  have h0 : EndsOps s s2 := .of_ops (by rw [← hs2]; rfl)
  refine ⟨?_, ?_⟩
  · refine ((h0.trans_work (endsOps_endOps ..) fun j o => (endsWork_endOps ..).ended j o).trans_work (endsOps_endOp ..)
      fun j o => (endsWork_endOp ..).ended j o).trans_work (endsOps_endOps ..) fun j o => (endsWork_endOps ..).ended j o
  · rw [State.endOps_sluices, State.endOp_sluices, State.endOps_sluices, ← hs2, State.modSluice_at?_self]
    show Option.map _ (s.work.sluices.at? k) = _
    rw [he, Option.map_some]

/-- What ends holds off no other operation. -/
theorem EndsOps.readyOp {s t : State} (h : EndsOps s t) (ha : Apart s t) (hh : t.host = s.host) {id : Nat} {o : Op}
    (hr : s.readyOp id o = true) : t.readyOp id o = true := by
  unfold State.readyOp at hr ⊢
  rw [State.released_congr (congrArg MemPart.ponds ha.mem), State.resident, hh]
  simp only [Bool.and_eq_true, Bool.not_eq_true'] at hr ⊢
  refine ⟨⟨hr.1.1, ?_⟩, hr.2⟩
  refine List.any_eq_false.2 fun p hp hbad => ?_
  simp only [Bool.and_eq_true, decide_eq_true_eq] at hbad
  refine (List.any_eq_false.1 hr.1.2) p (h.fetched p hp hbad.2) ?_
  simpa only [Bool.and_eq_true, decide_eq_true_eq] using hbad

/-- An operation that acts has acted, and if it may run it has ended. -/
theorem State.actDone_marks {u : State} {op code : Nat} {x : Op} (hx : u.op? op = some x) :
    ((u.actDone op code).op? op).map (·.acted) = some true
      ∧ (x.phase = .ended → ((u.actDone op code).op? op).map (·.phase) = some .ended)
      ∧ (x.opcode = code → x.phase = .fetched → u.readyOp op x = true →
        ((u.actDone op code).op? op).map (·.phase) = some .ended) := by
  have hm : (u.modOp op Op.acting).op? op = some x.acting := by rw [State.modOp_op?_self, hx, Option.map_some]
  have hgo : ∀ t : State, t = (u.modOp op Op.acting).succeed op ∨ t = u.modOp op Op.acting →
      (t.op? op).map (·.acted) = some true ∧ (x.phase = .ended → (t.op? op).map (·.phase) = some .ended) := by
    rintro t (rfl | rfl)
    · rw [State.succeed_eq]
      by_cases hl : x.acting.phase = .ended
      · rw [State.endOp_of_ended _ _ hm hl, hm]
        exact ⟨rfl, fun _ => congrArg some hl⟩
      · rw [State.endOp_op?_self 0 0 hm hl]
        exact ⟨rfl, fun _ => rfl⟩
    · rw [hm]
      exact ⟨rfl, fun h => congrArg some h⟩
  have hcases : u.actDone op code = (u.modOp op Op.acting).succeed op ∨ u.actDone op code = u.modOp op Op.acting := by
    show (u.modOp op Op.acting).goOn op code = _ ∨ (u.modOp op Op.acting).goOn op code = _
    rw [State.goOn, hm]
    dsimp only
    split
    · exact .inl rfl
    · exact .inr rfl
  refine ⟨(hgo _ hcases).1, (hgo _ hcases).2, fun hc hp hr => ?_⟩
  rw [State.actDone_op?_self hx hc hp, hr]
  rfl

theorem execSluiceAbort_facts {s : State} {op k : Nat} {o : Op} {e : Sluice} (ho : s.acts? op 0x53 = some o)
    (hk : s.sees o.fn o.sq (fld o.desc 8 0 48) = k) (he : s.work.sluices.at? k = some e)
    (hst : e.state = .open_ ∨ e.state = .closing ∨ e.state = .holding) :
    ∃ t : State, exec (.sluiceAbort op) s = .next t
      ∧ (t.work.sluices.at? k).map (fun x => (x.state, x.staged, x.guards, x.reason))
          = some (.aborting, [], [], Reason.requested)
      ∧ (t.op? op).map (fun x => x.acted) = some true
      ∧ (s.readyOp op o = true → (t.op? op).map (fun x => x.phase) = some .ended) ∧ t.mem = s.mem := by
  obtain ⟨hop, hcode, hp, -⟩ := State.acts?_some ho
  have hnot : e.state ≠ .committed ∧ e.state ≠ .aborting ∧ e.state ≠ .prepared := by
    rcases hst with h | h | h <;> rw [h] <;> decide
  obtain ⟨hc, ha, hprep⟩ := hnot
  obtain ⟨hends, hentry⟩ := State.abortSluice_facts Reason.requested 0xFFFF he hc ha
  have hw := endsWork_abortSluice s k Reason.requested 0xFFFF
  generalize hu : (s.abortSluice k Reason.requested 0xFFFF).modSluice k (fun e => { e with abortOps := e.abortOps ++ [op] }) = u
  have hexec : exec (.sluiceAbort op) s = .next (u.actDone op 0x53) := by
    rw [exec_sluiceAbort, execSluiceAbort, ho]
    dsimp only
    rw [hk, he]
    dsimp only
    rw [if_neg hc, if_neg ha, if_neg (by simp [hprep]), hu]
  have huk : u.work.sluices.at? k = some { e.aborted Reason.requested 0xFFFF with abortOps := e.abortOps ++ [op] } := by
    rw [← hu, State.modSluice_at?_self, hentry]
    rfl
  have hux : ∃ x, u.op? op = some x ∧ (x = o ∨ x.phase = .ended) := by
    rw [← hu]
    rcases hends.kept op o hop with h | ⟨x, hx, hxe⟩
    · exact ⟨o, h, .inl rfl⟩
    · exact ⟨x, hx, .inr hxe⟩
  obtain ⟨x, hx, hxo⟩ := hux
  obtain ⟨hacted, hended, hready⟩ := State.actDone_marks (code := 0x53) hx
  refine ⟨_, hexec, ?_, hacted, fun hr => ?_, ?_⟩
  · rw [(State.actDone_sluices ..).1, huk]
    rfl
  · have hru : u.readyOp op o = true := by
      have h1 := hends.readyOp hw.apart hw.host hr
      rw [← hu]
      exact h1
    rcases hxo with rfl | hxe
    · exact hready hcode hp hru
    · exact hended hxe
  · rw [(State.actDone_frame ..).1, ← hu]
    exact hw.apart.mem

/-! ### Draining, holding, publishing -/

theorem execSluiceDrained_facts {s : State} {f id k : Nat} {e : Sluice}
    (hk : s.sluiceNamed f id (fun e => e.state = .closing) = k) (he : s.work.sluices.at? k = some e) (hst : e.state = .closing)
    (hops : s.work.ops.any (fun p => p.2.sluice = k) = false) (hrun : s.commitRuns e = true)
    (hb : s.commitBlocked k e = false) (hr : e.recorded = []) :
    ∃ t : State, exec (.sluiceDrained f id) s = .next t ∧ t.work.sluices.at? k = some { e with state := .holding }
      ∧ t.mem = s.mem ∧ t.work.ops = s.work.ops := by
  have hexec : exec (.sluiceDrained f id) s
      = .next (s.modSluice k (fun e => if e.state = .closing then { e with state := .holding } else e)) := by
    rw [exec_sluiceDrained, execSluiceDrained, hk]
    simp only [he]
    rw [if_neg (by rw [hops, hrun, hb]; decide), hr, State.cutReceipts]
  refine ⟨_, hexec, ?_, rfl, rfl⟩
  rw [State.modSluice_at?_self, he, Option.map_some, if_pos hst]

theorem execSluiceHoldAcked_facts {s : State} {f id k : Nat} {e : Sluice}
    (hk : s.sluiceNamed f id (fun e => e.state = .holding) = k) (he : s.work.sluices.at? k = some e) :
    (e.mere = 0 → ∃ t : State, exec (.sluiceHoldAcked f id) s = .next t
      ∧ t.work.sluices.at? k = some { e with state := .committed, guards := [] } ∧ t.mem = s.mem ∧ t.work.ops = s.work.ops)
    ∧ (e.mere ≠ 0 → e.participant = true → ∃ t : State, exec (.sluiceHoldAcked f id) s = .next t
      ∧ t.work.sluices.at? k = some { e with state := .prepared } ∧ t.mem = s.mem ∧ t.work.ops = s.work.ops
      ∧ t.work.sent.length = s.work.sent.length + 1) := by
  refine ⟨fun hm => ⟨s.commitPoint k, ?_, ?_, rfl, rfl⟩, fun hm hp => ⟨(s.modSluice k (fun e => { e with
    state := .prepared })).send { kind := .sluiceVote, dst := e.coord, mere := e.mere, id := e.id, args := [1, 0, s.fab.devId],
                                  data := [] }, ?_, ?_, rfl, rfl, List.length_append⟩⟩
  · rw [exec_sluiceHoldAcked, execSluiceHoldAcked, hk]
    simp only [he]
    rw [if_pos hm]
  · rw [State.commitPoint, State.modSluice_at?_self, he]
    rfl
  · rw [exec_sluiceHoldAcked, execSluiceHoldAcked, hk]
    simp only [he]
    rw [if_neg hm, if_pos hp]
  · show (s.modSluice k (fun e => { e with state := .prepared })).work.sluices.at? k = _
    rw [State.modSluice_at?_self, he]
    rfl

/-- A sluice's entry once it has published (R271 step 5). -/
def Sluice.shown (e : Sluice) : Sluice := { e with staged := [], spilled := [], recorded := [], published := true }

theorem execSluicePublished_facts {s : State} {f id k : Nat} {e : Sluice}
    (hk : s.sluiceNamed f id (fun e => e.state = .committed && !e.published) = k) (he : s.work.sluices.at? k = some e)
    (hst : e.state = .committed) (hm : e.mere = 0) (hr : e.recorded = []) (hs : e.staged = []) :
    ∃ t : State, exec (.sluicePublished f id) s = .next t ∧ t.work.sluices.at? k = none ∧ t.mem = s.mem
      ∧ (∀ o, s.op? e.commitOp = some o → o.phase ≠ .ended →
          (t.op? e.commitOp).map (fun x => (x.phase, x.status)) = some (.ended, 0)) := by
  have hg : e.granulesOf = [] := by rw [Sluice.granulesOf, hs]; rfl
  have hexec : exec (.sluicePublished f id) s = .next ((s.modSluice k Sluice.shown).tryFinish k) := by
    rw [exec_sluicePublished, execSluicePublished, hk]
    simp only [he]
    rw [if_neg (by rw [hg]; exact Bool.false_ne_true), State.publish, hg, hr]
    exact congrArg (fun u => Host.Outcome.next (State.tryFinish u k)) (if_neg (by simp [hm]))
  have hshown : (s.modSluice k Sluice.shown).work.sluices.at? k = some e.shown := by
    rw [State.modSluice_at?_self, he, Option.map_some]
  rw [State.tryFinish_of_done hshown hst rfl (.inl hm)] at hexec
  obtain ⟨h1, h2, h3⟩ := (s.modSluice k Sluice.shown).endOp_freeSluice_facts k e.shown.commitOp Status.success 0
  exact ⟨_, hexec, h1, h2, fun o ho hl => congrArg (Option.map (fun x : Op => (x.phase, x.status))) (h3 o ho hl)⟩

theorem execSluiceAbortDone_facts {s : State} {f id k : Nat} {e : Sluice}
    (hk : s.sluiceNamed f id (fun e => e.state = .aborting) = k) (he : s.work.sluices.at? k = some e)
    (hops : ∀ p, p ∈ s.work.ops → p.2.sluice ≠ k ∧ p.1 ≠ e.commitOp ∧ p.1 ∉ e.abortOps) :
    ∃ t : State, exec (.sluiceAbortDone f id) s = .next t ∧ t.work.sluices.at? k = none
      ∧ (∀ j, j ≠ k → t.work.sluices.at? j = s.work.sluices.at? j) ∧ t.mem = s.mem := by
  have hany : s.work.ops.any (fun p => p.2.sluice = k || p.1 = e.commitOp || e.abortOps.contains p.1) = false := by
    refine List.any_eq_false.2 fun p hp => ?_
    obtain ⟨h1, h2, h3⟩ := hops p hp
    simp [h1, h2, h3]
  have hexec : exec (.sluiceAbortDone f id) s = .next (s.freeSluice k) := by
    rw [exec_sluiceAbortDone, execSluiceAbortDone, hk]
    simp only [he]
    exact if_neg (by rw [hany]; decide)
  obtain ⟨h1, h2, -, h4⟩ := s.freeSluice_facts k
  exact ⟨_, hexec, h1, h2, h4⟩

theorem execStageWaysApply_facts {s : State} {die : Nat} (hs : s.work.sluices = []) (hd : die < 4)
    (hw : s.mem.stageWritten.get 4 die ≠ s.mem.stageWays.get 4 die) :
    ∃ t : State, exec (.stageWaysApply die) s = .next t ∧ t.mem.stageWays.get 4 die = s.mem.stageWritten.get 4 die
      ∧ (∀ d, d ≠ die → t.mem.stageWays.get 4 d = s.mem.stageWays.get 4 d)
      ∧ (∀ l, l ∈ t.mem.loft → l.die = die → s.mem.stageWritten.get 4 die ≤ l.way) ∧ t.mem.hbm = s.mem.hbm := by
  have hexec : exec (.stageWaysApply die) s = .next { s with mem := { s.mem with
      loft := s.mem.loft.filter (fun l => !(l.die = die && l.way < s.mem.stageWritten.get 4 die))
      stageWays := s.mem.stageWays.set die (s.mem.stageWritten.get 4 die) } } := by
    rw [exec_stageWaysApply, execStageWaysApply]
    exact if_neg (by simp [hs, hw, Nat.not_le.2 hd])
  refine ⟨_, hexec, Tab.get_set_self .., fun d hne => Tab.get_set_ne _ _ _ hne, fun l hl hld => ?_, rfl⟩
  have hl2 : l ∈ s.mem.loft.filter (fun l => !(l.die = die && l.way < s.mem.stageWritten.get 4 die)) := hl
  have hnot := (List.mem_filter.1 hl2).2
  simp only [hld, decide_true, Bool.true_and, Bool.not_eq_true', decide_eq_false_iff_not, Nat.not_lt] at hnot
  exact hnot

/-- Settles O37: each step of a sluice's life by its own lemma above. -/
theorem sluiceCommandsTakeEffect : Obligations.SluiceCommandsTakeEffect := by
  refine ⟨fun s op ext o ho hm hnew hl he hcap => execSluiceOpen_facts ho hm hnew hl he hcap,
    fun s op k o ps ho hk hk0 hps hc => execSluiceGuard_facts ho hk hk0 hps hc,
    fun s op k o e ho hk hk0 he => execSluiceCommit_facts ho hk hk0 he,
    fun s op k o e ho hk he => ⟨fun hst => ?_, fun hst => execSluiceAbort_facts ho hk he hst⟩,
    fun s op o ho ha hr => ⟨fun ext hc => ?_, fun hc => ?_, fun hc => ?_, fun hc => ?_⟩,
    fun s f id k e hk he hst hops hrun hb hrec => execSluiceDrained_facts hk he hst hops hrun hb hrec,
    fun s f id k e hk he => execSluiceHoldAcked_facts hk he,
    fun s f id k e hk he hst hm hrec hs => execSluicePublished_facts hk he hst hm hrec hs,
    fun s f id k e hk he hops => execSluiceAbortDone_facts hk he hops,
    fun s die hs hd => ⟨fun hw => execStageWaysApply_facts hs hd hw, ?_⟩⟩
  · rw [exec_sluiceAbort, execSluiceAbort, ho]
    dsimp only
    rw [hk, he]
    exact if_pos hst
  · rw [exec_sluiceOpen, execSluiceOpen, State.acts?_of_acted _ ho ha]
    exact congrArg _ (State.goOn_succeeds ho ha hr hc)
  · rw [exec_sluiceGuard, execSluiceGuard, State.acts?_of_acted _ ho ha]
    exact congrArg _ (State.goOn_succeeds ho ha hr hc)
  · refine ⟨(s.enqueue op).start op, ?_, ?_, rfl, rfl⟩
    · rw [exec_sluiceCommit, execSluiceCommit, State.acts?_of_acted _ ho ha]
      exact congrArg _ ((State.startCommit_eq ho hc ha).trans (if_pos hr))
    · rw [State.start_op?_self, State.enqueue, State.modOp_op?_self, ho]
      rfl
  · rw [exec_sluiceAbort, execSluiceAbort, State.acts?_of_acted _ ho ha]
    exact congrArg _ (State.goOn_succeeds ho ha hr hc)
  · have hexec : exec (.spillRegionApply die) s = .next { s with mem := { s.mem with
        spill := s.mem.spill.set die (s.mem.spillWritten.get (0, 0) die) } } := by
      rw [exec_spillRegionApply, execSpillRegionApply]
      exact if_neg (by simp [hs, Nat.not_le.2 hd])
    exact ⟨_, hexec, Tab.get_set_self .., rfl⟩

end Sys2Proof.Machine
end

section
/-! Push subscriptions (R221, R500 to R504): whatever ends or starts work takes copies from the subscriptions that wait for
them and adds none, and leaves the segments an operation has done and whether it waits for a push. -/

namespace Sys2Proof.Machine

/-- What of an operation tells how far its copy has come. -/
def Op.progress (o : Op) : Bool × List Nat := (o.push, o.done)

/-- A step that adds no waiting copy to a push subscription, and no progress to an operation. -/
structure Recedes (s t : State) : Prop where
  ops : ∀ j, (t.op? j).map Op.progress = (s.op? j).map Op.progress
  subs : ∀ p ∈ t.fab.pushIn, ∃ q ∈ s.fab.pushIn, q.1 = p.1 ∧ p.2.waiting ⊆ q.2.waiting

@[refl] theorem Recedes.refl (s : State) : Recedes s s := ⟨fun _ => rfl, fun p hp => ⟨p, hp, rfl, fun _ h => h⟩⟩

theorem Recedes.trans {s t u : State} (h : Recedes s t) (k : Recedes t u) : Recedes s u := by
  refine ⟨fun j => (k.ops j).trans (h.ops j), fun p hp => ?_⟩
  obtain ⟨q, hq, hqp, hw⟩ := k.subs p hp
  obtain ⟨r, hr, hrq, hw2⟩ := h.subs q hq
  exact ⟨r, hr, hrq.trans hqp, List.Subset.trans hw hw2⟩

theorem Recedes.of_eq {s t : State} (ho : t.work.ops = s.work.ops) (hp : t.fab.pushIn = s.fab.pushIn) : Recedes s t :=
  ⟨fun j => by rw [State.op?, ho]; rfl, fun p hm => ⟨p, hp ▸ hm, rfl, fun _ h => h⟩⟩

theorem recedes_modOp (s : State) (id : Nat) (g : Op → Op) (hg : ∀ o, (g o).progress = o.progress) : Recedes s (s.modOp id g) :=
  ⟨fun _ => Tab.map_at?_modify _ _ _ _ _ hg, fun p hp => ⟨p, hp, rfl, fun _ h => h⟩⟩

/-- A subscription that stays after a run is dropped was there before it, without the copies of that run. -/
theorem State.mem_dropRun {s : State} {id : Nat} {p : Nat × PushIn} (hp : p ∈ (s.dropRun id).fab.pushIn) :
    ∃ q ∈ s.fab.pushIn, q.1 = p.1 ∧ p.2 = q.2.forget id := by
  obtain ⟨q, hq, rfl⟩ := List.mem_map.1 hp
  exact ⟨q, (List.mem_filter.1 hq).1, rfl, rfl⟩

theorem recedes_dropRun (s : State) (id : Nat) : Recedes s (s.dropRun id) := by
  refine ⟨fun _ => rfl, fun p hp => ?_⟩
  obtain ⟨q, hq, hqp, hf⟩ := State.mem_dropRun hp
  exact ⟨q, hq, hqp, fun w hw => (List.mem_filter.1 (hf ▸ hw : w ∈ (q.2.forget id).waiting)).1⟩

theorem recedes_endOp (s : State) (id status detail : Nat) : Recedes s (s.endOp id status detail) := by
  rcases ho : s.op? id with _ | o
  · rw [State.endOp_of_none _ _ ho]
  · by_cases hl : o.phase = .ended
    · rw [State.endOp_of_ended _ _ ho hl]
    · rw [State.endOp_eq _ _ ho hl]
      refine Recedes.trans (t := if status = Status.success then s else s.redCancels id) ?_
        ((recedes_modOp _ id (fun o => o.endedWith status detail) fun _ => rfl).trans (recedes_dropRun ..))
      split
      · rfl
      · obtain ⟨l, h⟩ := s.redCancels_eq id
        rw [h]
        exact .of_eq rfl rfl

/-! ### Relations that every end of work keeps -/

/-- A relation of states that holds across the end of an operation, and across a step that leaves memory, the operations,
the fabric and the count of groups: it then holds across whatever decides, aborts or launches work. -/
structure Lifts (R : State → State → Prop) : Prop where
  trans : ∀ s t u, R s t → R t u → R s u
  same : ∀ s t : State, t.mem = s.mem → t.work.ops = s.work.ops → t.fab = s.fab →
    t.eng.nextGroup = s.eng.nextGroup → R s t
  endOp : ∀ s id st d, R s (State.endOp s id st d)

namespace Lifts
variable {R : State → State → Prop} (L : Lifts R)
include L

theorem refl (s : State) : R s s := L.same _ _ rfl rfl rfl rfl

theorem foldl {β : Type} {g : State → β → State} (hg : ∀ s b, R s (g s b)) (l : List β) (s : State) : R s (l.foldl g s) := by
  induction l generalizing s with
  | nil => exact L.refl s
  | cons b l ih => exact L.trans _ _ _ (hg s b) (ih _)

theorem sends {β : Type} (m : β → FabMsg) (l : List β) (s : State) : R s (l.foldl (fun s d => s.send (m d)) s) :=
  L.foldl (fun s d => L.same s (s.send (m d)) rfl rfl rfl rfl) _ _

theorem endOps (s : State) (ids : List Nat) (st d : Nat) : R s (s.endOps ids st d) := L.foldl (fun _ _ => L.endOp ..) _ _

theorem abortSluice (s : State) (k reason origin : Nat) : R s (s.abortSluice k reason origin) := by
  unfold State.abortSluice State.abortSluiceWith
  split
  · exact L.refl s
  · split
    · exact L.refl s
    · refine L.trans _ _ _ ?_ (L.trans _ _ _ (L.endOps ..) (L.trans _ _ _ (L.endOp ..) (L.endOps ..)))
      obtain ⟨l, h⟩ := s.abortNotice_eq _ reason origin
      rw [if_pos rfl, h]
      exact L.same _ _ rfl rfl rfl rfl

theorem abortSluicesOf (s : State) (ids : List Nat) (reason : Nat) : R s (s.abortSluicesOf ids reason) := by
  refine L.trans _ _ _ (L.foldl (fun s i => ?_) _ _) (L.foldl (fun _ _ => L.abortSluice ..) _ _)
  split
  · split
    · exact L.refl s
    · exact L.abortSluice ..
  · exact L.refl s

theorem markLost (s : State) (c id : Nat) : R s (s.markLost c id) := by
  unfold State.markLost
  split
  · exact L.refl s
  · split
    · exact L.refl s
    · have hmark : R s (s.modCtx c (fun x => { x with lost := true, lossOp := id })) := L.same _ _ rfl rfl rfl rfl
      exact L.trans _ _ _ hmark (L.trans _ _ _ (L.endOps ..) (L.trans _ _ _ (L.abortSluicesOf ..)
        (L.foldl (fun _ _ => L.abortSluice ..) _ _)))

theorem decide (s : State) (id st d : Nat) : R s (s.decide id st d) := by
  unfold State.decide
  split
  · exact L.refl s
  · next o ho =>
    split
    · exact L.refl s
    · have h : R s (if (st = Status.success || o.sluice = 0) = true then s.endOp id st d
          else (s.endOp id st d).abortSluice o.sluice (reasonOf st) 0xFFFF) := by
        split
        · exact L.endOp ..
        · exact L.trans _ _ _ (L.endOp ..) (L.abortSluice ..)
      dsimp only
      split
      · exact L.trans _ _ _ h (L.markLost ..)
      · exact h

theorem takeRemote (s : State) (k : Nat) (x : RedHeld) : R s (s.takeRemote k x) := by
  unfold State.takeRemote
  dsimp only
  split
  · exact L.same _ _ rfl rfl rfl rfl
  · split
    · exact L.same _ _ rfl rfl rfl rfl
    · split
      · split
        · exact L.refl s
        · split <;> exact L.same _ _ rfl rfl rfl rfl
      · split
        · exact L.same _ _ rfl rfl rfl rfl
        · exact L.decide ..

theorem compareCrcs (s : State) (k : Nat) : R s (s.compareCrcs k) := by
  unfold State.compareCrcs
  split
  · exact L.refl s
  · split
    · exact L.refl s
    · split
      · exact L.decide ..
      · exact L.refl s

theorem takeHeld (s : State) (k f gid : Nat) : R s (s.takeHeld k f gid) := by
  unfold State.takeHeld
  refine L.trans _ _ _ ?_ (L.foldl (fun _ _ => L.takeRemote ..) _ _)
  exact L.same _ _ rfl rfl rfl rfl

variable (hstart : ∀ s id, R s (State.start s id))
include hstart

theorem startRed (s : State) (id : Nat) (o : Op) (k : Nat) (g : RedGroup) : R s (s.startRed id o k g) := by
  unfold State.startRed
  split
  · exact L.decide ..
  · refine L.trans _ _ _ ?_ (L.trans _ _ _ (L.compareCrcs ..) (L.takeHeld ..))
    have hrun (f : RedGroup → RedGroup) : R s ((s.start id).modGroup k f) :=
      L.trans _ _ _ (hstart ..) (L.same _ _ rfl rfl rfl rfl)
    dsimp only
    split <;> split
    · exact L.trans _ _ _ (L.trans _ _ _ (hrun _) (L.sends ..)) (L.sends ..)
    · exact L.trans _ _ _ (hrun _) (L.sends ..)
    · exact L.trans _ _ _ (hrun _) (L.sends ..)
    · exact hrun _

theorem launch (s : State) (id : Nat) : R s (s.launch id) := by
  unfold State.launch
  split
  · exact L.refl s
  · split
    · split
      · exact L.startRed hstart ..
      · exact L.decide ..
    · exact hstart ..

theorem activate (s : State) (e n : Nat) : R s (s.activate e n) := by
  induction n generalizing s with
  | zero => exact L.refl s
  | succ n ih =>
    rw [State.activate]
    split
    · exact L.refl s
    · exact L.trans _ _ _ (L.launch hstart ..) (ih _)

end Lifts

theorem lifts_recedes : Lifts Recedes :=
  ⟨fun _ _ _ h k => h.trans k, fun _ _ _ ho hf _ => .of_eq ho (by rw [hf]), recedes_endOp⟩

/-- No subscription of that number waits for the operation. -/
def State.pushless (s : State) (i id : Nat) : Prop := ∀ p ∈ s.fab.pushIn, p.1 = i → ∀ w ∈ p.2.waiting, w.1 ≠ id

theorem Recedes.pushless {s t : State} (h : Recedes s t) {i id : Nat} (hs : s.pushless i id) : t.pushless i id := by
  intro p hp hi w hw
  obtain ⟨q, hq, hqp, hsub⟩ := h.subs p hp
  exact hs q hq (hqp.trans hi) w (hsub hw)

theorem State.pushless.of_at? {s : State} {i id : Nat} (h : s.pushless i id) {y : PushIn} (hy : s.fab.pushIn.at? i = some y) :
    ∀ v ∈ y.waiting, v.1 ≠ id := h _ (Tab.mem_of_at? hy) rfl

/-- An operation that ends leaves every subscription that waited for it. -/
theorem State.endOp_pushless {s : State} {id : Nat} {o : Op} (i st d : Nat) (ho : s.op? id = some o) (hl : o.phase ≠ .ended) :
    (s.endOp id st d).pushless i id := by
  rw [State.endOp_eq _ _ ho hl]
  intro p hp _ w hw
  obtain ⟨q, -, -, hf⟩ := State.mem_dropRun hp
  have hmem : w ∈ (q.2.forget id).waiting := hf ▸ hw
  simpa using (List.mem_filter.1 hmem).2

theorem Tab.at?_ne_none_of_mem {α : Type} {t : Tab α} {k : Nat} {v : α} (h : (k, v) ∈ t) : t.at? k ≠ none := by
  induction t with
  | nil => cases h
  | cons p t ih =>
    obtain ⟨a, w⟩ := p
    rw [Tab.at?_cons]
    split
    · exact fun h => nomatch h
    · next hne =>
      rcases List.mem_cons.1 h with he | he
      · exact absurd (Prod.ext_iff.1 he).1.symm hne
      · exact ih he

/-- A subscription that is gone stays gone. -/
theorem Recedes.at?_none {s t : State} (h : Recedes s t) {i : Nat} (hi : s.fab.pushIn.at? i = none) :
    t.fab.pushIn.at? i = none := by
  rcases ht : t.fab.pushIn.at? i with _ | y
  · rfl
  · obtain ⟨q, hq, hqp, -⟩ := h.subs _ (Tab.mem_of_at? ht)
    exact absurd hi (Tab.at?_ne_none_of_mem (v := q.2) ((Prod.ext hqp rfl : q = (i, q.2)) ▸ hq))

end Sys2Proof.Machine
end

section
/-! Meres, windows and push subscriptions (18_meres): requests and window accesses served for other devices, memberships,
windows, and what a subscription does. -/

namespace Sys2Proof.Machine

/-! ### Writes that land -/

/-- A step that changes memory alone, and no byte of SRAM. -/
structure Lands (s t : State) : Prop where
  eq : ∃ m, t = { s with mem := m }
  sram : t.mem.sram = s.mem.sram

@[refl] theorem Lands.refl (s : State) : Lands s s := ⟨⟨s.mem, rfl⟩, rfl⟩

theorem Lands.trans {s t u : State} (h : Lands s t) (k : Lands t u) : Lands s u := by
  obtain ⟨⟨m, rfl⟩, hs⟩ := h
  obtain ⟨⟨m', rfl⟩, hs'⟩ := k
  exact ⟨⟨m', rfl⟩, hs'.trans hs⟩

theorem Lands.foldl {β : Type} {g : State → β → State} (hg : ∀ s b, Lands s (g s b)) (l : List β) (s : State) :
    Lands s (l.foldl g s) := by
  induction l generalizing s with
  | nil => exact .refl s
  | cons b l ih => exact (hg s b).trans (ih _)

theorem Lands.work {s t : State} (h : Lands s t) : t.work = s.work := by obtain ⟨⟨m, rfl⟩, -⟩ := h; rfl
theorem Lands.fab {s t : State} (h : Lands s t) : t.fab = s.fab := by obtain ⟨⟨m, rfl⟩, -⟩ := h; rfl

theorem LoftTouched.lands {s t : State} (h : LoftTouched s t) : Lands s t := by
  obtain ⟨⟨l, c, ps, rfl⟩, -⟩ := h
  exact ⟨⟨_, rfl⟩, rfl⟩

theorem lands_putGranule (s : State) (off : Nat) (bytes : List Byte) : Lands s (s.putGranule off bytes) := by
  unfold State.putGranule
  split
  · rfl
  · split
    · rfl
    · dsimp only
      split
      · rfl
      · exact ⟨⟨_, rfl⟩, rfl⟩

theorem lands_logDirty (s : State) (off n : Nat) : Lands s (s.logDirty off n) := by
  unfold State.logDirty
  split
  · rfl
  · split
    · rfl
    · split
      · rfl
      · refine Lands.foldl (fun s pg => ?_) _ _
        split
        · rfl
        · exact ⟨⟨_, rfl⟩, rfl⟩

/-- A write lands, and what it conflicts with is aborted (R262). -/
theorem State.landWrite_cases (s : State) (slu off : Nat) (bytes : List Byte) :
    s.landWrite slu off bytes = s ∨ ∃ u, Lands s u ∧ s.landWrite slu off bytes = u.conflicts slu off bytes.length := by
  unfold State.landWrite
  split
  · exact .inl rfl
  · refine .inr ⟨_, ?_, rfl⟩
    refine Lands.trans ?_ (loftTouched_noteMoving ..).lands
    refine Lands.trans ?_ (lands_logDirty ..)
    refine Lands.trans ?_ (Lands.foldl (fun _ _ => lands_putGranule ..) _ _)
    exact ⟨⟨_, rfl⟩, rfl⟩

theorem State.landWrite_sram (s : State) (slu off : Nat) (bytes : List Byte) :
    (s.landWrite slu off bytes).mem.sram = s.mem.sram := by
  rcases s.landWrite_cases slu off bytes with h | ⟨u, hu, h⟩
  · rw [h]
  · rw [h, (apart_conflicts ..).mem, hu.sram]

/-- With no sluice a write that lands changes memory alone. -/
theorem State.lands_landWrite {s : State} (slu off : Nat) (bytes : List Byte) (hs : s.work.sluices = []) :
    Lands s (s.landWrite slu off bytes) := by
  rcases s.landWrite_cases slu off bytes with h | ⟨u, hu, h⟩
  · rw [h]
  · have hno : u.conflicts slu off bytes.length = u := by
      rw [State.conflicts, hu.work, hs]
      rfl
    rw [h, hno]
    exact hu

/-- Ending work touches no membership of a mere. -/
theorem lifts_meres : Lifts (fun s t => t.fab.meres = s.fab.meres) := by
  refine ⟨fun _ _ _ h k => k.trans h, fun _ _ _ _ hf _ => by rw [hf], fun s id st d => ?_⟩
  rcases ho : s.op? id with _ | o
  · rw [State.endOp_of_none _ _ ho]
  · by_cases hl : o.phase = .ended
    · rw [State.endOp_of_ended _ _ ho hl]
    · rw [State.endOp_eq _ _ ho hl]
      split
      · rfl
      · obtain ⟨l, h⟩ := s.redCancels_eq id
        rw [h]
        rfl

theorem State.landWrite_meres (s : State) (slu off : Nat) (bytes : List Byte) :
    (s.landWrite slu off bytes).fab.meres = s.fab.meres := by
  rcases s.landWrite_cases slu off bytes with h | ⟨u, hu, h⟩
  · rw [h]
  · rw [h, ← hu.fab]
    exact lifts_meres.foldl (fun s (p : Nat × Sluice) => lifts_meres.abortSluice s p.1 Reason.conflict 0xFFFF) _ u

theorem LoftTouched.hbm {s t : State} (h : LoftTouched s t) : t.mem.hbm = s.mem.hbm := by
  obtain ⟨⟨l, c, ps, rfl⟩, -⟩ := h
  rfl

/-! ### Requests of other devices (R414) -/

/-- The message that answers an access. -/
def replyMsg (kind : FabKind) (dst tag mere sub : Nat) (args : List Nat) (data : List Byte) : FabMsg :=
  { kind := kind, dst := dst, mere := mere, id := tag, args := args, data := data, sub := sub }

theorem State.answer_ok (s t : State) (src tag mere sub : Nat) (bytes : List Byte) (p : Bool) :
    s.answer src tag mere sub (.ok t bytes p) = t.sendOn (replyMsg .reply src tag mere 0 [b2n p] bytes) sub := rfl

theorem State.answer_refused (s t : State) (src tag mere sub : Nat) :
    s.answer src tag mere sub (.refused t) = t.sendOn (replyMsg .refusal src tag mere 0 [] []) sub := rfl

theorem State.sendOn_sent (s : State) (m : FabMsg) (sub : Nat) :
    (s.sendOn m sub).work.sent = s.work.sent ++ [{ m with sub := sub }] := rfl

/-- What a request of a joined mere comes to. -/
def State.served (s : State) (src mere kind off len slu : Nat) (data : List Byte) : Served :=
  if s.mereOwns mere off (if kind = 0 then len else data.length) = false then .refused s
  else if kind = 0 then s.serveRead (s.keyEntry mere slu) off len
  else if slu ≠ 0 then s.serveStaged mere slu src len kind off data
  else s.serveWrite kind off data

theorem State.served_owned {s : State} {src mere kind off len slu : Nat} {data : List Byte}
    (ho : s.mereOwns mere off (if kind = 0 then len else data.length) = true) : s.served src mere kind off len slu data
      = if kind = 0 then s.serveRead (s.keyEntry mere slu) off len
        else if slu ≠ 0 then s.serveStaged mere slu src len kind off data else s.serveWrite kind off data :=
  if_neg (by rw [ho]; decide)

theorem exec_remoteRequest (src tag mere kind off len slu : Nat) (data : List Byte) (sub : Nat) (s : State) :
    exec (.remoteRequest src tag mere kind off len slu data sub) s = execRemoteRequest src tag mere kind off len slu data sub s :=
  rfl

theorem execRemoteRequest_unstages {s : State} (src tag mere off len slu : Nat) (data : List Byte) (sub : Nat)
    (hj : s.fab.join = .joined) :
    execRemoteRequest src tag mere 3 off len slu data sub s = .next (s.unstageFor mere slu src len) := by
  unfold execRemoteRequest
  rw [hj]
  rfl

theorem execRemoteRequest_served {s : State} (src tag mere kind off len slu : Nat) (data : List Byte) (sub : Nat)
    (hj : s.fab.join = .joined) (hk : kind ≠ 3) (h0 : 0 < (if kind = 0 then len else data.length))
    (hn : (if kind = 0 then len else data.length) ≤ 65536) :
    execRemoteRequest src tag mere kind off len slu data sub s
      = .next (s.answer src tag mere sub (s.served src mere kind off len slu data)) := by
  have hsize : ((if kind = 0 then len else data.length) = 0 || 65536 < (if kind = 0 then len else data.length)) = false := by
    simp only [Bool.or_eq_false_iff, decide_eq_false_iff_not]
    exact ⟨Nat.pos_iff_ne_zero.1 h0, Nat.not_lt.2 hn⟩
  unfold execRemoteRequest State.served
  dsimp only
  rw [if_neg (by rw [hj]; decide), if_neg hk, hsize, if_neg Bool.false_ne_true]
  simp only [Bool.not_eq_true']
  by_cases ho : s.mereOwns mere off (if kind = 0 then len else data.length) = false
  · rw [if_pos ho, if_pos ho]
  · rw [if_neg ho, if_neg ho]
    by_cases h : kind = 0
    · rw [if_pos h, if_pos h, if_pos h]
    · rw [if_neg h, if_neg h]
      split <;> rfl

/-- A state whose lines a write of another device has touched. -/
def State.touched (s t : State) (off n : Nat) : State :=
  t.loftTouchRange off n .evictFirst (s.mem.remoteMask.get 0 (((s.plotOf off).map (·.die)).getD 0)) true

theorem loftTouched_touched (s t : State) (off n : Nat) : LoftTouched t (s.touched t off n) := loftTouched_loftTouchRange ..

theorem State.serveWrite_write {s : State} {off : Nat} {data : List Byte} (hs : s.stalls 0 off data.length true = false) :
    s.serveWrite 1 off data = .ok (s.touched (s.landWrite 0 off data) off data.length) [] false := by
  unfold State.serveWrite
  rw [hs]
  rfl

theorem State.serveWrite_max {s : State} {off : Nat} {data : List Byte} (hs : s.stalls 0 off data.length true = false)
    (hp : s.poisonIn off data.length = false) : s.serveWrite 2 off data = .ok (s.touched
      (s.landWrite 0 off (leBytes 4 (max (leNat (s.readPub off 4)) (leNat data)))) off data.length) [] false := by
  unfold State.serveWrite
  rw [hs, hp]
  rfl

/-- Requests of other devices are served at their home. -/
theorem remoteRequest_takesEffect (s : State) (src tag mere kind off len slu : Nat) (data : List Byte) (sub : Nat) :
    let n := if kind = 0 then len else data.length
    let e := s.keyEntry mere slu
    let run := exec (.remoteRequest src tag mere kind off len slu data sub) s
    let refused := s.work.sent ++ [replyMsg .refusal src tag mere sub [] []]
    s.fab.join = .joined → (kind = 3 → ∀ e, s.work.sluices.at? (s.stagingEntry mere slu) = some e → ∃ (t : State) (e' : Sluice),
      run = .next t ∧ t.mem = s.mem ∧ t.work.sluices.at? (s.stagingEntry mere slu) = some e'
        ∧ e'.staged = e.staged.filter (fun a => !(a.dev = src && a.op = len)))
    ∧ (kind ≠ 3 → 0 < n → n ≤ 65536 →
    (s.mereOwns mere off n = false → ∃ t : State, run = .next t ∧ t.work.sent = refused ∧ t.mem = s.mem ∧ t.work.ops = s.work.ops)
    ∧ (s.mereOwns mere off n = true → kind = 0 → s.stalls e off n false = false →
        ∃ t : State, run = .next t ∧ t.mem = s.mem
          ∧ t.work.sent = s.work.sent ++ [replyMsg .reply src tag mere sub [b2n (s.poisonFor e off len)] (s.readLocal e off len)]
          ∧ (slu = 0 → e = 0) ∧ (s.work.sluices.at? e = none →
              s.readLocal e off len = s.readPub off len ∧ s.poisonFor e off len = s.poisonIn off len))
    ∧ (s.mereOwns mere off n = true → kind = 1 → slu = 0 → s.stalls 0 off n true = false →
        ∃ t : State, run = .next t ∧ t.mem.hbm = (s.landWrite 0 off data).mem.hbm ∧ t.mem.sram = s.mem.sram
          ∧ t.work.sent = (s.landWrite 0 off data).work.sent ++ [replyMsg .reply src tag mere sub [0] []])
    ∧ (s.mereOwns mere off n = true → kind = 2 → slu = 0 → s.stalls 0 off n true = false → s.poisonIn off n = false →
        ∃ t : State, run = .next t
          ∧ t.mem.hbm = (s.landWrite 0 off (leBytes 4 (max (leNat (s.readPub off 4)) (leNat data)))).mem.hbm)
    ∧ (s.mereOwns mere off n = true → kind = 1 → slu ≠ 0 → s.stagingEntry mere slu = 0 →
        ∃ t : State, run = .next t ∧ t.mem = s.mem ∧ t.work.sent = refused)) := by
  intro n e run refused hj
  have hrun : run = execRemoteRequest src tag mere kind off len slu data sub s := rfl
  refine ⟨fun hk e he => ?_, fun hk h0 hn => ?_⟩
  · subst hk
    refine ⟨_, e.keep (fun a => !(a.dev = src && a.op = len)),
      hrun.trans (execRemoteRequest_unstages src tag mere off len slu data sub hj), rfl, ?_, rfl⟩
    rw [State.unstageFor, State.modSluice_at?_self, he]
    rfl
  · rw [hrun, execRemoteRequest_served src tag mere kind off len slu data sub hj hk h0 hn]
    refine ⟨fun ho => ?_, fun ho h => ?_, fun ho h hslu hs => ?_, fun ho h hslu hs hp => ?_, fun ho h hslu hst => ?_⟩
    · have hserved : s.served src mere kind off len slu data = .refused s := if_pos ho
      rw [hserved]
      exact ⟨_, rfl, rfl, rfl, rfl⟩
    · subst h
      have hserved : s.served src mere 0 off len slu data = s.serveRead e off len := State.served_owned ho
      intro hs
      have hread : s.serveRead e off len = .ok s (s.readLocal e off len) (s.poisonFor e off len) :=
        if_neg (by rw [show s.stalls e off len false = false from hs]; decide)
      rw [hserved, hread]
      refine ⟨_, rfl, rfl, rfl, fun h0 => if_pos h0, fun hnone => ?_⟩
      rw [State.readLocal, State.poisonFor, hnone]
      exact ⟨rfl, rfl⟩
    · subst h hslu
      have hserved : s.served src mere 1 off len 0 data = s.serveWrite 1 off data := State.served_owned ho
      have ht := loftTouched_touched s (s.landWrite 0 off data) off data.length
      rw [hserved, State.serveWrite_write hs, State.answer_ok]
      refine ⟨_, rfl, ht.hbm, ht.lands.sram.trans (State.landWrite_sram ..), ?_⟩
      rw [State.sendOn_sent, ht.lands.work]
      rfl
    · subst h hslu
      have hserved : s.served src mere 2 off len 0 data = s.serveWrite 2 off data := State.served_owned ho
      rw [hserved, State.serveWrite_max hs hp, State.answer_ok]
      exact ⟨_, rfl, (loftTouched_touched ..).hbm⟩
    · subst h
      have hserved : s.served src mere 1 off len slu data = .refused s := by
        rw [State.served_owned ho, if_neg (by decide), if_pos hslu, State.serveStaged]
        exact if_pos hst
      rw [hserved]
      exact ⟨_, rfl, rfl, rfl⟩

end Sys2Proof.Machine
end

section
/-! Accesses through windows (R417), memberships of meres (R487 to R489) and the window table (R498, R499). -/

namespace Sys2Proof.Machine

/-! ### Accesses through a window -/

theorem exec_windowAccess (src tag mere idx kind off : Nat) (data host : List Byte) (poison : Bool) (sub : Nat) (s : State) :
    exec (.windowAccess src tag mere idx kind off data host poison sub) s
      = execWindowAccess src tag mere idx kind off data host poison sub s := rfl

/-- Whether a window bars an access of `n` bytes. -/
def Window.bars (w : Window) (src mere kind off n : Nat) : Bool :=
  n = 0 || w.clearing ≠ 0 || w.pages * 65536 < off + n || (w.req ≠ 0xFFFF && w.req ≠ src) || w.mere = 0
    || w.mere ≠ mere || (if decide (kind ≠ 0) then w.wr else w.rd) = false

theorem Window.bars_of {w : Window} {src mere off n : Nat} (kind : Nat)
    (h : (w.req ≠ 0xFFFF ∧ w.req ≠ src) ∨ w.mere ≠ mere ∨ w.pages * 65536 < off + n ∨ w.clearing ≠ 0) :
    w.bars src mere kind off n = true := by
  unfold Window.bars
  simp only [Bool.or_eq_true, Bool.and_eq_true, decide_eq_true_eq]
  rcases h with h | h | h | h
  · exact .inl (.inl (.inl (.inr h)))
  · exact .inl (.inr h)
  · exact .inl (.inl (.inl (.inl (.inr h))))
  · exact .inl (.inl (.inl (.inl (.inl (.inr h)))))

theorem Window.bars_eq_false {w : Window} {src mere kind off n : Nat} (h0 : 0 < n) (hc : w.clearing = 0)
    (hp : off + n ≤ w.pages * 65536) (hr : w.req = 0xFFFF ∨ w.req = src) (hm : w.mere = mere) (hm0 : mere ≠ 0)
    (hk : (if decide (kind ≠ 0) then w.wr else w.rd) = true) : w.bars src mere kind off n = false := by
  unfold Window.bars
  simp only [Bool.or_eq_false_iff, Bool.and_eq_false_iff, decide_eq_false_iff_not, not_not]
  refine ⟨⟨⟨⟨⟨⟨Nat.pos_iff_ne_zero.1 h0, hc⟩, Nat.not_lt.2 hp⟩, hr⟩, by rw [hm]; exact hm0⟩, hm⟩, ?_⟩
  rw [hk]
  decide

section
variable {s : State} {src tag mere idx kind off sub : Nat} {data host : List Byte} {poison : Bool} {w : Window}

theorem execWindowAccess_unknown (hw : s.xlat.windows.at? idx = none) :
    execWindowAccess src tag mere idx kind off data host poison sub s = .next (s.answer src tag mere sub (.refused s)) := by
  unfold execWindowAccess
  rw [hw]

theorem execWindowAccess_barred (hw : s.xlat.windows.at? idx = some w) (hb : w.bars src mere kind off data.length = true) :
    execWindowAccess src tag mere idx kind off data host poison sub s = .next (s.answer src tag mere sub (.refused s)) := by
  unfold execWindowAccess
  rw [hw]
  exact if_pos hb

/-- An admitted access to a window on the host range. -/
theorem execWindowAccess_host (hw : s.xlat.windows.at? idx = some w) (hb : w.bars src mere kind off data.length = false)
    (hbase : 0xC000000000 ≤ w.base) (hk : kind = 0 ∨ kind = 1) :
    execWindowAccess src tag mere idx kind off data host poison sub s = .next (s.answer src tag mere sub
      (if kind = 0 then .ok s (host.take data.length) poison
        else .ok (s.writeHostData 0 (w.base + off - 0x40000000000) data) [] false)) := by
  unfold execWindowAccess
  rw [hw]
  refine (if_neg (Bool.eq_false_iff.1 hb)).trans ((if_neg (Nat.not_lt.2 hbase)).trans ?_)
  rcases hk with rfl | rfl
  · rfl
  · rfl

/-- An admitted read of a window on placed local memory. -/
theorem execWindowAccess_local (hw : s.xlat.windows.at? idx = some w) (hb : w.bars src mere 0 off data.length = false)
    (hbase : w.base < 0xC000000000) (h1 : (s.plotOf (w.base + off)).isSome = true)
    (h2 : (s.plotOf (w.base + off + data.length - 1)).isSome = true) :
    execWindowAccess src tag mere idx 0 off data host poison sub s
      = .next (s.answer src tag mere sub (s.serveRead 0 (w.base + off) data.length)) := by
  have hplaced : [w.base + off, w.base + off + data.length - 1].any (fun o => (s.plotOf o).isNone) = false := by
    simp only [List.any_cons, List.any_nil, Bool.or_false, Bool.or_eq_false_iff]
    exact ⟨by rw [← Option.not_isSome, h1]; rfl, by rw [← Option.not_isSome, h2]; rfl⟩
  unfold execWindowAccess
  rw [hw]
  exact (if_neg (Bool.eq_false_iff.1 hb)).trans ((if_pos hbase).trans (if_neg (Bool.eq_false_iff.1 hplaced)))

end

theorem State.serveRead_pub {s : State} {off n : Nat} (h0 : s.work.sluices.at? 0 = none) (hs : s.stalls 0 off n false = false) :
    s.serveRead 0 off n = .ok s (s.readPub off n) (s.poisonIn off n) := by
  rw [State.serveRead, hs, if_neg (by decide), State.readLocal, State.poisonFor, h0]

/-! ### Memberships of meres -/

theorem exec_mereBind (op : Nat) (s : State) : exec (.mereBind op) s = execMereBind op s := rfl
theorem exec_mereUnbind (op : Nat) (s : State) : exec (.mereUnbind op) s = execMereUnbind op s := rfl

theorem execMereBind_unjoined {s : State} {op : Nat} {o : Op} (ho : s.go? op 0xA0 = some o) (hj : s.fab.join ≠ .joined) :
    execMereBind op s = .next (s.decide op Status.notJoined 0) := by
  unfold execMereBind
  rw [ho]
  dsimp only
  split <;> exact if_pos hj

/-- The device map of a mere copied into its slot of the mere area, where that is placed. -/
def State.withMap (s : State) (at_ : Nat) (bytes : List Byte) : State :=
  if s.freePlot at_ then s.landWrite 0 at_ bytes else s

/-- A mere handle bound. -/
def State.withMere (s : State) (mere : Nat) (m : Membership) : State :=
  { s with fab := { s.fab with meres := s.fab.meres.set mere m } }

/-- A mere handle unbound. -/
def State.withoutMere (s : State) (mere : Nat) : State := { s with fab := { s.fab with meres := s.fab.meres.erase mere } }

theorem execMereBind_binds {s : State} {op area slot : Nat} {o : Op} (ho : s.go? op 0xA0 = some o) (hj : s.fab.join = .joined)
    (hp : (s.mem.ponds.at? (fld o.desc 0x24 0 9)).isSome = true) (ha : s.mereArea = some area)
    (hf : s.freePlot (fld o.desc 0x28 0 43) = true) (hr : s.stalls 0 (fld o.desc 0x28 0 43) 4096 false = false)
    (hw : s.stalls 0 (area + 4096 * slot) 4096 true = false) (hpo : s.poisonIn (fld o.desc 0x28 0 43) 4096 = false)
    (hm0 : fld o.desc 0x20 0 32 ≠ 0) (hnew : s.fab.meres.at? (fld o.desc 0x20 0 32) = none)
    (hd : s.fab.devId ∈ maskBits 32768 (leNat (s.readPub (fld o.desc 0x28 0 43) 4096)))
    (hslot : (List.range 256).find? (fun i => !(s.fab.meres.map (·.2.slot)).contains i) = some slot) :
    execMereBind op s = .next (((s.withMap (area + 4096 * slot) (s.readPub (fld o.desc 0x28 0 43) 4096)).withMere
      (fld o.desc 0x20 0 32) { pond := fld o.desc 0x24 0 9, slot := slot
                               map := maskBits 32768 (leNat (s.readPub (fld o.desc 0x28 0 43) 4096)) }).succeed op) := by
  have hpond : ¬ (s.mem.ponds.at? (fld o.desc 0x24 0 9)).isNone = true := by rw [← Option.not_isSome, hp]; decide
  have hgood : ¬ (fld o.desc 0x20 0 32 = 0 || (s.fab.meres.at? (fld o.desc 0x20 0 32)).isSome
      || !(maskBits 32768 (leNat (s.readPub (fld o.desc 0x28 0 43) 4096))).contains s.fab.devId) = true := by
    rw [hnew, List.contains_iff_mem.2 hd]
    simpa using hm0
  unfold execMereBind
  rw [ho]
  dsimp only
  rw [ha]
  dsimp only
  rw [if_neg (not_not.2 hj), if_neg hpond, hf, hr, hpo, hslot, if_neg (by decide), if_neg (by decide), if_neg (by decide),
    if_neg hgood]
  exact if_neg (by rw [hw, Bool.and_false]; decide)

theorem execMereUnbind_unbinds {s : State} {op : Nat} {o : Op} {m : Membership} (ho : s.go? op 0xA1 = some o)
    (hm : s.fab.meres.at? (fld o.desc 0x20 0 32) = some m)
    (h1 : s.work.sluices.any (fun p => p.2.mere = fld o.desc 0x20 0 32) = false)
    (h2 : s.eng.groups.any (fun p => p.2.mere = fld o.desc 0x20 0 32) = false)
    (h3 : s.fab.pushIn.any (fun p => p.2.mere = fld o.desc 0x20 0 32) = false)
    (h4 : s.fab.pushOut.any (fun p => p.mere = fld o.desc 0x20 0 32) = false)
    (h5 : s.work.ops.any (fun p => s.carries (fld o.desc 0x20 0 32) m.pond p.2) = false) :
    execMereUnbind op s = .next ((s.withoutMere (fld o.desc 0x20 0 32)).succeed op) := by
  unfold execMereUnbind
  rw [ho]
  dsimp only
  rw [hm]
  dsimp only
  rw [h1, h2, h3, h4, h5]
  rfl

/-! ### The window table -/

theorem exec_windowSet (op : Nat) (s : State) : exec (.windowSet op) s = execWindowSet op s := rfl
theorem exec_windowClear (op : Nat) (s : State) : exec (.windowClear op) s = execWindowClear op s := rfl
theorem exec_windowClearDone (idx : Nat) (s : State) : exec (.windowClearDone idx) s = execWindowClearDone idx s := rfl

/-- A state with another window table. -/
def State.withWindows (s : State) (t : Tab Window) : State := { s with xlat := { s.xlat with windows := t } }

theorem execWindowSet_bad {s : State} {op : Nat} {o : Op} (ho : s.go? op 0xA2 = some o)
    (hw : s.parseWindow (fld o.desc 0x40 0 256) = none) : execWindowSet op s = .next (s.decide op Status.badWindow 0) := by
  unfold execWindowSet
  rw [ho]
  dsimp only
  rw [hw]

theorem execWindowSet_sets {s : State} {op i : Nat} {o : Op} {w : Window} (ho : s.go? op 0xA2 = some o)
    (hw : s.parseWindow (fld o.desc 0x40 0 256) = some w)
    (hi : if fld o.desc 0x20 12 1 = 1 then (List.range 4096).find? (fun i => (s.xlat.windows.at? i).isNone) = some i
      else i = fld o.desc 0x20 0 12) :
    execWindowSet op s = .next ((s.withWindows (s.xlat.windows.set i w)).decide op Status.success i) := by
  have hidx : (if fld o.desc 0x20 12 1 = 1 then (List.range 4096).find? (fun i => (s.xlat.windows.at? i).isNone)
      else some (fld o.desc 0x20 0 12)) = some i := by
    by_cases h : fld o.desc 0x20 12 1 = 1
    · rw [if_pos h] at hi ⊢
      exact hi
    · rw [if_neg h] at hi ⊢
      rw [hi]
  unfold execWindowSet
  rw [ho]
  dsimp only
  rw [hw]
  dsimp only
  rw [hidx]
  rfl

theorem execWindowClear_clears {s : State} {op : Nat} {o : Op} {w : Window} (ho : s.go? op 0xA3 = some o)
    (hw : s.xlat.windows.at? (fld o.desc 0x20 0 12) = some w) (hc : w.clearing = 0) :
    execWindowClear op s = .next (((s.withWindows (s.xlat.windows.set (fld o.desc 0x20 0 12) { w with clearing := op })).enqueue
      op).start op) := by
  unfold execWindowClear
  rw [ho]
  dsimp only
  rw [hw]
  exact if_neg (not_not.2 hc)

theorem execWindowClearDone_clears {s : State} {idx : Nat} {w : Window} (hw : s.xlat.windows.at? idx = some w)
    (hc : w.clearing ≠ 0) :
    execWindowClearDone idx s = .next ((s.withWindows (s.xlat.windows.erase idx)).succeed w.clearing) := by
  unfold execWindowClearDone
  rw [hw]
  exact if_neg hc

/-- Success with a detail is an end alone. -/
theorem State.decide_success {s : State} {id : Nat} {o : Op} (d : Nat) (ho : s.op? id = some o) (hl : o.phase ≠ .ended) :
    s.decide id Status.success d = s.endOp id Status.success d := by
  rw [State.decide, ho]
  simp [hl, Status.success, losesContext, Status.translationFault, Status.memoryError, Status.hostAccessError]

theorem State.enqueue_start_phase {s : State} {op : Nat} {o : Op} (ho : s.op? op = some o) :
    (((s.enqueue op).start op).op? op).map (·.phase) = some .running := by
  rw [State.start_op?_self, State.enqueue, State.modOp_op?_self, ho]
  rfl

end Sys2Proof.Machine
end

section
/-! What a push subscription does (R221, R500 to R504), and O45. -/

namespace Sys2Proof.Machine

/-! ### Subscribing -/

theorem exec_pushSubscribe (op r : Nat) (s : State) : exec (.pushSubscribe op r) s = execPushSubscribe op r s := rfl
theorem exec_pushCancel (op : Nat) (r : Bool) (s : State) : exec (.pushCancel op r) s = execPushCancel op r s := rfl
theorem exec_pushSubscribeAtProducer (src mere num off dst len : Nat) (cancel : Bool) (sub : Nat) (s : State) :
    exec (.pushSubscribeAtProducer src mere num off dst len cancel sub) s
      = execPushSubscribeAtProducer src mere num off dst len cancel sub s := rfl
theorem exec_pushWriteLand (num off : Nat) (data : List Byte) (slu : Nat) (s : State) :
    exec (.pushWriteLand num off data slu) s = execPushWriteLand num off data slu s := rfl
theorem exec_pushTimeout (op : Nat) (s : State) : exec (.pushTimeout op) s = execPushTimeout op s := rfl

/-- A state with other push subscriptions of its own. -/
def State.withPushes (s : State) (t : Tab PushIn) : State := { s with fab := { s.fab with pushIn := t } }

/-- The subscription a PUSH_SUBSCRIBE asks for. -/
def State.asked (s : State) (op : Nat) (o : Op) (dev src dst : Nat) : PushIn where
  fn := o.fn
  dev := dev
  mere := (s.mereFor o.pond dev).getD 0
  srcVa := fld o.desc 0x20 0 55
  landVa := fld o.desc 0x28 0 55
  src := src
  dst := dst
  len := fld o.desc 0x30 0 32
  timeoutUs := fld o.desc 0x34 0 32
  op := op
  waiting := []

/-- The message that asks the producer for a subscription. -/
def PushIn.request (x : PushIn) (i : Nat) : FabMsg :=
  { kind := .pushSubscribe, dst := x.dev, mere := x.mere, id := i, args := [x.src, x.dst, x.len], data := [] }

theorem State.send_sent (s : State) (m : FabMsg) : ∃ sub, (s.send m).work.sent = s.work.sent ++ [{ m with sub := sub }] :=
  ⟨_, rfl⟩

theorem execPushSubscribe_unjoined {s : State} {op r : Nat} {o : Op} (ho : s.go? op 0xA4 = some o) (hj : s.fab.join ≠ .joined) :
    execPushSubscribe op r s = .next (s.decide op Status.notJoined 0) := by
  unfold execPushSubscribe
  rw [ho]
  exact if_pos hj

theorem execPushSubscribe_asks {s : State} {op r i dev src dst : Nat} {o : Op} (ho : s.go? op 0xA4 = some o)
    (hj : s.fab.join = .joined) (hc : s.checkSubscription o = .ok (dev, src, dst)) (hp : s.pathTo o.pond dev ≠ .refused)
    (hi : (List.range 256).find? (fun i => (s.fab.pushIn.at? i).isNone) = some i) :
    execPushSubscribe op r s = .next ((((s.withPushes (s.fab.pushIn.set i (s.asked op o dev src dst))).send
      ((s.asked op o dev src dst).request i)).enqueue op).start op) := by
  unfold execPushSubscribe
  rw [ho]
  dsimp only
  rw [if_neg (not_not.2 hj), hc]
  dsimp only
  rw [if_neg hp, hi]
  rfl

/-- An operation that runs is not one that may start to act. -/
theorem State.go?_of_running {s : State} {op code : Nat} {o : Op} (ho : s.op? op = some o) (hr : o.phase = .running) :
    s.go? op code = none := by
  rcases hg : s.go? op code with _ | x
  · rfl
  · obtain ⟨hx, -⟩ := State.go?_some hg
    have hf := State.phase_of_go? hg
    rw [Option.some.inj (hx.symm.trans ho), hr] at hf
    cases hf

section
variable {s : State} {op i : Nat} {o : Op} {x : PushIn}

theorem execPushSubscribe_recorded (ho : s.op? op = some o) (hc : o.opcode = 0xA4) (hr : o.phase = .running)
    (hf : s.fab.pushIn.find? (fun p => p.2.op = op && op ≠ 0) = some (i, x)) :
    execPushSubscribe op 1 s = .next ((s.withPushes (s.fab.pushIn.modify i (fun x => { x with op := 0 }))).decide op
      Status.success i) := by
  unfold execPushSubscribe
  rw [State.go?_of_running ho hr]
  dsimp only
  rw [ho, hf]
  dsimp only
  rw [hc, hr]
  rfl

theorem execPushSubscribe_refused {r : Nat} (ho : s.op? op = some o) (hc : o.opcode = 0xA4) (hr : o.phase = .running)
    (hf : s.fab.pushIn.find? (fun p => p.2.op = op && op ≠ 0) = some (i, x)) (h2 : r = 2 ∨ r = 3) :
    execPushSubscribe op r s = .next ((s.withPushes (s.fab.pushIn.erase i)).decide op
      (if r = 2 then Status.badSubscription else Status.pushTableFull) 0) := by
  unfold execPushSubscribe
  rw [State.go?_of_running ho hr]
  dsimp only
  rw [ho, hf]
  dsimp only
  rw [hc, hr]
  rcases h2 with rfl | rfl
  · rfl
  · rfl

end

theorem Tab.at?_filterV {α : Type} {t : Tab α} {k : Nat} {v : α} {q : α → Bool} (h : t.at? k = some v) (hq : q v = true) :
    (t.filterV q).at? k = some v := by
  induction t with
  | nil => cases h
  | cons p t ih =>
    obtain ⟨a, w⟩ := p
    rw [Tab.at?_cons] at h
    rw [Tab.filterV]
    by_cases hk : a = k
    · rw [if_pos hk] at h
      cases h
      rw [List.filter_cons_of_pos (p := fun p : Nat × α => q p.2) hq, Tab.at?_cons, if_pos hk]
    · rw [if_neg hk] at h
      by_cases hw : q w = true
      · rw [List.filter_cons_of_pos (p := fun p : Nat × α => q p.2) hw, Tab.at?_cons, if_neg hk]
        exact ih h
      · rw [List.filter_cons_of_neg (p := fun p : Nat × α => q p.2) hw]
        exact ih h

/-- A subscription that neither waits for the operation's producer nor for its copy stays as it is when it succeeds. -/
theorem State.endOp_pushIn {s : State} {id i : Nat} {o : Op} {x : PushIn} (d : Nat) (ho : s.op? id = some o)
    (hl : o.phase ≠ .ended) (hx : s.fab.pushIn.at? i = some x) (hop : x.op ≠ id) (hw : x.waiting = []) :
    (s.endOp id Status.success d).fab.pushIn.at? i = some x := by
  rw [State.endOp_eq _ _ ho hl, if_pos rfl]
  show Tab.at? ((s.fab.pushIn.filterV (fun x => id = 0 || x.op ≠ id)).map (fun p => (p.1, p.2.forget id))) i = some x
  have hkept : (s.fab.pushIn.filterV (fun x => id = 0 || x.op ≠ id)).at? i = some x := Tab.at?_filterV hx (by simp [hop])
  have hforget : x.forget id = x := by
    cases x
    cases hw
    rfl
  rw [Tab.at?_map _ (fun p : Nat × PushIn => (p.1, p.2.forget id)) (fun _ => rfl), hkept, Option.map_some, hforget]

/-! ### Cancelling -/

/-- The message that takes a subscription back from its producer. -/
def PushIn.cancelled (x : PushIn) (i : Nat) : FabMsg :=
  { kind := .pushCancel, dst := x.dev, mere := x.mere, id := i, args := [], data := [] }

theorem execPushCancel_cancels {s : State} {op : Nat} {r : Bool} {o : Op} {x : PushIn} (ho : s.go? op 0xA5 = some o)
    (hx : s.fab.pushIn.at? (fld o.desc 0x20 0 8) = some x) (hf : x.fn = o.fn) (h0 : x.op = 0) (hj : s.fab.join = .joined) :
    execPushCancel op r s = .next ((((s.endPush (fld o.desc 0x20 0 8) 1).send (x.cancelled (fld o.desc 0x20 0 8))).enqueue
      op).start op) := by
  unfold execPushCancel
  rw [ho]
  dsimp only
  rw [hx]
  dsimp only
  rw [if_neg (by simp [hf, h0]), if_neg (not_not.2 hj)]
  rfl

/-- A subscription no copy waits for ends alone. -/
theorem State.endPush_eq {s : State} {i cause : Nat} {x : PushIn} (hx : s.fab.pushIn.at? i = some x) (hw : x.waiting = []) :
    s.endPush i cause = (s.withPushes (s.fab.pushIn.erase i)).post x.fn Event.pushEnded (i + cause * 256) := by
  rw [State.endPush, hx]
  dsimp only
  rw [hw]
  rfl

theorem execPushCancel_done {s : State} {op : Nat} {o : Op} (ho : s.op? op = some o) (hc : o.opcode = 0xA5)
    (hr : o.phase = .running) : execPushCancel op true s = .next (s.succeed op) := by
  unfold execPushCancel
  rw [State.go?_of_running ho hr]
  dsimp only
  rw [ho]
  dsimp only
  rw [hc, hr]
  rfl

/-! ### At the producer -/

/-- A state with other subscriptions of other devices. -/
def State.withSubscribers (s : State) (l : List PushOut) : State := { s with fab := { s.fab with pushOut := l } }

theorem execPushSubscribeAtProducer_cancels {s : State} (src mere num off dst len sub : Nat) (hj : s.fab.join = .joined) :
    execPushSubscribeAtProducer src mere num off dst len true sub s
      = .next ((s.withSubscribers (s.fab.pushOut.filter (fun p => !(p.dev = src && p.num = num)))).sendOn
          (replyMsg .pushReply src num mere 0 [1] []) sub) := by
  unfold execPushSubscribeAtProducer
  dsimp only
  rw [if_neg (not_not.2 hj), if_pos rfl]
  rfl

theorem execPushSubscribeAtProducer_records {s : State} {mere off len : Nat} {m : Membership} (src num dst sub : Nat)
    (hj : s.fab.join = .joined) (hm : s.fab.meres.at? mere = some m) (h0 : 0 < len) (htop : off + len ≤ 0xC000000000)
    (hown : ∀ k, off / 0x20000000 ≤ k → k ≤ (off + len - 1) / 0x20000000 → ∃ p, s.mem.remap.at? k = some p ∧ p.owner = m.pond)
    (hroom : s.fab.pushOut.length < 256) :
    execPushSubscribeAtProducer src mere num off dst len false sub s
      = .next ((s.withSubscribers (s.fab.pushOut ++ [{ dev := src, mere := mere, num := num, src := off, dst := dst, len := len }])).sendOn
          (replyMsg .pushReply src num mere 0 [1] []) sub) := by
  have hall : (List.range ((off + len - 1) / 0x20000000 - off / 0x20000000 + 1)).all (fun i =>
      (s.mem.remap.at? (off / 0x20000000 + i)).any (fun p => p.owner = m.pond)) = true := by
    refine List.all_eq_true.2 fun i hi => ?_
    have hle : off / 0x20000000 ≤ (off + len - 1) / 0x20000000 := Nat.div_le_div_right (by omega)
    obtain ⟨p, hp, ho⟩ := hown (off / 0x20000000 + i) (Nat.le_add_right ..) (by have := List.mem_range.1 hi; omega)
    rw [hp]
    simp [ho]
  unfold execPushSubscribeAtProducer
  dsimp only
  rw [if_neg (not_not.2 hj), if_neg Bool.false_ne_true, hm]
  dsimp only
  refine (if_neg ?_).trans (if_neg (Nat.not_le.2 hroom))
  rw [hall, decide_eq_true h0, decide_eq_true htop]
  decide

/-! ### Writes that land for a subscription -/

/-- A subscription whose waiting copies have seen a range land. -/
def PushIn.seen (x : PushIn) (off n : Nat) : PushIn := { x with waiting := x.waiting.map (fun w => (w.1, w.2 ++ [(off, n)])) }

/-- The state after a push write has landed, before what it completes is ended. -/
def State.pushLanded (s : State) (num off : Nat) (data : List Byte) : State :=
  let u := (s.landWrite 0 off data).loftTouchRange off data.length .alloc (s.maskFor (((s.plotOf off).map (·.owner)).getD 0) off)
    true
  u.withPushes (u.fab.pushIn.modify num (·.seen off data.length))

theorem execPushWriteLand_lands {s : State} {num off : Nat} {data : List Byte} {x : PushIn}
    (hx : s.fab.pushIn.at? num = some x) (hd : data ≠ []) (h1 : x.dst ≤ off) (h2 : off + data.length ≤ x.dst + x.len)
    (hs : s.stalls 0 off data.length true = false) :
    execPushWriteLand num off data 0 s = .next ((s.pushLanded num off data).finishPushed num) := by
  have hin : ¬ (data.length = 0 || off < x.dst || x.dst + x.len < off + data.length) = true := by
    simp only [Bool.or_eq_true, decide_eq_true_eq, List.length_eq_zero_iff, not_or, Nat.not_lt]
    exact ⟨⟨hd, h1⟩, h2⟩
  unfold execPushWriteLand
  rw [hx]
  dsimp only
  rw [if_neg hin, if_neg (by decide), hs, if_neg Bool.false_ne_true]
  rfl

/-- Succeeding the operations of a list takes each of them that has not ended from every subscription. -/
theorem State.foldl_succeed_pushless {w : Nat × List (Nat × Nat)} {o : Op} (i : Nat) (hl : o.phase ≠ .ended)
    (l : List (Nat × List (Nat × Nat))) (s : State) (hs : s.op? w.1 = some o ∨ s.pushless i w.1) (hw : w ∈ l ∨ s.pushless i w.1) :
    (l.foldl (fun s v => s.succeed v.1) s).pushless i w.1 := by
  induction l generalizing s with
  | nil => exact hw.resolve_left List.not_mem_nil
  | cons v l ih =>
    rw [List.foldl_cons, State.succeed_eq]
    have hkept (h : s.pushless i w.1) : (s.endOp v.1 0 0).pushless i w.1 := (recedes_endOp ..).pushless h
    by_cases hv : v.1 = w.1
    · have hnone : (s.endOp v.1 0 0).pushless i w.1 := by
        rcases hs with ho | h
        · rw [hv]
          exact State.endOp_pushless i 0 0 ho hl
        · exact hkept h
      exact ih _ (.inr hnone) (.inr hnone)
    · refine ih _ (hs.imp (fun ho => by rw [State.endOp_op?_ne _ _ (Ne.symm hv)]; exact ho) hkept) ?_
      exact hw.imp (fun hm => (List.mem_cons.1 hm).resolve_left (fun he => hv (he ▸ rfl))) hkept

/-- Whether every byte of a waiting copy has landed. -/
def State.wholly (s : State) (x : PushIn) (w : Nat × List (Nat × Nat)) : Bool :=
  match s.op? w.1 with
  | some o => landedAll x w.2 o.desc 0 (copyBytes o.desc)
  | none => true

theorem State.finishPushed_eq {s : State} {i : Nat} {x : PushIn} (hx : s.fab.pushIn.at? i = some x) :
    s.finishPushed i = (x.waiting.filter (s.wholly x)).foldl (fun s w => s.succeed w.1) (s.withPushes
      (s.fab.pushIn.modify i (fun y => { y with waiting := y.waiting.filter (fun w => !s.wholly x w) }))) := by
  rw [State.finishPushed, hx]
  rfl

theorem State.finishPushed_mem (s : State) (i : Nat) : (s.finishPushed i).mem = s.mem := by
  rcases hx : s.fab.pushIn.at? i with _ | x
  · rw [State.finishPushed, hx]
  · rw [State.finishPushed_eq hx]
    exact (Apart.foldl (g := fun s (w : Nat × List (Nat × Nat)) => s.succeed w.1) (fun _ _ => apart_succeed ..) _ _).mem

/-- A waiting copy whose bytes have all landed waits no longer. -/
theorem State.finishPushed_pushless {s : State} {i : Nat} {x : PushIn} {w : Nat × List (Nat × Nat)} {o : Op}
    (hx : s.fab.pushIn.at? i = some x) (hw : w ∈ x.waiting) (ho : s.op? w.1 = some o) (hl : o.phase ≠ .ended)
    (hall : landedAll x w.2 o.desc 0 (copyBytes o.desc) = true) : (s.finishPushed i).pushless i w.1 := by
  have hwhole : s.wholly x w = true := by rw [State.wholly, ho]; exact hall
  rw [State.finishPushed_eq hx]
  exact State.foldl_succeed_pushless i hl _ _ (.inl ho) (.inl (List.mem_filter.2 ⟨hw, hwhole⟩))

/-! ### Timeouts -/

/-- The state whose subscription has an operation's copy waiting no longer. -/
def State.unwaiting (s : State) (i op : Nat) : State :=
  s.withPushes (s.fab.pushIn.modify i (fun x => { x with waiting := x.waiting.filter (fun v => v.1 ≠ op) }))

theorem State.unwaiting_pushless (s : State) (i op : Nat) : (s.unwaiting i op).pushless i op := by
  intro p hp hi v hv
  obtain ⟨q, -, hqp, hqf⟩ := Tab.mem_modify (t := s.fab.pushIn) (k := i)
    (f := fun x => { x with waiting := x.waiting.filter (fun v => v.1 ≠ op) }) hp
  rw [if_pos (hqp.trans hi)] at hqf
  rw [hqf] at hv
  simpa using (List.mem_filter.1 hv).2

theorem execPushTimeout_pulls {s : State} {op i : Nat} {x : PushIn} {w : Nat × List (Nat × Nat)}
    (hf : s.fab.pushIn.find? (fun p => p.2.waiting.any (fun w => w.1 = op)) = some (i, x))
    (hw : x.waiting.find? (fun w => w.1 = op) = some w) : execPushTimeout op s = .next ((s.unwaiting i op).pullCopy x op w.2) := by
  unfold execPushTimeout
  rw [hf]
  dsimp only
  rw [hw]
  rfl

/-- The segments of a waiting copy that have wholly landed. -/
def PushIn.landedSegs (x : PushIn) (landed : List (Nat × Nat)) (d : Nat) : List Nat :=
  (List.range (copySegments d)).filter (fun g => landedAll x landed d (4096 * g) (min 4096 (copyBytes d - 4096 * g)))

/-- The state with a waiting copy back in its queue, the given segments of it done. -/
def State.pulled (s : State) (x : PushIn) (id : Nat) (landed : List (Nat × Nat)) (segs : List Nat) : State :=
  s.modOp id (fun o => { o with
    push := false, phase := .queued, done := segs
    landed := landed.map (fun r => (x.landVa + (r.1 - x.dst), r.2)) })

theorem State.pullCopy_eq {s : State} {x : PushIn} {id : Nat} {o : Op} (landed : List (Nat × Nat)) (ho : s.op? id = some o) :
    s.pullCopy x id landed = if (x.landedSegs landed o.desc).length = copySegments o.desc
      then (s.pulled x id landed (x.landedSegs landed o.desc)).succeed id
      else (s.pulled x id landed (x.landedSegs landed o.desc)).activate o.engine 16 := by
  rw [State.pullCopy, ho]
  rfl

/-- A copy pulled: no byte of memory moves yet, no subscription gains a copy, and the segments that landed are done. -/
theorem State.pullCopy_facts {s : State} {x : PushIn} {id : Nat} {o : Op} (landed : List (Nat × Nat)) (ho : s.op? id = some o) :
    (s.pullCopy x id landed).mem = s.mem
      ∧ ((s.pullCopy x id landed).op? id).map Op.progress = some (false, x.landedSegs landed o.desc)
      ∧ ∀ i, s.pushless i id → (s.pullCopy x id landed).pushless i id := by
  have hrec (u : State) (hu : Recedes (s.pulled x id landed (x.landedSegs landed o.desc)) u)
      (hm : u.mem = (s.pulled x id landed (x.landedSegs landed o.desc)).mem) : u.mem = s.mem
        ∧ (u.op? id).map Op.progress = some (false, x.landedSegs landed o.desc)
        ∧ ∀ i, s.pushless i id → u.pushless i id := by
    refine ⟨hm, ?_, fun i hi => hu.pushless hi⟩
    rw [hu.ops id, State.pulled, State.modOp_op?_self, ho]
    rfl
  rw [State.pullCopy_eq landed ho]
  split
  · exact hrec _ (lifts_recedes.decide ..) (apart_succeed ..).mem
  · exact hrec _ (lifts_recedes.activate (fun s id => recedes_modOp s id _ fun _ => rfl) ..) (worksOn_activate ..).mem

end Sys2Proof.Machine
end

section
/-! O45, clause by clause. -/

namespace Sys2Proof.Machine

/-- MERE_BIND binds its handle and copies its device map into the mere area (R487, R488). -/
theorem mereBind_facts {s u : State} {op area slot : Nat} {o : Op} {bytes : List Byte} {mere : Nat} {m : Membership}
    (ho : s.op? op = some o) (hl : o.phase ≠ .ended)
    (hu : u = (s.withMap (area + 4096 * slot) bytes).withMere mere m) :
    (u.succeed op).fab.meres.at? mere = some m
      ∧ (∀ k, k ≠ mere → (u.succeed op).fab.meres.at? k = s.fab.meres.at? k)
      ∧ (s.work.sluices = [] → ((u.succeed op).op? op).map (fun x => (x.phase, x.status, x.detail)) = some (.ended, 0, 0))
      ∧ (s.freePlot (area + 4096 * slot) = true →
          (u.succeed op).mem.hbm = (s.landWrite 0 (area + 4096 * slot) bytes).mem.hbm) := by
  have hmeres : (s.withMap (area + 4096 * slot) bytes).fab.meres = s.fab.meres := by
    unfold State.withMap
    split
    · exact State.landWrite_meres ..
    · rfl
  subst hu
  rw [State.succeed_meres]
  refine ⟨Tab.at?_set_self .., fun k hk => ?_, fun hs => ?_, fun hf => ?_⟩
  · rw [← hmeres]
    exact Tab.at?_set_ne _ _ hk
  · refine (State.succeed_facts (o := o) ?_ hl).1
    have hw : (s.withMap (area + 4096 * slot) bytes).work = s.work := by
      unfold State.withMap
      split
      · exact (State.lands_landWrite _ _ _ hs).work
      · rfl
    show (s.withMap (area + 4096 * slot) bytes).work.ops.at? op = some o
    rw [hw]
    exact ho
  · rw [(apart_succeed ..).mem]
    have hmap : s.withMap (area + 4096 * slot) bytes = s.landWrite 0 (area + 4096 * slot) bytes := if_pos hf
    rw [hmap]
    rfl

/-- WINDOW_SET and WINDOW_CLEAR_DONE leave a table with one entry changed, and their operation ended. -/
theorem State.withWindows_ended {s : State} {op : Nat} {o : Op} (t : Tab Window) (d : Nat) (ho : s.op? op = some o)
    (hl : o.phase ≠ .ended) : ((s.withWindows t).decide op Status.success d).xlat.windows = t
      ∧ (((s.withWindows t).decide op Status.success d).op? op).map (fun x => (x.phase, x.status, x.detail)) = some (.ended, 0, d)
      ∧ ((s.withWindows t).decide op Status.success d).mem = s.mem := by
  have ho2 : (s.withWindows t).op? op = some o := ho
  have ha := apart_decide (s.withWindows t) op Status.success d
  refine ⟨by rw [ha.xlat]; rfl, ?_, ha.mem⟩
  rw [State.decide_op?_self _ _ ho2 hl]
  rfl

/-- A subscription the producer refuses is gone, and its operation ended with the reason (R501). -/
theorem State.decide_without_push {s : State} {op i : Nat} {o : Op} (st : Nat) (ho : s.op? op = some o) (hl : o.phase ≠ .ended) :
    ((s.withPushes (s.fab.pushIn.erase i)).decide op st 0).fab.pushIn.at? i = none
      ∧ (((s.withPushes (s.fab.pushIn.erase i)).decide op st 0).op? op).map (fun x => (x.phase, x.status, x.detail))
        = some (.ended, st, 0) := by
  have ho2 : (s.withPushes (s.fab.pushIn.erase i)).op? op = some o := ho
  refine ⟨(lifts_recedes.decide ..).at?_none (Tab.at?_erase_self ..), ?_⟩
  rw [State.decide_op?_self _ _ ho2 hl]
  rfl

/-- What a push write leaves: the bytes where they land, and no whole copy waiting (R502, R503). -/
theorem pushWriteLand_facts {s : State} {num off : Nat} {data : List Byte} {x : PushIn} (hx : s.fab.pushIn.at? num = some x)
    (hs : s.work.sluices = []) :
    ((s.pushLanded num off data).finishPushed num).mem.hbm = (s.landWrite 0 off data).mem.hbm
      ∧ ((s.pushLanded num off data).finishPushed num).mem.sram = s.mem.sram
      ∧ ∀ w ∈ x.waiting, ∀ o, s.op? w.1 = some o → o.phase ≠ .ended →
          landedAll x (w.2 ++ [(off, data.length)]) o.desc 0 (copyBytes o.desc) = true →
          ((s.pushLanded num off data).finishPushed num).pushless num w.1 := by
  have ht := loftTouched_loftTouchRange (s.landWrite 0 off data) off data.length .alloc
    (s.maskFor (((s.plotOf off).map (·.owner)).getD 0) off) true
  have hlands := (State.lands_landWrite 0 off data hs).trans ht.lands
  rw [State.finishPushed_mem]
  refine ⟨ht.hbm, hlands.sram, fun w hw o ho hl hall => ?_⟩
  have hy : (s.pushLanded num off data).fab.pushIn.at? num = some (x.seen off data.length) := by
    unfold State.pushLanded
    dsimp only [State.withPushes]
    rw [Tab.at?_modify_self, hlands.fab, hx, Option.map_some]
  refine State.finishPushed_pushless (w := (w.1, w.2 ++ [(off, data.length)])) hy (List.mem_map.2 ⟨w, hw, rfl⟩) ?_ hl hall
  show (s.pushLanded num off data).work.ops.at? w.1 = some o
  have hwork : (s.pushLanded num off data).work = s.work := hlands.work
  rw [hwork]
  exact ho

/-- Settles O45: requests and windows by what is served, memberships and windows as table updates, and subscriptions by
`Recedes`, since whatever ends or launches work only takes copies from them. -/
theorem mereCommandsTakeEffect : Obligations.MereCommandsTakeEffect := by
  refine ⟨remoteRequest_takesEffect, fun s src tag mere idx kind off data host poison sub => ⟨fun hw => ?_, fun w hw =>
    ⟨fun hbar => ?_, fun h0 hc hp hr hm hm0 => ⟨fun hb hk hrd h1 h2 hs0 hst => ?_, fun hb hk hrd => ?_, fun hb hk hwr => ?_⟩⟩⟩,
    fun s op o ho => ⟨fun hj => ?_, fun area slot hj hpond ha hf hr hw hpo hm0 hnew hd hslot => ?_⟩,
    fun s op o m ho hm h1 h2 h3 h4 h5 => ?_, fun s op o ho => ⟨fun hw => ?_, fun w i hw hi => ?_⟩,
    fun s op o w ho hw hc _ => ?_, fun s idx w o hw hc ho hl => ?_,
    fun s op r o ho => ⟨fun hj => ?_, fun dev src dst i hj hc hp hi => ?_⟩,
    fun s op i o x ho hc hr h0 hf hx hw => ⟨?_, ?_, ?_⟩, fun s op r o x ho hx hfn h0 hw hj => ?_,
    fun s op o ho hc hr => ?_, fun s src mere num off dst len sub hj => ⟨?_, fun m hm h0 htop hown hroom => ?_⟩,
    fun s num off data x hx hd h1 h2 hst hs => ?_, fun s op i x w o hf hw ho hl => ?_⟩
  · exact ⟨_, (exec_windowAccess ..).trans (execWindowAccess_unknown hw), rfl, rfl⟩
  · exact ⟨_, (exec_windowAccess ..).trans (execWindowAccess_barred hw (Window.bars_of kind hbar)), rfl, rfl⟩
  · subst hk
    have hb0 := Window.bars_eq_false (kind := 0) h0 hc hp hr hm hm0 hrd
    have hexec := (exec_windowAccess src tag mere idx 0 off data host poison sub s).trans (execWindowAccess_local hw hb0 hb h1 h2)
    rw [State.serveRead_pub hs0 hst] at hexec
    exact ⟨_, hexec, rfl, rfl⟩
  · subst hk
    have hb0 := Window.bars_eq_false (kind := 0) h0 hc hp hr hm hm0 hrd
    exact ⟨_, (exec_windowAccess ..).trans (execWindowAccess_host hw hb0 hb (.inl rfl)), rfl, rfl⟩
  · subst hk
    have hb1 := Window.bars_eq_false (kind := 1) h0 hc hp hr hm hm0 hwr
    exact ⟨_, (exec_windowAccess ..).trans (execWindowAccess_host hw hb1 hb (.inr rfl)), rfl, rfl⟩
  · exact (exec_mereBind ..).trans (execMereBind_unjoined ho hj)
  · obtain ⟨hop, -⟩ := State.go?_some ho
    have hl : o.phase ≠ .ended := by rw [State.phase_of_go? ho]; decide
    exact ⟨_, (exec_mereBind ..).trans (execMereBind_binds ho hj hpond ha hf hr hw hpo hm0 hnew hd hslot),
      mereBind_facts hop hl rfl⟩
  · obtain ⟨hop, -⟩ := State.go?_some ho
    have hl : o.phase ≠ .ended := by rw [State.phase_of_go? ho]; decide
    obtain ⟨hend, hmem, -⟩ := State.succeed_facts (s := s.withoutMere (fld o.desc 0x20 0 32)) hop hl
    refine ⟨_, (exec_mereUnbind ..).trans (execMereUnbind_unbinds ho hm h1 h2 h3 h4 h5), ?_, fun k hk => ?_, hend, hmem⟩
    · rw [State.succeed_meres]
      exact Tab.at?_erase_self ..
    · rw [State.succeed_meres]
      exact Tab.at?_erase_ne _ hk
  · exact (exec_windowSet ..).trans (execWindowSet_bad ho hw)
  · obtain ⟨hop, -⟩ := State.go?_some ho
    have hl : o.phase ≠ .ended := by rw [State.phase_of_go? ho]; decide
    obtain ⟨hwin, hend, hmem⟩ := State.withWindows_ended (s.xlat.windows.set i w) i hop hl
    refine ⟨_, (exec_windowSet ..).trans (execWindowSet_sets ho hw hi), ?_, fun k hk => ?_, hend, hmem⟩
    · rw [hwin]
      exact Tab.at?_set_self ..
    · rw [hwin]
      exact Tab.at?_set_ne _ _ hk
  · obtain ⟨hop, -⟩ := State.go?_some ho
    exact ⟨_, (exec_windowClear ..).trans (execWindowClear_clears ho hw hc), Tab.at?_set_self .., fun k hk => Tab.at?_set_ne _ _ hk,
      State.enqueue_start_phase (s := s.withWindows _) hop, rfl⟩
  · obtain ⟨hwin, hend, hmem⟩ := State.withWindows_ended (s.xlat.windows.erase idx) 0 ho hl
    refine ⟨_, (exec_windowClearDone ..).trans (execWindowClearDone_clears hw hc), ?_, fun k hk => ?_, hend, hmem⟩
    · rw [State.succeed, hwin]
      exact Tab.at?_erase_self ..
    · rw [State.succeed, hwin]
      exact Tab.at?_erase_ne _ hk
  · exact (exec_pushSubscribe ..).trans (execPushSubscribe_unjoined ho hj)
  · obtain ⟨hop, -⟩ := State.go?_some ho
    exact ⟨_, s.asked op o dev src dst, (exec_pushSubscribe ..).trans (execPushSubscribe_asks ho hj hc hp hi),
      Tab.at?_set_self .., rfl, rfl, rfl, rfl, rfl, rfl, rfl, fun k hk => Tab.at?_set_ne _ _ hk,
      State.enqueue_start_phase (s := (s.withPushes _).send _) hop, ⟨_, rfl, rfl, rfl, rfl, rfl⟩, rfl⟩
  · have hl : o.phase ≠ .ended := by rw [hr]; decide
    let u := s.withPushes (s.fab.pushIn.modify i (fun x => { x with op := 0 }))
    have hu : u.fab.pushIn.at? i = some { x with op := 0 } := by
      show Tab.at? (s.fab.pushIn.modify i (fun x => { x with op := 0 })) i = _
      rw [Tab.at?_modify_self, hx, Option.map_some]
    refine ⟨u.decide op Status.success i, (exec_pushSubscribe ..).trans (execPushSubscribe_recorded ho hc hr hf), ?_, ?_,
      (apart_decide ..).mem⟩
    · rw [State.decide_success i (show u.op? op = some o from ho) hl]
      exact State.endOp_pushIn i (show u.op? op = some o from ho) hl hu (Ne.symm h0) hw
    · exact congrArg (Option.map _) (State.decide_op?_self _ _ (show u.op? op = some o from ho) hl)
  · have hl : o.phase ≠ .ended := by rw [hr]; decide
    exact ⟨_, (exec_pushSubscribe ..).trans (execPushSubscribe_refused ho hc hr hf (.inl rfl)), State.decide_without_push _ ho hl⟩
  · have hl : o.phase ≠ .ended := by rw [hr]; decide
    exact ⟨_, (exec_pushSubscribe ..).trans (execPushSubscribe_refused ho hc hr hf (.inr rfl)), State.decide_without_push _ ho hl⟩
  · obtain ⟨hop, -⟩ := State.go?_some ho
    have htold := told_post (s.withPushes (s.fab.pushIn.erase (fld o.desc 0x20 0 8))) x.fn Event.pushEnded
      (fld o.desc 0x20 0 8 + 1 * 256)
    have hexec := (exec_pushCancel op r s).trans (execPushCancel_cancels ho hx hfn h0 hj)
    rw [State.endPush_eq hx hw] at hexec
    refine ⟨_, hexec, ?_, fun k hk => ?_, ⟨_, congrArg (fun w : WorkPart => w.sent ++ _) htold.work, rfl, rfl, rfl⟩,
      State.enqueue_start_phase ((htold.op? op).trans hop), htold.mem⟩
    · show (State.post _ _ _ _).fab.pushIn.at? _ = none
      rw [htold.fab]
      exact Tab.at?_erase_self ..
    · show (State.post _ _ _ _).fab.pushIn.at? _ = _
      rw [htold.fab]
      exact Tab.at?_erase_ne _ hk
  · exact (exec_pushCancel ..).trans (execPushCancel_done ho hc hr)
  · exact ⟨_, (exec_pushSubscribeAtProducer ..).trans (execPushSubscribeAtProducer_cancels src mere num off dst len sub hj),
      rfl, rfl, rfl⟩
  · exact ⟨_, (exec_pushSubscribeAtProducer ..).trans
      (execPushSubscribeAtProducer_records src num dst sub hj hm h0 htop hown hroom), rfl, rfl, rfl⟩
  · obtain ⟨hhbm, hsram, hwhole⟩ := pushWriteLand_facts (off := off) (data := data) hx hs
    refine ⟨_, (exec_pushWriteLand ..).trans (execPushWriteLand_lands hx hd h1 h2 hst), hhbm, hsram, fun w hw hall y hy => ?_⟩
    obtain ⟨o, ho, hl, hall⟩ := hall
    exact (hwhole w hw o ho hl hall).of_at? hy
  · obtain ⟨hmem, hprog, hnone⟩ := State.pullCopy_facts (s := s.unwaiting i op) (x := x) w.2 ho
    obtain ⟨a, ha, hap⟩ := Option.map_eq_some_iff.1 hprog
    refine ⟨_, (exec_pushTimeout ..).trans (execPushTimeout_pulls hf hw), hmem, ?_,
      fun y hy => (hnone i (s.unwaiting_pushless i op)).of_at? hy, fun d hd g hg => ?_⟩
    · rw [ha]
      exact congrArg (fun p => some p.1) hap
    · rw [ha] at hd
      have hdone : d = x.landedSegs w.2 o.desc := (Option.some.inj hd).symm.trans (congrArg (·.2) hap)
      subst hdone
      obtain ⟨-, hall⟩ := List.mem_filter.1 hg
      exact hall

end Sys2Proof.Machine
end

section
/-! Reduction groups (R238 to R249): what opening, running, contributing to and closing a group leave, and O35. -/

namespace Sys2Proof.Machine

/-! ### Groups and the ends of operations -/

/-- Ending work opens no group. -/
theorem lifts_nextGroup : Lifts (fun s t => t.eng.nextGroup = s.eng.nextGroup) := by
  refine ⟨fun _ _ _ h k => k.trans h, fun _ _ _ _ _ hg => hg, fun s id st d => ?_⟩
  rcases ho : s.op? id with _ | o
  · rw [State.endOp_of_none _ _ ho]
  · by_cases hl : o.phase = .ended
    · rw [State.endOp_of_ended _ _ ho hl]
    · rw [State.endOp_eq _ _ ho hl]
      split
      · rfl
      · obtain ⟨l, h⟩ := s.redCancels_eq id
        rw [h]
        rfl

/-- An operation that ends takes its run from every group. -/
theorem State.endOp_group {s : State} {id : Nat} {o : Op} (st d k : Nat) (ho : s.op? id = some o) (hl : o.phase ≠ .ended) :
    (s.endOp id st d).eng.groups.at? k = (s.eng.groups.at? k).map (dropRedRun id) := by
  have hgroups : (s.endOp id st d).eng.groups = s.eng.groups.map (fun p => (p.1, dropRedRun id p.2)) := by
    rw [State.endOp_eq _ _ ho hl]
    split
    · rfl
    · obtain ⟨l, h⟩ := s.redCancels_eq id
      rw [h]
      rfl
  rw [hgroups]
  exact Tab.at?_map _ (fun p : Nat × RedGroup => (p.1, dropRedRun id p.2)) (fun _ => rfl) k

theorem dropRedRun_idle {g : RedGroup} (id : Nat) (h : g.run = none) : dropRedRun id g = g := by rw [dropRedRun, h]

/-- A group but for its run. -/
def RedGroup.still (g : RedGroup) : RedGroup := { g with run := none }

theorem dropRedRun_still (id : Nat) (g : RedGroup) : (dropRedRun id g).still = g.still := by
  unfold dropRedRun
  split
  · split <;> rfl
  · rfl

theorem State.modGroup_at?_self (s : State) (k : Nat) (f : RedGroup → RedGroup) :
    (s.modGroup k f).eng.groups.at? k = (s.eng.groups.at? k).map f := Tab.at?_modify_self ..

theorem State.modRun_at?_self {s : State} {k : Nat} {g : RedGroup} {r : RedRun} (f : RedRun → RedRun)
    (hg : s.eng.groups.at? k = some g) (hr : g.run = some r) :
    (s.modRun k f).eng.groups.at? k = some { g with run := some (f r) } := by
  rw [State.modRun, State.modGroup_at?_self, hg, Option.map_some, hr, Option.map_some]

/-! ### Opening -/

theorem exec_redOpen (op : Nat) (ext : Ext) (s : State) : exec (.redOpen op ext) s = execRedOpen op ext s := rfl

theorem State.memberOk_map {s : State} {d : Nat} (pond i : Nat) (map : List Nat) (m : RedMember) (h : fld d 0x40 0 32 = 0) :
    s.memberOk d pond i map m = s.memberOk d pond i [] m := by
  unfold State.memberOk
  dsimp only
  rw [h]
  rfl

/-- The words of a member table. -/
def memberTable (bs : List Byte) (n : Nat) : List Nat := (List.range n).map (fun i => leNat ((bs.drop (64 * i)).take 64))

/-- RED_OPEN on a group of one device whose member table reads well. -/
theorem execRedOpen_opens {s : State} {op : Nat} {ext : Ext} {o : Op} {bs : List Byte} {ms : List RedMember}
    (ho : s.go? op 0x40 = some o) (hm : fld o.desc 0x40 0 32 = 0)
    (hb : s.readVa (s.newt o.fn o.ctx 0) ext (fld o.desc 0x38 0 55) (64 * fld o.desc 0x34 0 17) = .ok bs)
    (hp : (List.range (fld o.desc 0x34 0 17)).map (fun i => parseMember o.desc i
      (getAt 0 (memberTable bs (fld o.desc 0x34 0 17)) i)) = ms.map some)
    (hok : ∀ i m, ms[i]? = some m → s.memberOk o.desc o.pond i [] m = true)
    (hnew : s.redGroup? o.fn (fld o.desc 0x20 0 64) = none) :
    execRedOpen op ext s = .next (s.openGroup op o o.pond (memberTable bs (fld o.desc 0x34 0 17)) ms) := by
  have hlen : fld o.desc 0x34 0 17 = ms.length := by simpa using congrArg List.length hp
  unfold memberTable at hp ⊢
  unfold execRedOpen
  rw [ho]
  dsimp only
  rw [hb]
  dsimp only
  rw [hm, if_pos rfl, hp]
  split
  · next i hi =>
    have hbad := List.find?_some hi
    have hlt : i < ms.length := hlen ▸ List.mem_range.1 (List.mem_of_find?_eq_some hi)
    have hget : getAt none (ms.map some) i = some ms[i] := by simp [getAt, hlt]
    rw [hget] at hbad
    dsimp only at hbad
    rw [State.memberOk_map o.pond i _ _ hm, hok i _ (List.getElem?_eq_getElem hlt)] at hbad
    cases hbad
  · rw [hnew, if_neg (by decide), List.filterMap_map]
    simp

/-- The group an opening makes. -/
def openedGroup (o : Op) (pond : Nat) (table : List Nat) (ms : List RedMember) (slot : Option (Nat × Nat)) :
    RedGroup where
  fn := o.fn
  gid := fld o.desc 0x20 0 64
  pond := pond
  kind := fld o.desc 0x28 0 2
  fmt := fld o.desc 0x28 2 5
  elements := fld o.desc 0x30 0 32
  root := fld o.desc 0x44 0 17
  mere := 0
  timeoutUs := fld o.desc 0x2C 0 32
  members := ms
  flume := slot.isNone
  die := (slot.map (·.1)).getD 0
  slot := (slot.map (·.2)).getD 0
  ports := 0
  crc := crc64 (Config.groupBytes (groupWords o.desc table))
  run := none
  reason := if slot.isNone then Status.groupTableFull else 0

/-- A state with one more group open. -/
def State.withGroup (s : State) (g : RedGroup) : State :=
  { s with eng := { s.eng with groups := s.eng.groups.set s.eng.nextGroup g, nextGroup := s.eng.nextGroup + 1 } }

/-- The detail a slot is reported with. -/
def slotDetail : Option (Nat × Nat) → Nat
  | some x => x.1 * 64 + x.2
  | none => 0x10000

/-- The opening of a group of one device, by the slot it finds. -/
theorem State.openGroup_eq {s : State} {o : Op} {pond : Nat} {ms : List RedMember} {slot : Option (Nat × Nat)} (id : Nat)
    (table : List Nat) (hm : fld o.desc 0x40 0 32 = 0)
    (hslot : (if ((s.fn o.fn).groupMax ≠ 0 && (s.fn o.fn).groupMax
        ≤ (s.eng.groups.filter (fun p => p.2.fn = o.fn && !p.2.flume)).length) then none
      else s.groupSlot ((ms.filter s.isLocalMember).filterMap (s.memberDie (s.newt o.fn o.ctx 0) pond))) = slot) :
    s.openGroup id o pond table ms
      = if slot.isNone && 4096 ≤ s.flumeGroups then s.decide id Status.groupTableFull 0x10000
        else if slot.isNone && fld o.desc 0x28 7 1 = 0 then s.decide id Status.groupTableFull 0
        else (s.withGroup (openedGroup o pond table ms slot)).decide id Status.success (slotDetail slot) := by
  have hports : (fld o.desc 0x40 0 32 = 0 || ms.all s.isLocalMember) = true := by rw [hm]; rfl
  have hfree : s.portsFree 0 = true := by
    have hnone : maskBits 16 0 = [] := rfl
    rw [State.portsFree, hnone]
    rfl
  unfold State.openGroup
  dsimp only
  rw [if_pos hports, hfree, Bool.not_true, Bool.or_false, hslot, hm]
  split
  · rfl
  · split
    · rfl
    · cases slot <;> rfl

end Sys2Proof.Machine
end

section
/-! Runs, contributions and results of reduction groups (R242 to R249), and O35. -/

namespace Sys2Proof.Machine

/-! ### Runs -/

theorem exec_redRun (op : Nat) (s : State) : exec (.redRun op) s = execRedRun op s := rfl
theorem exec_redClose (op : Nat) (s : State) : exec (.redClose op) s = execRedClose op s := rfl
theorem exec_redTableCrc (f gid dev crc : Nat) (s : State) : exec (.redTableCrc f gid dev crc) s = execRedTableCrc f gid dev crc s :=
  rfl
theorem exec_redContribution (f gid gen c mask : Nat) (data : RedData) (ext : Ext) (s : State) :
    exec (.redContribution f gid gen c mask data ext) s = execRedContribution f gid gen c mask data ext s := rfl
theorem exec_redRunDone (op : Nat) (part : RedChunk) (ext : Ext) (s : State) :
    exec (.redRunDone op part ext) s = execRedRunDone op part ext s := rfl
theorem exec_redTimeout (op : Nat) (s : State) : exec (.redTimeout op) s = execRedTimeout op s := rfl
theorem exec_redCancel (f gid gen : Nat) (s : State) : exec (.redCancel f gid gen) s = execRedCancel f gid gen s := rfl

/-- A run that has just started. -/
def startedRun (id gen : Nat) (stops : List (Nat × Nat)) : RedRun :=
  { op := id, gen := gen, stops := stops, parts := [], sent := [], flags := 0 }

/-- With no CRC received there is nothing to differ from. -/
theorem State.compareCrcs_of_none {s : State} (k : Nat) (hc : s.eng.redCrcs = []) : s.compareCrcs k = s := by
  unfold State.compareCrcs
  split
  · rfl
  · split
    · rfl
    · refine if_neg ?_
      simp [State.crcOf, hc]

theorem State.takeHeld_of_none {s : State} (k f gid : Nat) (hh : s.eng.redHeld = []) : s.takeHeld k f gid = s := by
  have hsame : ({ s with eng := { s.eng with redHeld := [] } } : State) = s := by rw [← hh]
  rw [State.takeHeld, hh]
  exact hsame

/-- The message that tells another device the group's CRC. -/
def RedGroup.crcMsg (g : RedGroup) (d : Nat) : FabMsg :=
  { kind := .redCrc, dst := d, mere := g.mere, id := g.gid, args := [g.crc], data := [] }

/-- A state whose group runs. -/
def State.running (s : State) (id k : Nat) (r : RedRun) : State :=
  (s.start id).modGroup k (fun g => { g with run := some r, crcSent := true })

/-- A run of a group in slot mode starts, with no CRC and no contribution waiting (R244). -/
theorem State.startRed_eq {s : State} {g : RedGroup} {stops : List (Nat × Nat)} (id : Nat) (o : Op) (k : Nat)
    (hc : s.eng.redCrcs = []) (hh : s.eng.redHeld = []) (hf : g.flume = false) (hs : s.redStops g = .inr stops) :
    ∃ l, s.startRed id o k g = (s.running id k (startedRun id (fld o.desc 0x28 0 32) stops)).withSent l := by
  have hpull : ¬ (g.mere ≠ 0 && g.flume && s.isRedRoot g) = true := by rw [hf, Bool.and_false, Bool.false_and]; decide
  have hstart : s.startRed id o k g = ((if g.mere ≠ 0 && !g.crcSent
      then (s.otherDevices g).foldl (fun s d => s.send (g.crcMsg d)) (s.running id k (startedRun id (fld o.desc 0x28 0 32) stops))
      else s.running id k (startedRun id (fld o.desc 0x28 0 32) stops)).compareCrcs k).takeHeld k g.fn g.gid := by
    unfold State.startRed
    rw [hs]
    dsimp only
    rw [if_neg hpull]
    rfl
  obtain ⟨l, hl⟩ : ∃ l, (if g.mere ≠ 0 && !g.crcSent
      then (s.otherDevices g).foldl (fun s d => s.send (g.crcMsg d)) (s.running id k (startedRun id (fld o.desc 0x28 0 32) stops))
      else s.running id k (startedRun id (fld o.desc 0x28 0 32) stops))
        = (s.running id k (startedRun id (fld o.desc 0x28 0 32) stops)).withSent l := by
    split
    · exact State.foldl_withSent (g := fun (s : State) d => s.send (g.crcMsg d)) (fun s d => s.send_eq _) _ _
    · exact ⟨s.work.sent, rfl⟩
  refine ⟨l, ?_⟩
  rw [hstart, hl, State.compareCrcs_of_none k (by exact hc), State.takeHeld_of_none k _ _ (by exact hh)]

/-- RED_RUN with no run of its group before it starts at once (R244). -/
theorem execRedRun_starts {s : State} {op k : Nat} {o : Op} {g : RedGroup} (ho : s.go? op 0x41 = some o)
    (hk : s.redGroup? o.fn (fld o.desc 0x20 0 64) = some (k, g)) (hr : g.run = none) (hf : g.flume = false)
    (hq : ∀ p, p ∈ s.work.ops → p.1 ≠ op → p.2.opcode = 0x41 → p.2.phase ≠ .queued) :
    execRedRun op s = .next ((s.enqueue op).startRed op o k g) := by
  unfold execRedRun
  rw [ho]
  dsimp only
  rw [hk]
  dsimp only
  rw [if_pos (State.phase_of_go? ho), hr, State.headRun, hf]
  refine if_neg ?_
  rw [Option.isSome_none, Bool.false_or]
  refine Bool.eq_false_iff.1 (List.any_eq_false.2 fun p hp hbad => ?_)
  simp only [Bool.and_eq_true, decide_eq_true_eq] at hbad
  obtain ⟨⟨⟨⟨⟨hne, hcode⟩, -⟩, hphase⟩, -⟩, -⟩ := hbad
  exact hq p hp hne hcode hphase

theorem execRedClose_closes {s : State} {op k : Nat} {o : Op} {g : RedGroup} (ho : s.go? op 0x42 = some o)
    (hk : s.redGroup? o.fn (fld o.desc 0x20 0 64) = some (k, g))
    (hq : ∀ p, p ∈ s.work.ops → p.2.opcode = 0x41 → p.2.phase ≠ .queued ∧ p.2.phase ≠ .running) :
    execRedClose op s = .next (({ s with eng := { s.eng with
      groups := s.eng.groups.erase k
      redCrcs := s.eng.redCrcs.filter (fun x => !(x.1 = g.fn && x.2.1 = g.gid)) } }).succeed op) := by
  unfold execRedClose
  rw [ho]
  dsimp only
  rw [hk]
  refine if_neg (Bool.eq_false_iff.1 (List.any_eq_false.2 fun p hp hbad => ?_))
  simp only [Bool.and_eq_true, Bool.or_eq_true, decide_eq_true_eq] at hbad
  obtain ⟨⟨⟨hcode, -⟩, -⟩, hphase⟩ := hbad
  obtain ⟨h1, h2⟩ := hq p hp hcode
  exact hphase.elim h1 h2

/-! ### CRCs of other devices -/

/-- A state with the CRCs received. -/
def State.withCrc (s : State) (f gid dev crc : Nat) : State :=
  { s with eng := { s.eng with
    redCrcs := (f, gid, dev, crc) :: s.eng.redCrcs.filter (fun x => !(x.1 = f && x.2.1 = gid && x.2.2.1 = dev)) } }

theorem execRedTableCrc_unknown {s : State} {f gid : Nat} (dev crc : Nat) (h : s.redGroup? f gid = none) :
    execRedTableCrc f gid dev crc s = .next (s.withCrc f gid dev crc) := by
  have h2 : (s.withCrc f gid dev crc).redGroup? f gid = none := h
  unfold execRedTableCrc
  dsimp only
  unfold State.withCrc at h2 ⊢
  rw [h2]

theorem execRedTableCrc_compares {s : State} {f gid k : Nat} {g : RedGroup} (dev crc : Nat) (h : s.redGroup? f gid = some (k, g)) :
    execRedTableCrc f gid dev crc s = .next ((s.withCrc f gid dev crc).compareCrcs k) := by
  have h2 : (s.withCrc f gid dev crc).redGroup? f gid = some (k, g) := h
  unfold execRedTableCrc
  dsimp only
  unfold State.withCrc at h2 ⊢
  rw [h2]

/-- A CRC that differs ends the group's run (R242). -/
theorem State.compareCrcs_differs {s : State} {k dev crc : Nat} {g : RedGroup} {r : RedRun} (hg : s.eng.groups.at? k = some g)
    (hr : g.run = some r) (hd : dev ∈ s.otherDevices g) (hc : s.crcOf g dev = some crc) (hne : crc ≠ g.crc) :
    s.compareCrcs k = s.decide r.op Status.groupMismatch 0 := by
  rw [State.compareCrcs, hg]
  dsimp only
  rw [hr]
  refine if_pos (List.any_eq_true.2 ⟨dev, hd, ?_⟩)
  rw [hc]
  exact decide_eq_true hne

/-! ### Contributions -/

/-- A state with a contribution that waits for its group. -/
def State.holding (s : State) (x : RedHeld) : State := { s with eng := { s.eng with redHeld := s.eng.redHeld ++ [x] } }

theorem execRedContribution_waits {s : State} {f gid : Nat} (gen c mask : Nat) (data : RedData) (ext : Ext)
    (h : s.redGroup? f gid = none) : execRedContribution f gid gen c mask data ext s = .next (s.holding
      { fn := f, gid, gen, chunk := c, mask, flags := data.flags % 8, data := data.bytes }) := by
  unfold execRedContribution
  dsimp only
  rw [h]
  rfl

theorem lowBit_two_pow {n i : Nat} (h : i < n) : lowBit n (2 ^ i) = i := by
  have hfind : (List.range n).find? (fun j => (2 ^ i).testBit j) = some i := by
    rw [List.find?_range_eq_some]
    exact ⟨by simp, List.mem_range.2 h, fun j hj => by simp [Nat.ne_of_gt hj]⟩
  rw [lowBit, maskBits, List.head?_filter, hfind]
  rfl

/-- A contribution none of whose members is there yet is added to the run. -/
theorem State.addPart_at? {s : State} {k : Nat} {g : RedGroup} {r : RedRun} {p : Partial} (flags : Nat)
    (hg : s.eng.groups.at? k = some g) (hr : g.run = some r)
    (hnew : r.parts.any (fun x => x.chunk = p.chunk && x.mask &&& p.mask ≠ 0) = false) :
    (s.addPart k p flags).eng.groups.at? k
      = some { g with run := some { r with parts := r.parts ++ [p], flags := r.flags ||| flags } } := by
  rw [State.addPart, State.modRun_at?_self _ hg hr, if_neg (Bool.eq_false_iff.1 hnew)]

/-- A member whose contribution is missing shares no bit with the parts of the chunk. -/
theorem RedRun.any_of_has {r : RedRun} {c i : Nat} (h : r.has c i = false) :
    r.parts.any (fun x => x.chunk = c && x.mask &&& 2 ^ i ≠ 0) = false := by
  refine List.any_eq_false.2 fun x hx hbad => ?_
  refine List.any_eq_false.1 h x hx ?_
  simp only [Bool.and_eq_true, decide_eq_true_eq, Nat.and_two_pow] at hbad ⊢
  refine ⟨hbad.1, ?_⟩
  rcases hb : x.mask.testBit i with _ | _
  · rw [hb] at hbad
    simp at hbad
  · exact hb

theorem State.isRedRoot_congr {s t : State} (h : t.fab = s.fab) (g : RedGroup) : t.isRedRoot g = s.isRedRoot g := by
  have hlocal : t.isLocalMember = s.isLocalMember := funext fun m => by rw [State.isLocalMember, State.isLocalMember, h]
  rw [State.isRedRoot, State.isRedRoot, hlocal]

/-- The device of member 0 sends no sums on. -/
theorem State.forwardRed_root {s : State} {k : Nat} {g : RedGroup} (c : Nat) (hg : s.eng.groups.at? k = some g)
    (hroot : s.isRedRoot g = true) : s.forwardRed k c = s := by
  rw [State.forwardRed, hg]
  dsimp only
  split
  · rfl
  · refine if_pos ?_
    rw [hroot, Bool.true_or, Bool.true_or]

/-- The state after a member's contribution to a chunk has been read. -/
def State.memberRead (s : State) (ext : Ext) (g : RedGroup) (r : RedRun) (o : Op) (c : Nat) (m : RedMember) : State :=
  (if m.loc = 0 then s.touchReads (s.agent r.op o g.die 0)
      [(m.addr o m.src + (redBytes g.fmt (1024 * c)).1, (redBytes g.fmt (g.chunkLen c)).1),
        (m.addr o m.srcTag + (redBytes g.fmt (1024 * c)).2, (redBytes g.fmt (g.chunkLen c)).2)]
    else s).noteLatencies o.pond ext.lats

theorem readsOf_memberRead (s : State) (ext : Ext) (g : RedGroup) (r : RedRun) (o : Op) (c : Nat) (m : RedMember) :
    ReadsOf s (s.memberRead ext g r o c m) := by
  refine ReadsOf.trans ?_ (readsOf_noteLatencies ..)
  split
  · exact readsOf_touchReads ..
  · exact .refl _

/-- A contribution of a local member read and added (R244, R245). -/
theorem execRedContribution_adds {s : State} {f gid k c i : Nat} {data : RedData} {ext : Ext} {g : RedGroup} {m : RedMember}
    {r : RedRun} {o : Op} {cells : List Cell} (hk : s.redGroup? f gid = some (k, g)) (hm : g.members[i]? = some m)
    (hr : g.run = some r) (hl : s.isLocalMember m = true) (ho : s.op? r.op = some o) (hc : c < g.chunks)
    (hhas : r.has c i = false) (hread : s.readMember (s.agent r.op o g.die 0) ext g r o i c m = .ok cells) :
    ∃ v, (v = (s.memberRead ext g r o c m).addPart k { chunk := c, mask := 2 ^ i, cells } (redNan cells)
        ∨ ∃ e h w n, v = ((s.memberRead ext g r o c m).addPart k { chunk := c, mask := 2 ^ i, cells } (redNan cells)).serve e h w n)
      ∧ execRedContribution f gid r.gen c (2 ^ i) data ext s = .next (v.forwardRed k c) := by
  have hi : i < g.members.length := (List.getElem?_eq_some_iff.1 hm).1
  have hfits : ¬ (r.gen ≠ r.gen || 2 ^ i ≠ 2 ^ i || g.chunks ≤ c || r.has c i) = true := by
    rw [hhas]
    simpa using hc
  unfold execRedContribution
  dsimp only
  rw [hk]
  dsimp only
  rw [lowBit_two_pow hi, hm]
  dsimp only
  rw [hl, Bool.not_true, if_neg Bool.false_ne_true, hr]
  dsimp only
  rw [ho]
  dsimp only
  rw [if_neg hfits, hread]
  refine ⟨_, ?_, rfl⟩
  split
  · exact .inr ⟨_, _, _, _, rfl⟩
  · exact .inl rfl

/-- A contribution of another device is offered to the group's run. -/
theorem execRedContribution_remote {s : State} {f gid gen k c mask : Nat} {data : RedData} {ext : Ext} {g : RedGroup}
    {m : RedMember} {r : RedRun} (hk : s.redGroup? f gid = some (k, g))
    (hm : g.members[lowBit g.members.length mask]? = some m) (hr : g.run = some r) (hl : s.isLocalMember m = false)
    (hp : ext.poison = false) : execRedContribution f gid gen c mask data ext s = .next (s.takeRemote k
      { fn := f, gid, gen, chunk := c, mask, flags := data.flags % 8, data := data.bytes }) := by
  unfold execRedContribution
  dsimp only
  rw [hk]
  dsimp only
  rw [hm]
  dsimp only
  rw [hl, Bool.not_false, if_pos rfl, hr]
  dsimp only
  rw [hp, Bool.false_and]
  exact if_neg (by decide)

theorem State.takeRemote_adds {s : State} {k : Nat} {g : RedGroup} {r : RedRun} {x : RedHeld} (hg : s.eng.groups.at? k = some g)
    (hr : g.run = some r) (hgen : x.gen = r.gen) (hroot : s.isRedRoot g = true) (hc : x.chunk < g.chunks) (hm0 : x.mask ≠ 0)
    (hm : x.mask < 2 ^ g.members.length) (ht : g.fmt = 0x10 ∨ isSubtree g.members.length x.mask = true) :
    s.takeRemote k x = s.addPart k { chunk := x.chunk, mask := x.mask, cells := wireCells g.fmt (g.chunkLen x.chunk) x.data }
      x.flags := by
  have hfits : ¬ (g.chunks ≤ x.chunk || x.mask = 0 || 2 ^ g.members.length ≤ x.mask
      || (g.fmt ≠ 0x10 && !isSubtree g.members.length x.mask)) = true := by
    simp only [Bool.or_eq_true, Bool.and_eq_true, decide_eq_true_eq, Bool.not_eq_true', not_or, not_and, Bool.not_eq_false]
    exact ⟨⟨⟨Nat.not_le.2 hc, hm0⟩, Nat.not_le.2 hm⟩, fun h => ht.resolve_left h⟩
  rw [State.takeRemote, hg]
  dsimp only
  rw [hr]
  dsimp only
  rw [if_pos hgen, if_neg hfits, if_pos hroot]

/-! ### Results -/

section
variable {s : State} {op k c fl : Nat} {data : List Byte} {ext : Ext} {g : RedGroup} {r : RedRun} {o : Op}

/-- A run that awaits no more chunk of that number is settled. -/
theorem execRedRunDone_settles (hk : s.redGroupOf op = some (k, g, r)) (ho : s.op? op = some o) (hm : s.crcsMatch g = true)
    (hsent : s.isRedRoot g = false → (List.range g.chunks).all r.sent.contains = true) (hn : (s.redNeeds g).contains c = false) :
    execRedRunDone op ⟨c, fl, data⟩ ext s = .next (s.settleRed op k) := by
  have hready : ¬ (!s.isRedRoot g && !(List.range g.chunks).all r.sent.contains) = true := by
    rcases hroot : s.isRedRoot g with _ | _
    · rw [hsent hroot]
      decide
    · simp
  unfold execRedRunDone
  dsimp only
  rw [hk, ho]
  dsimp only
  rw [hm, Bool.not_true, if_neg Bool.false_ne_true, if_neg hready]
  exact if_pos (by rw [hn]; simp)

/-- The chunk member 0's device holds complete is sent on, and written here (R246). -/
theorem execRedRunDone_root {cells : List Cell} {fl' : Nat} {s1 : State} (hk : s.redGroupOf op = some (k, g, r))
    (ho : s.op? op = some o) (hm : s.crcsMatch g = true) (hc : c < g.chunks) (hout : r.out.any (fun x => x.1 = c) = false)
    (hroot : s.isRedRoot g = true) (hall : r.complete g = true) (htot : r.total g.fmt c g.members.length = some (cells, fl'))
    (hd : s.deliverRed op k o g r ext c cells fl' = .ok s1) :
    ∃ u, execRedRunDone op ⟨c, fl, data⟩ ext s = .next (u.settleRed op k) ∧ (∃ l, u = s1.withSent l)
      ∧ (s.otherDevices g = [] → u = s1) := by
  have hneeds : (s.redNeeds g).contains c = true := by
    rw [List.contains_iff_mem]
    exact List.mem_filter.2 ⟨List.mem_range.2 hc, by rw [hroot]; rfl⟩
  have hopen : ¬ (g.chunks ≤ c || r.out.any (fun x => x.1 = c) || !(s.redNeeds g).contains c) = true := by
    rw [hout, hneeds]
    simpa using hc
  unfold execRedRunDone
  dsimp only
  rw [hk, ho]
  dsimp only
  rw [hm, Bool.not_true, if_neg Bool.false_ne_true, if_neg (by simp [hroot]), if_neg hopen, if_pos hroot, if_pos hall, htot]
  dsimp only
  rw [hd]
  dsimp only
  rw [if_pos hroot]
  exact ⟨_, rfl, State.foldl_withSent (fun s d => s.send_eq _) _ _, fun h => by rw [h]; rfl⟩

/-- The chunk that arrived at another device is written there (R246). -/
theorem execRedRunDone_other {s1 : State} (hk : s.redGroupOf op = some (k, g, r)) (ho : s.op? op = some o)
    (hm : s.crcsMatch g = true) (hc : c < g.chunks) (hout : r.out.any (fun x => x.1 = c) = false) (hroot : s.isRedRoot g = false)
    (hsent : (List.range g.chunks).all r.sent.contains = true) (hneeds : (s.redNeeds g).contains c = true)
    (hlen : data.length = g.chunkLen c * wireSize g.fmt)
    (hd : s.deliverRed op k o g r ext c (wireCells g.fmt (g.chunkLen c) data) (fl % 8) = .ok s1) :
    execRedRunDone op ⟨c, fl, data⟩ ext s = .next (s1.settleRed op k) := by
  have hopen : ¬ (g.chunks ≤ c || r.out.any (fun x => x.1 = c) || !(s.redNeeds g).contains c) = true := by
    rw [hout, hneeds]
    simpa using hc
  unfold execRedRunDone
  dsimp only
  rw [hk, ho]
  dsimp only
  rw [hm, Bool.not_true, if_neg Bool.false_ne_true, if_neg (by rw [hsent, Bool.not_true, Bool.and_false]; decide), if_neg hopen,
    if_neg (by rw [hroot]; decide), if_neg (not_not.2 hlen)]
  dsimp only
  rw [hd]
  dsimp only
  rw [if_neg (by rw [hroot]; decide)]
  rfl

/-- A run in slot mode with every chunk it awaits delivered ends (R75). -/
theorem State.settleRed_eq (hg : s.eng.groups.at? k = some g) (hr : g.run = some r) (hf : g.flume = false)
    (hall : (s.redNeeds g).all (fun c => r.out.any (fun x => x.1 = c)) = true) :
    s.settleRed op k = if r.ovf = 0 then (s.addFlags op r.flags).succeed op
      else (s.addFlags op r.flags).decide op Status.quernOverflow r.ovf := by
  rw [State.settleRed, hg]
  dsimp only
  rw [hr]
  dsimp only
  rw [if_pos hall, hf, if_neg Bool.false_ne_true, ite_not]

theorem execRedTimeout_ends (hk : s.redGroupOf op = some (k, g, r)) (hout : r.out = [])
    (h : s.isRedRoot g = false ∨ s.crcsMatch g = false ∨ r.complete g = false) :
    execRedTimeout op s = .next (s.decide op Status.groupTimeout 0) := by
  unfold execRedTimeout
  rw [hk]
  refine if_neg ?_
  rw [hout]
  rcases h with h | h | h <;> simp [h]

end

end Sys2Proof.Machine
end

section
/-! O35, clause by clause. -/

namespace Sys2Proof.Machine

/-- An opened group stands in its slot when its RED_OPEN has succeeded. -/
theorem State.withGroup_opened {s : State} {op : Nat} {o : Op} {g : RedGroup} (d : Nat) (ho : s.op? op = some o)
    (hl : o.phase ≠ .ended) (hg : g.run = none) :
    ((s.withGroup g).decide op Status.success d).eng.groups.at? s.eng.nextGroup = some g
      ∧ ((s.withGroup g).decide op Status.success d).eng.nextGroup = s.eng.nextGroup + 1
      ∧ (((s.withGroup g).decide op Status.success d).op? op).map (fun y => (y.phase, y.status, y.detail)) = some (.ended, 0, d)
      ∧ ((s.withGroup g).decide op Status.success d).mem = s.mem := by
  have ho2 : (s.withGroup g).op? op = some o := ho
  refine ⟨?_, lifts_nextGroup.decide .., ?_, (apart_decide ..).mem⟩
  · rw [State.decide_success d ho2 hl, State.endOp_group _ _ _ ho2 hl]
    show (Tab.at? (s.eng.groups.set s.eng.nextGroup g) s.eng.nextGroup).map _ = _
    rw [Tab.at?_set_self, Option.map_some, dropRedRun_idle op hg]
  · rw [State.decide_op?_self _ _ ho2 hl]
    rfl

/-- With no slot free a group opens in Flume mode, where that is asked for and its table has room (R248). -/
theorem openGroup_full {s : State} {op pond : Nat} {o : Op} {table : List Nat} {ms : List RedMember} (ho : s.op? op = some o)
    (hl : o.phase ≠ .ended) (hm : fld o.desc 0x40 0 32 = 0)
    (hslot : s.groupSlot ((ms.filter s.isLocalMember).filterMap (s.memberDie (s.newt o.fn o.ctx 0) pond)) = none) :
    ((s.openGroup op o pond table ms).op? op).map (fun y => (y.phase, y.status, y.detail))
        = some (if 4096 ≤ s.flumeGroups then (.ended, Status.groupTableFull, 0x10000)
                else if fld o.desc 0x28 7 1 = 0 then (.ended, Status.groupTableFull, 0) else (.ended, 0, 0x10000))
      ∧ (s.openGroup op o pond table ms).eng.nextGroup
          = s.eng.nextGroup + (if s.flumeGroups < 4096 ∧ fld o.desc 0x28 7 1 ≠ 0 then 1 else 0) := by
  rw [State.openGroup_eq (slot := none) op table hm (by rw [hslot, ite_self])]
  by_cases hfull : 4096 ≤ s.flumeGroups
  · rw [if_pos (by simpa using hfull), if_pos hfull, if_neg (fun h => Nat.not_le.2 h.1 hfull), State.decide_op?_self _ _ ho hl]
    exact ⟨rfl, lifts_nextGroup.decide ..⟩
  · rw [if_neg (by simpa using hfull), if_neg hfull]
    by_cases hask : fld o.desc 0x28 7 1 = 0
    · rw [if_pos (by simpa using hask), if_pos hask, if_neg (fun h => h.2 hask), State.decide_op?_self _ _ ho hl]
      exact ⟨rfl, lifts_nextGroup.decide ..⟩
    · obtain ⟨-, hnext, hend, -⟩ := State.withGroup_opened (g := openedGroup o pond table ms none) 0x10000 ho hl rfl
      rw [if_neg (by simpa using hask), if_neg hask, if_pos ⟨Nat.not_le.1 hfull, hask⟩]
      exact ⟨hend, hnext⟩

/-- Settles O35: each command is one of the equations above, and a run leaves its group where its operation ends. -/
theorem reductionCommandsTakeEffect : Obligations.ReductionCommandsTakeEffect := by
  refine ⟨fun s op ext o bs ms x ho hm hb hp hok hnew hcap hslot => ?_, fun s op pond o table ms ho hl hm hslot => ?_,
    fun s op k o g stops ho hk hg hr hf hc hh hq hs => ?_, fun s op k o g ho hk hq => ?_,
    fun s f gid dev crc => ⟨fun hk => ?_, fun k g r o hk hg hfn hgid hr ho hl hd hne => ?_⟩,
    fun s f gid gen c mask fl data ext hk => ?_,
    fun s f gid k c i fl data ext g m r o cells hk hg hm hr hroot hl ho hc hhas hread => ?_,
    fun s f gid k c mask fl data ext g m r hk hg hm hr hroot hl hp hc hm0 hmask ht hnew => ?_,
    fun s s1 op k c fl fl' data ext g r o cells hk ho hm hc hout => ⟨fun hroot hall htot hd => ?_,
      fun hroot hsent hneeds hlen hd => ?_, fun hroot hsent hneeds hg hr hf hovf => ?_⟩,
    fun s id k g r hg hr hf hall => State.settleRed_eq hg hr hf hall,
    fun s op k g r hk hout h => (exec_redTimeout ..).trans (execRedTimeout_ends hk hout h), fun s f gid gen id hlive => ?_⟩
  · obtain ⟨hop, -⟩ := State.go?_some ho
    have hl : o.phase ≠ .ended := by rw [State.phase_of_go? ho]; decide
    have hopen := State.openGroup_eq (s := s) (slot := some x) op (memberTable bs (fld o.desc 0x34 0 17)) hm
      (by rw [hcap]; exact hslot)
    have hexec := (exec_redOpen op ext s).trans (execRedOpen_opens ho hm hb hp hok hnew)
    rw [hopen] at hexec
    obtain ⟨hgroup, hnext, hend, hmem⟩ := State.withGroup_opened
      (g := openedGroup o o.pond (memberTable bs (fld o.desc 0x34 0 17)) ms (some x)) (slotDetail (some x)) hop hl rfl
    exact ⟨_, _, hexec, hgroup, hnext, rfl, rfl, rfl, rfl, rfl, rfl, rfl, rfl, rfl, rfl, rfl, hend, hmem⟩
  · exact openGroup_full ho hl hm hslot
  · obtain ⟨hop, -⟩ := State.go?_some ho
    obtain ⟨l, hl⟩ := State.startRed_eq (s := s.enqueue op) op o k (g := g) hc hh hf (show (s.enqueue op).redStops g = _ from hs)
    refine ⟨_, startedRun op (fld o.desc 0x28 0 32) stops,
      ((exec_redRun ..).trans (execRedRun_starts ho hk hr hf hq)).trans (congrArg _ hl), ?_, rfl, rfl, rfl, rfl, rfl, ?_, rfl, rfl⟩
    · refine (State.modGroup_at?_self ..).trans ?_
      show Option.map _ (s.eng.groups.at? k) = _
      rw [hg, Option.map_some]
    · exact State.enqueue_start_phase hop
  · obtain ⟨hop, -⟩ := State.go?_some ho
    have hl : o.phase ≠ .ended := by rw [State.phase_of_go? ho]; decide
    have hexec := (exec_redClose op s).trans (execRedClose_closes ho hk hq)
    refine ⟨_, hexec, ?_⟩
    generalize hu : ({ s with eng := { s.eng with
      groups := s.eng.groups.erase k
      redCrcs := s.eng.redCrcs.filter (fun x => !(x.1 = g.fn && x.2.1 = g.gid)) } } : State) = u
    have huo : u.op? op = some o := by rw [← hu]; exact hop
    have hug : u.eng.groups = s.eng.groups.erase k := by rw [← hu]
    have hum : u.mem = s.mem := by rw [← hu]
    obtain ⟨hend, hmem, -⟩ := State.succeed_ended huo hl
    rw [State.succeed_eq] at hend hmem ⊢
    refine ⟨?_, fun j hj => ?_, hend, hmem.trans hum⟩
    · rw [State.endOp_group _ _ _ huo hl, hug, Tab.at?_erase_self, Option.map_none]
    · rw [State.endOp_group _ _ _ huo hl, hug, Tab.at?_erase_ne _ hj, Option.map_map]
      exact congrArg (fun f => Option.map f (s.eng.groups.at? j)) (funext (dropRedRun_still op))
  · exact ⟨_, (exec_redTableCrc ..).trans (execRedTableCrc_unknown dev crc hk), rfl, rfl, rfl⟩
  · have hcrc : (s.withCrc f gid dev crc).crcOf g dev = some crc := by
      simp [State.crcOf, State.withCrc, hfn, hgid]
    have hcmp := State.compareCrcs_differs (s := s.withCrc f gid dev crc) hg hr hd hcrc hne
    refine ⟨_, ((exec_redTableCrc ..).trans (execRedTableCrc_compares dev crc hk)).trans (congrArg _ hcmp), ?_⟩
    rw [State.decide_op?_self _ _ (show (s.withCrc f gid dev crc).op? r.op = some o from ho) hl]
    rfl
  · exact ⟨_, (exec_redContribution ..).trans (execRedContribution_waits gen c mask ⟨fl, data⟩ ext hk), rfl, rfl, rfl⟩
  · obtain ⟨v, hv, hexec⟩ := execRedContribution_adds (data := ⟨fl, data⟩) hk hm hr hl ho hc hhas hread
    have hread := readsOf_memberRead s ext g r o c m
    generalize s.memberRead ext g r o c m = u at hv hread
    obtain ⟨x, w, lo, cl, ps, rfl⟩ := hread
    have hadd := State.addPart_at? (p := { chunk := c, mask := 2 ^ i, cells }) (redNan cells)
      (s := { s with xlat := x, weir := w, mem := { s.mem with loft := lo, loftClock := cl, ponds := ps } }) hg hr
      (RedRun.any_of_has hhas)
    have hfacts : v.eng.groups.at? k = some { g with run := some { r with
        parts := r.parts ++ [{ chunk := c, mask := 2 ^ i, cells }], flags := r.flags ||| redNan cells } }
        ∧ v.mem.hbm = s.mem.hbm ∧ v.mem.sram = s.mem.sram ∧ v.fab = s.fab := by
      rcases hv with rfl | ⟨_, _, _, _, rfl⟩
      · exact ⟨hadd, rfl, rfl, rfl⟩
      · exact ⟨hadd, rfl, rfl, rfl⟩
    obtain ⟨hvg, hhbm, hsram, hfab⟩ := hfacts
    rw [State.forwardRed_root c hvg ((State.isRedRoot_congr hfab _).trans hroot)] at hexec
    exact ⟨v, (exec_redContribution ..).trans hexec, hvg, hhbm, hsram⟩
  · have htake := State.takeRemote_adds (x := { fn := f, gid, gen := r.gen, chunk := c, mask, flags := fl % 8, data }) hg hr rfl
      hroot hc hm0 hmask ht
    exact ⟨_, ((exec_redContribution ..).trans (execRedContribution_remote hk hm hr hl hp)).trans (congrArg _ htake),
      State.addPart_at? _ hg hr hnew, rfl⟩
  · obtain ⟨u, hexec, ⟨l, hu⟩, halone⟩ := execRedRunDone_root (fl := fl) (data := data) hk ho hm hc hout hroot hall htot hd
    subst hu
    exact ⟨_, (exec_redRunDone ..).trans hexec, rfl, rfl, rfl, rfl, halone⟩
  · exact (exec_redRunDone ..).trans (execRedRunDone_other hk ho hm hc hout hroot hsent hneeds hlen hd)
  · refine ((exec_redRunDone ..).trans (execRedRunDone_settles hk ho hm (fun _ => hsent) (by rw [hneeds]; rfl))).trans
      (congrArg _ ?_)
    rw [State.settleRed_eq hg hr hf (by rw [hneeds]; rfl), if_pos hovf]
  · refine (exec_redCancel ..).trans ?_
    rw [execRedCancel, hlive]
    rfl

end Sys2Proof.Machine
end
